-- ==== Sys2Proof/Word.lean ====
section
/-!
DEFINITION. The plain word types of the controller: bytes, 32-bit register words and 64-bit platform time.
Everything in registers, descriptors, records, flash and the Plan image is little-endian (R5 and the
conventions of 00_scope.md).
-/

namespace Sys2Proof

/-- One byte of a register, descriptor, record, host memory or flash. -/
abbrev Byte := BitVec 8

/-- One BAR0 register. -/
abbrev Word := BitVec 32

/-- Platform time in units of 1/96 MHz, a 64-bit count (R10). -/
abbrev Time := BitVec 64

end Sys2Proof
end

