-- ==== Sys2Proof/Syntax.lean ====
section
/-!
DEFINITION. The commands the block takes: one constructor per row of spec/opcode_table.json, with the row's operands.
A row that is an event inside the block (a timer's end, a scan's result, an edge on a pin) carries what the
outside world or the analogue part supplies at that event; a row that is a host command carries its request
header and its parameters (R367, R375).
-/

namespace Sys2Proof

/-- Where a host command came from (R20): a ring context or a mailbox port. -/
inductive Src where
  | ctx (c : Fin 32)
  | port (p : Fin 4)
deriving DecidableEq, Repr

/-- The header of a host command (R367). A deadline of 0 means none. -/
structure Req where
  src : Src
  tag : BitVec 16
  epoch : BitVec 16
  deadline : Time
deriving DecidableEq, Repr

/-- The buffer block of a structure read (R372). -/
structure BufBlock where
  addr : BitVec 64
  len : BitVec 16
  off : BitVec 16
deriving DecidableEq, Repr

/-- A stream destination of the event fabric: a ring context or a mailbox port (R24, R395). -/
inductive Dest where
  | ctx (c : Fin 32)
  | port (p : Fin 4)
deriving DecidableEq, Repr

/-- Slot bytes +0 to +3 of a context as the ring engine reads them (R348). -/
structure Slot where
  tail : BitVec 16
  head : BitVec 16
deriving DecidableEq, Repr

/-- The host's PCIe configuration bits that bear on the block (R70, R334, R354, R460, R468). -/
structure PcieCfg where
  bme : Bool
  msixEn : Bool
  fnMask : Bool
  ptmEn : Bool
  ltrEn : Bool
  /-- ASPM L1.2 is enabled (R460). -/
  aspmL12 : Bool := false
  /-- PME_En (R468). -/
  pmeEn : Bool := false
deriving DecidableEq, Repr

/-- Causes that freeze the ring engine (R336). -/
inductive FreezeCause where
  | busMaster
  | d3hot
  | linkDown
deriving DecidableEq, Repr

/-- The three link resets of R357. -/
inductive LinkResetCause where
  | perst
  | hotReset
  | linkDown
deriving DecidableEq, Repr

/-- The reads whose failure R359 treats. -/
inductive FailedRead where
  | descriptor (c : Fin 32)
  | slotCheck (c : Fin 32)
  | poll
  | readback
  | reread
deriving DecidableEq, Repr

/-- What a Leash frame gives at its end (R79, R80, R489 (c)). -/
structure FrameUse where
  /-- Cycles in which each activity was granted the fabric, or would have been but for its ceiling. -/
  used : Vector (BitVec 17) 10
  /-- The encoder channels whose shadow decoder holds another position. -/
  shadow : BitVec 4
deriving DecidableEq, Repr

/-- What a PTM dialogue measures (R71). -/
structure PtmSample where
  pt : Time
  host : BitVec 64
  delay : Word
deriving DecidableEq, Repr

/-- What one matrix scan reads (R89, R90). Bit s or d of a vector is sense line s or drive line d. -/
structure ScanData where
  /-- Sense lines low in the slot of each drive line. -/
  closed : Vector (BitVec 16) 16
  /-- Drive lines that read high at their own sample point. -/
  driveHigh : BitVec 16
  /-- Drive lines and sense lines low in the check slot. -/
  checkKd : BitVec 16
  checkKs : BitVec 16
  /-- Released drive lines that read low in the slot of each drive line. -/
  readback : Vector (BitVec 16) 16
deriving DecidableEq, Repr

/-- What one cliff result measures (R129, R130): the mean photocurrents of the ON and OFF windows in pA, overload in the OFF and ON
windows, sink current in mA at the end of the ON window and the highest CLEn voltage in it in mV. -/
structure CliffData where
  on : Word
  off : Word
  ovlOff : Bool
  ovlOn : Bool
  ma : BitVec 16
  mv : BitVec 16
deriving DecidableEq, Repr

/-- Bits that a faulty hardware engine inverts in its condition, latch and action vectors (R148); all 0 on a sound one. -/
structure HedgeErr where
  cond : BitVec 32
  latch : BitVec 32
  act : BitVec 21
deriving DecidableEq, Repr

/-- What the step engine samples at a decision point beside the Hedge (R174, R175, R250): rails inside their windows,
OV and UV comparator inputs beyond their thresholds now, and the filtered HERD level. -/
structure SeqInputs where
  inside : BitVec 24
  ovNow : BitVec 24
  uvNow : BitVec 24
  herdHigh : Bool
deriving DecidableEq, Repr


/-- What one ADC-M cycle converts (R204, R485): the rails in 0.1 mV, VIN and VHOLD in mV, the die in signed 0.1 °C, the
difference of the references in µV and whether it exceeds 0.5 %, and the NTC inputs in 1/65,536 of NTCREF where the cycle
converts them. -/
structure AdcCycle where
  rails : Vector (BitVec 16) 24
  vin : BitVec 16
  vhold : BitVec 16
  die : BitVec 16
  refDiff : BitVec 16
  refBad : Bool
  ntc : Option (Vector (BitVec 16) 6)
deriving DecidableEq, Repr
/-- One cell sweep (R254): the eight cell inputs in 0.1 mV, PACKP in mV, and how far reference B reads from its calibrated value, in µV
(R489 (e)). -/
structure Sweep where
  cells : Vector (BitVec 16) 8
  packp : BitVec 16
  refErr : BitVec 16
deriving DecidableEq, Repr

/-- Pack FET fault kinds in the order of BATT.FET_FAULT (R264). -/
inductive FetFault where
  | cpUv
  | chgGate
  | dsgGate
  | dsgLeak
  | chgLeak
deriving DecidableEq, Repr

/-- The conditions of R276, letters (a) to (d). -/
inductive LpCond where
  | current
  | soc
  | rest
  | protection
deriving DecidableEq, Repr

/-- What M0's control loop measures at a decision point (R293, R294): speed in 0.01 Hz (from zero crossings while the gates
are low), Id and Iq signed in 10 mA, and the observer's angle error in degrees electrical. -/
structure M0Meas where
  speed : BitVec 19
  id : BitVec 16
  iq : BitVec 16
  angleErr : Byte
deriving DecidableEq, Repr

/-- One PWM period of M0 (R289, R290): the phase left unsampled among those with equally short low-side on-times (0 A, 1 B,
2 C), the currents of the two phases after the unsampled one in cyclic order, signed in 10 mA, the Hall code, and whether it
changed by more than one sector. -/
structure M0Pwm where
  left : Fin 3
  i1 : BitVec 17
  i2 : BitVec 17
  hall : BitVec 3
  jump : Bool
deriving DecidableEq, Repr

/-- Hardware faults of M0 that act on the gates directly (R294 kinds 1 to 4). -/
inductive M0HwFault where
  | vdsOc (phase : Fin 3) (low : Bool)
  | shuntOc (phase : Fin 3)
  | vgdUv
  | bstUv (phase : Fin 3)
deriving DecidableEq, Repr

/-- What a fan channel measures at an event: observer speed in 0.1 Hz, phase current amplitude in mA, and VFAN in mV
(R302, R311). -/
structure FanMeas where
  obs : BitVec 16
  ma : BitVec 16
  vfan : BitVec 16
deriving DecidableEq, Repr

/-- A 32-bit BAR2 write as the root port sends it (R405): flash address, value, and whether it is an aligned 32-bit write
with every byte enable set. -/
structure BarWrite where
  addr : BitVec 22
  value : Word
  whole : Bool := true
deriving DecidableEq, Repr

/-- The ECC condition of a flash line that does not read clean (R420): bits corrected, or for an uncorrectable line the
bits in which its raw data differs from what was programmed. -/
structure LineErr where
  line : BitVec 17
  corrected : Fin 5
  raw : Option (BitVec 256)
deriving DecidableEq, Repr


/-- A failure that a slice judges: INDEX and DETAIL of its BIST record (R497). -/
structure BistFail where
  index : BitVec 16
  detail : BitVec 16
deriving DecidableEq, Repr

/-- The commands, in the order of spec/opcode_table.json. -/
inductive Instr where
  /-- POWER_ON (R36): VIN rises through 4.6 V; HVSEL is sampled (R36, R59). -/
  | powerOn (hvsel : Bool)
  /-- POWER_LOSS (R36): VIN falls through 4.3 V (R36). -/
  | powerLoss
  /-- BROWN_OUT (R37): VDDC or VDD18 falls below its monitor threshold (R37). -/
  | brownOut (hvsel : Bool)
  /-- LP_BOR (R462): VDDC collapses in Sleep or Deep sleep (R462). -/
  | lpBor
  /-- RST_N_ASSERT (R56): RST_N held low for at least 1 µs (R56). -/
  | rstNAssert
  /-- RST_N_RELEASE (R41): rising edge of RST_N; TEST_EN is sampled when this ends the reset (R41, R59). -/
  | rstNRelease (testEn : Bool)
  /-- SHEEPDOG_WDT_EXPIRY (R14): Sheepdog watchdog expires (R14). -/
  | sheepdogWdtExpiry
  /-- MGMT_WDT_EXPIRY (R15): management watchdog expires (R15). -/
  | mgmtWdtExpiry
  /-- LOCKSTEP_MISMATCH (R14): lockstep comparator mismatch (R14). -/
  | lockstepMismatch
  /-- BLOCKED_WRITE (R13): a processor write outside its access rights (R13). -/
  | blockedWrite (bySheepdog : Bool)
  /-- REGULATORS_GOOD (R39): regulators in regulation, internal reset released (R39 step 2). -/
  | regulatorsGood (testEn : Bool)
  /-- BOOT_TEST_FAIL (R46): a boot test gives a class S result with this test code (R46). -/
  | bootTestFail (code : Byte)
  /-- BOOT_SCAN_DONE (R422): the boot scan of both marker areas ends; for each firmware slot whose header checksum is valid, the version in that header (R39 step 4, R42, R422). -/
  | bootScanDone (heads : Vector (Option Word) 2)
  /-- PLAN_VERIFY_DONE (R43): verification of a candidate ends; the ECC condition of its lines, and whether VIN stayed good from the arming to the end of step 7 (R43, R221). -/
  | planVerifyDone (errs : List LineErr) (vinGood : Bool)
  /-- REDUCED_SERVICE_ENTRY (R39): step 8; `us` is the time since the reference of DEV.T_REDUCED (R39, R60). -/
  | reducedServiceEntry (us : Word)
  /-- XO_GOOD (R49): the XO becomes good (R49). -/
  | xoGood
  /-- XO_FAIL_TIMEOUT (R50): the XO is not good 20 ms after enable (R50). -/
  | xoFailTimeout
  /-- XT32_GOOD (R508): 1,024 good XT32 cycles (R508). -/
  | xt32Good
  /-- PLL_LOCK (R49): the PLL locks (R49). -/
  | pllLock
  /-- PLL_LOCK_TIMEOUT (R51): the PLL has not locked within 1 ms (R51). -/
  | pllLockTimeout
  /-- CAL_COMPLETE (R52): the chopper calibration ends, inside its limits or not, with the gain correction in signed ppm (R52, R256). -/
  | calComplete (ok : Bool) (gain : Word)
  /-- FULL_SERVICE_SWITCH (R49): the switch to full service with the FIRC deviation measured (R49, R67). -/
  | fullServiceSwitch (ppm : Word)
  /-- SW_RESET (R57): a write to DEV.SW_RESET (R57). -/
  | swReset (value : Word)
  /-- REGISTER_WRITE (R7): a BAR0 write (R7). -/
  | registerWrite (off : BitVec 16) (value : Word)
  /-- PT_LO_READ (R65): a read of TIME.PT_LO (R65). -/
  | ptLoRead
  /-- KTICK_LO_READ (R65): a read of TIME.KTICK_LO (R65). -/
  | ktickLoRead
  /-- PTM_DIALOGUE (R71): a PTM dialogue falls due and, in L0, runs (R71). -/
  | ptmDialogue (inL0 : Bool) (sample : PtmSample)
  /-- LEASH_FRAME_BOUNDARY (R79): a frame boundary, with what the frame that ends gives (R79, R80, R489 (c)). -/
  | leashFrameBoundary (use : FrameUse)
  /-- LEASH_CEILING_REACHED (R81): activity a + 1 reaches its ceiling (R81). -/
  | leashCeilingReached (a : Fin 10) (requestPending : Bool)
  /-- LEASH_CLR (R82): a write to TIME.LEASH_CLR (R82). -/
  | leashClr (value : Word)
  /-- FABRIC_HOLD_TIMEOUT (R26): the oldest held record has been held for one frame (R26). -/
  | fabricHoldTimeout
  /-- MATRIX_SCAN (R89): one scan with what its slots read (R89). -/
  | matrixScan (scan : ScanData)
  /-- STUCK_TIMEOUT (R103): t_stuck has passed since the closing PT (R103). -/
  | stuckTimeout (node : Fin 256)
  /-- KENNEL_SCAN (R106): one Kennel scan: closed crossings per drive line (R106). -/
  | kennelScan (closed : Vector (BitVec 16) 16)
  /-- ANY_KEY_DETECT (R107): a watched sense line has been low for 32 Kennel ticks (R107). -/
  | anyKeyDetect (line : Fin 16)
  /-- DI_EDGE (R109): an edge to a pin level (R109). -/
  | diEdge (n : Fin 16) (high : Bool)
  /-- DI_DEBOUNCE_EXPIRY (R109): the level has held for the debounce time (R109). -/
  | diDebounceExpiry (n : Fin 16)
  /-- PAIR_DISCREPANCY_TIMEOUT (R110): the accepted states have differed for the discrepancy time (R110). -/
  | pairDiscrepancyTimeout (k : Fin 8)
  /-- DI_KENNEL_WAKE (R111): an edge toward the active state has held for two Kennel ticks (R111). -/
  | diKennelWake (n : Fin 16)
  /-- KEYS_CNT_CLR (R115): a write to KEYS.CNT_CLR (R115). -/
  | keysCntClr (value : Word)
  /-- ENCODER_EDGE (R117): line A or line B changes; both levels after the change (R117). -/
  | encoderEdge (n : Fin 4) (onB a b : Bool)
  /-- OVERSPEED_RELEASE (R123): I has grown to OVS_REL (R123). -/
  | overspeedRelease (n : Fin 4)
  /-- ILLEGAL_TRANSITION (R120): both lines change in one sample (R120). -/
  | illegalTransition (n : Fin 4)
  /-- FAULT_HOLD_EXPIRY (R120): FAULT_HOLD has passed since the last illegal transition (R120). -/
  | faultHoldExpiry (n : Fin 4)
  /-- ENCODER_REPORT (R124): a REPORT boundary (R124). -/
  | encoderReport (n : Fin 4)
  /-- ENC_POS_READ (R119): a read of MOTION.ENC_POS[n] (R119). -/
  | encPosRead (n : Fin 4)
  /-- MOTION_WAKE (R126): the edge with which the Kennel count of channel n reaches WAKE_EDGES (R126). -/
  | motionWake (n : Fin 4)
  /-- MOTION_CNT_CLR (R141): a write to MOTION.CNT_CLR (R141). -/
  | motionCntClr (value : Word)
  /-- CLIFF_RESULT (R132): one result of channel n (R132). -/
  | cliffResult (n : Fin 8) (x : CliffData)
  /-- HEDGE_HW_EVAL (R147): one hardware evaluation; the SAFE_STOP levels read back, and what a faulty engine would invert (R147, R161). -/
  | hedgeHwEval (readback : BitVec 4) (err : HedgeErr)
  /-- HEDGE_SD_EVAL (R147): the Sheepdog pair evaluates the frame snapshot (R147). -/
  | hedgeSdEval
  /-- ORDERLY_OFF_OVERRUN (R19): an orderly off exceeds its bound (R19). -/
  | orderlyOffOverrun (group : Fin 8)
  /-- DOCK_ACCEPT (R143): the DOCK pin has held a level for 10 ms (R143). -/
  | dockAccept (level : Bool)
  /-- ARM_EXPIRY (R156): 500 ms have passed since the arm (R156). -/
  | armExpiry (rule : Fin 32)
  /-- SSTOP_MISMATCH_CLEAR (R161): 100 ms without a mismatch (R161). -/
  | sstopMismatchClear (n : Fin 4)
  /-- SAFE_STOP_PULSE_TEST (R162): the level at the end of the pulse, and whether an action took the pin over (R162). -/
  | safeStopPulseTest (n : Fin 4) (readsLow taken : Bool)
  /-- SS_POLL (R163): the poll transaction and the bytes clocked in (R163). -/
  | ssPoll (rx : Vector Byte 16)
  /-- SS_IDENTITY_CHECK (R164): the identity transaction and its byte (R164). -/
  | ssIdentityCheck (id : Byte)
  /-- SS_SAMPLE_PROCESS (R165): the Sheepdog task processes the poll sample (R165). -/
  | ssSampleProcess
  /-- HEDGE_CNT_CLR (R171): a write to HEDGE.CNT_CLR (R171). -/
  | hedgeCntClr (value : Word)
  /-- HEARTBEAT (R158): opcode 0x05 (R158). -/
  | heartbeat (r : Req) (count : BitVec 16)
  /-- HEDGE_ARM_RELEASE (R156): opcode 0x40 (R156). -/
  | hedgeArmRelease (r : Req) (rule : Byte)
  /-- HEDGE_RELEASE (R156): opcode 0x41 (R156). -/
  | hedgeRelease (r : Req) (rule : Byte) (token : BitVec 16)
  /-- SOFT_NODE_SET (R159): opcode 0x43 (R159). -/
  | softNodeSet (r : Req) (mask values : BitVec 16)
  /-- HEDGE_READ (R167): opcode 0x42 (R167). -/
  | hedgeRead (r : Req) (b : BufBlock) (rule : Byte)
  /-- SEQ_DECISION_POINT (R175): a decision point of the step engine with what it samples (R175). -/
  | seqDecisionPoint (x : SeqInputs)
  /-- RAMP_TIMEOUT (R175): RAMP_TO passes for these rails at one decision point (R175). -/
  | rampTimeout (rails : BitVec 24)
  /-- SETTLE_DONE (R175): SETTLE passes with the rail inside its window (R175). -/
  | settleDone (rails : BitVec 24)
  /-- DISCHARGE_TIMEOUT (R175): DIS_TO passes (R175). -/
  | dischargeTimeout (rails : BitVec 24)
  /-- REST_EXPIRY (R182): t_rest passes (R182). -/
  | restExpiry
  /-- PLAN_START (R191): the conditions for a Plan start hold at a decision point (R191). -/
  | planStart
  /-- RAIL_GROUP_ON (R184): opcode 0x10 (R184). -/
  | railGroupOn (r : Req) (g : BitVec 8)
  /-- RAIL_GROUP_OFF (R185): opcode 0x11 (R185). -/
  | railGroupOff (r : Req) (g : BitVec 8)
  /-- RAIL_READ (R195): opcode 0x12 (R195), a structure read (R372). -/
  | railRead (r : Req) (b : BufBlock)
  /-- FAULT_CLEAR (R189): opcode 0x13 (R189, R214). -/
  | faultClear (r : Req)
  /-- ADC_M_CYCLE (R204): an ADC-M cycle with what it converts (R204). -/
  | adcMCycle (x : AdcCycle)
  /-- COMPARATOR_CROSSING (R210): crossings decided in one fabric cycle, per comparator (R210, R212). -/
  | comparatorCrossing (uv ov : BitVec 24)
  /-- VIN_FAIL_DECISION (R222): VIN has stayed below VIN_FAIL for 2 µs (R222). -/
  | vinFailDecision
  /-- HOLD_UP_RECORD_COMPLETE (R224): the power-fail record is complete, with VIN at or above 4.3 V or not (R224). -/
  | holdUpRecordComplete (vinAbove : Bool)
  /-- VHOLD_COLLAPSE (R224): VHOLD falls through 4.3 V, with VIN above the rising threshold or not (R224 (b)). -/
  | vholdCollapse (vinAbove hvsel : Bool)
  /-- VIN_GOOD (R221): VIN good is reached (R221 (b)). -/
  | vinGood
  /-- COUNTER_SNAPSHOT (R218): SNAP_AGE has reached SNAP_INT (R218 (e)). -/
  | counterSnapshot
  /-- COUNTERS_READ (R220): opcode 0x14 (R220), a structure read (R372). -/
  | countersRead (r : Req) (b : BufBlock) (rails : BitVec 24) (flags : Byte)
  /-- COUNTERS_CLEAR (R220): opcode 0x15 (R220, R377). -/
  | countersClear (r : Req) (rails : BitVec 24) (counters : Byte)
  /-- HERD_PULSE_CLASSIFY (R237): the rising edge that ends a low pulse of w PT units (R237). -/
  | herdPulseClassify (w : BitVec 24)
  /-- HERD_ALARM_CLASSIFY (R247): the line has been low for 10 µs in RUNNING (R247). -/
  | herdAlarmClassify
  /-- HERD_MUSTER_START (R239): the line has been idle for 100 µs: the start pulse, up to its rising edge (R239). -/
  | herdMusterStart
  /-- HERD_MUSTER_BLOCKED (R241): the line has not been idle within T_MUSTER (R241). -/
  | herdMusterBlocked
  /-- HERD_STEP_EDGE (R239): the rising edge that releases a step (R239). -/
  | herdStepEdge
  /-- HERD_EMPTY_STEP (R236): 3 µs have passed since the step began without a grab (R236). -/
  | herdEmptyStep
  /-- HERD_STEP_TIMEOUT (R244): the line has been low for T_STEP in the muster or a power-up step (R244). -/
  | herdStepTimeout
  /-- HERD_DOWN_TIMEOUT (R246): the line has been low for T_STEP in a shutdown step (R246). -/
  | herdDownTimeout
  /-- HERD_ALARM_QUIET (R239): the line has been high for 10 ms in ALARMED (R239). -/
  | herdAlarmQuiet
  /-- HERD_KENNEL_WAKE (R242): a falling edge on HERD in Sleep or Deep sleep (R242). -/
  | herdKennelWake
  /-- HERD_CNT_CLR (R251): a write to SEQ.HERD_CNT_CLR (R251). -/
  | herdCntClr (value : Word)
  /-- CELL_SWEEP (R254): a whole cell sweep with what it samples (R254). -/
  | cellSweep (x : Sweep)
  /-- CURRENT_WINDOW (R255): the mean shunt voltage of a millisecond in nV, signed, positive on charge (R255). -/
  | currentWindow (nv : Word)
  /-- OCD_TRIP (R259): the OCD comparator decides, with the discharge shunt voltage in µV (R259). -/
  | ocdTrip (uv : BitVec 24)
  /-- SCD_TRIP (R259): the SCD comparator decides (R259). -/
  | scdTrip (uv : BitVec 24)
  /-- PROT_RETRY_EXPIRY (R261): RETRY_T after OCD, or SCD, was set (R261). -/
  | protRetryExpiry (scd : Bool)
  /-- CHARGER_DETECT (R261): PACKP has been above the stack by CHGDET for 100 ms (R261). -/
  | chargerDetect
  /-- FET_FAULT_DETECT (R264): a FET fault condition has held for its time (R264). -/
  | fetFaultDetect (k : FetFault)
  /-- GAUGE_UPDATE (R267): a whole second ends (R255, R267). -/
  | gaugeUpdate
  /-- GAUGE_SNAPSHOT (R273): 10 min without rest have passed, so a snapshot is due (R273). -/
  | gaugeSnapshot
  /-- COLD_START_REST_WINDOW (R274): the 60 s after a cold start end (R274). -/
  | coldStartRestWindow
  /-- BATTERY_LP_WAKE (R276): a condition of R276 holds in Sleep or Deep sleep. -/
  | batteryLpWake (c : LpCond)
  /-- PACK_ID_READ (R277): the identity as read, or none after every retry failed (R277). -/
  | packIdRead (id : Option (BitVec 64))
  /-- ACC_LO_READ (R284): a read of BATT.ACC_LO (R284). -/
  | accLoRead
  /-- BATT_CNT_CLR (R286): a write to BATT.CNT_CLR (R286). -/
  | battCntClr (value : Word)
  /-- BATTERY_READ (R279): opcode 0x20 (R279), a structure read (R372). -/
  | batteryRead (r : Req) (b : BufBlock)
  /-- BATTERY_CONTROL_FET (R280): opcode 0x21, operation 1 (R280). -/
  | batteryControlFet (r : Req) (mask value flags : Byte)
  /-- BATTERY_CONTROL_CLEAR_PROT (R280): opcode 0x21, operation 2 (R280). -/
  | batteryControlClearProt (r : Req)
  /-- BATTERY_CONTROL_CLEAR_FET (R280): opcode 0x21, operation 3 (R280), with the kinds still detected. -/
  | batteryControlClearFet (r : Req) (still : BitVec 5)
  /-- BATTERY_CONTROL_BALANCE (R280): opcode 0x21, operation 4 (R280). -/
  | batteryControlBalance (r : Req) (enable : Byte)
  /-- BATTERY_CONTROL_RELEARN (R280): opcode 0x21, operation 5 (R280). -/
  | batteryControlRelearn (r : Req)
  /-- BATTERY_CONTROL_SNAPSHOT (R280): opcode 0x21, operation 6 (R280). -/
  | batteryControlSnapshot (r : Req)
  /-- M0_DECISION_POINT (R293): a speed-loop decision point of M0 with its measurements (R293). -/
  | m0DecisionPoint (x : M0Meas)
  /-- M0_PWM_PERIOD (R290): a PWM period: the sampled currents and the Hall code (R289, R290). -/
  | m0PwmPeriod (x : M0Pwm)
  /-- M0_HW_FAULT (R294): a hardware fault is detected (R294). -/
  | m0HwFault (f : M0HwFault)
  /-- GATE_TEST_END (R298): the pre-start gate test ends (R298). -/
  | gateTestEnd (pass : Bool)
  /-- STANDSTILL_HOLD_END (R293): every phase current has stayed below 5 % of I_BRAKE for 10 ms (R293). -/
  | standstillHoldEnd
  /-- ALIGN_END (R293): T_ALIGN has passed since entry or since alignment began (R293). -/
  | alignEnd
  /-- OBSERVER_LOCK (R293): the lock has held for 20 ms (R293). -/
  | observerLock
  /-- OPEN_RAMP_TIMEOUT (R293): 500 ms after reaching S_H without a completed lock (R293). -/
  | openRampTimeout
  /-- BRAKE_TIMEOUT (R293): BRAKE_T has passed (R293). -/
  | brakeTimeout
  /-- COAST_STOP (R293): no zero crossing for 1 / (6 × S_STOP) (R293). -/
  | coastStop
  /-- COAST_TIMEOUT (R293): COAST_TO has passed (R293). -/
  | coastTimeout
  /-- MOTOR_RUN (R295): opcode 0x30 (R295). -/
  | motorRun (r : Req) (dir flags : Byte) (setpoint : Word) (accel decel : BitVec 16)
  /-- MOTOR_STOP (R295): opcode 0x31 (R295), with whether the cause of a fault is still present. -/
  | motorStop (r : Req) (mode flags : Byte) (causePresent : Bool)
  /-- MOTOR_READ (R299): opcode 0x32 (R299), a structure read (R372). -/
  | motorRead (r : Req) (b : BufBlock)
  /-- DRIVE_CNT_CLR (R309): a write to DRIVE.CNT_CLR (R309). -/
  | driveCntClr (value : Word)
  /-- FAN_START (R304): a fan that is on and permitted starts, or runs on from coasting (R304). -/
  | fanStart (n : Fin 3) (x : FanMeas)
  /-- FAN_LOCK (R304): the observer locks (R304). -/
  | fanLock (n : Fin 3) (x : FanMeas)
  /-- FAN_START_TIMEOUT (R304): START_T passes without lock (R304). -/
  | fanStartTimeout (n : Fin 3) (x : FanMeas)
  /-- FAN_LOCK_LOST (R304): the observer loses its lock (R304). -/
  | fanLockLost (n : Fin 3) (x : FanMeas)
  /-- FAN_COAST_END (R304): the speed is below 5 % of F_MAX, or 10 s have passed (R304). -/
  | fanCoastEnd (n : Fin 3) (x : FanMeas)
  /-- VFAN_UNDERVOLTAGE (R304): VFAN is below 4.5 V (R304). -/
  | vfanUndervoltage (n : Fin 3) (x : FanMeas)
  /-- BRIDGE_TRIP (R305): bridge overcurrent or overtemperature (R305). -/
  | bridgeTrip (n : Fin 3) (overTemp : Bool) (x : FanMeas)
  /-- FAN_RETRY_ATTEMPT (R322): 2 s after a failed attempt or a loss (R322, R323). -/
  | fanRetryAttempt (n : Fin 3) (x : FanMeas)
  /-- FAN_SLOW_TIMER (R326): the measured speed has stayed for SLOW_T on the side of MIN_PCT of the speed loop's ramped
  command, in 0.1 Hz, on which it lies now (R326). -/
  | fanSlowTimer (n : Fin 3) (cmd : BitVec 16) (x : FanMeas)
  /-- TACH_LOST_TIMER (R326): no TACH edge within four expected intervals (R326). -/
  | tachLostTimer (n : Fin 3) (x : FanMeas)
  /-- ZONE_UPDATE (R314): the 100 ms update of every enabled zone (R314). -/
  | zoneUpdate
  /-- HOST_ZONE_TIMEOUT (R318): HOST_TO has passed since the last write (R318). -/
  | hostZoneTimeout
  /-- FAN_OVERRIDE_EXPIRY (R321): the duration of an override has passed (R321). -/
  | fanOverrideExpiry (n : Fin 3)
  /-- DIE_TEMP_WAKE (R327): the die reaches SLEEP_WAKE in Sleep or Deep sleep (R327). -/
  | dieTempWake
  /-- ZONE_TEMP_WRITE (R319): opcode 0x3A (R318, R319). -/
  | zoneTempWrite (r : Req) (value : BitVec 16)
  /-- FAN_OVERRIDE (R321): opcode 0x38 (R321), with the channels whose bridge is above 140 °C or whose overcurrent comparator trips. -/
  | fanOverride (r : Req) (mask demand flags : Byte) (duration : BitVec 16) (hot : BitVec 3)
  /-- THERM_CNT_CLR (R332): a write to THERM.CNT_CLR (R332). -/
  | thermCntClr (value : Word)
  /-- FREEZE (R336): the ring engine freezes (R336). -/
  | freeze (cause : FreezeCause)
  /-- FREEZE_END (R336): a freeze cause ends; for Bus Master Enable the configuration bits now set (R336). -/
  | freezeEnd (cause : FreezeCause) (cfg : PcieCfg)
  /-- RRP_OFFER_WRITE (R337): a write to DEV.RRP_OFFER (R337). -/
  | rrpOfferWrite (value : Word)
  /-- CONTEXT_ENABLE (R340): CTX_CFG[c].ENABLE written 1 (R340). -/
  | contextEnable (c : Fin 32)
  /-- CONTEXT_CHECKS_DONE (R341): the creation checks end; slot +0 and +2 as read (R340). -/
  | contextChecksDone (c : Fin 32) (slotTail slotHead : BitVec 16)
  /-- CONTEXT_DISABLE (R357): CTX_CFG[c].ENABLE written 0 (R357). -/
  | contextDisable (c : Fin 32)
  /-- CTX_EPOCH_WRITE (R342): a write to CTX_EPOCH[c] (R342). -/
  | ctxEpochWrite (c : Fin 32) (value : Word)
  /-- DB_BASE_HI_WRITE (R348): a write to DEV.DB_BASE_HI (R348). -/
  | dbBaseHiWrite (value : Word)
  /-- NUDGE (R352): a write to DEV.NUDGE (R352). -/
  | nudge (value : Word)
  /-- DOORBELL_POLL (R349): a poll with the slots as read (R349). -/
  | doorbellPoll (slots : Vector Slot 32)
  /-- DESCRIPTOR_FETCH (R370): one descriptor fetched from context c: the 64 bytes from its place in the SQ, of which version 1 has the first 32 (R370). -/
  | descriptorFetch (c : Fin 32) (bytes : Vector Byte 64)
  /-- MEMORY_READ_FAIL (R359): a ring-engine memory read fails (R359). -/
  | memoryReadFail (what : FailedRead)
  /-- DOZE_ENTRY (R350): DOZE_IDLE has passed with no work (R350). -/
  | dozeEntry
  /-- DOZE_READBACK (R350): the doze read-back returns (R350). -/
  | dozeReadback (slots : Vector Slot 32)
  /-- STREAM_RECORD_OFFER (R346): the oldest record owed to a stream is offered; slot +2 as a re-read would return it (R346). -/
  | streamRecordOffer (d : Dest) (rereadHead : BitVec 16)
  /-- COALESCE_TIMEOUT (R355): COAL.TIME has passed since the first entry not signalled (R355). -/
  | coalesceTimeout (c : Fin 32)
  /-- MSIX_UNMASK (R354): vector v is unmasked (R354). -/
  | msixUnmask (v : Fin 34)
  /-- LINK_RESET (R357): PERST_N asserted, Hot Reset or link-down reset (R357). -/
  | linkReset (cause : LinkResetCause)
  /-- RING_CNT_CLR (R361): a write to DEV.RING_CNT_CLR (R361). -/
  | ringCntClr (value : Word)
  /-- IDENTIFY (R378): opcode 0x01 (R378), a structure read (R372). -/
  | identify (r : Req) (b : BufBlock)
  /-- GET_STATUS (R378): opcode 0x03 (R378), a structure read (R372). -/
  | getStatus (r : Req) (b : BufBlock)
  /-- TIME_READ (R378): opcode 0x04 (R378), a structure read (R372). -/
  | timeRead (r : Req) (b : BufBlock)
  /-- REG_READ (R377): opcode 0x06 (R377 (a)). -/
  | regRead (r : Req) (off : BitVec 32) (count : Byte)
  /-- REG_WRITE (R377): opcode 0x07 (R377 (b)). -/
  | regWrite (r : Req) (off value mask : BitVec 32)
  /-- SUBSCRIBE (R385): opcode 0x60 (R385). -/
  | subscribe (r : Req) (target mode : Byte) (mask : BitVec 64)
  /-- INPUT_READ (R378): opcode 0x50 (R378), a structure read (R372). -/
  | inputRead (r : Req) (b : BufBlock)
  /-- ENCODER_READ (R139): opcode 0x51 (R139), a structure read (R372). -/
  | encoderRead (r : Req) (b : BufBlock)
  /-- CLIFF_READ (R139): opcode 0x52 (R139), a structure read (R372). -/
  | cliffRead (r : Req) (b : BufBlock)
  /-- WAKE_READ (R378): opcode 0x71 (R378), a structure read (R372). -/
  | wakeRead (r : Req) (b : BufBlock)
  /-- JOURNAL_READ (R379): opcode 0x80 (R379). -/
  | journalRead (r : Req) (b : BufBlock) (start : BitVec 32) (count : Byte) (errs : List LineErr)
  /-- PLAN_STAGE (R452): opcode 0x81 (R452): its parameters, and on a ring the bytes read from BUF_ADDR or that the read fails (R374). -/
  | planStage (r : Req) (addr : BitVec 64) (length : BitVec 16) (offset : Word) (flags : Byte) (data : List Byte) (readFails : Bool)
  /-- PLAN_ACTIVATE (R453): opcode 0x82 (R453). -/
  | planActivate (r : Req) (gen : Word)
  /-- FIRMWARE_STAGE (R455): opcode 0x83 (R455): as PLAN_STAGE; for a FINAL chunk what the checks of the image find, and its version. -/
  | firmwareStage (r : Req) (addr : BitVec 64) (length : BitVec 16) (offset : Word) (flags : Byte) (data : List Byte) (readFails : Bool) (check : Byte) (version : Word)
  /-- PLAN_BACKGROUND_VERIFY (R448): the background verification of the other Plan slot ends, with the ECC condition of its lines (R448). -/
  | planBackgroundVerify (errs : List LineErr)
  /-- POWER_STATE_REQUEST (R457): opcode 0x70 (R457). -/
  | powerStateRequest (r : Req) (target : Byte) (alarm : Word)
  /-- SELFTEST_RUN (R496): opcode 0x90 (R496). -/
  | selftestRun (r : Req) (tests : Word)
  /-- SELFTEST_READ (R496): opcode 0x91 (R496), a structure read (R372). -/
  | selftestRead (r : Req) (b : BufBlock)
  /-- SPI_WRITE_FRAME (R391): all bytes of an SPI frame, op byte to CRC (R389). -/
  | spiWriteFrame (bytes : List Byte)
  /-- SPI_READ_FRAME (R391): an SPI read frame: op byte and address field (R389). -/
  | spiReadFrame (op lo hi : Byte)
  /-- I2C_WRITE (R390): an I2C write: the bytes after the address (R390). -/
  | i2cWrite (addr : BitVec 7) (bytes : List Byte)
  /-- I2C_READ (R390): an I2C read; whether byte N was acknowledged (R390). -/
  | i2cRead (addr : BitVec 7) (lo hi : Byte) (pec : Bool)
  /-- MAILBOX_GO (R394): GO written 1 without DONE (R394). -/
  | mailboxGo (p : Fin 4)
  /-- MAILBOX_DONE_CLEAR (R394): DONE written 1 (R394). -/
  | mailboxDoneClear (p : Fin 4)
  /-- EVT_POP (R395): EVT_POP written 1 (R395). -/
  | evtPop (p : Fin 4)
  /-- MAILBOX_ERR_CLEAR (R393): ERR written 1 (R393). -/
  | mailboxErrClear (p : Fin 4)
  /-- LINK_ERR_CLEAR (R401): a write to the link word (R401). -/
  | linkErrClear (value : Word)
  /-- MAILBOX_REPLY (R394): the mailbox budget lets the decided completion replace OUT (R394). -/
  | mailboxReply (p : Fin 4)
  /-- MAILBOX_WAKE (R398): HOST_WAKE, or a falling edge of MB_CS_N (R398). -/
  | mailboxWake (byCs : Bool)
  /-- MBOX_CNT_CLR (R401): a write to MBOX.CNT_CLR (R401). -/
  | mboxCntClr (value : Word)
  /-- BAR2_READ (R406): a BAR2 memory read of `len` bytes, with the ECC condition of the lines read (R405, R406). -/
  | bar2Read (addr : BitVec 22) (len : BitVec 13) (errs : List LineErr)
  /-- UNCORRECTABLE_FETCH (R420): a processor fetch finds an uncorrectable line (R420). -/
  | uncorrectableFetch (line : BitVec 17)
  /-- SECTOR_ERASE (R413): the unlock writes and code 0x30, then the writes that follow (R409). -/
  | sectorErase (bank : Fin 2) (more : List BarWrite)
  /-- PROGRAM_LINE (R411): the unlock writes and code 0xA0, then the writes that follow (R409). -/
  | programLine (bank : Fin 2) (more : List BarWrite)
  /-- STATUS_MODE (R409): the unlock writes and code 0x70 (R409). -/
  | statusMode (bank : Fin 2)
  /-- ERASE_SUSPEND (R415): a write of 0xB0 to an address in the bank (R409). -/
  | eraseSuspend (addr : BitVec 22)
  /-- ERASE_RESUME (R415): a write of 0x3A to an address in the bank (R409). -/
  | eraseResume (addr : BitVec 22)
  /-- ABORT_RESET (R418): a write of 0xF0 to an address in the bank (R409). -/
  | abortReset (addr : BitVec 22)
  /-- SEQUENCE_TIMEOUT (R410): more than 10 ms between two steps (R410). -/
  | sequenceTimeout (bank : Fin 2)
  /-- PROGRAM_DONE (R414): the line is written (R414). -/
  | programDone (bank : Fin 2)
  /-- ERASE_DONE (R413): the erase ends: verified blank, or failed twice (R413). -/
  | eraseDone (bank : Fin 2) (ok : Bool)
  /-- SUSPEND_DONE (R414): the suspension takes effect (R414). -/
  | suspendDone (bank : Fin 2)
  /-- AUTO_RESUME (R417): 100 ms in SUSPENDED without a program (R417). -/
  | autoResume (bank : Fin 2)
  /-- JOURNAL_APPEND (R428): the oldest record owed to the journal is written (R425, R428). -/
  | journalAppend
  /-- WEAK_FIFO_READ (R421): a read of FLASH.WEAK_FIFO (R421). -/
  | weakFifoRead
  /-- FLASH_CNT_CLR (R435): a write to FLASH.CNT_CLR (R435). -/
  | flashCntClr (value : Word)
  /-- QUIESCE_ANSWER (R458): the block answers, answers again after WAIT, or withdraws its ACK (R458, R461). -/
  | quiesceAnswer (block : Fin 16)
  /-- QUIESCE_NO_ANSWER (R458): 100 µs have passed without an answer of the block (R458). -/
  | quiesceNoAnswer (block : Fin 16)
  /-- HANDSHAKE_LIMIT (R458): HS_LIMIT has passed (R458). -/
  | handshakeLimit
  /-- ENTRY_EDGE (R68): the Kennel tick at which the time base stops (R461, R68). -/
  | entryEdge (lpoPpm : Word)
  /-- LINK_L23_READY (R460): the link has entered L2/L3 Ready (R460). -/
  | linkL23Ready
  /-- WAKE_PIN_ASSERT (R464): the WAKE pin has held its active level for WAKE_DB (R464). -/
  | wakePinAssert
  /-- DOCK_WAKE (R464): DOCK has held this pin level for 328 Kennel ticks after a change (R464). -/
  | dockWake (level : Bool)
  /-- ALARM_MATCH (R463): TIME.KSEC equals PMC.ALARM (R463). -/
  | alarmMatch
  /-- LINK_ACTIVITY_WAKE (R465): a link exit initiated by the host in Sleep (R465). -/
  | linkActivityWake
  /-- WAKE_EVENT (R466): the Kennel tick at which a held source becomes the wake event (R466). -/
  | wakeEvent
  /-- RESTART_EDGE (R68): the tick at which PT restarts, with the encoder edges of the sleep that no row of their own has brought, by channel, and the HERD level (R68, R126, R242). -/
  | restartEdge (kedges : Vector (BitVec 16) 4) (herdLow : Bool)
  /-- WAKE_CLOCK_SWITCH (R467): steps 5 and 6 of the wake order, with the FIRC deviation measured (R467). -/
  | wakeClockSwitch (ppm lpoPpm : Word)
  /-- OFF_EXIT (R469): the WAKE pin ends Off; HVSEL is sampled (R469). -/
  | offExit (hvsel : Bool)
  /-- GATED_REGISTER_ACCESS (R470): an access that R8 or R465 answers without the block (R470). -/
  | gatedRegisterAccess (write viaCmd bar2 : Bool) (addr : BitVec 32)
  /-- GATED_ACCESS_REPORT (R470): a GATED_ACCESS record falls due (R470). -/
  | gatedAccessReport (block : Fin 16)
  /-- GATED_CLR (R476): a write to DEV.GATED_CLR (R476). -/
  | gatedClr (value : Word)
  /-- PMC_CNT_CLR (R475): a write to PMC.CNT_CLR (R475). -/
  | pmcCntClr (value : Word)
  /-- BIST_SLICE (R481): the slice of the test whose turn it is: its fabric cycles, whether the analogue side keeps the test from running now, and the failures it judges (R481). -/
  | bistSlice (cycles : Fin 481) (deferred : Bool) (fails : List BistFail)
  /-- EN_READBACK_CHECK (R486): the EN pins that read on (R486). -/
  | enReadbackCheck (high : BitVec 24)
  /-- CLOCK_MONITOR_WINDOW (R487): a 1 ms window: the clock that disagrees with the other two (0 XO, 1 FIRC, 2 LPO), whether the PLL has lost lock, and the deviations in 0.01 % (R487). -/
  | clockMonitorWindow (bad : Option (Fin 3)) (pllLost : Bool) (lpo firc : BitVec 16)
  /-- SRAM_ECC_ERROR (R483): an SRAM access finds an error of one bit or of more, in the Sheepdog-private or the shared part (R483). -/
  | sramEccError (sheepdog multi : Bool)
  /-- BIST_CNT_CLR (R499): a write to BIST.CNT_CLR (R499). -/
  | bistCntClr (value : Word)
  /-- HERD_MUSTER_HOLD_EXPIRY (R240): 500 µs have passed since the start pulse (R240). -/
  | herdMusterHoldExpiry
  /-- TACH_EDGE (R326): an edge on TACHn (R326). -/
  | tachEdge (n : Fin 3) (x : FanMeas)
  /-- PERST_N_RISE (R468): PERST_N rises and the link trains to L0 (R468). -/
  | perstNRise
  /-- MAILBOX_READY (R398): 100 µs after a wake event (R398). -/
  | mailboxReady
deriving DecidableEq, Repr

end Sys2Proof
end

