-- ==== Sys2Proof/Decode.lean ====
section
/-!
DEFINITION. Words that spell commands. No row of spec/opcode_table.json gives bits: commands arrive as register accesses,
descriptors, frames, pin events and internal events, never as instruction words (log entry 2).
-/

namespace Sys2Proof

/-- The command that a table word spells: none, since the table gives no row any bits. -/
def decodeTableWord (_nbits _w : Nat) : Option Instr := none

end Sys2Proof
end

