-- ==== Sys2Proof/Config.lean ====
section
/-!
DEFINITION. What the manual leaves open, as opaque constants: nothing in Lean can evaluate them or prove a
value of them, so a statement about the model holds whatever they are (log entries 8 and following).
-/

namespace Sys2Proof

/-- A value the manual leaves open, drawn afresh each time: applied to the counter `State.free`. -/
opaque Config.freeWord : Nat → BitVec 64

/-- SHA-256 of a byte string (R438, R443), as the 256-bit number that its digest spells little-endian. -/
opaque Config.sha256 : List Byte → BitVec 256

/-- Whether an ECDSA P-256 signature (64 bytes) over a digest verifies with a public key (64 bytes) (R438). -/
opaque Config.ecdsaP256 : List Byte → BitVec 256 → List Byte → Bool

end Sys2Proof
end

