-- ==== Sys2Proof/Machine/Bits.lean ====
section
/-!
DEFINITION. Bit-field, sign and byte-order helpers over register words (conventions of 00_scope.md:
REGISTER.FIELD[msb:lsb], little-endian throughout).
-/

namespace Sys2Proof.Machine

/-- Field `[hi:lo]` of a word, as a number. -/
def wfld (w : Word) (hi lo : Nat) : Nat := (w.toNat >>> lo) % 2 ^ (hi + 1 - lo)

/-- Bit `i` of a word. -/
def bit (w : Word) (i : Nat) : Bool := w.getLsbD i

/-- A word with ones in `[hi:lo]` and zeros elsewhere. -/
def fieldMask (hi lo : Nat) : Word := BitVec.ofNat 32 ((2 ^ (hi + 1 - lo) - 1) <<< lo)

/-- The word with field `[hi:lo]` replaced by `v`, truncated to the field. -/
def wset (w : Word) (hi lo v : Nat) : Word :=
  (w &&& ~~~(fieldMask hi lo)) ||| (BitVec.ofNat 32 (v <<< lo) &&& fieldMask hi lo)

/-- One word out of `(value, lowest bit)` pieces. -/
def pack (l : List (Nat × Nat)) : Word :=
  l.foldl (fun w p => w ||| BitVec.ofNat 32 (p.1 <<< p.2)) 0

/-- A Bool as a number, for packing. -/
def b2n (b : Bool) : Nat := if b then 1 else 0

/-- Saturating increment of field `[hi:lo]` (R9: a saturating counter stops at its maximum). -/
def satInc (w : Word) (hi lo : Nat) : Word :=
  if wfld w hi lo < 2 ^ (hi + 1 - lo) - 1 then wset w hi lo (wfld w hi lo + 1) else w

/-- A number limited to the largest value of `w` bits (R9). -/
def satN (w n : Nat) : Nat := min n (2 ^ w - 1)

/-- The signed number that the low `w` bits of `n` spell in two's complement. -/
def sint (w n : Nat) : Int :=
  let m := n % 2 ^ w
  if m < 2 ^ (w - 1) then (m : Int) else (m : Int) - (2 ^ w : Nat)

/-- The low `w` bits of an integer in two's complement, as a number. -/
def ofSint (w : Nat) (i : Int) : Nat := (i % (2 ^ w : Nat)).toNat

/-- The `k` little-endian bytes of `n`. -/
def leBytes : Nat → Nat → List Byte
  | 0, _ => []
  | k + 1, n => BitVec.ofNat 8 n :: leBytes k (n / 256)

/-- The number that a little-endian byte list spells. -/
def ofLe : List Byte → Nat
  | [] => 0
  | b :: bs => b.toNat + 256 * ofLe bs

/-- `n` bytes of a list from offset `o`, absent bytes reading 0, as a little-endian number. -/
def leAt (l : List Byte) (o n : Nat) : Nat := ofLe ((l.drop o).take n)

/-- A list cut or filled with zero bytes to length `n`. Log entry 77 (DESIGN CHOICE). -/
def padTo (n : Nat) (l : List Byte) : List Byte := l.take n ++ List.replicate (n - l.length) 0

/-- The 4-byte image of a register word (R378). -/
def image (w : Word) : List Byte := leBytes 4 w.toNat

/-- `bits` numbered from 0: bit `i` of the result is `f i`. -/
def bitsOf (n : Nat) (f : Nat → Bool) : Nat :=
  (List.range n).foldl (fun a i => if f i then a + 2 ^ i else a) 0

/-- Bit `i` of a number. -/
def nbit (n i : Nat) : Bool := n.testBit i

end Sys2Proof.Machine
end

