-- ==== Sys2Proof/Machine/RegMap.lean ====
section
/-!
DEFINITION. The BAR0 register map: one name per register with its offset from the BAR base (top hex digit = block
number, R34), and one row per register that has a reset value other than 0 or a field the host or the Plan can write:
reset value, and per writable field its bits, its access code (R7) and the values the manual defines for it (R6).
Taken from the register and field tables of 02 to 19 (R60, R86, R115, R140, R170, R198, R232, R250, R284, R308, R331,
R360, R362, R365, R400, R434, R474, R476, R498 and their field rules).
-/
namespace Sys2Proof.Machine

/-- Access codes of R7 that let a bus write change a field. -/
inductive Acc where
  /-- RW: read and write. -/
  | rw
  /-- RWL: read and write until Plan load completes, then read only. -/
  | rwl
  /-- W1C: writing 1 clears the bit. -/
  | w1c
deriving DecidableEq, Repr

/-- One writable field: bits `[hi:lo]`, access code, and the defined values `min` to `max` (plus 0 where `zero`). -/
structure FieldSpec where
  hi : Nat
  lo : Nat
  acc : Acc
  min : Nat
  max : Nat
  zero : Bool
deriving DecidableEq, Repr

/-- One register row: the offsets `base + Σ i × stride`, its reset value and its writable fields. -/
structure RegSpec where
  base : Nat
  dims : List (Nat × Nat)
  reset : Word
  fields : List FieldSpec
deriving DecidableEq, Repr

/-- DEV.ID (R60): Part identity -/
abbrev Reg.DEV_ID : Nat := 0x0000
/-- DEV.REV (R60): Silicon stepping -/
abbrev Reg.DEV_REV : Nat := 0x0004
/-- DEV.FW_VER (R60): Running firmware version, major[31:16], minor[15:0] -/
abbrev Reg.DEV_FW_VER : Nat := 0x0008
/-- DEV.PLAN_GEN (R60): Generation of the loaded Plan; 0 when none is loaded -/
abbrev Reg.DEV_PLAN_GEN : Nat := 0x000C
/-- DEV.PLAN_HASH[0–7] (R60): SHA-256 of the loaded Plan, least significant word first -/
abbrev Reg.DEV_PLAN_HASH (n : Nat) : Nat := 0x0010 + 0x4 * n
/-- DEV.STAGE (R60): Service stage and flags; only SWR_REFUSED is W1C -/
abbrev Reg.DEV_STAGE : Nat := 0x0030
/-- DEV.RESET_CAUSE (R60): Cause of the last reset -/
abbrev Reg.DEV_RESET_CAUSE : Nat := 0x0034
/-- DEV.RESET_COUNT (R60): Resets since the last POR, BOR or Off exit; [15:0], saturating -/
abbrev Reg.DEV_RESET_COUNT : Nat := 0x0038
/-- DEV.STRAP (R60): Strap values -/
abbrev Reg.DEV_STRAP : Nat := 0x003C
/-- DEV.BOOT_DIAG (R60): Firmware and Plan slot outcomes -/
abbrev Reg.DEV_BOOT_DIAG : Nat := 0x0040
/-- DEV.T_REDUCED (R60): Time to reduced service, in µs from the moment from which the start's times are counted: t -/
abbrev Reg.DEV_T_REDUCED : Nat := 0x0044
/-- DEV.T_FULL (R60): Time to full service, same reference; 0 until reached -/
abbrev Reg.DEV_T_FULL : Nat := 0x0048
/-- DEV.SW_RESET (R60): Software reset (R57) -/
abbrev Reg.DEV_SW_RESET : Nat := 0x004C
/-- DEV.UID_LO (R60): Unique die identity [31:0] -/
abbrev Reg.DEV_UID_LO : Nat := 0x0050
/-- DEV.UID_HI (R60): Unique die identity [63:32] -/
abbrev Reg.DEV_UID_HI : Nat := 0x0054
/-- TIME.PT_LO (R86): PT[31:0]; a read latches TIME.PT_HI (R65) -/
abbrev Reg.TIME_PT_LO : Nat := 0x2000
/-- TIME.PT_HI (R86): PT[63:32] as latched -/
abbrev Reg.TIME_PT_HI : Nat := 0x2004
/-- TIME.STATUS (R86): Source, Kennel clock, PTM state, fraction -/
abbrev Reg.TIME_STATUS : Nat := 0x2008
/-- TIME.FIRC_PPM (R86): Signed FIRC × 4 deviation in ppm (R67) -/
abbrev Reg.TIME_FIRC_PPM : Nat := 0x200C
/-- TIME.REBASE_PT_LO (R86): PT of the last switch to XO, [31:0] -/
abbrev Reg.TIME_REBASE_PT_LO : Nat := 0x2010
/-- TIME.REBASE_PT_HI (R86): Same, [63:32] -/
abbrev Reg.TIME_REBASE_PT_HI : Nat := 0x2014
/-- TIME.SLEEP_TICKS_LO (R86): N of the last sleep, [31:0] -/
abbrev Reg.TIME_SLEEP_TICKS_LO : Nat := 0x2018
/-- TIME.SLEEP_TICKS_HI (R86): N, [47:32] in [15:0] -/
abbrev Reg.TIME_SLEEP_TICKS_HI : Nat := 0x201C
/-- TIME.KTICK_LO (R86): Kennel tick counter [31:0]; a read latches TIME.KTICK_HI -/
abbrev Reg.TIME_KTICK_LO : Nat := 0x2020
/-- TIME.KTICK_HI (R86): Kennel tick counter [47:32] in [15:0] -/
abbrev Reg.TIME_KTICK_HI : Nat := 0x2024
/-- TIME.KSEC (R86): Kennel seconds counter, wrapping -/
abbrev Reg.TIME_KSEC : Nat := 0x2028
/-- TIME.PTM_CTRL (R86): Dialogue period -/
abbrev Reg.TIME_PTM_CTRL : Nat := 0x2040
/-- TIME.PTM_SEQ (R86): Update sequence (R73) -/
abbrev Reg.TIME_PTM_SEQ : Nat := 0x2044
/-- TIME.PTM_PT_LO (R86): PTM_PT [31:0] -/
abbrev Reg.TIME_PTM_PT_LO : Nat := 0x2048
/-- TIME.PTM_PT_HI (R86): PTM_PT [63:32] -/
abbrev Reg.TIME_PTM_PT_HI : Nat := 0x204C
/-- TIME.PTM_HOST_LO (R86): PTM Master Time [31:0], ns -/
abbrev Reg.TIME_PTM_HOST_LO : Nat := 0x2050
/-- TIME.PTM_HOST_HI (R86): PTM Master Time [63:32] -/
abbrev Reg.TIME_PTM_HOST_HI : Nat := 0x2054
/-- TIME.PTM_RATE (R86): Signed rate deviation, ppb -/
abbrev Reg.TIME_PTM_RATE : Nat := 0x2058
/-- TIME.PTM_DELAY (R86): Link delay, ns -/
abbrev Reg.TIME_PTM_DELAY : Nat := 0x205C
/-- TIME.LEASH_GUAR[0–9] (R86): Guaranteed share -/
abbrev Reg.TIME_LEASH_GUAR (n : Nat) : Nat := 0x2100 + 0x4 * n
/-- TIME.LEASH_CEIL[0–9] (R86): Ceiling -/
abbrev Reg.TIME_LEASH_CEIL (n : Nat) : Nat := 0x2140 + 0x4 * n
/-- TIME.LEASH_USED[0–9] (R86): Cycles granted in the last complete frame -/
abbrev Reg.TIME_LEASH_USED (n : Nat) : Nat := 0x2180 + 0x4 * n
/-- TIME.LEASH_OVR[0–9] (R86): Overrun counters (R82) -/
abbrev Reg.TIME_LEASH_OVR (n : Nat) : Nat := 0x21C0 + 0x4 * n
/-- TIME.LEASH_HELD (R86): Bit n set while activity n + 1 is held -/
abbrev Reg.TIME_LEASH_HELD : Nat := 0x2200
/-- TIME.LEASH_CLR (R86): Bit n = 1 clears TIME.LEASH_OVR[n] -/
abbrev Reg.TIME_LEASH_CLR : Nat := 0x2204
/-- KEYS.CTRL (R115): Enable, DIODES, scan period, settle time -/
abbrev Reg.KEYS_CTRL : Nat := 0x3000
/-- KEYS.DEBOUNCE (R115): Matrix debounce times by role -/
abbrev Reg.KEYS_DEBOUNCE : Nat := 0x3004
/-- KEYS.STUCK_T (R115): t_stuck by role -/
abbrev Reg.KEYS_STUCK_T : Nat := 0x3008
/-- KEYS.SLEEP_CFG (R115): Kennel scan period -/
abbrev Reg.KEYS_SLEEP_CFG : Nat := 0x300C
/-- KEYS.STATUS (R115): Effective period and counts -/
abbrev Reg.KEYS_STATUS : Nat := 0x3010
/-- KEYS.LINE_FAULT (R115): Failed lines (R91) -/
abbrev Reg.KEYS_LINE_FAULT : Nat := 0x3014
/-- KEYS.LINE_USE (R115): Lines in use (R88) -/
abbrev Reg.KEYS_LINE_USE : Nat := 0x3018
/-- KEYS.WAKE_NODE (R115): Node of the last matrix wake (R108) -/
abbrev Reg.KEYS_WAKE_NODE : Nat := 0x301C
/-- KEYS.GHOST_CNT (R115): GHOST records of reasons 1 and 2, [15:0], saturating -/
abbrev Reg.KEYS_GHOST_CNT : Nat := 0x3020
/-- KEYS.STUCK_CNT (R115): Nodes that became stuck, [15:0], saturating -/
abbrev Reg.KEYS_STUCK_CNT : Nat := 0x3024
/-- KEYS.PAIR_FAULT_CNT (R115): Pair faults set, [15:0], saturating -/
abbrev Reg.KEYS_PAIR_FAULT_CNT : Nat := 0x3028
/-- KEYS.CNT_CLR (R115): Bits [2:0] = 1 clear the three counters above, in order -/
abbrev Reg.KEYS_CNT_CLR : Nat := 0x302C
/-- KEYS.NODE_CFG[0–63] (R115): Roles of nodes 4k to 4k + 3 -/
abbrev Reg.KEYS_NODE_CFG (n : Nat) : Nat := 0x3100 + 0x4 * n
/-- KEYS.SAFETY_SLOT[0–31] (R115): Node of safety slot n -/
abbrev Reg.KEYS_SAFETY_SLOT (n : Nat) : Nat := 0x3200 + 0x4 * n
/-- KEYS.STATE[0–7] (R115): Accepted closed nodes -/
abbrev Reg.KEYS_STATE (n : Nat) : Nat := 0x3280 + 0x4 * n
/-- KEYS.WITHHELD[0–7] (R115): Withheld nodes -/
abbrev Reg.KEYS_WITHHELD (n : Nat) : Nat := 0x32A0 + 0x4 * n
/-- KEYS.STUCK[0–7] (R115): Stuck nodes -/
abbrev Reg.KEYS_STUCK (n : Nat) : Nat := 0x32C0 + 0x4 * n
/-- KEYS.DI_CFG[0–15] (R115): Direct input n -/
abbrev Reg.KEYS_DI_CFG (n : Nat) : Nat := 0x3300 + 0x4 * n
/-- KEYS.DI_STATE (R115): Raw and accepted direct-input states -/
abbrev Reg.KEYS_DI_STATE : Nat := 0x3340
/-- KEYS.DI_PAIR_STATUS (R115): Pair faults -/
abbrev Reg.KEYS_DI_PAIR_STATUS : Nat := 0x3344
/-- MOTION.CLIFF_CTRL (R140): Modulation frequency -/
abbrev Reg.MOTION_CLIFF_CTRL : Nat := 0x4000
/-- MOTION.STATUS (R140): Frequency in use -/
abbrev Reg.MOTION_STATUS : Nat := 0x4004
/-- MOTION.CNT_CLR (R140): Clears fault counters -/
abbrev Reg.MOTION_CNT_CLR : Nat := 0x4008
/-- MOTION.ENC_WAKE[0–3] (R140): Motion wake threshold (R126) -/
abbrev Reg.MOTION_ENC_WAKE (n : Nat) : Nat := 0x4010 + 0x4 * n
/-- MOTION.KEDGES[0–3] (R140): Kennel edge counts of the last sleep -/
abbrev Reg.MOTION_KEDGES (n : Nat) : Nat := 0x4020 + 0x4 * n
/-- MOTION.ENC_CFG[n] (R140): Enable, filter, report, fault hold -/
abbrev Reg.MOTION_ENC_CFG (n : Nat) : Nat := 0x4100 + 0x20 * n
/-- MOTION.ENC_OVS[n] (R140): Overspeed threshold and count -/
abbrev Reg.MOTION_ENC_OVS (n : Nat) : Nat := 0x4104 + 0x20 * n
/-- MOTION.ENC_OVS_REL[n] (R140): Overspeed release interval -/
abbrev Reg.MOTION_ENC_OVS_REL (n : Nat) : Nat := 0x4108 + 0x20 * n
/-- MOTION.ENC_POS[n] (R140): Position; a read latches the next three (R119) -/
abbrev Reg.MOTION_ENC_POS (n : Nat) : Nat := 0x410C + 0x20 * n
/-- MOTION.ENC_EDGE_PT_LO[n] (R140): PT of the latest edge, [31:0] -/
abbrev Reg.MOTION_ENC_EDGE_PT_LO (n : Nat) : Nat := 0x4110 + 0x20 * n
/-- MOTION.ENC_EDGE_PT_HI[n] (R140): Same, [63:32] -/
abbrev Reg.MOTION_ENC_EDGE_PT_HI (n : Nat) : Nat := 0x4114 + 0x20 * n
/-- MOTION.ENC_INTERVAL[n] (R140): I (R122) -/
abbrev Reg.MOTION_ENC_INTERVAL (n : Nat) : Nat := 0x4118 + 0x20 * n
/-- MOTION.ENC_STATUS[n] (R140): Direction, node states, faults -/
abbrev Reg.MOTION_ENC_STATUS (n : Nat) : Nat := 0x411C + 0x20 * n
/-- MOTION.CLF_CFG[n] (R140): Role, range, IEMIT, PW, counts -/
abbrev Reg.MOTION_CLF_CFG (n : Nat) : Nat := 0x4200 + 0x20 * n
/-- MOTION.CLF_TH[n] (R140): Thresholds -/
abbrev Reg.MOTION_CLF_TH (n : Nat) : Nat := 0x4204 + 0x20 * n
/-- MOTION.CLF_EMIT[n] (R140): Short-detection voltage -/
abbrev Reg.MOTION_CLF_EMIT (n : Nat) : Nat := 0x4208 + 0x20 * n
/-- MOTION.CLF_RESULT[n] (R140): Latest REFL and AMBIENT -/
abbrev Reg.MOTION_CLF_RESULT (n : Nat) : Nat := 0x420C + 0x20 * n
/-- MOTION.CLF_STATUS[n] (R140): Flags, measured current, fault count -/
abbrev Reg.MOTION_CLF_STATUS (n : Nat) : Nat := 0x4210 + 0x20 * n
/-- HEDGE.STATUS (R170): Arm, holds, divergence -/
abbrev Reg.HEDGE_STATUS : Nat := 0x5000
/-- HEDGE.ACTIONS (R170): Action outputs -/
abbrev Reg.HEDGE_ACTIONS : Nat := 0x5004
/-- HEDGE.ACT_HW (R170): Hardware path actions -/
abbrev Reg.HEDGE_ACT_HW : Nat := 0x5008
/-- HEDGE.ACT_SD (R170): Sheepdog path actions -/
abbrev Reg.HEDGE_ACT_SD : Nat := 0x500C
/-- HEDGE.COND_HW (R170): Hardware condition vector -/
abbrev Reg.HEDGE_COND_HW : Nat := 0x5010
/-- HEDGE.COND_SD (R170): Sheepdog condition vector at the last evaluation -/
abbrev Reg.HEDGE_COND_SD : Nat := 0x5014
/-- HEDGE.LATCHED (R170): Rules latched on either path -/
abbrev Reg.HEDGE_LATCHED : Nat := 0x5018
/-- HEDGE.ARMED_REL (R170): Rules armed for release -/
abbrev Reg.HEDGE_ARMED_REL : Nat := 0x501C
/-- HEDGE.NODE[0–3] (R170): Node levels; bit b of word w is node 32w + b -/
abbrev Reg.HEDGE_NODE (n : Nat) : Nat := 0x5020 + 0x4 * n
/-- HEDGE.DIVERGE_CNT (R170): R148 -/
abbrev Reg.HEDGE_DIVERGE_CNT : Nat := 0x5030
/-- HEDGE.CNT_CLR (R170): Counter clear -/
abbrev Reg.HEDGE_CNT_CLR : Nat := 0x5034
/-- HEDGE.CTRL (R170): DOCK input -/
abbrev Reg.HEDGE_CTRL : Nat := 0x5038
/-- HEDGE.SLEEP_ACTIONS (R170): R153 -/
abbrev Reg.HEDGE_SLEEP_ACTIONS : Nat := 0x503C
/-- HEDGE.HB_CFG (R170): Heartbeat period -/
abbrev Reg.HEDGE_HB_CFG : Nat := 0x5040
/-- HEDGE.HB_STATUS (R170): Heartbeat state -/
abbrev Reg.HEDGE_HB_STATUS : Nat := 0x5044
/-- HEDGE.HB_MISS (R170): Heartbeat losses -/
abbrev Reg.HEDGE_HB_MISS : Nat := 0x5048
/-- HEDGE.SOFT (R170): Soft nodes -/
abbrev Reg.HEDGE_SOFT : Nat := 0x504C
/-- HEDGE.SOFT_DEFAULT (R170): Soft nodes at arm -/
abbrev Reg.HEDGE_SOFT_DEFAULT : Nat := 0x5050
/-- HEDGE.RULE_TRIPS[0–31] (R170): R168 -/
abbrev Reg.HEDGE_RULE_TRIPS (n : Nat) : Nat := 0x5100 + 0x4 * n
/-- HEDGE.SS_CTRL (R170): Safety sensor port -/
abbrev Reg.HEDGE_SS_CTRL : Nat := 0x5200
/-- HEDGE.SS_TX_LO (R170): Poll bytes 0–3 -/
abbrev Reg.HEDGE_SS_TX_LO : Nat := 0x5204
/-- HEDGE.SS_TX_HI (R170): Poll bytes 4–7 -/
abbrev Reg.HEDGE_SS_TX_HI : Nat := 0x5208
/-- HEDGE.SS_ID_TX (R170): Identity bytes 0–3 -/
abbrev Reg.HEDGE_SS_ID_TX : Nat := 0x520C
/-- HEDGE.SS_ID (R170): Identity check -/
abbrev Reg.HEDGE_SS_ID : Nat := 0x5210
/-- HEDGE.SS_AXIS (R170): Axis placement -/
abbrev Reg.HEDGE_SS_AXIS : Nat := 0x5214
/-- HEDGE.SS_TILT (R170): Tilt parameters -/
abbrev Reg.HEDGE_SS_TILT : Nat := 0x5218
/-- HEDGE.SS_REF_XY (R170): Reference X and Y -/
abbrev Reg.HEDGE_SS_REF_XY : Nat := 0x521C
/-- HEDGE.SS_REF_Z (R170): Reference Z -/
abbrev Reg.HEDGE_SS_REF_Z : Nat := 0x5220
/-- HEDGE.SS_STATUS (R170): Port flags -/
abbrev Reg.HEDGE_SS_STATUS : Nat := 0x5224
/-- HEDGE.SS_SAMPLE_XY (R170): Latest X and Y -/
abbrev Reg.HEDGE_SS_SAMPLE_XY : Nat := 0x5228
/-- HEDGE.SS_SAMPLE_Z (R170): Latest Z and angle -/
abbrev Reg.HEDGE_SS_SAMPLE_Z : Nat := 0x522C
/-- HEDGE.SS_ERR_CNT (R170): Failure counts -/
abbrev Reg.HEDGE_SS_ERR_CNT : Nat := 0x5230
/-- HEDGE.SSTOP_CFG (R170): Pulse test -/
abbrev Reg.HEDGE_SSTOP_CFG : Nat := 0x5300
/-- HEDGE.SSTOP_STATUS (R170): SAFE_STOP state -/
abbrev Reg.HEDGE_SSTOP_STATUS : Nat := 0x5304
/-- HEDGE.RULE_SEL (R170): Rule shown in the window -/
abbrev Reg.HEDGE_RULE_SEL : Nat := 0x5400
/-- HEDGE.RULE_CFG (R170): Rule configuration -/
abbrev Reg.HEDGE_RULE_CFG : Nat := 0x5404
/-- HEDGE.RULE_ACT (R170): Action mask -/
abbrev Reg.HEDGE_RULE_ACT : Nat := 0x5408
/-- HEDGE.TERM_MASK[t][w] (R170): Term t (0–3), nodes 32w to 32w + 31 -/
abbrev Reg.HEDGE_TERM_MASK (t : Nat) (w : Nat) : Nat := 0x5410 + 0x20 * t + 0x4 * w
/-- HEDGE.TERM_POL[t][w] (R170): Polarities, same layout -/
abbrev Reg.HEDGE_TERM_POL (t : Nat) (w : Nat) : Nat := 0x5420 + 0x20 * t + 0x4 * w
/-- HEDGE.RULE_CAUSE[0–3] (R170): Causes (R154) -/
abbrev Reg.HEDGE_RULE_CAUSE (n : Nat) : Nat := 0x5490 + 0x4 * n
/-- HEDGE.RULE_STATE (R170): Rule state -/
abbrev Reg.HEDGE_RULE_STATE : Nat := 0x54A0
/-- SEQ.CTRL (R198): Start policy, start groups, t_rest -/
abbrev Reg.SEQ_CTRL : Nat := 0x6000
/-- SEQ.STATUS (R198): Sequencer state and flags -/
abbrev Reg.SEQ_STATUS : Nat := 0x6004
/-- SEQ.GROUP_TARGET (R198): Target groups -/
abbrev Reg.SEQ_GROUP_TARGET : Nat := 0x6008
/-- SEQ.GROUP_GOOD (R198): Good groups (R178) -/
abbrev Reg.SEQ_GROUP_GOOD : Nat := 0x600C
/-- SEQ.PENDING (R198): Pending slot (R183) -/
abbrev Reg.SEQ_PENDING : Nat := 0x6010
/-- SEQ.GROUP_HELD (R198): Hedge-held groups -/
abbrev Reg.SEQ_GROUP_HELD : Nat := 0x6014
/-- SEQ.RAILS_ON (R198): Rails not `OFF` -/
abbrev Reg.SEQ_RAILS_ON : Nat := 0x6018
/-- SEQ.RAILS_GOOD (R198): Rails `GOOD` -/
abbrev Reg.SEQ_RAILS_GOOD : Nat := 0x601C
/-- SEQ.LATCH (R198): Start-failure latch (R188) -/
abbrev Reg.SEQ_LATCH : Nat := 0x6020
/-- SEQ.REST_LEFT (R198): ms left of t_rest -/
abbrev Reg.SEQ_REST_LEFT : Nat := 0x6024
/-- SEQ.RAIL_CFG[n] (R198): Groups and prerequisites -/
abbrev Reg.SEQ_RAIL_CFG (n : Nat) : Nat := 0x6100 + 0x20 * n
/-- SEQ.RAIL_SEQ[n] (R198): Enable mode, Herd step, ramp timeout, delay -/
abbrev Reg.SEQ_RAIL_SEQ (n : Nat) : Nat := 0x6104 + 0x20 * n
/-- SEQ.RAIL_TIME[n] (R198): Settle time -/
abbrev Reg.SEQ_RAIL_TIME (n : Nat) : Nat := 0x6108 + 0x20 * n
/-- SEQ.RAIL_DIS[n] (R198): Discharge threshold and timeout -/
abbrev Reg.SEQ_RAIL_DIS (n : Nat) : Nat := 0x610C + 0x20 * n
/-- SEQ.RAIL_STATUS[n] (R198): State, rank, flags -/
abbrev Reg.SEQ_RAIL_STATUS (n : Nat) : Nat := 0x6110 + 0x20 * n
/-- SEQ.RAIL_MEAS[n] (R198): Last ramp and discharge times -/
abbrev Reg.SEQ_RAIL_MEAS (n : Nat) : Nat := 0x6114 + 0x20 * n
/-- SUP.CTRL (R232): VIN_FAIL, VIN_HYST, SNAP_INT -/
abbrev Reg.SUP_CTRL : Nat := 0x7000
/-- SUP.STATUS (R232): Latch and supply flags -/
abbrev Reg.SUP_STATUS : Nat := 0x7004
/-- SUP.FAULT_LATCH (R232): Cause of `FAULT_OFF` (R211) -/
abbrev Reg.SUP_FAULT_LATCH : Nat := 0x7008
/-- SUP.FAULT_PT_LO (R232): PT of the decision, [31:0] -/
abbrev Reg.SUP_FAULT_PT_LO : Nat := 0x700C
/-- SUP.FAULT_PT_HI (R232): Same, [63:32] -/
abbrev Reg.SUP_FAULT_PT_HI : Nat := 0x7010
/-- SUP.SUPPLY (R232): Latest VIN and VHOLD -/
abbrev Reg.SUP_SUPPLY : Nat := 0x7014
/-- SUP.HOLD_CFG (R232): HOLD_READY -/
abbrev Reg.SUP_HOLD_CFG : Nat := 0x7018
/-- SUP.VIN_FAIL_CNT (R232): VIN_FAIL decisions, [15:0], saturating -/
abbrev Reg.SUP_VIN_FAIL_CNT : Nat := 0x701C
/-- SUP.CNT_STATUS (R232): Snapshot state -/
abbrev Reg.SUP_CNT_STATUS : Nat := 0x7020
/-- SUP.RAIL_CFG[n] (R232): Range, rate, filter, deglitch -/
abbrev Reg.SUP_RAIL_CFG (n : Nat) : Nat := 0x7100 + 0x20 * n
/-- SUP.RAIL_FTH[n] (R232): Fault threshold codes -/
abbrev Reg.SUP_RAIL_FTH (n : Nat) : Nat := 0x7104 + 0x20 * n
/-- SUP.RAIL_WTH[n] (R232): Warning levels -/
abbrev Reg.SUP_RAIL_WTH (n : Nat) : Nat := 0x7108 + 0x20 * n
/-- SUP.RAIL_WHYST[n] (R232): Warning hysteresis -/
abbrev Reg.SUP_RAIL_WHYST (n : Nat) : Nat := 0x710C + 0x20 * n
/-- SUP.RAIL_VALUE[n] (R232): Filtered value and flags -/
abbrev Reg.SUP_RAIL_VALUE (n : Nat) : Nat := 0x7110 + 0x20 * n
/-- SUP.RAIL_CNT_W[n] (R232): Warning counters -/
abbrev Reg.SUP_RAIL_CNT_W (n : Nat) : Nat := 0x7114 + 0x20 * n
/-- SUP.RAIL_CNT_F[n] (R232): Fault counters -/
abbrev Reg.SUP_RAIL_CNT_F (n : Nat) : Nat := 0x7118 + 0x20 * n
/-- SUP.RAIL_CNT_S[n] (R232): Sequence counters -/
abbrev Reg.SUP_RAIL_CNT_S (n : Nat) : Nat := 0x711C + 0x20 * n
/-- SUP.ON_CYCLES[0–23] (R232): ON_CYCLES, saturating -/
abbrev Reg.SUP_ON_CYCLES (n : Nat) : Nat := 0x7400 + 0x4 * n
/-- SUP.RAIL_MINMAX[0–23] (R232): Extremes (R208) -/
abbrev Reg.SUP_RAIL_MINMAX (n : Nat) : Nat := 0x7480 + 0x4 * n
/-- SEQ.HERD_CFG (R250): Membership -/
abbrev Reg.SEQ_HERD_CFG : Nat := 0x6800
/-- SEQ.HERD_TIME (R250): T_MUSTER, T_STEP -/
abbrev Reg.SEQ_HERD_TIME : Nat := 0x6804
/-- SEQ.HERD_STATUS (R250): State, step, line -/
abbrev Reg.SEQ_HERD_STATUS : Nat := 0x6808
/-- SEQ.HERD_ABORT (R250): Last abort -/
abbrev Reg.SEQ_HERD_ABORT : Nat := 0x680C
/-- SEQ.HERD_PULSE (R250): Last classified pulse -/
abbrev Reg.SEQ_HERD_PULSE : Nat := 0x6810
/-- SEQ.HERD_STEP_PT_LO (R250): PT of the current step's edge, [31:0] -/
abbrev Reg.SEQ_HERD_STEP_PT_LO : Nat := 0x6814
/-- SEQ.HERD_STEP_PT_HI (R250): Same, [63:32] -/
abbrev Reg.SEQ_HERD_STEP_PT_HI : Nat := 0x6818
/-- SEQ.HERD_CNT_A (R250): Calls and alarms -/
abbrev Reg.SEQ_HERD_CNT_A : Nat := 0x681C
/-- SEQ.HERD_CNT_B (R250): Invalid pulses and timeouts -/
abbrev Reg.SEQ_HERD_CNT_B : Nat := 0x6820
/-- SEQ.HERD_CNT_CLR (R250): Counter clear -/
abbrev Reg.SEQ_HERD_CNT_CLR : Nat := 0x6824
/-- BATT.CFG (R284): Cells, identity mode, auto FETs, balancing, zone -/
abbrev Reg.BATT_CFG : Nat := 0x8000
/-- BATT.SHUNT (R284): Shunt resistance -/
abbrev Reg.BATT_SHUNT : Nat := 0x8004
/-- BATT.CAP (R284): Design capacity -/
abbrev Reg.BATT_CAP : Nat := 0x8008
/-- BATT.COV (R284): Cell overvoltage -/
abbrev Reg.BATT_COV : Nat := 0x800C
/-- BATT.CUV (R284): Cell undervoltage -/
abbrev Reg.BATT_CUV : Nat := 0x8010
/-- BATT.OCD (R284): Discharge overcurrent -/
abbrev Reg.BATT_OCD : Nat := 0x8014
/-- BATT.SCD (R284): Short circuit -/
abbrev Reg.BATT_SCD : Nat := 0x8018
/-- BATT.PROT_CFG (R284): Alarm mask, relief, charger detection, retry -/
abbrev Reg.BATT_PROT_CFG : Nat := 0x801C
/-- BATT.FET_CFG (R284): Leak threshold -/
abbrev Reg.BATT_FET_CFG : Nat := 0x8020
/-- BATT.BAL_CFG (R284): Balancing -/
abbrev Reg.BATT_BAL_CFG : Nat := 0x8024
/-- BATT.GAUGE_CFG (R284): Gauge parameters -/
abbrev Reg.BATT_GAUGE_CFG : Nat := 0x8028
/-- BATT.REPORT (R284): SoC step for records -/
abbrev Reg.BATT_REPORT : Nat := 0x802C
/-- BATT.LP_WAKE (R284): Low-power wake (R276) -/
abbrev Reg.BATT_LP_WAKE : Nat := 0x8030
/-- BATT.ID_CFG (R284): Identity read -/
abbrev Reg.BATT_ID_CFG : Nat := 0x8034
/-- BATT.STATUS (R284): Protection and pack flags -/
abbrev Reg.BATT_STATUS : Nat := 0x8040
/-- BATT.FET (R284): Requests, outputs, holds -/
abbrev Reg.BATT_FET : Nat := 0x8044
/-- BATT.FET_FAULT (R284): Fault kinds (R264) -/
abbrev Reg.BATT_FET_FAULT : Nat := 0x8048
/-- BATT.CURRENT (R284): 1 ms current, signed mA -/
abbrev Reg.BATT_CURRENT : Nat := 0x804C
/-- BATT.CURRENT_1S (R284): 1 s current, signed mA -/
abbrev Reg.BATT_CURRENT_1S : Nat := 0x8050
/-- BATT.PACK_V (R284): Stack and PACKP voltages -/
abbrev Reg.BATT_PACK_V : Nat := 0x8054
/-- BATT.CELL[0–7] (R284): Cell voltages -/
abbrev Reg.BATT_CELL (n : Nat) : Nat := 0x8058 + 0x4 * n
/-- BATT.SOC (R284): SoC and SoH -/
abbrev Reg.BATT_SOC : Nat := 0x8078
/-- BATT.CAP_NOW (R284): REMCAP and FCC -/
abbrev Reg.BATT_CAP_NOW : Nat := 0x807C
/-- BATT.TTE (R284): TTE and cycle count -/
abbrev Reg.BATT_TTE : Nat := 0x8080
/-- BATT.GAUGE_STATUS (R284): Gauge flags -/
abbrev Reg.BATT_GAUGE_STATUS : Nat := 0x8084
/-- BATT.ACC_LO (R284): Net charge [31:0], µC -/
abbrev Reg.BATT_ACC_LO : Nat := 0x8088
/-- BATT.ACC_HI (R284): Net charge [63:32], as latched -/
abbrev Reg.BATT_ACC_HI : Nat := 0x808C
/-- BATT.Q_DSG (R284): Discharged mAh, saturating -/
abbrev Reg.BATT_Q_DSG : Nat := 0x8090
/-- BATT.Q_CHG (R284): Charged mAh, saturating -/
abbrev Reg.BATT_Q_CHG : Nat := 0x8094
/-- BATT.ID_LO (R284): Retained identity [31:0] -/
abbrev Reg.BATT_ID_LO : Nat := 0x8098
/-- BATT.ID_HI (R284): Retained identity [63:32] -/
abbrev Reg.BATT_ID_HI : Nat := 0x809C
/-- BATT.PROT_CNT_A (R284): COV and CUV counts -/
abbrev Reg.BATT_PROT_CNT_A : Nat := 0x80A0
/-- BATT.PROT_CNT_B (R284): OCD and SCD counts -/
abbrev Reg.BATT_PROT_CNT_B : Nat := 0x80A4
/-- BATT.CNT_CLR (R284): Count clear -/
abbrev Reg.BATT_CNT_CLR : Nat := 0x80A8
/-- BATT.BAL_STATUS (R284): Candidates and bleeding cells -/
abbrev Reg.BATT_BAL_STATUS : Nat := 0x80AC
/-- BATT.OCV[0–63] (R284): OCV table points -/
abbrev Reg.BATT_OCV (n : Nat) : Nat := 0x8100 + 0x4 * n
/-- BATT.OCV_TC[0–63] (R284): Temperature coefficients -/
abbrev Reg.BATT_OCV_TC (n : Nat) : Nat := 0x8200 + 0x4 * n
/-- DRIVE.M0_CFG (R308): Enable, Halls, reduced service, poles, gain, shunt -/
abbrev Reg.DRIVE_M0_CFG : Nat := 0x9000
/-- DRIVE.M0_PWM (R308): Dead time, PWM frequency -/
abbrev Reg.DRIVE_M0_PWM : Nat := 0x9004
/-- DRIVE.M0_MOTOR (R308): RS, LS -/
abbrev Reg.DRIVE_M0_MOTOR : Nat := 0x9008
/-- DRIVE.M0_KE (R308): Back-EMF constant -/
abbrev Reg.DRIVE_M0_KE : Nat := 0x900C
/-- DRIVE.M0_SPEED (R308): Speed loop, handoff, MAX_FREQ -/
abbrev Reg.DRIVE_M0_SPEED : Nat := 0x9010
/-- DRIVE.M0_RAMP (R308): ACCEL, DECEL -/
abbrev Reg.DRIVE_M0_RAMP : Nat := 0x9014
/-- DRIVE.M0_ILIM (R308): I_MAX, I_TRIP -/
abbrev Reg.DRIVE_M0_ILIM : Nat := 0x9018
/-- DRIVE.M0_ALIGN (R308): I_ALIGN, T_ALIGN -/
abbrev Reg.DRIVE_M0_ALIGN : Nat := 0x901C
/-- DRIVE.M0_OPEN (R308): I_RAMP, RAMP_RATE -/
abbrev Reg.DRIVE_M0_OPEN : Nat := 0x9020
/-- DRIVE.M0_BRAKE (R308): I_BRAKE, BRAKE_T -/
abbrev Reg.DRIVE_M0_BRAKE : Nat := 0x9024
/-- DRIVE.M0_PROT (R308): COAST_TO, VDS deglitch and threshold -/
abbrev Reg.DRIVE_M0_PROT : Nat := 0x9028
/-- DRIVE.M0_REGEN (R308): REGEN_I -/
abbrev Reg.DRIVE_M0_REGEN : Nat := 0x902C
/-- DRIVE.M0_GAIN_I (R308): Current loop gains -/
abbrev Reg.DRIVE_M0_GAIN_I : Nat := 0x9030
/-- DRIVE.M0_GAIN_S (R308): Speed loop gains -/
abbrev Reg.DRIVE_M0_GAIN_S : Nat := 0x9034
/-- DRIVE.M0_STATUS (R308): State and flags -/
abbrev Reg.DRIVE_M0_STATUS : Nat := 0x9040
/-- DRIVE.M0_MEAS (R308): Measured speed -/
abbrev Reg.DRIVE_M0_MEAS : Nat := 0x9044
/-- DRIVE.M0_TARGET (R308): Setpoint in use -/
abbrev Reg.DRIVE_M0_TARGET : Nat := 0x9048
/-- DRIVE.M0_IDQ (R308): Id, Iq -/
abbrev Reg.DRIVE_M0_IDQ : Nat := 0x904C
/-- DRIVE.M0_FAULT (R308): Fault record (R294) -/
abbrev Reg.DRIVE_M0_FAULT : Nat := 0x9050
/-- DRIVE.M0_CNT (R308): Starts and faults -/
abbrev Reg.DRIVE_M0_CNT : Nat := 0x9054
/-- DRIVE.CNT_CLR (R308): Counter clear -/
abbrev Reg.DRIVE_CNT_CLR : Nat := 0x9058
/-- DRIVE.FAN_CFG[n] (R308): Fan n configuration -/
abbrev Reg.DRIVE_FAN_CFG (n : Nat) : Nat := 0x9100 + 0x20 * n
/-- DRIVE.FAN_SPEED[n] (R308): F_MAX, F_MIN -/
abbrev Reg.DRIVE_FAN_SPEED (n : Nat) : Nat := 0x9104 + 0x20 * n
/-- DRIVE.FAN_START[n] (R308): Currents and start timing -/
abbrev Reg.DRIVE_FAN_START (n : Nat) : Nat := 0x9108 + 0x20 * n
/-- DRIVE.FAN_STATUS[n] (R308): State and flags -/
abbrev Reg.DRIVE_FAN_STATUS (n : Nat) : Nat := 0x910C + 0x20 * n
/-- DRIVE.FAN_MEAS[n] (R308): Speeds -/
abbrev Reg.DRIVE_FAN_MEAS (n : Nat) : Nat := 0x9110 + 0x20 * n
/-- DRIVE.FAN_SUPPLY[n] (R308): VFAN and current -/
abbrev Reg.DRIVE_FAN_SUPPLY (n : Nat) : Nat := 0x9114 + 0x20 * n
/-- DRIVE.FAN_CTRL (R308): FAN_PWM -/
abbrev Reg.DRIVE_FAN_CTRL : Nat := 0x9200
/-- THERM.CTRL (R331): RPULL -/
abbrev Reg.THERM_CTRL : Nat := 0xA000
/-- THERM.STATUS (R331): Zone flags -/
abbrev Reg.THERM_STATUS : Nat := 0xA004
/-- THERM.DEMAND (R331): Fan demands and overrides -/
abbrev Reg.THERM_DEMAND : Nat := 0xA008
/-- THERM.SLEEP_WAKE (R331): Die wake temperature (R327) -/
abbrev Reg.THERM_SLEEP_WAKE : Nat := 0xA00C
/-- THERM.CNT_CLR (R331): Counter clear -/
abbrev Reg.THERM_CNT_CLR : Nat := 0xA010
/-- THERM.ZONE_CFG[z] (R331): Enable, fault policy, fans, hysteresis -/
abbrev Reg.THERM_ZONE_CFG (n : Nat) : Nat := 0xA100 + 0x20 * n
/-- THERM.ZONE_LVL[z] (R331): WARN and CRIT -/
abbrev Reg.THERM_ZONE_LVL (n : Nat) : Nat := 0xA104 + 0x20 * n
/-- THERM.ZONE_SENS[z] (R331): NTC constants; HOST_TO for Z7 -/
abbrev Reg.THERM_ZONE_SENS (n : Nat) : Nat := 0xA108 + 0x20 * n
/-- THERM.ZONE_CURVE[z][0–3] (R331): Curve points 2j and 2j + 1 -/
abbrev Reg.THERM_ZONE_CURVE (n : Nat) (k : Nat) : Nat := 0xA10C + 0x20 * n + 0x4 * k
/-- THERM.ZONE_STATUS[z] (R331): Temperature, flags, demand -/
abbrev Reg.THERM_ZONE_STATUS (n : Nat) : Nat := 0xA11C + 0x20 * n
/-- THERM.ZONE_CNT[0–7] (R331): WARN and CRIT settings -/
abbrev Reg.THERM_ZONE_CNT (n : Nat) : Nat := 0xA200 + 0x4 * n
/-- THERM.FAN_FCFG[n] (R331): MIN_PCT, SLOW_T -/
abbrev Reg.THERM_FAN_FCFG (n : Nat) : Nat := 0xA300 + 0x10 * n
/-- THERM.FAN_FSTATUS[n] (R331): Latches, warnings, sequence -/
abbrev Reg.THERM_FAN_FSTATUS (n : Nat) : Nat := 0xA304 + 0x10 * n
/-- THERM.FAN_FCNT[n] (R331): Failed attempts, stalls -/
abbrev Reg.THERM_FAN_FCNT (n : Nat) : Nat := 0xA308 + 0x10 * n
/-- THERM.FAN_OVR[n] (R331): Override state -/
abbrev Reg.THERM_FAN_OVR (n : Nat) : Nat := 0xA30C + 0x10 * n
/-- DEV.RRP_OFFER (R360): Versions offered (R337) -/
abbrev Reg.DEV_RRP_OFFER : Nat := 0x0080
/-- DEV.RRP_ACCEPT (R360): Version chosen -/
abbrev Reg.DEV_RRP_ACCEPT : Nat := 0x0084
/-- DEV.FEAT0 (R360): Features advertised (R338) -/
abbrev Reg.DEV_FEAT0 : Nat := 0x0088
/-- DEV.FEAT1 (R360): Features enabled -/
abbrev Reg.DEV_FEAT1 : Nat := 0x008C
/-- DEV.DB_BASE_LO (R360): Doorbell page address [31:12] -/
abbrev Reg.DEV_DB_BASE_LO : Nat := 0x0090
/-- DEV.DB_BASE_HI (R360): Doorbell page address [63:32]; a write applies the pair -/
abbrev Reg.DEV_DB_BASE_HI : Nat := 0x0094
/-- DEV.DB_CTRL (R360): Poll and doze parameters -/
abbrev Reg.DEV_DB_CTRL : Nat := 0x0098
/-- DEV.NUDGE (R360): R352 -/
abbrev Reg.DEV_NUDGE : Nat := 0x009C
/-- DEV.RING_STATUS (R360): Engine state, commands in flight -/
abbrev Reg.DEV_RING_STATUS : Nat := 0x00A0
/-- DEV.RING_ERR (R360): Error causes for vector 0 -/
abbrev Reg.DEV_RING_ERR : Nat := 0x00A4
/-- DEV.RING_ERR_CTX (R360): Latest context failure -/
abbrev Reg.DEV_RING_ERR_CTX : Nat := 0x00A8
/-- DEV.NUDGE_CNT (R360): NUDGE counts -/
abbrev Reg.DEV_NUDGE_CNT : Nat := 0x00AC
/-- DEV.DOZE_CNT (R360): Doze counts -/
abbrev Reg.DEV_DOZE_CNT : Nat := 0x00B0
/-- DEV.RING_CNT_CLR (R360): Counter clear -/
abbrev Reg.DEV_RING_CNT_CLR : Nat := 0x00B4
/-- RING.CTX_CFG[c] (R362): Enable, type, format, sizes -/
abbrev Reg.RING_CTX_CFG (n : Nat) : Nat := 0xB000 + 0x40 * n
/-- RING.CTX_EPOCH[c] (R362): Session epoch (R342) -/
abbrev Reg.RING_CTX_EPOCH (n : Nat) : Nat := 0xB004 + 0x40 * n
/-- RING.SQ_BASE_LO[c] (R362): SQ or stream ring base [31:12] -/
abbrev Reg.RING_SQ_BASE_LO (n : Nat) : Nat := 0xB008 + 0x40 * n
/-- RING.SQ_BASE_HI[c] (R362): Same, [63:32] -/
abbrev Reg.RING_SQ_BASE_HI (n : Nat) : Nat := 0xB00C + 0x40 * n
/-- RING.CQ_BASE_LO[c] (R362): CQ base [31:12]; unused for STREAM -/
abbrev Reg.RING_CQ_BASE_LO (n : Nat) : Nat := 0xB010 + 0x40 * n
/-- RING.CQ_BASE_HI[c] (R362): Same, [63:32] -/
abbrev Reg.RING_CQ_BASE_HI (n : Nat) : Nat := 0xB014 + 0x40 * n
/-- RING.SUB_LO[c] (R362): Subscription mask [31:0] -/
abbrev Reg.RING_SUB_LO (n : Nat) : Nat := 0xB018 + 0x40 * n
/-- RING.SUB_HI[c] (R362): Subscription mask [63:32] -/
abbrev Reg.RING_SUB_HI (n : Nat) : Nat := 0xB01C + 0x40 * n
/-- RING.COAL[c] (R362): Coalescing (R355) -/
abbrev Reg.RING_COAL (n : Nat) : Nat := 0xB020 + 0x40 * n
/-- RING.CTX_STATUS[c] (R362): State, error, flags -/
abbrev Reg.RING_CTX_STATUS (n : Nat) : Nat := 0xB024 + 0x40 * n
/-- RING.CTX_POS[c] (R362): Engine positions -/
abbrev Reg.RING_CTX_POS (n : Nat) : Nat := 0xB028 + 0x40 * n
/-- RING.CTX_HOSTPOS[c] (R362): Host positions last read -/
abbrev Reg.RING_CTX_HOSTPOS (n : Nat) : Nat := 0xB02C + 0x40 * n
/-- RING.CTX_LOST[c] (R362): Records lost since creation, saturating -/
abbrev Reg.RING_CTX_LOST (n : Nat) : Nat := 0xB030 + 0x40 * n
/-- RING.CTX_CNT[c] (R362): Stale descriptors, messages -/
abbrev Reg.RING_CTX_CNT (n : Nat) : Nat := 0xB034 + 0x40 * n
/-- RING.CTX_SEQ[c] (R362): Next sequence number -/
abbrev Reg.RING_CTX_SEQ (n : Nat) : Nat := 0xB038 + 0x40 * n
/-- MSIX.ADDR_LO[v] (R365): Message address [31:2], v = 0–33 -/
abbrev Reg.MSIX_ADDR_LO (n : Nat) : Nat := 0xC000 + 0x10 * n
/-- MSIX.ADDR_HI[v] (R365): Message address [63:32] -/
abbrev Reg.MSIX_ADDR_HI (n : Nat) : Nat := 0xC004 + 0x10 * n
/-- MSIX.DATA[v] (R365): Message data -/
abbrev Reg.MSIX_DATA (n : Nat) : Nat := 0xC008 + 0x10 * n
/-- MSIX.VCTRL[v] (R365): Vector control -/
abbrev Reg.MSIX_VCTRL (n : Nat) : Nat := 0xC00C + 0x10 * n
/-- MSIX.PBA0 (R365): Pending bits of vectors 0–31 -/
abbrev Reg.MSIX_PBA0 : Nat := 0xC800
/-- MSIX.PBA1 (R365): Pending bits of vectors 32–33 -/
abbrev Reg.MSIX_PBA1 : Nat := 0xC804
/-- MBOX.CFG (R400): I2C address, PEC policy -/
abbrev Reg.MBOX_CFG : Nat := 0xF000
/-- MBOX.LINK_STATUS (R400): Mirror of the link word -/
abbrev Reg.MBOX_LINK_STATUS : Nat := 0xF004
/-- MBOX.LINK_CNT (R400): Frame error counts -/
abbrev Reg.MBOX_LINK_CNT : Nat := 0xF008
/-- MBOX.CNT_CLR (R400): Counter clear -/
abbrev Reg.MBOX_CNT_CLR : Nat := 0xF00C
/-- MBOX.PORT_STATUS[0–3] (R400): Control word mirror and state -/
abbrev Reg.MBOX_PORT_STATUS (n : Nat) : Nat := 0xF010 + 0x4 * n
/-- MBOX.PORT_SUB[0–3] (R400): Subscription masks, bits as R386 -/
abbrev Reg.MBOX_PORT_SUB (n : Nat) : Nat := 0xF020 + 0x4 * n
/-- MBOX.GP_CFG[0–7] (R400): GP pin n -/
abbrev Reg.MBOX_GP_CFG (n : Nat) : Nat := 0xF100 + 0x4 * n
/-- MBOX.GP_IN (R400): Pin levels -/
abbrev Reg.MBOX_GP_IN : Nat := 0xF120
/-- MBOX.GP_OUT (R400): Output levels -/
abbrev Reg.MBOX_GP_OUT : Nat := 0xF124
/-- FLASH.CTRL (R434): WEAK_THRESHOLD -/
abbrev Reg.FLASH_CTRL : Nat := 0xD000
/-- FLASH.STATUS0 (R434): Status word of bank 0 (R407) -/
abbrev Reg.FLASH_STATUS0 : Nat := 0xD004
/-- FLASH.STATUS1 (R434): Status word of bank 1 -/
abbrev Reg.FLASH_STATUS1 : Nat := 0xD008
/-- FLASH.LASTREAD (R434): Last host line read -/
abbrev Reg.FLASH_LASTREAD : Nat := 0xD00C
/-- FLASH.WEAK_FIFO (R434): Oldest logged line (R421) -/
abbrev Reg.FLASH_WEAK_FIFO : Nat := 0xD010
/-- FLASH.WEAK_STATUS (R434): FIFO state -/
abbrev Reg.FLASH_WEAK_STATUS : Nat := 0xD014
/-- FLASH.ECC_CNT (R434): Weak and uncorrectable lines -/
abbrev Reg.FLASH_ECC_CNT : Nat := 0xD018
/-- FLASH.CNT_CLR (R434): Counter clear -/
abbrev Reg.FLASH_CNT_CLR : Nat := 0xD01C
/-- FLASH.SUSPECT_CNT (R434): Suspect sectors per bank -/
abbrev Reg.FLASH_SUSPECT_CNT : Nat := 0xD020
/-- FLASH.WP_A (R434): User area A granules (R412) -/
abbrev Reg.FLASH_WP_A : Nat := 0xD024
/-- FLASH.WP_B (R434): User area B granules -/
abbrev Reg.FLASH_WP_B : Nat := 0xD028
/-- FLASH.JOURNAL_MASK (R434): R428 -/
abbrev Reg.FLASH_JOURNAL_MASK : Nat := 0xD02C
/-- FLASH.JOURNAL_HEAD (R434): Next SEQ -/
abbrev Reg.FLASH_JOURNAL_HEAD : Nat := 0xD030
/-- FLASH.JOURNAL_OLDEST (R434): Oldest retained SEQ -/
abbrev Reg.FLASH_JOURNAL_OLDEST : Nat := 0xD034
/-- FLASH.JOURNAL_STATUS (R434): Writer state -/
abbrev Reg.FLASH_JOURNAL_STATUS : Nat := 0xD038
/-- FLASH.MARKER_STATUS (R434): Marker areas -/
abbrev Reg.FLASH_MARKER_STATUS : Nat := 0xD03C
/-- FLASH.SUSPECT_MAP[0–31] (R434): Word w: bank w / 16, sectors 32 × (w mod 16) + bit -/
abbrev Reg.FLASH_SUSPECT_MAP (n : Nat) : Nat := 0xD100 + 0x4 * n
/-- PMC.CTRL (R474): Handshake limit, XO in Sleep -/
abbrev Reg.PMC_CTRL : Nat := 0x1000
/-- PMC.STATUS (R474): PMC state, target, alarm -/
abbrev Reg.PMC_STATUS : Nat := 0x1004
/-- PMC.WAKE_EN (R474): Gated sources (R463) -/
abbrev Reg.PMC_WAKE_EN : Nat := 0x1008
/-- PMC.WAKE_CFG (R474): WAKE pin and DOCK -/
abbrev Reg.PMC_WAKE_CFG : Nat := 0x100C
/-- PMC.WAKE_SRC (R474): First and pending sources (R466) -/
abbrev Reg.PMC_WAKE_SRC : Nat := 0x1010
/-- PMC.WAKE_PT_LO (R474): PT of the wake, [31:0] -/
abbrev Reg.PMC_WAKE_PT_LO : Nat := 0x1014
/-- PMC.WAKE_PT_HI (R474): Same, [63:32] -/
abbrev Reg.PMC_WAKE_PT_HI : Nat := 0x1018
/-- PMC.RUN_PENDING (R474): Sources detected while awake -/
abbrev Reg.PMC_RUN_PENDING : Nat := 0x101C
/-- PMC.ALARM (R474): Armed alarm value -/
abbrev Reg.PMC_ALARM : Nat := 0x1020
/-- PMC.REFUSE_LOG (R474): Blocks of the last abort -/
abbrev Reg.PMC_REFUSE_LOG : Nat := 0x1024
/-- PMC.REFUSE_REASON[0–3] (R474): Reasons by block -/
abbrev Reg.PMC_REFUSE_REASON (n : Nat) : Nat := 0x1028 + 0x4 * n
/-- PMC.OFF_BYTE (R474): Wake-source byte at the last start -/
abbrev Reg.PMC_OFF_BYTE : Nat := 0x1038
/-- PMC.CNT (R474): Entries and aborts -/
abbrev Reg.PMC_CNT : Nat := 0x103C
/-- PMC.CNT_CLR (R474): Counter clear -/
abbrev Reg.PMC_CNT_CLR : Nat := 0x1040
/-- PMC.IRQ_STATUS (R474): Causes of vector 1 -/
abbrev Reg.PMC_IRQ_STATUS : Nat := 0x1044
/-- PMC.IRQ_EN (R474): Vector 1 enables -/
abbrev Reg.PMC_IRQ_EN : Nat := 0x1048
/-- DEV.GATED_ACCESS (R476): First gated access (R470) -/
abbrev Reg.DEV_GATED_ACCESS : Nat := 0x0100
/-- DEV.GATED_CNT (R476): Gated accesses, [15:0], saturating -/
abbrev Reg.DEV_GATED_CNT : Nat := 0x0104
/-- DEV.GATED_CLR (R476): Bit 0 = 1 clears DEV.GATED_CNT -/
abbrev Reg.DEV_GATED_CLR : Nat := 0x0108
/-- BIST.CTRL (R498): Record policy -/
abbrev Reg.BIST_CTRL : Nat := 0xE000
/-- BIST.STATUS (R498): Engine state, latches -/
abbrev Reg.BIST_STATUS : Nat := 0xE004
/-- BIST.CYCLE_CNT (R498): Completed cycles, saturating -/
abbrev Reg.BIST_CYCLE_CNT : Nat := 0xE008
/-- BIST.CYCLE_TIME (R498): Cycle durations -/
abbrev Reg.BIST_CYCLE_TIME : Nat := 0xE00C
/-- BIST.FIRST_FAIL (R498): First failure since reset -/
abbrev Reg.BIST_FIRST_FAIL : Nat := 0xE010
/-- BIST.FAIL_MASK (R498): Failures since reset -/
abbrev Reg.BIST_FAIL_MASK : Nat := 0xE014
/-- BIST.UNUSABLE (R498): Unusable channels -/
abbrev Reg.BIST_UNUSABLE : Nat := 0xE018
/-- BIST.UNUSABLE_LINES (R498): Unusable matrix lines -/
abbrev Reg.BIST_UNUSABLE_LINES : Nat := 0xE01C
/-- BIST.UNUSABLE_ADC (R498): Unusable ADC-M rail channels -/
abbrev Reg.BIST_UNUSABLE_ADC : Nat := 0xE020
/-- BIST.FLASH_RETIRED (R498): Retired sectors -/
abbrev Reg.BIST_FLASH_RETIRED : Nat := 0xE024
/-- BIST.SRAM_ECC (R498): Corrected words -/
abbrev Reg.BIST_SRAM_ECC : Nat := 0xE028
/-- BIST.REF_DIFF (R498): Reference difference -/
abbrev Reg.BIST_REF_DIFF : Nat := 0xE02C
/-- BIST.CLK_DEV (R498): Clock deviations -/
abbrev Reg.BIST_CLK_DEV : Nat := 0xE030
/-- BIST.REQ (R498): Requested tests -/
abbrev Reg.BIST_REQ : Nat := 0xE034
/-- BIST.EN_STUCK (R498): Enables on while commanded off -/
abbrev Reg.BIST_EN_STUCK : Nat := 0xE038
/-- BIST.EN_LOW (R498): Enables off while commanded on -/
abbrev Reg.BIST_EN_LOW : Nat := 0xE03C
/-- BIST.CNT_CLR (R498): Counter clear -/
abbrev Reg.BIST_CNT_CLR : Nat := 0xE040
/-- BIST.TEST_CNT[0–14] (R498): Passes and failures of test n -/
abbrev Reg.BIST_TEST_CNT (n : Nat) : Nat := 0xE100 + 0x4 * n

/-- Rows of block DEV. -/
def rowsDEV : List RegSpec := [
  ⟨0x0000, [], 0x51526480, []⟩,  -- DEV.ID
  ⟨0x0004, [], 0x000000B0, []⟩,  -- DEV.REV
  ⟨0x0030, [], 0x000000C0, [⟨15, 15, .w1c, 0, 1, false⟩]⟩,  -- DEV.STAGE
  ⟨0x0034, [], 0x00010001, []⟩,  -- DEV.RESET_CAUSE
  ⟨0x0050, [], 0x00000001, []⟩  -- DEV.UID_LO
]

/-- Rows of block TIME. -/
def rowsTIME0 : List RegSpec := [
  ⟨0x2008, [], 0x00000004, []⟩,  -- TIME.STATUS
  ⟨0x200C, [], 0x80000000, []⟩,  -- TIME.FIRC_PPM
  ⟨0x2040, [], 0x00000064, [⟨9, 0, .rw, 1, 1000, false⟩]⟩,  -- TIME.PTM_CTRL
  ⟨0x2100, [], 0x00004B00, [⟨16, 0, .rwl, 9600, 96000, false⟩]⟩,  -- LEASH_GUAR[0] (R84)
  ⟨0x2104, [], 0x00004B00, [⟨16, 0, .rwl, 0, 96000, false⟩]⟩,  -- LEASH_GUAR[1] (R84)
  ⟨0x2108, [], 0x00003840, [⟨16, 0, .rwl, 0, 96000, false⟩]⟩,  -- LEASH_GUAR[2] (R84)
  ⟨0x210C, [], 0x000003C0, [⟨16, 0, .rwl, 0, 96000, false⟩]⟩,  -- LEASH_GUAR[3] (R84)
  ⟨0x2110, [], 0x000012C0, [⟨16, 0, .rwl, 0, 96000, false⟩]⟩,  -- LEASH_GUAR[4] (R84)
  ⟨0x2114, [], 0x000012C0, [⟨16, 0, .rwl, 0, 96000, false⟩]⟩,  -- LEASH_GUAR[5] (R84)
  ⟨0x2118, [], 0x000003C0, [⟨16, 0, .rwl, 480, 96000, false⟩]⟩,  -- LEASH_GUAR[6] (R84)
  ⟨0x211C, [], 0x000012C0, [⟨16, 0, .rwl, 1920, 4800, false⟩]⟩,  -- LEASH_GUAR[7] (R84)
  ⟨0x2120, [], 0x000012C0, [⟨16, 0, .rwl, 2400, 96000, false⟩]⟩,  -- LEASH_GUAR[8] (R84)
  ⟨0x2124, [], 0x00000000, [⟨16, 0, .rwl, 0, 96000, false⟩]⟩,  -- LEASH_GUAR[9] (R84)
  ⟨0x2140, [], 0x00009600, [⟨16, 0, .rwl, 0, 96000, false⟩]⟩,  -- LEASH_CEIL[0] (R84)
  ⟨0x2144, [], 0x0000E100, [⟨16, 0, .rwl, 0, 96000, false⟩]⟩,  -- LEASH_CEIL[1] (R84)
  ⟨0x2148, [], 0x0000BB80, [⟨16, 0, .rwl, 0, 96000, false⟩]⟩,  -- LEASH_CEIL[2] (R84)
  ⟨0x214C, [], 0x000012C0, [⟨16, 0, .rwl, 0, 96000, false⟩]⟩,  -- LEASH_CEIL[3] (R84)
  ⟨0x2150, [], 0x00002580, [⟨16, 0, .rwl, 0, 96000, false⟩]⟩,  -- LEASH_CEIL[4] (R84)
  ⟨0x2154, [], 0x00004B00, [⟨16, 0, .rwl, 0, 96000, false⟩]⟩,  -- LEASH_CEIL[5] (R84)
  ⟨0x2158, [], 0x000012C0, [⟨16, 0, .rwl, 0, 96000, false⟩]⟩  -- LEASH_CEIL[6] (R84)
]

/-- Rows of block TIME. -/
def rowsTIME1 : List RegSpec := [
  ⟨0x215C, [], 0x000012C0, [⟨16, 0, .rwl, 0, 4800, false⟩]⟩,  -- LEASH_CEIL[7] (R84)
  ⟨0x2160, [], 0x00003840, [⟨16, 0, .rwl, 0, 96000, false⟩]⟩,  -- LEASH_CEIL[8] (R84)
  ⟨0x2164, [], 0x00002580, [⟨16, 0, .rwl, 0, 96000, false⟩]⟩  -- LEASH_CEIL[9] (R84)
]

/-- Rows of block KEYS. -/
def rowsKEYS : List RegSpec := [
  ⟨0x3000, [], 0x000A0010, [⟨20, 16, .rwl, 5, 20, false⟩, ⟨7, 4, .rwl, 0, 15, false⟩, ⟨1, 1, .rwl, 0, 1, false⟩, ⟨0, 0, .rwl, 0, 1, false⟩]⟩,  -- KEYS.CTRL
  ⟨0x3004, [], 0x00000205, [⟨15, 8, .rwl, 1, 8, false⟩, ⟨7, 0, .rwl, 2, 64, false⟩]⟩,  -- KEYS.DEBOUNCE
  ⟨0x3008, [], 0x000A001E, [⟨31, 16, .rwl, 1, 60, false⟩, ⟨15, 0, .rwl, 1, 600, false⟩]⟩,  -- KEYS.STUCK_T
  ⟨0x300C, [], 0x00000001, [⟨2, 0, .rwl, 0, 7, false⟩]⟩,  -- KEYS.SLEEP_CFG
  ⟨0x301C, [], 0x0000FFFF, []⟩,  -- KEYS.WAKE_NODE
  ⟨0x3100, [(0x4, 64)], 0x00000000, [⟨2, 2, .rwl, 0, 1, false⟩, ⟨10, 10, .rwl, 0, 1, false⟩, ⟨18, 18, .rwl, 0, 1, false⟩, ⟨26, 26, .rwl, 0, 1, false⟩, ⟨1, 0, .rwl, 0, 3, false⟩, ⟨9, 8, .rwl, 0, 3, false⟩, ⟨17, 16, .rwl, 0, 3, false⟩, ⟨25, 24, .rwl, 0, 3, false⟩]⟩,  -- KEYS.NODE_CFG[0–63]
  ⟨0x3200, [(0x4, 32)], 0x00000000, [⟨31, 31, .rwl, 0, 1, false⟩, ⟨7, 0, .rwl, 0, 255, false⟩]⟩,  -- KEYS.SAFETY_SLOT[0–31]
  ⟨0x3300, [(0x4, 16)], 0x14000000, [⟨31, 24, .rwl, 1, 255, false⟩, ⟨23, 16, .rwl, 1, 100, true⟩, ⟨9, 9, .rwl, 0, 1, false⟩, ⟨8, 8, .rwl, 0, 1, false⟩, ⟨5, 4, .rwl, 0, 2, false⟩, ⟨3, 3, .rwl, 0, 1, false⟩, ⟨1, 0, .rwl, 0, 3, false⟩]⟩  -- KEYS.DI_CFG[0–15]
]

/-- Rows of block MOTION. -/
def rowsMOTION : List RegSpec := [
  ⟨0x4000, [], 0x00000004, [⟨3, 0, .rwl, 1, 8, false⟩]⟩,  -- MOTION.CLIFF_CTRL
  ⟨0x4010, [(0x4, 4)], 0x00000000, [⟨15, 0, .rwl, 1, 65535, true⟩]⟩,  -- MOTION.ENC_WAKE[0–3]
  ⟨0x4100, [(0x20, 4)], 0x0190000A, [⟨27, 18, .rwl, 2, 1000, false⟩, ⟨17, 8, .rwl, 0, 1000, false⟩, ⟨7, 7, .rwl, 0, 1, false⟩, ⟨6, 6, .rwl, 0, 1, false⟩, ⟨5, 0, .rwl, 0, 61, false⟩]⟩,  -- MOTION.ENC_CFG[n]
  ⟨0x4104, [(0x20, 4)], 0x08000000, [⟨31, 24, .rwl, 1, 255, false⟩, ⟨23, 0, .rwl, 0, 16777215, false⟩]⟩,  -- MOTION.ENC_OVS[n]
  ⟨0x4108, [(0x20, 4)], 0x00000000, [⟨23, 0, .rwl, 0, 16777215, false⟩]⟩,  -- MOTION.ENC_OVS_REL[n]
  ⟨0x4118, [(0x20, 4)], 0xFFFFFFFF, []⟩,  -- MOTION.ENC_INTERVAL[n]
  ⟨0x411C, [(0x20, 4)], 0x00000000, [⟨3, 3, .w1c, 0, 1, false⟩]⟩,  -- MOTION.ENC_STATUS[n]
  ⟨0x4200, [(0x20, 8)], 0x01028644, [⟨29, 22, .rwl, 1, 255, false⟩, ⟨21, 20, .rwl, 0, 3, false⟩, ⟨18, 12, .rwl, 20, 100, false⟩, ⟨11, 4, .rwl, 20, 250, false⟩, ⟨3, 2, .rwl, 0, 2, false⟩, ⟨1, 0, .rwl, 0, 2, false⟩]⟩,  -- MOTION.CLF_CFG[n]
  ⟨0x4204, [(0x20, 8)], 0x00000000, [⟨31, 16, .rwl, 0, 65535, false⟩, ⟨15, 0, .rwl, 0, 65535, false⟩]⟩,  -- MOTION.CLF_TH[n]
  ⟨0x4208, [(0x20, 8)], 0x0000001E, [⟨7, 0, .rwl, 10, 50, false⟩]⟩  -- MOTION.CLF_EMIT[n]
]

/-- Rows of block HEDGE. -/
def rowsHEDGE0 : List RegSpec := [
  ⟨0x5000, [], 0x00000080, []⟩,  -- HEDGE.STATUS
  ⟨0x5004, [], 0x000E01FD, []⟩,  -- HEDGE.ACTIONS
  ⟨0x5038, [], 0x00000000, [⟨1, 1, .rwl, 0, 1, false⟩, ⟨0, 0, .rwl, 0, 1, false⟩]⟩,  -- HEDGE.CTRL
  ⟨0x503C, [], 0x000001FD, [⟨20, 0, .rwl, 0, 2097151, false⟩]⟩,  -- HEDGE.SLEEP_ACTIONS
  ⟨0x5040, [], 0x00000000, [⟨9, 0, .rwl, 10, 1000, true⟩]⟩,  -- HEDGE.HB_CFG
  ⟨0x5050, [], 0x00000000, [⟨15, 0, .rwl, 0, 65535, false⟩]⟩,  -- HEDGE.SOFT_DEFAULT
  ⟨0x5200, [], 0x00000000, [⟨23, 20, .rwl, 0, 15, false⟩, ⟨19, 17, .rwl, 0, 7, false⟩, ⟨16, 15, .rwl, 0, 3, false⟩, ⟨14, 9, .rwl, 5, 47, false⟩, ⟨8, 8, .rwl, 0, 1, false⟩, ⟨0, 0, .rwl, 0, 1, false⟩]⟩,  -- HEDGE.SS_CTRL
  ⟨0x5204, [], 0x00000000, [⟨31, 0, .rwl, 0, 4294967295, false⟩]⟩,  -- HEDGE.SS_TX_LO
  ⟨0x5208, [], 0x00000000, [⟨31, 0, .rwl, 0, 4294967295, false⟩]⟩,  -- HEDGE.SS_TX_HI
  ⟨0x520C, [], 0x00000000, [⟨31, 0, .rwl, 0, 4294967295, false⟩]⟩,  -- HEDGE.SS_ID_TX
  ⟨0x5210, [], 0x00000000, [⟨23, 16, .rwl, 0, 255, false⟩, ⟨15, 8, .rwl, 0, 255, false⟩]⟩,  -- HEDGE.SS_ID
  ⟨0x5214, [], 0x00100000, [⟨20, 16, .rwl, 8, 16, false⟩, ⟨12, 12, .rwl, 0, 1, false⟩, ⟨11, 8, .rwl, 0, 15, false⟩, ⟨7, 4, .rwl, 0, 15, false⟩, ⟨3, 0, .rwl, 0, 15, false⟩]⟩,  -- HEDGE.SS_AXIS
  ⟨0x5218, [], 0x0064031E, [⟨31, 31, .rwl, 0, 1, false⟩, ⟨24, 16, .rwl, 10, 500, false⟩, ⟨11, 8, .rwl, 1, 10, false⟩, ⟨5, 0, .rwl, 5, 60, false⟩]⟩,  -- HEDGE.SS_TILT
  ⟨0x521C, [], 0x00000000, [⟨31, 16, .rwl, 0, 65535, false⟩, ⟨15, 0, .rwl, 0, 65535, false⟩]⟩,  -- HEDGE.SS_REF_XY
  ⟨0x5220, [], 0x00000000, [⟨15, 0, .rwl, 0, 65535, false⟩]⟩,  -- HEDGE.SS_REF_Z
  ⟨0x5300, [], 0x00000A00, [⟨12, 8, .rwl, 5, 30, false⟩, ⟨3, 0, .rwl, 0, 15, false⟩]⟩,  -- HEDGE.SSTOP_CFG
  ⟨0x5304, [], 0x0000000F, []⟩,  -- HEDGE.SSTOP_STATUS
  ⟨0x5400, [], 0x00000000, [⟨4, 0, .rw, 0, 31, false⟩]⟩,  -- HEDGE.RULE_SEL
  ⟨0x5404, [], 0x00000000, [⟨31, 31, .rwl, 0, 1, false⟩, ⟨11, 4, .rwl, 0, 255, false⟩, ⟨3, 3, .rwl, 0, 1, false⟩, ⟨2, 1, .rwl, 0, 2, false⟩, ⟨0, 0, .rwl, 0, 1, false⟩]⟩,  -- HEDGE.RULE_CFG
  ⟨0x5408, [], 0x00000000, [⟨20, 0, .rwl, 0, 2097151, false⟩]⟩  -- HEDGE.RULE_ACT
]

/-- Rows of block HEDGE. -/
def rowsHEDGE1 : List RegSpec := [
  ⟨0x5410, [(0x20, 4), (0x4, 4)], 0x00000000, [⟨31, 0, .rwl, 0, 4294967295, false⟩]⟩,  -- HEDGE.TERM_MASK[t][w]
  ⟨0x5420, [(0x20, 4), (0x4, 4)], 0x00000000, [⟨31, 0, .rwl, 0, 4294967295, false⟩]⟩  -- HEDGE.TERM_POL[t][w]
]

/-- Rows of block SEQ. -/
def rowsSEQ : List RegSpec := [
  ⟨0x6000, [], 0x00C80000, [⟨24, 16, .rwl, 10, 500, false⟩, ⟨15, 8, .rwl, 0, 255, false⟩, ⟨1, 1, .rwl, 0, 1, false⟩, ⟨0, 0, .rwl, 0, 1, false⟩]⟩,  -- SEQ.CTRL
  ⟨0x6100, [(0x20, 24)], 0x00000000, [⟨31, 24, .rwl, 0, 255, false⟩, ⟨23, 23, .rwl, 0, 1, false⟩, ⟨22, 18, .rwl, 0, 23, false⟩, ⟨17, 17, .rwl, 0, 1, false⟩, ⟨16, 12, .rwl, 0, 23, false⟩, ⟨11, 11, .rwl, 0, 1, false⟩, ⟨10, 6, .rwl, 0, 23, false⟩, ⟨5, 5, .rwl, 0, 1, false⟩, ⟨4, 0, .rwl, 0, 23, false⟩]⟩,  -- SEQ.RAIL_CFG[n]
  ⟨0x6104, [(0x20, 24)], 0x00190000, [⟨29, 29, .rwl, 0, 1, false⟩, ⟨28, 24, .rwl, 0, 31, false⟩, ⟨23, 14, .rwl, 1, 1000, false⟩, ⟨13, 0, .rwl, 0, 10000, false⟩]⟩,  -- SEQ.RAIL_SEQ[n]
  ⟨0x6108, [(0x20, 24)], 0x00000032, [⟨13, 0, .rwl, 1, 10000, false⟩]⟩,  -- SEQ.RAIL_TIME[n]
  ⟨0x610C, [(0x20, 24)], 0x012C0064, [⟨28, 16, .rwl, 0, 6000, false⟩, ⟨9, 0, .rwl, 1, 1000, false⟩]⟩,  -- SEQ.RAIL_DIS[n]
  ⟨0x6110, [(0x20, 24)], 0x00000000, [⟨6, 6, .w1c, 0, 1, false⟩]⟩  -- SEQ.RAIL_STATUS[n]
]

/-- Rows of block SUP. -/
def rowsSUP : List RegSpec := [
  ⟨0x7000, [], 0x0A05005A, [⟨31, 24, .rwl, 1, 60, false⟩, ⟨20, 16, .rwl, 2, 20, false⟩, ⟨8, 0, .rwl, 50, 300, false⟩]⟩,  -- SUP.CTRL
  ⟨0x7018, [], 0x00000048, [⟨6, 0, .rwl, 48, 115, false⟩]⟩,  -- SUP.HOLD_CFG
  ⟨0x7100, [(0x20, 24)], 0x00040F00, [⟨21, 16, .rwl, 0, 63, false⟩, ⟨13, 8, .rwl, 0, 63, false⟩, ⟨4, 2, .rwl, 0, 5, false⟩, ⟨1, 1, .rwl, 0, 1, false⟩, ⟨0, 0, .rwl, 0, 1, false⟩]⟩,  -- SUP.RAIL_CFG[n]
  ⟨0x7104, [(0x20, 24)], 0x00000000, [⟨25, 16, .rwl, 0, 1023, false⟩, ⟨9, 0, .rwl, 0, 1023, false⟩]⟩,  -- SUP.RAIL_FTH[n]
  ⟨0x7108, [(0x20, 24)], 0x00000000, [⟨31, 16, .rwl, 0, 65535, false⟩, ⟨15, 0, .rwl, 0, 65535, false⟩]⟩,  -- SUP.RAIL_WTH[n]
  ⟨0x710C, [(0x20, 24)], 0x00000032, [⟨15, 0, .rwl, 1, 1000, false⟩]⟩,  -- SUP.RAIL_WHYST[n]
  ⟨0x7480, [(0x4, 24)], 0x0000FFFF, []⟩  -- SUP.RAIL_MINMAX[0–23]
]

/-- Rows of block SEQ. -/
def rowsSEQ1 : List RegSpec := [
  ⟨0x6800, [], 0x00000700, [⟨31, 31, .rwl, 0, 1, false⟩, ⟨25, 24, .rwl, 0, 3, false⟩, ⟨20, 16, .rwl, 1, 31, false⟩, ⟨10, 8, .rwl, 0, 7, false⟩, ⟨7, 0, .rwl, 0, 255, false⟩]⟩,  -- SEQ.HERD_CFG
  ⟨0x6804, [], 0x00640032, [⟨25, 16, .rwl, 10, 1000, false⟩, ⟨8, 0, .rwl, 1, 500, false⟩]⟩,  -- SEQ.HERD_TIME
  ⟨0x6808, [], 0x00000007, [⟨20, 20, .w1c, 0, 1, false⟩]⟩  -- SEQ.HERD_STATUS
]

/-- Rows of block BATT. -/
def rowsBATT : List RegSpec := [
  ⟨0x8000, [], 0x00100060, [⟨23, 20, .rwl, 1, 7, false⟩, ⟨17, 16, .rwl, 0, 2, false⟩, ⟨7, 7, .rwl, 0, 1, false⟩, ⟨6, 6, .rwl, 0, 1, false⟩, ⟨5, 5, .rwl, 0, 1, false⟩, ⟨3, 0, .rwl, 2, 8, true⟩]⟩,  -- BATT.CFG
  ⟨0x8004, [], 0x00000000, [⟨15, 0, .rwl, 100, 65535, false⟩]⟩,  -- BATT.SHUNT
  ⟨0x8008, [], 0x00000000, [⟨15, 0, .rwl, 100, 65535, false⟩]⟩,  -- BATT.CAP
  ⟨0x800C, [], 0x6464109A, [⟨31, 24, .rwl, 1, 255, false⟩, ⟨23, 16, .rwl, 10, 255, false⟩, ⟨12, 0, .rwl, 0, 8191, false⟩]⟩,  -- BATT.COV
  ⟨0x8010, [], 0x64C80A8C, [⟨31, 24, .rwl, 1, 255, false⟩, ⟨23, 16, .rwl, 10, 255, false⟩, ⟨12, 0, .rwl, 0, 8191, false⟩]⟩,  -- BATT.CUV
  ⟨0x8014, [], 0x000A0032, [⟨23, 16, .rwl, 1, 100, false⟩, ⟨6, 0, .rwl, 4, 100, false⟩]⟩,  -- BATT.OCD
  ⟨0x8018, [], 0x00000614, [⟨11, 8, .rwl, 0, 10, false⟩, ⟨5, 0, .rwl, 2, 40, false⟩]⟩,  -- BATT.SCD
  ⟨0x801C, [], 0x0F321450, [⟨27, 24, .rwl, 0, 15, false⟩, ⟨23, 16, .rwl, 5, 255, false⟩, ⟨15, 8, .rwl, 10, 100, false⟩, ⟨7, 4, .rwl, 1, 15, false⟩, ⟨0, 0, .rwl, 0, 1, false⟩]⟩,  -- BATT.PROT_CFG
  ⟨0x8020, [], 0x00000064, [⟨9, 0, .rwl, 10, 1000, false⟩]⟩,  -- BATT.FET_CFG
  ⟨0x8024, [], 0x00140ED8, [⟨23, 16, .rwl, 5, 100, false⟩, ⟨12, 0, .rwl, 3000, 4300, false⟩]⟩,  -- BATT.BAL_CFG
  ⟨0x8028, [], 0x5A280300, [⟨31, 24, .rwl, 50, 100, false⟩, ⟨23, 16, .rwl, 20, 80, false⟩, ⟨15, 8, .rwl, 3, 24, false⟩, ⟨7, 0, .rwl, 0, 100, false⟩]⟩,  -- BATT.GAUGE_CFG
  ⟨0x802C, [], 0x0000000A, [⟨7, 0, .rwl, 1, 100, false⟩]⟩,  -- BATT.REPORT
  ⟨0x8030, [], 0x00000000, [⟨31, 31, .rwl, 0, 1, false⟩, ⟨28, 16, .rwl, 10, 5000, true⟩, ⟨13, 0, .rwl, 0, 16383, false⟩]⟩,  -- BATT.LP_WAKE
  ⟨0x8034, [], 0x00050050, [⟨23, 16, .rwl, 1, 20, false⟩, ⟨15, 8, .rwl, 0, 255, false⟩, ⟨6, 0, .rwl, 0, 127, false⟩]⟩,  -- BATT.ID_CFG
  ⟨0x8080, [], 0x0000FFFF, []⟩,  -- BATT.TTE
  ⟨0x8100, [(0x4, 64)], 0x00000000, [⟨31, 16, .rwl, 0, 65535, false⟩, ⟨15, 0, .rwl, 0, 65535, false⟩]⟩,  -- BATT.OCV[0–63]
  ⟨0x8200, [(0x4, 64)], 0x00000000, [⟨15, 0, .rwl, 0, 65535, false⟩]⟩  -- BATT.OCV_TC[0–63]
]

/-- Rows of block DRIVE. -/
def rowsDRIVE : List RegSpec := [
  ⟨0x9000, [], 0x00000000, [⟨31, 31, .rwl, 0, 1, false⟩, ⟨30, 30, .rwl, 0, 1, false⟩, ⟨29, 29, .rwl, 0, 1, false⟩, ⟨23, 20, .rwl, 1, 8, false⟩, ⟨19, 18, .rwl, 0, 3, false⟩, ⟨15, 0, .rwl, 100, 65535, false⟩]⟩,  -- DRIVE.M0_CFG
  ⟨0x9004, [], 0x00300014, [⟨23, 16, .rwl, 2, 192, false⟩, ⟨6, 0, .rwl, 16, 64, false⟩]⟩,  -- DRIVE.M0_PWM
  ⟨0x9008, [], 0x00000000, [⟨31, 16, .rwl, 1, 65535, false⟩, ⟨15, 0, .rwl, 1, 65535, false⟩]⟩,  -- DRIVE.M0_MOTOR
  ⟨0x900C, [], 0x00000000, [⟨23, 0, .rwl, 1, 16777215, false⟩]⟩,  -- DRIVE.M0_KE
  ⟨0x9010, [], 0x020A0000, [⟨31, 24, .rwl, 1, 8, false⟩, ⟨23, 16, .rwl, 5, 20, false⟩, ⟨12, 0, .rwl, 100, 4000, false⟩]⟩,  -- DRIVE.M0_SPEED
  ⟨0x9014, [], 0x00000000, [⟨31, 16, .rwl, 1, 65535, false⟩, ⟨15, 0, .rwl, 1, 65535, false⟩]⟩,  -- DRIVE.M0_RAMP
  ⟨0x9018, [], 0x00000000, [⟨31, 16, .rwl, 1, 65535, false⟩, ⟨15, 0, .rwl, 1, 65535, false⟩]⟩,  -- DRIVE.M0_ILIM
  ⟨0x901C, [], 0x00000000, [⟨31, 16, .rwl, 0, 65535, false⟩, ⟨15, 0, .rwl, 10, 2000, false⟩]⟩,  -- DRIVE.M0_ALIGN
  ⟨0x9020, [], 0x00000000, [⟨31, 16, .rwl, 0, 65535, false⟩, ⟨15, 0, .rwl, 1, 10000, false⟩]⟩,  -- DRIVE.M0_OPEN
  ⟨0x9024, [], 0x00000000, [⟨31, 16, .rwl, 0, 65535, false⟩, ⟨15, 0, .rwl, 10, 10000, false⟩]⟩,  -- DRIVE.M0_BRAKE
  ⟨0x9028, [], 0x1402000A, [⟨31, 24, .rwl, 1, 120, false⟩, ⟨20, 16, .rwl, 1, 16, false⟩, ⟨4, 0, .rwl, 1, 20, false⟩]⟩,  -- DRIVE.M0_PROT
  ⟨0x902C, [], 0x00000000, [⟨15, 0, .rwl, 0, 65535, false⟩]⟩,  -- DRIVE.M0_REGEN
  ⟨0x9030, [], 0x00000000, [⟨31, 16, .rwl, 1, 65535, false⟩, ⟨15, 0, .rwl, 1, 65535, false⟩]⟩,  -- DRIVE.M0_GAIN_I
  ⟨0x9034, [], 0x00000000, [⟨31, 16, .rwl, 1, 65535, false⟩, ⟨15, 0, .rwl, 1, 65535, false⟩]⟩,  -- DRIVE.M0_GAIN_S
  ⟨0x9050, [], 0x00000000, [⟨24, 16, .w1c, 0, 511, false⟩]⟩,  -- DRIVE.M0_FAULT
  ⟨0x9100, [(0x20, 3)], 0x000A0000, [⟨31, 31, .rwl, 0, 1, false⟩, ⟨30, 30, .rwl, 0, 1, false⟩, ⟨29, 28, .rwl, 0, 3, false⟩, ⟨27, 24, .rwl, 1, 8, false⟩, ⟨23, 16, .rwl, 0, 50, false⟩, ⟨15, 8, .rwl, 0, 100, false⟩]⟩,  -- DRIVE.FAN_CFG[n]
  ⟨0x9104, [(0x20, 3)], 0x00000000, [⟨25, 16, .rwl, 10, 1000, false⟩, ⟨9, 0, .rwl, 1, 999, false⟩]⟩,  -- DRIVE.FAN_SPEED[n]
  ⟨0x9108, [(0x20, 3)], 0x3C644A0A, [⟨31, 24, .rwl, 20, 120, false⟩, ⟨23, 16, .rwl, 20, 120, false⟩, ⟨15, 12, .rwl, 1, 10, false⟩, ⟨11, 8, .rwl, 5, 15, false⟩, ⟨7, 0, .rwl, 1, 50, false⟩]⟩,  -- DRIVE.FAN_START[n]
  ⟨0x9200, [], 0x00000019, [⟨5, 0, .rwl, 20, 50, false⟩]⟩  -- DRIVE.FAN_CTRL
]

/-- Rows of block THERM. -/
def rowsTHERM : List RegSpec := [
  ⟨0xA000, [], 0x000003E8, [⟨15, 0, .rwl, 100, 65535, false⟩]⟩,  -- THERM.CTRL
  ⟨0xA00C, [], 0x0000006E, [⟨7, 0, .rwl, 60, 125, true⟩]⟩,  -- THERM.SLEEP_WAKE
  ⟨0xA100, [(0x20, 8)], 0x00040000, [⟨31, 31, .rwl, 0, 1, false⟩, ⟨30, 30, .rwl, 0, 1, false⟩, ⟨26, 24, .rwl, 0, 7, false⟩, ⟨20, 16, .rwl, 1, 20, false⟩]⟩,  -- THERM.ZONE_CFG[z]
  ⟨0xA104, [(0x20, 8)], 0x7FFF7FFF, [⟨31, 16, .rwl, 0, 65535, false⟩, ⟨15, 0, .rwl, 0, 65535, false⟩]⟩,  -- THERM.ZONE_LVL[z]
  ⟨0xA128, [(0x20, 6)], 0x00000000, [⟨31, 16, .rwl, 1000, 6000, false⟩, ⟨15, 0, .rwl, 100, 65535, false⟩]⟩,  -- ZONE_SENS[1-6]
  ⟨0xA1E8, [], 0x00000000, [⟨15, 0, .rwl, 1, 60, true⟩]⟩,  -- ZONE_SENS[7]
  ⟨0xA10C, [(0x20, 8), (0x4, 4)], 0x00000000, [⟨31, 24, .rwl, 0, 100, false⟩, ⟨15, 8, .rwl, 0, 100, false⟩, ⟨23, 16, .rwl, 0, 255, false⟩, ⟨7, 0, .rwl, 0, 255, false⟩]⟩,  -- THERM.ZONE_CURVE[z][0–3]
  ⟨0xA300, [(0x10, 3)], 0x00003046, [⟨15, 12, .rwl, 1, 10, false⟩, ⟨6, 0, .rwl, 10, 95, false⟩]⟩  -- THERM.FAN_FCFG[n]
]

/-- Rows of block DEV. -/
def rowsDEV1 : List RegSpec := [
  ⟨0x0080, [], 0x00000000, [⟨2, 2, .rw, 0, 1, false⟩, ⟨1, 1, .rw, 0, 1, false⟩]⟩,  -- DEV.RRP_OFFER
  ⟨0x0084, [], 0x00060000, []⟩,  -- DEV.RRP_ACCEPT
  ⟨0x0088, [], 0x0000000F, []⟩,  -- DEV.FEAT0
  ⟨0x008C, [], 0x00000000, [⟨3, 3, .rw, 0, 1, false⟩, ⟨2, 2, .rw, 0, 1, false⟩, ⟨1, 1, .rw, 0, 1, false⟩, ⟨0, 0, .rw, 0, 1, false⟩]⟩,  -- DEV.FEAT1
  ⟨0x0090, [], 0x00000000, [⟨31, 12, .rw, 0, 1048575, false⟩]⟩,  -- DEV.DB_BASE_LO
  ⟨0x0094, [], 0x00000000, [⟨31, 0, .rw, 0, 4294967295, false⟩]⟩,  -- DEV.DB_BASE_HI
  ⟨0x0098, [], 0x00AFA008, [⟨29, 20, .rw, 1, 1000, false⟩, ⟨19, 10, .rw, 8, 1000, false⟩, ⟨9, 0, .rw, 8, 1000, false⟩]⟩,  -- DEV.DB_CTRL
  ⟨0x00A4, [], 0x00000000, [⟨3, 3, .w1c, 0, 1, false⟩, ⟨2, 2, .w1c, 0, 1, false⟩, ⟨1, 1, .w1c, 0, 1, false⟩, ⟨0, 0, .w1c, 0, 1, false⟩]⟩  -- DEV.RING_ERR
]

/-- Rows of block RING. -/
def rowsRING : List RegSpec := [
  ⟨0xB000, [(0x40, 32)], 0x00000000, [⟨31, 31, .rw, 0, 1, false⟩, ⟨30, 30, .rw, 0, 1, false⟩, ⟨29, 29, .rw, 0, 1, false⟩, ⟨28, 28, .rw, 0, 1, false⟩, ⟨23, 20, .rw, 0, 15, false⟩, ⟨19, 16, .rw, 0, 15, false⟩, ⟨14, 8, .rw, 0, 127, false⟩]⟩,  -- RING.CTX_CFG[c]
  ⟨0xB004, [(0x40, 32)], 0x00000000, [⟨15, 0, .rw, 0, 65535, false⟩]⟩,  -- RING.CTX_EPOCH[c]
  ⟨0xB008, [(0x40, 32)], 0x00000000, [⟨31, 12, .rw, 0, 1048575, false⟩]⟩,  -- RING.SQ_BASE_LO[c]
  ⟨0xB00C, [(0x40, 32)], 0x00000000, [⟨31, 0, .rw, 0, 4294967295, false⟩]⟩,  -- RING.SQ_BASE_HI[c]
  ⟨0xB010, [(0x40, 32)], 0x00000000, [⟨31, 12, .rw, 0, 1048575, false⟩]⟩,  -- RING.CQ_BASE_LO[c]
  ⟨0xB014, [(0x40, 32)], 0x00000000, [⟨31, 0, .rw, 0, 4294967295, false⟩]⟩,  -- RING.CQ_BASE_HI[c]
  ⟨0xB018, [(0x40, 32)], 0x00000000, [⟨31, 0, .rw, 0, 33554431, false⟩]⟩,  -- RING.SUB_LO[c]
  ⟨0xB01C, [(0x40, 32)], 0x00000000, [⟨31, 0, .rw, 0, 0, false⟩]⟩,  -- RING.SUB_HI[c]
  ⟨0xB020, [(0x40, 32)], 0x00010000, [⟨23, 16, .rw, 1, 255, true⟩, ⟨9, 0, .rw, 0, 1000, false⟩]⟩  -- RING.COAL[c]
]

/-- Rows of block MSIX. -/
def rowsMSIX : List RegSpec := [
  ⟨0xC000, [(0x10, 34)], 0x00000000, [⟨31, 2, .rw, 0, 1073741823, false⟩]⟩,  -- MSIX.ADDR_LO[v]
  ⟨0xC004, [(0x10, 34)], 0x00000000, [⟨31, 0, .rw, 0, 4294967295, false⟩]⟩,  -- MSIX.ADDR_HI[v]
  ⟨0xC008, [(0x10, 34)], 0x00000000, [⟨31, 0, .rw, 0, 4294967295, false⟩]⟩,  -- MSIX.DATA[v]
  ⟨0xC00C, [(0x10, 34)], 0x00000001, [⟨0, 0, .rw, 0, 1, false⟩]⟩  -- MSIX.VCTRL[v]
]

/-- Rows of block MBOX. -/
def rowsMBOX : List RegSpec := [
  ⟨0xF000, [], 0x0000004C, [⟨8, 8, .rwl, 0, 1, false⟩, ⟨6, 0, .rwl, 8, 119, false⟩]⟩,  -- MBOX.CFG
  ⟨0xF010, [(0x4, 4)], 0x00000030, []⟩,  -- MBOX.PORT_STATUS[0–3]
  ⟨0xF100, [(0x4, 8)], 0x00000002, [⟨8, 8, .rwl, 0, 1, false⟩, ⟨5, 4, .rwl, 0, 2, false⟩, ⟨1, 0, .rwl, 0, 2, false⟩]⟩,  -- MBOX.GP_CFG[0–7]
  ⟨0xF124, [], 0x00000000, [⟨7, 0, .rw, 0, 255, false⟩]⟩  -- MBOX.GP_OUT
]

/-- Rows of block FLASH. -/
def rowsFLASH : List RegSpec := [
  ⟨0xD000, [], 0x00000002, [⟨2, 0, .rwl, 1, 4, false⟩]⟩,  -- FLASH.CTRL
  ⟨0xD014, [], 0x00000000, [⟨31, 31, .w1c, 0, 1, false⟩, ⟨30, 30, .w1c, 0, 1, false⟩]⟩,  -- FLASH.WEAK_STATUS
  ⟨0xD024, [], 0x00000000, [⟨10, 0, .rwl, 0, 2047, false⟩]⟩,  -- FLASH.WP_A
  ⟨0xD028, [], 0x00000000, [⟨18, 0, .rwl, 0, 524287, false⟩]⟩,  -- FLASH.WP_B
  ⟨0xD02C, [], 0x005EBE60, [⟨24, 0, .rwl, 0, 33554431, false⟩]⟩  -- FLASH.JOURNAL_MASK
]

/-- Rows of block PMC. -/
def rowsPMC : List RegSpec := [
  ⟨0x1000, [], 0x0000000A, [⟨16, 16, .rwl, 0, 1, false⟩, ⟨9, 0, .rwl, 1, 1000, false⟩]⟩,  -- PMC.CTRL
  ⟨0x1008, [], 0x00000041, [⟨10, 0, .rwl, 0, 2047, false⟩]⟩,  -- PMC.WAKE_EN
  ⟨0x100C, [], 0x00000014, [⟨9, 9, .rwl, 0, 1, false⟩, ⟨8, 8, .rwl, 0, 1, false⟩, ⟨7, 0, .rwl, 1, 255, false⟩]⟩,  -- PMC.WAKE_CFG
  ⟨0x101C, [], 0x00000000, [⟨11, 0, .w1c, 0, 4095, false⟩]⟩,  -- PMC.RUN_PENDING
  ⟨0x1044, [], 0x00000000, [⟨2, 2, .w1c, 0, 1, false⟩, ⟨1, 1, .w1c, 0, 1, false⟩, ⟨0, 0, .w1c, 0, 1, false⟩]⟩,  -- PMC.IRQ_STATUS
  ⟨0x1048, [], 0x00000007, [⟨2, 2, .rw, 0, 1, false⟩, ⟨1, 1, .rw, 0, 1, false⟩, ⟨0, 0, .rw, 0, 1, false⟩]⟩  -- PMC.IRQ_EN
]

/-- Rows of block DEV. -/
def rowsDEV2 : List RegSpec := [
  ⟨0x0100, [], 0x00000000, [⟨31, 31, .w1c, 0, 1, false⟩]⟩  -- DEV.GATED_ACCESS
]

/-- Rows of block BIST. -/
def rowsBIST : List RegSpec := [
  ⟨0xE000, [], 0x00000000, [⟨0, 0, .rwl, 0, 1, false⟩]⟩  -- BIST.CTRL
]

/-- All rows. -/
def regTable : List RegSpec :=
  rowsDEV ++ rowsTIME0 ++ rowsTIME1 ++ rowsKEYS ++ rowsMOTION ++ rowsHEDGE0 ++ rowsHEDGE1 ++ rowsSEQ ++ rowsSUP ++ rowsSEQ1 ++ rowsBATT ++ rowsDRIVE ++ rowsTHERM ++ rowsDEV1 ++ rowsRING ++ rowsMSIX ++ rowsMBOX ++ rowsFLASH ++ rowsPMC ++ rowsDEV2 ++ rowsBIST

/-- Whether `a` is one of the offsets `base + Σ i × stride`. -/
def hitDims : List (Nat × Nat) → Nat → Nat → Bool
  | [], base, a => a == base
  | (st, c) :: ds, base, a => (List.range c).any fun i => hitDims ds (base + st * i) a

/-- The row that describes the register at offset `a`, if it has one. -/
def regSpec (a : Nat) : Option RegSpec := regTable.find? fun r => r.base ≤ a && hitDims r.dims r.base a

/-- What the register at offset `a` holds after reset (0 for reserved offsets, R5). -/
def regReset (a : Nat) : Word := match regSpec a with
  | some r => r.reset
  | none => 0

/-- Whether the manual defines value `v` for the field (R6). -/
def FieldSpec.admits (f : FieldSpec) (v : Nat) : Bool := (f.zero && v == 0) || (f.min ≤ v && v ≤ f.max)

/-- Mask of the bits of a row with access code `c`. -/
def RegSpec.mask (r : RegSpec) (c : Acc) : Word :=
  r.fields.foldl (fun m f => if f.acc = c then m ||| fieldMask f.hi f.lo else m) 0

end Sys2Proof.Machine
end

