-- ==== Sys2Proof/Machine/Sparse.lean ====
section
/-!
DEFINITION. Sparse storage in one canonical form: keys strictly rising and no entry equal to what an
unlisted key reads as. Register file, host memory and flash array are held this way.
-/

namespace Sys2Proof.Machine

/-- The entry at key `a`; `d a` where nothing is listed. -/
def sparseGet {α : Type} (d : Nat → α) : List (Nat × α) → Nat → α
  | [], a => d a
  | (k, v) :: t, a => if a = k then v else if a < k then d a else sparseGet d t a

/-- Places `v` at key `a`, keeping keys rising; `v` equal to the default removes the entry. -/
def sparseSet {α : Type} [DecidableEq α] (d : Nat → α) : List (Nat × α) → Nat → α → List (Nat × α)
  | [], a, v => if v = d a then [] else [(a, v)]
  | (k, w) :: t, a, v =>
    if a < k then (if v = d a then (k, w) :: t else (a, v) :: (k, w) :: t)
    else if a = k then (if v = d a then t else (a, v) :: t)
    else (k, w) :: sparseSet d t a v

/-- Every key of the list is above `b`, keys rise strictly, and no entry equals its default. -/
def sparseAbove {α : Type} [DecidableEq α] (d : Nat → α) : Nat → List (Nat × α) → Bool
  | _, [] => true
  | b, (k, v) :: t => decide (b < k) && decide (v ≠ d k) && sparseAbove d k t

/-- The canonical form. -/
def sparseWf {α : Type} [DecidableEq α] (d : Nat → α) : List (Nat × α) → Bool
  | [] => true
  | (k, v) :: t => decide (v ≠ d k) && sparseAbove d k t

/-- A run of values placed at consecutive keys. -/
def sparseSetRun {α : Type} [DecidableEq α] (d : Nat → α) (m : List (Nat × α)) : Nat → List α → List (Nat × α)
  | _, [] => m
  | a, v :: vs => sparseSetRun d (sparseSet d m a v) (a + 1) vs

/-- A run of `n` values read from consecutive keys. -/
def sparseGetRun {α : Type} (d : Nat → α) (m : List (Nat × α)) (a : Nat) : Nat → List α
  | 0 => []
  | n + 1 => sparseGet d m a :: sparseGetRun d m (a + 1) n

end Sys2Proof.Machine
end

