-- ==== Sys2Proof/Machine/State.lean ====
section
/-!
DEFINITION. The state of the block as plain data: every register (one register file, keyed by BAR0 offset), every state
machine, FIFO, buffer, counter and pin the manual names, and the queue of waiting commands. The reset value of every
field is its default here; State.reset is the machine right after reset.
-/

namespace Sys2Proof.Machine

/-- Reasons a command ends in a fault: none. Every row of the table goes on to a next state. -/
inductive Fault where
deriving DecidableEq, Repr

/-- Reasons a command has no meaning here. -/
inductive Refusal where
  /-- Raised by exec for a command that is not modelled yet; no arm of it does now. Safe. -/
  | notModelled (mnemonic : String)
deriving DecidableEq, Repr

/-- The five service stages of DEV.STAGE.STAGE (R61). -/
inductive Stage where
  | boot
  | reduced
  | full
  | safeHold
  | safe
deriving DecidableEq, Repr

/-- Code of a stage in DEV.STAGE.STAGE (R61). -/
def Stage.code : Stage → Nat
  | .boot => 0
  | .reduced => 1
  | .full => 2
  | .safeHold => 3
  | .safe => 4

/-- Start-up and reset state (02_start_up.md). -/
structure Dev where
  /-- VIN is above its power-on threshold (R36). -/
  powered : Bool := true
  /-- Internal reset is asserted (R38, R39 step 2). -/
  inReset : Bool := false
  /-- RST_N is low (R56). -/
  rstnLow : Bool := false
  /-- The regulators are in regulation (R39 step 2). -/
  regsGood : Bool := true
  /-- DEV.STAGE.STAGE (R61). -/
  stage : Stage := .boot
  /-- The flash boot scan is complete and the firmware runs (R39 step 4). -/
  scanDone : Bool := false
  /-- Plan slots still to be verified, in the order of R43. -/
  planCands : List (Fin 2) := []
  /-- Step 7 is over: a Plan is loaded, or none verified (R39, R44). -/
  planDone : Bool := false
  /-- A Plan is loaded, so RWL fields are read only (R7, R447). -/
  planLoaded : Bool := false
  /-- The XO is enabled (R39 step 3). -/
  xoOn : Bool := true
  /-- The XO is good (R49). -/
  xoGood : Bool := false
  /-- PLL lock attempts that have ended without lock (R51). -/
  pllTries : Nat := 0
  /-- The PLL is locked (R49). -/
  pllLocked : Bool := false
  /-- The chopper calibration runs (R39 step 8). -/
  calRunning : Bool := false
  /-- Calibrations that ended outside their limits (R52). -/
  calFails : Nat := 0
  /-- RST_OUT_N is driven low (R58). -/
  rstOutLow : Bool := true
  /-- The Plan's RST_OUT_STAGE (R58). -/
  rstOutStage : Nat := 0
  /-- PT of the latest assertion of RST_OUT_N, if it came after PT 0 (R58). -/
  rstOutPt : Option Time := none
  /-- The point at which RST_OUT_N is released has come, less than 1 ms after its latest assertion (R58). -/
  rstOutDue : Bool := false
  /-- The reset in progress began in this fabric cycle: no time has passed since (R55). -/
  resetNow : Bool := false
  /-- PT of entry to reduced service (R383). -/
  reducedPt : Option Time := none
deriving DecidableEq, Repr

/-- Source of platform time (R63); codes of TIME.STATUS.SRC. -/
inductive PtSrc where
  | firc
  | xo
  | kennel
deriving DecidableEq, Repr

/-- Code of a source in TIME.STATUS.SRC (R87). -/
def PtSrc.code : PtSrc → Nat
  | .firc => 0
  | .xo => 1
  | .kennel => 2

/-- Time base and Kennel counters (03_time_and_leash.md). -/
structure TimeBase where
  /-- Platform time (R10, R63). -/
  pt : Time := 0
  src : PtSrc := .firc
  /-- 48-bit Kennel tick counter (R28, R68). -/
  ktick : BitVec 48 := 0
  /-- Phase of the Kennel clock against PT, in 46,875ths of a tick (R68: one tick is 46,875/16 PT units). -/
  kphase : Nat := 0
  /-- PT[63:32] latched by the last read of TIME.PT_LO (R65). -/
  ptHi : Word := 0
  /-- Kennel tick bits 47:32 latched by the last read of TIME.KTICK_LO (R65). -/
  ktickHi : Word := 0
  /-- PT at the entry edge of the running or last sleep (R68). -/
  ptEntry : Time := 0
  /-- Kennel tick of the entry edge (R68). -/
  entryTick : BitVec 48 := 0
  /-- PT from which the present XO-derived count runs (R67). -/
  xoSince : Option Time := none
  /-- First and last PT of the XO-derived count before the last sleep (R66). -/
  xoLast : Option (Time × Time) := none
  /-- A PTM dialogue is due (R71). -/
  ptmDue : Bool := false
  /-- Dialogues completed since the latest event of R72. -/
  ptmDone : Nat := 0
deriving DecidableEq, Repr

/-- Leash state that no register shows (R79 to R83). -/
structure Leash where
  /-- Activities held in this frame with a request pending (R82). -/
  heldPending : BitVec 10 := 0
  /-- PT of the last BUDGET_OVERRUN of each activity (R82). -/
  lastPost : Vector (Option Time) 10 := Vector.replicate 10 none
  /-- Frames held since that record (R83). -/
  heldFrames : Vector Nat 10 := Vector.replicate 10 0
  /-- The present frame is a partial frame, which carries no guarantees (R79). -/
  partialFrame : Bool := false
deriving DecidableEq, Repr

/-- An event record as its source posts it (R24, R380). -/
structure EvRec where
  typ : Byte
  /-- PT_EST of R66. -/
  est : Bool
  /-- ALERT of R381. -/
  alert : Bool
  pt : Time
  /-- Payload bytes 0 to 15; for a journal record of its own, all its payload. -/
  payload : List Byte
  /-- Journal record type: 0x02 EVENT for an event record, else the type of R429. -/
  jtype : Nat := 2
deriving DecidableEq, Repr

/-- A record in the fabric with the destinations it still owes: contexts 0–31, ports 32–35, the journal 36. -/
structure FabRec where
  ev : EvRec
  todo : BitVec 37
deriving DecidableEq, Repr

/-- The event fabric's ingress buffer and the records that sources hold before it (R26). -/
structure Fabric where
  ingress : List FabRec := []
  held : List FabRec := []
  /-- Records are decided only at step 6 of the wake order: from the entry edge until then (R24, R467). -/
  holding : Bool := false
  /-- The records that wait for that step. -/
  waiting : List EvRec := []
deriving DecidableEq, Repr

/-- A host command in the request queue, from fetch until its completion is written (R20). -/
structure ReqEntry where
  req : Req
  opcode : Byte
  /-- Parameter bytes 0–23 (R367). -/
  params : List Byte
  /-- Data bytes 32–63 of the port's IN buffer (R374). -/
  data : List Byte
  /-- The owner has taken it at a decision point (R22, R358). -/
  taken : Bool
deriving DecidableEq, Repr

/-- What a command answers: status, result bytes and structure data (R368, R372). -/
structure Reply where
  status : Nat
  result : List Byte := []
  data : List Byte := []
  buf : Nat := 0
deriving DecidableEq, Repr

/-- State a version 1 or version 2 event stream keeps (R75, R346). -/
structure Stream where
  /-- Next sequence number (R346 (b)). -/
  seq : BitVec 16 := 0
  /-- PT of the last record written (R75 (a)). -/
  lastPt : Option Time := none
  /-- No record written since the last wake (R75 (b)). -/
  afterWake : Bool := false
  /-- No record written in this session (R75 (c)). -/
  newSession : Bool := true
  /-- Pending LOST count, saturating at 32 bits (R346 (c)). -/
  lost : Nat := 0
  /-- Sequence number taken by the first record lost (R347). -/
  lostFirst : BitVec 16 := 0
  /-- CAUSE bits of the pending LOST (R347). -/
  lostCause : Nat := 0
deriving DecidableEq, Repr

/-- Context states of R341. -/
inductive CtxState where
  | disabled
  | active
  | failed
  | creating
deriving DecidableEq, Repr

/-- Codes of CTX_STATUS.STATE (R363). -/
def CtxState.code : CtxState → Nat
  | .disabled => 0
  | .active => 1
  | .failed => 2
  | .creating => 3

/-- One hardware ring context (R339 to R347). -/
structure Ctx where
  state : CtxState := .disabled
  /-- ERR_CODE of R364. -/
  err : Nat := 0
  /-- SQ head position. -/
  sqHead : Nat := 0
  /-- SQ tail position last read from slot +0. -/
  hostTail : Nat := 0
  /-- CQ or stream tail position. -/
  devTail : Nat := 0
  /-- CQ or stream head position last read from slot +2. -/
  hostHead : Nat := 0
  /-- ENABLE was cleared while the engine is frozen: the teardown ends with the freeze (R336, R357). -/
  closing : Bool := false
  /-- Fetch is held for CQ space (R345). -/
  stall : Bool := false
  strm : Stream := {}
  /-- Entries written since the last message (R355). -/
  coal : Nat := 0
deriving DecidableEq, Repr

/-- Ring engine states of R350; codes of RING_STATUS.ENGINE. -/
inductive EngState where
  | idle
  | polling
  | dozeEntry
  | dozing
  | stopped
deriving DecidableEq, Repr

/-- Codes of DEV.RING_STATUS.ENGINE (R361). -/
def EngState.code : EngState → Nat
  | .idle => 0
  | .polling => 1
  | .dozeEntry => 2
  | .dozing => 3
  | .stopped => 4

/-- The ring engine and the PCIe function's bits that bear on it (R333 to R359). -/
structure Ring where
  engine : EngState := .idle
  /-- Present poll interval in µs (R349). -/
  interval : Nat := 8
  /-- PT of the later of the last poll that found work and the last completion written (R350). -/
  lastWork : Time := 0
  /-- A NUDGE has arrived since step 1 of doze entry (R350). -/
  nudged : Bool := false
  /-- DOZE_SEQ of the doorbell page (R348). -/
  dozeSeq : Word := 0
  /-- Address of the doorbell page in use; none before a write of DB_BASE_HI (R348). -/
  dbBase : Option Nat := none
  /-- A state word that a freeze holds back (R336). -/
  wordDue : Bool := false
  /-- Bus Master Enable, MSI-X Enable, MSI-X function mask and LTR enable as the host set them. -/
  pcie : PcieCfg := { bme := false, msixEn := false, fnMask := false, ptmEn := false, ltrEn := false }
  /-- The function is in D3hot (R336). -/
  d3hot : Bool := false
  /-- The link is up (R336). -/
  linkUp : Bool := false
  /-- PERST_N is high (R53). -/
  perstHigh : Bool := false
  /-- Latency in µs of the last LTR message sent (R334). -/
  ltr : Option Nat := none
  /-- Completions decided while the engine is frozen (R336). -/
  waiting : List (Req × Reply × Time) := []
  /-- Context served last (R345). -/
  lastServed : Fin 32 := 31
  /-- Descriptors fetched in its turn; 4 once the turn is over (R345). -/
  burst : Nat := 4
  ctx : Vector Ctx 32 := Vector.replicate 32 {}
deriving DecidableEq, Repr

/-- Mailbox port states of R394; codes of PORT_STATUS.STATE. -/
inductive PortState where
  | idle
  | busy
  | done
deriving DecidableEq, Repr

/-- Codes of MBOX.PORT_STATUS.STATE (R401). -/
def PortState.code : PortState → Nat
  | .idle => 0
  | .busy => 1
  | .done => 2

/-- One mailbox port (R392 to R395). -/
structure Port where
  state : PortState := .idle
  inBuf : List Byte := List.replicate 64 0
  outBuf : List Byte := List.replicate 64 0
  /-- The decided completion that waits for the mailbox budget (R394). -/
  reply : Option (List Byte × Nat) := none
  dataLen : Nat := 0
  err : Bool := false
  alertEn : Bool := true
  evtAlert : Bool := true
  /-- Waiting version 1 records, oldest first, at most 16 (R395). -/
  evts : List (List Byte) := []
  strm : Stream := {}
  /-- Subscription mask (R385, R395). -/
  sub : BitVec 25 := 0
deriving DecidableEq, Repr

/-- The mailbox block (15_mailbox.md). -/
structure Mbox where
  port : Vector Port 4 := Vector.replicate 4 {}
  /-- MB_CS_N is low (R399). -/
  csLow : Bool := false
  /-- Bytes returned by the last read frame, and its CRC or PEC (R389, R390). -/
  lastRead : List Byte := []
  /-- The frame in progress is the one that woke the controller and is discarded (R398). -/
  discard : Bool := false
deriving DecidableEq, Repr
/-- What the scanner keeps of one matrix node (R94 to R106). -/
structure KeyNode where
  /-- Accepted closed. -/
  accepted : Bool := false
  /-- Consecutive scans that read the opposite of the accepted state. -/
  count : Nat := 0
  /-- Consecutive scans that read the accepted state. -/
  settled : Nat := 0
  /-- PT of the first opposite reading since the node last settled (R95). -/
  firstPt : Option Time := none
  /-- Closing PT of the present closure (R103). -/
  closePt : Time := 0
  /-- Consecutive open readings of a stuck node (R105). -/
  openRun : Nat := 0
  /-- Withheld with its debounce count met: its safety slot is active (R101). -/
  slotHeld : Bool := false
  /-- Read open at entry or in an earlier Kennel scan (R106). -/
  sleptOpen : Bool := false
  /-- Consecutive closed readings of the Kennel scanner after that. -/
  kRun : Nat := 0
  /-- The change in progress is the one that woke the controller (R108). -/
  woke : Bool := false
deriving DecidableEq, Repr

/-- A rectangle that holds nodes withheld, or whose nodes are being judged (R98 to R100). -/
structure Rect where
  d0 : Nat
  d1 : Nat
  s0 : Nat
  s1 : Nat
  /-- Withheld corners, bits of R113. -/
  held : Nat
  /-- The rectangle has broken and its corners are judged. -/
  judging : Bool
  /-- Corners whose judgement has ended, and those of them reported. -/
  judged : Nat
  reported : Nat
  /-- Closed readings of each corner since the break. -/
  run : List Nat
deriving DecidableEq, Repr

/-- One direct input (R109 to R111). -/
structure DirectIn where
  /-- Level after polarity. -/
  level : Bool := false
  accepted : Bool := false
  /-- The debounce timer runs. -/
  timing : Bool := false
  /-- PT of the first edge since the input last held its accepted state for its debounce time. -/
  firstPt : Option Time := none
  /-- PT of the last edge. -/
  edgePt : Time := 0
  /-- PT of the last change of the accepted state, or from which it is judged again (R110 (c)). -/
  acceptPt : Time := 0
  /-- The change in progress is the one that woke the controller. -/
  woke : Bool := false
deriving DecidableEq, Repr

/-- The key matrix and direct inputs (04_key_matrix.md). -/
structure Keys where
  nodes : Vector KeyNode 256 := Vector.replicate 256 {}
  rects : List Rect := []
  /-- Rectangles that were full in the previous scan. -/
  full : List (Nat × Nat × Nat × Nat) := []
  /-- Closed readings of the previous scan, per drive line (R90 (c)). -/
  prev : Vector (BitVec 16) 16 := Vector.replicate 16 0
  /-- A matrix wake awaits the first resumed scan: PT of the Kennel tick of detection (R108). -/
  wakePt : Option Time := none
  di : Vector DirectIn 16 := Vector.replicate 16 {}
  /-- Pairs whose discrepancy timer runs (R110 (b)). -/
  pairTiming : BitVec 8 := 0
deriving DecidableEq, Repr


/-- One encoder channel (R117 to R127). -/
structure Enc where
  /-- Stamps of the last five edges since the history was cleared, latest first (R122). -/
  hist : List Time := []
  /-- PT of the latest edge (R121). -/
  edgePt : Time := 0
  /-- Consecutive edges below OVS_INT (R123). -/
  fast : Nat := 0
  /-- Position of the previous kind 1 record (R124). -/
  reported : Word := 0
  /-- Kennel-domain edge counter of the running or last sleep, saturating at 0xFFFF (R28, R126). -/
  kedges : Nat := 0
deriving DecidableEq, Repr

/-- One cliff channel's counts (R131, R132, R135). -/
structure Cliff where
  low : Nat := 0
  high : Nat := 0
  /-- Consecutive results without ambient saturation. -/
  clear : Nat := 0
  openRun : Nat := 0
  shortRun : Nat := 0
  goodRun : Nat := 0
deriving DecidableEq, Repr

/-- Encoders and cliff channels (05_encoders_and_cliffs.md). -/
structure Motion where
  enc : Vector Enc 4 := Vector.replicate 4 {}
  cliff : Vector Cliff 8 := Vector.replicate 8 {}
  /-- PT from which the periods of the 1 kHz modulation count (R129, R136). -/
  modPt : Time := 0
  /-- The cliff channels take the Plan's FMOD at the next period boundary (R136, R49 (c)). -/
  modDue : Bool := false
deriving DecidableEq, Repr
/-- One Hedge rule as the Plan sets it (R144): the window registers 0x404–0x48C of HEDGE show it. -/
structure HRule where
  /-- RULE_CFG: ENABLE, LOCAL_NODE, PERSIST, POLICY, LATCH. -/
  cfg : Word := 0
  /-- RULE_ACT: action mask. -/
  act : BitVec 21 := 0
  mask : Vector (BitVec 128) 4 := Vector.replicate 4 0
  pol : Vector (BitVec 128) 4 := Vector.replicate 4 0
deriving DecidableEq, Repr

/-- A release arm of a rule (R156). -/
structure HArm where
  token : BitVec 16
  pt : Time
  /-- LOCAL_NODE has been sampled active since the arm. -/
  pressed : Bool
  /-- Press and release seen (RULE_STATE.LOCAL_SEEN). -/
  seen : Bool
deriving DecidableEq, Repr

/-- What an evaluation of the hardware engine leaves for the Sheepdog pair (R147 (b)). -/
structure HSnap where
  nodes : BitVec 128 := 0
  cond : BitVec 32 := 0
  latch : BitVec 32 := 0
  /-- Actions of rules and of responses 0x80–0x83 (R148). -/
  act : BitVec 21 := 0
  /-- PT of the sample, which the records decided on it carry (R24, R147). -/
  pt : Time := 0
deriving DecidableEq, Repr

/-- One rule's run-time state. -/
structure HRun where
  /-- Causes that are literals true while the node is active (R154). -/
  causeA : BitVec 128 := 0
  /-- Causes that are literals true while the node is inactive. -/
  causeI : BitVec 128 := 0
  /-- PT of the last HEDGE_TRIP (R169). -/
  tripPt : Time := 0
  arm : Option HArm := none
deriving DecidableEq, Repr

/-- The safety sensor port (R163 to R165). -/
structure Sensor where
  /-- RX bytes of the last poll. -/
  rx : List Byte := List.replicate 16 0
  /-- A poll waits to be processed. -/
  fresh : Bool := false
  /-- Polls since the last identity check, and whether an identity check is due: at arm and after each 100th poll (R163). -/
  polls : Nat := 0
  idDue : Bool := true
  /-- Consecutive polls of all 0x00 or all 0xFF. -/
  blankRun : Nat := 0
  /-- Consecutive polls with identical axes, and those axes. -/
  sameRun : Nat := 0
  prev : Option (Int × Int × Int) := none
  /-- Consecutive polls free of (a) and (c). -/
  cleanRun : Nat := 0
  /-- An identity check has passed since the last failure. -/
  idPassed : Bool := false
  /-- Samples taken into the reference mean and their sums (REF_MODE 0). -/
  refCount : Nat := 0
  refSum : Int × Int × Int := (0, 0, 0)
  /-- The reference vector r, once it exists. -/
  ref : Option (Int × Int × Int) := none
  /-- Consecutive samples that exceeded, and consecutive samples within the release angle. -/
  exceedRun : Nat := 0
  withinRun : Nat := 0
deriving DecidableEq, Repr

/-- One SAFE_STOP pin (R160 to R162). -/
structure SStop where
  /-- Driven low. -/
  low : Bool := true
  /-- Hardware evaluations since the last commanded change (readings of the first 20 µs are ignored). -/
  settled : Nat := 0
  /-- Consecutive mismatched readings. -/
  run : Nat := 0
  /-- The latest evaluation fell into the pin's pulse time (R162), and the pulse runs. -/
  window : Bool := false
  pulsing : Bool := false
deriving DecidableEq, Repr

/-- The Hedge (06_hedge.md). -/
structure Hedge where
  /-- The node bus: bit n is node n (R142). -/
  nodes : BitVec 128 := 0
  rule : Vector HRule 32 := Vector.replicate 32 {}
  run : Vector HRun 32 := Vector.replicate 32 {}
  /-- The Hedge is armed and evaluates (R152). -/
  armed : Bool := false
  bootHold : Bool := true
  sleepHold : Bool := false
  /-- Without a Plan the Hedge holds action bits 0, 2–8, 17, 18 and 19 (R44 (a)). -/
  noPlanHold : Bool := false
  condHw : BitVec 32 := 0
  condSd : BitVec 32 := 0
  latchHw : BitVec 32 := 0
  latchSd : BitVec 32 := 0
  actHw : BitVec 21 := 0
  actSd : BitVec 21 := 0
  /-- Rules that assert on some path, for HEDGE_TRIP and HEDGE_CLEAR (R168, R169). -/
  asserting : BitVec 32 := 0
  /-- Built-in responses 0x80–0x84 that assert through the direct path (R146). -/
  biAsserting : BitVec 5 := 0
  /-- Built-in responses asserted by the latest evaluation of the hardware engine (R146, R147). -/
  biHw : BitVec 5 := 0
  /-- Built-in responses asserted by the latest evaluation of the Sheepdog pair (R146, R147). -/
  biSd : BitVec 5 := 0
  /-- Built-in responses reported as asserting by HEDGE_TRIP records (R168, R169). -/
  biShown : BitVec 5 := 0
  biTripPt : Vector Time 5 := Vector.replicate 5 0
  /-- Groups whose orderly-off bound has been exceeded (response 0x84, R19). -/
  overrun : BitVec 8 := 0
  /-- The latest hardware evaluation, and the one kept at the frame boundary for the Sheepdog pair. -/
  last : HSnap := {}
  snap : Option HSnap := none
  /-- Node sample of the latest Sheepdog evaluation. -/
  sdNodes : BitVec 128 := 0
  /-- The previous Sheepdog evaluation found a difference (R148). -/
  differed : Bool := false
  /-- PT of the last accepted HEARTBEAT (R158). -/
  hbPt : Time := 0
  /-- The HEDGE_RELEASE that waits for the hardware engine's next evaluation, and its rule (R156 (b)). -/
  release : Option (Req × Fin 32) := none
  /-- DOCK level accepted last, before polarity (R143). -/
  dockLevel : Bool := false
  sensor : Sensor := {}
  sstop : Vector SStop 4 := Vector.replicate 4 {}
deriving DecidableEq, Repr


/-- Rail states of R175; codes of R203. -/
inductive RailState where
  | off
  | wait
  | ramp
  | settle
  | good
  | discharge
  | faulted
deriving DecidableEq, Repr

/-- Codes of R203. -/
def RailState.code : RailState → Nat
  | .off => 0
  | .wait => 1
  | .ramp => 2
  | .settle => 3
  | .good => 4
  | .discharge => 5
  | .faulted => 6

/-- One rail as the step engine keeps it (R175, R176). -/
structure Rail where
  state : RailState := .off
  /-- START_RANK. -/
  rank : Nat := 0
  /-- PT at which the present state was entered. -/
  entered : Time := 0
  /-- PT since which every prerequisite is `GOOD` and the Herd step condition holds, in `WAIT`. -/
  okPt : Option Time := none
  /-- CAUSE of the off request or action that put the rail outside the needed set, while it waits to be removed (R180, R196). -/
  why : Option Nat := none
deriving DecidableEq, Repr

/-- Sequencer states of R181. -/
inductive SeqState where
  | allOff
  | powerUp
  | steady
  | powerDown
  | startAbort
  | startFail
  | faultOff
  | cut
  | vinDown
  | rest
deriving DecidableEq, Repr

/-- Codes of SEQ.STATUS.STATE. -/
def SeqState.code : SeqState → Nat
  | .allOff => 0
  | .powerUp => 1
  | .steady => 2
  | .powerDown => 3
  | .startAbort => 4
  | .startFail => 5
  | .faultOff => 6
  | .cut => 7
  | .vinDown => 8
  | .rest => 9

/-- The rail sequencer (07_rail_sequencing.md). -/
structure Seq where
  st : SeqState := .allOff
  rail : Vector Rail 24 := Vector.replicate 24 {}
  target : BitVec 8 := 0
  /-- The pending slot (R183). -/
  slot : BitVec 8 := 0
  /-- Groups of the running or last sequence, and those of them that joined the target in it (R186, R197). -/
  groups : BitVec 8 := 0
  joining : BitVec 8 := 0
  startPt : Time := 0
  /-- Discharge timeouts in the sequence. -/
  timeouts : Nat := 0
  /-- ON commands outstanding, and OFF commands outstanding; a Herd shutdown's OFF waits for `HERD_OFF` (R246). -/
  ons : List (Req × BitVec 8) := []
  offs : List (Req × Bool) := []
  /-- Orderly-off actions taken and still asserted (R187). -/
  taken : BitVec 8 := 0
  /-- SEQ.STATUS.WAIT_WAKE. -/
  waitWake : Bool := false
  /-- A Plan start is due (R191 (a), (d)). -/
  startDue : Bool := false
  /-- Decision point at which the last rail of `VIN_DOWN` reached `OFF` (R190 (b)). -/
  allOffPt : Option Time := none
  vinGoodPt : Time := 0
  restEnd : Time := 0
  /-- `REST` was entered from `CUT` (R191 (c)). -/
  restCut : Bool := false
  /-- START_GROUPS for the Plan start that follows `REST` (R185) or is due. -/
  restGroups : BitVec 8 := 0
  /-- A counter snapshot is due when the running shutdown ends (R218 (b)). -/
  snapDue : Bool := false
  /-- Comparators as last sampled: rails inside their windows; crossings decided in `RAMP` or `SETTLE`. -/
  inside : BitVec 24 := 0
  uvX : BitVec 24 := 0
  ovX : BitVec 24 := 0
deriving DecidableEq, Repr

/-- Herd states of R239. -/
inductive HerdState where
  | herdOff
  | muster
  | stepUp
  | running
  | stepDown
  | abort
  | alarmed
  | disabled
deriving DecidableEq, Repr

/-- Codes of SEQ.HERD_STATUS.STATE (R251). -/
def HerdState.code : HerdState → Nat
  | .herdOff => 0
  | .muster => 1
  | .stepUp => 2
  | .running => 3
  | .stepDown => 4
  | .abort => 5
  | .alarmed => 6
  | .disabled => 7

/-- The Herd line interface (09_herd_line.md). -/
structure Herd where
  st : HerdState := .disabled
  step : Nat := 0
  /-- PT of the edge that began the current step. -/
  stepPt : Time := 0
  /-- Lead: 500 µs since the start pulse have not yet passed (R240). -/
  holdOff : Bool := false
  /-- Lead: a Herd power-up waits for its muster (R241). -/
  requested : Bool := false
  /-- Reason of the abort under way (R243). -/
  aborting : Option Nat := none
  /-- This controller issued the alarm (HERD record reason 9). -/
  issued : Bool := false
  /-- A call pulse has been driven and waits for its classification. -/
  called : Bool := false
  /-- The filtered line level as last sampled or told by an edge; this controller's own drive is not in it. -/
  line : Bool := true
  /-- PT until which this controller drives the line low for a pulse (R236, R246, R247). -/
  lowUntil : Time := 0
  /-- A Plan rule asserted action 17 at the latest evaluation (R247). -/
  cutSeen : Bool := false
  /-- PT of the last HERD record of kind 8 (R249). -/
  invalidPt : Option Time := none
deriving DecidableEq, Repr

/-- What supervision keeps of one rail beside its registers (R205, R230). -/
structure RailMon where
  /-- Samples in the filter, latest first. -/
  hist : List Nat := []
  /-- Last sample before the present moment (R231 VALUE). -/
  last : Nat := 0
  uvSince : Time := 0
  ovSince : Time := 0
  uvExt : Nat := 0
  ovExt : Nat := 0
deriving DecidableEq, Repr

/-- Rail supervision and the hold-up sequence (08_rail_supervision.md). -/
structure Sup where
  rail : Vector RailMon 24 := Vector.replicate 24 {}
  /-- ADC-M cycles, modulo 32 (R204). -/
  cycle : Nat := 0
  /-- A crossing on a `GOOD` rail waits for the sequencer's decision point: the rails that crossed (R211 step 7). -/
  tripped : BitVec 24 := 0
  /-- The direct paths of a VIN_FAIL decision hold M0 and the fans off until VIN good (R222). -/
  vinHold : Bool := false
  /-- VIN_FAIL has been decided and the sequencer has not yet sampled it. -/
  vinLow : Bool := false
  /-- The direct path of VIN_FAIL holds the enables off until the sequencer leaves `VIN_DOWN` (R222). -/
  enHold : Bool := false
  /-- The hold-up sequence runs from VHOLD: the power-fail record's payload as captured, and its PT. -/
  holdUp : Option (Time × List Byte) := none
  /-- Staged part of the power-fail record: SOC, RESET_COUNT and STAGED_PT of the last refresh (R226). -/
  staged : List Byte := List.replicate 12 0
  /-- Number of the next counter snapshot (R430). -/
  snapNo : BitVec 16 := 0
  /-- Kennel second from which SNAP_AGE counts (R218 (e)). -/
  snapSec : Nat := 0
  /-- Commands that wait for a snapshot to be complete: its number, the command, the reply. -/
  waits : List (BitVec 16 × Req × Reply) := []
deriving DecidableEq, Repr

/-- Charge counted in each direction, in µC. -/
structure ChgQ where
  chg : Nat := 0
  dsg : Nat := 0
deriving DecidableEq, Repr

/-- Battery front end and gauge, beside the BATT registers (10_battery.md). -/
structure Batt where
  /-- Consecutive sweeps at or beyond COV.TH and CUV.TH (R259). -/
  covRun : Nat := 0
  cuvRun : Nat := 0
  /-- First OCD or SCD trip since the last clearing by command or charger, and the trips since (R261). -/
  tripPt : Option Time := none
  trips : Nat := 0
  /-- Body-diode relief runs for CHG, for DSG (R262). -/
  reliefChg : Bool := false
  reliefDsg : Bool := false
  /-- PT since which a FET that is off leaks (R264). -/
  leakDsg : Option Time := none
  leakChg : Option Time := none
  /-- BATTERY_CONTROL has set balancing on or off (R280). -/
  balCmd : Option Bool := none
  /-- Odd-numbered candidates bleed after the present sweep (R266). -/
  odd : Bool := false
  /-- BATT.ACC, Kennel domain (R255, R273), and the part of a µC not yet counted, in nV·ms of shunt voltage. -/
  acc : BitVec 64 := 0
  rem : Int := 0
  /-- Charge not yet applied to the gauge: counted on the XO; raw, counted on FIRC (R256); in low-power mode (R275). -/
  win : ChgQ := {}
  raw : ChgQ := {}
  lp : ChgQ := {}
  /-- Gain correction of the chopper calibration, and deviation of the LPO at entry, in ppm (R256, R275). -/
  gain : Int := 0
  lpoEntry : Int := 0
  /-- Charge counted since the latest snapshot, Kennel domain (R273). -/
  sinceSnap : ChgQ := {}
  /-- State of charge as a charge in µC (R267). -/
  socQ : Int := 0
  /-- Discharged charge toward the next cycle; parts of a mAh of Q_DSG and Q_CHG; all in µC (R267, R271). -/
  thr : Nat := 0
  dsgRem : Nat := 0
  chgRem : Nat := 0
  /-- Sum and number of the 1 ms means of the present second, in mA. -/
  secSum : Int := 0
  secN : Nat := 0
  /-- Discharge current averaged exponentially, in nA (R271). -/
  iAvg : Int := 0
  /-- Rest time in s; a correction has been tried in this rest period (R268, R269). -/
  rest : Nat := 0
  corrected : Bool := false
  /-- SoC from OCV is due at the next full-service sweep without rest: after a pack change, after the cold start (R274, R278). -/
  ocvPack : Bool := false
  ocvCold : Bool := false
  /-- Anchor: BATT.ACC and soc_ocv (R270); what forbids a candidate since; balancing time since in ms. -/
  anchor : Option (BitVec 64 × Nat) := none
  blocked : Bool := false
  balMs : Nat := 0
  /-- ESTIMATED stays set until the next reset (R256). -/
  estHard : Bool := false
  /-- The 60 s after a cold start: the cells of its first sweep, and whether the pack has not rested (R274). -/
  cold : Bool := false
  coldCells : Option (List Nat) := none
  coldBroken : Bool := false
  /-- An identity is retained (R278). -/
  idKnown : Bool := false
  /-- Consecutive sweeps with the stack below NCELL × 1.0 V (R277). -/
  lowRun : Nat := 0
  /-- SoC of the last snapshot and of the last BATTERY record of kind 5. -/
  snapSoc : Nat := 0
  stepSoc : Nat := 0
  /-- Gauge snapshots posted, those written, and the commands that wait for one (R280). -/
  snapsPosted : Nat := 0
  snapsWritten : Nat := 0
  waits : List (Nat × Req) := []
deriving DecidableEq, Repr

/-- M0 states of R293. -/
inductive M0State where
  | stopped
  | align
  | openRamp
  | closedLoop
  | braking
  | coasting
  | fault
deriving DecidableEq, Repr

/-- Codes of R300. -/
def M0State.code : M0State → Nat
  | .stopped => 0
  | .align => 1
  | .openRamp => 2
  | .closedLoop => 3
  | .braking => 4
  | .coasting => 5
  | .fault => 6

/-- What a MOTOR_RUN asks for (R295): direction, setpoint in 0.01 Hz, overrides of ACCEL and DECEL in Hz/s. -/
structure M0Run where
  rev : Bool
  setpoint : Nat
  accel : Option Nat
  decel : Option Nat
deriving DecidableEq, Repr

/-- The primary drive (R290 to R298). -/
structure M0 where
  st : M0State := .stopped
  /-- The pre-start gate test runs; the MOTOR_RUN it serves, or none for a queued run (R298). -/
  starting : Bool := false
  startReq : Option Req := none
  /-- Direction and setpoint in use, and the overrides in force until the next stop. -/
  run : M0Run := { rev := false, setpoint := 0, accel := none, decel := none }
  /-- The ramped speed command in units of 1 / (1,000 × F_SPEED) Hz. -/
  ramp : Nat := 0
  stopping : Bool := false
  queued : Option M0Run := none
  /-- An action has cancelled the queued run, and the record comes at the next decision point (R296, R300). -/
  dropped : Bool := false
  /-- MOTOR_STOP commands outstanding. -/
  stops : List Req := []
  /-- Kind of the present `FAULT`, or 0. -/
  kind : Nat := 0
  /-- In `ALIGN`, the standstill hold runs. -/
  hold : Bool := false
  /-- A hardware fault that the state has not followed yet: kind and PT of detection. It holds the gates low (R294). -/
  detected : Option (Nat × Time) := none
  /-- Actions 0 and 1 as asserted since the last decision point. -/
  seen0 : Bool := false
  seen1 : Bool := false
  /-- PT since which the speed is within ±0.5 % of the setpoint, and whether MOTOR_STATE of kind 2 has been posted for it. -/
  atPt : Option Time := none
  atDone : Bool := false
  /-- PT since which the angle error exceeds 45°, and since which the speed exceeds 110 % of MAX_FREQ. -/
  lossPt : Option Time := none
  overPt : Option Time := none
  /-- Consecutive PWM periods with a bad Hall code; two of them are kept until the next decision point (R294 kind 8). -/
  hallRun : Nat := 0
  /-- The speed loop's q-current command in 10 mA, positive in the direction of the run (R291). -/
  iqRef : Int := 0
  /-- What MOTOR_READ gives of the last decision point: STATUS, MEAS, TARGET, IDQ, FAULT, CNT and SUPPLY (R299). -/
  view : Vector Word 7 := Vector.replicate 7 0
  /-- Phase currents of the last PWM period in 10 mA, and the duties in force in counts (R289, R290). -/
  current : Vector Int 3 := Vector.replicate 3 0
  duty : Vector Nat 3 := Vector.replicate 3 0
deriving DecidableEq, Repr

/-- Fan channel states of R304. -/
inductive FanState where
  | stopped
  | starting
  | running
  | coasting
  | fault
deriving DecidableEq, Repr

/-- Codes of FAN_STATUS.STATE. -/
def FanState.code : FanState → Nat
  | .stopped => 0
  | .starting => 1
  | .running => 2
  | .coasting => 3
  | .fault => 4

/-- A start or stall sequence (R322, R323); codes of FAN_FSTATUS.SEQ. -/
inductive FanSeq where
  | none
  | start
  | stall
deriving DecidableEq, Repr

/-- Codes of FAN_FSTATUS.SEQ. -/
def FanSeq.code : FanSeq → Nat
  | .none => 0
  | .start => 1
  | .stall => 2

/-- One fan channel (R301 to R306, R320 to R326). Its flags stand in DRIVE.FAN_STATUS and THERM.FAN_FSTATUS. -/
structure Fan where
  st : FanState := .stopped
  seq : FanSeq := .none
  attempt : Nat := 0
  /-- Active override: value in %, and the PT at which it ends (R321). -/
  ovr : Option (Nat × Time) := Option.none
  /-- PT of the last TACH edge, and consecutive good intervals (R326). -/
  tachPt : Option Time := Option.none
  tachGood : Nat := 0
  /-- PT of the last entry to `STARTING` (R304). -/
  startPt : Time := 0
  /-- An attempt came due while the channel was coasting; it begins at `STOPPED` (R323). -/
  retryDue : Bool := false
deriving DecidableEq, Repr

/-- M0 and the fan channels (11_drive.md). -/
structure Drive where
  m0 : M0 := {}
  fan : Vector Fan 3 := Vector.replicate 3 {}
deriving DecidableEq, Repr

/-- What the management core keeps of one thermal zone beside its registers (R313 to R317). -/
structure Zone where
  /-- The zone is invalid, and the good updates since. -/
  invalid : Bool := false
  good : Nat := 0
  /-- Demand temperature in 0.1 °C; none until the next valid update sets it (R315). -/
  tDem : Option Int := none
  /-- WARN and CRIT are judged afresh at the next update (R317). -/
  fresh : Bool := true
  /-- Sum and number of the samples since the previous update: 0.1 °C for the die, 1/65,536 of NTCREF for an NTC. -/
  sum : Int := 0
  count : Nat := 0
deriving DecidableEq, Repr

/-- Thermal zones (12_thermal.md). -/
structure Therm where
  zone : Vector Zone 8 := Vector.replicate 8 {}
  /-- Value of the last ZONE_TEMP_WRITE in 0.1 °C; none while Z7 is unwritten (R318). -/
  host : Option Int := none
  hostPt : Time := 0
  /-- ZONE_TEMP_WRITE commands that wait for the next update (R377 (g)). -/
  waits : List Req := []
deriving DecidableEq, Repr
/-- Bank states of R414. -/
inductive BankSt where
  | idle
  | program
  | erase
  | suspending
  | suspended
  | suspProgram
deriving DecidableEq, Repr

/-- Step of a bank's unlocked sequence (R409): the writes accepted so far. -/
inductive SeqStep where
  | none
  | first
  | second
  /-- SECTOR_ERASE awaits its follow-up write. -/
  | erase
  /-- PROGRAM_LINE awaits its next line write: bank-relative base, once the first has come, and the words so far. -/
  | program (base : Option Nat) (words : List Word)
deriving DecidableEq, Repr

/-- One START or DONE entry of a marker area (R422). -/
structure Marker where
  done : Bool
  sector : Nat
  pt : Time
deriving DecidableEq, Repr

/-- What an erase is for: the host; or the controller's journal, automatic re-erase of a Plan slot, Plan staging and
firmware staging. -/
inductive EraseFor where
  | host
  | journal
  | plan
  | stage
  | firmware
deriving DecidableEq, Repr

/-- One flash bank (R403, R404, R414). Its status bits 27 to 19 stand in FLASH.STATUSn. -/
structure Bank where
  st : BankSt := .idle
  /-- Purpose and sector index of the erase that runs or is suspended. -/
  use : EraseFor := .host
  sector : Nat := 0
  /-- The erase has been abandoned while a line was written: `IDLE` follows (R414). -/
  doomed : Bool := false
  /-- The line a host program writes: line number in the array, and its bytes. -/
  line : Nat := 0
  data : List Byte := []
  statusMode : Bool := false
  step : SeqStep := .none
  /-- The suspect set, bit per sector index (R423). -/
  suspect : BitVec 512 := 0
  /-- Marker area: half in use, its generation, bitmap and entries, oldest first (R422). -/
  half : Bool := false
  gen : Nat := 0
  bitmap : BitVec 512 := 0
  marks : List Marker := []
deriving DecidableEq, Repr

/-- The journal writer (R425 to R427). -/
structure Journal where
  /-- The head has been found: from step 7 (R427). -/
  ready : Bool := false
  /-- h, and the next slot in it; 64 when it is full. -/
  sector : Nat := 0
  slot : Nat := 0
  /-- Next and oldest retained SEQ. -/
  head : Nat := 0
  oldest : Nat := 0
  /-- Erased sectors ahead. -/
  ahead : Nat := 3
  boot : BitVec 16 := 0
  /-- SEQ of the head of the latest counter snapshot written. -/
  snapSeq : Nat := 0
  /-- Records are held for an erase. -/
  held : Bool := false
deriving DecidableEq, Repr

/-- The flash array, its controller and the journal writer (16_flash.md). -/
structure Flash where
  /-- Line number and the 32 bytes programmed into it; an unlisted line is blank. -/
  lines : List (Nat × Option (List Byte)) := []
  bank : Vector Bank 2 := Vector.replicate 2 {}
  /-- FLASH.WEAK_FIFO, oldest first (R421). -/
  fifo : List Word := []
  /-- PT of the last FLASH_SUSPECT of kind 5 per sector, numbered bank × 512 + sector (R423). -/
  refusedPt : List (Nat × Time) := []
  /-- Sectors that self-test has retired, numbered the same way (R494). -/
  retired : List Nat := []
  jrn : Journal := {}
deriving DecidableEq, Repr

/-- OTP as far as Plans use it (R443). -/
structure Otp where
  /-- SHA-256 of the public key of each key slot; none while blank. -/
  keyHash : Vector (Option (BitVec 256)) 4 := Vector.replicate 4 none
  revoked : BitVec 4 := 0
  /-- Floor words programmed, oldest first; at most sixteen. -/
  floors : List Word := []
deriving DecidableEq, Repr

/-- A staging of a Plan or of firmware (R450 to R455). -/
structure Staging where
  /-- From OFFSET 0 to the end of the FINAL chunk. -/
  isOpen : Bool := false
  slot : Fin 2 := 0
  /-- Bytes staged so far, and the trailing part of a line. -/
  count : Nat := 0
  tail : List Byte := []
  /-- Sectors still to be erased for OFFSET 0, numbered bank × 512 + sector, and the chunk that waits for it: the command, its
  bytes, FINAL, and what FIRMWARE_STAGE's checks find: their outcome and the image's version. -/
  todo : List Nat := []
  chunk : Option (Req × List Byte × Bool × Nat × Word) := none
  /-- A FINAL chunk has closed it since the last reset; the image then held GENERATION, if its check 1 passed. -/
  closed : Bool := false
  gen : Option Nat := none
  activated : Bool := false
deriving DecidableEq, Repr

/-- Plan slots, stagings and what the loader keeps (17_plan_image.md). -/
structure Plans where
  otp : Otp := {}
  plan : Staging := {}
  firmware : Staging := {}
  /-- Activation markers of the firmware slots (R42, R455); the firmware shipped with the part stands marked in slot 0. Log
  entry 80 (DESIGN CHOICE). -/
  fwMarked : BitVec 2 := 1
  /-- A background verification is due (R448). -/
  verifyDue : Bool := false
  /-- KCLK of the loaded Plan: the Kennel clock is the XT32 (R441). -/
  xt32 : Bool := false
deriving DecidableEq, Repr


/-- PMC states of R456, and Off. -/
inductive PmcState where
  | run
  | idle
  | quiesce
  | waking
  | sleep
  | deepSleep
  | off
deriving DecidableEq, Repr

/-- Codes of PMC.STATUS.STATE (R475); in Off no register can be read. -/
def PmcState.code : PmcState → Nat
  | .run => 0
  | .idle => 1
  | .quiesce => 2
  | .waking => 3
  | .sleep => 4
  | .deepSleep => 5
  | .off => 0

/-- What a block has answered to the running quiesce request (R458); `asked` marks a ring engine that has begun its doze
entry for it (R353). -/
inductive QAnswer where
  | none
  | asked
  | wait
  | ack
deriving DecidableEq, Repr

/-- Accesses to a gated block that wait for a GATED_ACCESS record (R470). -/
structure GatedBlk where
  /-- PT of the last record. -/
  lastPost : Option Time := none
  /-- PT, KIND, OFFSET and STATE of the first access not yet reported. -/
  first : Option (Time × Nat × Nat × Nat) := none
  count : Nat := 0
deriving DecidableEq, Repr

/-- Power states and wake (18_power_states.md). -/
structure Pmc where
  state : PmcState := .run
  /-- Power state code the handshake started from: 0 Run, 1 Idle. -/
  base : Nat := 0
  answers : Vector QAnswer 16 := Vector.replicate 16 .none
  /-- PT at which the running or last handshake began. -/
  hsStart : Time := 0
  /-- The last handshake was aborted: later answers are still recorded within 100 µs (R458). -/
  late : Bool := false
  /-- POWER_STATE kind 5 has been posted in this handshake (R469 (a)). -/
  kind5 : Bool := false
  /-- The link is in L2/L3 Ready (R460). -/
  l23 : Bool := false
  /-- Wake sources detected since commit, oldest first: PT, code and DETAIL of R472. -/
  fired : List (Time × Nat × Nat) := []
  /-- DETAIL of the first source. -/
  detail : Nat := 0
  /-- Power state code of the running or last sleep (WAKE.FROM). -/
  slept : Nat := 0
  /-- An assertion of PERST_N was latched in this sleep (R468 (a)). -/
  perstLatched : Bool := false
  /-- It was, and the WAKE record of this wake says so. -/
  perstFlag : Bool := false
  /-- PT of the restart edge of the running wake (POWER_STATE kind 4). -/
  restartPt : Time := 0
  /-- A write to DEV.NUDGE is held (R465). -/
  nudgeHeld : Bool := false
  /-- XO_FAIL was set when the sleep began; the XO stopped in it (R472 FLAGS). -/
  xoFailBefore : Bool := false
  xoStopped : Bool := false
  /-- PEWAKE_N is driven low (R468 (c)). -/
  pewakeLow : Bool := false
  /-- A PM_PME message has been sent (R468 (c)). -/
  pmeSent : Bool := false
  /-- The wake-source byte of the VIN domain (R469 (c)). -/
  offByte : BitVec 2 := 0
  gated : Vector GatedBlk 16 := Vector.replicate 16 {}
deriving DecidableEq, Repr
/-- The BIST engine (19_self_test.md). -/
structure Bist where
  /-- Code of the first class S failure (R492). -/
  safeCode : Byte := 0
  /-- The `SAFE` latch and its cause, held in the Kennel domain until a POR or BOR (R493). -/
  safeLatch : Bool := false
  /-- Fabric cycles of work done per test in this cycle (R479, R481). -/
  work : Vector Nat 15 := Vector.replicate 15 0
  /-- Test whose turn comes next (R481). -/
  turn : Fin 15 := 0
  /-- PT at which the cycle began. -/
  cyclePt : Time := 0
  /-- A quiesce or a sleep pauses the engine (R482). -/
  paused : Bool := false
  /-- SELFTEST_RUN in flight, the tests it named, and those that have failed (R496). -/
  request : Option Req := none
  reqTests : BitVec 15 := 0
  reqFailed : BitVec 15 := 0
  /-- Consecutive EN readings on while commanded off, per rail (R486). -/
  enRun : Vector Nat 24 := Vector.replicate 24 0
  /-- Consecutive ADC-M cycles in which the references differ by more than 0.5 % (R485). -/
  refRun : Nat := 0
  /-- Consecutive cell sweeps in which reference B is off by more than 1.5 mV (R489 (e)). -/
  cellRefRun : Nat := 0
  /-- Consecutive clock-monitor windows in which XO, FIRC or LPO disagrees (R487). -/
  clkRun : Vector Nat 3 := Vector.replicate 3 0
  /-- The EN commands at the last readback, and readings since each changed (R486). -/
  enCmd : BitVec 24 := 0
  enSettled : Vector Nat 24 := Vector.replicate 24 0
  /-- Tests that have failed in this cycle. -/
  failed : BitVec 15 := 0
  /-- Work done for a requested run (R496). -/
  reqWork : Vector Nat 15 := Vector.replicate 15 0
deriving DecidableEq, Repr

/-- The whole machine. -/
structure State where
  /-- The commands that wait, first in, first out. -/
  pending : List Instr := []
  /-- How many free values have been drawn (the model's own field: Config.freeWord is applied to it). -/
  free : Nat := 0
  /-- The register file: BAR0 offset and value, unlisted registers holding their reset value. -/
  regs : List (Nat × Word) := []
  /-- Host memory as the controller has written it: an unlisted byte reads 0. -/
  host : List Host.Cell := []
  dev : Dev := {}
  time : TimeBase := {}
  leash : Leash := {}
  fabric : Fabric := {}
  /-- The request queue (R20). -/
  reqs : List ReqEntry := []
  keys : Keys := {}
  motion : Motion := {}
  seq : Seq := {}
  herd : Herd := {}
  sup : Sup := {}
  batt : Batt := {}
  drive : Drive := {}
  therm : Therm := {}
  hedge : Hedge := {}
  bist : Bist := {}
  pmc : Pmc := {}
  ring : Ring := {}
  mbox : Mbox := {}
  flash : Flash := {}
  plans : Plans := {}
  /-- The bytes that the last BAR0 or BAR2 read returned. -/
  rdata : List Byte := []
deriving DecidableEq, Repr

/-- The machine right after reset: internal reset has just been released (R39 step 2, R63), every register at the
value the manual states. -/
def State.reset : State := {}

end Sys2Proof.Machine
end

