-- ==== Sys2Proof/Machine/Ops.lean ====
section
/-!
DEFINITION. The named operations every command shares: the register file, field writes by access code, host memory,
free values, platform-time stamps, event records and the fabric's ingress.
-/

namespace Sys2Proof.Machine

/-- The outcome of a command. -/
abbrev Out := Host.Outcome State Fault Refusal

/-! ### The register file -/

/-- The stored value of the register at BAR0 offset `a`. -/
def State.reg (s : State) (a : Nat) : Word := sparseGet regReset s.regs a

/-- Stores a register value. -/
def State.setReg (s : State) (a : Nat) (w : Word) : State := { s with regs := sparseSet regReset s.regs a w }

/-- Field `[hi:lo]` of a stored register. -/
def State.fld (s : State) (a hi lo : Nat) : Nat := wfld (s.reg a) hi lo

/-- Stores field `[hi:lo]` of a register. -/
def State.setFld (s : State) (a hi lo v : Nat) : State := s.setReg a (wset (s.reg a) hi lo v)

/-- Bit `i` of a stored register. -/
def State.flag (s : State) (a i : Nat) : Bool := bit (s.reg a) i

/-- Stores bit `i` of a register. -/
def State.setFlag (s : State) (a i : Nat) (b : Bool) : State := s.setFld a i i (b2n b)

/-- Adds one to a saturating counter field (R9). -/
def State.inc (s : State) (a hi lo : Nat) : State := s.setReg a (satInc (s.reg a) hi lo)

/-- Adds `n` to a saturating counter field (R9). -/
def State.incBy (s : State) (a hi lo n : Nat) : State :=
  s.setFld a hi lo (satN (hi + 1 - lo) (s.fld a hi lo + n))

/-- Clears the fields of `l` whose bit is set in `v`: `(bit, register, hi, lo)` (the CNT_CLR registers). -/
def State.clearBy (s : State) (v : Word) (l : List (Nat × Nat × Nat × Nat)) : State :=
  l.foldl (fun s e => if bit v e.1 then s.setFld e.2.1 e.2.2.1 e.2.2.2 0 else s) s

/-- One writable field after a bus write of `v` (R6, R7): an undefined value leaves the field; an RWL field is
left once Plan load has completed. Log entry 56 (DEDUCED). -/
def writeField (locked : Bool) (v old : Word) (f : FieldSpec) : Word :=
  match f.acc with
  | .w1c => wset old f.hi f.lo (wfld (old &&& ~~~v) f.hi f.lo)
  | .rw => if f.admits (wfld v f.hi f.lo) then wset old f.hi f.lo (wfld v f.hi f.lo) else old
  | .rwl =>
    if !locked && f.admits (wfld v f.hi f.lo) then wset old f.hi f.lo (wfld v f.hi f.lo) else old

/-- A write of SEQ.RAIL_CFG in which a PREn that names no rail, 24 to 31, is what stood before: each PREn is one field of six bits
(R6, R201). -/
def definedPre (v old : Word) : Word :=
  [0, 6, 12, 18].foldl (fun w lo => if 23 < wfld v (lo + 4) lo then wset w (lo + 5) lo (wfld old (lo + 5) lo) else w) v

/-- The register `a` holding `old`, after a bus write of `v` (R5 to R7). PMC.WAKE_EN defines only bits 0–3, 5–7 and 10
(R475). Log entry 56 (DEDUCED). -/
def writeWord (locked : Bool) (a : Nat) (v old : Word) : Word :=
  let v := if (List.range 24).any fun n => decide (a = Reg.SEQ_RAIL_CFG n) then definedPre v old else v
  if a = Reg.PMC_WAKE_EN && wfld v 10 0 &&& 0x318 ≠ 0 then old
  else match regSpec a with
    | some r => r.fields.foldl (writeField locked v) old
    | none => old

/-- A bus write to the stored fields of a register. -/
def State.writeStored (s : State) (a : Nat) (v : Word) : State :=
  s.setReg a (writeWord s.dev.planLoaded a v (s.reg a))

/-! ### Host memory -/

/-- What an unlisted byte of host memory reads as (log entry 5). Log entry 5 (DESIGN CHOICE). -/
def hostDefault (_ : Nat) : Byte := 0

/-- Writes bytes to host memory. Log entry 5 (DESIGN CHOICE). -/
def State.hostWrite (s : State) (a : Nat) (bs : List Byte) : State :=
  { s with host := sparseSetRun hostDefault s.host a bs }

/-- One byte of host memory as the controller last wrote it. Log entry 5 (DESIGN CHOICE). -/
def State.hostByte (s : State) (a : Nat) : Byte := sparseGet hostDefault s.host a

/-! ### Free values -/

/-- The free value the next draw gives. Log entry 8 (DESIGN CHOICE). -/
def State.freeVal (s : State) : Nat := (Config.freeWord s.free).toNat

/-- Moves on to the next free value. Log entry 8 (DESIGN CHOICE). -/
def State.draw (s : State) : State := { s with free := s.free + 1 }

/-- The fraction n / d as a whole number: exact where it is one, else rounded down or up by a free bit.
Log entry 8 (DESIGN CHOICE). -/
def State.roundFrac (s : State) (n d : Int) : State × Int :=
  if n % d = 0 then (s, n / d) else (s.draw, n / d + (s.freeVal % 2 : Nat))

/-! ### Time -/

/-- Platform time as a number. -/
def State.now (s : State) : Nat := s.time.pt.toNat

/-- PT units that have passed since `t`. -/
def State.since (s : State) (t : Time) : Nat := (s.time.pt - t).toNat

/-- PT units in `n` milliseconds. -/
def ms (n : Nat) : Nat := n * 96000

/-- PT units in `n` microseconds. -/
def us (n : Nat) : Nat := n * 96

/-- R68: PT after `n` Kennel ticks from `p` with fraction `frac` sixteenths, and the new fraction.
Log entry 1 (DESIGN CHOICE). -/
def ptAdvance (p : Time) (frac n : Nat) : Time × Nat :=
  let acc := frac + n * 11
  (p + BitVec.ofNat 64 (n * 2929 + acc / 16), acc % 16)

/-- Kennel ticks since the entry edge of the running sleep (R68). -/
def State.sleepTicks (s : State) : Nat := (s.time.ktick - s.time.entryTick).toNat

/-- The PT of the present moment: counted while the time base runs, R68's value for the present tick in a sleep
(R65, R66). -/
def State.ptNow (s : State) : Time :=
  if s.time.src = .kennel then (ptAdvance s.time.ptEntry (s.fld Reg.TIME_STATUS 11 8) s.sleepTicks).1 else s.time.pt

/-- PT_EST for a record that carries PT `p` (R66): set unless `p` was counted from the XO. PT_entry itself names the Kennel
tick of the entry edge. Log entry 81 (DEDUCED). -/
def State.ptEst (s : State) (p : Time) : Bool :=
  let inCur := match s.time.xoSince with
    | some a => decide (a.toNat ≤ p.toNat)
    | none => false
  let inLast := match s.time.xoLast with
    | some (a, b) => decide (a.toNat ≤ p.toNat) && decide (p.toNat < b.toNat)
    | none => false
  !(inCur || inLast)

/-! ### Event records -/

/-- Subscription mask bit of an event type (R386); none for TIME_ANCHOR and LOST. -/
def maskBit (typ : Nat) : Option Nat :=
  let types := [0x01, 0x02, 0x03, 0x04, 0x05, 0x10, 0x11, 0x20, 0x21, 0x22, 0x23, 0x24, 0x30, 0x31, 0x40, 0x41, 0x42,
    0x50, 0x51, 0x52, 0x70, 0x71, 0x72, 0x73, 0x74]
  types.findIdx? (· == typ)

/-- The context is of type STREAM (R339). -/
def State.isStream (s : State) (c : Nat) : Bool := s.flag (Reg.RING_CTX_CFG c) 30

/-- The context uses the version 2 format (R339). -/
def State.isV2 (s : State) (c : Nat) : Bool := s.flag (Reg.RING_CTX_CFG c) 29

/-- The subscription mask of a context (R362). -/
def State.ctxMask (s : State) (c : Nat) : Nat :=
  (s.reg (Reg.RING_SUB_LO c)).toNat + 2 ^ 32 * (s.reg (Reg.RING_SUB_HI c)).toNat

/-- The stream contexts and ports that subscribe to mask bit `b` now (R382, R385, R395). Log entry 19 (DEDUCED). -/
def State.subscribers (s : State) (b : Nat) : Nat :=
  bitsOf 32 (fun c => if h : c < 32 then
      (s.ring.ctx[c]).state = .active && s.isStream c && nbit (s.ctxMask c) b else false)
  + 2 ^ 32 * bitsOf 4 (fun p => if h : p < 4 then (s.mbox.port[p]).sub.getLsbD b else false)

/-- Room for one more record in the ingress buffer: 256 entries, 32 of them for records bound for the journal (R26). -/
def Fabric.room (f : Fabric) (forJournal : Bool) : Bool :=
  if forJournal then decide (f.ingress.length < 256)
  else decide (f.ingress.length < 256) && decide ((f.ingress.filter fun r => !r.todo.getLsbD 36).length < 224)

/-- The block that posts an event record of each type, by a number of the model's. Log entry 19 (DEDUCED). -/
def eventBlock : List (Nat × Nat) :=
  [(0x02, 0), (0x04, 4), (0x05, 4), (0x10, 5), (0x11, 5), (0x20, 6), (0x23, 6), (0x21, 7), (0x22, 8), (0x24, 9), (0x30, 10),
    (0x31, 10), (0x40, 11), (0x41, 12), (0x42, 12), (0x50, 13), (0x51, 13), (0x73, 13), (0x52, 14), (0x70, 15), (0x71, 16),
    (0x72, 16), (0x74, 17)]

/-- The block that posts a journal record of each type of R429 but EVENT. Log entry 19 (DEDUCED). -/
def journalBlock : List (Nat × Nat) :=
  [(0x01, 14), (0x03, 8), (0x04, 6), (0x05, 6), (0x06, 5), (0x07, 7), (0x08, 7), (0x09, 10), (0x0A, 18)]

/-- The source of a record (R25): each matrix node, direct input and pair of the key scanner is one (blocks 1 to 3, with its
index), the Hedge is one for both its paths, and every other record comes from the block that posts it.
Log entry 19 (DEDUCED). -/
def EvRec.source (e : EvRec) : Nat × Nat :=
  if e.jtype ≠ 2 then ((journalBlock.lookup e.jtype).getD 14, 0)
  else if e.typ = 0x01 then (1 + leAt e.payload 0 1, leAt e.payload 2 2)
  else if e.typ = 0x03 then (1, leAt e.payload 2 2)
  else ((eventBlock.lookup e.typ.toNat).getD 14, 0)

/-- Some record of the list has the source of `r`. -/
def holdsSource (l : List FabRec) (r : FabRec) : Bool := l.any fun x => decide (x.ev.source = r.ev.source)

/-- Puts a record into the ingress buffer, or has its source hold it: where the buffer has no room for it, or where the source
holds an earlier record, which it posts first (R25, R26). A record no destination takes is not kept (R382). -/
def State.enqueue (s : State) (r : FabRec) : State :=
  if r.todo = 0 then s
  else if s.fabric.room (r.todo.getLsbD 36) && !holdsSource s.fabric.held r then
    { s with fabric.ingress := s.fabric.ingress ++ [r] }
  else { s with fabric.held := s.fabric.held ++ [r] }

/-- Whether the journal takes an event record (R428): SERVICE, HEDGE_TRIP, RAIL_FAULT, BIST and POWER_STATE of kind 5
whatever the mask holds. -/
def State.journalTakes (s : State) (b : Nat) (payload : List Byte) : Bool :=
  s.flag Reg.FLASH_JOURNAL_MASK b || [19, 5, 9, 20].contains b || (b == 17 && payload.headD 0 = 5)

/-- Offers a record to its destinations: an event record to its subscribers and, under R428, to the journal; a journal
record of another type to the journal alone (R382). -/
def State.offer (s : State) (e : EvRec) : State :=
  if e.jtype ≠ 2 then s.enqueue { ev := e, todo := BitVec.ofNat 37 (2 ^ 36) }
  else match maskBit e.typ.toNat with
    | none => s
    | some b =>
      s.enqueue { ev := e, todo := BitVec.ofNat 37 (s.subscribers b + (if s.journalTakes b e.payload then 2 ^ 36 else 0)) }

/-- Posts a record: at once, or at step 6 of the wake order while a sleep holds it (R24). Log entry 19 (DEDUCED). -/
def State.postRec (s : State) (e : EvRec) : State :=
  if s.fabric.holding then { s with fabric.waiting := s.fabric.waiting ++ [e] } else s.offer e

/-- Posts an event record with PT `p`. -/
def State.postAt (s : State) (p : Time) (typ : Nat) (payload : List Byte) (alert : Bool := false) : State :=
  s.postRec { typ := BitVec.ofNat 8 typ, est := s.ptEst p, alert := alert, pt := p, payload := padTo 16 payload }

/-- Posts an event record of the present moment. -/
def State.post (s : State) (typ : Nat) (payload : List Byte) (alert : Bool := false) : State :=
  s.postAt s.ptNow typ payload alert

/-- Posts a journal record of its own (types of R429 other than EVENT) with PT `p`. -/
def State.journalAt (s : State) (p : Time) (jtype : Nat) (payload : List Byte) : State :=
  s.postRec { typ := 0, est := s.ptEst p, alert := false, pt := p, payload := payload, jtype := jtype }

/-- Posts a journal record of the present moment. -/
def State.journal (s : State) (jtype : Nat) (payload : List Byte) : State := s.journalAt s.ptNow jtype payload

/-- Held records enter the ingress buffer as far as it has room, those of one source in their order (R25, R26): `f.held` collects
those that stay. -/
def admitHeld : List FabRec → Fabric → Fabric
  | [], f => f
  | r :: rs, f =>
    if f.room (r.todo.getLsbD 36) && !holdsSource f.held r then admitHeld rs { f with ingress := f.ingress ++ [r] }
    else admitHeld rs { f with held := f.held ++ [r] }

/-- Marks destination `d` of the oldest record that owes it as served; a record that owes nothing leaves. -/
def serveFirst (d : Nat) : List FabRec → List FabRec
  | [] => []
  | r :: rs =>
    if r.todo.getLsbD d then
      let t := r.todo &&& ~~~(BitVec.ofNat 37 (2 ^ d))
      if t = 0 then rs else { r with todo := t } :: rs
    else r :: serveFirst d rs

/-- The oldest record that owes destination `d`. -/
def Fabric.oldest (f : Fabric) (d : Nat) : Option FabRec := f.ingress.find? fun r => r.todo.getLsbD d

/-- The fabric after the oldest record has been delivered to `d`. -/
def State.served (s : State) (d : Nat) : State :=
  let f : Fabric := { s.fabric with ingress := serveFirst d s.fabric.ingress }
  { s with fabric := admitHeld f.held { f with held := [] } }

/-- Drops every record's debt to destination `d` (R357). Log entry 19 (DEDUCED). -/
def State.dropDest (s : State) (d : Nat) : State :=
  let f (l : List FabRec) : List FabRec :=
    (l.map fun r => { r with todo := r.todo &&& ~~~(BitVec.ofNat 37 (2 ^ d)) }).filter fun r => r.todo ≠ 0
  let h := f s.fabric.held
  { s with fabric := admitHeld h { s.fabric with ingress := f s.fabric.ingress, held := [] } }

/-! ### Small updates -/

/-- One ring context replaced. -/
def State.modCtx (s : State) (c : Fin 32) (f : Ctx → Ctx) : State :=
  { s with ring.ctx := s.ring.ctx.set c (f s.ring.ctx[c]) }

/-- One mailbox port replaced. -/
def State.modPort (s : State) (p : Fin 4) (f : Port → Port) : State :=
  { s with mbox.port := s.mbox.port.set p (f s.mbox.port[p]) }

/-- SERVICE record at a stage change or when XO_FAIL or PLL_FAIL is set (R383). `stageWord` is the image of DEV.STAGE. -/
def State.postService (s : State) (stageWord : Word) (elapsed : Word) (rebase : Nat) : State :=
  s.post 0x52 (image stageWord ++ image elapsed ++ leBytes 8 rebase)

end Sys2Proof.Machine
end

