-- ==== Sys2Proof/Machine/Streams.lean ====
section
/-!
DEFINITION. What the ring engine and the mailbox ports share: messages (MSI-X), ring positions, stream records with
their anchors and LOST records, doorbell-page writes and engine state changes (13_host_rings.md, R75 to R77, R395).
-/

namespace Sys2Proof.Machine

/-! ### The PCIe function -/

/-- The ring engine is frozen (R336). Log entry 16 (DEDUCED). -/
def State.frozen (s : State) : Bool := !s.ring.pcie.bme || s.ring.d3hot || !s.ring.linkUp

/-- Sends the MSI-X message of vector `v`, or sets its PBA bit while it is masked (R354). The message is a posted
memory write of MSIX.DATA to MSIX.ADDR; a frozen engine sends none (R336). Log entry 14 (DEDUCED). -/
def State.message (s : State) (v : Nat) : State :=
  if !s.ring.pcie.bme || !s.ring.pcie.msixEn then s
  else if s.ring.pcie.fnMask || s.flag (Reg.MSIX_VCTRL v) 0 then
    (if v < 32 then s.setFlag Reg.MSIX_PBA0 v true else s.setFlag Reg.MSIX_PBA1 (v - 32) true)
  else if s.frozen then s
  else s.hostWrite ((s.reg (Reg.MSIX_ADDR_LO v)).toNat + 2 ^ 32 * (s.reg (Reg.MSIX_ADDR_HI v)).toNat)
    (image (s.reg (Reg.MSIX_DATA v)))

/-- Sets a bit of DEV.RING_ERR; vector 0 is raised at a 0-to-1 change (R354). -/
def State.ringErr (s : State) (b : Nat) : State :=
  if s.flag Reg.DEV_RING_ERR b then s else (s.setFlag Reg.DEV_RING_ERR b true).message 0

/-- A message of vector `v` goes out now: enabled, not masked, not frozen (R336, R354). -/
def State.sendable (s : State) (v : Nat) : Bool :=
  s.ring.pcie.bme && s.ring.pcie.msixEn && !s.ring.pcie.fnMask && !s.flag (Reg.MSIX_VCTRL v) 0 && !s.frozen

/-- A message of vector `v` that is sent counts for its context (R355). -/
def State.countIrq (s : State) (v : Nat) : State :=
  if 2 ≤ v && s.sendable v then s.inc (Reg.RING_CTX_CNT (v - 2)) 15 0 else s

/-- Sends the vector of context `c`: the count and the timer restart (R355); a `FAILED` context raises none (R341).
Log entry 14 (DEDUCED). -/
def State.ctxMessage (s : State) (c : Fin 32) : State :=
  let s := s.modCtx c fun x => { x with coal := 0 }
  if s.flag (Reg.RING_CTX_CFG c) 28 && decide ((s.ring.ctx[c]).state ≠ .failed) then
    (s.countIrq (2 + c)).message (2 + c)
  else s

/-- One entry written for context `c`: the message goes at COAL.CNT entries, at a COAL.TIME of 0, or at once for a
record with ALERT (R355). -/
def State.entryWritten (s : State) (c : Fin 32) (alert : Bool) : State :=
  let s := s.modCtx c fun x => { x with coal := x.coal + 1 }
  let cnt := max 1 (s.fld (Reg.RING_COAL c) 23 16)
  if alert || s.fld (Reg.RING_COAL c) 9 0 = 0 || cnt ≤ (s.ring.ctx[c]).coal then s.ctxMessage c else s

/-! ### Positions (R343, R344) -/

/-- Entries of the SQ or of the stream ring. -/
def State.sqSize (s : State) (c : Nat) : Nat := 2 ^ s.fld (Reg.RING_CTX_CFG c) 23 20

/-- Entries of the CQ. -/
def State.cqSize (s : State) (c : Nat) : Nat := 2 ^ s.fld (Reg.RING_CTX_CFG c) 19 16

/-- Entries from `b` to `a` on a ring of `n` entries. -/
def posDiff (n a b : Nat) : Nat := (a + 2 * n - b % (2 * n)) % (2 * n)

/-- Phase bit of the entry at a position: 1 minus the wrap bit. -/
def phaseBit (n pos : Nat) : Nat := 1 - (pos / n) % 2

/-- Base address of the SQ or stream ring. -/
def State.sqBase (s : State) (c : Nat) : Nat :=
  (s.reg (Reg.RING_SQ_BASE_LO c)).toNat + 2 ^ 32 * (s.reg (Reg.RING_SQ_BASE_HI c)).toNat

/-- Base address of the CQ. -/
def State.cqBase (s : State) (c : Nat) : Nat :=
  (s.reg (Reg.RING_CQ_BASE_LO c)).toNat + 2 ^ 32 * (s.reg (Reg.RING_CQ_BASE_HI c)).toNat

/-! ### The doorbell page (R348) -/

/-- Writes the state word and DOZE_SEQ to the doorbell page; a frozen engine writes it at the thaw (R336).
Log entry 16 (DEDUCED). -/
def State.writeStateWord (s : State) : State :=
  match s.ring.dbBase with
  | none => s
  | some a =>
    if s.frozen then { s with ring.wordDue := true }
    else
    let st := if s.ring.engine = .dozeEntry || s.ring.engine = .dozing then 1 else 0
    s.hostWrite (a + 0x800) (image (pack [(st, 0), (s.ring.interval, 16)]) ++ image s.ring.dozeSeq)

/-- Sends an LTR message when the host has enabled LTR: the poll interval while the engine polls, 3 ms while it
dozes (R334). -/
def State.sendLtr (s : State) : State :=
  if s.ring.pcie.ltrEn then
    { s with ring.ltr := some (if s.ring.engine = .dozing then 3000 else s.ring.interval) }
  else s

/-- POLL_MIN and POLL_MAX (R349). -/
def State.pollMin (s : State) : Nat := s.fld Reg.DEV_DB_CTRL 9 0
def State.pollMax (s : State) : Nat := s.fld Reg.DEV_DB_CTRL 19 10

/-- The engine enters `POLLING` at POLL_MIN: state word and LTR (R350). -/
def State.enterPolling (s : State) : State :=
  ({ s with ring.engine := .polling, ring.interval := s.pollMin, ring.nudged := false }).writeStateWord.sendLtr

/-- A new poll interval; a change is written to the page and announced (R334, R348, R349). -/
def State.setInterval (s : State) (n : Nat) : State :=
  if n = s.ring.interval then s else ({ s with ring.interval := n }).writeStateWord.sendLtr

/-- Some context is `ACTIVE`. -/
def Ring.anyActive (r : Ring) : Bool := r.ctx.toList.any fun x => decide (x.state = .active)

/-- Some context is not `DISABLED`. -/
def Ring.anyEnabled (r : Ring) : Bool := r.ctx.toList.any fun x => decide (x.state ≠ .disabled)

/-- Some context is `CREATING`. -/
def Ring.anyCreating (r : Ring) : Bool := r.ctx.toList.any fun x => decide (x.state = .creating)

/-- Some context has a LOST pending. -/
def Ring.anyLost (r : Ring) : Bool := r.ctx.toList.any fun x => decide (x.state = .active) && decide (x.strm.lost ≠ 0)

/-- `POLLING` ends when no context remains `ACTIVE` (R350). -/
def State.idleCheck (s : State) : State :=
  if s.ring.engine = .polling && !s.ring.anyActive then { s with ring.engine := .idle } else s

/-! ### Records (R380, R381) -/

/-- The bytes of a stream record: version 1 omits payload bytes 8–15. -/
def recBytes (v2 : Bool) (phase : Nat) (seq : BitVec 16) (e : EvRec) : List Byte :=
  let head := [e.typ, BitVec.ofNat 8 (phase + 2 * b2n e.est + 4 * b2n e.alert)] ++ leBytes 2 seq.toNat
  if v2 then head ++ leBytes 4 0 ++ leBytes 8 e.pt.toNat ++ padTo 16 e.payload
  else head ++ leBytes 4 e.pt.toNat ++ padTo 8 e.payload

/-- The TIME_ANCHOR that precedes record `e` (R76, R384). -/
def anchorOf (e : EvRec) : EvRec :=
  { typ := 0x60, est := e.est, alert := false, pt := e.pt, payload := leBytes 8 e.pt.toNat }

/-- Whether a version 1 stream needs an anchor before a record of PT `p` (R75). -/
def Stream.needsAnchor (t : Stream) (p : Time) : Bool :=
  t.afterWake || t.newSession || (match t.lastPt with
    | none => true
    | some q => decide (q.toNat / 2 ^ 30 ≠ p.toNat / 2 ^ 30))

/-- Counts `n` records as lost: each takes a sequence number (R346 (b), (c)). -/
def Stream.lose (t : Stream) (n cause : Nat) : Stream :=
  { t with seq := t.seq + BitVec.ofNat 16 n, lost := satN 32 (t.lost + n),
           lostFirst := if t.lost = 0 then t.seq else t.lostFirst, lostCause := t.lostCause ||| cause }

/-- The stream after a record of PT `p` has been written with `n` entries. -/
def Stream.wrote (t : Stream) (p : Time) (n : Nat) : Stream :=
  { t with seq := t.seq + BitVec.ofNat 16 n, lastPt := some p, afterWake := false, newSession := false }

/-- The LOST record of a stream at PT `p` (R347); without LOST_DETAIL bytes 4–6 are 0 (R338). -/
def lostRec (t : Stream) (detail est : Bool) (p : Time) : EvRec :=
  { typ := 0x61, est := est, alert := false, pt := p,
    payload := padTo 16 (leBytes 4 t.lost ++
      (if detail then leBytes 2 t.lostFirst.toNat ++ [BitVec.ofNat 8 t.lostCause] else [])) }

/-! ### Stream rings (R346) -/

/-- Free entries of a stream ring. -/
def State.ringFree (s : State) (c : Fin 32) : Nat :=
  s.sqSize c - posDiff (s.sqSize c) (s.ring.ctx[c]).devTail (s.ring.ctx[c]).hostHead

/-- Writes one record at the stream ring's tail (R344). -/
def State.ringPut (s : State) (c : Fin 32) (e : EvRec) : State :=
  let n := s.sqSize c
  let x := s.ring.ctx[c]
  let v2 := s.isV2 c
  let s := s.hostWrite (s.sqBase c + (x.devTail % n) * (if v2 then 32 else 16))
    (recBytes v2 (phaseBit n x.devTail) x.strm.seq e)
  let s := s.modCtx c fun x =>
    { x with devTail := (x.devTail + 1) % (2 * n), strm := x.strm.wrote e.pt 1 }
  s.entryWritten c e.alert

/-- Writes a record, preceded on a version 1 ring by the anchor R75 asks for. -/
def State.ringPutAnchored (s : State) (c : Fin 32) (e : EvRec) : State :=
  if !s.isV2 c && (s.ring.ctx[c]).strm.needsAnchor e.pt then (s.ringPut c (anchorOf e)).ringPut c e
  else s.ringPut c e

/-- Entries that a record of PT `p` needs on the ring (R76). -/
def State.ringNeed (s : State) (c : Fin 32) (p : Time) : Nat :=
  if !s.isV2 c && (s.ring.ctx[c]).strm.needsAnchor p then 2 else 1

/-- Counts `n` records of context `c` as lost (R346 (c)). -/
def State.ringLose (s : State) (c : Fin 32) (n cause : Nat) : State :=
  (s.modCtx c fun x => { x with strm := x.strm.lose n cause }).incBy (Reg.RING_CTX_LOST c) 31 0 n

/-- Writes the pending LOST record once the ring has four free entries (R346 (d), R347). -/
def State.ringFlushLost (s : State) (c : Fin 32) : State :=
  let t := (s.ring.ctx[c]).strm
  if t.lost = 0 || s.ringFree c < 4 then s
  else
    let e := lostRec t (s.flag Reg.DEV_FEAT1 3) (s.ptEst s.ptNow) s.ptNow
    (s.ringPutAnchored c e).modCtx c fun x => { x with strm := { x.strm with lost := 0, lostCause := 0 } }

/-- A position pair of a ring of `n` entries is good: the consumer is in range and not ahead of the producer, and the
producer no more than `n` ahead (R343). -/
def goodPair (n producer consumer : Nat) : Bool :=
  decide (producer < 2 * n) && decide (consumer < 2 * n) && decide (posDiff n producer consumer ≤ n)

/-- One record offered to an `ACTIVE` stream ring whose head has been read (R346). While a LOST is pending a record is
dropped alone, its anchor not yet due. Log entry 19 (DEDUCED). -/
def State.ringOffer (s : State) (c : Fin 32) (e : EvRec) : State :=
  let s := s.ringFlushLost c
  let need := s.ringNeed c e.pt
  if (s.ring.ctx[c]).strm.lost ≠ 0 then s.ringLose c 1 1
  else if need ≤ s.ringFree c then s.ringPutAnchored c e
  else s.ringLose c need 1

/-! ### Port event queues (R395) -/

/-- Appends one version 1 record, whose phase bit reads 0. -/
def Port.put (p : Port) (e : EvRec) : Port :=
  { p with evts := p.evts ++ [recBytes false 0 p.strm.seq e], strm := p.strm.wrote e.pt 1 }

/-- Appends a record with the anchor R75 asks for. -/
def Port.putAnchored (p : Port) (e : EvRec) : Port :=
  if p.strm.needsAnchor e.pt then (p.put (anchorOf e)).put e else p.put e

/-- Writes the pending LOST once four of the 16 entries are free. -/
def Port.flushLost (p : Port) (detail est : Bool) (now : Time) : Port :=
  if p.strm.lost = 0 || 16 - p.evts.length < 4 then p
  else
    let q := p.putAnchored (lostRec p.strm detail est now)
    { q with strm := { q.strm with lost := 0, lostCause := 0 } }

/-- One record offered to a port's queue of 16 entries. Log entry 19 (DEDUCED). -/
def Port.offer (p : Port) (detail est : Bool) (now : Time) (e : EvRec) : Port :=
  let p := p.flushLost detail est now
  let need := if p.strm.needsAnchor e.pt then 2 else 1
  if p.strm.lost ≠ 0 then { p with strm := p.strm.lose 1 1 }
  else if need ≤ 16 - p.evts.length then p.putAnchored e
  else { p with strm := p.strm.lose need 1 }

/-- Counts a record dropped under R26 for every stream that still owed it. Log entry 19 (DEDUCED). -/
def State.dropRecord (s : State) (r : FabRec) : State :=
  let s := (List.finRange 32).foldl (fun s (c : Fin 32) => if r.todo.getLsbD c.val then s.ringLose c 1 2 else s) s
  (List.finRange 4).foldl (fun s (p : Fin 4) => if r.todo.getLsbD (32 + p.val) then
    s.modPort p fun q => { q with strm := q.strm.lose 1 2 } else s) s

end Sys2Proof.Machine
end

