-- ==== Sys2Proof/Machine/PowerOps.lean ====
section
/-!
DEFINITION. What every block shares of the power states: the PMC's state, its interrupt causes, wake-source detection and
the abort of a quiesce handshake (18_power_states.md, R457 to R466).
-/

namespace Sys2Proof.Machine

/-- Sleep or Deep sleep with the time base stopped: from the entry edge to the restart edge (R63, R68).
Log entry 10 (DESIGN CHOICE). -/
def State.asleep (s : State) : Bool := decide (s.time.src = .kennel)

/-- The controller has power, is not in Off and is out of reset. Log entry 10 (DESIGN CHOICE). -/
def State.live (s : State) : Bool := s.dev.powered && !s.dev.inReset && s.pmc.state ≠ .off

/-- The PMC state is `SLEEP`. -/
def State.inSleep (s : State) : Bool := decide (s.pmc.state = .sleep)

/-- The PMC state is `DEEP_SLEEP`. -/
def State.inDeepSleep (s : State) : Bool := decide (s.pmc.state = .deepSleep)

/-- Full service has been entered: stage `FULL`, or `SAFE` entered from it or followed by the switch of R49.
Log entry 78 (DEDUCED). -/
def State.fullService (s : State) : Bool := s.dev.stage = .full || (s.dev.stage = .safe && s.flag Reg.DEV_STAGE 12)

/-- From commit of a sleep to step 6 of its wake order. -/
def State.inSleepOrWake (s : State) : Bool := s.inSleep || s.inDeepSleep || decide (s.pmc.state = .waking)

/-- Power state code of R456. -/
def State.powerCode (s : State) : Nat :=
  match s.pmc.state with
  | .run => 0
  | .idle => 1
  | .quiesce => s.pmc.base
  | .waking => s.pmc.slept
  | .sleep => 2
  | .deepSleep => 3
  | .off => 4

/-- Target of the running or last handshake: PMC.STATUS.TARGET. -/
def State.qTarget (s : State) : Nat := s.fld Reg.PMC_STATUS 7 4

/-- Sets a bit of PMC.IRQ_STATUS; vector 1 is raised for an enabled cause at its 0-to-1 change, or in a sleep at the end of
the wake (R468 (d), R354). Log entry 15 (DEDUCED). -/
def State.pmcIrq (s : State) (b : Nat) : State :=
  if s.flag Reg.PMC_IRQ_STATUS b then s
  else
    let s := s.setFlag Reg.PMC_IRQ_STATUS b true
    if s.flag Reg.PMC_IRQ_EN b && !s.inSleepOrWake then s.message 1 else s

/-- POWER_STATE record (R471). Log entry 49 (DEDUCED). -/
def State.postPower (s : State) (kind target src reason refusers flags ticks : Nat) (p : Time) : State :=
  s.postAt p 0x50 ([kind, target, src, reason].map (BitVec.ofNat 8) ++ leBytes 2 refusers ++
    [BitVec.ofNat 8 flags, 0] ++ leBytes 6 ticks)

/-! ### The abort of an entry (R458) -/

/-- Records a refusing block and its reason in REFUSE_LOG and REFUSE_REASON. Log entry 28 (DEDUCED). -/
def State.logRefusal (s : State) (block : Fin 16) (reason : Nat) : State :=
  (s.setFlag Reg.PMC_REFUSE_LOG block true).setFld (Reg.PMC_REFUSE_REASON (block / 4)) (8 * (block % 4) + 7)
    (8 * (block % 4)) reason

/-- The doze that served the handshake ends (R458, R350). -/
def State.ringUndoze (s : State) : State :=
  match s.ring.engine with
  | .dozeEntry => s.enterPolling.inc Reg.DEV_DOZE_CNT 31 16
  | .dozing => s.enterPolling
  | _ => s

/-- Every block back to normal operation. -/
def State.releaseBlocks (s : State) : State :=
  let s : State := { s with pmc.state := if s.pmc.base = 1 then .idle else .run
                            pmc.answers := Vector.replicate 16 .none
                            bist.paused := false }
  s.ringUndoze

/-- Aborts the running handshake with the refusing blocks, the first of them first.
Log entry 23 (DEDUCED). Log entry 49 (DEDUCED). -/
def State.abortEntry (s : State) (refusers : List (Fin 16 × Nat)) : State :=
  if s.pmc.state ≠ .quiesce then s
  else
    let target := s.qTarget
    let s := s.setReg Reg.PMC_REFUSE_LOG (pack [(target, 20)])
    let s := (List.range 4).foldl (fun s k => s.setReg (Reg.PMC_REFUSE_REASON k) 0) s
    let s := refusers.foldl (fun s e => s.logRefusal e.1 e.2) s
    let s := s.inc Reg.PMC_CNT 31 16
    let dur := satN 48 ((s.ptNow - s.pmc.hsStart).toNat / 96)
    let first := match refusers with
      | e :: _ => e.2
      | [] => 0
    let s := s.postPower 2 target s.pmc.base first (s.fld Reg.PMC_REFUSE_LOG 15 0)
      (2 * b2n (s.flag Reg.PMC_STATUS 8)) dur s.ptNow
    let s : State := { s with pmc.late := true }
    s.releaseBlocks.pmcIrq 1

/-! ### Wake sources (R463, R466) -/

/-- Sources that PMC.WAKE_EN gates. -/
def gatedSources : List Nat := [0x01, 0x02, 0x03, 0x04, 0x06, 0x07, 0x08, 0x0B]

/-- Sources that protect the controller whatever the PMC enables (R541): the hold-up sequence, a protection flag of the battery, a
rail comparator and the die temperature. -/
def protective (code detail : Nat) : Bool :=
  decide (code = 0x01 && detail = 1) || decide (code = 0x09 && detail = 4) || decide (code = 0x0A) || decide (code = 0x0C)

/-- A source has fired: while awake RUN_PENDING records it, and a running handshake is aborted with WAKE_PENDING; from
commit to step 6 of the wake order it joins PENDING and is held with the PT of its detection. A Plan start that waits for the
event of an enabled source falls due (R191 (d)). Log entry 23 (DEDUCED). Log entry 33 (DEDUCED). -/
def State.wakeFire (s : State) (code detail : Nat) : State :=
  let s : State := if s.seq.waitWake && !protective code detail then
      { s with seq.startDue := true, seq.restGroups := BitVec.ofNat 8 (s.fld Reg.SEQ_CTRL 15 8) } else s
  match s.pmc.state with
  | .run => s.setFlag Reg.PMC_RUN_PENDING (code - 1) true
  | .idle => s.setFlag Reg.PMC_RUN_PENDING (code - 1) true
  | .quiesce => (s.setFlag Reg.PMC_RUN_PENDING (code - 1) true).abortEntry [(1, 0x0F)]
  | .off => s
  | .sleep => ({ s with pmc.fired := s.pmc.fired ++ [(s.ptNow, code, detail)] }).setFlag Reg.PMC_WAKE_SRC (15 + code) true
  | .deepSleep => ({ s with pmc.fired := s.pmc.fired ++ [(s.ptNow, code, detail)] }).setFlag Reg.PMC_WAKE_SRC (15 + code) true
  | .waking => s.setFlag Reg.PMC_WAKE_SRC (15 + code) true

/-- A source is detected: one that WAKE_EN gates counts only with its bit set. Log entry 23 (DEDUCED). -/
def State.wakeDetect (s : State) (code : Nat) (detail : Nat := 0) : State :=
  if gatedSources.contains code && !s.flag Reg.PMC_WAKE_EN (code - 1) then s else s.wakeFire code detail

/-- The hold-up sequence as source 0x01; in a sleep WAKE_SRC.VIN_FAIL names it (R223, R463). Log entry 23 (DEDUCED). -/
def State.wakeHoldUp (s : State) : State :=
  State.wakeFire (if s.inSleep || s.inDeepSleep then s.setFlag Reg.PMC_WAKE_SRC 8 true else s) 0x01 1

end Sys2Proof.Machine
end

