-- ==== Sys2Proof/Machine/Requests.lean ====
section
/-!
DEFINITION. Host commands from the moment their owner takes them to their completion: the request queue, the tests of
R371, completions on rings and ports, and the teardown of a context (14_commands_events.md, R20 to R23, R357, R358).
-/

namespace Sys2Proof.Machine

/-! ### Status codes (R369) -/

abbrev Status.OK : Nat := 0x00
abbrev Status.BAD_OPCODE : Nat := 0x01
abbrev Status.BAD_PARAM : Nat := 0x02
abbrev Status.STALE_EPOCH : Nat := 0x03
abbrev Status.BUSY : Nat := 0x04
abbrev Status.REFUSED : Nat := 0x05
abbrev Status.LOCKED : Nat := 0x06
abbrev Status.NOT_IN_STATE : Nat := 0x07
abbrev Status.UNUSABLE : Nat := 0x08
abbrev Status.VERSION : Nat := 0x09
abbrev Status.TIMEOUT : Nat := 0x0A
abbrev Status.ABORTED : Nat := 0x0B
abbrev Status.QUEUED : Nat := 0x0C

/-- The opcodes of the opcode table (R375). -/
def opcodes : List Nat := [0x01, 0x03, 0x04, 0x05, 0x06, 0x07, 0x10, 0x11, 0x12, 0x13, 0x14, 0x15, 0x20, 0x21, 0x30,
  0x31, 0x32, 0x38, 0x3A, 0x40, 0x41, 0x42, 0x43, 0x50, 0x51, 0x52, 0x60, 0x70, 0x71, 0x80, 0x81, 0x82, 0x83, 0x90,
  0x91]

/-- Opcodes executed without a Plan (R44 (g)). -/
def noPlanOpcodes : List Nat := [0x01, 0x03, 0x04, 0x06, 0x07, 0x80, 0x81, 0x82, 0x83, 0x90, 0x91]

/-- Opcodes executed in `SAFE_HOLD` and `SAFE` (R46, R371 (c)). -/
def safeOpcodes : List Nat := [0x01, 0x03, 0x80]

/-- The service stage admits the opcode (R44 (g), R46, R371 (c), R397). -/
def State.stageAdmits (s : State) (op : Nat) : Bool :=
  match s.dev.stage with
  | .safeHold => safeOpcodes.contains op
  | .safe => safeOpcodes.contains op
  | _ => s.dev.planLoaded || noPlanOpcodes.contains op

/-! ### The request queue (R20, R21) -/

/-- The entry belongs to context `c`. -/
def ReqEntry.ofCtx (e : ReqEntry) (c : Fin 32) : Bool := decide (e.req.src = .ctx c)

/-- The entry came from a ring. -/
def ReqEntry.ofRing (e : ReqEntry) : Bool := match e.req.src with
  | .ctx _ => true
  | .port _ => false

/-- Commands of context `c` in flight. -/
def State.inflight (s : State) (c : Fin 32) : Nat := (s.reqs.filter fun e => e.ofCtx c).length

/-- Ring commands in flight device-wide (R20). -/
def State.ringInflight (s : State) : Nat := (s.reqs.filter fun e => e.ofRing).length

/-- Two headers name the same command: hosts keep tags unique among a context's commands in flight (R345).
Log entry 11 (DESIGN CHOICE). -/
def sameReq (a b : Req) : Bool := decide (a.src = b.src) && decide (a.tag = b.tag)

/-- The state machine that owns the subject of an opcode (R21): 0 the rail sequencer, 1 the rail counters, 2 the battery, 3 M0,
4 the fans, 5 the thermal zones, 6 the Hedge and the heartbeat, 7 the inputs, 8 the encoders and cliff channels, 9 the PMC, 10 the
journal, 11 the Plan loader, 12 the firmware slots, 13 self-test, 14 what the management core answers itself.
Log entry 79 (DEDUCED). -/
def ownerOf (op : Nat) : Nat :=
  if 0x10 ≤ op && op ≤ 0x13 then 0
  else if op = 0x14 || op = 0x15 then 1
  else if op = 0x20 || op = 0x21 then 2
  else if 0x30 ≤ op && op ≤ 0x32 then 3
  else if op = 0x38 then 4
  else if op = 0x3A then 5
  else if op = 0x05 || (0x40 ≤ op && op ≤ 0x43) then 6
  else if op = 0x50 then 7
  else if op = 0x51 || op = 0x52 then 8
  else if op = 0x70 || op = 0x71 then 9
  else if op = 0x80 then 10
  else if op = 0x81 || op = 0x82 then 11
  else if op = 0x83 then 12
  else if op = 0x90 || op = 0x91 then 13
  else 14

/-- The command at the head of the queue of a state machine: the first that it has not taken (R21). -/
def State.headOf (s : State) (owner : Nat) : Option ReqEntry :=
  s.reqs.find? fun e => !e.taken && decide (ownerOf e.opcode.toNat = owner)

/-- The entry that a command has in the queue. -/
def State.entryOf (s : State) (r : Req) : Option ReqEntry := s.reqs.find? fun e => sameReq e.req r

/-- The queue has an entry for one more command of this path: 64 for the rings, one for each port (R20). -/
def State.hasEntry (s : State) (r : Req) : Bool :=
  match r.src with
  | .ctx _ => decide (s.ringInflight < 64)
  | .port _ => !s.reqs.any fun e => decide (e.req.src = r.src)

/-- The owners' state machines are clocked: the controller has power, is out of reset and Off, and no sleep has been entered
(R28, R461). Log entry 53 (DEDUCED). -/
def State.ownersRun (s : State) : Bool :=
  s.dev.powered && !s.dev.inReset && decide (s.time.src ≠ .kennel) &&
    !(s.pmc.state = .off || s.pmc.state = .sleep || s.pmc.state = .deepSleep)

/-- The owner takes this command at its next decision point: it is clocked, and the command is at the head of the owner's queue, or it enters that queue
now and nothing waits before it (R20 to R22). Log entry 11 (DESIGN CHOICE). Log entry 79 (DEDUCED). -/
def State.mayTake (s : State) (r : Req) (op : Nat) : Bool :=
  s.ownersRun && match s.entryOf r with
  | some e => !e.taken && decide (e.opcode.toNat = op) &&
      (match s.headOf (ownerOf op) with
        | some h => sameReq h.req r
        | none => false)
  | none => s.hasEntry r && (s.headOf (ownerOf op)).isNone

/-- A command enters the queue behind those that wait. Log entry 11 (DESIGN CHOICE). -/
def State.putEntry (s : State) (r : Req) (op : Nat) (taken : Bool) : State :=
  { s with reqs := s.reqs ++ [{ req := r, opcode := BitVec.ofNat 8 op, params := [], data := [], taken := taken }] }

/-- The owner takes the command: its entry is marked, or made where it was not fetched into the queue before.
Log entry 11 (DESIGN CHOICE). -/
def State.take (s : State) (r : Req) (op : Nat) : State :=
  if (s.entryOf r).isSome then
    { s with reqs := s.reqs.map fun e => if sameReq e.req r then { e with taken := true } else e }
  else s.putEntry r op true

/-! ### Completions (R368) -/

/-- The bytes of a completion. -/
def cplBytes (v2 : Bool) (r : Req) (status flags sqHead : Nat) (done : Time) (result : List Byte) : List Byte :=
  leBytes 2 r.tag.toNat ++ [BitVec.ofNat 8 status, BitVec.ofNat 8 flags] ++ leBytes 2 sqHead ++ leBytes 2 r.epoch.toNat ++
    (if v2 then leBytes 8 done.toNat ++ padTo 16 result else padTo 8 result)

/-- Writes one completion to context `c`'s CQ, its data first (R344, R345, R373). -/
def State.cqPut (s : State) (c : Fin 32) (r : Req) (rep : Reply) (flags : Nat) (done : Time) : State :=
  let s : State := if rep.data.isEmpty then s else s.hostWrite rep.buf rep.data
  let n := s.cqSize c
  let v2 := s.isV2 c
  let x := s.ring.ctx[c]
  let fl := phaseBit n x.devTail + flags + (if rep.data.isEmpty then 0 else 8)
  let s := s.hostWrite (s.cqBase c + (x.devTail % n) * (if v2 then 32 else 16))
    (cplBytes v2 r rep.status fl x.sqHead done rep.result)
  let s := s.modCtx c fun x => { x with devTail := (x.devTail + 1) % (2 * n) }
  let s : State := { s with ring.lastWork := s.time.pt }
  let s : State := if s.ring.engine = .polling then s.setInterval s.pollMin else s
  s.entryWritten c false

/-- Takes the command's entry out of the request queue. -/
def State.release (s : State) (r : Req) : State := { s with reqs := s.reqs.filter fun e => !sameReq e.req r }

/-- Writes the decided outcome of a command to where it came from, unless a teardown has already answered it. On a ring
it waits while the engine is frozen (R336); on a port it waits for MAILBOX_REPLY, and the command keeps its entry until then
(R20, R394). Log entry 16 (DEDUCED). -/
def State.complete (s : State) (r : Req) (rep : Reply) : State :=
  if s.reqs.any fun e => sameReq e.req r then
    match r.src with
    | .ctx c =>
      if (s.ring.ctx[c]).state ≠ .active then s.release r
      else if s.frozen then { s with ring.waiting := s.ring.waiting ++ [(r, rep, s.time.pt)] }
      else (s.release r).cqPut c r rep 0 s.time.pt
    | .port p =>
      let data := rep.data.take 48
      s.modPort p fun q =>
        { q with reply := some (padTo 16 (cplBytes false r rep.status (if data.isEmpty then 0 else 8) 0 0 rep.result) ++
            padTo 48 data, data.length) }
  else s

/-- The completions that waited for a freeze to end (R336). Log entry 16 (DEDUCED). -/
def State.flushWaiting (s : State) : State :=
  let l := s.ring.waiting
  l.foldl (fun s e => match e.1.src with
    | .ctx c =>
      if (s.reqs.any fun q => sameReq q.req e.1) && decide ((s.ring.ctx[c]).state = .active) then
        (s.release e.1).cqPut c e.1 e.2.1 0 e.2.2
      else s
    | .port _ => s) { s with ring.waiting := [] }

/-! ### Taking a command (R371) -/

/-- What becomes of a command that its owner does not take now: one that the queue does not hold yet enters it where it has an
entry, and waits its turn (R20, R21). Log entry 11 (DESIGN CHOICE). -/
def State.awaitTurn (s : State) (r : Req) (op : Nat) : State :=
  if (s.entryOf r).isNone && s.hasEntry r then s.putEntry r op false else s

/-- A command taken at its owner's decision point: TIMEOUT past the deadline, then BAD_PARAM where `bad`, then
NOT_IN_STATE where the stage does not admit the opcode, else `k`. `k` answers the state and the reply, or no reply while
the command stays in flight. Log entry 11 (DESIGN CHOICE). Log entry 53 (DEDUCED). -/
def State.command (s : State) (r : Req) (op : Nat) (bad : Bool) (k : State → State × Option Reply) : State :=
  if !s.mayTake r op then s.awaitTurn r op else
  let s := s.take r op
  let (s, rep) :=
    if r.deadline ≠ 0 && decide (r.deadline.toNat < s.now) then (s, some { status := Status.TIMEOUT })
    else if bad then (s, some { status := Status.BAD_PARAM })
    else if !s.stageAdmits op then (s, some { status := Status.NOT_IN_STATE })
    else k s
  match rep with
  | some rep => s.complete r rep
  | none => s

/-- A reply with a status alone. -/
def reply (st : Nat) (result : List Byte := []) : Option Reply := some { status := st, result := result }

/-! ### Teardown (R357, R358) -/

/-- ABORTED with TEARDOWN, and TAKEN where the owner had taken it, for every command of context `c` in flight; requests
still queued are withdrawn. -/
def State.abortAll (s : State) (c : Fin 32) : State :=
  (s.reqs.filter fun e => e.ofCtx c).foldl (fun s e =>
    (s.release e.req).cqPut c e.req { status := Status.ABORTED } (2 + (if e.taken then 4 else 0)) s.time.pt) s

/-- A context failure (R341, R357): teardown, ERR_CODE, RING_ERR.CTX_FAILED. -/
def State.ctxFail (s : State) (c : Fin 32) (code : Nat) : State :=
  let s := s.modCtx c fun x => { x with state := .failed, err := code, stall := false, closing := false }
  let s := s.abortAll c
  let s := s.dropDest c
  let s := s.setReg Reg.DEV_RING_ERR_CTX (pack [(code, 0), (c, 8)])
  (s.ringErr 2).idleCheck

end Sys2Proof.Machine
end

