-- ==== Sys2Proof/Machine/HedgeBase.lean ====
section
/-!
DEFINITION. The node bus and the action outputs every other block samples (06_hedge.md, R142 to R152).
-/

namespace Sys2Proof.Machine

/-! ### Nodes (R142) -/

/-- Node `n` is active. -/
def State.node (s : State) (n : Nat) : Bool := s.hedge.nodes.getLsbD n

/-- Reserved nodes: 90–95 and 112–127 read 0. -/
def reservedNode (n : Nat) : Bool := (90 ≤ n && n < 96) || 112 ≤ n

/-- One bit of a 128-bit vector replaced. -/
def setBit128 (v : BitVec 128) (n : Nat) (b : Bool) : BitVec 128 :=
  if b then v ||| BitVec.ofNat 128 (2 ^ n) else v &&& ~~~(BitVec.ofNat 128 (2 ^ n))

/-! ### Actions -/

/-- A mask of action bits. -/
def acts (l : List Nat) : BitVec 21 := BitVec.ofNat 21 (l.foldl (fun a i => a + 2 ^ i) 0)

/-- Actions of the built-in responses 0x80 + k (R146). -/
def builtinActs : Nat → BitVec 21
  | 0 => acts [0, 2, 3, 4, 5, 6, 7, 8, 17]
  | 1 => acts [0, 2, 3, 4, 5, 6, 7, 8, 17]
  | 2 => acts [0, 2, 3, 4, 5, 6, 7, 8, 9, 10, 11, 12, 13, 14, 15, 16, 20]
  | 3 => acts [0, 2, 3, 4, 5, 6, 7, 8, 9, 10, 11, 12, 13, 14, 15, 16, 20]
  | _ => acts [17]

/-- Trigger nodes of responses 0x80 to 0x83. -/
def builtinNode : Nat → Nat
  | 0 => 78
  | 1 => 67
  | 2 => 79
  | _ => 89

/-- The built-in responses that assert on a node sample; 0x84 asserts while a group's bound is exceeded. -/
def builtinsOn (nodes : BitVec 128) (overrun : BitVec 8) : BitVec 5 :=
  BitVec.ofNat 5 (bitsOf 4 (fun k => nodes.getLsbD (builtinNode k)) + (if overrun = 0 then 0 else 16))

/-- The actions of a set of built-in responses. -/
def builtinsActs (b : BitVec 5) : BitVec 21 :=
  (List.range 5).foldl (fun a k => if b.getLsbD k then a ||| builtinActs k else a) 0

/-- Actions the boot hold shows in HEDGE.ACTIONS: bits 0, 2–8 and 17–19, the outputs R38 holds (R152). -/
def bootHoldActs : BitVec 21 := acts [0, 2, 3, 4, 5, 6, 7, 8, 17, 18, 19]

/-- Actions asserted by rules, built-in responses, the sleep hold and the condition without a Plan: what every state
machine samples (R147 (d), R152, R153, R44 (a)). -/
def State.acting (s : State) : BitVec 21 :=
  let h := s.hedge
  h.actHw ||| h.actSd ||| builtinsActs h.biAsserting
  ||| (if h.sleepHold then BitVec.ofNat 21 (s.fld Reg.HEDGE_SLEEP_ACTIONS 20 0) else 0)
  ||| (if h.noPlanHold then bootHoldActs else 0)

/-- Action bit `i` is asserted. -/
def State.act (s : State) (i : Nat) : Bool := s.acting.getLsbD i

/-- HEDGE.ACTIONS: the action outputs, the boot hold included. -/
def State.actionOutputs (s : State) : BitVec 21 := s.acting ||| (if s.hedge.bootHold then bootHoldActs else 0)

/-- A SAFE_STOP pin is asserted: by its action or by R38. -/
def State.sstopAsserted (s : State) (n : Nat) : Bool := s.actionOutputs.getLsbD (5 + n) || s.dev.inReset

/-- Platform time lies in the pulse that PULSE_EN gives pin `n` once every 100 ms (R162). -/
def State.inPulse (s : State) (n : Nat) : Bool :=
  s.flag Reg.HEDGE_SSTOP_CFG n && decide ((s.time.pt.toNat + ms (100 - 25 * n)) % ms 100 < us (10 * s.fld Reg.HEDGE_SSTOP_CFG 12 8))

/-- The pulse of R162 drives pin `n` low: it began on a released pin, and the controller is awake. Log entry 76 (DEDUCED). -/
def State.sstopPulse (s : State) (n : Fin 4) : Bool :=
  let p := s.hedge.sstop[n]
  s.inPulse n && !s.asleep && !s.inSleep && !s.inDeepSleep && (if p.window then p.pulsing else !s.sstopAsserted n)

/-- SAFE_STOP pin `n` is commanded low: asserted, or in its pulse (R160, R162). -/
def State.sstopLow (s : State) (n : Fin 4) : Bool := s.sstopAsserted n || s.sstopPulse n

/-- Every rail of group `g` is `OFF` or `FAULTED` (R146). -/
def State.groupDown (s : State) (g : Nat) : Bool :=
  (List.finRange 24).all fun (n : Fin 24) => !s.flag (Reg.SEQ_RAIL_CFG n) (24 + g) ||
    decide ((s.seq.rail[n]).state = .off) || decide ((s.seq.rail[n]).state = .faulted)

end Sys2Proof.Machine
end

