-- ==== Sys2Proof/Machine/FanOps.lean ====
section
/-!
DEFINITION. The fan channels' shared operations: demand from zones and overrides, setpoints, FAN_FAULT records, and the
changes of state every cause shares (R303, R304, R320 to R326).
-/

namespace Sys2Proof.Machine

/-! ### Configuration -/

def State.fanOn (s : State) (n : Nat) : Bool := s.flag (Reg.DRIVE_FAN_CFG n) 31
def State.fanTach (s : State) (n : Nat) : Bool := s.flag (Reg.DRIVE_FAN_CFG n) 30
def State.fanPpr (s : State) (n : Nat) : Nat := s.fld (Reg.DRIVE_FAN_CFG n) 29 28 + 1
def State.fanPoles (s : State) (n : Nat) : Nat := s.fld (Reg.DRIVE_FAN_CFG n) 27 24
def State.offBelow (s : State) (n : Nat) : Nat := s.fld (Reg.DRIVE_FAN_CFG n) 23 16
def State.fMax (s : State) (n : Nat) : Nat := s.fld (Reg.DRIVE_FAN_SPEED n) 25 16
def State.fMin (s : State) (n : Nat) : Nat := s.fld (Reg.DRIVE_FAN_SPEED n) 9 0

/-- Observer speed in 0.1 Hz as last measured. -/
def State.obsSpeed (s : State) (n : Nat) : Nat := s.fld (Reg.DRIVE_FAN_MEAS n) 15 0

/-- The observer speed is at least 5 % of F_MAX (R304). Log entry 61 (DEDUCED). -/
def State.fanTurning (s : State) (n : Nat) : Bool := decide (s.fMax n ≤ 2 * s.obsSpeed n)

/-- The observer speed is above F_MAX × HANDOFF_F % (R304). -/
def State.aboveHandoff (s : State) (n : Nat) : Bool :=
  decide (s.fMax n * s.fld (Reg.DRIVE_FAN_START n) 11 8 < 10 * s.obsSpeed n)

/-! ### Zones (R312, R320) -/

def State.zoneOn (s : State) (z : Nat) : Bool := s.flag (Reg.THERM_ZONE_CFG z) 31

/-- Zone `z` is enabled and names fan `n`. -/
def State.zoneOfFan (s : State) (n z : Nat) : Bool := s.zoneOn z && s.flag (Reg.THERM_ZONE_CFG z) (24 + n)

/-- Zone demand of a fan channel: the highest among its zones. -/
def State.zoneDemand (s : State) (n : Nat) : Nat :=
  (List.range 8).foldl (fun d z => if s.zoneOfFan n z then max d (s.fld (Reg.THERM_ZONE_STATUS z) 31 24) else d) 0

/-- A zone assigned to the fan has WARN or CRIT set. -/
def State.zoneAlarm (s : State) (n : Nat) : Bool :=
  (List.range 8).any fun z => s.zoneOfFan n z && s.fld (Reg.THERM_ZONE_STATUS z) 18 17 ≠ 0

/-- The demand passed to R303: THERM.DEMAND (R320). -/
def State.thermDemand (s : State) (n : Fin 3) : Nat :=
  match (s.drive.fan[n]).ovr with
  | some (v, _) => if s.zoneAlarm n then max v (s.zoneDemand n) else v
  | none => s.zoneDemand n

/-- The demand in use (R303). -/
def State.fanDemand (s : State) (n : Fin 3) : Nat :=
  if s.dev.stage = .reduced then s.fld (Reg.DRIVE_FAN_CFG n) 15 8 else s.thermDemand n

/-- The fan is on (R303). -/
def State.fanWanted (s : State) (n : Fin 3) : Bool := s.fanOn n && decide (s.offBelow n ≤ s.fanDemand n)

/-- The setpoint in 0.1 Hz, rounded down; 0 while the fan is off (R303). Log entry 61 (DEDUCED). -/
def State.fanSetpoint (s : State) (n : Fin 3) : Nat :=
  if s.fanWanted n then
    10 * s.fMin n + 10 * (s.fMax n - s.fMin n) * (s.fanDemand n - s.offBelow n) / (100 - s.offBelow n)
  else 0

/-- THERM.DEMAND (R332). -/
def State.demandWord (s : State) : Word :=
  (List.finRange 3).foldl (fun w (n : Fin 3) => w ||| pack [(s.thermDemand n, 8 * n.val),
    (b2n (s.drive.fan[n]).ovr.isSome, 24 + n.val)]) 0

/-- Action 2 + n or the VIN_FAIL hold of R222 holds the channel. Log entry 61 (DEDUCED). -/
def State.fanHeld (s : State) (n : Nat) : Bool := s.act (2 + n) || s.sup.vinHold

/-- A latched fan fault or a self-test result keeps the channel off (R325, R494). -/
def State.fanLatched (s : State) (n : Nat) : Bool :=
  s.fld (Reg.THERM_FAN_FSTATUS n) 2 0 ≠ 0 || s.flag Reg.BIST_UNUSABLE n

/-! ### Start currents and records (R322, R323, R330) -/

/-- Start current in 10 mA of the attempt numbered `a`. -/
def State.startCurrent (s : State) (n : Fin 3) (a : Nat) : Nat :=
  let i := s.fld (Reg.DRIVE_FAN_START n) 31 24
  let k := match (s.drive.fan[n]).seq with
    | .stall => a
    | _ => a - 1
  i + k * (s.fld (Reg.DRIVE_FAN_START n) 23 16 - i) / 3

/-- FAN_FAULT record (R330). -/
def State.postFan (s : State) (n : Fin 3) (kind : Nat) : State :=
  let a := (s.drive.fan[n]).attempt
  let cur := if [1, 2, 8, 9].contains kind then 10 * s.startCurrent n a else s.fld (Reg.DRIVE_FAN_SUPPLY n) 15 0
  s.post 0x41 ([BitVec.ofNat 8 n, BitVec.ofNat 8 kind, BitVec.ofNat 8 a,
    BitVec.ofNat 8 (s.fld (Reg.THERM_FAN_FSTATUS n) 4 0)] ++ leBytes 2 (s.obsSpeed n) ++ leBytes 2 cur ++
    leBytes 2 (s.fanSetpoint n) ++ leBytes 2 (s.fld (Reg.DRIVE_FAN_MEAS n) 31 16) ++
    leBytes 2 (s.fld (Reg.DRIVE_FAN_SUPPLY n) 31 16))

/-! ### Changes of state -/

def State.setFan (s : State) (n : Fin 3) (x : Fan) : State := { s with drive.fan := s.drive.fan.set n x }

/-- A warning of R326 clears when the channel leaves `RUNNING`: bits 3 FAN_SLOW and 4 TACH_LOST. -/
def State.fanWarnClear (s : State) (n : Fin 3) (b : Nat) : State :=
  if s.flag (Reg.THERM_FAN_FSTATUS n) b then
    (s.setFlag (Reg.THERM_FAN_FSTATUS n) b false).postFan n (if b = 3 then 4 else 6)
  else s

/-- The channel enters a state. -/
def State.fanTo (s : State) (n : Fin 3) (st : FanState) : State :=
  let f := s.drive.fan[n]
  let old := f.st
  let s := s.setFan n (if st = .starting then { f with st := st, startPt := s.ptNow, retryDue := false } else { f with st := st })
  let s := if st = .starting || st = .running then s else s.setFlag (Reg.DRIVE_FAN_STATUS n) 16 false
  if old = .running && st ≠ .running then (s.fanWarnClear n 3).fanWarnClear n 4 else s

/-- A sequence ends; kind 9 recovered, 10 cancelled, 0 without a record (R322 to R324). Log entry 61 (DEDUCED). -/
def State.fanSeqEnd (s : State) (n : Fin 3) (kind : Nat) : State :=
  if (s.drive.fan[n]).seq = .none then s
  else
    let s := if kind = 0 then s else s.postFan n kind
    s.setFan n { s.drive.fan[n] with seq := .none, attempt := 0, retryDue := false }

/-- The channel follows its demand: off from `RUNNING` it coasts, and a sequence is cancelled (R304, R324 (a)). -/
def State.fanFollow (s : State) (n : Fin 3) : State :=
  if s.fanWanted n then s
  else
    let s := if (s.drive.fan[n]).st = .running then s.fanTo n .coasting else s
    s.fanSeqEnd n 10

/-- Every channel after a change of demand. -/
def State.fansFollow (s : State) : State := (List.finRange 3).foldl (fun s (n : Fin 3) => s.fanFollow n) s

/-- A held channel switches off: it coasts, or stops when not turning; a sequence is cancelled (R304, R324 (b)). -/
def State.fanHold (s : State) (n : Fin 3) : State :=
  let s := s.setFlag (Reg.DRIVE_FAN_STATUS n) 17 true
  let s := if [.starting, .running, .coasting].contains (s.drive.fan[n]).st then
      s.fanTo n (if s.fanTurning n then .coasting else .stopped)
    else s
  s.fanSeqEnd n 10

/-- HELD follows the action of every channel. -/
def State.fansHold (s : State) : State :=
  (List.finRange 3).foldl (fun s (n : Fin 3) =>
    if s.fanHeld n then s.fanHold n else s.setFlag (Reg.DRIVE_FAN_STATUS n) 17 false) s

end Sys2Proof.Machine
end

