-- ==== Sys2Proof/Machine/ActionOps.lean ====
section
/-!
DEFINITION. What the action outputs do at once to the blocks they are wired to (R18, R150). The sequencer and M0 follow in
state at their next decision points; the enables, the M0 gates and the FET drivers are functions of the actions.
-/

namespace Sys2Proof.Machine

/-- Action 0, or the VIN_FAIL hold that acts like it (R222). -/
def State.m0Off (s : State) : Bool := s.act 0 || s.sup.vinHold

/-- M0 keeps what has asserted until its next decision point, and a queued run is cancelled at once (R293, R296). -/
def State.m0Actions (s : State) : State :=
  if s.m0Off || s.act 1 then
    let m := s.drive.m0
    { s with drive.m0 := { m with seen0 := m.seen0 || s.m0Off, seen1 := m.seen1 || s.act 1,
                                  dropped := m.dropped || m.queued.isSome, queued := none } }
  else s

def State.applyActions (s : State) : State := s.m0Actions.fansHold

/-- What M0's gate driver puts out. -/
inductive Gates where
  | low
  | shorted
  | pwm
  /-- The pre-start gate test: low-side pulses, then each gate in turn (R298). -/
  | test
deriving DecidableEq, Repr

/-- The M0 gates now (R38, R150, R293, R294, R297). -/
def State.m0Gates (s : State) : Gates :=
  let m := s.drive.m0
  if s.dev.inReset || !s.dev.planLoaded || s.asleep || s.hedge.bootHold || s.m0Off || m.detected.isSome then .low
  else if s.act 1 then
    if [.openRamp, .closedLoop, .braking, .coasting].contains m.st then .shorted else .low
  else if m.starting then .test
  else match m.st with
    | .braking => .shorted
    | .align => if m.hold then .shorted else .pwm
    | .openRamp => .pwm
    | .closedLoop => .pwm
    | _ => .low

end Sys2Proof.Machine
end

