-- ==== Sys2Proof/Machine/HedgeOps.lean ====
section
/-!
DEFINITION. The Hedge's shared operations: records, rule evaluation, the built-in responses, and what a self-test failure
does (06_hedge.md, R142 to R156; 19_self_test.md, R490 to R494).
-/

namespace Sys2Proof.Machine

/-! ### Records (R168, R169) -/

/-- HEDGE_TRIP of a built-in response at PT `p`. The direct path asserts responses 0x80 to 0x83 first; the Sheepdog pair alone decides
0x84 (R146, R148). -/
def State.tripBuiltin (s : State) (k : Nat) (p : Time) : State :=
  let a := builtinActs k
  let alert := a.getLsbD 20
  let grp := if k = 4 then ((List.range 8).find? fun g => s.hedge.overrun.getLsbD g).getD 0xFF else 0xFF
  let s := s.postAt p 0x10 ([BitVec.ofNat 8 (0x80 + k), BitVec.ofNat 8 (4 + 2 * b2n (k = 4) + 8 * b2n alert),
    BitVec.ofNat 8 (if k = 4 then 0xFF else builtinNode k), BitVec.ofNat 8 (if k = 4 then 0 else 1)] ++
    leBytes 3 a.toNat ++ [BitVec.ofNat 8 grp] ++ List.replicate 8 0xFF) alert
  { s with hedge.biTripPt := s.hedge.biTripPt.set (k % 5) p (Nat.mod_lt _ (by decide)) }

/-- HEDGE_CLEAR (R169) at PT `p`. -/
def State.clearRec (s : State) (rule kind : Nat) (mask : BitVec 21) (trip p : Time) : State :=
  s.postAt p 0x11 ([BitVec.ofNat 8 rule, BitVec.ofNat 8 kind] ++ leBytes 3 (mask &&& ~~~s.acting).toNat ++
    [0, 0, 0] ++ leBytes 8 trip.toNat)

/-- A built-in response is reported when it begins to assert on the direct path or on either evaluation path, and when it
asserts on none of them any more (R168, R169); `p` is the PT of the deciding sample or event. -/
def State.reportBuiltins (s : State) (p : Time) : State :=
  let now := s.hedge.biAsserting ||| s.hedge.biHw ||| s.hedge.biSd
  let old := s.hedge.biShown
  let s : State := { s with hedge.biShown := now }
  (List.range 5).foldl (fun s k =>
    if now.getLsbD k && !old.getLsbD k then s.tripBuiltin k p
    else if old.getLsbD k && !now.getLsbD k then
      s.clearRec (0x80 + k) 3 (builtinActs k) (s.hedge.biTripPt.getD k 0) p
    else s) s

/-- The built-in responses follow their nodes at once, through the direct path (R146). -/
def State.builtins (s : State) : State :=
  (State.applyActions { s with hedge.biAsserting := builtinsOn s.hedge.nodes s.hedge.overrun }).reportBuiltins s.ptNow

/-- A source drives node `n` (R16): reserved nodes stay 0, and a trigger node carries its built-in response. -/
def State.setNode (s : State) (n : Nat) (b : Bool) : State :=
  if reservedNode n then s
  else
    let s : State := { s with hedge.nodes := setBit128 s.hedge.nodes n b }
    if n = 67 || n = 78 || n = 79 || n = 89 then s.builtins else s

/-! ### Rules (R144, R145) -/

/-- RULE_CFG fields. -/
def HRule.enable (r : HRule) : Bool := bit r.cfg 31
def HRule.localNode (r : HRule) : Nat := wfld r.cfg 11 4
def HRule.persist (r : HRule) : Bool := bit r.cfg 3
def HRule.policy (r : HRule) : Nat := wfld r.cfg 2 1
def HRule.latched (r : HRule) : Bool := bit r.cfg 0

/-- The true literals of a term on a sample. -/
def termTrue (mask pol nodes : BitVec 128) : BitVec 128 := mask &&& (nodes ^^^ pol)

/-- The rule's condition on a sample. -/
def HRule.cond (r : HRule) (nodes : BitVec 128) : Bool :=
  r.enable && (r.mask.toList.any fun m => decide (m ≠ 0)) &&
    (List.finRange 4).all fun (t : Fin 4) => decide (r.mask[t] = 0) || decide (termTrue r.mask[t] r.pol[t] nodes ≠ 0)

/-- Nodes that are literals true while active, and literals true while inactive. -/
def HRule.trueA (r : HRule) (nodes : BitVec 128) : BitVec 128 :=
  (List.finRange 4).foldl (fun a (t : Fin 4) => a ||| (r.mask[t] &&& ~~~r.pol[t] &&& nodes)) 0
def HRule.trueI (r : HRule) (nodes : BitVec 128) : BitVec 128 :=
  (List.finRange 4).foldl (fun a (t : Fin 4) => a ||| (r.mask[t] &&& r.pol[t] &&& ~~~nodes)) 0

/-- Number of set bits. -/
def count128 (v : BitVec 128) : Nat := ((List.range 128).filter fun i => v.getLsbD i).length

/-- The lowest set bit, or 0xFF. -/
def lowest128 (v : BitVec 128) : Nat := ((List.range 128).find? fun i => v.getLsbD i).getD 0xFF

/-- HEDGE_TRIP of rule `n` on a sample of PT `p` (R168); RULE_TRIPS counts it. A latch restored at arm whose literals are all false
(R157) is reported too, with FIRST_CAUSE 0xFF and CAUSES 0. Log entry 86 (DESIGN CHOICE). -/
def State.tripRule (s : State) (n : Fin 32) (nodes : BitVec 128) (sheepdog : Bool) (p : Time) : State :=
  let r := s.hedge.rule[n]
  let lits := (List.range 128).filter fun i => (r.trueA nodes ||| r.trueI nodes).getLsbD i
  let alert := r.act.getLsbD 20
  let more := ((lits.drop 1).take 8).map fun i => BitVec.ofNat 8 i
  let s := s.postAt p 0x10 ([BitVec.ofNat 8 n, BitVec.ofNat 8 (b2n r.latched + 2 * b2n sheepdog + 8 * b2n alert),
    BitVec.ofNat 8 (lits.headD 0xFF), BitVec.ofNat 8 (satN 8 lits.length)] ++ leBytes 3 r.act.toNat ++ [0xFF] ++
    more ++ List.replicate (8 - more.length) 0xFF) alert
  let s := s.inc (Reg.HEDGE_RULE_TRIPS n) 15 0
  { s with hedge.run := s.hedge.run.set n { s.hedge.run[n] with tripPt := p } }

/-- HEDGE_LATCH journal record of a PERSIST rule: kind 1 latched, 2 released (R157, R430). -/
def State.persistRec (s : State) (n : Fin 32) (kind : Nat) : State :=
  let r := s.hedge.rule[n]
  if r.persist && r.latched then
    let c := s.hedge.run[n].causeA ||| s.hedge.run[n].causeI
    s.journal 0x06 ([BitVec.ofNat 8 n, BitVec.ofNat 8 kind] ++ leBytes 3 r.act.toNat ++ [0] ++
      leBytes 16 (if kind = 1 then c.toNat else 0))
  else s

/-- The actions of rules whose bit is set in `v`. -/
def Hedge.ruleActs (h : Hedge) (v : BitVec 32) : BitVec 21 :=
  (List.finRange 32).foldl (fun a (n : Fin 32) => if v.getLsbD n then a ||| h.rule[n].act else a) 0

/-- A bit per rule. -/
def ruleBits (f : Fin 32 → Bool) : BitVec 32 :=
  (List.finRange 32).foldl (fun a (n : Fin 32) => if f n then a ||| BitVec.ofNat 32 (2 ^ n.val) else a) 0

/-- Rules that latch. -/
def Hedge.latching (h : Hedge) : BitVec 32 := ruleBits fun n => h.rule[n].latched

/-- True literals of latched rules whose condition is true join their causes (R154). -/
def State.addCauses (s : State) (nodes : BitVec 128) (cond : BitVec 32) : State :=
  { s with hedge.run := Vector.ofFn fun n =>
      let x := s.hedge.run[n]
      let r := s.hedge.rule[n]
      if r.latched && cond.getLsbD n then
        { x with causeA := x.causeA ||| r.trueA nodes, causeI := x.causeI ||| r.trueI nodes }
      else x }

/-- Causes of rule `n` that are true on a sample. -/
def Hedge.activeCauses (h : Hedge) (n : Fin 32) (nodes : BitVec 128) : BitVec 128 :=
  (h.run[n].causeA &&& nodes) ||| (h.run[n].causeI &&& ~~~nodes)

/-- The rules that assert on a path with these conditions and latches (R145). -/
def Hedge.assertsOf (h : Hedge) (cond latch : BitVec 32) : BitVec 32 :=
  (cond &&& ~~~h.latching) ||| (latch &&& h.latching)

/-- Posts HEDGE_TRIP and HEDGE_CLEAR for rules that began to assert on some path or stopped on both, with the PT of the sample decided
on (R24); `fresh` are the rules that latched in this evaluation, which the journal keeps (R157). -/
def State.reportRules (s : State) (nodes : BitVec 128) (sheepdog : Bool) (fresh : BitVec 32) (p : Time) : State :=
  let h := s.hedge
  let now := h.assertsOf h.condHw h.latchHw ||| h.assertsOf h.condSd h.latchSd
  let old := h.asserting
  let s : State := { s with hedge.asserting := now }
  (List.finRange 32).foldl (fun s (n : Fin 32) =>
    if now.getLsbD n && !old.getLsbD n then
      let s := s.tripRule n nodes sheepdog p
      if fresh.getLsbD n then s.persistRec n 1 else s
    else if old.getLsbD n && !now.getLsbD n then
      s.clearRec n (if s.hedge.rule[n].latched then 2 else 1) s.hedge.rule[n].act s.hedge.run[n].tripPt p
    else s) s

/-! ### Self-test failures (R480, R490 to R494) -/

/-- Node `n` is a literal of an enabled rule, or the LOCAL_NODE of an enabled latched HOST_LOCAL rule (R490). -/
def State.nodeUsed (s : State) (n : Nat) : Bool :=
  s.hedge.rule.toList.any fun r => r.enable &&
    ((r.mask.toList.any fun m => m.getLsbD n) || (r.latched && r.policy = 1 && r.localNode = n))

/-- BIST record (R497). -/
def State.postBist (s : State) (kind code cls index detail : Nat) : State :=
  s.post 0x70 ([BitVec.ofNat 8 kind, BitVec.ofNat 8 code, BitVec.ofNat 8 cls, 0] ++ leBytes 2 index ++ leBytes 2 detail ++
    leBytes 4 (s.reg Reg.BIST_CYCLE_CNT).toNat ++ leBytes 2 (s.fld Reg.BIST_CYCLE_TIME 15 0))

/-- Bit of BIST.FAIL_MASK of a code: tests 0x01–0x0F at bit code − 1, sources 0x10–0x15 at bit code. -/
def failBit (code : Nat) : Nat := if code < 0x10 then code - 1 else code

/-- Records a failure in FIRST_FAIL and FAIL_MASK. -/
def State.recordFail (s : State) (code cls index : Nat) : State :=
  let s := if s.fld Reg.BIST_FIRST_FAIL 31 24 = 0 then
    s.setReg Reg.BIST_FIRST_FAIL (pack [(code, 24), (cls, 22), (index, 0)]) else s
  s.setFlag Reg.BIST_FAIL_MASK (failBit code) true

/-- Every rail is `OFF` or `FAULTED`. -/
def State.railsDown (s : State) : Bool :=
  s.seq.rail.toList.all fun r => decide (r.state = .off) || decide (r.state = .faulted)

/-- Image of DEV.STAGE: the stage and PT_FIRC are kept beside the register (R61). -/
def State.stageWord (s : State) : Word :=
  wset (wset (s.reg Reg.DEV_STAGE) 3 0 s.dev.stage.code) 6 6 (b2n (s.time.src = .firc))

/-- µs since the reference of DEV.T_REDUCED (R383): from entry to reduced service onward the platform time since that
entry is added to T_REDUCED; before it the offset of platform time against the reference is a free value.
Log entry 8 (DESIGN CHOICE). -/
def State.elapsed (s : State) : State × Word :=
  match s.dev.reducedPt with
  | some p => (s, BitVec.ofNat 32 (satN 32 ((s.reg Reg.DEV_T_REDUCED).toNat + (s.ptNow - p).toNat / 96)))
  | none => (s.draw, Config.freeWord s.free |>.setWidth 32)

/-- A stage change measured at the change: SERVICE (R383). -/
def State.enterStage (s : State) (g : Stage) : State :=
  let (s, us) := ({ s with dev.stage := g }).elapsed
  s.postService s.stageWord us 0

/-- RST_OUT_N is asserted (R58). Log entry 75 (DEDUCED). -/
def State.assertRstOut (s : State) : State :=
  { s with dev.rstOutLow := true, dev.rstOutPt := some s.ptNow, dev.rstOutDue := false }

/-- Less than 1 ms has passed since the latest assertion of RST_OUT_N, which for the reset that began this start counts from PT 0
(R58). Log entry 75 (DEDUCED). -/
def State.rstOutHeld (s : State) : Bool :=
  match s.dev.rstOutPt with
  | some p => decide ((s.ptNow - p).toNat < 96000)
  | none => decide (s.ptNow.toNat < 96000)

/-- Entry to `SAFE` (R492). Log entry 40 (DEDUCED). Log entry 41 (DEDUCED). -/
def State.enterSafe (s : State) : State :=
  let s := s.setFld Reg.DEV_STAGE 23 16 s.bist.safeCode.toNat
  let s := (s.setFlag Reg.BIST_STATUS 31 true).assertRstOut
  ({ s with bist.safeLatch := true }).enterStage .safe

/-- After a class S failure `SAFE` is entered once every rail is `OFF` or `FAULTED` (R492 (f)). -/
def State.safeCheck (s : State) : State :=
  if s.flag Reg.BIST_STATUS 30 && !s.flag Reg.BIST_STATUS 31 && s.railsDown && s.dev.stage ≠ .safe &&
      s.dev.stage ≠ .safeHold then s.enterSafe
  else s

/-- A class S failure in operation (R492 (a) to (c), (e)): the first one latches node 79, is posted and aborts a running
handshake; later ones, and any in `SAFE`, are recorded only (R492, R493). -/
def State.classS (s : State) (code index detail : Nat) : State :=
  let s := s.recordFail code 1 index
  if s.flag Reg.BIST_STATUS 30 || s.dev.stage = .safe then s
  else
    let s := s.setFlag Reg.BIST_STATUS 30 true
    let s : State := { s with bist.safeCode := BitVec.ofNat 8 code }
    let s := (s.setNode 79 true).postBist 2 code 1 index detail
    (s.abortEntry [(1, 0x10)]).safeCheck

/-- A class D failure is recorded and posted (R494); what becomes unusable is the caller's. -/
def State.classD (s : State) (code index detail : Nat) : State :=
  let s := s.recordFail code 2 index
  if s.dev.stage = .safe then s else s.postBist 3 code 2 index detail

end Sys2Proof.Machine
end

