-- ==== Sys2Proof/Machine/Operands.lean ====
section
/-!
DEFINITION. The operand forms of host commands: the buffer block of a structure read and the data source of a staging
command (R372 to R374).
-/

namespace Sys2Proof.Machine

/-- The command came through a mailbox port. -/
def Req.byPort (r : Req) : Bool := match r.src with
  | .port _ => true
  | .ctx _ => false

/-- The buffer block is refused with BAD_PARAM: OFFSET not a multiple of 8 or above TOTAL; on a ring a bad address or
length where BUF_ADDR is not 0; on a port any BUF_ADDR but 0 (R372, R373). -/
def bufBad (r : Req) (b : BufBlock) (total : Nat) : Bool :=
  b.off.toNat % 8 ≠ 0 || decide (total < b.off.toNat) ||
  (match r.src with
    | .ctx _ => decide (b.addr ≠ 0) &&
        (b.addr.toNat % 8 ≠ 0 || b.len.toNat % 8 ≠ 0 || decide (b.len.toNat < 8) || decide (65528 < b.len.toNat))
    | .port _ => decide (b.addr ≠ 0))

/-- The bytes a structure read returns from OFFSET onward: on a ring min(BUF_LEN, TOTAL − OFFSET) and none where
BUF_ADDR is 0, on a port at most 48. -/
def bufBytes (r : Req) (b : BufBlock) (bytes : List Byte) : List Byte :=
  match r.src with
  | .ctx _ => if b.addr = 0 then [] else (bytes.drop b.off.toNat).take b.len.toNat
  | .port _ => (bytes.drop b.off.toNat).take 48

/-- The reply of a structure read: WRITTEN, TOTAL and the opcode's own bytes 4–7 (R372). -/
def structReply (r : Req) (b : BufBlock) (bytes extra : List Byte) : Reply :=
  let d := bufBytes r b bytes
  { status := Status.OK, result := leBytes 2 d.length ++ leBytes 2 bytes.length ++ padTo 4 extra, data := d,
    buf := b.addr.toNat }

/-- A whole structure-read command (R371 to R373). -/
def State.structRead (s : State) (r : Req) (op total : Nat) (b : BufBlock) (bytes : State → List Byte) : State :=
  s.command r op (bufBad r b total) fun s => (s, some (structReply r b (padTo total (bytes s)) []))

end Sys2Proof.Machine
end

