-- ==== Sys2Proof/Machine/SeqOps.lean ====
section
/-!
DEFINITION. What the rail sequencer, rail supervision and the Herd line share: rail configuration and the needed set, rail
state changes and their records, counters and snapshots, and the entry to every shutdown (07, 08 and 09).
-/

namespace Sys2Proof.Machine

/-! ### Configuration (R172, R177, R178) -/

/-- Bit `n` of a rail mask. -/
def railBit (n : Nat) : BitVec 24 := BitVec.ofNat 24 (2 ^ n)

/-- A rail mask from a predicate. -/
def railMask (f : Fin 24 → Bool) : BitVec 24 :=
  (List.finRange 24).foldl (fun m (n : Fin 24) => if f n then m ||| railBit n else m) 0

/-- Group mask of rail `n`. -/
def State.railGroups (s : State) (n : Nat) : BitVec 8 := BitVec.ofNat 8 (s.fld (Reg.SEQ_RAIL_CFG n) 31 24)

/-- Prerequisites of rail `n` as a mask. -/
def State.railPre (s : State) (n : Nat) : BitVec 24 :=
  [0, 6, 12, 18].foldl (fun m lo => if s.flag (Reg.SEQ_RAIL_CFG n) (lo + 5) then
    m ||| railBit (s.fld (Reg.SEQ_RAIL_CFG n) (lo + 4) lo) else m) 0

/-- A set of rails together with their prerequisites, taken transitively. -/
def State.closure (s : State) (m : BitVec 24) : BitVec 24 :=
  let pre : Vector (BitVec 24) 24 := Vector.ofFn fun n => s.railPre n
  (List.range 24).foldl (fun m _ => (List.finRange 24).foldl (fun m (n : Fin 24) =>
    if m.getLsbD n then m ||| pre[n] else m) m) m

/-- The needed set of a target (R177). -/
def State.needed (s : State) (target : BitVec 8) : BitVec 24 :=
  s.closure (railMask fun n => decide (s.railGroups n &&& target ≠ 0))

/-- Rails in use (R172). -/
def State.railsInUse (s : State) : BitVec 24 := s.needed 0xFF

/-- Rails of group `g` (its mask alone). -/
def State.groupRails (s : State) (g : Nat) : BitVec 24 := railMask fun n => (s.railGroups n).getLsbD g

/-- Rails in one of the given states. -/
def State.railsIn (s : State) (l : List RailState) : BitVec 24 := railMask fun n => l.contains (s.seq.rail[n]).state

/-- Rails that are `GOOD`. -/
def State.railsGood (s : State) : BitVec 24 := s.railsIn [.good]

/-- Rails that are not `OFF`. -/
def State.railsOn (s : State) : BitVec 24 := ~~~(s.railsIn [.off])

/-- The groups that are good (R178): every rail of the group and every prerequisite `GOOD`; a group no rail carries is
not shown. -/
def State.groupsGood (s : State) : BitVec 8 :=
  let good := s.railsGood
  BitVec.ofNat 8 (bitsOf 8 fun g =>
    let m := s.groupRails g
    decide (m ≠ 0) && decide (s.closure m &&& ~~~good = 0))

/-- Groups that some rail in use carries. -/
def State.carriedGroups (s : State) : BitVec 8 :=
  (List.range 24).foldl (fun m n => m ||| s.railGroups n) 0

/-- Filtered value of a rail in 0.1 mV. -/
def State.railValue (s : State) (n : Nat) : Nat := s.fld (Reg.SUP_RAIL_VALUE n) 15 0

/-- The rail is discharged (R174); a rail whose ADC-M channel is unusable never reads so (R485, R494). -/
def State.discharged (s : State) (n : Nat) : Bool :=
  decide (s.railValue n < 10 * s.fld (Reg.SEQ_RAIL_DIS n) 28 16) && !s.flag Reg.BIST_UNUSABLE_ADC n

/-! ### Herd (R234, R238) -/

def State.herdOn (s : State) : Bool := s.flag Reg.SEQ_HERD_CFG 31
def State.herdLead (s : State) : Bool := s.fld Reg.SEQ_HERD_CFG 25 24 = 0
def State.herdSteps (s : State) : Nat := s.fld Reg.SEQ_HERD_CFG 20 16
/-- HERD_GROUPS of a member; none otherwise. -/
def State.herdGroups (s : State) : BitVec 8 := if s.herdOn then BitVec.ofNat 8 (s.fld Reg.SEQ_HERD_CFG 7 0) else 0
def State.railStep (s : State) (n : Nat) : Nat := s.fld (Reg.SEQ_RAIL_SEQ n) 28 24

/-- The Herd step condition of R175 (R240). -/
def State.stepCond (s : State) (n : Nat) : Bool :=
  s.railStep n = 0 || (s.herd.st = .stepUp && s.herd.step = s.railStep n)

/-- In a stepped shutdown a Herd rail of step s is released only at step s (R246). -/
def State.stepRelease (s : State) (n : Nat) : Bool :=
  s.railStep n = 0 || s.herd.st ≠ .stepDown || s.herd.step = s.railStep n

/-- The controller is ready in the muster (R240). -/
def State.herdReady (s : State) : Bool :=
  s.dev.planLoaded && s.flag Reg.SUP_STATUS 3 && [.allOff, .steady, .powerUp].contains s.seq.st && !s.herd.holdOff

/-- The controller has work on the line (R238). -/
def State.herdWork (s : State) : Bool :=
  match s.herd.st with
  | .muster => !s.herdReady || s.herd.aborting.isSome
  | .stepUp => s.herd.aborting.isSome ||
      (let n := s.needed s.seq.target
       (List.finRange 24).any fun r => n.getLsbD r && s.railStep r = s.herd.step && s.railStep r ≠ 0 &&
        (s.seq.rail[r]).state ≠ .good)
  | .stepDown => (List.finRange 24).any fun r => s.railStep r = s.herd.step && s.railStep r ≠ 0 &&
      (s.seq.rail[r]).state ≠ .off && (s.seq.rail[r]).state ≠ .faulted
  | _ => false

/-- HERD record (R249). `width` is in PT units. -/
def State.postHerd (s : State) (kind reason width : Nat) : State :=
  s.post 0x24 ([BitVec.ofNat 8 kind, BitVec.ofNat 8 (s.fld Reg.SEQ_HERD_CFG 25 24), BitVec.ofNat 8 s.herd.step,
    BitVec.ofNat 8 reason] ++ leBytes 2 (satN 16 (width * 10 / 96)) ++ [BitVec.ofNat 8 s.herd.st.code, 0] ++
    leBytes 8 s.herd.stepPt.toNat)

/-- The controller aborts a Herd power-up for a reason of R243. Log entry 35 (DEDUCED). -/
def State.herdAbort (s : State) (reason : Nat) : State :=
  if (s.herd.st = .muster || s.herd.st = .stepUp) && s.herd.aborting.isNone then
    let s := s.setReg Reg.SEQ_HERD_ABORT (pack [(reason, 0), (s.herd.step, 8)])
    State.postHerd { s with herd.aborting := some reason } 7 reason 0
  else s

/-- The controller drives a low pulse of `w` PT units (R236). -/
def State.herdLow (s : State) (w : Nat) : State := { s with herd.lowUntil := s.ptNow + BitVec.ofNat 64 w }

/-- A pulse of the controller's own is under way. -/
def State.herdPulsing (s : State) : Bool := decide (s.ptNow.toNat < s.herd.lowUntil.toNat)

/-- The controller drives the line low: it has work, or issues a pulse (R238, R251). -/
def State.herdHolds (s : State) : Bool := s.herdOn && (s.herdWork || s.herdPulsing)

/-- A member in `RUNNING` issues an alarm of 20 µs for cause bit `b` of ALARM_ON (R247). -/
def State.herdAlarm (s : State) (b : Nat) : State :=
  if s.herd.st = .running && s.flag Reg.SEQ_HERD_CFG (8 + b) && !s.herd.issued then
    State.herdLow { s with herd.issued := true } 1920
  else s

/-- Action 17 is asserted by a Plan rule (R247). -/
def State.ruleCuts (s : State) : Bool :=
  let h := s.hedge
  (h.ruleActs (h.assertsOf h.condHw h.latchHw ||| h.assertsOf h.condSd h.latchSd)).getLsbD 17

/-- After an evaluation: action 17 newly asserted by a Plan rule is a cause of the alarm, whatever the sequencer's state (R247). -/
def State.cutAlarm (s : State) : State :=
  let c := s.ruleCuts
  let s := if c && !s.herd.cutSeen then s.herdAlarm 1 else s
  { s with herd.cutSeen := c }

/-! ### Counters and snapshots (R217 to R220) -/

/-- A counter has changed since the latest snapshot. -/
def State.cntChanged (s : State) : State := s.setFlag Reg.SUP_CNT_STATUS 16 true

/-- Adds one to a rail counter. -/
def State.railCnt (s : State) (a hi lo : Nat) : State := (s.inc a hi lo).cntChanged

/-- The seven counters of rail `n`: six of 16 bits, then ON_CYCLES. -/
def State.railCounters (s : State) (n : Nat) : List Byte :=
  image (s.reg (Reg.SUP_RAIL_CNT_W n)) ++ image (s.reg (Reg.SUP_RAIL_CNT_F n)) ++ image (s.reg (Reg.SUP_RAIL_CNT_S n)) ++
    image (s.reg (Reg.SUP_ON_CYCLES n))

/-- A counter snapshot for cause `c` of R218: its head and twelve bodies go to the journal (R430); CHANGED clears. -/
def State.snapshot (s : State) (c : Nat) : State :=
  let no := s.sup.snapNo
  let s := s.journal 0x07 (leBytes 2 no.toNat ++ [12, BitVec.ofNat 8 c] ++ leBytes 2 (s.fld Reg.SUP_VIN_FAIL_CNT 15 0) ++
    leBytes 3 s.railsInUse.toNat)
  let s := (List.range 12).foldl (fun s p =>
    s.journal 0x08 (leBytes 2 no.toNat ++ [BitVec.ofNat 8 p, 0] ++ s.railCounters (2 * p) ++ s.railCounters (2 * p + 1))) s
  ({ s with sup.snapNo := no + 1 }).setFlag Reg.SUP_CNT_STATUS 16 false

/-! ### Rail state changes (R175, R176, R196) -/

/-- RAIL_STATE record; COARSE marks one posted before full service (R192). -/
def State.postRail (s : State) (n : Fin 24) (src : RailState) (cause : Nat) (aborted : Bool) (us : Nat) : State :=
  s.post 0x20 ([BitVec.ofNat 8 n, BitVec.ofNat 8 src.code, BitVec.ofNat 8 (s.seq.rail[n]).state.code,
    BitVec.ofNat 8 (b2n (s.flag (Reg.SEQ_RAIL_STATUS n) 6) + 2 * b2n aborted + 4 * b2n (cause = 4) +
      8 * b2n (!s.fullService))] ++ leBytes 2 (s.railValue n / 10) ++ [BitVec.ofNat 8 cause, 0] ++
    leBytes 4 (satN 32 us))

/-- Ranks after rail `n` has entered `RAMP` or `OFF` (R176). -/
def rankStep (rail : Vector Rail 24) (n : Fin 24) (dst : RailState) : Vector Rail 24 :=
  if dst = .ramp then
    let top := rail.toList.foldl (fun m r => max m r.rank) 0
    rail.set n { rail[n] with rank := top + 1 }
  else if dst = .off then
    let k := (rail[n]).rank
    (rail.set n { rail[n] with rank := 0 }).map fun r => if k ≠ 0 && k < r.rank then { r with rank := r.rank - 1 } else r
  else rail

/-- What a rail's leaving `GOOD` does to its warnings is supervision's (R207): kinds 2 and 4 with ENDED. -/
def State.endWarning (s : State) (n : Fin 24) (ov : Bool) : State :=
  let b := if ov then 17 else 16
  if s.flag (Reg.SUP_RAIL_VALUE n) b then
    let m := s.sup.rail[n]
    let lvl := if ov then s.fld (Reg.SUP_RAIL_WTH n) 31 16 else s.fld (Reg.SUP_RAIL_WTH n) 15 0
    let cnt := if ov then s.fld (Reg.SUP_RAIL_CNT_W n) 31 16 else s.fld (Reg.SUP_RAIL_CNT_W n) 15 0
    let since := if ov then m.ovSince else m.uvSince
    (s.setFlag (Reg.SUP_RAIL_VALUE n) b false).post 0x21
      ([BitVec.ofNat 8 n, if ov then 4 else 2, 1, 0] ++ leBytes 2 (s.railValue n) ++ leBytes 2 lvl ++
        leBytes 2 (if ov then m.ovExt else m.uvExt) ++ leBytes 2 cnt ++
        leBytes 4 (satN 32 ((s.ptNow - since).toNat / 96)))
  else s

/-- Rail `n` changes state: time stamps, rank, measured times, counters and record; a rail not in use never changes. -/
def State.setRail (s : State) (n : Fin 24) (dst : RailState) (cause : Nat) (aborted : Bool := false) : State :=
  let r := s.seq.rail[n]
  if r.state = dst then s
  else
    let dt := (s.ptNow - r.entered).toNat
    let rails := rankStep (s.seq.rail.set n { r with state := dst, entered := s.ptNow, okPt := none, why := none }) n dst
    let s : State := { s with seq.rail := rails }
    let s := if dst = .settle then s.setFld (Reg.SEQ_RAIL_MEAS n) 15 0 (satN 16 (dt / 960)) else s
    let s := if dst = .good then s.railCnt (Reg.SUP_ON_CYCLES n) 31 0 else s
    let s := if r.state = .discharge && dst = .off then s.setFld (Reg.SEQ_RAIL_MEAS n) 31 16 (satN 16 (dt / 96000)) else s
    let s := if r.state = .good then (s.endWarning n false).endWarning n true else s
    s.postRail n r.state cause aborted (dt / 96)

/-- A change of every rail of a mask, lowest first. -/
def State.setRails (s : State) (m : BitVec 24) (dst : RailState) (cause : Nat) (aborted : Bool := false) : State :=
  (List.finRange 24).foldl (fun s (n : Fin 24) => if m.getLsbD n then s.setRail n dst cause aborted else s) s

/-- EN pin `n` is at its on level (R173): the rail's state asks for it and no direct path, action 17 or reset holds the
enables off. -/
def State.enable (s : State) (n : Fin 24) : Bool :=
  [.ramp, .settle, .good].contains (s.seq.rail[n]).state && !s.dev.inReset && s.dev.planDone && !s.sup.enHold &&
    !s.flag Reg.SUP_STATUS 0 && !s.act 17 && s.herd.st ≠ .alarmed

/-! ### Sequences (R181, R182, R197) -/

/-- SEQ_DONE record; kinds 1 to 5 report the sequence that ended, which began at `start` with `timeouts` discharge timeouts in it.
Log entry 32 (DEDUCED). -/
def State.postSeqDoneOf (s : State) (kind : Nat) (groups : BitVec 8) (start : Time) (timeouts : Nat) : State :=
  let seq := decide (kind ≤ 5)
  let l := s.reg Reg.SEQ_LATCH
  s.post 0x23 ([BitVec.ofNat 8 kind, BitVec.ofNat 8 s.seq.st.code, groups, s.seq.target,
    BitVec.ofNat 8 (if kind = 3 then wfld l 12 8 else 0xFF), BitVec.ofNat 8 (if kind = 3 then wfld l 2 0 else 0),
    BitVec.ofNat 8 (if seq then satN 8 timeouts else 0), 0] ++
    leBytes 4 (if seq then satN 32 ((s.ptNow - start).toNat / 96) else 0))

/-- SEQ_DONE of the sequence that State holds. -/
def State.postSeqDone (s : State) (kind : Nat) (groups : BitVec 8) : State :=
  s.postSeqDoneOf kind groups s.seq.startPt s.seq.timeouts

/-- The rail result (R376). -/
def State.railResult (s : State) (held failRail failKind flags : Nat) : List Byte :=
  [s.seq.target, s.groupsGood, s.seq.slot] ++ [held, failRail, failKind, flags, 0].map (BitVec.ofNat 8)

/-- The plain rail result. -/
def State.railRes (s : State) (flags : Nat := 0) : List Byte := s.railResult 0 0xFF 0 flags

/-- Outstanding ON commands that name a group of `g` complete ABORTED (R182, R185, R186 (e)); `byFail` gives FAIL_RAIL and
FAIL_KIND. -/
def State.abortOns (s : State) (g : BitVec 8) (byFail : Bool) : State :=
  let l := s.reg Reg.SEQ_LATCH
  let hit := s.seq.ons.filter fun e => e.2 &&& g ≠ 0
  let rest := s.seq.ons.filter fun e => e.2 &&& g = 0
  let s : State := { s with seq.ons := rest }
  hit.foldl (fun s e =>
    let res := s.railResult 0 (if byFail then wfld l 12 8 else 0xFF) (if byFail then wfld l 2 0 else 0) 0
    s.complete e.1 { status := Status.ABORTED, result := res }) s

/-- Outstanding OFF commands complete OK: those of a Herd shutdown (R246) where `herd`, the others where `loc`. -/
def State.finishOffs (s : State) (herd loc : Bool) : State :=
  let ends (e : Req × Bool) : Bool := if e.2 then herd else loc
  let hit := s.seq.offs.filter ends
  let rest := s.seq.offs.filter fun e => !ends e
  let s : State := { s with seq.offs := rest }
  hit.foldl (fun s e => s.complete e.1 { status := Status.OK, result := s.railRes }) s

/-- Entry to `FAULT_OFF`, `VIN_DOWN`, `CUT` or `START_ABORT` (R182): the target and the slot empty, ON commands abort, with them the
Herd request they made, and a snapshot falls due at the end. No Plan start waits any more. Log entry 32 (DEDUCED). -/
def State.enterShutdown (s : State) (st : SeqState) (byFail : Bool) : State :=
  let g := s.seq.target
  let q : Seq := { s.seq with
    st := st, groups := g, target := 0, slot := 0, joining := 0, startPt := s.ptNow, timeouts := 0, allOffPt := none,
    snapDue := true, waitWake := false, startDue := false }
  let s : State := { s with seq := q, herd.requested := false }
  s.abortOns 0xFF byFail

/-- Rails in a whole-platform shutdown whose enables are already off (R175). -/
def State.cutRails (s : State) (cause : Nat) : State :=
  let w := s.railsIn [.wait]
  let m := s.railsIn [.ramp, .settle, .good]
  (s.setRails w .off cause).setRails m .discharge cause

/-- Journal record START_FAIL (R430). -/
def State.journalFail (s : State) (target : BitVec 8) (reason : Nat) : State :=
  let l := s.reg Reg.SEQ_LATCH
  s.journal 0x05 ([BitVec.ofNat 8 (wfld l 12 8), BitVec.ofNat 8 (wfld l 2 0), target, BitVec.ofNat 8 reason] ++
    leBytes 3 s.railsOn.toNat ++ [0] ++ leBytes 2 (s.railValue (wfld l 12 8) / 10))

/-- Latches a start failure in SEQ.LATCH. -/
def State.latchFail (s : State) (rail kind : Nat) : State := s.setReg Reg.SEQ_LATCH (pack [(1, 31), (rail, 8), (kind, 0)])

/-- A row of R182 above that of a start failure applies at this decision point, or another shutdown already runs. -/
def State.outranked (s : State) : Bool :=
  decide (s.sup.tripped ≠ 0) || s.sup.vinLow || s.act 17 || [.faultOff, .startAbort, .cut, .vinDown].contains s.seq.st

/-- Start failures of rails `m`, decided at one decision point (R188): each is `FAULTED` and counted, the lowest is latched with its
kind, and the sequencer enters `START_ABORT` unless it is outranked. Rails of `timed` failed by their ramp timeout.
Log entry 40 (DEDUCED). -/
def State.startFailure (s : State) (m timed : BitVec 24) : State :=
  match (List.finRange 24).find? fun (n : Fin 24) => m.getLsbD n with
  | none => s
  | some f =>
    let kind := if (s.seq.rail[f]).state = .settle then 2 else if timed.getLsbD f then 1 else 3
    let target := s.seq.target
    let s := (List.finRange 24).foldl (fun s (n : Fin 24) =>
      if m.getLsbD n then (s.setRail n .faulted (if timed.getLsbD n then 2 else 3)).railCnt (Reg.SUP_RAIL_CNT_S n) 15 0
      else s) s
    let s := (s.latchFail f kind).herdAbort 1
    let s := s.journalFail target (match s.herd.aborting with
      | some r => r
      | none => 0)
    if s.outranked then s else s.enterShutdown .startAbort true

end Sys2Proof.Machine
end

