-- ==== Sys2Proof/Machine/BatteryOps.lean ====
section
/-!
DEFINITION. The battery's shared operations: configuration, FET outputs, protection flags and node 76, BATTERY records, the
gauge's quantities, snapshots and the OCV table (10_battery.md, R255 to R281).
-/

namespace Sys2Proof.Machine

/-! ### Configuration -/

/-- NCELL of the loaded Plan; until Plan load no cell is configured (R260). -/
def State.nCell (s : State) : Nat := if s.dev.planLoaded then s.fld Reg.BATT_CFG 3 0 else 0
def State.rShunt (s : State) : Nat := s.fld Reg.BATT_SHUNT 15 0
def State.designCap (s : State) : Nat := s.fld Reg.BATT_CAP 15 0
/-- Log entry 66 (DEDUCED). -/
def State.fcc (s : State) : Nat := s.fld Reg.BATT_CAP_NOW 31 16
def State.socNow (s : State) : Nat := s.fld Reg.BATT_SOC 15 0
def State.cur1ms (s : State) : Int := sint 32 (s.reg Reg.BATT_CURRENT).toNat
def State.cur1s (s : State) : Int := sint 32 (s.reg Reg.BATT_CURRENT_1S).toNat
/-- The four protection flags: bits COV, CUV, OCD, SCD. -/
def State.prot (s : State) : Nat := s.fld Reg.BATT_STATUS 3 0
/-- µC in a charge of `n` mAh. -/
def mAh (n : Nat) : Nat := n * 3600000
def State.setBatt (s : State) (b : Batt) : State := { s with batt := b }
/-- Pack temperature in 0.1 °C, and whether its zone has a valid value. -/
def State.packTemp (s : State) : Int :=
  sint 16 (s.fld (Reg.THERM_ZONE_STATUS (s.fld Reg.BATT_CFG 23 20)) 15 0)
def State.packTempValid (s : State) : Bool := s.flag (Reg.THERM_ZONE_STATUS (s.fld Reg.BATT_CFG 23 20)) 16

/-- BATTERY record (R281). -/
def State.postBatt (s : State) (kind detail : Nat) (a b : Int) : State :=
  s.post 0x30 ([BitVec.ofNat 8 kind, BitVec.ofNat 8 detail] ++ leBytes 2 s.socNow ++ leBytes 2 (ofSint 16 a) ++
    leBytes 2 (ofSint 16 b) ++ image (s.reg Reg.BATT_CURRENT_1S) ++ leBytes 2 (s.fld Reg.BATT_PACK_V 15 0) ++
    leBytes 2 (ofSint 16 s.packTemp))

/-! ### FET outputs (R257, R262) -/

/-- The drivers may be on at all: a Plan is loaded, and neither reset, Off nor the boot hold keeps them off. -/
def State.fetsLive (s : State) : Bool :=
  s.dev.planLoaded && !s.dev.inReset && s.pmc.state ≠ .off && !s.hedge.bootHold

/-- CHG, or DSG, could be on but for the protection flags. -/
def State.chgAsked (s : State) : Bool := s.fetsLive && s.flag Reg.BATT_FET 2 && !s.flag Reg.BATT_FET_FAULT 0 && !s.act 18
def State.dsgAsked (s : State) : Bool := s.fetsLive && s.flag Reg.BATT_FET 3 && !s.flag Reg.BATT_FET_FAULT 0 && !s.act 19

/-- The voltage flag alone holds the FET off, which the host has requested on (R262). -/
def State.chgVoltOnly (s : State) : Bool := s.chgAsked && nbit s.prot 0
def State.dsgVoltOnly (s : State) : Bool := s.dsgAsked && s.prot / 2 = 1

/-- Body-diode relief is active for CHG, for DSG: BATT.STATUS.BD_ACTIVE (R262). -/
def State.bdChg (s : State) : Bool := s.batt.reliefChg && s.chgVoltOnly
def State.bdDsg (s : State) : Bool := s.batt.reliefDsg && s.dsgVoltOnly

def State.chgOn (s : State) : Bool := s.chgAsked && (!nbit s.prot 0 || s.bdChg)

def State.dsgOn (s : State) : Bool := s.dsgAsked && (s.prot / 2 = 0 || s.bdDsg)

/-- BATT.FET (R286). -/
def State.fetWord (s : State) : Word :=
  pack [(b2n s.chgOn, 0), (b2n s.dsgOn, 1), (s.fld Reg.BATT_FET 3 2, 2), (b2n (s.act 18), 4), (b2n (s.act 19), 5)]

/-! ### Protection flags (R259 to R263) -/

/-- Node 76 and STATUS.ALARM follow the flags that ALARM_MASK enables. -/
def State.battAlarm (s : State) : State :=
  let on := decide (s.prot &&& s.fld Reg.BATT_PROT_CFG 27 24 ≠ 0)
  (s.setFlag Reg.BATT_STATUS 6 on).setNode 76 on

/-- Source 0x09 is detected; in Sleep and Deep sleep BATTERY kind 9 names the condition that wakes (R265, R276, R463). -/
def State.battWake (s : State) (letter : Nat) : State :=
  let s := if s.inSleep || s.inDeepSleep then
      let (s, i) := s.roundFrac s.cur1s 10
      s.postBatt 9 letter i 0
    else s
  s.wakeDetect 0x09 letter

/-- Flag `f` sets: its count, its record with A and B, node 76, and a wake. -/
def State.protSet (s : State) (f : Nat) (a b : Int) : State :=
  let s := s.setFlag Reg.BATT_STATUS f true
  let s := if f < 2 then s.inc Reg.BATT_PROT_CNT_A (16 * f + 15) (16 * f)
    else s.inc Reg.BATT_PROT_CNT_B (16 * (f - 2) + 15) (16 * (f - 2))
  let s := s.postBatt 1 (2 ^ f) a b
  s.battAlarm.battWake 4

/-- The flags of mask `m` clear, for reason `a` of kind 2. -/
def State.protClear (s : State) (m : Nat) (a : Int) : State :=
  let hit := s.prot &&& m
  if hit = 0 then s
  else ((s.setFld Reg.BATT_STATUS 3 0 (s.prot - hit)).postBatt 2 hit a 0).battAlarm

/-- An OCD or SCD trip that sets its flag: a third one within 60 s of the first sets RETRY_LOCK (R261). -/
def State.trip (s : State) (f : Nat) (uv : Nat) : State :=
  if nbit s.prot f then s
  else
    let (s, a) := if s.rShunt = 0 then (s.draw, (s.freeVal : Int)) else s.roundFrac ((uv : Int) * 100) s.rShunt
    let b := s.batt
    let n := b.trips + 1
    let first := b.tripPt.getD s.ptNow
    let s := s.setBatt { b with tripPt := some first, trips := n }
    let s := if 3 ≤ n && (s.ptNow - first).toNat ≤ ms 60000 then s.setFlag Reg.BATT_STATUS 5 true else s
    s.protSet f a 0xFFFF

/-- Clearing by command or charger: OCD, SCD and RETRY_LOCK (R261 (a), (b)). -/
def State.clearTrips (s : State) (a : Int) : State :=
  let s := s.protClear 12 a
  (s.setBatt { s.batt with tripPt := none, trips := 0 }).setFlag Reg.BATT_STATUS 5 false

/-! ### FET faults (R264) -/

/-- Bit of a kind in BATT.FET_FAULT. -/
def fetIdx : FetFault → Nat
  | .cpUv => 0
  | .chgGate => 1
  | .dsgGate => 2
  | .dsgLeak => 3
  | .chgLeak => 4

/-- A kind latches: node 77 and BATTERY kind 3. -/
def State.fetFault (s : State) (k : FetFault) : State :=
  if s.flag Reg.BATT_FET_FAULT (fetIdx k) then s
  else
    let s := (s.setFlag Reg.BATT_FET_FAULT (fetIdx k) true).setFlag Reg.BATT_STATUS 7 true
    let s := s.setNode 77 true
    s.postBatt 3 (s.fld Reg.BATT_FET_FAULT 4 0) 0 0

/-! ### The gauge's quantities (R267, R271) -/

/-- Charge added in both directions. -/
def ChgQ.add (a b : ChgQ) : ChgQ := { chg := a.chg + b.chg, dsg := a.dsg + b.dsg }

/-- A signed charge as a count in its direction. -/
def ChgQ.ofInt (q : Int) : ChgQ := if q < 0 then { dsg := q.natAbs } else { chg := q.toNat }

/-- Charge reaches BATT.ACC, the charge since the latest snapshot and the gauge's window. -/
def State.count (s : State) (q : ChgQ) : State :=
  let b := s.batt
  s.setBatt { b with acc := b.acc + BitVec.ofNat 64 q.chg - BitVec.ofNat 64 q.dsg, win := b.win.add q,
                     sinceSnap := b.sinceSnap.add q }

/-- Shows SoC from the charge: 0.01 % of FCC, clamped (R267). -/
def State.showSoc (s : State) : State :=
  if s.fcc = 0 then s
  else
    let (s, v) := s.roundFrac s.batt.socQ ((s.fcc : Int) * 360)
    s.setFld Reg.BATT_SOC 15 0 (min v.toNat 10000)

/-- SoC is set to a value in 0.01 %. -/
def State.setSoc (s : State) (soc : Nat) : State :=
  (s.setBatt { s.batt with socQ := (soc * s.fcc * 360 : Nat) }).setFld Reg.BATT_SOC 15 0 soc

/-- FCC and SoH; SoC keeps its value. -/
def State.setFcc (s : State) (fcc : Nat) : State :=
  let soc := s.socNow
  let s := s.setFld Reg.BATT_CAP_NOW 31 16 fcc
  let (s, h) := if s.designCap = 0 then (s, (0 : Int)) else s.roundFrac ((fcc : Int) * 10000) s.designCap
  (s.setFld Reg.BATT_SOC 31 16 (min h.toNat 11000)).setSoc soc

/-- REMCAP: SoC × FCC_T / 10,000 to the nearest mAh (R267); T in 0.1 °C. Log entry 66 (DEDUCED). -/
def remcap (soc fcc derate : Nat) (t : Int) : Nat :=
  let cold := (250 - t).toNat
  let f := 100000 - derate * cold
  (2 * soc * fcc * f + 1000000000) / 2000000000

/-- REMCAP and TTE (R271). -/
def State.showRest (s : State) : State :=
  let r := remcap s.socNow s.fcc (s.fld Reg.BATT_GAUGE_CFG 7 0) s.packTemp
  let s := s.setFld Reg.BATT_CAP_NOW 15 0 (min r 65535)
  let i := s.batt.iAvg
  if 500 * i ≤ (s.fcc : Int) * 1000000 then s.setFld Reg.BATT_TTE 15 0 0xFFFF
  else
    let (s, t) := s.roundFrac ((r : Int) * 60 * 1000000) i
    s.setFld Reg.BATT_TTE 15 0 (min t.toNat 0xFFFE)

/-- Adds discharged or charged µC to a mAh total with its remainder. -/
def mAhAdd (rem q total : Nat) : Nat × Nat := ((rem + q) % 3600000, satN 32 (total + (rem + q) / 3600000))

/-- The charge of the window is applied: SoC clamped at both ends, the totals, throughput and cycles (R267, R271).
Log entry 64 (DEDUCED). -/
def State.applyWindow (s : State) : State :=
  let b := s.batt
  let full : Int := (mAh s.fcc : Nat)
  let q := max 0 (min full (b.socQ + b.win.chg - b.win.dsg))
  let (dr, dt) := mAhAdd b.dsgRem b.win.dsg (s.reg Reg.BATT_Q_DSG).toNat
  let (cr, ct) := mAhAdd b.chgRem b.win.chg (s.reg Reg.BATT_Q_CHG).toNat
  let lap := mAh (s.fld Reg.BATT_GAUGE_CFG 31 24 * s.designCap) / 100
  let thr := b.thr + b.win.dsg
  let n := if lap = 0 then 0 else thr / lap
  let s := s.setBatt { b with socQ := q, win := {}, thr := if lap = 0 then thr else thr % lap, dsgRem := dr, chgRem := cr }
  let s := (s.setReg Reg.BATT_Q_DSG (BitVec.ofNat 32 dt)).setReg Reg.BATT_Q_CHG (BitVec.ofNat 32 ct)
  (s.incBy Reg.BATT_TTE 31 16 n).showSoc

/-! ### Snapshots (R273, R430) -/

/-- GAUGE journal record. Charge counted and not yet applied to the gauge is not in it, so it counts as flowed since (R273). -/
def State.gaugeSnap (s : State) : State :=
  let b := s.batt
  let g (i : Nat) : Bool := s.flag Reg.BATT_GAUGE_STATUS i
  let (aAcc, aSoc) := b.anchor.getD (0, 0)
  let s := s.journal 0x09 (leBytes 2 s.socNow ++ leBytes 2 s.fcc ++ leBytes 2 (s.fld Reg.BATT_TTE 31 16) ++
    leBytes 2 (satN 16 (b.thr / 3600000)) ++ leBytes 8 b.acc.toNat ++ leBytes 8 aAcc.toNat ++ leBytes 2 aSoc ++
    [BitVec.ofNat 8 (b2n (g 2) + 2 * b2n (g 1) + 4 * b2n b.anchor.isSome + 8 * s.fld Reg.BATT_CFG 17 16), 0] ++
    image (s.reg Reg.BATT_ID_LO) ++ image (s.reg Reg.BATT_ID_HI) ++ image (s.reg Reg.BATT_Q_DSG) ++
    image (s.reg Reg.BATT_Q_CHG))
  s.setBatt { s.batt with snapSoc := s.socNow, sinceSnap := b.win, snapsPosted := b.snapsPosted + 1 }

/-- A GAUGE record has been written: commands that wait for it complete (R280). -/
def State.gaugeWritten (s : State) : State :=
  let n := s.batt.snapsWritten + 1
  let hit := s.batt.waits.filter fun e => e.1 ≤ n
  let rest := s.batt.waits.filter fun e => !(e.1 ≤ n)
  hit.foldl (fun s e => s.complete e.2 { status := Status.OK, result := image s.fetWord ++
      [0, BitVec.ofNat 8 (s.fld Reg.BATT_FET_FAULT 4 0)] })
    (s.setBatt { s.batt with snapsWritten := n, waits := rest })

/-! ### ESTIMATED (R256, R274, R278) -/

/-- ESTIMATED sets; BATTERY kind 8 with its cause. It forbids a candidate from the present anchor (R270). -/
def State.setEstimated (s : State) (detail : Nat) : State :=
  let s := s.setBatt { s.batt with blocked := true }
  let s := s.setFlag Reg.BATT_GAUGE_STATUS 1 true
  if detail = 0 then s else s.postBatt 8 detail 0 0

/-! ### The OCV table (R269) -/

/-- A fraction with positive denominator. -/
abbrev Frac := Int × Int

def Frac.lt (a b : Frac) : Bool := decide (a.1 * b.2 < b.1 * a.2)

def State.ocvV (s : State) (k : Nat) : Int := (s.fld (Reg.BATT_OCV k) 15 0 : Nat)
def State.ocvSoc (s : State) (k : Nat) : Int := (s.fld (Reg.BATT_OCV k) 31 16 : Nat)
def State.ocvTc (s : State) (k : Nat) : Int := sint 16 (s.fld (Reg.BATT_OCV_TC k) 15 0)

/-- The segment whose points bracket a voltage in 0.1 mV; none outside the table. -/
def State.ocvSegment (s : State) (v : Frac) : Option Nat :=
  if Frac.lt v (s.ocvV 0, 1) || Frac.lt (s.ocvV 63, 1) v then none
  else (List.range 63).find? fun k => !Frac.lt (s.ocvV (k + 1), 1) v

/-- SoC of one cell at `v` (0.1 mV) and pack temperature `t` (0.1 °C), in 0.01 %, with its segment; none where the table
gives no points to interpolate between. Log entry 65 (DEDUCED). -/
def State.cellSoc (s : State) (v : Nat) (t : Int) : Option (Frac × Nat) :=
  match s.ocvSegment (v, 1) with
  | none => none
  | some k =>
    let d := s.ocvV (k + 1) - s.ocvV k
    let tc := s.ocvTc k * d + ((v : Int) - s.ocvV k) * (s.ocvTc (k + 1) - s.ocvTc k)
    let v25 : Frac := ((v : Int) * 1000 * d - tc * (t - 250), 1000 * d)
    match s.ocvSegment v25 with
    | none => none
    | some j =>
      let dj := s.ocvV (j + 1) - s.ocvV j
      some ((s.ocvSoc j * dj * v25.2 + (v25.1 - s.ocvV j * v25.2) * (s.ocvSoc (j + 1) - s.ocvSoc j), dj * v25.2), j)

/-- The lowest cell SoC over the pack: SoC, segment and cell. A cell outside the table has a free SoC.
Log entry 65 (DEDUCED). -/
def State.packSoc (s : State) (cells : List Nat) : State × Option (Frac × Option Nat × Nat) :=
  let t := s.packTemp
  (cells.zipIdx).foldl (fun (s, best) (v, c) =>
    let (s, f, j) : State × Frac × Option Nat := match s.cellSoc v t with
      | some (f, j) => (s, f, some j)
      | none => (s.draw, (((s.freeVal % 10001 : Nat) : Int), 1), none)
    match best with
    | some (g, k, d) => if Frac.lt f g then (s, some (f, j, c)) else (s, some (g, k, d))
    | none => (s, some (f, j, c))) (s, none)

/-- The table slope at a segment is below 0.5 mV per 1.00 %. Log entry 65 (DEDUCED). -/
def State.slopeLow (s : State) (j : Nat) : Bool :=
  decide (20 * (s.ocvV (j + 1) - s.ocvV j) < s.ocvSoc (j + 1) - s.ocvSoc j)

end Sys2Proof.Machine
end

