-- ==== Sys2Proof/Machine/Battery.lean ====
section
/-!
DEFINITION. The commands of the battery front end and the gauge (10_battery.md).
-/

namespace Sys2Proof.Machine

/-! ### Corrections and capacity (R269, R270) -/

/-- Capacity candidate from the previous anchor (R270). Log entry 65 (DEDUCED). -/
def State.learn (s : State) (soc : Nat) : State :=
  match s.batt.anchor with
  | none => s
  | some (acc0, soc0) =>
    let dS := ((soc : Int) - soc0).natAbs
    if s.batt.blocked || dS < 100 * s.fld Reg.BATT_GAUGE_CFG 23 16 then s
    else
      let dQ := (s.batt.acc - acc0).toInt.natAbs
      let (s, new) := s.roundFrac (dQ : Int) ((dS * 360 : Nat) : Int)
      let c := (s.designCap : Int)
      let cycles : Int := (s.fld Reg.BATT_TTE 31 16 : Nat)
      if 30 * 60000 < s.batt.balMs then s.postBatt 7 2 new cycles
      else
        let inDesign := decide (50 * c ≤ 100 * new) && decide (100 * new ≤ 110 * c)
        let inPresent := decide (90 * (s.fcc : Int) ≤ 100 * new) && decide (100 * new ≤ 110 * (s.fcc : Int))
        if inDesign && (inPresent || s.flag Reg.BATT_GAUGE_STATUS 2) then
          ((s.setFcc new.toNat).setFlag Reg.BATT_GAUGE_STATUS 2 false).postBatt 7 0 new cycles
        else s.postBatt 7 1 new cycles

/-- An applied correction: SoC, ESTIMATED, the record, the candidate and the new anchor, a snapshot. -/
def State.ocvApply (s : State) (soc cell : Nat) : State :=
  let d : Int := (soc : Int) - s.socNow
  let s := s.setSoc soc
  let s := if s.batt.estHard then s else s.setFlag Reg.BATT_GAUGE_STATUS 1 false
  let s := (s.setFld Reg.BATT_GAUGE_STATUS 31 16 (ofSint 16 d)).setFlag Reg.BATT_GAUGE_STATUS 5 false
  let s := (s.postBatt 6 0 d cell).learn soc
  (s.setBatt { s.batt with anchor := some (s.batt.acc, soc), blocked := s.batt.estHard, balMs := 0 }).gaugeSnap

/-- An OCV correction, applied or skipped. Log entry 65 (DEDUCED). -/
def State.ocvCorrect (s : State) (cells : List Nat) : State :=
  let (s, best) := s.packSoc cells
  match best with
  | none => s
  | some (f, seg, cell) =>
    let slope := match seg with
      | some j => s.slopeLow j
      | none => false
    let t := s.packTemp
    if slope then (s.setFlag Reg.BATT_GAUGE_STATUS 5 true).postBatt 6 1 0 cell
    else if !s.packTempValid || t < 0 || 450 < t then (s.setFlag Reg.BATT_GAUGE_STATUS 5 true).postBatt 6 2 0 cell
    else
      let (s, soc) := s.roundFrac f.1 f.2
      s.ocvApply (min soc.toNat 10000) cell

/-- SoC from OCV after a pack change, without rest and with ESTIMATED kept (R278 (a)). Log entry 65 (DEDUCED). -/
def State.ocvPackChange (s : State) (cells : List Nat) : State :=
  let (s, best) := s.packSoc cells
  let s := s.setBatt { s.batt with ocvPack := false }
  match best with
  | none => s
  | some (f, _, _) =>
    let (s, soc) := s.roundFrac f.1 f.2
    s.setSoc (min soc.toNat 10000)

/-- The gauge corrects and reports: full service, awake, a pack present (R47, R277). -/
def State.gaugeFull (s : State) : Bool :=
  s.fullService && s.time.src = .xo && s.flag Reg.BATT_STATUS 15 && s.dev.planLoaded

/-- REST_T in seconds. -/
def State.restT (s : State) : Nat := 600 * s.fld Reg.BATT_GAUGE_CFG 15 8

/-- The corrections a full-service sweep may carry. -/
def State.sweepGauge (s : State) (cells : List Nat) : State :=
  if !s.gaugeFull then s
  else
    let s := if s.batt.ocvPack then s.ocvPackChange cells else s
    if s.batt.ocvCold then
      (s.setBatt { s.batt with ocvCold := false, corrected := true }).ocvCorrect cells
    else if s.restT ≤ s.batt.rest && !s.batt.corrected then
      (s.setBatt { s.batt with corrected := true }).ocvCorrect cells
    else s

/-! ### A sweep (R254, R259, R260, R265, R266, R277) -/

/-- A voltage flag judged on a sweep: `on` counts toward DLY, `off` clears. `cell` is the deciding cell.
Log entry 64 (DEDUCED). -/
def State.judgeCells (s : State) (f : Nat) (run : Nat) (on off : Bool) (v : Nat) (cell : Fin 8) : State × Nat :=
  let dly := if s.asleep then 1 else s.fld (if f = 0 then Reg.BATT_COV else Reg.BATT_CUV) 31 24
  let run := if on then run + 1 else 0
  if nbit s.prot f then (if off then s.protClear (2 ^ f) 1 else s, run)
  else if on && dly ≤ run then ((s.setFlag (Reg.BATT_CELL cell) 16 true).protSet f v cell, run)
  else (s, run)

/-- COV and CUV on the cells of the Plan: highest and lowest cell decide. Log entry 64 (DEDUCED). -/
def State.protSweep (s : State) (cells : List Nat) : State :=
  let hi := cells.foldl max 0
  let lo := cells.foldl min 0xFFFF
  let covT := 10 * s.fld Reg.BATT_COV 12 0
  let covH := 10 * s.fld Reg.BATT_COV 23 16
  let cuvT := 10 * s.fld Reg.BATT_CUV 12 0
  let cuvH := 10 * s.fld Reg.BATT_CUV 23 16
  let (s, r0) := s.judgeCells 0 s.batt.covRun (decide (covT ≤ hi)) (decide (hi + covH ≤ covT)) hi (Fin.ofNat 8 (cells.idxOf hi))
  let (s, r1) := s.judgeCells 1 s.batt.cuvRun (decide (lo ≤ cuvT)) (decide (cuvT + cuvH ≤ lo)) lo (Fin.ofNat 8 (cells.idxOf lo))
  s.setBatt { s.batt with covRun := r0, cuvRun := r1 }

/-- Balancing may run (R266). -/
def State.balRuns (s : State) : Bool :=
  s.batt.balCmd.getD (s.flag Reg.BATT_CFG 7) && s.fullService && (s.pmc.state = .run || s.pmc.state = .idle) &&
    s.prot = 0 && s.flag (Reg.THERM_ZONE_STATUS 0) 16 && decide (sint 16 (s.fld (Reg.THERM_ZONE_STATUS 0) 15 0) < 1000) &&
    (decide (0 < s.cur1s) || decide (500 * s.cur1s.natAbs < s.fcc))

/-- BATT.STATUS, BATT.CELL and BATT.BAL_STATUS as they read: the bleed switches are open, and no cell is a candidate, from the moment
a condition of R266 fails. -/
def State.battStatusWord (s : State) : Word :=
  let w := wset (s.reg Reg.BATT_STATUS) 13 13 (b2n (s.bdChg || s.bdDsg))
  if s.balRuns then w else wset w 12 12 0
def State.cellWord (s : State) (k : Fin 8) : Word :=
  if s.balRuns then s.reg (Reg.BATT_CELL k) else wset (s.reg (Reg.BATT_CELL k)) 18 18 0
def State.balWord (s : State) : Word := if s.balRuns then s.reg Reg.BATT_BAL_STATUS else 0

/-- Candidates with their hysteresis, and the half of them that bleeds after this sweep. Log entry 63 (DEDUCED). -/
def State.balance (s : State) (cells : List Nat) : State :=
  let lo := cells.foldl min 0xFFFF
  let delta := 10 * s.fld Reg.BATT_BAL_CFG 23 16
  let least := 10 * s.fld Reg.BATT_BAL_CFG 12 0
  let old := s.fld Reg.BATT_BAL_STATUS 15 8
  let odd := s.batt.odd
  let need := if s.balRuns then bitsOf 8 fun k => decide (k < cells.length) &&
      (let v := cells.getD k 0
       if nbit old k then decide (delta ≤ 2 * (v - lo)) else decide (least ≤ v) && decide (delta ≤ v - lo)) else 0
  let bleed := bitsOf 8 fun k => nbit need k && (k % 2 == (if odd then 1 else 0))
  let s := s.setFld Reg.BATT_BAL_STATUS 15 0 (256 * need + bleed)
  let s := s.setFlag Reg.BATT_STATUS 12 (decide (bleed ≠ 0))
  let s := (List.range 8).foldl (fun s k => s.setFlag (Reg.BATT_CELL k) 18 (nbit bleed k)) s
  s.setBatt { s.batt with odd := !odd, balMs := s.batt.balMs + (if bleed = 0 then 0 else 10) }

/-- PACK_PRESENT from the stack voltage (R277). Log entry 64 (DEDUCED). -/
def State.packPresent (s : State) (stack : Nat) : State :=
  let low := decide (stack < 10000 * s.nCell)
  let run := if low then s.batt.lowRun + 1 else 0
  let s := s.setBatt { s.batt with lowRun := run }
  if !low then s.setFlag Reg.BATT_STATUS 15 true
  else if 3 ≤ run then s.setFlag Reg.BATT_STATUS 15 false
  else s

/-- What the 60 s after a cold start see in the cells: no change above 0.2 mV (R274). -/
def State.coldSweep (s : State) (cells : List Nat) : State :=
  if !s.batt.cold then s
  else match s.batt.coldCells with
    | none => s.setBatt { s.batt with coldCells := some cells }
    | some old =>
      let moved := (old.zip cells).any fun e => decide (e.1 + 2 < e.2) || decide (e.2 + 2 < e.1)
      s.setBatt { s.batt with coldBroken := s.batt.coldBroken || moved }

/-- The values of a sweep: all eight inputs before a Plan, the Plan's cells after. -/
def State.sweepValues (s : State) (x : Sweep) (cells : List Nat) (coarse : Bool) : State :=
  let s := (List.range 8).foldl (fun s k =>
    let v := if s.nCell = 0 || k < s.nCell then (x.cells.getD k 0).toNat else 0
    (s.setFld (Reg.BATT_CELL k) 15 0 v).setFlag (Reg.BATT_CELL k) 17 coarse) s
  let sum : Nat := cells.foldl (fun a b => a + b) 0
  let (s, mv) := s.roundFrac (sum : Int) 10
  s.setReg Reg.BATT_PACK_V (pack [(min mv.toNat 65535, 0), (x.packp.toNat, 16)])

/-- Reference B through the cell front end: the second of two consecutive readings more than 1.5 mV off is a failure (R489 (e)). -/
def State.battRef (s : State) (x : Sweep) : State :=
  let run := if 1500 < x.refErr.toNat then s.bist.cellRefRun + 1 else 0
  let s : State := { s with bist.cellRefRun := run }
  if run = 2 then s.classS 0x0F 0xFFFF 0 else s

/-- Log entry 64 (DEDUCED). -/
def State.cellSweep (s : State) (x : Sweep) : State :=
  let all := x.cells.toList.map fun v => v.toNat
  let cells := if s.nCell = 0 then all else all.take s.nCell
  let stack : Nat := cells.foldl (fun a b => a + b) 0
  let s := s.sweepValues x cells (s.asleep || !s.fullService)
  let s := s.setFlag Reg.BATT_STATUS 14 (s.flag Reg.BATT_STATUS 14 &&
    decide (stack + 100 * s.fld Reg.BATT_PROT_CFG 15 8 ≤ 10 * x.packp.toNat))
  let s := s.packPresent stack
  let s := if s.nCell = 0 then s else s.protSweep cells
  let s := (List.range 8).foldl (fun s k => if s.prot % 4 = 0 then s.setFlag (Reg.BATT_CELL k) 16 false else s) s
  let s := (s.balance cells).coldSweep cells
  (s.sweepGauge cells).battRef x

/-- The front end measures in every power state but Off (R265). Log entry 10 (DESIGN CHOICE). -/
def State.battRuns (s : State) : Bool := s.pmc.state ≠ .off && !s.dev.inReset && s.dev.powered

def execCellSweep (x : Sweep) (s : State) : Out := .next (if s.battRuns then s.cellSweep x else s)

/-! ### A current window (R255, R256, R262, R264, R275) -/

/-- Charge of one window goes where the present clock sends it. -/
def State.countWindow (s : State) (q : ChgQ) : State :=
  match s.time.src with
  | .xo => s.count q
  | .firc => s.setBatt { s.batt with raw := s.batt.raw.add q }
  | .kennel => s.setBatt { s.batt with lp := s.batt.lp.add q }

/-- Body-diode relief begins at BD_I and ends below BD_I / 2 or at a reversal (R262). -/
def reliefNext (old : Bool) (only : Bool) (i bd : Int) : Bool := only && (if old then decide (bd ≤ 2 * i) else decide (bd ≤ i))

def State.relief (s : State) : State :=
  let bd : Int := 10 * (s.fld Reg.BATT_PROT_CFG 23 16 : Nat)
  let i := s.cur1ms
  s.setBatt { s.batt with reliefDsg := reliefNext s.batt.reliefDsg s.dsgVoltOnly i bd
                          reliefChg := reliefNext s.batt.reliefChg s.chgVoltOnly (-i) bd }

/-- A FET that is off carries more than FET_I for 500 ms (R264). -/
def State.leaks (s : State) : State :=
  let lim : Int := (s.fld Reg.BATT_FET_CFG 9 0 : Nat)
  let now := s.ptNow
  let d : Option Time := if !s.dsgOn && decide (s.cur1ms < -lim) then some (s.batt.leakDsg.getD now) else none
  let c : Option Time := if !s.chgOn && decide (lim < s.cur1ms) then some (s.batt.leakChg.getD now) else none
  let s := s.setBatt { s.batt with leakDsg := d, leakChg := c }
  let due (t : Option Time) : Bool := match t with
    | some p => decide (ms 500 ≤ (now - p).toNat)
    | none => false
  let s := if due d then s.fetFault .dsgLeak else s
  if due c then s.fetFault .chgLeak else s

/-- One millisecond: its mean current, its charge, relief and leaks. Without a shunt value nothing is counted, and the current
is a free value. -/
def State.window (s : State) (nv : Int) : State :=
  if s.rShunt = 0 then (s.setReg Reg.BATT_CURRENT (BitVec.ofNat 32 s.freeVal)).draw
  else
    let r : Int := s.rShunt
    let (s, i) := s.roundFrac nv r
    let s := s.setReg Reg.BATT_CURRENT (BitVec.ofNat 32 (ofSint 32 i))
    let t : Int := s.batt.rem + nv
    let s := s.setBatt { s.batt with rem := t % r, secSum := s.batt.secSum + i, secN := s.batt.secN + 1 }
    ((s.countWindow (ChgQ.ofInt (t / r))).relief).leaks

def execCurrentWindow (nv : Word) (s : State) : Out := .next (if s.battRuns then s.window nv.toInt else s)

/-! ### Protection and FET faults -/

def execOcdTrip (uv : BitVec 24) (s : State) : Out := .next (if s.battRuns then s.trip 2 uv.toNat else s)

def execScdTrip (uv : BitVec 24) (s : State) : Out := .next (if s.battRuns then s.trip 3 uv.toNat else s)

def execProtRetryExpiry (scd : Bool) (s : State) : Out :=
  .next (if s.battRuns && s.flag Reg.BATT_PROT_CFG 0 && !s.flag Reg.BATT_STATUS 5 then
      s.protClear (if scd then 8 else 4) 4
    else s)

def execChargerDetect (s : State) : Out :=
  .next (if s.battRuns then (s.setFlag Reg.BATT_STATUS 14 true).clearTrips 3 else s)

/-- A FET fault kind can be detected only with its FET in the state R264 names. -/
def State.fetFaultable (s : State) : FetFault → Bool
  | .cpUv => s.chgOn || s.dsgOn
  | .dsgLeak => !s.dsgOn
  | .chgLeak => !s.chgOn
  | _ => true

def execFetFaultDetect (k : FetFault) (s : State) : Out :=
  .next (if s.battRuns && s.fetFaultable k then s.fetFault k else s)

/-! ### The gauge (R256, R267, R268, R271, R273 to R276) -/

/-- The 1 s current is the mean of the second's windows (R255). -/
def State.oneSecond (s : State) : State :=
  let b := s.batt
  let (s, i) := if b.secN = 0 then (s, (0 : Int)) else s.roundFrac b.secSum b.secN
  (s.setReg Reg.BATT_CURRENT_1S (BitVec.ofNat 32 (ofSint 32 i))).setBatt { s.batt with secSum := 0, secN := 0 }

/-- Rest time: a second at or above FCC / 500 restarts it (R268). -/
def State.restSecond (s : State) : State :=
  let b := s.batt
  let quiet := decide (500 * s.cur1s.natAbs < s.fcc)
  let r := if quiet then b.rest + 1 else 0
  let s := s.setBatt { b with rest := r, corrected := b.corrected && quiet, coldBroken := b.coldBroken || (b.cold && !quiet) }
  let s := s.setFld Reg.BATT_GAUGE_STATUS 15 8 (satN 8 (r / 60))
  s.setFlag Reg.BATT_GAUGE_STATUS 3 (decide (s.restT ≤ r))

/-- Discharge current with time constant 60 s: 1 − exp(−1/60) = 0.016528546178 (R271). Log entry 66 (DEDUCED). -/
def State.average (s : State) : State :=
  let x : Int := -s.cur1s * 1000000
  s.setBatt { s.batt with iAvg := s.batt.iAvg + (x - s.batt.iAvg) * 16528546178 / 1000000000000 }

/-- A change of SoC by 1.00 % writes a snapshot, one by SOC_STEP posts kind 5 (R273, R281). -/
def State.socSteps (s : State) : State :=
  let soc := s.socNow
  let far (a b d : Nat) : Bool := decide (d ≤ ((a : Int) - b).natAbs)
  let step := 10 * s.fld Reg.BATT_REPORT 7 0
  let s := if step ≠ 0 && far soc s.batt.stepSoc step then
      (s.setBatt { s.batt with stepSoc := soc }).postBatt 5 0 (s.fld Reg.BATT_CAP_NOW 15 0 : Nat) (s.fld Reg.BATT_TTE 15 0 : Nat)
    else s
  if far soc s.batt.snapSoc 100 then s.gaugeSnap else s

/-- Every reported quantity is updated. -/
def State.gaugeReport (s : State) : State := s.applyWindow.showRest.socSteps

/-- The update at the switch to full service and at a wake; while PACK_PRESENT is clear the gauge stands still (R256, R275, R277). -/
def State.gaugeRefresh (s : State) : State := if s.flag Reg.BATT_STATUS 15 then s.gaugeReport else s

/-- After a reset other than POR, BOR and Off exit: the charge counted since the snapshot reaches SoC, the totals and the cycles
(R273). -/
def State.addSince (s : State) : State := (s.setBatt { s.batt with win := s.batt.sinceSnap }).applyWindow

/-- A charge multiplied by n / d. -/
def State.scaleQ (s : State) (q : ChgQ) (n d : Int) : State × ChgQ :=
  let (s, c) := s.roundFrac ((q.chg : Int) * n) d
  let (s, g) := s.roundFrac ((q.dsg : Int) * n) d
  (s, { chg := c.toNat, dsg := g.toNat })

/-- The charge counted on FIRC, divided by (1 + ppm × 10⁻⁶) and gain-corrected, is applied (R256).
Log entry 64 (DEDUCED). -/
def State.applyRaw (s : State) (ppm : Int) : State :=
  let (s, q) := s.scaleQ s.batt.raw (1000000 + s.batt.gain) (1000000 + ppm)
  (s.setBatt { s.batt with raw := {} }).count q

/-- XO_FAIL or PLL_FAIL is set: the raw charge is applied each second, and ESTIMATED stays set (R256). -/
def State.rawSecond (s : State) : State :=
  let s := s.applyRaw 0
  if s.batt.estHard then s.gaugeReport
  else ((s.setBatt { s.batt with estHard := true }).setEstimated 3).gaugeReport

/-- One second of the gauge. -/
def State.gaugeSecond (s : State) : State :=
  let s := s.oneSecond.restSecond
  if s.asleep || !s.flag Reg.BATT_STATUS 15 then s
  else
    let s := s.average
    if s.dev.planLoaded && (s.flag Reg.DEV_STAGE 4 || s.flag Reg.DEV_STAGE 5) && s.time.src = .firc then s.rawSecond
    else if s.gaugeFull then s.gaugeReport
    else s

def execGaugeUpdate (s : State) : Out := .next (if s.battRuns then s.gaugeSecond else s)

def execGaugeSnapshot (s : State) : Out :=
  .next (if s.dev.planLoaded && !s.asleep && s.battRuns then s.gaugeSnap else s)

/-- The 60 s end: a correction at the next sweep, or ESTIMATED (R274). -/
def execColdStartRestWindow (s : State) : Out :=
  .next (if s.batt.cold && !s.asleep then
      let broken := s.batt.coldBroken
      let s := s.setBatt { s.batt with cold := false, coldCells := none, coldBroken := false, ocvCold := !broken }
      if broken then s.setEstimated 1 else s
    else s)

/-- Whether a condition of R276 is armed. -/
def State.lpArmed (s : State) : LpCond → Bool
  | .current => s.fld Reg.BATT_LP_WAKE 28 16 ≠ 0
  | .soc => s.fld Reg.BATT_LP_WAKE 13 0 ≠ 0
  | .rest => s.flag Reg.BATT_LP_WAKE 31
  | .protection => s.prot ≠ 0

/-- Letter of R276. -/
def lpLetter : LpCond → Nat
  | .current => 1
  | .soc => 2
  | .rest => 3
  | .protection => 4

def execBatteryLpWake (c : LpCond) (s : State) : Out :=
  .next (if s.live && (s.inSleep || s.inDeepSleep) && s.lpArmed c then s.battWake (lpLetter c) else s)

/-- At a wake the low-power charge is added, on the LPO scaled by the mean of its two measurements (R275). -/
def State.applyLp (s : State) (lpoPpm : Int) : State :=
  let (s, q) := if s.flag Reg.TIME_STATUS 3 then (s, s.batt.lp)
    else s.scaleQ s.batt.lp (2000000 + s.batt.lpoEntry + lpoPpm) 2000000
  (s.setBatt { s.batt with lp := {} }).count q

/-! ### Pack identity (R277, R278) -/

/-- The retained identity. -/
def State.packId (s : State) : Nat := (s.reg Reg.BATT_ID_LO).toNat + 2 ^ 32 * (s.reg Reg.BATT_ID_HI).toNat

/-- PACK_CHANGE record (R282). -/
def State.postPack (s : State) (kind new old : Nat) : State :=
  s.post 0x31 ([BitVec.ofNat 8 kind, BitVec.ofNat 8 (s.fld Reg.BATT_CFG 17 16), 0, 0] ++ leBytes 4 new ++ leBytes 4 old ++
    leBytes 4 (new / 2 ^ 32))

/-- The learned state is reset as for a new pack; the identity is the caller's (R278 (a), (b), (c)). -/
def State.newPack (s : State) : State :=
  let b := s.batt
  let s := s.setBatt { b with thr := 0, dsgRem := 0, chgRem := 0, anchor := none, ocvPack := true, balMs := 0 }
  let s := s.setFcc s.designCap
  let s := (s.setFld Reg.BATT_SOC 31 16 10000).setFld Reg.BATT_TTE 31 16 0
  let s := (s.setReg Reg.BATT_Q_DSG 0).setReg Reg.BATT_Q_CHG 0
  let s := (s.setFlag Reg.BATT_GAUGE_STATUS 2 true).setFlag Reg.BATT_GAUGE_STATUS 0 true
  s.setEstimated 0

/-- Two identities match: equal, or BATID readings within BATID_TOL % of the retained one. Log entry 42 (DEDUCED). -/
def State.idMatches (s : State) (id : Nat) : Bool :=
  let old := s.packId
  if s.fld Reg.BATT_CFG 17 16 = 1 then
    decide (100 * ((id : Int) - old).natAbs ≤ s.fld Reg.BATT_ID_CFG 23 16 * old)
  else decide (id = old)

/-- The identity that was read is retained, with its record and a snapshot. Log entry 42 (DEDUCED). -/
def State.retainId (s : State) (id kind : Nat) : State :=
  let old := if kind = 0 then 0 else s.packId
  let s := s.newPack
  let s := (s.setReg Reg.BATT_ID_LO (BitVec.ofNat 32 id)).setReg Reg.BATT_ID_HI (BitVec.ofNat 32 (id / 2 ^ 32))
  ((s.setBatt { s.batt with idKnown := true }).postPack kind id old).gaugeSnap

/-- A SERIAL read that returns all 0x00 or all 0xFF has failed (R277). -/
def State.idGood (s : State) (id : Option (BitVec 64)) : Option (BitVec 64) :=
  id.filter fun v => !(s.fld Reg.BATT_CFG 17 16 = 2 && (v = 0 || v = BitVec.allOnes 64))

def State.idRead (s : State) (id : Option (BitVec 64)) : State :=
  match s.idGood id with
  | none => (s.setEstimated 2).postPack 2 s.packId s.packId
  | some v =>
    if !s.batt.idKnown then s.retainId v.toNat 0
    else if s.idMatches v.toNat then s
    else s.retainId v.toNat 1

def execPackIdRead (id : Option (BitVec 64)) (s : State) : Out :=
  .next (if s.dev.planLoaded && !s.asleep && s.fld Reg.BATT_CFG 17 16 ≠ 0 then s.idRead id else s)

/-! ### Registers and commands (R279, R280, R284) -/

/-- A read of BATT.ACC_LO latches BATT.ACC_HI (R284). -/
def State.readAccLo (s : State) : State × Word :=
  (s.setReg Reg.BATT_ACC_HI ((s.batt.acc >>> 32).setWidth 32), s.batt.acc.setWidth 32)

/-- BATT.CNT_CLR (R286). -/
def State.battCntClr (s : State) (v : Word) : State :=
  s.clearBy v [(0, Reg.BATT_PROT_CNT_A, 15, 0), (1, Reg.BATT_PROT_CNT_A, 31, 16),
    (2, Reg.BATT_PROT_CNT_B, 15, 0), (3, Reg.BATT_PROT_CNT_B, 31, 16)]

/-- Result of BATTERY_CONTROL (R375). -/
def State.battRes (s : State) (held : Bool) (kinds : Nat) : List Byte :=
  image s.fetWord ++ [BitVec.ofNat 8 (b2n held), BitVec.ofNat 8 kinds]

/-- The plain result. -/
def State.battOk (s : State) (st : Nat) : Option Reply := reply st (s.battRes false (s.fld Reg.BATT_FET_FAULT 4 0))

/-- BATTERY_CONTROL at its decision point. -/
def State.battCommand (s : State) (r : Req) (bad : Bool) (k : State → State × Option Reply) : State :=
  s.command r 0x21 bad k

/-- Operation FET (R280, R377 (d)). -/
def State.fetTake (s : State) (mask value : Byte) (force : Bool) : State × Option Reply :=
  let m (k : Nat) : Bool := mask.getLsbD k
  let v (k : Nat) : Bool := value.getLsbD k
  let kinds := s.fld Reg.BATT_FET_FAULT 4 0
  if m 1 && !v 1 && s.railsOn ≠ 0 && !force then (s, s.battOk Status.NOT_IN_STATE)
  else if (m 0 && s.act 18) || (m 1 && s.act 19) then (s, s.battOk Status.REFUSED)
  else
    let s := if m 0 then s.setFlag Reg.BATT_FET 2 (v 0) else s
    let s := if m 1 then s.setFlag Reg.BATT_FET 3 (v 1) else s
    let held := (m 0 && v 0 && nbit s.prot 0 && !s.chgOn) || (m 1 && v 1 && s.prot / 2 ≠ 0 && !s.dsgOn)
    (s, reply Status.OK (s.battRes held kinds))

def execBatteryControlFet (r : Req) (mask value flags : Byte) (s : State) : Out :=
  .next (s.battCommand r false fun s => s.fetTake mask value (flags.getLsbD 0))

def execBatteryControlClearProt (r : Req) (s : State) : Out :=
  .next (s.battCommand r false fun s =>
    if s.prot / 4 = 0 then (s, s.battOk Status.NOT_IN_STATE)
    else
      let s := s.clearTrips 2
      (s, s.battOk Status.OK))

/-- Operation CLEAR_FET: the fault latch and node 77; BATTERY kind 4. -/
def State.clearFet (s : State) (still : Nat) : State × Option Reply :=
  if still ≠ 0 then (s, reply Status.REFUSED (s.battRes false still))
  else
    let kinds := s.fld Reg.BATT_FET_FAULT 4 0
    let s := ((s.setReg Reg.BATT_FET_FAULT 0).setFlag Reg.BATT_STATUS 7 false).setNode 77 false
    let s := if kinds = 0 then s else s.postBatt 4 kinds 0 0
    (s, reply Status.OK (s.battRes false 0))

def execBatteryControlClearFet (r : Req) (still : BitVec 5) (s : State) : Out :=
  .next (s.battCommand r false fun s => s.clearFet still.toNat)

def execBatteryControlBalance (r : Req) (enable : Byte) (s : State) : Out :=
  .next (s.battCommand r (1 < enable.toNat) fun s =>
    let s := s.setBatt { s.batt with balCmd := some (enable = 1) }
    (s, s.battOk Status.OK))

def execBatteryControlRelearn (r : Req) (s : State) : Out :=
  .next (s.battCommand r false fun s =>
    let s := (s.newPack.postPack 3 s.packId s.packId).gaugeSnap
    (s, s.battOk Status.OK))

def execBatteryControlSnapshot (r : Req) (s : State) : Out :=
  .next (s.battCommand r false fun s =>
    let s := s.gaugeSnap
    (s.setBatt { s.batt with waits := s.batt.waits ++ [(s.batt.snapsPosted, r)] }, none))

end Sys2Proof.Machine
end

