-- ==== Sys2Proof/Machine/DriveOps.lean ====
section
/-!
DEFINITION. M0's shared operations: its configuration, MOTOR_STATE, entry to a state, what a decision point samples first,
and the tests of a run (11_drive.md, R291 to R298).
-/

namespace Sys2Proof.Machine

/-! ### Configuration (R291) -/

def State.m0Enabled (s : State) : Bool := s.flag Reg.DRIVE_M0_CFG 31
def State.m0Halls (s : State) : Bool := s.flag Reg.DRIVE_M0_CFG 30
def State.maxFreq (s : State) : Nat := s.fld Reg.DRIVE_M0_SPEED 12 0
/-- S_H and S_STOP in 0.01 Hz. -/
def State.sHandoff (s : State) : Nat := s.fld Reg.DRIVE_M0_SPEED 23 16 * s.maxFreq
def State.sStop (s : State) : Nat := 5 * s.maxFreq
/-- F_SPEED in kHz. -/
def State.fSpeed (s : State) : Nat := s.fld Reg.DRIVE_M0_SPEED 31 24
/-- Measured speed in 0.01 Hz. -/
def State.m0Speed (s : State) : Nat := s.fld Reg.DRIVE_M0_MEAS 18 0

/-- M0 reaches decision points: a Plan that enables it is loaded, and the controller is awake. -/
def State.m0Runs (s : State) : Bool := s.dev.planLoaded && s.m0Enabled && !s.asleep && !s.dev.inReset

def State.setM0 (s : State) (m : M0) : State := { s with drive.m0 := m }

/-! ### MOTOR_STATE (R300) -/

/-- MOTOR_STATE with PT `p`. Log entry 60 (DEDUCED). -/
def State.postMotorAt (s : State) (p : Time) (kind : Nat) (src : M0State) (cause : Nat) : State :=
  let m := s.drive.m0
  s.postAt p 0x40 ([kind, src.code, m.st.code, cause].map (BitVec.ofNat 8) ++ leBytes 2 (satN 16 (s.m0Speed / 10)) ++
    [BitVec.ofNat 8 m.kind, BitVec.ofNat 8 (b2n m.run.rev + 2 * b2n m.stopping + 4 * b2n m.queued.isSome +
      8 * b2n s.m0Halls)] ++ leBytes 4 m.run.setpoint ++ leBytes 2 (s.fld Reg.DRIVE_M0_IDQ 31 16) ++
    leBytes 2 (s.fld Reg.SUP_SUPPLY 15 0))

/-- MOTOR_STATE of kinds 2 to 5. Log entry 59 (DEDUCED). -/
def State.postMotor (s : State) (kind cause : Nat) : State := s.postMotorAt s.ptNow kind s.drive.m0.st cause

/-! ### Entry to a state (R293 to R296) -/

/-- Result of MOTOR_STOP (R375): the state after and the fault kind. -/
def State.m0StopRes (s : State) : List Byte := [BitVec.ofNat 8 s.drive.m0.st.code, BitVec.ofNat 8 s.drive.m0.kind]

/-- Result of MOTOR_RUN (R375), with the asserted actions. -/
def State.m0Res (s : State) : List Byte := s.m0StopRes ++ leBytes 3 s.acting.toNat

/-- The start under way ends with a status (R295, R298). -/
def State.endStart (s : State) (status : Nat) : State :=
  let m := s.drive.m0
  let s := s.setM0 { m with starting := false, startReq := none }
  match m.startReq with
  | some r => s.complete r { status := status, result := s.m0Res }
  | none => s

/-- The queued run is cancelled (R296). -/
def State.cancelQueued (s : State) (cause : Nat) : State :=
  if s.drive.m0.queued.isSome then (s.setM0 { s.drive.m0 with queued := none }).postMotor 5 cause else s

/-- Every outstanding MOTOR_STOP completes. -/
def State.endStops (s : State) (status : Nat) : State :=
  let l := s.drive.m0.stops
  l.foldl (fun s r => s.complete r { status := status, result := s.m0StopRes }) (s.setM0 { s.drive.m0 with stops := [] })

/-- DRIVE.M0_FAULT takes a detected kind: FIRST with its phase and side, and SEEN (R294, R309). -/
def State.m0Seen (s : State) (kind phase side : Nat) : State :=
  let s := s.setFlag Reg.DRIVE_M0_FAULT (15 + kind) true
  if s.fld Reg.DRIVE_M0_FAULT 3 0 = 0 then
    s.setFld Reg.DRIVE_M0_FAULT 7 0 (kind + 32 * side + 64 * phase)
  else s

/-- States in which the observer tracks the rotor (R293). -/
def M0State.observed (st : M0State) : Bool := [M0State.openRamp, .closedLoop, .braking].contains st

/-- M0 enters a state other than `FAULT`. -/
def State.m0To (s : State) (st : M0State) (cause : Nat) : State :=
  let m := s.drive.m0
  let old := m.st
  let m : M0 := { m with
    st := st, hold := decide (st = .align), stopping := false, atPt := none, lossPt := none, kind := 0, iqRef := 0,
    overPt := if st.observed then m.overPt else none,
    ramp := if st = .openRamp then 0 else 10 * s.fSpeed * s.sHandoff }
  let m : M0 := if st = .stopped then { m with run := { m.run with accel := none, decel := none } } else m
  let s := s.setM0 m
  let s := if old = .fault then s.setNode 84 false else s
  let s := s.postMotorAt s.ptNow 1 old cause
  if st = .stopped then s.endStops Status.OK else s

/-- M0 enters `FAULT` with a kind whose record carries PT `p` (R294, R300). -/
def State.m0FaultAt (s : State) (p : Time) (kind : Nat) : State :=
  let m := s.drive.m0
  if m.st = .fault then s
  else
    let m' : M0 := { m with
      st := .fault, hold := false, stopping := false, atPt := none, lossPt := none, overPt := none, kind := kind,
      detected := none, hallRun := 0, iqRef := 0, run := { m.run with accel := none, decel := none } }
    let s := (s.setM0 m').inc Reg.DRIVE_M0_CNT 31 16
    let s := (s.setNode 84 true).postMotorAt p 1 m.st 5
    let s := s.cancelQueued 5
    let s := if m.starting then s.endStart Status.ABORTED else s
    s.endStops Status.ABORTED

/-- A fault decided at the decision point: kinds 5 to 9. Log entry 60 (DEDUCED). -/
def State.m0Fault (s : State) (kind : Nat) : State :=
  if s.drive.m0.st = .fault then s else (s.m0Seen kind 3 0).m0FaultAt s.ptNow kind

/-! ### What a decision point samples first (R22, R293, R298) -/

/-- The state follows actions 0 and 1. -/
def State.m0Follow (s : State) (a0 a1 : Bool) : State :=
  let m := s.drive.m0
  if m.starting then (if a0 || a1 then s.endStart Status.ABORTED else s)
  else match m.st with
    | .align => if a0 then s.m0To .stopped 1 else if a1 then s.m0To .stopped 2 else s
    | .openRamp => if a0 then s.m0To .coasting 1 else if a1 then s.m0To .braking 2 else s
    | .closedLoop => if a0 then s.m0To .coasting 1 else if a1 then s.m0To .braking 2 else s
    | .braking => if a0 then s.m0To .coasting 1 else s
    | .coasting => if !a0 && a1 then s.m0To .braking 2 else s
    | _ => s

/-- A condition that holds since a PT: kept, begun or ended. -/
def since? (old : Option Time) (on : Bool) (now : Time) : Option Time := if on then some (old.getD now) else none

/-- The condition has held for `d` PT units. -/
def held (t : Option Time) (now : Time) (d : Nat) : Bool :=
  match t with
  | some p => decide (d ≤ (now - p).toNat)
  | none => false

/-- Kinds 8, 5 and 6, which are decided at the decision point: two bad Hall periods, loss of lock for 5 ms, overspeed for
10 ms (R294). -/
def State.m0Faults (s : State) : State :=
  let m := s.drive.m0
  if s.m0Halls && 2 ≤ m.hallRun then s.m0Fault 8
  else if held m.lossPt s.ptNow (ms 5) then s.m0Fault 5
  else if held m.overPt s.ptNow (ms 10) then s.m0Fault 6
  else s

/-- Faults and actions since the last decision point, faults first. Log entry 59 (DEDUCED). -/
def State.m0Sample (s : State) : State :=
  let m := s.drive.m0
  let a0 := m.seen0 || s.m0Off
  let a1 := m.seen1 || s.act 1
  let s := s.setM0 { m with seen0 := false, seen1 := false, dropped := false }
  let s := if m.dropped then s.postMotor 5 (if a0 then 1 else 2) else s
  match m.detected with
  | some (kind, p) => s.m0FaultAt p kind
  | none => s.m0Faults.m0Follow a0 a1

/-! ### Runs (R295, R296, R298) -/

/-- BAD_PARAM for the content of a run. -/
def State.runBad (s : State) (run : M0Run) : Bool :=
  decide (run.setpoint < s.sHandoff) || decide (100 * s.maxFreq < run.setpoint) || run.accel == some 0 ||
    run.decel == some 0

/-- M0 runs in this stage (R48, R297). -/
def State.m0Stage (s : State) : Bool :=
  s.dev.stage = .full || (s.dev.stage = .reduced && s.flag Reg.DRIVE_M0_CFG 29)

/-- The first condition of R295 after BAD_PARAM that turns a run away. -/
def State.runStop (s : State) : Option Nat :=
  if s.flag Reg.BIST_UNUSABLE 3 then some Status.UNUSABLE
  else if !s.m0Enabled || !s.m0Stage || s.sup.vinHold then some Status.NOT_IN_STATE
  else if s.act 0 || s.act 1 then some Status.REFUSED
  else if s.drive.m0.st = .fault then some Status.NOT_IN_STATE
  else none

/-- A run's content replaces the one in use; overrides it does not give stay in force. -/
def State.useRun (s : State) (run : M0Run) : State :=
  let m := s.drive.m0
  let use : M0Run := { run with accel := run.accel.orElse fun _ => m.run.accel
                                decel := run.decel.orElse fun _ => m.run.decel }
  s.setM0 { m with run := use, atPt := none, atDone := false }

/-- A start begins: the gate test (R298). -/
def State.beginRun (s : State) (run : M0Run) (r : Option Req) : State :=
  let s := s.useRun run
  s.setM0 { s.drive.m0 with starting := true, startReq := r }

/-- The transition of MOTOR_STOP in a mode: 0 RAMP, 1 BRAKE, 2 COAST (R293). -/
def State.m0Stop (s : State) (mode : Nat) : State :=
  let m := s.drive.m0
  match m.st with
  | .align => s.m0To .stopped 0
  | .openRamp => s.m0To (if mode = 2 then .coasting else .braking) 0
  | .closedLoop =>
    if mode = 0 then s.setM0 { m with stopping := true }
    else s.m0To (if mode = 2 then .coasting else .braking) 0
  | .braking => if mode = 2 then s.m0To .coasting 0 else s
  | .coasting => if mode = 1 then s.m0To .braking 0 else s
  | _ => s

/-- MOTOR_RUN at its decision point (R295, R298). Log entry 60 (DEDUCED). -/
def State.runTake (s : State) (r : Req) (run : M0Run) : State × Option Reply :=
  match s.runStop with
  | some st => (s, reply st s.m0Res)
  | none =>
    let m := s.drive.m0
    if m.starting then
      let s := s.useRun run
      (s, reply Status.OK s.m0Res)
    else if m.st = .stopped then (s.beginRun run (some r), none)
    else if [.align, .openRamp, .closedLoop].contains m.st && !m.stopping && run.rev = m.run.rev then
      let s := s.useRun run
      (s, reply Status.OK s.m0Res)
    else
      let s := if [.align, .openRamp, .closedLoop].contains m.st && !m.stopping then s.m0Stop 0 else s
      let s := (s.setM0 { s.drive.m0 with queued := some run }).postMotor 3 0
      (s, reply Status.QUEUED s.m0Res)

/-- The queued run is taken as a MOTOR_RUN arriving now (R296). -/
def State.takeQueued (s : State) : State :=
  match s.drive.m0.queued with
  | none => s
  | some run =>
    let s := s.setM0 { s.drive.m0 with queued := none }
    if s.runBad run || s.runStop.isSome then s.postMotor 5 7
    else (s.postMotor 4 7).beginRun run none

/-- What every decision point does before it takes a request: faults and actions, then a queued run where M0 already was in
`STOPPED` (R22, R293, R296). -/
def State.m0Arrive (s : State) : State :=
  let was := s.drive.m0.st
  let s := s.m0Sample
  if was = .stopped && s.drive.m0.st = .stopped && !s.drive.m0.starting && !s.hedge.bootHold then s.takeQueued else s

/-- MOTOR_STOP in `FAULT` (R295, R494). Log entry 60 (DEDUCED). -/
def State.stopInFault (s : State) (clear causePresent : Bool) : State × Option Reply :=
  if !clear then (s, reply Status.NOT_IN_STATE s.m0StopRes)
  else if s.flag Reg.BIST_UNUSABLE 3 || causePresent || decide (s.sStop ≤ s.m0Speed) then
    (s, reply Status.REFUSED s.m0StopRes)
  else
    let s := (s.setFld Reg.DRIVE_M0_FAULT 3 0 0).m0To .stopped 0
    (s, reply Status.OK s.m0StopRes)

/-- MOTOR_STOP at its decision point. -/
def State.stopTake (s : State) (r : Req) (mode : Nat) (clear causePresent : Bool) : State × Option Reply :=
  let m := s.drive.m0
  if m.st = .fault then s.stopInFault clear causePresent
  else
    let s := s.cancelQueued 0
    if m.st = .stopped then
      let s := if m.starting then s.endStart Status.ABORTED else s
      (s, reply Status.OK s.m0StopRes)
    else ((s.setM0 { s.drive.m0 with stops := s.drive.m0.stops ++ [r] }).m0Stop mode, none)

end Sys2Proof.Machine
end

