-- ==== Sys2Proof/Machine/Drive.lean ====
section
/-!
DEFINITION. The commands of the primary drive and the fan channels (11_drive.md, and R322 to R326 of 12_thermal.md).
-/

namespace Sys2Proof.Machine

/-! ### M0 at a decision point (R291, R293, R294, R300) -/

/-- DRIVE.M0_STATUS (R309). -/
def State.m0Status (s : State) : Word :=
  let m := s.drive.m0
  pack [(m.st.code, 0), (b2n (s.act 0), 4), (b2n (s.act 1), 5), (b2n m.run.rev, 8), (b2n m.stopping, 9),
    (b2n m.queued.isSome, 10), (m.kind, 12)]

/-- DRIVE.M0_TARGET: the setpoint in use, 0 while M0 is not driven (R309). Log entry 59 (DEDUCED). -/
def State.m0Target (s : State) : Word :=
  let m := s.drive.m0
  BitVec.ofNat 32 (if [.align, .openRamp, .closedLoop].contains m.st then m.run.setpoint else 0)

/-- The values MOTOR_READ gives, as they are now (R299, R378). -/
def State.m0Words (s : State) : Vector Word 7 :=
  #v[s.m0Status, s.reg Reg.DRIVE_M0_MEAS, s.m0Target, s.reg Reg.DRIVE_M0_IDQ, s.reg Reg.DRIVE_M0_FAULT, s.reg Reg.DRIVE_M0_CNT,
    s.reg Reg.SUP_SUPPLY]

/-- A decision point ends: MOTOR_READ shows its values until the next one (R299). -/
def State.m0Show (s : State) : State := s.setM0 { s.drive.m0 with view := s.m0Words }

/-- One step of the ramped command toward its goal, in units of 1 / (1,000 × F_SPEED) Hz: ACCEL or DECEL per period. -/
def rampStep (cur goal accel decel : Nat) : Nat :=
  if cur < goal then min goal (cur + accel) else max goal (cur - decel)

/-- The command ramps: in `OPEN_RAMP` the vector's frequency to S_H at RAMP_RATE, in `CLOSED_LOOP` the speed command to the
setpoint, or to S_H while STOPPING, at ACCEL or DECEL (R293). -/
def State.m0Ramp (s : State) : State :=
  let m := s.drive.m0
  let k := 10 * s.fSpeed
  let rate := s.fld Reg.DRIVE_M0_OPEN 15 0
  let accel := m.run.accel.getD (s.fld Reg.DRIVE_M0_RAMP 15 0)
  let decel := m.run.decel.getD (s.fld Reg.DRIVE_M0_RAMP 31 16)
  let r := if m.st = .openRamp then rampStep m.ramp (k * s.sHandoff) rate rate
    else rampStep m.ramp (k * (if m.stopping then s.sHandoff else m.run.setpoint)) accel decel
  s.setM0 { m with ramp := r }

/-- The speed loop's output: a free value within +I_MAX and the limit on a current that slows the rotor, REGEN_I. With
REGEN_I = 0 it never brakes (R291). Log entry 8 (DESIGN CHOICE). -/
def State.speedLoop (s : State) : State :=
  let hi : Int := s.fld Reg.DRIVE_M0_ILIM 15 0
  let lo : Int := -(min (s.fld Reg.DRIVE_M0_ILIM 15 0) (s.fld Reg.DRIVE_M0_REGEN 15 0) : Nat)
  s.draw.setM0 { s.drive.m0 with iqRef := max lo (min hi (Config.freeWord s.free).toInt) }

/-- The speed lies within ±0.5 % of the setpoint. -/
def State.m0InBand (s : State) : Bool :=
  let sp := s.drive.m0.run.setpoint
  decide (199 * sp ≤ 200 * s.m0Speed) && decide (200 * s.m0Speed ≤ 201 * sp)

/-- Kind 2: the speed has stayed in that band for 100 ms, once per setpoint. -/
def State.m0AtSpeed (s : State) : State :=
  let m := s.drive.m0
  let t := since? m.atPt (s.m0InBand && !m.stopping) s.ptNow
  let due := held t s.ptNow (ms 100) && !m.atDone
  let s := s.setM0 { m with atPt := t, atDone := m.atDone || due }
  if due then s.postMotor 2 4 else s

/-- Since when the lock is lost, and since when the speed exceeds 110 % of MAX_FREQ (R294 kinds 5 and 6). -/
def State.m0Timers (s : State) (x : M0Meas) : State :=
  let m := s.drive.m0
  let loss := since? m.lossPt (m.st = .closedLoop && decide (45 < x.angleErr.toNat)) s.ptNow
  let ovr := since? m.overPt (m.st.observed && decide (110 * s.maxFreq < s.m0Speed)) s.ptNow
  s.setM0 { m with lossPt := loss, overPt := ovr }

/-- What M0 decides when neither a fault nor an action has moved it. Log entry 59 (DEDUCED). -/
def State.m0Judge (s : State) : State :=
  let m := s.drive.m0
  match m.st with
  | .openRamp => s.m0Ramp
  | .closedLoop =>
    let s := s.m0Ramp.speedLoop
    if m.stopping && s.m0Speed ≤ s.sHandoff then s.m0To .braking 4 else s.m0AtSpeed
  | .braking => if s.m0Speed < s.sStop then s.m0To .stopped 4 else s
  | _ => s

/-- A decision point: the measurements, faults and actions, a queued run found in `STOPPED`, then the state. Log entry 59
(DEDUCED). -/
def State.m0Point (s : State) (x : M0Meas) : State :=
  let s := s.setFld Reg.DRIVE_M0_MEAS 18 0 x.speed.toNat
  let s := s.setReg Reg.DRIVE_M0_IDQ (pack [(x.id.toNat, 0), (x.iq.toNat, 16)])
  let was := s.drive.m0.st
  let s := (s.m0Timers x).m0Arrive
  (if s.drive.m0.st = was then s.m0Judge else s).m0Show

def execM0DecisionPoint (x : M0Meas) (s : State) : Out := .next (if s.m0Runs then s.m0Point x else s)

/-- The timers of R293 end at a decision point: faults and actions come first, then `k` in the state `st`. -/
def State.m0Timer (s : State) (st : M0State) (k : State → State) : State :=
  if s.m0Runs then
    let s := s.m0Sample
    (if s.drive.m0.st = st then k s else s).m0Show
  else s

def execStandstillHoldEnd (s : State) : Out :=
  .next (s.m0Timer .align fun s =>
    if !s.drive.m0.hold then s
    else if s.m0Halls then s.m0To .openRamp 3
    else s.setM0 { s.drive.m0 with hold := false })

def execAlignEnd (s : State) : Out :=
  .next (s.m0Timer .align fun s => if s.drive.m0.hold then s.m0Fault 5 else s.m0To .openRamp 3)

def execObserverLock (s : State) : Out := .next (s.m0Timer .openRamp fun s => s.m0To .closedLoop 6)

def execOpenRampTimeout (s : State) : Out := .next (s.m0Timer .openRamp fun s => s.m0Fault 5)

def execBrakeTimeout (s : State) : Out :=
  .next (s.m0Timer .braking fun s => s.m0To (if s.m0Speed < s.sStop then .stopped else .coasting) 3)

def execCoastStop (s : State) : Out := .next (s.m0Timer .coasting fun s => s.m0To .stopped 4)

def execCoastTimeout (s : State) : Out := .next (s.m0Timer .coasting fun s => s.m0Fault 9)

/-- The pre-start gate test ends (R298): a failure is kind 7 and the class D failure of code 0x12. -/
def State.gateTestEnd (s : State) (pass : Bool) : State :=
  if !s.drive.m0.starting then s
  else if pass then
    let cause := if s.drive.m0.startReq.isSome then 0 else 7
    ((s.inc Reg.DRIVE_M0_CNT 15 0).m0To .align cause).endStart Status.OK
  else ((s.m0Fault 7).setFlag Reg.BIST_UNUSABLE 3 true).classD 0x12 0xFFFF 0

def execGateTestEnd (pass : Bool) (s : State) : Out :=
  .next (s.m0Timer .stopped fun s => s.gateTestEnd pass)

/-! ### PWM periods and hardware faults (R289, R290, R294) -/

/-- M0's bridge conducts. -/
def State.m0Conducts (s : State) : Bool := s.m0Gates ≠ .low

/-- The high side, or the low side, of a phase is commanded on at some time in the period. -/
def State.m0Side (s : State) (phase : Fin 3) (low : Bool) : Bool :=
  match s.m0Gates with
  | .low => false
  | .test => true
  | .shorted => low
  | .pwm => if low then decide (s.drive.m0.duty[phase] < 96000 / s.fld Reg.DRIVE_M0_PWM 6 0) else decide (0 < s.drive.m0.duty[phase])

/-- A hardware fault: recorded at once, the gates go low, and the state follows at the next decision point. -/
def State.m0Detect (s : State) (kind phase side : Nat) : State :=
  let s := s.m0Seen kind phase side
  match s.drive.m0.detected with
  | some _ => s
  | none => s.setM0 { s.drive.m0 with detected := some (kind, s.ptNow) }

/-- Where the fault can arise: kind 1 in a FET that conducts, kind 2 while the bridge does, kind 3 in a state other than
`STOPPED`, kind 4 while the high side is commanded on (R294). Log entry 60 (DEDUCED). -/
def State.m0HwFault (s : State) (f : M0HwFault) : State :=
  if !s.m0Runs || s.drive.m0.st = .fault then s
  else match f with
    | .vdsOc p low => if s.m0Side p low then s.m0Detect 1 p (b2n low) else s
    | .shuntOc p => if s.m0Conducts then s.m0Detect 2 p 1 else s
    | .vgdUv => if s.drive.m0.st ≠ .stopped then s.m0Detect 3 3 0 else s
    | .bstUv p => if s.m0Side p false then s.m0Detect 4 p 0 else s

def execM0HwFault (f : M0HwFault) (s : State) : Out := .next (s.m0HwFault f)

/-- Counts of one PWM period (R290). -/
def State.pwmPeriod (s : State) : Nat := 96000 / s.fld Reg.DRIVE_M0_PWM 6 0

/-- A duty after R290: a high or low pulse shorter than 2 × DT is not applied. -/
def dutyApplied (period dt d : Nat) : Nat := if d < 2 * dt then 0 else if period - d < 2 * dt then period else d

/-- The modulator's clamp: where two phases would keep too short a low-side on-time, the phase with the highest duty goes to
100 % and the other two keep `keep` counts (R289). -/
def clampDuties (period keep : Nat) (d : Vector Nat 3) : Vector Nat 3 :=
  let top := period - keep
  let short (i : Fin 3) : Nat := b2n (decide (top < d[i]))
  if short 0 + short 1 + short 2 < 2 then d
  else
    let hi : Fin 3 := if d[1] ≤ d[0] && d[2] ≤ d[0] then 0 else if d[2] ≤ d[1] then 1 else 2
    Vector.ofFn fun i => if i = hi then period else min d[i] top

/-- The current loop's output for the next period: the three duties are free values within the period (R290, R291), clamped
so that two phases keep a low-side on-time of 1.2 µs beside the dead time and a pulse that is applied (R289, R290); none while
the gates are not modulated. Log entry 8 (DESIGN CHOICE). -/
def State.nextDuties (s : State) : State :=
  let m := s.drive.m0
  if s.m0Gates = .pwm then
    let n := s.pwmPeriod
    let dt := s.fld Reg.DRIVE_M0_PWM 23 16
    let d (k : Nat) : Nat := (Config.freeWord (s.free + k)).toNat % (n + 1)
    ({ s with free := s.free + 3 }).setM0 { m with
      duty := (clampDuties n (max (116 + dt) (2 * dt)) #v[d 0, d 1, d 2]).map (dutyApplied n dt) }
  else s.setM0 { m with duty := Vector.replicate 3 0 }

/-- The phase that is not sampled in a period: the one with the highest duty, so the shortest low-side on-time; the row says
which where several are equal (R289). -/
def unsampled (duty : Vector Nat 3) (tie : Fin 3) : Fin 3 :=
  if duty[0] ≤ duty[tie] && duty[1] ≤ duty[tie] && duty[2] ≤ duty[tie] then tie
  else if duty[1] ≤ duty[0] && duty[2] ≤ duty[0] then 0 else if duty[2] ≤ duty[1] then 1 else 2

/-- The sampled pair and the third current, minus their sum, by phase; `left` is not sampled (R289). -/
def pwmCurrents (left : Fin 3) (a b : Int) : Vector Int 3 :=
  match left with
  | 0 => #v[-(a + b), a, b]
  | 1 => #v[b, -(a + b), a]
  | 2 => #v[a, b, -(a + b)]

/-- Kind 2 of the sampled currents: magnitude above I_TRIP (R294). -/
def State.shuntCheck (s : State) (left : Fin 3) (a b : Int) : State :=
  let trip := s.fld Reg.DRIVE_M0_ILIM 31 16
  let s := if trip < a.natAbs then s.m0HwFault (.shuntOc (left + 1)) else s
  if trip < b.natAbs then s.m0HwFault (.shuntOc (left + 2)) else s

/-- Bad Hall periods in a row, kept at two until the decision point; none in `FAULT` (R294 kind 8). -/
def nextHallRun (m : M0) (bad : Bool) : Nat :=
  if m.st = .fault then 0 else if 2 ≤ m.hallRun then m.hallRun else if bad then m.hallRun + 1 else 0

def State.pwmTick (s : State) (x : M0Pwm) : State :=
  let m := s.drive.m0
  let bad := s.m0Halls && (x.hall = 0 || x.hall = 7 || x.jump)
  let left := unsampled m.duty x.left
  let s := s.setM0 { m with current := pwmCurrents left x.i1.toInt x.i2.toInt, hallRun := nextHallRun m bad }
  (s.shuntCheck left x.i1.toInt x.i2.toInt).nextDuties

def execM0PwmPeriod (x : M0Pwm) (s : State) : Out := .next (if s.m0Runs then s.pwmTick x else s)

/-! ### Requests (R295) -/

/-- A request waits in its queue while BOOT_HOLD is set (R152). -/
def State.driveWaits (s : State) : Bool := s.dev.planLoaded && s.hedge.bootHold

/-- A request to M0 at its decision point: faults, actions and a queued run come first (R22, R293, R296). -/
def State.m0Request (s : State) (r : Req) (op : Nat) (bad : State → Bool) (k : State → State × Option Reply) : State :=
  if s.driveWaits then s.awaitTurn r op
  else
    let runs := s.m0Runs
    let s := if runs then s.m0Arrive else s
    let s := s.command r op (bad s) k
    if runs then s.m0Show else s

def execMotorRun (r : Req) (dir flags : Byte) (setpoint : Word) (accel decel : BitVec 16) (s : State) : Out :=
  let run : M0Run := {
    rev := bit (dir.setWidth 32) 0, setpoint := setpoint.toNat,
    accel := if flags.getLsbD 0 then some accel.toNat else none,
    decel := if flags.getLsbD 1 then some decel.toNat else none }
  .next (s.m0Request r 0x30 (fun s => 1 < dir.toNat || s.runBad run) fun s => s.runTake r run)

/-- Log entry 60 (DEDUCED). -/
def execMotorStop (r : Req) (mode flags : Byte) (causePresent : Bool) (s : State) : Out :=
  .next (s.m0Request r 0x31 (fun _ => 2 < mode.toNat) fun s => s.stopTake r mode.toNat (flags.getLsbD 0) causePresent)

/-- DRIVE.CNT_CLR (R309). -/
def State.driveCntClr (s : State) (v : Word) : State :=
  s.clearBy v [(0, Reg.DRIVE_M0_CNT, 15, 0), (1, Reg.DRIVE_M0_CNT, 31, 16)]

/-! ### Fan channels (R304 to R306, R322 to R326) -/

/-- The measurements of a fan event; LIMIT shows a phase current amplitude at I_LIM (R302). Log entry 61 (DEDUCED). -/
def State.fanMeas (s : State) (n : Fin 3) (x : FanMeas) : State :=
  let s := s.setFld (Reg.DRIVE_FAN_MEAS n) 15 0 x.obs.toNat
  let s := s.setReg (Reg.DRIVE_FAN_SUPPLY n) (pack [(x.ma.toNat, 0), (x.vfan.toNat, 16)])
  let driven := [FanState.starting, .running].contains (s.drive.fan[n]).st
  let lim := driven && decide (10 * s.fld (Reg.DRIVE_FAN_START n) 23 16 ≤ x.ma.toNat)
  (s.setFlag (Reg.DRIVE_FAN_STATUS n) 16 lim).setFlag (Reg.DRIVE_FAN_STATUS n) 20 (decide (x.vfan.toNat < 4500))

/-- VFAN below 4.5 V: a driven channel coasts, without a start failure or fault, and a sequence is cancelled (R304,
R324 (c)). -/
def State.vfanLow (s : State) (n : Fin 3) : State :=
  let s := s.setFlag (Reg.DRIVE_FAN_STATUS n) 20 true
  let s := if [.starting, .running].contains (s.drive.fan[n]).st then s.fanTo n .coasting else s
  s.fanSeqEnd n 10

/-- LOCK of FAN_STATUS. -/
def State.fanLock (s : State) (n : Fin 3) : Bool := s.flag (Reg.DRIVE_FAN_STATUS n) 18

/-- The channel's bridge may switch: enabled by the Plan, awake, out of the boot hold, in a service stage.
Log entry 10 (DESIGN CHOICE). -/
def State.fanRuns (s : State) (n : Fin 3) : Bool :=
  s.dev.planLoaded && s.fanOn n && !s.asleep && !s.dev.inReset

/-- The conditions of R304 for a start. -/
def State.fanMayStart (s : State) (n : Fin 3) : Bool :=
  s.fanRuns n && !s.hedge.bootHold && s.dev.stage ≠ .boot && s.fanWanted n && !s.flag (Reg.DRIVE_FAN_STATUS n) 20 &&
    !s.fanHeld n && !s.fanLatched n

/-- An event of an enabled channel: its measurements, a VFAN that is too low, then its meaning. -/
def State.fanEvent (s : State) (n : Fin 3) (x : FanMeas) (k : State → State) : State :=
  if s.fanRuns n then
    let s := s.fanMeas n x
    k (if s.flag (Reg.DRIVE_FAN_STATUS n) 20 then s.vfanLow n else s)
  else s

/-- The first attempt starts only outside a sequence; a coasting fan that is still locked runs on. -/
def State.fanStart (s : State) (n : Fin 3) : State :=
  let f := s.drive.fan[n]
  if !s.fanMayStart n then s
  else if f.st = .stopped && f.seq = .none then (s.setFlag (Reg.DRIVE_FAN_STATUS n) 18 false).fanTo n .starting
  else if f.st = .coasting && s.fanLock n && s.aboveHandoff n then s.fanTo n .running
  else s

/-- Log entry 61 (DEDUCED). -/
def execFanStart (n : Fin 3) (x : FanMeas) (s : State) : Out := .next (s.fanEvent n x fun s => s.fanStart n)

/-- A lock ends a sequence (kind 9); a fan that is no longer on coasts. -/
def State.fanLocked (s : State) (n : Fin 3) : State :=
  if (s.drive.fan[n]).st = .starting then
    (((s.setFlag (Reg.DRIVE_FAN_STATUS n) 18 true).fanTo n .running).fanSeqEnd n 9).fanFollow n
  else s

def execFanLock (n : Fin 3) (x : FanMeas) (s : State) : Out := .next (s.fanEvent n x fun s => s.fanLocked n)

/-- Node 85 + n: a latched fan fault, or a channel that self-test has marked unusable (R325, R494). -/
def State.fanNode (s : State) (n : Fin 3) : State := s.setNode (85 + n) (s.fanLatched n)

/-- The last attempt of a sequence has failed: FAN_BLOCKED or FAN_STALL latches (R322, R323). -/
def State.fanGiveUp (s : State) (n : Fin 3) (b kind : Nat) : State :=
  (((s.setFlag (Reg.THERM_FAN_FSTATUS n) b true).fanNode n).postFan n kind).fanSeqEnd n 0

/-- A failed attempt: outside a sequence it is attempt 1 of a start sequence. Log entry 61 (DEDUCED). -/
def State.fanFail (s : State) (n : Fin 3) : State :=
  let f := s.drive.fan[n]
  let s := if f.seq = .none then s.setFan n { f with seq := .start, attempt := 1 } else s
  let s := (s.fanTo n .stopped).inc (Reg.THERM_FAN_FCNT n) 15 0
  let s := s.postFan n 1
  let f := s.drive.fan[n]
  let s := if f.seq = .start && 4 ≤ f.attempt then s.fanGiveUp n 0 2
    else if f.seq = .stall && 3 ≤ f.attempt then s.fanGiveUp n 1 8
    else s
  s.fanFollow n

def execFanStartTimeout (n : Fin 3) (x : FanMeas) (s : State) : Out :=
  .next (s.fanEvent n x fun s => if (s.drive.fan[n]).st = .starting then s.fanFail n else s)

/-- Loss of rotation begins a stall sequence (R323). -/
def State.fanLost (s : State) (n : Fin 3) : State :=
  let run := decide ((s.drive.fan[n]).st = .running)
  let s := s.setFlag (Reg.DRIVE_FAN_STATUS n) 18 false
  if run then
    let s := (s.fanTo n .coasting).inc (Reg.THERM_FAN_FCNT n) 31 16
    (s.setFan n { s.drive.fan[n] with seq := .stall, attempt := 0 }).postFan n 7
  else s

def execFanLockLost (n : Fin 3) (x : FanMeas) (s : State) : Out := .next (s.fanEvent n x fun s => s.fanLost n)

def execVfanUndervoltage (n : Fin 3) (x : FanMeas) (s : State) : Out := .next (s.fanEvent n x fun s => s.vfanLow n)

/-- A bridge trip (R305, R324, R325); BRIDGE_FAULT stands in both blocks' status registers. -/
def State.bridgeTrip (s : State) (n : Fin 3) (overTemp : Bool) : State :=
  let new := !s.flag (Reg.THERM_FAN_FSTATUS n) 2
  let s := (s.fanTo n .fault).fanSeqEnd n 0
  if new then
    let s := (s.setFlag (Reg.THERM_FAN_FSTATUS n) 2 true).setFlag (Reg.DRIVE_FAN_STATUS n) 19 true
    ((s.setFld (Reg.DRIVE_FAN_STATUS n) 22 21 (1 + b2n overTemp)).fanNode n).postFan n 11
  else s

def execBridgeTrip (n : Fin 3) (overTemp : Bool) (x : FanMeas) (s : State) : Out :=
  .next (s.fanEvent n x fun s => s.bridgeTrip n overTemp)

/-- The next attempt of a sequence begins in `STOPPED` (R322, R323). -/
def State.fanAttempt (s : State) (n : Fin 3) : State :=
  let f := s.drive.fan[n]
  if s.fanMayStart n && f.st = .stopped && f.seq ≠ .none then
    (s.setFan n { f with attempt := f.attempt + 1 }).fanTo n .starting
  else s

/-- An attempt comes due; one that finds the channel coasting begins when it has reached `STOPPED` (R323). -/
def State.fanRetry (s : State) (n : Fin 3) : State :=
  let f := s.drive.fan[n]
  if f.st = .coasting && f.seq ≠ .none then s.setFan n { f with retryDue := true } else s.fanAttempt n

/-- Coasting ends, and an attempt that came due in it begins (R304, R323). -/
def State.fanCoastEnd (s : State) (n : Fin 3) : State :=
  let f := s.drive.fan[n]
  if f.st = .coasting then
    let s := (s.setFlag (Reg.DRIVE_FAN_STATUS n) 18 false).fanTo n .stopped
    if f.retryDue then s.fanAttempt n else s
  else s

def execFanCoastEnd (n : Fin 3) (x : FanMeas) (s : State) : Out := .next (s.fanEvent n x fun s => s.fanCoastEnd n)

def execFanRetryAttempt (n : Fin 3) (x : FanMeas) (s : State) : Out := .next (s.fanEvent n x fun s => s.fanRetry n)

/-- The measured speed in 0.1 Hz times 6: the TACH's while it is in use and not lost, else the observer's (R326). -/
def State.measured6 (s : State) (n : Fin 3) : Nat :=
  if s.fanTach n && !s.flag (Reg.THERM_FAN_FSTATUS n) 4 then s.fld (Reg.DRIVE_FAN_MEAS n) 31 16 * s.fanPoles n
  else 6 * s.obsSpeed n

/-- FAN_SLOW: the measured speed has lain below MIN_PCT of the ramped command for SLOW_T, or at or above it (R326).
Log entry 61 (DEDUCED). -/
def State.fanSlow (s : State) (n : Fin 3) (cmd : Nat) : State :=
  let slow := decide (100 * s.measured6 n < 6 * (s.fld (Reg.THERM_FAN_FCFG n) 6 0 * cmd))
  if (s.drive.fan[n]).st ≠ .running then s
  else if slow && !s.flag (Reg.THERM_FAN_FSTATUS n) 3 then (s.setFlag (Reg.THERM_FAN_FSTATUS n) 3 true).postFan n 3
  else if slow then s
  else s.fanWarnClear n 3

def execFanSlowTimer (n : Fin 3) (cmd : BitVec 16) (x : FanMeas) (s : State) : Out :=
  .next (s.fanEvent n x fun s => s.fanSlow n cmd.toNat)

/-- TACH_LOST (R326). -/
def State.tachLost (s : State) (n : Fin 3) : State :=
  if s.fanTach n && (s.drive.fan[n]).st = .running && s.fanLock n && !s.flag (Reg.THERM_FAN_FSTATUS n) 4 then
    let s := s.setFan n { s.drive.fan[n] with tachGood := 0 }
    (s.setFlag (Reg.THERM_FAN_FSTATUS n) 4 true).postFan n 5
  else s

def execTachLostTimer (n : Fin 3) (x : FanMeas) (s : State) : Out := .next (s.fanEvent n x fun s => s.tachLost n)

/-- An interval of `iv` PT units lies within ±25 % of POLES / (f_obs × TACH_PPR) (R326). -/
def State.tachGoodIv (s : State) (n : Fin 3) (iv : Nat) : Bool :=
  let a := 4 * (iv * s.obsSpeed n * s.fanPpr n)
  let e := s.fanPoles n * 960000000
  decide (3 * e ≤ a) && decide (a ≤ 5 * e)

/-- A TACH edge: the speed from the interval since the one before, and the count of good intervals.
Log entry 61 (DEDUCED). -/
def State.tachEdge (s : State) (n : Fin 3) : State :=
  let f := s.drive.fan[n]
  match f.tachPt with
  | none => s.setFan n { f with tachPt := some s.ptNow }
  | some p =>
    let iv := (s.ptNow - p).toNat
    let good := if s.tachGoodIv n iv then f.tachGood + 1 else 0
    let s := s.setFan n { f with tachPt := some s.ptNow, tachGood := good }
    let s := s.setFld (Reg.DRIVE_FAN_MEAS n) 31 16 (satN 16 (60 * 96000000 / (iv * s.fanPpr n)))
    if 8 ≤ good then s.fanWarnClear n 4 else s

def execTachEdge (n : Fin 3) (x : FanMeas) (s : State) : Out :=
  .next (s.fanEvent n x fun s => if s.fanTach n then s.tachEdge n else s)

/-- Entry to Sleep or Deep sleep: every bridge off, sequences cancelled, overrides ended (R306, R321, R324 (d)). -/
def State.fansSleep (s : State) : State :=
  (List.finRange 3).foldl (fun s (n : Fin 3) =>
    let s := s.fanSeqEnd n 10
    let s := if (s.drive.fan[n]).st = .fault then s else s.fanTo n .stopped
    let s := s.setFlag (Reg.DRIVE_FAN_STATUS n) 18 false
    s.setFan n { s.drive.fan[n] with ovr := none, tachPt := none, tachGood := 0 }) s

/-- M0 answers a quiesce request with ACK (R297). -/
def State.m0Quiet (s : State) : Bool :=
  [M0State.stopped, M0State.fault].contains s.drive.m0.st && !s.drive.m0.starting

/-- A fan channel answers a quiesce request with ACK (R306). -/
def State.fanQuiet (s : State) (n : Fin 3) : Bool :=
  !s.fanRuns n || ([FanState.stopped, FanState.fault].contains (s.drive.fan[n]).st && !s.fanWanted n)

end Sys2Proof.Machine
end

