-- ==== Sys2Proof/Machine/Hedge.lean ====
section
/-!
DEFINITION. The commands of the Hedge: both evaluation paths, release arms, heartbeat, soft nodes, SAFE_STOP outputs and
the safety sensor port (06_hedge.md).
-/

namespace Sys2Proof.Machine

/-! ### SAFE_STOP readback (R161) -/

/-- Node 80 + n follows the mismatch and the pulse failure of its pin. -/
def State.sstopNode (s : State) (n : Fin 4) : State :=
  s.setNode (80 + n) (s.flag Reg.HEDGE_SSTOP_STATUS (8 + n) || s.flag Reg.HEDGE_SSTOP_STATUS (12 + n))

/-- One pin at one hardware evaluation: its command, the pulse of R162 on a released pin among it, is renewed, and its
level read back; the readings of the two evaluations (20 µs) after a change are ignored, and the third consecutive mismatch
raises the node (R161). Log entry 76 (DEDUCED). -/
def State.sstopEval (s : State) (n : Fin 4) (high : Bool) : State :=
  let p := s.hedge.sstop[n]
  let low := s.sstopLow n
  let q : SStop := if low = p.low then { p with settled := p.settled + 1 } else { p with low := low, settled := 0, run := 0 }
  let q : SStop := { q with window := s.inPulse n, pulsing := s.sstopPulse n }
  let bad := s.hedge.armed && decide (2 < q.settled) && (high == low)
  let q : SStop := { q with run := if bad then q.run + 1 else 0 }
  let s : State := { s with hedge.sstop := s.hedge.sstop.set n q }
  let s := s.setFlag Reg.HEDGE_SSTOP_STATUS (4 + n) high
  if q.run = 3 && !s.flag Reg.HEDGE_SSTOP_STATUS (8 + n) then
    ((s.setFlag Reg.HEDGE_SSTOP_STATUS (8 + n) true).inc Reg.HEDGE_SSTOP_STATUS 31 16).sstopNode n
  else s

/-! ### The hardware path (R147 (a)) -/

/-- LOCAL_NODE of a current arm in one 10 µs sample (R156 (b)); a true condition ends the arm (R156 (c)). -/
def armSample (r : HRule) (cond : Bool) (nodes : BitVec 128) (a : HArm) : Option HArm :=
  if cond then none
  else
    let l := nodes.getLsbD r.localNode
    some { a with pressed := a.pressed || l, seen := a.seen || (a.pressed && !l) }

/-- Arms after one hardware sample. -/
def State.armsSample (s : State) (nodes : BitVec 128) (cond : BitVec 32) : State :=
  { s with hedge.run := Vector.ofFn fun n =>
      { s.hedge.run[n] with arm := match s.hedge.run[n].arm with
        | some a => armSample s.hedge.rule[n] (cond.getLsbD n) nodes a
        | none => none } }

/-- One bit of a rule vector cleared. -/
def clearRuleBit (v : BitVec 32) (n : Fin 32) : BitVec 32 := v &&& ~~~(BitVec.ofNat 32 (2 ^ n.val))

/-- The registers and records of a release once both latches are clear: causes and arm go, the actions only the rule held drop, and
HEDGE_CLEAR and the journal report it (R156 (b), R157, R169). -/
def State.unlatch (s : State) (n : Fin 32) : State :=
  let s := s.persistRec n 2
  let h := s.hedge
  let h : Hedge := { h with
    latchHw := clearRuleBit h.latchHw n
    latchSd := clearRuleBit h.latchSd n
    last := { h.last with latch := clearRuleBit h.last.latch n }
    snap := h.snap.map fun x => { x with latch := clearRuleBit x.latch n }
    run := h.run.set n { h.run[n] with causeA := 0, causeI := 0, arm := none } }
  let h : Hedge := { h with
    actHw := h.ruleActs (h.assertsOf h.condHw h.latchHw) ||| builtinsActs h.biHw
    actSd := h.ruleActs (h.assertsOf h.condSd h.latchSd) ||| builtinsActs h.biSd }
  let h : Hedge := { h with
    last := { h.last with act := h.ruleActs (h.assertsOf h.last.cond h.last.latch) ||| builtinsActs h.biHw }
    snap := h.snap.map fun x => { x with
      act := h.ruleActs (h.assertsOf x.cond x.latch) ||| builtinsActs (builtinsOn x.nodes 0) } }
  State.reportRules { s with hedge := h } h.nodes true 0 s.ptNow

/-- The arm of a rule replaced. -/
def State.setArm (s : State) (n : Fin 32) (a : Option HArm) : State :=
  { s with hedge.run := s.hedge.run.set n { s.hedge.run[n] with arm := a } }

/-- The actions still asserted, as a release's result gives them (R156 (d)). -/
def State.heldActs (s : State) : List Byte := leBytes 3 s.acting.toNat

/-- A release that waits for the hardware engine: the evaluation clears the hardware latch only where the engine's own condition and
every cause are false; the Sheepdog latch follows at once and the command completes. Else both latches stay set, the arm is
cancelled, and it completes REFUSED (R156 (b)). Log entry 22 (DEDUCED). -/
def State.hwRelease (s : State) : State :=
  match s.hedge.release with
  | none => s
  | some (r, n) =>
    let s : State := { s with hedge.release := none }
    if s.hedge.condHw.getLsbD n || s.hedge.activeCauses n s.hedge.nodes ≠ 0 then
      let s := s.setArm n none
      s.complete r { status := Status.REFUSED, result := s.heldActs }
    else
      let s := s.unlatch n
      s.complete r { status := Status.OK, result := s.heldActs }

/-- One evaluation of the hardware engine. Response 0x84 is not its own: the Sheepdog pair decides it (R148).
Log entry 21 (DEDUCED). -/
def State.hwEval (s : State) (err : HedgeErr) : State :=
  let nodes := s.hedge.nodes
  let cond := ruleBits (fun n => s.hedge.rule[n].cond nodes) ^^^ err.cond
  let latch := (s.hedge.latchHw ||| (cond &&& s.hedge.latching)) ^^^ err.latch
  let s := s.addCauses nodes cond
  let s := s.armsSample nodes cond
  let bi := builtinsOn nodes 0
  let act := (s.hedge.ruleActs (s.hedge.assertsOf cond latch) ||| builtinsActs bi) ^^^ err.act
  let fresh := latch &&& ~~~(s.hedge.latchHw ||| s.hedge.latchSd)
  let s : State := { s with hedge.condHw := cond, hedge.latchHw := latch, hedge.actHw := act, hedge.biHw := bi }
  let s : State := { s with hedge.last := { nodes := nodes, cond := cond, latch := latch, act := act, pt := s.ptNow } }
  ((s.reportRules nodes false fresh s.ptNow).reportBuiltins s.ptNow).hwRelease

/-- The engine evaluates while the Hedge is armed and awake: not from the commit of a sleep to its restart edge (R152, R153).
Log entry 10 (DESIGN CHOICE). -/
def State.hedgeRuns (s : State) : Bool := s.hedge.armed && !s.asleep && !s.inSleep && !s.inDeepSleep

def execHedgeHwEval (readback : BitVec 4) (err : HedgeErr) (s : State) : Out :=
  .next (if s.asleep || s.inSleep || s.inDeepSleep then s
    else
      let s := if s.hedge.armed then s.hwEval err else s
      let s := (List.finRange 4).foldl (fun s (n : Fin 4) => s.sstopEval n (readback.getLsbD n)) s
      s.applyActions.cutAlarm)

/-! ### The Sheepdog path (R147 (b) to (d), R148, R152, R153, R158) -/

/-- Node 66 at a Sheepdog evaluation: supervision is armed and more than PERIOD has passed (R158). -/
def State.heartbeatCheck (s : State) : State :=
  let period := s.fld Reg.HEDGE_HB_CFG 9 0
  if period ≠ 0 && s.flag Reg.HEDGE_HB_STATUS 16 && !s.node 66 && ms period < s.since s.hedge.hbPt then
    (s.setNode 66 true).inc Reg.HEDGE_HB_MISS 15 0
  else s

/-- Compares the two paths' vectors for the same sample; a difference in two consecutive evaluations raises node 89, a
class S failure of code 0x11 (R148). Log entry 21 (DEDUCED). -/
def State.comparePaths (s : State) (snap : HSnap) (actRules : BitVec 21) : State :=
  let differ := decide (snap.cond ≠ s.hedge.condSd) || decide (snap.latch ≠ s.hedge.latchSd) ||
    decide (snap.act ≠ actRules)
  let twice := differ && s.hedge.differed
  let s : State := { s with hedge.differed := differ }
  let s := if differ then s.inc Reg.HEDGE_DIVERGE_CNT 15 0 else s
  if twice && !s.node 89 then
    ((s.setNode 89 true).setFlag Reg.HEDGE_STATUS 5 true).classS 0x11 0xFFFF 0
  else s

/-- One evaluation of the Sheepdog pair on the frame's sample, whose PT its records carry (R24); it adopts a hardware latch before
the vectors are compared (R147 (c)). Log entry 21 (DEDUCED). -/
def State.sdEval (s : State) : State :=
  let snap := s.hedge.snap.getD s.hedge.last
  let nodes := snap.nodes
  let cond := ruleBits fun n => s.hedge.rule[n].cond nodes
  let latch := s.hedge.latchSd ||| (cond &&& s.hedge.latching) ||| snap.latch
  let s := s.addCauses nodes cond
  let asserts := s.hedge.assertsOf cond latch
  let bi := builtinsOn nodes s.hedge.overrun
  let act := s.hedge.ruleActs asserts ||| builtinsActs bi
  let fresh := latch &&& ~~~(s.hedge.latchHw ||| s.hedge.latchSd)
  let cmp := s.hedge.ruleActs asserts ||| builtinsActs (builtinsOn nodes 0)
  let s : State := { s with hedge.condSd := cond, hedge.latchSd := latch, hedge.actSd := act, hedge.biSd := bi }
  let s : State := { s with hedge.sdNodes := nodes, hedge.snap := none, hedge.bootHold := false, hedge.sleepHold := false }
  let s := (s.reportRules nodes true fresh snap.pt).reportBuiltins snap.pt
  (s.comparePaths snap cmp).heartbeatCheck

def execHedgeSdEval (s : State) : Out := .next (if s.hedgeRuns then s.sdEval.applyActions.cutAlarm else s)

/-- The bound of R19 has passed for a group whose orderly-off action is asserted, and some rail of the group is neither `OFF` nor
`FAULTED`: response 0x84 asserts action 17, and holds it while this is so (R146). -/
def execOrderlyOffOverrun (group : Fin 8) (s : State) : Out :=
  .next (if s.hedgeRuns && s.act (9 + group) && !s.groupDown group then
      ({ s with hedge.overrun := s.hedge.overrun ||| BitVec.ofNat 8 (2 ^ group.val) }).builtins.applyActions
    else s)

/-! ### DOCK (R143) -/

/-- The 10 ms are timed on platform time, which does not run in Sleep, and DOCK is sampled with DOCK_EN set (R143). -/
def execDockAccept (level : Bool) (s : State) : Out :=
  .next (if s.asleep || !s.flag Reg.HEDGE_CTRL 0 then s
    else
      let s : State := { s with hedge.dockLevel := level }
      s.setNode 88 (level != s.flag Reg.HEDGE_CTRL 1))

/-- A write to HEDGE.CTRL: node 88 reads 0 while DOCK_EN is clear (R143). -/
def State.dockWritten (s : State) : State := if s.flag Reg.HEDGE_CTRL 0 then s else s.setNode 88 false

/-! ### Release (R156) -/

/-- The arm ends (R156 (c)); in a sleep no time passes on platform time, and arms are retained (R153). -/
def execArmExpiry (rule : Fin 32) (s : State) : Out := .next (if s.hedgeRuns then s.setArm rule none else s)

/-- A rule number of a parameter byte. -/
def ruleOf (b : Byte) : Option (Fin 32) := if h : b.toNat < 32 then some ⟨b.toNat, h⟩ else none

/-- The rule is latched on either path. -/
def Hedge.isLatched (h : Hedge) (n : Fin 32) : Bool := (h.latchHw ||| h.latchSd).getLsbD n

/-- HEDGE_ARM_RELEASE as the Sheepdog pair judges it (R156 (a)); the token is a free non-zero value. Log entry 8 (DESIGN CHOICE). -/
def State.armRelease (s : State) (n : Fin 32) : State × Option Reply :=
  let h := s.hedge
  let rule := h.rule[n]
  let causes := h.activeCauses n h.sdNodes
  if !h.isLatched n then (s, reply Status.NOT_IN_STATE [0, 0, 0xFF])
  else if rule.policy = 2 then (s, reply Status.LOCKED [0, 0, 0xFF])
  else if h.condSd.getLsbD n || causes ≠ 0 then
    let first := if causes = 0 then rule.trueA h.sdNodes ||| rule.trueI h.sdNodes else causes
    (s, reply Status.REFUSED [0, 0, BitVec.ofNat 8 (lowest128 first)])
  else
    let token := BitVec.ofNat 16 (s.freeVal % 65535 + 1)
    (s.draw.setArm n (some { token := token, pt := s.time.pt, pressed := false, seen := false }),
      reply Status.OK (leBytes 2 token.toNat ++ [0xFF]))

def execHedgeArmRelease (r : Req) (rule : Byte) (s : State) : Out :=
  .next (if s.hedge.release.isSome then s.awaitTurn r 0x40
    else match ruleOf rule with
    | some n => s.command r 0x40 (!s.hedge.rule[n].enable) fun s => s.armRelease n
    | none => s.command r 0x40 true fun s => (s, none))

/-- HEDGE_RELEASE as the Sheepdog pair judges it: where nothing stands against the release it commands the hardware latch to clear
and waits for the engine's next evaluation (R156 (b), (d)). Log entry 22 (DEDUCED). -/
def State.releaseRule (s : State) (r : Req) (n : Fin 32) (token : BitVec 16) : State × Option Reply :=
  let h := s.hedge
  let rule := h.rule[n]
  match h.run[n].arm with
  | none => (s, reply Status.NOT_IN_STATE)
  | some a =>
    if a.token ≠ token then
      let s := s.setArm n none
      (s, reply Status.REFUSED s.heldActs)
    else if rule.policy = 1 && !a.seen then (s, reply Status.REFUSED s.heldActs)
    else if h.condSd.getLsbD n || h.activeCauses n h.sdNodes ≠ 0 || h.condHw.getLsbD n || h.activeCauses n h.last.nodes ≠ 0 then
      let s := s.setArm n none
      (s, reply Status.REFUSED s.heldActs)
    else ({ s with hedge.release := some (r, n) }, none)

/-- While a release waits for the hardware engine the pair takes no further one. Log entry 22 (DEDUCED). -/
def execHedgeRelease (r : Req) (rule : Byte) (token : BitVec 16) (s : State) : Out :=
  .next (if s.hedge.release.isSome then s.awaitTurn r 0x41
    else match ruleOf rule with
    | some n => s.command r 0x41 false fun s => s.releaseRule r n token
    | none => s.command r 0x41 true fun s => (s, none))

/-! ### Heartbeat and soft nodes (R158, R159) -/

/-- Supervision is disarmed or node 66 is active, or COUNT follows the last accepted one. -/
def State.hbAccepts (s : State) (count : BitVec 16) : Bool :=
  !s.flag Reg.HEDGE_HB_STATUS 16 || s.node 66 ||
    decide (count = BitVec.ofNat 16 (s.fld Reg.HEDGE_HB_STATUS 15 0 + 1))

/-- An accepted HEARTBEAT arms supervision and clears node 66. -/
def State.hbAccept (s : State) (count : BitVec 16) : State :=
  let s := s.setReg Reg.HEDGE_HB_STATUS (pack [(count.toNat, 0), (1, 16)])
  ({ s with hedge.hbPt := s.time.pt }).setNode 66 false

def execHeartbeat (r : Req) (count : BitVec 16) (s : State) : Out :=
  .next (s.command r 0x05 (!s.hbAccepts count) fun s =>
    (s.hbAccept count, reply Status.OK (leBytes 2 count.toNat)))

/-- The soft nodes 96–111 (R159). -/
def State.soft (s : State) : BitVec 16 := (s.hedge.nodes >>> 96).setWidth 16

/-- Soft nodes replaced. -/
def State.setSoft (s : State) (v : BitVec 16) : State :=
  (List.range 16).foldl (fun s k => s.setNode (96 + k) (v.getLsbD k)) s

def execSoftNodeSet (r : Req) (mask values : BitVec 16) (s : State) : Out :=
  .next (s.command r 0x43 false fun s =>
    let s := s.setSoft ((s.soft &&& ~~~mask) ||| (values &&& mask))
    (s, reply Status.OK (leBytes 2 s.soft.toNat)))

/-! ### SAFE_STOP clears and pulses (R161, R162) -/

def execSstopMismatchClear (n : Fin 4) (s : State) : Out :=
  .next (if s.flag Reg.HEDGE_SSTOP_STATUS (8 + n) then
      (({ s with hedge.sstop := s.hedge.sstop.set n { s.hedge.sstop[n] with run := 0 } }).setFlag
        Reg.HEDGE_SSTOP_STATUS (8 + n) false).sstopNode n
    else s)

/-- A pulse runs on a released pin with PULSE_EN set, awake; it is not judged when an action takes the pin over. -/
def execSafeStopPulseTest (n : Fin 4) (readsLow taken : Bool) (s : State) : Out :=
  .next (if s.flag Reg.HEDGE_SSTOP_CFG n && !s.sstopAsserted n && !s.asleep && !s.inSleep && !s.inDeepSleep && !taken then
      (s.setFlag Reg.HEDGE_SSTOP_STATUS (12 + n) (!readsLow)).sstopNode n
    else s)

/-! ### The safety sensor port (R163 to R165) -/

/-- The port is enabled and polls (it stops in Sleep). -/
def State.ssOn (s : State) : Bool := s.flag Reg.HEDGE_SS_CTRL 0 && s.hedge.armed && !s.asleep

/-- Sets SENSOR_FAULT and its node. -/
def State.sensorFault (s : State) (b : Bool) : State := (s.setFlag Reg.HEDGE_SS_STATUS 0 b).setNode 65 b

/-- One axis of the RX bytes (R163). -/
def State.ssAxis (s : State) (rx : List Byte) (off : Nat) : Int :=
  let lo := (rx.getD off 0).toNat
  let hi := (rx.getD (off + 1) 0).toNat
  let w := if s.flag Reg.HEDGE_SS_AXIS 12 then lo * 256 + hi else hi * 256 + lo
  (sint 16 w) / (2 ^ (16 - s.fld Reg.HEDGE_SS_AXIS 20 16) : Nat)

/-- The three axes of a poll. -/
def State.ssAxes (s : State) (rx : List Byte) : Int × Int × Int :=
  (s.ssAxis rx (s.fld Reg.HEDGE_SS_AXIS 3 0), s.ssAxis rx (s.fld Reg.HEDGE_SS_AXIS 7 4),
    s.ssAxis rx (s.fld Reg.HEDGE_SS_AXIS 11 8))

/-- The bytes that a poll transaction sends: TX_LEN bytes of SS_TX, then 0x00 while RX_LEN bytes are clocked in (R163). -/
def State.ssPollTx (s : State) : List Byte :=
  (image (s.reg Reg.HEDGE_SS_TX_LO) ++ image (s.reg Reg.HEDGE_SS_TX_HI)).take (s.fld Reg.HEDGE_SS_CTRL 19 17 + 1) ++
    List.replicate (s.fld Reg.HEDGE_SS_CTRL 23 20 + 1) 0

/-- The bytes that an identity transaction sends: ID_TX_LEN bytes of SS_ID_TX, then 0x00 for the byte clocked in (R163). -/
def State.ssIdTx (s : State) : List Byte := (image (s.reg Reg.HEDGE_SS_ID_TX)).take (s.fld Reg.HEDGE_SS_CTRL 16 15 + 1) ++ [0]

/-- Half a period of SS_SCK in PT units: SCK = 96 MHz / (2 × (DIV + 1)) (R163). -/
def State.ssHalfPeriod (s : State) : Nat := s.fld Reg.HEDGE_SS_CTRL 14 9 + 1

/-- SENSOR_FAULT clears after 100 consecutive polls free of (a) and (c), provided an identity check has passed since the last failure
(R164). -/
def State.ssClear (s : State) : State :=
  if 100 ≤ s.hedge.sensor.cleanRun && s.hedge.sensor.idPassed then s.sensorFault false else s

/-- A poll: its RX bytes wait for the Sheepdog task; conditions (a) and (c) of R164 are judged, and an identity check is due after each
100th poll (R163). READ_FAILS counts a run of blank polls once, at its third. Log entry 86 (DESIGN CHOICE). -/
def State.ssPoll (s : State) (rx : List Byte) : State :=
  let p := s.hedge.sensor
  let n := s.fld Reg.HEDGE_SS_CTRL 23 20 + 1
  let used := rx.take n
  let blank := (used.all fun b => b = 0) || (used.all fun b => b = 0xFF)
  let ax := s.ssAxes rx
  let blankRun := if blank then p.blankRun + 1 else 0
  let sameRun := if p.prev = some ax then p.sameRun + 1 else 1
  let failA := decide (3 ≤ blankRun)
  let failC := decide (50 ≤ sameRun)
  let p : Sensor := { p with rx := rx, fresh := true, polls := p.polls + 1, idDue := p.idDue || decide (100 ≤ p.polls + 1),
                             blankRun := blankRun, sameRun := sameRun, prev := some ax,
                             cleanRun := if failA || failC then 0 else p.cleanRun + 1,
                             idPassed := p.idPassed && !failA && !failC }
  let s : State := { s with hedge.sensor := p }
  let s := (s.setFlag Reg.HEDGE_SS_STATUS 1 failA).setFlag Reg.HEDGE_SS_STATUS 3 failC
  let s := if blankRun = 3 then s.inc Reg.HEDGE_SS_ERR_CNT 15 0 else s
  if failA || failC then s.sensorFault true else s.ssClear

def execSsPoll (rx : Vector Byte 16) (s : State) : Out := .next (if s.ssOn then s.ssPoll rx.toList else s)

/-- The identity byte, ANDed with MASK, against EXPECT (R164 (b)). -/
def State.ssIdentity (s : State) (id : Byte) : State :=
  let pass := decide ((id.toNat &&& s.fld Reg.HEDGE_SS_ID 23 16) = s.fld Reg.HEDGE_SS_ID 15 8)
  let s : State := { s with hedge.sensor.polls := 0, hedge.sensor.idDue := false, hedge.sensor.idPassed := pass }
  let s := s.setFlag Reg.HEDGE_SS_STATUS 2 (!pass)
  if pass then s.ssClear else
    (({ s with hedge.sensor.cleanRun := 0 }).inc Reg.HEDGE_SS_ERR_CNT 31 16).sensorFault true

/-- The identity transaction runs at arm and after every 100th poll (R163). -/
def execSsIdentityCheck (id : Byte) (s : State) : Out :=
  .next (if s.ssOn && s.hedge.sensor.idDue then s.ssIdentity id else s)

/-- cos² of 0° to 60° in units of 10⁻³⁰. -/
def cosSq : List Nat :=
  [1000000000000000000000000000000, 999695413509547865003121720022, 998782025129912123806581340322,
   997260947684136668461345972490, 995134034370785157541887433672, 992403876506104029683371512295,
   989073800366902818964283373935, 985147863137998236153188937017, 980630847969159430958248524279,
   975528258147576786058219666690, 969846310392954192027054638662, 963591927283393700403237225568,
   956772728821300447751063785993, 949397023149583496391147838348, 941473796429463471016085680158,
   933012701892219323381861585376, 924024048078212985193088089345, 914518786277520846003168420751,
   904508497187473712051146708591, 894005376803360978346988893918, 883022221559489017601196325278,
   871572412738697117507348524487, 859669900169325569678027337228, 847329185229498643328203149711,
   834565303179429106913136665343, 821393804843269663161321704954, 807830737662829139834405546422,
   793892626146236564584352977320, 779596451735373415080214069993, 764959632116602477023390575908,
   750000000000000000000000000000, 734735781392945387979731144114, 719185573394538708726367270329,
   703368321537900103876992995171, 687303296707956017707481887251, 671010071662834366522049807341,
   654508497187473712051146708591, 637818677908499592824985787306, 620960947799833861280221187050,
   603955845408879668550871142203, 586824088833465174425858313385, 569586550480032722056248331651,
   552264231633826735699917077401, 534878236872062650387979417597, 517449748351250485822997590813,
   500000000000000000000000000000, 482550251648749514177002409187, 465121763127937349612020582403,
   447735768366173264300082922599, 430413449519967277943751668349, 413175911166534825574141686615,
   396044154591120331449128857797, 379039052200166138719778812950, 362181322091500407175014212694,
   345491502812526287948853291409, 328989928337165633477950192659, 312696703292043982292518112749,
   296631678462099896123007004829, 280814426605461291273632729671, 265264218607054612020268855886,
   250000000000000000000000000000]

def dot (a b : Int × Int × Int) : Int := a.1 * b.1 + a.2.1 * b.2.1 + a.2.2 * b.2.2

/-- a·r < |a| |r| cos(deg), by squares (R165). -/
def angleAbove (a r : Int × Int × Int) (deg : Nat) : Bool :=
  let d := dot a r
  if d < 0 then true
  else decide (d * d * (10 ^ 30 : Nat) < dot a a * dot r r * (cosSq.getD deg 0 : Nat))

/-- Cosine and sine of 2^k hundredths of a degree for k from 14 down to 0, in units of 10⁻³⁰. -/
def centiSteps : List (Nat × Int × Int) :=
  [(16384, -960488224178749741110398359333, 278320626641202755841988764027),
   (8192, 140555639910411028105220951819, 990072781208217475232179250605),
   (4096, 755167411873159098949917254725, 655531982472857296628279153218),
   (2048, 936794377617937857291980432056, 349880399655968797347156205719),
   (1024, 984071739665848207638973961233, 177771795263003043550410184741),
   (512, 996009974765777184492869488236, 89241975365160402642203401067),
   (256, 999001995685138054592684066796, 44665564108286013603672340731),
   (128, 999750467788122131317396793737, 22338356193573704935743421756),
   (64, 999937615001086488109909344900, 11169874929422188534803462901),
   (32, 999984403628648222356202132174, 5585024570828309708281323889),
   (16, 999996100899560563470643464877, 2792523173742488730170086846),
   (8, 999999025224415047147150777998, 1396262947914276166218303469),
   (4, 999999756306074068422019721792, 698131644087579247878449366),
   (2, 999999939076516661270093868198, 349065843310096712961605842),
   (1, 999999984769129049327808509034, 174532924313336803340672683)]

/-- The largest number whose square is at most `n`, for `n` below 2^192. -/
def isqrt (n : Nat) : Nat :=
  (List.range 96).foldr (fun k r => if (r + 2 ^ k) * (r + 2 ^ k) ≤ n then r + 2 ^ k else r) 0

/-- The cross product. -/
def cross (a b : Int × Int × Int) : Int × Int × Int :=
  (a.2.1 * b.2.2 - a.2.2 * b.2.1, a.2.2 * b.1 - a.1 * b.2.2, a.1 * b.2.1 - a.2.1 * b.1)

/-- The whole hundredths of a degree in the angle of the vector (x, y) with y ≥ 0 from the x axis: the vector is turned back by each
step of `l` that leaves y ≥ 0. -/
def turnBack : List (Nat × Int × Int) → Int → Int → Nat
  | [], _, _ => 0
  | (k, c, d) :: l, x, y =>
    let y' := y * c - x * d
    if 0 ≤ y' then k + turnBack l (x * c + y * d) y' else turnBack l x y

/-- The angle between `a` and `r` in whole hundredths of a degree; |a × r| stands beside a · r with 2^32 as its scale. -/
def centiAngle (a r : Int × Int × Int) : Nat :=
  let c := cross a r
  min 18000 (turnBack centiSteps (dot a r * 2 ^ 32) (isqrt ((dot c c).toNat * 2 ^ 64)))

/-- |a| < |r| / 4. -/
def tooShort (a r : Int × Int × Int) : Bool := decide (16 * dot a a < dot r r)

/-- A sum of 16 samples as their mean; where the division leaves a remainder the manual does not say how it is rounded,
and a free value decides. -/
def meanOf (sum : Int) (up : Bool) : Int := if sum % 16 ≠ 0 && up then sum / 16 + 1 else sum / 16

/-- Stores a reference vector in SS_REF and sets REF_VALID. -/
def State.storeRef (s : State) (r : Int × Int × Int) : State :=
  let s : State := { s with hedge.sensor.ref := some r }
  let s := s.setReg Reg.HEDGE_SS_REF_XY (pack [(ofSint 16 r.1, 0), (ofSint 16 r.2.1, 16)])
  (s.setFld Reg.HEDGE_SS_REF_Z 15 0 (ofSint 16 r.2.2)).setFlag Reg.HEDGE_SS_STATUS 4 true

/-- With REF_MODE 1 the reference is the Plan's SS_REF, from arm on (R165). -/
def State.planRef (s : State) : State :=
  if s.flag Reg.HEDGE_SS_CTRL 0 && s.flag Reg.HEDGE_SS_TILT 31 then
    s.storeRef (sint 16 (s.fld Reg.HEDGE_SS_REF_XY 15 0), sint 16 (s.fld Reg.HEDGE_SS_REF_XY 31 16),
      sint 16 (s.fld Reg.HEDGE_SS_REF_Z 15 0))
  else s

/-- One sample without fault joins the reference mean (REF_MODE 0). -/
def State.ssReference (s : State) (a : Int × Int × Int) : State :=
  let p := s.hedge.sensor
  let sum := (p.refSum.1 + a.1, p.refSum.2.1 + a.2.1, p.refSum.2.2 + a.2.2)
  let s : State := { s with hedge.sensor.refCount := p.refCount + 1, hedge.sensor.refSum := sum }
  if p.refCount + 1 = 16 then
    let f := s.freeVal
    s.draw.storeRef (meanOf sum.1 (nbit f 0), meanOf sum.2.1 (nbit f 1), meanOf sum.2.2 (nbit f 2))
  else s

/-- Sets TILT and its node. -/
def State.setTilt (s : State) (b : Bool) : State := (s.setFlag Reg.HEDGE_SS_STATUS 5 b).setNode 64 b

/-- The angle of a sample in units of 0.01° (R165): rounded down or up by a free bit, exact where a and r lie in one direction; with a
zero vector there is no angle, and the value is free. Log entry 8 (DESIGN CHOICE). -/
def State.sampleAngle (s : State) (a r : Int × Int × Int) : State × Nat :=
  if dot a a = 0 || dot r r = 0 then (s.draw, s.freeVal % 18001)
  else if dot (cross a r) (cross a r) = 0 then (s, if dot a r < 0 then 18000 else 0)
  else (s.draw, min 18000 (centiAngle a r + s.freeVal % 2))

/-- One sample against the reference: TILT after every sample of TILT_TIME exceeded, cleared after every sample of
TILT_TIME was within ANGLE − HYST (one sample per millisecond); samples that SENSOR_FAULT keeps from use interrupt neither run.
Log entry 86 (DESIGN CHOICE). -/
def State.ssTilt (s : State) (a r : Int × Int × Int) : State :=
  let angle := s.fld Reg.HEDGE_SS_TILT 5 0
  let time := s.fld Reg.HEDGE_SS_TILT 24 16
  let exceeds := tooShort a r || angleAbove a r angle
  let within := !tooShort a r && !angleAbove a r (angle - s.fld Reg.HEDGE_SS_TILT 11 8)
  let p := s.hedge.sensor
  let er := if exceeds then p.exceedRun + 1 else 0
  let wr := if within then p.withinRun + 1 else 0
  let s : State := { s with hedge.sensor.exceedRun := er, hedge.sensor.withinRun := wr }
  let (s, shown) := s.sampleAngle a r
  let s := s.setFld Reg.HEDGE_SS_SAMPLE_Z 31 16 shown
  if time < er then s.setTilt true else if time < wr then s.setTilt false else s

/-- The Sheepdog task of one poll (R164, R165): while SENSOR_FAULT is active the sample is not used. -/
def State.ssProcess (s : State) : State :=
  let p := s.hedge.sensor
  let a := s.ssAxes p.rx
  let s : State := { s with hedge.sensor.fresh := false }
  let s := s.setReg Reg.HEDGE_SS_SAMPLE_XY (pack [(ofSint 16 a.1, 0), (ofSint 16 a.2.1, 16)])
  let s := s.setFld Reg.HEDGE_SS_SAMPLE_Z 15 0 (ofSint 16 a.2.2)
  if s.node 65 then s
  else match p.ref with
    | none => s.ssReference a
    | some r => s.ssTilt a r

def execSsSampleProcess (s : State) : Out := .next (if s.ssOn && s.hedge.sensor.fresh then s.ssProcess else s)

/-! ### Registers and HEDGE_READ -/

/-- HEDGE.CNT_CLR (R171). -/
def State.hedgeCntClr (s : State) (v : Word) : State :=
  s.clearBy v (((List.range 32).map fun n => (0, Reg.HEDGE_RULE_TRIPS n, 15, 0)) ++
    [(1, Reg.HEDGE_DIVERGE_CNT, 15, 0), (2, Reg.HEDGE_HB_MISS, 15, 0), (3, Reg.HEDGE_SS_ERR_CNT, 31, 0),
      (4, Reg.HEDGE_SSTOP_STATUS, 31, 16)])

end Sys2Proof.Machine
end

