-- ==== Sys2Proof/Machine/Sequencer.lean ====
section
/-!
DEFINITION. The rail sequencer's step engine and its commands (07_rail_sequencing.md). Every command of the sequencer is one
decision point: the engine samples what has asserted, takes the one request or timer of the command, and lets the rails advance
(R4, R22, R175). Log entry 79 (DEDUCED).
-/

namespace Sys2Proof.Machine

/-- The step engine runs: a Plan is loaded, and the controller is in no sleep (R193). Log entry 10 (DESIGN CHOICE). -/
def State.seqRuns (s : State) : Bool :=
  s.dev.planLoaded && !s.asleep && !s.inSleep && !s.inDeepSleep && !s.dev.inReset

/-! ### The rails at a decision point (R175, R180) -/

/-- The prerequisites and the Herd step condition of rail `n` hold now. -/
def State.waitCond (s : State) (n : Fin 24) : Bool := decide (s.railPre n &&& ~~~s.railsGood = 0) && s.stepCond n

/-- One rail in `WAIT` while rails may rise: DELAY runs from the latest of its three moments. -/
def State.riseWait (s : State) (n : Fin 24) : State :=
  let r := s.seq.rail[n]
  if s.waitCond n then
    let ok := r.okPt.getD s.ptNow
    let s : State := { s with seq.rail := s.seq.rail.set n { r with okPt := some ok } }
    let from0 := if ok.toNat < r.entered.toNat then r.entered else ok
    if s.fld (Reg.SEQ_RAIL_SEQ n) 13 0 * 960 ≤ (s.ptNow - from0).toNat then s.setRail n .ramp 1 else s
  else { s with seq.rail := s.seq.rail.set n { r with okPt := none } }

/-- A Herd abort of reason 5 holds the rails in their states (R243). Log entry 35 (DEDUCED). -/
def State.railsHeld (s : State) : Bool := decide (s.herd.aborting = some 5)

/-- Rails that rise in `POWER_UP` and `STEADY`: those outside the needed set leave `WAIT`, the others follow R175. -/
def State.riseStep (s : State) : State :=
  if s.railsHeld then s
  else
    let need := s.needed s.seq.target
    (List.finRange 24).foldl (fun s (n : Fin 24) =>
      match (s.seq.rail[n]).state with
      | .wait => if need.getLsbD n then s.riseWait n else s.setRail n .off 0
      | .ramp => if s.seq.inside.getLsbD n then s.setRail n .settle 3 else s
      | _ => s) s

/-- Every rail that names `n` as a prerequisite is `OFF` or `FAULTED`. -/
def State.dependentsDown (s : State) (n : Fin 24) : Bool :=
  (List.finRange 24).all fun m => !(s.railPre m).getLsbD n ||
    decide ((s.seq.rail[m]).state = .off) || decide ((s.seq.rail[m]).state = .faulted)

/-- Rails that a power-down keeps: the needed set, and none after a start failure (R180, R188 (c)). -/
def State.keptRails (s : State) : BitVec 24 := if s.seq.st = .startAbort then 0 else s.needed s.seq.target

/-- CAUSE of the removal of rail `n` (R196). Log entry 32 (DEDUCED). -/
def State.downCause (s : State) (n : Fin 24) : Nat :=
  if s.seq.st = .startAbort then 6 else (s.seq.rail[n]).why.getD 0

/-- One started rail of a power-down or start failure. ABORTED marks those in `RAMP` and `SETTLE`, and the others that a start
failure releases (R196). -/
def State.downRail (s : State) (n : Fin 24) : State :=
  match (s.seq.rail[n]).state with
  | .ramp => s.setRail n .discharge (s.downCause n) true
  | .settle => s.setRail n .discharge (s.downCause n) true
  | .good =>
    if s.dependentsDown n && s.stepRelease n then s.setRail n .discharge (s.downCause n) (s.seq.st = .startAbort) else s
  | _ => s

/-- Rails removed by a power-down or a start failure: those in `WAIT`, then the started ones in descending rank (R180). -/
def State.downStep (s : State) : State :=
  let keep := s.keptRails
  let s := (List.finRange 24).foldl (fun s (n : Fin 24) =>
    if (s.seq.rail[n]).state = .wait && !keep.getLsbD n then s.setRail n .off (s.downCause n) else s) s
  (List.range 24).foldl (fun s k =>
    match (List.finRange 24).find? fun (n : Fin 24) => (s.seq.rail[n]).rank = 24 - k with
    | some n => if keep.getLsbD n then s else s.downRail n
    | none => s) s

/-- Rails in `DISCHARGE` that are discharged. -/
def State.offStep (s : State) : State :=
  (List.finRange 24).foldl (fun s (n : Fin 24) =>
    if (s.seq.rail[n]).state = .discharge && s.discharged n then
      (s.setFlag (Reg.SEQ_RAIL_STATUS n) 6 false).setRail n .off 7
    else s) s

def State.railSteps (s : State) : State :=
  let s := s.offStep
  match s.seq.st with
  | .powerUp => s.riseStep
  | .steady => s.riseStep
  | .powerDown => s.downStep
  | .startAbort => s.downStep
  | _ => s

/-! ### Sequences begin and end (R179, R180, R182) -/

/-- `G` joins the target, and a power-up begins or grows (R179, R184). -/
def State.joinGroups (s : State) (g : BitVec 8) : State :=
  let q := s.seq
  let q : Seq := if q.st = .powerUp then q
    else { q with groups := 0, joining := 0, startPt := s.ptNow, timeouts := 0 }
  { s with seq := { q with st := .powerUp, joining := q.joining ||| (g &&& ~~~q.target), groups := q.groups ||| g,
                           target := q.target ||| g, waitWake := false } }

/-- Rails of the needed set that are `OFF` enter `WAIT` (R179). -/
def State.enterWaits (s : State) : State := s.setRails (s.needed s.seq.target &&& s.railsIn [.off]) .wait 0

/-- `G` joins the target and its rails that are `OFF` enter `WAIT`. -/
def State.startUp (s : State) (g : BitVec 8) : State := (s.joinGroups g).enterWaits

/-- Groups are asked for: on the lead, a set that includes a Herd group requests every Herd group and waits for the muster
(R241 (a)). -/
def State.requestGroups (s : State) (g : BitVec 8) : State :=
  let h := s.herdGroups
  if g &&& h = 0 || [.muster, .stepUp, .running].contains s.herd.st then s.joinGroups g
  else
    let s : State := if s.herdLead then { s with herd.requested := true } else s
    if g &&& ~~~h = 0 then s else s.joinGroups (g &&& ~~~h)

/-- Groups start. -/
def State.startGroups (s : State) (g : BitVec 8) : State := (s.requestGroups g).enterWaits

/-- Every started or waiting rail outside the needed set keeps the cause of its removal, the first it was given (R180, R196).
Log entry 32 (DEDUCED). -/
def State.markRemoved (s : State) (cause : Nat) : State :=
  let need := s.needed s.seq.target
  { s with seq.rail := Vector.ofFn fun (n : Fin 24) =>
      let r := s.seq.rail[n]
      if need.getLsbD n || [.off, .discharge, .faulted].contains r.state then r else { r with why := some (r.why.getD cause) } }

/-- A power-down begins or grows. Log entry 32 (DEDUCED). -/
def State.startDown (s : State) (g : BitVec 8) (cause : Nat) : State :=
  let q := s.seq
  let q : Seq := if q.st = .powerDown then q else { q with groups := 0, startPt := s.ptNow, timeouts := 0 }
  State.markRemoved { s with seq := { q with st := .powerDown, groups := q.groups ||| g } } cause

/-- A start-failure latch is set. -/
def State.failLatched (s : State) : Bool := s.flag Reg.SEQ_LATCH 31

/-- `START_FAIL` is entered and reported, whatever the state before (R188 (d), R197). Log entry 87 (DEDUCED). -/
def State.enterStartFail (s : State) : State :=
  let s : State := { s with seq.st := .startFail }
  s.postSeqDone 3 s.seq.groups

/-- The state after a whole-platform shutdown: `START_FAIL` where latched, else `REST` or `ALL_OFF` (R182, R191 (d)). The
record says that the shutdown ended, and one of kind 3 follows where `START_FAIL` is entered.
Log entry 33 (DEDUCED). Log entry 87 (DEDUCED). -/
def State.afterShutdown (s : State) (kind : Nat) (rest cut : Bool) (p : Time) : State :=
  let q := s.seq
  let q : Seq :=
    if s.failLatched then { q with st := .startFail }
    else if rest then
      { q with st := .rest, restCut := cut, restEnd := p + BitVec.ofNat 64 (ms (s.fld Reg.SEQ_CTRL 24 16)),
               restGroups := BitVec.ofNat 8 (s.fld Reg.SEQ_CTRL 15 8) }
    else { q with st := .allOff, waitWake := true }
  let s := ({ s with seq := q }).postSeqDone kind q.groups
  if s.failLatched then s.enterStartFail else s

/-- The pending slot may start: what it asks of the Herd waits for the end of a stepped shutdown (R246). -/
def State.slotReady (s : State) : Bool :=
  decide (s.seq.slot ≠ 0) && (decide (s.seq.slot &&& s.herdGroups = 0) || decide (s.herd.st ≠ .stepDown))

/-- A power-down has ended: the pending power-up begins, its groups joining the target before the record and the results show
them; without one the sequencer rests in `STEADY`, or waits in `ALL_OFF` for a wake source (R182, R183, R191 (d)).
Log entry 33 (DEDUCED). Log entry 38 (DEDUCED). -/
def State.endDown (s : State) : State :=
  let q := s.seq
  let go := s.slotReady
  let q1 : Seq := if q.target ≠ 0 then { q with st := .steady } else { q with st := .allOff, waitWake := q.slot = 0 }
  let s : State := { s with seq := if go then { q1 with slot := 0 } else q1 }
  let s := if go then s.requestGroups q.slot else s
  let s := (s.postSeqDoneOf 2 q.groups q.startPt q.timeouts).finishOffs false true
  let s := if s.railsOn = 0 then s.snapshot 1 else s
  s.enterWaits

/-- Groups that wait in `ALL_OFF` or `STEADY`: those a muster added to the target while another state ran, and a slot held back by a
stepped shutdown (R240, R246). Log entry 34 (DEDUCED). -/
def State.startPending (s : State) : State :=
  let q := s.seq
  if q.st = .allOff && q.target ≠ 0 then State.startUp { s with seq.target := 0 } q.target
  else if s.slotReady then State.startGroups { s with seq.slot := 0 } q.slot
  else s

/-- Ends of sequences and shutdowns at a decision point (R179 to R182, R218, R239). -/
def State.seqEnds (s : State) : State :=
  let s := if s.seq.snapDue && s.railsDown then
      let s : State := { s with seq.snapDue := false, seq.allOffPt := some (s.seq.allOffPt.getD s.ptNow) }
      (s.snapshot 2).finishOffs true true
    else s
  let s : State := if s.herd.st = .abort && s.railsDown then
      { s with herd.st := .herdOff, herd.aborting := none } else s
  match s.seq.st with
  | .powerUp =>
    if s.needed s.seq.target &&& ~~~s.railsGood = 0 then
      let s : State := { s with seq.st := .steady, seq.joining := 0 }
      s.postSeqDone 1 s.seq.groups
    else s
  | .powerDown =>
    if s.railsOn &&& ~~~(s.railsIn [.faulted]) &&& ~~~(s.needed s.seq.target) = 0 then s.endDown else s
  | .startAbort => if s.railsDown then s.enterStartFail else s
  | .cut =>
    if s.railsDown && !s.act 17 then s.afterShutdown 4 (s.flag Reg.SEQ_CTRL 1) true s.ptNow else s
  | .vinDown =>
    if s.railsDown && !s.sup.vinLow then
      let p := s.seq.allOffPt.getD s.ptNow
      let p := if p.toNat < s.seq.vinGoodPt.toNat then s.seq.vinGoodPt else p
      ({ s with sup.enHold := false }).afterShutdown 5 true false p
    else s
  | .allOff => s.startPending
  | .steady => s.startPending
  | _ => s

/-- ON commands whose groups are in the target and good complete OK; one that names a Herd group also waits for `RUNNING`
(R184, R241). -/
def State.finishOns (s : State) : State :=
  let ok := s.groupsGood &&& s.seq.target
  let done (e : Req × BitVec 8) : Bool := decide (e.2 &&& ~~~ok = 0) &&
    (decide (e.2 &&& s.herdGroups = 0) || decide (s.herd.st = .running))
  let hit := s.seq.ons.filter done
  let rest := s.seq.ons.filter fun e => !done e
  let s : State := { s with seq.ons := rest }
  hit.foldl (fun s e => s.complete e.1 { status := Status.OK, result := s.railRes }) s

/-- The rails and the sequencer advance at one decision point. -/
def State.advance (s : State) : State :=
  let s := s.railSteps.seqEnds
  let s := s.railSteps.seqEnds
  s.railSteps.seqEnds.finishOns

/-! ### Off requests (R185 to R187) -/

/-- An off request of groups that are not Herd groups of a running Herd: they leave the target and the slot, a power-up that runs is
aborted, and what it was joining moves to the slot (R185, R186). -/
def State.offLocal (s : State) (g : BitVec 8) (cause : Nat) : State :=
  let q := s.seq
  let moved := if q.st = .powerUp then q.joining &&& ~~~g else 0
  let lost := q.target &&& (g ||| moved)
  let slot := (q.slot &&& ~~~g) ||| moved
  let s : State := { s with seq.target := q.target &&& ~~~lost, seq.slot := slot }
  let s := if q.slot ≠ 0 && slot = 0 then s.postSeqDone 6 q.slot else s
  let s := if lost ≠ 0 then s.startDown g cause else s
  s.abortOns g false

/-- What an off request leaves to its command: done with result flags, or outstanding. -/
inductive OffEnd where
  | done (flags : Nat)
  | waits (herd : Bool)
deriving DecidableEq, Repr

/-- A call pulse of 5 µs is driven, unless one waits for its classification (R246). -/
def State.issueCall (s : State) : State :=
  if s.herd.called then s else State.herdLow { s with herd.called := true } 480

/-- An off request or an orderly-off action for groups `g` (R185, R186, R246).
Log entry 31 (DEDUCED). Log entry 35 (DEDUCED). -/
def State.offTake (s : State) (g : BitVec 8) (cause : Nat) : State × OffEnd :=
  let q := s.seq
  if q.st = .rest then
    ({ s with seq.restGroups := q.restGroups &&& ~~~g }, .done (b2n (g &&& q.restGroups = 0)))
  else if [.startAbort, .cut, .vinDown].contains q.st || (q.st = .faultOff && s.railsIn [.discharge] ≠ 0) then
    (s, if s.railsDown then .done 0 else .waits false)
  else if g &&& (q.target ||| q.slot) = 0 then (s, .done 1)
  else if s.herd.st = .muster || s.herd.st = .stepUp then (s.herdAbort 5, .waits false)
  else if s.herd.st = .running && g &&& s.herdGroups ≠ 0 then
    let l := g &&& ~~~s.herdGroups &&& (q.target ||| q.slot)
    let s := s.issueCall
    (if l = 0 then s else s.offLocal l cause, .waits true)
  else (s.offLocal g cause, .waits false)

/-- Orderly-off actions that have newly asserted are taken, lowest group first (R187). Log entry 31 (DEDUCED). -/
def State.orderlyOff (s : State) : State :=
  let held := BitVec.ofNat 8 (bitsOf 8 fun g => s.act (9 + g))
  let new := held &&& ~~~s.seq.taken
  let s : State := { s with seq.taken := held }
  (List.range 8).foldl (fun s g => if new.getLsbD g then (s.offTake (BitVec.ofNat 8 (2 ^ g)) 4).1 else s) s

/-! ### Plan start (R191) -/

/-- Groups a Plan start may name: not held by an orderly-off action, and on a follower no Herd group (R187, R241). -/
def State.startable (s : State) (g : BitVec 8) : BitVec 8 :=
  let g := g &&& ~~~(BitVec.ofNat 8 (bitsOf 8 fun k => s.act (9 + k)))
  if s.herdLead then g else g &&& ~~~s.herdGroups

/-- Plan start of the groups that wait for it. One that finds no group to start leaves the sequencer waiting for a wake source.
Log entry 32 (DEDUCED). Log entry 33 (DEDUCED). -/
def State.planStart (s : State) : State :=
  let g := s.startable s.seq.restGroups
  let s : State := { s with seq.startDue := false, seq.waitWake := g = 0 }
  if g = 0 then s else (s.startGroups g).postSeqDone 7 g

/-- Plan start may run now: awake with a Plan, out of the boot hold, in a service stage, VIN good, no class S failure. -/
def State.startAllowed (s : State) : Bool :=
  s.seqRuns && !s.hedge.bootHold && (s.dev.stage = .reduced || s.dev.stage = .full) && !s.sup.vinLow &&
    !s.flag Reg.BIST_STATUS 30

/-- A Plan start that is due runs at the first decision point that allows it (R191). -/
def State.planPoint (s : State) : State :=
  if s.startAllowed && s.seq.startDue && s.seq.st = .allOff then s.planStart else s

/-! ### The decision point (R22, R175, R182) -/

/-- A crossing on a `GOOD` rail: `FAULT_OFF` (R211 step 7). A further crossing in `FAULT_OFF` finds no `GOOD` rail. -/
def State.enterFaultOff (s : State) : State :=
  let m := s.sup.tripped
  let s : State := { s with sup.tripped := 0 }
  if m = 0 then s
  else
    let s := if s.seq.st = .faultOff then s else s.enterShutdown .faultOff false
    (s.setRails m .faulted 3).cutRails 3

def State.enterVinDown (s : State) : State :=
  if s.sup.vinLow && s.seq.st ≠ .faultOff && s.seq.st ≠ .vinDown then
    (((s.enterShutdown .vinDown false).cutRails 5).herdAbort 4).herdAlarm 2
  else s

def State.enterCut (s : State) : State :=
  if s.act 17 && s.seq.st ≠ .faultOff && s.seq.st ≠ .vinDown && s.seq.st ≠ .cut then
    ((s.enterShutdown .cut false).cutRails 4).herdAbort 3
  else s

/-- The start failures of this decision point (R175, R188, R210): crossings decided in `RAMP` and `SETTLE`, and ramp timeouts of
`timed`, which a Herd abort of reason 5 holds back. Log entry 35 (DEDUCED). Log entry 37 (DEDUCED). -/
def State.startFailures (s : State) (timed : BitVec 24) : State :=
  let x := ((s.seq.uvX ||| s.seq.ovX) &&& s.railsIn [.settle]) ||| (s.seq.ovX &&& s.railsIn [.ramp])
  let t := if s.railsHeld then 0 else timed &&& s.railsIn [.ramp] &&& ~~~x
  State.startFailure { s with seq.uvX := 0, seq.ovX := 0 } (x ||| t) t

/-- What the engine takes before any request: start failures, the entries of R182, orderly-off actions, a Plan start that is due. -/
def State.sample (s : State) (timed : BitVec 24) : State :=
  (s.startFailures timed).enterFaultOff.enterVinDown.enterCut.orderlyOff.planPoint

/-- Response 0x84 ends for a group whose rails are all `OFF` or `FAULTED` (R146). -/
def State.overrunEnds (s : State) : State :=
  let up := s.railsOn &&& ~~~(s.railsIn [.faulted])
  let o := BitVec.ofNat 8 (bitsOf 8 fun g => s.hedge.overrun.getLsbD g && decide (s.groupRails g &&& up ≠ 0))
  if o = s.hedge.overrun then s else State.builtins { s with hedge.overrun := o }

/-- One decision point of the step engine: it samples, `k` takes the request or timer, and the rails advance (R22, R175). -/
def State.atPoint (s : State) (timed : BitVec 24) (k : State → State) : State :=
  if s.seqRuns then (k (s.sample timed)).advance.overrunEnds.safeCheck else s

/-- What the engine samples is kept: comparator levels, the line, and the windows. Once inside its window, a rail stays inside
until a comparator decides a crossing (R209). -/
def State.seqSample (s : State) (x : SeqInputs) : State :=
  let s : State := { s with seq.inside := x.inside ||| (s.seq.inside &&& s.railsIn [.settle, .good]), herd.line := x.herdHigh }
  (List.finRange 24).foldl (fun s (n : Fin 24) =>
    (s.setFlag (Reg.SUP_RAIL_VALUE n) 21 (x.ovNow.getLsbD n)).setFlag (Reg.SUP_RAIL_VALUE n) 20 (x.uvNow.getLsbD n)) s

def execSeqDecisionPoint (x : SeqInputs) (s : State) : Out :=
  .next (if s.seqRuns then (s.seqSample x).atPoint 0 fun s => s else s)

/-! ### Rail timers (R175) -/

/-- RAMP_TO has passed for `rails`, which are in `RAMP`. -/
def execRampTimeout (rails : BitVec 24) (s : State) : Out := .next (s.atPoint rails fun s => s)

/-- The rails of `rails` that are in `SETTLE` become `GOOD`, lowest first: those still in the needed set, and none that a Herd
abort holds. -/
def State.settleDone (s : State) (rails : BitVec 24) : State :=
  if s.railsHeld then s else s.setRails (rails &&& s.railsIn [.settle] &&& s.keptRails) .good 2

/-- SETTLE has passed for `rails`; those that become `GOOD` at one decision point do so before any dependent rises (R176). -/
def execSettleDone (rails : BitVec 24) (s : State) : Out := .next (s.atPoint 0 fun s => s.settleDone rails)

def State.dischargeTimeout (s : State) (n : Fin 24) : State :=
  let s := (s.setFlag (Reg.SEQ_RAIL_STATUS n) 6 true).railCnt (Reg.SUP_RAIL_CNT_S n) 31 16
  ({ s with seq.timeouts := s.seq.timeouts + 1 }).setRail n .off 2

def State.dischargeTimeouts (s : State) (rails : BitVec 24) : State :=
  (List.finRange 24).foldl (fun s (n : Fin 24) =>
    if rails.getLsbD n && (s.seq.rail[n]).state = .discharge then s.dischargeTimeout n else s) s

def execDischargeTimeout (rails : BitVec 24) (s : State) : Out := .next (s.atPoint 0 fun s => s.dischargeTimeouts rails)

/-! ### Plan start and the end of REST -/

def execPlanStart (s : State) : Out := .next (s.atPoint 0 fun s => s)

/-- t_rest has passed: the Plan start of R191 (b), (c) falls due, or the sequencer waits for a wake source (R191 (d)). -/
def State.restEnds (s : State) : State :=
  if s.seq.st ≠ .rest then s
  else if s.seq.restCut || s.flag Reg.SEQ_CTRL 0 then
    State.planPoint { s with seq.st := .allOff, seq.startDue := true }
  else { s with seq.st := .allOff, seq.waitWake := true }

def execRestExpiry (s : State) : Out := .next (s.atPoint 0 fun s => s.restEnds)

/-! ### Commands -/

/-- A request to the sequencer at a decision point of its own. While BOOT_HOLD is set it waits in its queue (R152); without a Plan no
engine runs and the command is answered alone (R44). -/
def State.seqRequest (s : State) (r : Req) (op : Nat) (bad : Bool) (k : State → State × Option Reply) : State :=
  if s.dev.planLoaded && s.hedge.bootHold then s.awaitTurn r op
  else if s.seqRuns then s.atPoint 0 fun s => s.command r op bad k
  else s.command r op bad k

/-- RAIL_GROUP_ON at its decision point (R184, R241): a follower takes a Herd group only where the whole of G is already good. -/
def State.groupOn (s : State) (r : Req) (g : BitVec 8) : State × Option Reply :=
  let herd := decide (g &&& s.herdGroups ≠ 0)
  let all := if herd && s.herdLead then g ||| s.herdGroups else g
  let held := bitsOf 8 fun k => s.act (9 + k)
  let good := decide (g &&& ~~~(s.groupsGood &&& s.seq.target) = 0)
  if herd && !s.herdLead && !good then (s, reply Status.NOT_IN_STATE (s.railRes 2))
  else if s.act 17 || all &&& BitVec.ofNat 8 held ≠ 0 then
    (s, reply Status.REFUSED (s.railResult held 0xFF 0 (4 * b2n (s.act 17))))
  else if [.startAbort, .startFail, .faultOff, .cut, .vinDown, .rest].contains s.seq.st then
    (s, reply Status.NOT_IN_STATE s.railRes)
  else if good && (!herd || !s.herdLead || s.herd.st = .running) then (s, reply Status.OK s.railRes)
  else
    let s : State := { s with seq.waitWake := false, seq.startDue := false }
    if s.seq.st = .powerDown || (herd && s.herd.st = .stepDown) then
      let s : State := { s with seq.slot := s.seq.slot ||| all }
      (s, reply Status.QUEUED s.railRes)
    else
      let s := if good && [.muster, .stepUp].contains s.herd.st then s else s.startGroups all
      ({ s with seq.ons := s.seq.ons ++ [(r, g)] }, none)

def execRailGroupOn (r : Req) (g : BitVec 8) (s : State) : Out :=
  .next (s.seqRequest r 0x10 (g = 0 || g &&& ~~~s.carriedGroups ≠ 0) fun s => s.groupOn r g)

/-- RAIL_GROUP_OFF at its decision point (R185, R241). -/
def State.groupOff (s : State) (r : Req) (g : BitVec 8) : State × Option Reply :=
  if !s.herdLead && g &&& s.herdGroups ≠ 0 then (s, reply Status.NOT_IN_STATE (s.railRes 2))
  else
    let (s, e) := s.offTake g 0
    match e with
    | .done f => (s, reply Status.OK (s.railRes f))
    | .waits h => ({ s with seq.offs := s.seq.offs ++ [(r, h)] }, none)

def execRailGroupOff (r : Req) (g : BitVec 8) (s : State) : Out :=
  .next (s.seqRequest r 0x11 (g = 0) fun s => s.groupOff r g)

/-- Result of FAULT_CLEAR (R375). -/
def State.clearRes (s : State) (rails : BitVec 24) : List Byte := leBytes 3 rails.toNat ++ [BitVec.ofNat 8 s.seq.st.code]

/-- FAULT_CLEAR in `FAULT_OFF` (R214). Log entry 36 (DEDUCED). -/
def State.clearFaultOff (s : State) : State × Option Reply :=
  let dis := s.railsIn [.discharge]
  let ov := s.railsInUse &&& railMask fun n => s.flag (Reg.SUP_RAIL_VALUE n) 21
  if dis ≠ 0 then (s, reply Status.BUSY (s.clearRes dis))
  else if ov ≠ 0 then (s, reply Status.REFUSED (s.clearRes (ov &&& (~~~ov + 1))))
  else
    let rail := s.fld Reg.SUP_FAULT_LATCH 12 8
    let s := (s.setFlag Reg.SUP_STATUS 0 false).setRails (s.railsIn [.faulted]) .off 0
    let s := s.setNode 78 false
    let s := s.post 0x22 ([BitVec.ofNat 8 rail, 5, 0, 0, 0, 0, 0, 0] ++ leBytes 3 s.railsOn.toNat ++
      [BitVec.ofNat 8 (b2n (s.flag Reg.SUP_STATUS 1) + 4 * b2n (s.flag Reg.SUP_STATUS 6))])
    let s : State := if s.failLatched then s.enterStartFail
      else { s with seq.st := .allOff, seq.waitWake := true }
    (s, reply Status.OK (s.clearRes 0))

/-- FAULT_CLEAR in `START_FAIL` (R189). -/
def State.clearStartFail (s : State) : State × Option Reply :=
  let s := (s.setReg Reg.SEQ_LATCH 0).setRails (s.railsIn [.faulted]) .off 0
  let s : State := { s with seq.st := .allOff, seq.waitWake := true }
  let s := s.postSeqDone 8 0
  (s, reply Status.OK (s.clearRes 0))

/-- FAULT_CLEAR (R189, R214). -/
def State.faultClear (s : State) : State × Option Reply :=
  match s.seq.st with
  | .startFail => s.clearStartFail
  | .faultOff => s.clearFaultOff
  | _ => (s, reply Status.NOT_IN_STATE (s.clearRes 0))

/-- Log entry 36 (DEDUCED). -/
def execFaultClear (r : Req) (s : State) : Out := .next (s.seqRequest r 0x13 false fun s => s.faultClear)

end Sys2Proof.Machine
end

