-- ==== Sys2Proof/Machine/HerdLine.lean ====
section
/-!
DEFINITION. The commands of the Herd line interface (09_herd_line.md).
-/

namespace Sys2Proof.Machine

/-- A member whose interface runs: awake, with a Plan that enables it. Log entry 10 (DESIGN CHOICE). -/
def State.herdRuns (s : State) : Bool := s.seqRuns && s.herdOn

/-- SEQ.HERD_PULSE: class and width of the last classified pulse. -/
def State.herdPulse (s : State) (cls w : Nat) : State :=
  s.setReg Reg.SEQ_HERD_PULSE (pack [(satN 16 (w * 10 / 96), 0), (cls, 16)])

/-! ### The muster (R239, R240) -/

/-- A follower's `START_FAIL` of kind 4 clears at the start (R240). -/
def State.followerClear (s : State) : State :=
  if !s.herdLead && s.seq.st = .startFail && s.fld Reg.SEQ_LATCH 2 0 = 4 then s.clearStartFail.1 else s

/-- HERD_GROUPS join the target at the start of the muster (R239, R240): a running power-down takes them into the pending slot, and
in `REST` or a running shutdown the power-up waits for its end. Log entry 34 (DEDUCED). -/
def State.herdJoin (s : State) : State :=
  let g := s.herdGroups &&& ~~~(BitVec.ofNat 8 (bitsOf 8 fun k => s.act (9 + k)))
  match s.seq.st with
  | .allOff => s.startUp g
  | .steady => s.startUp g
  | .powerUp => s.startUp g
  | .powerDown => { s with seq.slot := s.seq.slot ||| g }
  | _ => { s with seq.target := s.seq.target ||| g }

/-- The muster begins: step 0, the HERD record of kind 1, and a latched state found there aborts it (R243 reason 6).
Log entry 34 (DEDUCED). -/
def State.muster (s : State) (width : Nat) : State :=
  let s : State := { s with herd := { s.herd with st := .muster, step := 0, stepPt := s.ptNow, holdOff := s.herdLead,
                                                  requested := false, aborting := none, called := false } }
  let s := (s.postHerd 1 0 width).followerClear
  if s.seq.st = .startFail || s.seq.st = .faultOff then s.herdAbort 6 else s.herdJoin

/-- The lead drives the start pulse of 5 µs; the muster begins at its rising edge, where every member classifies it (R239).
Log entry 34 (DEDUCED). -/
def execHerdMusterStart (s : State) : Out :=
  .next (if s.herdRuns && s.herdLead && s.herd.st = .herdOff && s.herd.requested && !s.herdPulsing then s.herdLow 480 else s)

/-- `START_FAIL` of kind 4 is latched, unless a start failure is latched already, and the rails are shut down as R188 (c) states,
unless a shutdown or a latched state stands in its place (R241 (b), R244). Log entry 35 (DEDUCED). -/
def State.herdFail (s : State) (reason : Nat) : State :=
  let target := s.seq.target
  let s := if s.failLatched then s else (s.latchFail 0 4).journalFail target reason
  if [.faultOff, .cut, .vinDown, .startAbort, .startFail].contains s.seq.st then
    { s with seq.target := 0, seq.slot := 0, herd.requested := false }
  else s.enterShutdown .startAbort true

/-- No muster within T_MUSTER: the lead latches `START_FAIL` of kind 4 (R241 (b)). Log entry 35 (DEDUCED). -/
def State.musterBlocked (s : State) : State :=
  let s := (s.setReg Reg.SEQ_HERD_ABORT (pack [(10, 0), (s.herd.step, 8)])).postHerd 10 10 0
  s.herdFail 10

/-- A request that the sample of this decision point ends is blocked no more. Log entry 34 (DEDUCED). -/
def execHerdMusterBlocked (s : State) : Out :=
  .next (if s.herdRuns && s.herdLead && s.herd.st = .herdOff && s.herd.requested then
      s.atPoint 0 fun s => if s.herd.requested then s.musterBlocked else s
    else s)

/-- Log entry 35 (DEDUCED). -/
def execHerdMusterHoldExpiry (s : State) : Out :=
  .next (if s.herdRuns then { s with herd.holdOff := false } else s)

/-! ### Steps (R239) -/

/-- A step edge: the line is high. -/
def State.stepEdge (s : State) : State :=
  let h := { s.herd with line := true }
  let up := h.st = .muster || h.st = .stepUp
  if up && h.step < s.herdSteps then { s with herd := { h with st := .stepUp, step := h.step + 1, stepPt := s.ptNow } }
  else if up then State.postHerd { s with herd := { h with st := .running, stepPt := s.ptNow } } 2 0 0
  else if h.st = .stepDown && 1 < h.step then { s with herd := { h with step := h.step - 1, stepPt := s.ptNow } }
  else if h.st = .stepDown then
    let s : State := { s with herd := { h with st := .herdOff } }
    (s.postHerd 5 0 0).finishOffs true false
  else s

/-- No edge ends a step while this controller holds the line. -/
def execHerdStepEdge (s : State) : Out :=
  .next (if s.herdRuns && !s.herdWork then s.atPoint 0 fun s => s.stepEdge else s)

def execHerdEmptyStep (s : State) : Out :=
  .next (if s.herdRuns && !s.herdWork && s.herd.st ≠ .muster then s.atPoint 0 fun s => s.stepEdge else s)

/-- A step timeout of a power-up (R243 reason 7, R244). Log entry 35 (DEDUCED). -/
def State.stepTimeout (s : State) : State :=
  let s := if s.herdWork then s.herdAbort 7 else s
  let reason := s.herd.aborting.getD 8
  let step := s.herd.step
  let s := (s.setReg Reg.SEQ_HERD_ABORT (pack [(reason, 0), (step, 8)])).inc Reg.SEQ_HERD_CNT_B 31 16
  let s : State := { s with herd := { s.herd with st := .abort, aborting := none, requested := false, line := false } }
  (s.postHerd 6 reason 0).herdFail reason

def execHerdStepTimeout (s : State) : Out :=
  .next (if s.herdRuns && (s.herd.st = .muster || s.herd.st = .stepUp) then s.atPoint 0 fun s => s.stepTimeout else s)

/-- Log entry 35 (DEDUCED). -/
def State.downTimeout (s : State) : State :=
  let s := (s.inc Reg.SEQ_HERD_CNT_B 31 16).setFlag Reg.SEQ_HERD_STATUS 20 true
  let s : State := { s with herd.st := .herdOff, herd.line := false }
  (s.postHerd 9 0 0).finishOffs true false

def execHerdDownTimeout (s : State) : Out :=
  .next (if s.herdRuns && s.herd.st = .stepDown then s.atPoint 0 fun s => s.downTimeout else s)

/-! ### Pulses (R237, R246) -/

/-- An invalid pulse is counted; its record comes at most once per second (R249). -/
def State.invalidPulse (s : State) (w : Nat) : State :=
  let s := (s.inc Reg.SEQ_HERD_CNT_B 15 0).herdPulse 1 w
  let due := match s.herd.invalidPt with
    | none => true
    | some p => decide (ms 1000 ≤ s.since p)
  if due then State.postHerd { s with herd.invalidPt := some s.ptNow } 8 0 w else s

/-- A call: the stepped shutdown of every Herd group begins (R246). -/
def State.herdCall (s : State) (w : Nat) : State :=
  let s := (s.inc Reg.SEQ_HERD_CNT_A 15 0).herdPulse 3 w
  let s : State := { s with herd := { s.herd with st := .stepDown, step := s.herdSteps, stepPt := s.ptNow, called := false } }
  let s := s.postHerd 3 0 w
  let g := s.herdGroups &&& (s.seq.target ||| s.seq.slot)
  if g = 0 then s else s.offLocal g 0

def State.classify (s : State) (w : Nat) : State :=
  let off := decide (s.herd.st = .herdOff)
  if w < 96 || !(off || s.herd.st = .running) then s
  else if w < 288 || (768 < w && w < 960) then s.invalidPulse w
  else if w ≤ 768 then
    if off then (s.herdPulse 2 w).muster w else s.herdCall w
  else if off then s.herdPulse 5 w
  else s

/-- A pulse ends: the line is high. -/
def execHerdPulseClassify (w : BitVec 24) (s : State) : Out :=
  .next (if s.herdRuns then s.atPoint 0 fun s => State.classify { s with herd.line := true } w.toNat else s)

/-! ### Alarms (R247) -/

/-- The line has been low for 10 µs in `RUNNING`. -/
def State.herdAlarmed (s : State) : State :=
  let s := (s.inc Reg.SEQ_HERD_CNT_A 31 16).herdPulse 4 960
  let reason := if s.herd.issued then 9 else 0
  let s : State := { s with herd := { s.herd with st := .alarmed, issued := false, called := false, line := false } }
  ((s.postHerd 4 reason 960).setNode 67 true).applyActions

def execHerdAlarmClassify (s : State) : Out :=
  .next (if s.herdRuns && s.herd.st = .running then s.herdAlarmed else s)

def execHerdAlarmQuiet (s : State) : Out :=
  .next (if s.herdRuns && s.herd.st = .alarmed then
      (State.setNode { s with herd.st := .herdOff, herd.line := true } 67 false).applyActions
    else s)

/-! ### Sleep and counters -/

/-- A falling edge on HERD in `HERD_OFF`: it wakes a sleeping member (R242), and is a source detected while awake (R463). -/
def execHerdKennelWake (s : State) : Out :=
  .next (if s.live && s.herdOn && s.herd.st = .herdOff then State.wakeDetect { s with herd.line := false } 0x0B else s)

/-- The restart edge of a wake by the HERD edge: the member joins a muster whose line it finds low (R239, R242). -/
def State.herdResume (s : State) (lineLow : Bool) : State :=
  let s : State := { s with herd.line := !lineLow }
  if s.herdOn && s.herd.st = .herdOff && lineLow && (s.pmc.fired.any fun e => e.2.1 = 0x0B) then s.muster 0 else s

/-- SEQ.HERD_CNT_CLR (R251). -/
def State.herdCntClr (s : State) (v : Word) : State :=
  s.clearBy v [(0, Reg.SEQ_HERD_CNT_A, 15, 0), (1, Reg.SEQ_HERD_CNT_A, 31, 16),
    (2, Reg.SEQ_HERD_CNT_B, 15, 0), (3, Reg.SEQ_HERD_CNT_B, 31, 16)]

end Sys2Proof.Machine
end

