-- ==== Sys2Proof/Machine/Keys.lean ====
section
/-!
DEFINITION. The key matrix and the direct inputs: scans, line checks, debounce, ghost rectangles, stuck nodes, wake, and
dual-channel pairs (04_key_matrix.md).
-/

namespace Sys2Proof.Machine

/-! ### Configuration -/

/-- Role code of matrix node `n` (R92). -/
def State.keyRole (s : State) (n : Nat) : Nat := s.fld (Reg.KEYS_NODE_CFG (n / 4)) (8 * (n % 4) + 1) (8 * (n % 4))

/-- The node is wake-enabled: WAKE_ONLY always, KEY and SAFETY with WAKE set (R92). -/
def State.keyWake (s : State) (n : Nat) : Bool :=
  let r := s.keyRole n
  r = 3 || (r ≠ 0 && s.flag (Reg.KEYS_NODE_CFG (n / 4)) (8 * (n % 4) + 2))

/-- Drive line `d` is in use (R88). -/
def State.kdUsed (s : State) (d : Nat) : Bool := (List.range 16).any fun k => s.keyRole (16 * d + k) ≠ 0

/-- Sense line `k` is in use. -/
def State.ksUsed (s : State) (k : Nat) : Bool := (List.range 16).any fun d => s.keyRole (16 * d + k) ≠ 0

/-- The line has failed (R91): KD 0–15, KS 16–31. -/
def State.lineFailed (s : State) (l : Nat) : Bool := s.flag Reg.KEYS_LINE_FAULT l

/-- The node has a role and lies on lines that have not failed. -/
def State.keyLive (s : State) (n : Nat) : Bool :=
  s.keyRole n ≠ 0 && !s.lineFailed (n / 16) && !s.lineFailed (16 + n % 16)

/-- The effective period in half milliseconds: in reduced service the longer of 2 ms and the Plan value (R47, R89). -/
def State.keyPeriod (s : State) : Nat :=
  let p := s.fld Reg.KEYS_CTRL 7 4 + 1
  if s.fullService then p else max 4 p

/-- Debounce count of a role (R94). -/
def State.keyD (s : State) (role : Nat) : Nat :=
  let t := if role = 2 then s.fld Reg.KEYS_DEBOUNCE 15 8 else s.fld Reg.KEYS_DEBOUNCE 7 0
  max 2 ((2 * t + s.keyPeriod - 1) / s.keyPeriod)

/-! ### Nodes -/

/-- The kept state of node `n`. -/
def State.key (s : State) (n : Nat) : KeyNode := s.keys.nodes.getD n {}

def State.setKey (s : State) (n : Nat) (x : KeyNode) : State :=
  { s with keys.nodes := s.keys.nodes.setIfInBounds n x }

/-- Register and bit of node `n` in KEYS.STATE, WITHHELD and STUCK. -/
def keyBit (n : Nat) : Nat := 16 * (n / 16 % 2) + n % 16

def State.keyStuck (s : State) (n : Nat) : Bool := s.flag (Reg.KEYS_STUCK (n / 32)) (keyBit n)

/-- A safety slot that names node `n`. Log entry 20 (DESIGN CHOICE). -/
def State.slotOf (s : State) (n : Nat) : Option Nat :=
  (List.range 32).find? fun k => s.flag (Reg.KEYS_SAFETY_SLOT k) 31 && s.fld (Reg.KEYS_SAFETY_SLOT k) 7 0 = n

/-! ### Records (R112 to R114) -/

/-- INPUT record of a matrix node accepted at `dec`. Log entry 20 (DESIGN CHOICE). -/
def State.postKey (s : State) (n : Nat) (st resolved woke : Bool) (p dec : Time) : State :=
  let role := s.keyRole n
  if role = 3 && !woke then s
  else s.postAt p 0x01 ([0, BitVec.ofNat 8 (b2n st + 2 * b2n resolved + 4 * b2n woke + 8 * b2n (s.keyStuck n) + 16 * role)]
    ++ leBytes 2 n ++ leBytes 4 (satN 32 ((dec - p).toNat / 96)) ++ leBytes 8 dec.toNat)

/-- Corner `i` of a rectangle as a node. -/
def Rect.corner (r : Rect) (i : Nat) : Nat := 16 * (if i < 2 then r.d0 else r.d1) + (if i % 2 = 0 then r.s0 else r.s1)

/-- GHOST record at sample point `p`. -/
def State.postGhost (s : State) (p : Time) (reason : Nat) (r : Rect) (corners : Nat) : State :=
  let safety := bitsOf 4 fun i => nbit r.held i && s.keyRole (r.corner i) = 2
  s.postAt p 0x02 ([reason, r.d0, r.d1, r.s0, r.s1, corners, safety].map (BitVec.ofNat 8))

/-- STUCK record: kind 1 masked, 2 unmasked. The closing PT of a node that is withheld is that of its first closed reading. LOST_WAKE
counts the other wake-enabled nodes of the sense line that are not stuck themselves (R104), and is 0 in a record of kind 2, which
removes none: R104 and R114 say neither. Log entry 85 (DESIGN CHOICE). -/
def State.postStuck (s : State) (kind n : Nat) : State :=
  let lost := ((List.range 16).filter fun d => 16 * d + n % 16 ≠ n && s.keyWake (16 * d + n % 16) &&
    !s.keyStuck (16 * d + n % 16)).length
  let y := s.key n
  let p := if y.accepted then y.closePt else y.firstPt.getD y.closePt
  s.post 0x03 ([BitVec.ofNat 8 kind, BitVec.ofNat 8 (s.keyRole n)] ++ leBytes 2 n ++
    [BitVec.ofNat 8 (n % 16), BitVec.ofNat 8 (if kind = 1 then lost else 0), 0, 0] ++ leBytes 8 p.toNat)

/-- A stuck node is unmasked (R105). -/
def State.unstick (s : State) (n : Fin 256) : State :=
  (s.setFlag (Reg.KEYS_STUCK (n / 32)) (keyBit n) false).postStuck 2 n

/-! ### Line checks (R90, R91) -/

/-- Lines that fail in this scan: KD in bits 0–15, KS in bits 16–31. A reading of closed at an UNUSED crossing or on a
failed line is ignored (R91, R92). -/
def State.failedLines (s : State) (x : ScanData) : Nat :=
  let closedAt (d k : Nat) := (x.closed.getD d 0).getLsbD k
  let readClosed (d k : Nat) := s.keyLive (16 * d + k) && (closedAt d k || (s.keys.prev.getD d 0).getLsbD k)
  let shorted (b : Nat) := (List.range 16).any fun a => a ≠ b && s.kdUsed a && (x.readback.getD a 0).getLsbD b &&
    !((List.range 16).any fun k => s.ksUsed k && closedAt a k && readClosed b k)
  bitsOf 32 fun l =>
    if l < 16 then s.kdUsed l && (x.driveHigh.getLsbD l || x.checkKd.getLsbD l || shorted l)
    else s.ksUsed (l - 16) && x.checkKs.getLsbD (l - 16)

/-- The nodes of a line are sources of the safety slots of its SAFETY nodes; used in a rule as R490 says. -/
def State.lineUsed (s : State) (l : Nat) : Bool :=
  (List.range 32).any fun k => s.flag (Reg.KEYS_SAFETY_SLOT k) 31 &&
    (let n := s.fld (Reg.KEYS_SAFETY_SLOT k) 7 0
     (if l < 16 then n / 16 = l else n % 16 = l - 16) && s.keyRole n = 2) && s.nodeUsed k

/-- A line fails: LINE_FAULT, and the BIST engine's code 0x10 with its class by R491. -/
def State.failLine (s : State) (l : Nat) : State :=
  let s := s.setFlag Reg.KEYS_LINE_FAULT l true
  if s.lineUsed l then s.classS 0x10 l 0
  else (s.setFlag Reg.BIST_UNUSABLE_LINES l true).classD 0x10 l 0

/-! ### Ghost rectangles (R98 to R101) -/

/-- Node `n` counts as a closed corner: live, and accepted closed or read closed in this scan. -/
def State.cornerClosed (s : State) (x : ScanData) (n : Nat) : Bool :=
  s.keyLive n && ((s.key n).accepted || (x.closed.getD (n / 16) 0).getLsbD (n % 16))

/-- The rectangles that are full in this scan. -/
def State.fullRects (s : State) (x : ScanData) : List (Nat × Nat × Nat × Nat) :=
  let row (d : Nat) := (List.range 16).filter fun k => s.cornerClosed x (16 * d + k)
  let rows := ((List.range 16).map fun d => (d, row d)).filter fun p => 2 ≤ p.2.length
  rows.flatMap fun a => rows.flatMap fun b =>
    if a.1 < b.1 then
      let both := a.2.filter fun k => b.2.contains k
      both.flatMap fun k => (both.filter fun m => k < m).map fun m => (a.1, b.1, k, m)
    else []

/-- Node `n` is withheld by a full rectangle. -/
def Keys.withheld (k : Keys) (n : Nat) : Bool :=
  k.rects.any fun r => !r.judging && (List.range 4).any fun i => nbit r.held i && r.corner i = n

/-- Node `n` is being judged. -/
def Keys.inJudgement (k : Keys) (n : Nat) : Bool :=
  k.rects.any fun r => r.judging && (List.range 4).any fun i => nbit r.held i && !nbit r.judged i && r.corner i = n

/-- The rectangle's coordinates. -/
def Rect.at (r : Rect) : Nat × Nat × Nat × Nat := (r.d0, r.d1, r.s0, r.s1)

/-- Corners of other rectangles in judgement that are withheld again lose that judgement (R100). -/
def Rect.yield (r : Rect) (nodes : List Nat) : Rect :=
  if r.judging then { r with judged := r.judged ||| bitsOf 4 fun i => nbit r.held i && nodes.contains (r.corner i) } else r

/-- A rectangle becomes full at the sample point of its higher drive line: its new corners are withheld and a GHOST record names
them (R98, R99, R113). -/
def State.rectFull (s : State) (dec : Nat → Time) (q : Nat × Nat × Nat × Nat) : State :=
  let r : Rect := ⟨q.1, q.2.1, q.2.2.1, q.2.2.2, 0, false, 0, 0, [0, 0, 0, 0]⟩
  let new := bitsOf 4 fun i => !(s.key (r.corner i)).accepted
  if new = 0 then s
  else
    let r : Rect := { r with held := new }
    let nodes := ((List.range 4).filter fun i => nbit new i).map r.corner
    let others := (s.keys.rects.filter fun x => x.at ≠ q).map fun x => x.yield nodes
    let s : State := { s with keys.rects := others ++ [r] }
    (s.postGhost (dec (r.corner 2)) (if nodes.length = 1 then 1 else 2) r new).inc Reg.KEYS_GHOST_CNT 15 0

/-- A withheld node is discarded: accepted open, no record (R100). Its closing PT stays for the STUCK record of its unmasking
(R114). -/
def State.discardKey (s : State) (n : Nat) : State :=
  let y := s.key n
  s.setKey n { y with count := 0, settled := 0, firstPt := none, closePt := y.firstPt.getD y.closePt, slotHeld := false, woke := false }

/-- A wake-enabled node is accepted closed while awake: source 0x02 is detected, unless this closure woke the controller (R191 (d),
R463). Log entry 23 (DEDUCED). -/
def State.keySource (s : State) (n : Nat) (closed woke : Bool) : State :=
  if closed && !woke && s.keyWake n then s.wakeDetect 0x02 else s

/-- One corner of a broken rectangle on this scan's reading. `first` marks the break scan, which only discards. A corner that
another full rectangle still withholds, or withholds again, counts as judged here and as not reported: its own judgement is
then that rectangle's, and R100 does not say when the broken one may end. Log entry 85 (DESIGN CHOICE). -/
def State.judgeCorner (s : State) (x : ScanData) (first : Bool) (dec : Nat → Time) (r : Rect) (i : Nat) : State × Rect :=
  let n := r.corner i
  if !nbit r.held i || nbit r.judged i then (s, r)
  else if s.keys.withheld n then (s, { r with judged := r.judged ||| 2 ^ i })
  else if !(x.closed.getD (n / 16) 0).getLsbD (n % 16) || !s.keyLive n then
    (s.discardKey n, { r with judged := r.judged ||| 2 ^ i })
  else if first then (s, r)
  else
    let k := r.run.getD i 0 + 1
    let r : Rect := { r with run := r.run.set i k }
    if k < s.keyD (s.keyRole n) then (s, r)
    else
      let y := s.key n
      let p := y.firstPt.getD (dec n)
      let s := s.setKey n { y with accepted := true, count := 0, settled := 0, firstPt := none, closePt := p }
      ((s.postKey n true true y.woke p (dec n)).keySource n true y.woke, { r with judged := r.judged ||| 2 ^ i, reported := r.reported ||| 2 ^ i })

/-- One rectangle at this scan: a full one stays, one no longer full breaks, a broken one is judged; when its last
corner has been judged a GHOST record of reason 3 ends it, at the sample point of that corner (R100, R113). -/
def State.rectStep (s : State) (x : ScanData) (full : List (Nat × Nat × Nat × Nat)) (dec : Nat → Time) (r : Rect) : State :=
  if !r.judging && full.contains r.at then { s with keys.rects := s.keys.rects ++ [r] }
  else
    let first := !r.judging
    let before := r.judged
    let (s, r) := (List.range 4).foldl (fun (a : State × Rect) i => a.1.judgeCorner x first dec a.2 i) (s, { r with judging := true })
    let last := if nbit (r.judged ^^^ before) 2 || nbit (r.judged ^^^ before) 3 then r.corner 2 else r.corner 0
    if r.judged &&& r.held = r.held then s.postGhost (dec last) 3 r r.reported
    else { s with keys.rects := s.keys.rects ++ [r] }

/-- Ghost logic of one scan (R98 to R102). -/
def State.ghosts (s : State) (x : ScanData) (dec : Nat → Time) : State :=
  if s.flag Reg.KEYS_CTRL 1 then s
  else
    let full := s.fullRects x
    let old := s.keys.full
    let rs := s.keys.rects
    let s : State := { s with keys.rects := rs.filter fun r => !r.judging && full.contains r.at }
    let s := (rs.filter fun r => r.judging || !full.contains r.at).foldl (fun s r => s.rectStep x full dec r) s
    let s := (full.filter fun q => !old.contains q).foldl (fun s q => s.rectFull dec q) s
    { s with keys.full := full }

/-! ### Debounce (R94 to R97) -/

/-- One node at one scan with its reading and sample point. -/
def State.debounce (s : State) (n : Nat) (closed : Bool) (sample : Time) : State :=
  let y := s.key n
  let d := s.keyD (s.keyRole n)
  let y : KeyNode := { y with openRun := if closed then 0 else y.openRun + 1 }
  if closed = y.accepted then
    let k := min d (y.settled + 1)
    let hold := s.keys.withheld n || s.keys.inJudgement n
    s.setKey n { y with count := 0, settled := k, firstPt := if d ≤ k && !hold then none else y.firstPt,
                        woke := y.woke && !(decide (d ≤ k)) }
  else
    let y : KeyNode := { y with count := min d (y.count + 1), settled := 0, firstPt := some (y.firstPt.getD sample) }
    if y.count < d then s.setKey n y
    else if s.keys.withheld n || s.keys.inJudgement n then
      s.setKey n { y with slotHeld := y.slotHeld || s.keyRole n = 2 }
    else
      let p := y.firstPt.getD sample
      let s := s.setKey n { y with accepted := closed, count := 0, settled := 0, firstPt := none, slotHeld := false,
                                   closePt := if closed then p else y.closePt, woke := false }
      (s.postKey n closed false y.woke p sample).keySource n closed y.woke

/-- A stuck node that has read open in D scans is unmasked (R105). -/
def State.unstickScan (s : State) (n : Fin 256) : State :=
  if s.keyStuck n && s.keyD (s.keyRole n) ≤ (s.key n).openRun then s.unstick n else s

/-- Safety slot `k` and its Hedge node (R93). -/
def State.slotEval (s : State) (k : Nat) : State :=
  let n := s.fld (Reg.KEYS_SAFETY_SLOT k) 7 0
  s.setNode k (s.flag (Reg.KEYS_SAFETY_SLOT k) 31 && s.keyRole n = 2 &&
    ((s.key n).accepted || (s.key n).slotHeld || s.lineFailed (n / 16) || s.lineFailed (16 + n % 16)))

/-- The accepted and withheld images of KEYS.STATE and KEYS.WITHHELD. -/
def State.keyImages (s : State) : State :=
  (List.range 8).foldl (fun s w =>
    let at32 (f : Nat → Bool) := BitVec.ofNat 32 (bitsOf 32 fun b => f (32 * w + 16 * (b / 16) + b % 16))
    (s.setReg (Reg.KEYS_STATE w) (at32 fun n => (s.key n).accepted)).setReg (Reg.KEYS_WITHHELD w)
      (at32 fun n => s.keys.withheld n || s.keys.inJudgement n)) s

/-- After a matrix wake the first resumed scan names the node: the lowest wake-enabled one read closed (R108).
Log entry 74 (DEDUCED). -/
def State.nameWake (s : State) (x : ScanData) : State :=
  match s.keys.wakePt with
  | none => s
  | some p =>
    let n := (List.range 256).find? fun n => s.keyWake n && s.keyLive n && (x.closed.getD (n / 16) 0).getLsbD (n % 16)
    let s := (s.setFld Reg.KEYS_WAKE_NODE 15 0 (n.getD 0xFFFF))
    let s : State := { s with keys.wakePt := none }
    match n with
    | some n => s.setKey n { s.key n with firstPt := some p, woke := true }
    | none => s

/-- KEYS.STATUS (R116). -/
def State.keyStatus (s : State) : State :=
  s.setReg Reg.KEYS_STATUS (pack [(b2n (s.keyPeriod ≠ s.fld Reg.KEYS_CTRL 7 4 + 1), 0), (s.keyPeriod - 1, 4),
    (s.keyD 2, 16), (s.keyD 1, 24)])

/-- One matrix scan (R89), its start at the present PT: drive line d is sampled d × 31.25 µs plus the settle time
later. Log entry 20 (DESIGN CHOICE). -/
def State.scan (s : State) (x : ScanData) : State :=
  let start := s.time.pt
  let settle := s.fld Reg.KEYS_CTRL 20 16
  let sample (n : Nat) : Time := start + BitVec.ofNat 64 (n / 16 * 3000 + us settle)
  let failed := s.failedLines x
  let s := s.keyStatus
  let s := (List.range 32).foldl (fun s l => if nbit failed l && !s.lineFailed l then s.failLine l else s) s
  let s := s.nameWake x
  let s := s.ghosts x sample
  let s := (List.finRange 256).foldl (fun s (n : Fin 256) =>
    if s.keyLive n then (s.debounce n ((x.closed.getD (n / 16) 0).getLsbD (n % 16)) (sample n)).unstickScan n else s) s
  let s : State := { s with keys.prev := x.closed }
  ((List.range 32).foldl (fun s k => s.slotEval k) s).keyImages

/-- Scanning is enabled and the controller is awake with a Plan. -/
def State.scanOn (s : State) : Bool := s.flag Reg.KEYS_CTRL 0 && s.dev.planLoaded && !s.asleep

/-- Log entry 20 (DESIGN CHOICE). -/
def execMatrixScan (scan : ScanData) (s : State) : Out := .next (if s.scanOn then s.scan scan else s)

/-! ### Stuck nodes and wake (R103 to R107) -/

def execStuckTimeout (node : Fin 256) (s : State) : Out :=
  .next (if s.keyRole node ≠ 0 && ((s.key node).accepted || s.keys.withheld node || s.keys.inJudgement node) &&
      !s.keyStuck node then
      ((s.setFlag (Reg.KEYS_STUCK (node / 32)) (keyBit node) true).inc Reg.KEYS_STUCK_CNT 15 0).postStuck 1 node
    else s)

/-- A matrix wake is detected, where the PMC enables source 0x02 (R463): the tick is kept for the node that the first resumed scan
names (R108). -/
def State.matrixWake (s : State) : State :=
  if s.flag Reg.PMC_WAKE_EN 1 then
    State.wakeDetect { s with keys.wakePt := some (s.keys.wakePt.getD s.ptNow) } 0x02
  else s

/-- One node at a Kennel scan: two closed readings after an open one wake; two open readings unmask a stuck node. -/
def State.kennelNode (s : State) (n : Fin 256) (closed : Bool) : State :=
  let y := s.key n
  if s.keyStuck n then
    let s := s.setKey n { y with openRun := if closed then 0 else y.openRun + 1, sleptOpen := y.sleptOpen || !closed, kRun := 0 }
    if !closed && 1 ≤ y.openRun then s.unstick n else s
  else if !closed then s.setKey n { y with sleptOpen := true, kRun := 0 }
  else if y.sleptOpen then
    let s := s.setKey n { y with kRun := y.kRun + 1 }
    if y.kRun + 1 = 2 then s.matrixWake else s
  else s

/-- The Kennel scanner and the any-key detector read what is wake-enabled, whatever KEYS.CTRL.ENABLE holds: R106, R107 and R116
do not say that ENABLE governs them. Log entry 85 (DESIGN CHOICE). -/
def execKennelScan (closed : Vector (BitVec 16) 16) (s : State) : Out :=
  .next (if s.inSleep then
      (List.finRange 256).foldl (fun s (n : Fin 256) =>
        if s.keyLive n && (s.keyWake n || s.keyStuck n) then s.kennelNode n ((closed.getD (n / 16) 0).getLsbD (n % 16)) else s) s
    else s)

/-- Sense line `k` is watched in Deep sleep: it holds a wake-enabled node and no masked one (R104 (b), R107). -/
def State.ksWatched (s : State) (k : Nat) : Bool :=
  ((List.range 16).any fun d => s.keyWake (16 * d + k)) && !((List.range 16).any fun d => s.keyStuck (16 * d + k))

/-- Log entry 85 (DESIGN CHOICE). -/
def execAnyKeyDetect (line : Fin 16) (s : State) : Out :=
  .next (if s.inDeepSleep && s.ksWatched line then s.matrixWake else s)

/-! ### Direct inputs (R109 to R111, R539) -/

/-- Role code of direct input `n`. -/
def State.diRole (s : State) (n : Nat) : Nat := s.fld (Reg.KEYS_DI_CFG n) 1 0

/-- Pair `k` is declared dual-channel. -/
def State.diPaired (s : State) (k : Nat) : Bool := s.flag (Reg.KEYS_DI_CFG (2 * k)) 9

def State.setDi (s : State) (n : Fin 16) (x : DirectIn) : State := { s with keys.di := s.keys.di.set n x }

/-- A direct input by number. -/
def State.di (s : State) (n : Nat) : DirectIn := s.keys.di.getD n {}

/-- Nodes 32 + n of pair `k`: for a declared pair both are active while either input is or the fault is set (R110 (a));
otherwise each follows its own input with role SAFETY. The images of DI_STATE follow. -/
def State.pairNodes (s : State) (k : Nat) : State :=
  let a := s.diRole (2 * k) = 2 && (s.di (2 * k)).accepted
  let b := s.diRole (2 * k + 1) = 2 && (s.di (2 * k + 1)).accepted
  let both := a || b || s.flag Reg.KEYS_DI_PAIR_STATUS k
  let s := if s.diPaired k then (s.setNode (32 + 2 * k) both).setNode (33 + 2 * k) both
    else (s.setNode (32 + 2 * k) a).setNode (33 + 2 * k) b
  [2 * k, 2 * k + 1].foldl (fun s n =>
    (s.setFlag Reg.KEYS_DI_STATE n (s.di n).accepted).setFlag Reg.KEYS_DI_STATE (16 + n) (s.di n).level) s

/-- INPUT record with SOURCE 1 or 2 (R112). -/
def State.postDi (s : State) (source index : Nat) (st woke : Bool) (role : Nat) (p : Time) : State :=
  s.postAt p 0x01 ([BitVec.ofNat 8 source, BitVec.ofNat 8 (b2n st + 4 * b2n woke + 16 * role)] ++ leBytes 2 index ++
    leBytes 4 (satN 32 ((s.ptNow - p).toNat / 96)) ++ leBytes 8 s.ptNow.toNat)

/-- An edge: the level is kept, the debounce restarts, and the first edge is stamped (R109). -/
def State.diEdge (s : State) (n : Fin 16) (high : Bool) : State :=
  let x := s.keys.di[n]
  let l := high != s.flag (Reg.KEYS_DI_CFG n) 3
  let s := s.setDi n { x with level := l, timing := true, firstPt := some (x.firstPt.getD s.time.pt), edgePt := s.time.pt }
  s.setFlag Reg.KEYS_DI_STATE (16 + n) l

/-- The level of input `n` after polarity, with its image in DI_STATE.RAW (R116). -/
def State.diLevel (s : State) (n : Fin 16) (l : Bool) : State :=
  (s.setDi n { s.keys.di[n] with level := l }).setFlag Reg.KEYS_DI_STATE (16 + n) l

/-- In Sleep only the level is kept, for the judgement from the restart edge (R111). -/
def execDiEdge (n : Fin 16) (high : Bool) (s : State) : Out :=
  .next (if s.asleep then s.diLevel n (high != s.flag (Reg.KEYS_DI_CFG n) 3) else s.diEdge n high)

/-- The discrepancy timer of pair `k` runs while the accepted states differ (R110 (b)). -/
def State.pairTimer (s : State) (k : Nat) : State :=
  let d := s.diPaired k && ((s.di (2 * k)).accepted != (s.di (2 * k + 1)).accepted)
  { s with keys.pairTiming := if d then s.keys.pairTiming ||| BitVec.ofNat 8 (2 ^ k)
                              else s.keys.pairTiming &&& ~~~(BitVec.ofNat 8 (2 ^ k)) }

/-- Both inputs of the pair have been accepted inactive for the longer of their debounce times (R110 (c)). -/
def State.pairQuiet (s : State) (k : Nat) : Bool :=
  let a := s.di (2 * k)
  let b := s.di (2 * k + 1)
  let db := max (s.fld (Reg.KEYS_DI_CFG (2 * k)) 31 24) (s.fld (Reg.KEYS_DI_CFG (2 * k + 1)) 31 24)
  !a.accepted && !b.accepted && decide (db * 24000 ≤ s.since a.acceptPt) && decide (db * 24000 ≤ s.since b.acceptPt)

/-- The pair fault clears, with its record (R110 (c)). -/
def State.pairClear (s : State) (k : Nat) : State :=
  if s.flag Reg.KEYS_DI_PAIR_STATUS k && s.pairQuiet k then
    (s.setFlag Reg.KEYS_DI_PAIR_STATUS k false).postDi 2 k false false 2 s.ptNow
  else s

/-- The level has held for the debounce time: it becomes the accepted state (R109). An expiry that changes nothing is the
end of the pair's own quiet time. One that may wake the controller is a source detected while awake (R463).
Log entry 23 (DEDUCED). -/
def State.diAccept (s : State) (n : Fin 16) : State :=
  let x := s.keys.di[n]
  let k := n.val / 2
  let role := s.diRole n
  if role = 0 then s.setDi n { x with timing := false, firstPt := none }
  else if x.level = x.accepted then
    ((s.setDi n { x with timing := false, firstPt := none, woke := false }).pairClear k).pairNodes k
  else
    let p := x.firstPt.getD s.time.pt
    let s := s.setDi n { x with
      accepted := x.level, timing := false, firstPt := none, woke := false, acceptPt := s.time.pt }
    let s := if role = 3 && !x.woke then s else s.postDi 1 n x.level x.woke role p
    let s := if x.level && !x.woke && (role = 3 || s.flag (Reg.KEYS_DI_CFG n) 8) then s.wakeDetect 0x03 n else s
    ((s.pairTimer k).pairClear k).pairNodes k

def execDiDebounceExpiry (n : Fin 16) (s : State) : Out := .next (if s.asleep then s else s.diAccept n)

def execPairDiscrepancyTimeout (k : Fin 8) (s : State) : Out :=
  .next (if s.keys.pairTiming.getLsbD k && !s.flag Reg.KEYS_DI_PAIR_STATUS k then
      (((s.setFlag Reg.KEYS_DI_PAIR_STATUS k true).inc Reg.KEYS_PAIR_FAULT_CNT 15 0).postDi 2 k true false 2
        s.ptNow).pairNodes k
    else s)

/-- The edge toward the active state of an input that may wake the controller; where the PMC does not enable source 0x03 (R463) it
is one of the edges that are not recorded (R111). -/
def State.diWake (s : State) (n : Fin 16) : State :=
  let s := s.diLevel n true
  if s.flag Reg.PMC_WAKE_EN 2 then
    let x := s.keys.di[n]
    (s.setDi n { x with firstPt := if x.woke then x.firstPt else some s.ptNow, woke := true }).wakeDetect 0x03 n
  else s

/-- In Sleep and Deep sleep an input with WAKE set or role WAKE_ONLY wakes the controller (R111). -/
def execDiKennelWake (n : Fin 16) (s : State) : Out :=
  .next (if s.asleep && (s.diRole n = 3 || (s.diRole n ≠ 0 && s.flag (Reg.KEYS_DI_CFG n) 8)) then s.diWake n else s)

/-- Plan load: the Plan's polarity takes effect on the pin's level, the accepted state is active for a SAFETY input and
inactive for every other role, and the level at the load is its first edge (R539). -/
def State.diInit (s : State) : State :=
  let s := (List.finRange 16).foldl (fun s (n : Fin 16) =>
    let x := s.keys.di[n]
    s.setDi n { level := x.level != s.flag (Reg.KEYS_DI_CFG n) 3, accepted := s.diRole n = 2, timing := true,
                firstPt := some s.time.pt, edgePt := s.time.pt, acceptPt := s.time.pt }) s
  (List.range 8).foldl (fun s k => (s.pairTimer k).pairNodes k) s

/-- After a sleep every debounce count is cleared and every input judged again from the restart edge, its level there the
first edge (R108, R111). A withheld node keeps its closing PT, and a judgement under way begins its count anew (R100). -/
def State.keysResume (s : State) : State :=
  let s : State := { s with keys.rects := s.keys.rects.map fun r => { r with run := [0, 0, 0, 0] }, keys.nodes := Vector.ofFn fun (n : Fin 256) =>
    let y := s.keys.nodes[n]
    { y with count := 0, settled := 0, openRun := 0, kRun := 0, sleptOpen := false,
             firstPt := if s.keys.withheld n || s.keys.inJudgement n then y.firstPt else none } }
  let s := (List.finRange 16).foldl (fun s (n : Fin 16) =>
    let x := s.keys.di[n]
    s.setDi n { x with timing := true, edgePt := s.time.pt, acceptPt := s.time.pt, firstPt := if x.woke then x.firstPt else some s.time.pt }) s
  (List.range 8).foldl (fun s k => s.pairTimer k) s

/-- At entry to Sleep the Kennel scanner starts from whether each node read open at entry (R106). -/
def State.keysSleep (s : State) : State :=
  (List.range 256).foldl (fun s n =>
    if s.keyWake n || s.keyStuck n then
      s.setKey n { s.key n with sleptOpen := !(s.keys.prev.getD (n / 16) 0).getLsbD (n % 16), kRun := 0, openRun := 0 }
    else s) s

/-- KEYS.CNT_CLR (R115). -/
def State.keysCntClr (s : State) (v : Word) : State :=
  s.clearBy v [(0, Reg.KEYS_GHOST_CNT, 15, 0), (1, Reg.KEYS_STUCK_CNT, 15, 0), (2, Reg.KEYS_PAIR_FAULT_CNT, 15, 0)]

end Sys2Proof.Machine
end

