-- ==== Sys2Proof/Machine/Motion.lean ====
section
/-!
DEFINITION. Wheel encoders and cliff channels (05_encoders_and_cliffs.md).
-/

namespace Sys2Proof.Machine

/-! ### Encoders -/

def State.encOn (s : State) (n : Nat) : Bool := s.flag (Reg.MOTION_ENC_CFG n) 7

def State.setEnc (s : State) (n : Fin 4) (x : Enc) : State := { s with motion.enc := s.motion.enc.set n x }

/-- The largest interval, which also stands for infinite (R122). -/
def infInterval : Nat := 0xFFFFFFFF

/-- Whether the history spans four intervals. -/
def Enc.full (x : Enc) : Bool := decide (5 ≤ x.hist.length)

/-- I at time `t` (R122), saturating. Log entry 29 (DEDUCED). -/
def Enc.interval (x : Enc) (t : Time) : Nat :=
  match x.hist with
  | [p0, _, _, p3, p4] => min infInterval (max (p0 - p4).toNat (t - p3).toNat)
  | _ => infInterval

/-- FLAGS of an ENCODER record (R125). -/
def State.encFlags (s : State) (n : Nat) : Nat :=
  let a := Reg.MOTION_ENC_STATUS n
  b2n (s.flag a 0) + 2 * b2n (s.flag a 3) + 4 * b2n (s.flag a 1) + 8 * b2n (s.flag a 2)

/-- ENCODER record (R125). -/
def State.postEnc (s : State) (n : Fin 4) (kind pos interval : Nat) (p : Time) : State :=
  s.postAt p 0x04 ([BitVec.ofNat 8 n, BitVec.ofNat 8 kind, BitVec.ofNat 8 (s.encFlags n), 0] ++ leBytes 4 pos ++
    leBytes 4 interval ++ leBytes 2 (s.fld (Reg.MOTION_ENC_STATUS n) 31 16))

def State.encPos (s : State) (n : Nat) : Word := s.reg (Reg.MOTION_ENC_POS n)

/-- Node 56 + n and its status bit. -/
def State.setOverspeed (s : State) (n : Fin 4) (b : Bool) : State :=
  (s.setFlag (Reg.MOTION_ENC_STATUS n) 1 b).setNode (56 + n) b

/-- Node 60 + n and its status bit. -/
def State.setEncFault (s : State) (n : Fin 4) (b : Bool) : State :=
  (s.setFlag (Reg.MOTION_ENC_STATUS n) 2 b).setNode (60 + n) b

/-- The overspeed node clears once I has reached OVS_REL (R123 (b)), with its record. -/
def State.ovsClear (s : State) (n : Fin 4) : State :=
  let i := (s.motion.enc[n]).interval s.time.pt
  if s.flag (Reg.MOTION_ENC_STATUS n) 1 && decide (s.fld (Reg.MOTION_ENC_OVS_REL n) 23 0 ≤ i) then
    (s.setOverspeed n false).postEnc n 3 (s.encPos n).toNat i s.time.pt
  else s

/-- Counts consecutive edges below OVS_INT; the OVS_CNT-th raises the node (R123 (a)). -/
def State.ovsJudge (s : State) (n : Fin 4) : State :=
  let x := s.motion.enc[n]
  let i := x.interval s.time.pt
  let lim := s.fld (Reg.MOTION_ENC_OVS n) 23 0
  let k := if i < lim then x.fast + 1 else 0
  let s := s.setEnc n { x with fast := k }
  if lim ≠ 0 && decide (i < lim) && decide (s.fld (Reg.MOTION_ENC_OVS n) 31 24 ≤ k) &&
      !s.flag (Reg.MOTION_ENC_STATUS n) 1 then
    (s.setOverspeed n true).postEnc n 2 (s.encPos n).toNat i s.time.pt
  else s.ovsClear n

/-- The direction of an edge: up for (A, B) = 00, 10, 11, 01, 00; INV exchanges the two (R117). -/
def State.encUp (s : State) (n : Nat) (onB a b : Bool) : Bool :=
  ((a == b) == onB) != s.flag (Reg.MOTION_ENC_CFG n) 6

/-- One accepted edge: position, stamp, history, direction (R117, R121, R122). Log entry 29 (DEDUCED). -/
def State.encEdge (s : State) (n : Fin 4) (up : Bool) : State :=
  let x := s.motion.enc[n]
  let pos := if up then s.encPos n + 1 else s.encPos n - 1
  let hist := if up = s.flag (Reg.MOTION_ENC_STATUS n) 0 then x.hist else []
  let s := s.setEnc n { x with hist := (s.time.pt :: hist).take 5, edgePt := s.time.pt }
  ((s.setReg (Reg.MOTION_ENC_POS n) pos).setFlag (Reg.MOTION_ENC_STATUS n) 0 up).ovsJudge n

/-- The channel decodes: enabled, and the decoder is clocked. Log entry 10 (DESIGN CHOICE). -/
def State.encRuns (s : State) (n : Nat) : Bool := s.encOn n && !s.asleep && !s.flag Reg.BIST_UNUSABLE (12 + n)

/-- The Kennel edge counter of channel `n` takes the count `k`, whether or not the decoder is enabled: reaching WAKE_EDGES is a wake
source (R126). Log entry 29 (DEDUCED). -/
def State.kennelCount (s : State) (n : Fin 4) (k : Nat) : State :=
  let w := s.fld (Reg.MOTION_ENC_WAKE n) 15 0
  let old := (s.motion.enc[n]).kedges
  let s := s.setEnc n { s.motion.enc[n] with kedges := satN 16 k }
  if w ≠ 0 && decide (old < w) && decide (w ≤ k) then s.wakeDetect 0x04 n else s

/-- An edge on either line; in a sleep the Kennel counter counts it, without direction (R126). -/
def execEncoderEdge (n : Fin 4) (onB a b : Bool) (s : State) : Out :=
  .next (if s.asleep then s.kennelCount n ((s.motion.enc[n]).kedges + 1)
    else if s.encRuns n then s.encEdge n (s.encUp n onB a b) else s)

def execOverspeedRelease (n : Fin 4) (s : State) : Out := .next (if s.encRuns n then s.ovsClear n else s)

/-- An illegal transition (R120); the record of kind 4 comes with the one that makes the node active (R124). With the
history cleared I is infinite, which ends an overspeed. -/
def State.encIllegal (s : State) (n : Fin 4) : State :=
  let first := !s.flag (Reg.MOTION_ENC_STATUS n) 2
  let s := (s.setFlag (Reg.MOTION_ENC_STATUS n) 3 true).inc (Reg.MOTION_ENC_STATUS n) 31 16
  let s := (s.setEnc n { s.motion.enc[n] with hist := [], fast := 0 }).setEncFault n true
  let s := if first then s.postEnc n 4 (s.encPos n).toNat infInterval s.time.pt else s
  s.ovsClear n

/-- In a sleep the Kennel counter sees the edges of both lines (R126). -/
def execIllegalTransition (n : Fin 4) (s : State) : Out :=
  .next (if s.asleep then s.kennelCount n ((s.motion.enc[n]).kedges + 2) else if s.encRuns n then s.encIllegal n else s)

def execFaultHoldExpiry (n : Fin 4) (s : State) : Out := .next (if s.asleep then s else s.setEncFault n false)

def execEncoderReport (n : Fin 4) (s : State) : Out :=
  .next (let x := s.motion.enc[n]
    if s.encRuns n && s.fld (Reg.MOTION_ENC_CFG n) 17 8 ≠ 0 && s.encPos n ≠ x.reported then
      (s.setEnc n { x with reported := s.encPos n }).postEnc n 1 (s.encPos n).toNat (x.interval x.edgePt) x.edgePt
    else s)

/-- A read of ENC_POS latches the stamp of the latest edge, and I for that edge at the read (R119, R122).
Log entry 29 (DEDUCED). -/
def State.latchEnc (s : State) (n : Fin 4) : State :=
  let x := s.motion.enc[n]
  ((s.setReg (Reg.MOTION_ENC_EDGE_PT_LO n) (x.edgePt.setWidth 32)).setReg (Reg.MOTION_ENC_EDGE_PT_HI n)
    ((x.edgePt >>> 32).setWidth 32)).setReg (Reg.MOTION_ENC_INTERVAL n) (BitVec.ofNat 32 (x.interval s.time.pt))

/-- The count reaches WAKE_EDGES with the edges that no row of their own has brought. Log entry 29 (DEDUCED). -/
def execMotionWake (n : Fin 4) (s : State) : Out :=
  .next (let w := s.fld (Reg.MOTION_ENC_WAKE n) 15 0
    if s.asleep && decide ((s.motion.enc[n]).kedges < w) then s.kennelCount n w else s)

/-- A write that sets or clears ENABLE: enabling clears the history, disabling drives the nodes inactive (R117, R122). -/
def State.encEnable (s : State) (n : Fin 4) : State :=
  let s := s.setEnc n { s.motion.enc[n] with hist := [], fast := 0 }
  if s.encOn n then s else (s.setOverspeed n false).setEncFault n false

/-- At entry every Kennel edge counter starts from 0, the emitters are off, and no change of FMOD waits (R126, R136). -/
def State.motionSleep (s : State) : State :=
  { s with motion.enc := s.motion.enc.map fun x => { x with kedges := 0 }, motion.modDue := false }

/-- The edges of a sleep that no row of their own has brought, among them none with which a count reaches WAKE_EDGES, are counted by
the restart edge at the latest (R126). Log entry 29 (DEDUCED). -/
def State.lateEdges (s : State) (k : Vector (BitVec 16) 4) : State :=
  { s with motion.enc := Vector.ofFn fun n => { s.motion.enc[n] with kedges := satN 16 (s.motion.enc[n].kedges + k[n].toNat) } }

/-- The restart edge: KEDGES takes the Kennel counts, a channel that moved is uncertain, the histories are empty, and the
channel that woke the controller posts kind 5 (R122, R123, R126, R127). Log entry 29 (DEDUCED). -/
def State.encResume (s : State) : State :=
  (List.finRange 4).foldl (fun s (n : Fin 4) =>
    let k := (s.motion.enc[n]).kedges
    let s := s.setFld (Reg.MOTION_KEDGES n) 15 0 k
    let s := if k ≠ 0 then s.setFlag (Reg.MOTION_ENC_STATUS n) 3 true else s
    let s := (s.setEnc n { s.motion.enc[n] with hist := [], fast := 0 }).ovsClear n
    match s.pmc.fired with
    | (p, 4, d) :: _ => if d = n.val then s.postEnc n 5 k infInterval p else s
    | _ => s) s

/-! ### Cliff channels -/

/-- Role code of cliff channel `n`. -/
def State.clfRole (s : State) (n : Nat) : Nat := s.fld (Reg.MOTION_CLF_CFG n) 1 0

/-- Some cliff channel runs: it is not UNUSED, and self-test has not marked it unusable (R128, R494). -/
def State.anyCliff (s : State) : Bool := (List.range 8).any fun n => s.clfRole n ≠ 0 && !s.flag Reg.BIST_UNUSABLE (4 + n)

/-- The frequency in use: 1 kHz in reduced service and until the first period boundary of full service, then FMOD; 0 while no
channel runs (R136). Log entry 30 (DEDUCED). -/
def State.setFmod (s : State) : State :=
  let runs := s.anyCliff && !s.asleep
  let full := s.fullService && s.pmc.state ≠ .waking && !s.motion.modDue
  s.setReg Reg.MOTION_STATUS (pack [(if !runs then 0 else if full then s.fld Reg.MOTION_CLIFF_CTRL 3 0 else 1, 0),
    (b2n (runs && !full), 8)])

/-- The modulation begins at 1 kHz: the periods count from the present moment (R136). Log entry 30 (DEDUCED). -/
def State.startFmod (s : State) : State := State.setFmod { s with motion.modPt := s.time.pt, motion.modDue := false }

/-- The Plan's FMOD follows at a boundary of the 1 kHz periods, which are 96,000 PT units long (R129, R136). -/
def State.modTimer (s : State) : State :=
  if s.motion.modDue && s.since s.motion.modPt % 96000 = 0 then State.setFmod { s with motion.modDue := false } else s

/-- The restart edge: the encoders resume, and the modulation begins again at 1 kHz (R127, R136). -/
def State.motionResume (s : State) : State := s.encResume.startFmod

/-- A photocurrent of `i` pA as a 16-bit share of the range's full scale, clamped (R130); RANGE 0b11, which Plan load refuses, has
no full scale, so the value is free. Log entry 30 (DEDUCED). -/
def State.photoShare (s : State) (n : Fin 8) (i : Int) : State × Nat :=
  match s.fld (Reg.MOTION_CLF_CFG n) 3 2 with
  | 3 => (s.draw, s.freeVal % 65536)
  | r =>
    let (s, v) := s.roundFrac (i * 65535) (if r = 0 then 10000000 else if r = 1 then 50000000 else 250000000)
    (s, (max 0 (min 65535 v)).toNat)

/-- REFL and AMBIENT of a result (R130). -/
def State.cliffShares (s : State) (n : Fin 8) (x : CliffData) : State × Nat × Nat :=
  let (s, refl) := s.photoShare n ((x.on.toNat : Int) - x.off.toNat)
  let (s, ambient) := s.photoShare n x.off.toNat
  (s, refl, ambient)

/-- CLIFF record (R138): PT is the end of the ON window, 1 µs before the result; REFL and AMBIENT stand in CLF_RESULT. -/
def State.postCliff (s : State) (n : Fin 8) (kind : Nat) (x : CliffData) : State :=
  let a := Reg.MOTION_CLF_STATUS n
  let flags := s.fld a 5 0 + 64 * s.clfRole n
  s.postAt (s.time.pt - BitVec.ofNat 64 (us 1)) 0x05
    ([BitVec.ofNat 8 n, BitVec.ofNat 8 kind, BitVec.ofNat 8 flags, BitVec.ofNat 8 (s.fld (Reg.MOTION_CLF_CFG n) 3 2)] ++
      image (s.reg (Reg.MOTION_CLF_RESULT n)) ++
      [BitVec.ofNat 8 (satN 8 x.ma.toNat), BitVec.ofNat 8 (s.fld Reg.MOTION_STATUS 3 0)])

/-- A latched flag: set by `up`, cleared by `down`. Log entry 30 (DEDUCED). -/
def latchFlag (old up down : Bool) : Bool := up || (old && !down)

/-- Counts after one result; `sat` is AMBIENT_SAT after it (R131, R132, R135). Log entry 30 (DEDUCED). -/
def Cliff.count (c : Cliff) (ambBad sat low high opn sht : Bool) : Cliff :=
  { low := if sat || !low then 0 else c.low + 1
    high := if sat || !high then 0 else c.high + 1
    clear := if ambBad then 0 else c.clear + 1
    openRun := if opn then c.openRun + 1 else 0
    shortRun := if sht then c.shortRun + 1 else 0
    goodRun := if opn || sht then 0 else c.goodRun + 1 }

/-- One result of a channel that is not UNUSED (R130 to R135). Log entry 30 (DEDUCED). -/
def State.cliffResult (s : State) (n : Fin 8) (x : CliffData) : State :=
  let (s, refl, ambient) := s.cliffShares n x
  let a := Reg.MOTION_CLF_STATUS n
  let cfg := Reg.MOTION_CLF_CFG n
  let c := s.motion.cliff[n]
  let ambBad := decide (57344 ≤ ambient) || x.ovlOff
  let rel := s.fld cfg 29 22
  let sat := latchFlag (s.flag a 3) ambBad (!ambBad && decide (rel ≤ c.clear + 1))
  let opn := decide (10 * x.ma.toNat < 8 * s.fld cfg 11 4)
  let sht := decide (100 * s.fld (Reg.MOTION_CLF_EMIT n) 7 0 < x.mv.toNat)
  let c := c.count ambBad sat (decide (refl < s.fld (Reg.MOTION_CLF_TH n) 15 0))
    (decide (s.fld (Reg.MOTION_CLF_TH n) 31 16 ≤ refl)) opn sht
  let good := decide (16 ≤ c.goodRun)
  let eo := latchFlag (s.flag a 1) (decide (2 ≤ c.openRun)) good
  let es := latchFlag (s.flag a 2) (decide (2 ≤ c.shortRun)) good
  let cl := latchFlag (s.flag a 0) (decide (s.fld cfg 21 20 + 1 ≤ c.low)) (decide (rel ≤ c.high))
  let old := s.fld a 3 0
  let new := b2n cl + 2 * b2n eo + 4 * b2n es + 8 * b2n sat
  let node := s.clfRole n = 2 && decide (new ≠ 0)
  let s : State := { s with motion.cliff := s.motion.cliff.set n c }
  let s := s.setReg (Reg.MOTION_CLF_RESULT n) (pack [(refl, 0), (ambient, 16)])
  let s := s.setFld a 15 0 (new + 16 * b2n (x.ovlOn && !x.ovlOff) + 32 * b2n node + 256 * satN 8 x.ma.toNat)
  let rise (i : Nat) := nbit new i && !nbit old i
  let fall (i : Nat) := nbit old i && !nbit new i
  let s := [1, 2, 3].foldl (fun s i => if rise i then s.inc a 31 16 else s) s
  let s := s.setNode (48 + n) node
  let s := if rise 0 then s.postCliff n 1 x else if fall 0 then s.postCliff n 2 x else s
  let s := if rise 1 || rise 2 || rise 3 then s.postCliff n 3 x else s
  if fall 1 || fall 2 || fall 3 then s.postCliff n 4 x else s

def execCliffResult (n : Fin 8) (x : CliffData) (s : State) : Out :=
  .next (if s.asleep || s.clfRole n = 0 || s.flag Reg.BIST_UNUSABLE (4 + n.val) then s else s.cliffResult n x)

/-- MOTION.CNT_CLR (R141). -/
def State.motionCntClr (s : State) (v : Word) : State :=
  s.clearBy v ((List.range 4).map (fun n => (n, Reg.MOTION_ENC_STATUS n, 31, 16)) ++
    (List.range 8).map fun n => (8 + n, Reg.MOTION_CLF_STATUS n, 31, 16))

end Sys2Proof.Machine
end

