-- ==== Sys2Proof/Machine/FlashOps.lean ====
section
/-!
DEFINITION. The flash array as every agent uses it: regions, reads with their ECC report, suspect sectors, erase markers,
the start and end of an erase, and the program of a line (16_flash.md, R403 to R423).
-/

namespace Sys2Proof.Machine

/-! ### Regions (R403) -/

/-- First flash address of sector `k` of bank `b`. -/
def sectorAddr (b k : Nat) : Nat := b * 0x200000 + k * 0x1000

/-- Region codes of FLASH_SUSPECT: 0 firmware, 1 Plan, 2 journal, 3 user (R433). -/
def regionOf (b k : Nat) : Nat :=
  if k < 0xC0 then 0 else if k < 0xD0 then 1 else if b = 0 && k < 0x150 then 2 else 3

/-- Journal sector `j` as a sector index of bank 0. -/
def jSector (j : Nat) : Nat := 0xD0 + j

/-- Lines of a sector numbered bank × 512 + sector index. -/
def sectorLines (g : Nat) : List Nat := (List.range 128).map (g * 128 + ·)

/-- The Plan slot of the loaded Plan (DEV.STAGE.PLAN). -/
def State.planSlot (s : State) : Option Nat :=
  match s.fld Reg.DEV_STAGE 9 8 with
  | 1 => some 0
  | 2 => some 1
  | _ => none

/-- Plan slot `b` (it lies in bank `b`) is inactive (R412 (b)). -/
def State.planInactive (s : State) (b : Nat) : Bool := decide (s.planSlot ≠ some b)

/-- A bank of the flash replaced. -/
def State.modBank (s : State) (b : Fin 2) (f : Bank → Bank) : State :=
  { s with flash.bank := s.flash.bank.set b (f s.flash.bank[b]) }

/-- The journal writer's state replaced. -/
def State.modJrn (s : State) (f : Journal → Journal) : State := { s with flash.jrn := f s.flash.jrn }

/-- FLASH.STATUSn of a bank. -/
def flashStatus (b : Nat) : Nat := if b = 0 then Reg.FLASH_STATUS0 else Reg.FLASH_STATUS1

/-! ### Status word (R407, R414) -/

/-- BUSY: a program or an unsuspended erase runs. -/
def Bank.busy (x : Bank) : Bool := x.st ≠ .idle && x.st ≠ .suspended

/-- An erase runs or is suspended. -/
def Bank.erasing (x : Bank) : Bool := x.st ≠ .idle && x.st ≠ .program

/-- The status word of a bank. Log entry 67 (DEDUCED). -/
def State.statusWord (s : State) (b : Fin 2) : Word :=
  let x := s.flash.bank[b]
  let prog := x.st = .program || x.st = .suspProgram
  let susp := x.st = .suspended || x.st = .suspProgram
  s.reg (flashStatus b) ||| pack [(b2n x.busy, 31), (b2n susp, 30), (b2n prog, 29), (b2n x.erasing, 28),
    (b2n (x.erasing && x.st ≠ .suspProgram && x.use ≠ .host), 18)]

/-! ### The array -/

/-- What a line holds unless listed: it is blank (R411). Log entry 6 (DESIGN CHOICE). -/
def lineDefault (_ : Nat) : Option (List Byte) := none

/-- What line `l` holds; none while it is blank (R411). -/
def State.lineAt (s : State) (l : Nat) : Option (List Byte) := sparseGet lineDefault s.flash.lines l

/-- Sets what line `l` holds. -/
def State.setLine (s : State) (l : Nat) (v : Option (List Byte)) : State :=
  { s with flash.lines := sparseSet lineDefault s.flash.lines l v }

/-- The bytes of a line as read: a blank line reads 0xFF; an uncorrectable one its raw data (R406, R420). -/
def State.lineBytes (s : State) (errs : List LineErr) (l : Nat) : List Byte :=
  match s.lineAt l with
  | none => List.replicate 32 0xFF
  | some d => match errs.find? fun e => decide (e.line.toNat = l) with
    | some { raw := some x, .. } => leBytes 32 ((BitVec.ofNat 256 (ofLe d)) ^^^ x).toNat
    | _ => padTo 32 d

/-- Corrected bits and UNCORR of a line as read: a blank line needs no correction (R406). Log entry 68 (DEDUCED). -/
def State.lineEcc (s : State) (errs : List LineErr) (l : Nat) : Nat × Bool :=
  match s.lineAt l, errs.find? fun e => decide (e.line.toNat = l) with
  | some _, some { corrected := c, raw := none, .. } => (c.val, false)
  | some _, some { raw := some _, .. } => (0, true)
  | _, _ => (0, false)

/-- `n` bytes from flash address `a`. -/
def State.flashBytes (s : State) (errs : List LineErr) (a n : Nat) : List Byte :=
  let l := a / 32
  let k := (a + n - 1) / 32 + 1 - l
  (((List.range k).map fun i => s.lineBytes errs (l + i)).flatten.drop (a % 32)).take n

/-- Every line of a sector is blank. -/
def State.sectorBlank (s : State) (g : Nat) : Bool := s.flash.lines.all fun e => decide (e.1 / 128 ≠ g)

/-- A sector blank again. -/
def State.clearSector (s : State) (g : Nat) : State :=
  { s with flash.lines := s.flash.lines.filter fun e => decide (e.1 / 128 ≠ g) }

/-- What an erase that did not reach its end leaves in a line: free bytes. Log entry 8 (DESIGN CHOICE). -/
def freeLine (n : Nat) : List Byte :=
  (List.range 4).flatMap fun i => leBytes 8 (Config.freeWord (n + i)).toNat

/-- A sector after such an erase (R423: it reads its data as stored). Log entry 69 (DESIGN CHOICE). -/
def State.scrambleSector (s : State) (g : Nat) : State :=
  let s := (List.range 128).foldl (fun s i => s.setLine (g * 128 + i) (some (freeLine (s.free + 4 * i)))) s
  { s with free := s.free + 512 }

/-- Sector `k` of bank `b` is suspect. -/
def State.isSuspect (s : State) (b : Fin 2) (k : Nat) : Bool := (s.flash.bank[b]).suspect.getLsbD k

/-- Number of suspect sectors in a bank. -/
def Bank.suspects (x : Bank) : Nat := ((List.range 512).filter fun i => x.suspect.getLsbD i).length

/-! ### ECC and early warning (R420, R421) -/

/-- A word of FLASH.LASTREAD and FLASH.WEAK_FIFO (R435). -/
def State.lineWord (s : State) (l : Nat) (ecc : Nat × Bool) : Word :=
  pack [(1, 31), (b2n ecc.2, 30), (b2n (s.isSuspect (if l < 65536 then 0 else 1) (l % 65536 / 128)), 29), (ecc.1, 25), (l, 5)]

/-- The line is in the FIFO already. Log entry 68 (DEDUCED). -/
def State.inFifo (s : State) (l : Nat) : Bool := s.flash.fifo.any fun w => decide (wfld w 21 5 = l)

/-- One line read by an agent, numbered as in R432: an uncorrectable line is counted; a weak or uncorrectable line that is
not in the FIFO is logged and posted, or with the FIFO full only counted. Log entry 68 (DEDUCED). -/
def State.lineRead (s : State) (agent l : Nat) (ecc : Nat × Bool) : State :=
  let s := if ecc.2 then s.inc Reg.FLASH_ECC_CNT 31 16 else s
  let weak := decide (s.fld Reg.FLASH_CTRL 2 0 ≤ ecc.1) && !ecc.2
  if !(weak || ecc.2) then s
  else
    let s := s.setFlag Reg.FLASH_WEAK_STATUS 30 true
    if s.inFifo l then s
    else
      let s := if weak then s.inc Reg.FLASH_ECC_CNT 15 0 else s
      if s.flash.fifo.length < 8 then
        let w := s.lineWord l ecc
        State.post { s with flash.fifo := s.flash.fifo ++ [w] } 0x71
          ([BitVec.ofNat 8 (1 + b2n ecc.2), BitVec.ofNat 8 ecc.1, BitVec.ofNat 8 agent, 0] ++ leBytes 4 (l * 32) ++
            leBytes 2 (s.fld Reg.FLASH_ECC_CNT 15 0))
      else s.setFlag Reg.FLASH_WEAK_STATUS 31 true

/-- The lines of `n` bytes from flash address `a`, read by an agent. Log entry 68 (DEDUCED). -/
def State.linesRead (s : State) (agent : Nat) (errs : List LineErr) (a n : Nat) : State :=
  let l := a / 32
  let k := (a + n - 1) / 32 + 1 - l
  (List.range k).foldl (fun s i => s.lineRead agent (l + i) (s.lineEcc errs (l + i))) s

/-! ### Suspect sectors (R423, R433) -/

/-- FLASH_SUSPECT. AUTO marks the sectors that the controller re-erases: the journal's, and an inactive Plan slot's. -/
def State.postSuspect (s : State) (kind : Nat) (b : Fin 2) (k : Nat) : State :=
  let rg := regionOf b k
  s.post 0x72 ([BitVec.ofNat 8 kind, BitVec.ofNat 8 b.val] ++ leBytes 2 k ++ leBytes 4 (sectorAddr b k) ++
    leBytes 2 (s.flash.bank[b]).suspects ++ [BitVec.ofNat 8 rg,
      BitVec.ofNat 8 (b2n (rg = 2 || (rg = 1 && s.planInactive b)))])

/-- Bit `k` of a sector set replaced. -/
def setBit512 (v : BitVec 512) (k : Nat) (b : Bool) : BitVec 512 :=
  if b then v ||| BitVec.ofNat 512 (2 ^ k) else v &&& ~~~(BitVec.ofNat 512 (2 ^ k))

/-- FLASH_SUSPECT of kind 5, at most once per second per sector. -/
def State.refusedSuspect (s : State) (b : Fin 2) (k : Nat) : State :=
  let g := b.val * 512 + k
  let due := match s.flash.refusedPt.find? fun e => decide (e.1 = g) with
    | some e => decide (ms 1000 ≤ s.since e.2)
    | none => true
  if due then
    State.postSuspect { s with flash.refusedPt := (s.flash.refusedPt.filter fun e => decide (e.1 ≠ g)) ++ [(g, s.ptNow)] } 5 b k
  else s

/-! ### Markers (R422) -/

/-- An entry appended to the bank's marker area. Log entry 25 (DESIGN CHOICE). Log entry 69 (DESIGN CHOICE). -/
def State.mark (s : State) (b : Fin 2) (done : Bool) (k : Nat) : State :=
  let p := s.ptNow
  s.modBank b fun x => { x with marks := x.marks ++ [{ done := done, sector := k, pt := p }] }

/-- Compaction, when fewer than four of the 125 entry lines are free before an erase: the suspect set moves to the other
half under the next generation. Log entry 25 (DESIGN CHOICE). Log entry 69 (DESIGN CHOICE). -/
def Bank.compact (x : Bank) : Bank :=
  if 121 < x.marks.length then
    { x with half := !x.half, gen := (x.gen + 1) % 2 ^ 32, bitmap := x.suspect, marks := [] }
  else x

/-- The suspect set as the boot scan forms it. -/
def Bank.scan (x : Bank) : BitVec 512 :=
  x.marks.foldl (fun v m => setBit512 v m.sector (!m.done)) x.bitmap

/-! ### Erase (R413, R414, R418, R225) -/

/-- An erase starts: its START entry, and the state. -/
def State.startErase (s : State) (b : Fin 2) (k : Nat) (use : EraseFor) : State :=
  (s.modBank b Bank.compact).mark b false k |>.modBank b fun x =>
    { x with st := .erase, use := use, sector := k, doomed := false }

/-- The erase of a bank is abandoned: its sector becomes suspect and holds what the erase left; a line being written is
finished first. Log entry 69 (DESIGN CHOICE). -/
def State.abandonErase (s : State) (b : Fin 2) (record : Bool) : State :=
  let x := s.flash.bank[b]
  if !x.erasing || x.doomed then s
  else
    let next : BankSt := if x.st = .suspProgram then .suspProgram else .idle
    let s := s.modBank b fun x =>
      { x with suspect := setBit512 x.suspect x.sector true, st := next, doomed := decide (x.st = .suspProgram) }
    let s := s.scrambleSector (b.val * 512 + x.sector)
    if record then s.postSuspect 2 b x.sector else s

/-- A host program ends: the line is written (R414). -/
def State.endProgram (s : State) (b : Fin 2) : State :=
  let x := s.flash.bank[b]
  if x.st = .program || x.st = .suspProgram then
    let s := s.setLine x.line (some x.data)
    let next : BankSt := if x.st = .suspProgram && !x.doomed then .suspended else .idle
    s.modBank b fun x => { x with doomed := false, st := next }
  else s

/-- A line programmed by the controller, which never waits for an erase (R416 (a)); a line that is not blank, or that lies
in a suspect sector, is refused (R411, R423). Log entry 25 (DESIGN CHOICE). -/
def State.programLine (s : State) (l : Nat) (d : List Byte) : State :=
  let b : Fin 2 := if l < 65536 then 0 else 1
  let k := l % 65536 / 128
  if s.isSuspect b k then s.refusedSuspect b k
  else if (s.lineAt l).isSome then s
  else s.setLine l (some d)

/-! ### Self-test's part: a sector that failed its verify twice (R491, R494) -/

/-- The sector is retired. -/
def State.isRetired (s : State) (g : Nat) : Bool := s.flash.retired.contains g

/-- Journal sectors retired so far. Log entry 70 (DEDUCED). -/
def State.jRetired (s : State) : Nat := (s.flash.retired.filter fun g => decide (regionOf (g / 512) (g % 512) = 2)).length

/-- The failure is class D: a user area, an inactive slot, or one of the first eight journal sectors (R491). -/
def State.eraseClassD (s : State) (b : Fin 2) (k : Nat) : Bool :=
  match regionOf b k with
  | 0 => decide (s.fld Reg.DEV_BOOT_DIAG 1 0 ≠ b.val)
  | 1 => s.planInactive b
  | 2 => decide (s.jRetired < 8)
  | _ => true

/-- Failure 0x13. Log entry 69 (DESIGN CHOICE). -/
def State.eraseFailed (s : State) (b : Fin 2) (k : Nat) : State :=
  let g := b.val * 512 + k
  if s.isRetired g then s
  else
    let d := s.eraseClassD b k
    let s : State := { s with flash.retired := s.flash.retired ++ [g] }
    if d then
      let s := if regionOf b k = 2 then s.inc Reg.BIST_FLASH_RETIRED 3 0 else s.inc Reg.BIST_FLASH_RETIRED 31 16
      s.classD 0x13 g 0
    else s.classS 0x13 g 0

end Sys2Proof.Machine
end

