-- ==== Sys2Proof/Machine/JournalOps.lean ====
section
/-!
DEFINITION. The journal: record bytes and their CRC, the writer and the erases that run ahead of it, and what is read back
from it (16_flash.md, R425 to R431).
-/

namespace Sys2Proof.Machine

/-! ### CRC-32 (R426) -/

/-- One bit of the reflected CRC-32 of IEEE 802.3. -/
def crc32Bit (c : Nat) : Nat := if c % 2 = 1 then (c / 2) ^^^ 0xEDB88320 else c / 2

/-- One byte. -/
def crc32Byte (c : Nat) (b : Byte) : Nat :=
  crc32Bit (crc32Bit (crc32Bit (crc32Bit (crc32Bit (crc32Bit (crc32Bit (crc32Bit (c ^^^ b.toNat))))))))

/-- CRC-32 of a byte string. -/
def crc32 (l : List Byte) : Nat := (l.foldl crc32Byte 0xFFFFFFFF) ^^^ 0xFFFFFFFF

/-! ### Records (R426) -/

/-- The 64 bytes of a journal record. -/
def jrnBytes (seq typ : Nat) (est coarse : Bool) (boot : BitVec 16) (p : Time) (payload : List Byte) : List Byte :=
  let b := leBytes 4 seq ++ [BitVec.ofNat 8 typ, BitVec.ofNat 8 (b2n est + 2 * b2n coarse)] ++ leBytes 2 boot.toNat ++
    leBytes 8 p.toNat ++ padTo 44 payload
  b ++ leBytes 4 (crc32 b)

/-- A record passes its CRC. -/
def jrnValid (r : List Byte) : Bool := decide (leAt r 60 4 = crc32 (r.take 60))

/-- Fields of a stored record. -/
def jrnSeq (r : List Byte) : Nat := leAt r 0 4
def jrnType (r : List Byte) : Nat := leAt r 4 1
def jrnPayload (r : List Byte) : List Byte := (r.drop 16).take 44

/-- First line of slot `k` of journal sector `j`. -/
def slotLine (j k : Nat) : Nat := (jSector j) * 128 + 2 * k

/-- Both lines of a slot are blank. -/
def State.slotBlank (s : State) (j k : Nat) : Bool :=
  (s.lineAt (slotLine j k)).isNone && (s.lineAt (slotLine j k + 1)).isNone

/-- The bytes of a slot. -/
def State.slotBytes (s : State) (j k : Nat) : List Byte := s.flashBytes [] (slotLine j k * 32) 64

/-- The record of a slot, where it passes its CRC. -/
def State.slotRecord (s : State) (j k : Nat) : Option (List Byte) :=
  let r := s.slotBytes j k
  if !s.slotBlank j k && jrnValid r then some r else none

/-- SEQ of the first valid record of a sector. -/
def State.sectorFirst (s : State) (j : Nat) : Option Nat :=
  ((List.range 64).findSome? fun k => s.slotRecord j k).map jrnSeq

/-- Journal slots that are not blank, in array order: sector and slot. -/
def State.usedSlots (s : State) : List (Nat × Nat) :=
  (s.flash.lines.filter fun e => decide (jSector 0 * 128 ≤ e.1) && decide (e.1 < jSector 128 * 128) && e.1 % 2 = 0).map
    fun e => ((e.1 - jSector 0 * 128) / 128, e.1 % 128 / 2)

/-- Every record of the journal that passes its CRC, in array order. -/
def State.jrnRecords (s : State) : List (List Byte) := s.usedSlots.filterMap fun e => s.slotRecord e.1 e.2

/-- The record with the highest SEQ among those that satisfy `p`. -/
def latestOf (l : List (List Byte)) (p : List Byte → Bool) : Option (List Byte) :=
  (l.filter p).foldl (fun b r => match b with
    | none => some r
    | some q => if jrnSeq q < jrnSeq r then some r else some q) none

/-- The latest valid record of a type. -/
def State.latest (s : State) (typ : Nat) : Option (List Byte) := latestOf s.jrnRecords fun r => decide (jrnType r = typ)

/-- The slot that holds the record with sequence number `q`, whether or not it passes its CRC: the newest such slot. -/
def State.recordSlot (s : State) (q : Nat) : Option (Nat × Nat) :=
  s.usedSlots.find? fun e => decide (jrnSeq (s.slotBytes e.1 e.2) = q)

/-! ### The writer (R425) -/

/-- Journal sector `j` is out of use. -/
def State.jSkipped (s : State) (j : Nat) : Bool := s.isRetired (jSector j)

/-- The journal sector after `j`, skipping retired ones. Log entry 70 (DEDUCED). -/
def State.jNext (s : State) (j : Nat) : Nat :=
  ((List.range 128).map fun i => (j + 1 + i) % 128).find? (fun i => !s.jSkipped i) |>.getD ((j + 1) % 128)

/-- The sector `n` in use after `j`. -/
def State.jAfter (s : State) (j n : Nat) : Nat := (List.range n).foldl (fun j _ => s.jNext j) j

/-- Whether bank `b` may begin an internal erase now: only in `IDLE` (R416 (b)), and not while the hold-up sequence runs. -/
def State.canErase (s : State) (b : Fin 2) : Bool :=
  decide ((s.flash.bank[b]).st = .idle) && s.sup.holdUp.isNone && !s.asleep && !s.dev.inReset && s.dev.scanDone

/-- The erase of the next sector ahead begins when it can; the oldest record retained moves on. -/
def State.eraseAhead (s : State) : State :=
  if s.flash.jrn.ready && s.flash.jrn.ahead < 3 && s.canErase 0 then
    let t := s.jAfter s.flash.jrn.sector (s.flash.jrn.ahead + 1)
    let s := s.startErase 0 (jSector t) .journal
    match s.sectorFirst (s.jNext t) with
    | some q => s.modJrn fun j => { j with oldest := q }
    | none => s
  else s

/-- Inactive Plan slots' suspect sectors are re-erased after entry to reduced service (R423). -/
def State.erasePlan (s : State) (b : Fin 2) : State :=
  if s.dev.reducedPt.isSome && s.planInactive b && s.canErase b then
    match (List.range 16).find? fun i => s.isSuspect b (0xC0 + i) && !s.isRetired (b.val * 512 + 0xC0 + i) with
    | some i => s.startErase b (0xC0 + i) .plan
    | none => s
  else s

/-- The next sector a staging has to erase (R451, R455). -/
def State.eraseStage (s : State) (b : Fin 2) : State :=
  let next (t : Staging) : Option Nat := if t.todo.isEmpty then none else t.todo.find? fun g => decide (g / 512 = b.val)
  if s.canErase b then
    match next s.plans.plan with
    | some g => s.startErase b (g % 512) .stage
    | none => match next s.plans.firmware with
      | some g => s.startErase b (g % 512) .firmware
      | none => s
  else s

/-- Internal erases that are due begin in every bank that is idle: the journal's, automatic re-erases, stagings. -/
def State.kickErases (s : State) : State :=
  let f (s : State) (b : Fin 2) : State := (s.erasePlan b).eraseStage b
  f (f s.eraseAhead 0) 1

/-- The writer may take an ordinary record: a slot is free in sector h, or the erase of h + 3 is complete (R425). -/
def Journal.room (j : Journal) : Bool := decide (j.slot < 64) || decide (3 ≤ j.ahead)

/-- Writes a record into the next slot, entering the next sector where sector h is full.
Log entry 25 (DESIGN CHOICE). -/
def State.jrnWrite (s : State) (typ : Nat) (est : Bool) (p : Time) (payload : List Byte) : State :=
  let s := if s.flash.jrn.slot < 64 then s
    else
      let n := s.jNext s.flash.jrn.sector
      s.modJrn fun j => { j with sector := n, slot := 0, ahead := j.ahead - 1 }
  let j := s.flash.jrn
  let r := jrnBytes j.head typ est (s.flag Reg.DEV_STAGE 7) j.boot p payload
  let l := slotLine j.sector j.slot
  let s := (s.setLine l (some (r.take 32))).setLine (l + 1) (some (r.drop 32))
  (s.modJrn fun j => { j with head := j.head + 1, slot := j.slot + 1 }).eraseAhead

/-- Types whose PT is that of the write (R429). -/
def writeStamped (typ : Nat) : Bool := [1, 7, 8, 9, 0x0A].contains typ

/-- Commands that waited for counter snapshot `no` complete (R220): a result still empty is COUNTERS_CLEAR's, the SEQ of the
snapshot's head. Log entry 39 (DEDUCED). -/
def State.snapshotDone (s : State) (no : BitVec 16) : State :=
  let hit := s.sup.waits.filter fun w => w.1 = no
  let rest := s.sup.waits.filter fun w => w.1 ≠ no
  let seq := s.flash.jrn.snapSeq
  let s : State := { s with sup.waits := rest, sup.snapSec := s.time.ktick.toNat >>> 15 }
  hit.foldl (fun s w => s.complete w.2.1
    (if w.2.2.result.isEmpty then { w.2.2 with result := leBytes 4 seq } else w.2.2)) s

/-- What a record that has just been written means to the block that waited for it. -/
def State.jrnWritten (s : State) (e : EvRec) (seq : Nat) : State :=
  if e.jtype = 7 then s.modJrn fun j => { j with snapSeq := seq }
  else if e.jtype = 8 && leAt e.payload 2 1 = 11 then s.snapshotDone (BitVec.ofNat 16 (leAt e.payload 0 2))
  else if e.jtype = 9 then s.gaugeWritten
  else s

/-- The payload of a record in the journal: an event record becomes an EVENT (R428, R430). -/
def evPayload (e : EvRec) : List Byte :=
  if e.jtype = 2 then [e.typ, BitVec.ofNat 8 (2 * b2n e.est + 4 * b2n e.alert), 0, 0] ++ padTo 16 e.payload
  else e.payload

/-- The journal takes the oldest record it is owed, or holds it for an erase (R26, R425). Log entry 70 (DEDUCED). -/
def State.jrnAppend (s : State) : State :=
  match s.fabric.oldest 36 with
  | none => s
  | some r =>
    if !s.flash.jrn.ready || s.sup.holdUp.isSome || s.asleep then s
    else if !s.flash.jrn.room then s.modJrn fun j => { j with held := true }
    else
      let e := r.ev
      let p := if writeStamped e.jtype then s.ptNow else e.pt
      let est := if writeStamped e.jtype then s.ptEst p else e.est
      let seq := s.flash.jrn.head
      let s := ((s.served 36).modJrn fun j => { j with held := false }).jrnWrite e.jtype est p (evPayload e)
      s.jrnWritten e seq

/-! ### The head at step 7 (R427) -/

/-- The sector whose first slot holds the highest SEQ, and that SEQ. -/
def State.headSector (s : State) : Option (Nat × Nat) :=
  (List.range 128).foldl (fun b j => match s.slotRecord j 0 with
    | none => b
    | some r => match b with
      | some (j', q) => if q < jrnSeq r then some (j, jrnSeq r) else some (j', q)
      | none => some (j, jrnSeq r)) none

/-- The highest SEQ of a sector and its slot, from its valid records. -/
def State.headSlot (s : State) (j : Nat) : Option (Nat × Nat) :=
  (List.range 64).foldl (fun b k => match s.slotRecord j k with
    | none => b
    | some r => match b with
      | some (k', q) => if q < jrnSeq r then some (k, jrnSeq r) else some (k', q)
      | none => some (k, jrnSeq r)) none

/-- The writer's state as found in the array: the next slot is the first blank one after the highest valid record of the head
sector; the sectors ahead that are blank and not suspect count as erased. Log entry 70 (DEDUCED). -/
def State.findHead (s : State) : State :=
  let j := ((s.headSector).map (·.1)).getD 0
  let (slot, head) := match s.headSlot j with
    | some (k, q) => ((((List.range (63 - k)).map (k + 1 + ·)).find? fun i => s.slotBlank j i).getD 64, q + 1)
    | none => (((List.range 64).find? fun i => s.slotBlank j i).getD 64, 0)
  let good (n : Nat) : Bool :=
    let t := jSector (s.jAfter j n)
    s.sectorBlank t && !s.isSuspect 0 t
  let ahead := if !good 1 then 0 else if !good 2 then 1 else if !good 3 then 2 else 3
  let boot := match s.latest 1 with
    | some r => BitVec.ofNat 16 (leAt r 6 2 + 1)
    | none => 0
  let oldest := ((s.jrnRecords.map jrnSeq).min?).getD 0
  s.modJrn fun _ => { ready := true, sector := j, slot := slot, head := head, oldest := oldest, ahead := ahead, boot := boot }

/-! ### Counter snapshots read back (R219, R431) -/

/-- The SNAP_RAIL record of part `p` of snapshot `no` that follows `q`, where it passes its CRC. -/
def snapPart (l : List (List Byte)) (q no p : Nat) : Option (List Byte) :=
  l.find? fun r => decide (jrnType r = 8) && decide (leAt r 16 2 = no) && decide (leAt r 18 1 = p) && decide (q < jrnSeq r) &&
    decide (jrnSeq r < q + 8192)

/-- The complete snapshot with the highest SEQ: its head and its twelve parts in order. -/
def State.latestSnap (s : State) : Option (List Byte × List (List Byte)) :=
  let l := s.jrnRecords
  let parts (r : List Byte) : List (List Byte) :=
    (List.range 12).filterMap fun p => snapPart l (jrnSeq r) (leAt r 16 2) p
  (latestOf l fun r => decide (jrnType r = 7) && decide ((parts r).length = 12)).map fun r => (r, parts r)

end Sys2Proof.Machine
end

