-- ==== Sys2Proof/Machine/PlanCheck.lean ====
section
/-!
DEFINITION. The set-up records of a Plan, the rule window they reach, and the Plan checks of the chapters, each evaluated on
the registers that the records produce (17_plan_image.md, R440, R445).
-/

namespace Sys2Proof.Machine

/-! ### The rule window (R170) -/

/-- Position of a window register in a rule: configuration, actions, mask or polarity word `w` of term `t`. -/
inductive WinReg where
  | cfg
  | act
  | mask (t w : Fin 4)
  | pol (t w : Fin 4)
deriving DecidableEq, Repr

/-- The RWL registers of the rule window. -/
def winReg (a : Nat) : Option WinReg :=
  if a = Reg.HEDGE_RULE_CFG then some .cfg
  else if a = Reg.HEDGE_RULE_ACT then some .act
  else if 0x5410 ≤ a && a < 0x5490 && a % 4 = 0 then
    let t : Fin 4 := Fin.ofNat 4 ((a - 0x5410) / 0x20)
    let w : Fin 4 := Fin.ofNat 4 (a / 4)
    if (a - 0x5410) % 0x20 < 0x10 then some (.mask t w) else some (.pol t w)
  else none

/-- The rule that HEDGE.RULE_SEL shows. -/
def State.windowRule (s : State) : Fin 32 := Fin.ofNat 32 (s.fld Reg.HEDGE_RULE_SEL 4 0)

/-- Word `w` of a 128-bit vector. -/
def word128 (v : BitVec 128) (w : Nat) : Word := BitVec.ofNat 32 (v.toNat >>> (32 * w))

/-- Word `w` of a 128-bit vector replaced. -/
def setWord128 (v : BitVec 128) (w : Nat) (x : Word) : BitVec 128 :=
  (v &&& ~~~(BitVec.ofNat 128 (0xFFFFFFFF <<< (32 * w)))) ||| BitVec.ofNat 128 (x.toNat <<< (32 * w))

/-- What a window register shows. -/
def HRule.window (r : HRule) : WinReg → Word
  | .cfg => r.cfg
  | .act => BitVec.ofNat 32 r.act.toNat
  | .mask t w => word128 r.mask[t] w
  | .pol t w => word128 r.pol[t] w

/-- A rule with a window register replaced. -/
def HRule.setWindow (r : HRule) (x : Word) : WinReg → HRule
  | .cfg => { r with cfg := x }
  | .act => { r with act := BitVec.ofNat 21 x.toNat }
  | .mask t w => { r with mask := r.mask.set t (setWord128 r.mask[t] w x) }
  | .pol t w => { r with pol := r.pol.set t (setWord128 r.pol[t] w x) }

/-- A register that a set-up record may change, as it stands. -/
def State.setupReg (s : State) (a : Nat) : Word :=
  match winReg a with
  | some w => (s.hedge.rule[s.windowRule]).window w
  | none => s.reg a

/-- The register with its new value. -/
def State.setSetupReg (s : State) (a : Nat) (x : Word) : State :=
  match winReg a with
  | some w =>
    let n := s.windowRule
    { s with hedge.rule := s.hedge.rule.set n ((s.hedge.rule[n]).setWindow x w) }
  | none => s.setReg a x

/-- R440: (register AND NOT MASK) OR (VALUE AND MASK). -/
def State.maskWrite (s : State) (a : Nat) (v m : Word) : State :=
  s.setSetupReg a ((s.setupReg a &&& ~~~m) ||| (v &&& m))

/-- Bits of a register that lie in RWL fields. -/
def rwlMask (a : Nat) : Word :=
  match regSpec a with
  | some r => r.fields.foldl (fun m f => if f.acc = .rwl then m ||| fieldMask f.hi f.lo else m) 0
  | none => 0

/-- Bits that a set-up record or REG_WRITE may set: the RWL fields, and HEDGE.RULE_SEL.RULE (R377 (b), R440). -/
def setupMask (a : Nat) : Word := if a = Reg.HEDGE_RULE_SEL then 0x1F else rwlMask a

/-- One set-up record (R440). -/
structure SetupRec where
  block : Nat
  off : Nat
  value : Word
  mask : Word
deriving DecidableEq, Repr

/-- A record is valid in the section of block `b`. -/
def SetupRec.valid (r : SetupRec) (b : Nat) : Bool :=
  decide (r.block = b) && r.off % 4 = 0 && decide (r.off < 0x1000) && decide (r.mask ≠ 0) &&
    decide (r.mask &&& ~~~(setupMask (b * 0x1000 + r.off)) = 0) && decide (r.value &&& ~~~r.mask = 0)

/-- The records of a section body; a trailing part of a record counts as a record that is not valid.
Log entry 71 (DEDUCED). -/
def setupRecs (body : List Byte) : List SetupRec :=
  (List.range ((body.length + 11) / 12)).map fun i =>
    let r := body.drop (12 * i)
    if r.length < 12 then { block := 0x100, off := 0, value := 0, mask := 0 }
    else { block := leAt r 0 1, off := leAt r 2 2, value := BitVec.ofNat 32 (leAt r 4 4), mask := BitVec.ofNat 32 (leAt r 8 4) }

/-- A valid record applied. -/
def State.applyRec (s : State) (b : Nat) (r : SetupRec) : State :=
  if r.valid b then s.maskWrite (b * 0x1000 + r.off) r.value r.mask else s

/-! ### Checks -/

/-- The index 0xFFFF where a condition holds that names no rail, rule, zone, channel or activity. -/
def whole (c : Bool) : Option Nat := if c then some 0xFFFF else none

/-- The lowest index below `n` for which a condition holds. -/
def lowestOf (n : Nat) (f : Nat → Bool) : Option Nat := (List.range n).find? f

/-- A number outside `lo` to `hi`. -/
def off (lo hi x : Nat) : Bool := decide (x < lo) || decide (hi < x)

/-- PMC: R478. -/
def State.chkPmc (s : State) : List (Option Nat) :=
  [whole (off 1 1000 (s.fld Reg.PMC_CTRL 9 0)), whole (off 1 255 (s.fld Reg.PMC_WAKE_CFG 7 0)),
   whole (decide (s.fld Reg.PMC_WAKE_EN 10 0 &&& 0x318 ≠ 0))]

/-- Permitted guarantees of the Leash activities (R84). -/
def leashRange : List (Nat × Nat) := [(9600, 96000), (0, 96000), (0, 96000), (0, 96000), (0, 96000), (0, 96000), (480, 96000),
  (1920, 4800), (2400, 96000), (0, 96000)]

/-- TIME: R85. The index is the activity's number. -/
def State.chkLeash (s : State) : List (Option Nat) :=
  let g (a : Nat) : Nat := s.fld (Reg.TIME_LEASH_GUAR a) 16 0
  let c (a : Nat) : Nat := s.fld (Reg.TIME_LEASH_CEIL a) 16 0
  [whole (decide (86400 < ((List.range 10).map g).sum)),
   (lowestOf 10 fun a => decide (c a < g a) || decide (96000 < c a)).map (· + 1),
   (lowestOf 10 fun a => off (leashRange.getD a (0, 0)).1 (leashRange.getD a (0, 0)).2 (g a) ||
     (a = 7 && decide (4800 < c a))).map (· + 1)]

/-- Role code of a matrix node. -/
def State.nodeRole (s : State) (n : Nat) : Nat := s.fld (Reg.KEYS_NODE_CFG (n / 4)) (8 * (n % 4) + 1) (8 * (n % 4))

/-- Role code of a direct input. -/
def State.inputRole (s : State) (n : Nat) : Nat := s.fld (Reg.KEYS_DI_CFG n) 1 0

/-- KEYS: R89, R93, R109, R110, R540. Log entry 71 (DEDUCED). Log entry 74 (DEDUCED). -/
def State.chkKeys (s : State) : List (Option Nat) :=
  let di (n hi lo : Nat) : Nat := s.fld (Reg.KEYS_DI_CFG n) hi lo
  let used (d : Nat) : Bool := (List.range 16).any fun k => s.nodeRole (16 * d + k) ≠ 0
  let slots := (List.range 32).filter fun n => s.flag (Reg.KEYS_SAFETY_SLOT n) 31
  let nodes := slots.map fun n => s.fld (Reg.KEYS_SAFETY_SLOT n) 7 0
  [whole (s.fld Reg.KEYS_CTRL 7 4 = 0 && (List.range 16).all used),
   whole ((List.range 256).any fun n => s.nodeRole n = 2 && !nodes.contains n),
   whole (decide (¬ nodes.Nodup)),
   lowestOf 16 fun n => s.inputRole n = 2 && decide (32 < di n 31 24),
   lowestOf 16 fun n => di n 9 9 = 1 && (n % 2 = 1 || s.inputRole n ≠ 2 || s.inputRole (n + 1) ≠ 2),
   lowestOf 16 fun n => di n 31 24 = 0,
   lowestOf 16 fun n => n % 2 = 0 && decide (100 < di n 23 16),
   lowestOf 16 fun n => di n 5 4 = 3,
   whole (off 5 20 (s.fld Reg.KEYS_CTRL 20 16)),
   whole (off 1 8 (s.fld Reg.KEYS_DEBOUNCE 15 8) || off 2 64 (s.fld Reg.KEYS_DEBOUNCE 7 0)),
   whole (off 1 60 (s.fld Reg.KEYS_STUCK_T 31 16) || off 1 600 (s.fld Reg.KEYS_STUCK_T 15 0))]

/-- MOTION: R137. -/
def State.chkMotion (s : State) : List (Option Nat) :=
  let f := s.fld Reg.MOTION_CLIFF_CTRL 3 0
  let c (n hi lo : Nat) : Nat := s.fld (Reg.MOTION_CLF_CFG n) hi lo
  let e (n hi lo : Nat) : Nat := s.fld (Reg.MOTION_ENC_CFG n) hi lo
  let ovs (n : Nat) : Nat := s.fld (Reg.MOTION_ENC_OVS n) 23 0
  [whole (off 1 8 f),
   lowestOf 8 fun n => c n 1 0 ≠ 0 && (off 20 100 (c n 18 12) || decide (1000 < 2 * c n 18 12 * f + 5 * f) ||
     off 20 250 (c n 11 4) || off 10 50 (s.fld (Reg.MOTION_CLF_EMIT n) 7 0) ||
     decide (s.fld (Reg.MOTION_CLF_TH n) 31 16 ≤ s.fld (Reg.MOTION_CLF_TH n) 15 0) || c n 3 2 = 3 || c n 1 0 = 3),
   lowestOf 4 fun n => e n 7 7 = 1 && (decide (61 < e n 5 0) || off 2 1000 (e n 27 18) || decide (1000 < e n 17 8) ||
     (decide (1 ≤ ovs n) && decide (ovs n ≤ 95)) ||
     (ovs n ≠ 0 && decide (s.fld (Reg.MOTION_ENC_OVS_REL n) 23 0 < ovs n)))]

/-- HEDGE: R166. -/
def State.chkHedge (s : State) : List (Option Nat) :=
  let rule (n : Nat) : HRule := s.hedge.rule.getD n {}
  let lits (r : HRule) : BitVec 128 := r.mask.toList.foldl (· ||| ·) 0
  let has (v : BitVec 128) (p : Nat → Bool) : Bool := (List.range 128).any fun i => v.getLsbD i && p i
  let soft (i : Nat) : Bool := decide (96 ≤ i) && decide (i < 112)
  let rx := s.fld Reg.HEDGE_SS_CTRL 23 20 + 1
  let ang := s.fld Reg.HEDGE_SS_TILT 5 0
  let hyst := s.fld Reg.HEDGE_SS_TILT 11 8
  [lowestOf 32 fun n => has (lits (rule n)) reservedNode,
   lowestOf 32 fun n => (rule n).enable && (decide ((rule n).act = 0) || decide (lits (rule n) = 0)),
   lowestOf 32 fun n => (rule n).latched && (rule n).policy = 0 && has (lits (rule n)) soft,
   lowestOf 32 fun n => (rule n).policy = 3 || ((rule n).policy = 1 &&
     (reservedNode (rule n).localNode || decide (128 ≤ (rule n).localNode) || soft (rule n).localNode)),
   whole (decide (s.fld Reg.HEDGE_SLEEP_ACTIONS 20 0 &&& 0x0FFE00 ≠ 0)),
   whole (off 10 1000 (s.fld Reg.HEDGE_HB_CFG 9 0) && s.fld Reg.HEDGE_HB_CFG 9 0 ≠ 0),
   whole (off 5 30 (s.fld Reg.HEDGE_SSTOP_CFG 12 8)),
   whole (s.flag Reg.HEDGE_SS_CTRL 0 && (off 5 47 (s.fld Reg.HEDGE_SS_CTRL 14 9) ||
     off 8 16 (s.fld Reg.HEDGE_SS_AXIS 20 16) ||
     (decide (rx < s.fld Reg.HEDGE_SS_AXIS 3 0 + 2) || decide (rx < s.fld Reg.HEDGE_SS_AXIS 7 4 + 2) ||
       decide (rx < s.fld Reg.HEDGE_SS_AXIS 11 8 + 2)) ||
     off 5 60 ang || off 1 10 hyst || decide (ang ≤ hyst) || off 10 500 (s.fld Reg.HEDGE_SS_TILT 24 16)))]

/-- SEQ: R194, then R252. Item (f) of R194 cannot arise: a prerequisite of a rail in use is itself in use (R172).
Log entry 71 (DEDUCED). -/
def State.chkSeq (s : State) : List (Option Nat) :=
  let use := s.railsInUse
  let used (n : Nat) : Bool := use.getLsbD n
  let q (n hi lo : Nat) : Nat := s.fld (Reg.SEQ_RAIL_SEQ n) hi lo
  let pres (n : Nat) : List Nat := ([0, 6, 12, 18].filter fun lo => s.flag (Reg.SEQ_RAIL_CFG n) (lo + 5)).map
    fun lo => s.fld (Reg.SEQ_RAIL_CFG n) (lo + 4) lo
  let h := s.flag Reg.SEQ_HERD_CFG 31
  let grp := s.fld Reg.SEQ_HERD_CFG 7 0
  let carried := (List.range 24).foldl (fun m n => if used n then m ||| s.railGroups n else m) 0
  [lowestOf 24 fun n => ((pres n).any fun p => decide (p = n) || decide (23 < p) || !used p) || (s.closure (s.railPre n)).getLsbD n,
   lowestOf 24 fun n => used n && (off 1 1000 (q n 23 14) || decide (10000 < q n 13 0) ||
     off 1 10000 (s.fld (Reg.SEQ_RAIL_TIME n) 13 0) || decide (6000 < s.fld (Reg.SEQ_RAIL_DIS n) 28 16) ||
     off 1 1000 (s.fld (Reg.SEQ_RAIL_DIS n) 9 0)),
   whole (off 10 500 (s.fld Reg.SEQ_CTRL 24 16)),
   lowestOf 24 fun n => used n && (pres n).any fun p => s.railStep p ≠ 0 && decide (s.railStep n < s.railStep p),
   lowestOf 24 fun n => used n && s.railStep n ≠ 0 && (!h || decide (s.herdSteps < s.railStep n)),
   whole (decide (BitVec.ofNat 8 (s.fld Reg.SEQ_CTRL 15 8) &&& ~~~carried ≠ 0)),
   whole (h && off 1 31 s.herdSteps), whole (h && off 1 500 (s.fld Reg.SEQ_HERD_TIME 8 0)),
   whole (h && off 10 1000 (s.fld Reg.SEQ_HERD_TIME 25 16)), whole (h && grp = 0),
   lowestOf 24 fun n => h && used n && s.railStep n ≠ 0 && decide (s.railGroups n &&& ~~~(BitVec.ofNat 8 grp) ≠ 0)]

/-- SUP: R229. -/
def State.chkSup (s : State) : List (Option Nat) :=
  let use := s.railsInUse
  let uv (n : Nat) : Nat := s.fld (Reg.SUP_RAIL_FTH n) 9 0
  let ov (n : Nat) : Nat := s.fld (Reg.SUP_RAIL_FTH n) 25 16
  let fs (n : Nat) : Nat := if s.flag (Reg.SUP_RAIL_CFG n) 0 then 12000 else 60000
  let uw (n : Nat) : Nat := s.fld (Reg.SUP_RAIL_WTH n) 15 0
  let ow (n : Nat) : Nat := s.fld (Reg.SUP_RAIL_WTH n) 31 16
  let hy (n : Nat) : Nat := s.fld (Reg.SUP_RAIL_WHYST n) 15 0
  let bad (n w : Nat) : Bool := w ≠ 0 && (decide (w * 1024 ≤ uv n * fs n) || decide (ov n * fs n ≤ w * 1024))
  let rails (f : Nat → Bool) : Option Nat := lowestOf 24 fun n => use.getLsbD n && f n
  [rails fun n => uv n = 0 || decide (ov n ≤ uv n),
   rails fun n => bad n (uw n) || bad n (ow n) || (uw n ≠ 0 && ow n ≠ 0 && decide (ow n ≤ uw n)),
   rails fun n => off 1 1000 (hy n) || (uw n ≠ 0 && ow n ≠ 0 && decide (ow n - uw n ≤ hy n)),
   rails fun n => decide (5 < s.fld (Reg.SUP_RAIL_CFG n) 4 2),
   rails fun n => s.flag (Reg.SUP_RAIL_CFG n) 0 && decide (1200 < s.fld (Reg.SEQ_RAIL_DIS n) 28 16),
   whole (off 50 300 (s.fld Reg.SUP_CTRL 8 0)), whole (off 2 20 (s.fld Reg.SUP_CTRL 20 16)),
   whole (off 48 115 (s.fld Reg.SUP_HOLD_CFG 6 0)), whole (off 1 60 (s.fld Reg.SUP_CTRL 31 24))]

/-- BATT: R283. -/
def State.chkBatt (s : State) : List (Option Nat) :=
  let f := s.fld
  let covTh := f Reg.BATT_COV 12 0
  let cuvTh := f Reg.BATT_CUV 12 0
  let rises (g : Nat → Nat) : Bool := (List.range 63).all fun k => decide (g k < g (k + 1))
  let soc (k : Nat) : Nat := f (Reg.BATT_OCV k) 31 16
  let adr := f Reg.BATT_ID_CFG 6 0
  let lpi := f Reg.BATT_LP_WAKE 28 16
  [whole (off 2 8 (f Reg.BATT_CFG 3 0) || off 100 65535 (f Reg.BATT_SHUNT 15 0) || decide (f Reg.BATT_CAP 15 0 < 100)),
   whole (off 3000 4800 covTh || off 2000 3600 cuvTh ||
     decide (covTh ≤ cuvTh + f Reg.BATT_CUV 23 16 + f Reg.BATT_COV 23 16)),
   whole (off 4 100 (f Reg.BATT_OCD 6 0) || off 2 40 (f Reg.BATT_SCD 5 0) ||
     decide (f Reg.BATT_SCD 5 0 * 5 ≤ f Reg.BATT_OCD 6 0) || decide (10 < f Reg.BATT_SCD 11 8) ||
     f Reg.BATT_COV 31 24 = 0 || f Reg.BATT_CUV 31 24 = 0 || f Reg.BATT_OCD 23 16 = 0),
   whole (soc 0 ≠ 0 || soc 63 ≠ 10000 || !rises soc || !(rises fun k => f (Reg.BATT_OCV k) 15 0) ||
     (List.range 64).any fun k => decide (1000 < (sint 16 (f (Reg.BATT_OCV_TC k) 15 0)).natAbs)),
   whole (off 1 7 (f Reg.BATT_CFG 23 20) || off 3 24 (f Reg.BATT_GAUGE_CFG 15 8) || off 20 80 (f Reg.BATT_GAUGE_CFG 23 16) ||
     off 50 100 (f Reg.BATT_GAUGE_CFG 31 24) || decide (100 < f Reg.BATT_GAUGE_CFG 7 0)),
   whole (off 5 100 (f Reg.BATT_BAL_CFG 23 16) || off 3000 4300 (f Reg.BATT_BAL_CFG 12 0)),
   whole (f Reg.BATT_CFG 17 16 = 3 || (f Reg.BATT_CFG 17 16 = 2 && off 8 0x77 adr) || off 1 20 (f Reg.BATT_ID_CFG 23 16)),
   whole (off 10 1000 (f Reg.BATT_FET_CFG 9 0) || (lpi ≠ 0 && off 10 5000 lpi) || decide (10000 < f Reg.BATT_LP_WAKE 13 0))]

/-- Twice the gain of M0's shunt amplifiers over 10: 5, 10, 20, 40. -/
def gainOf (c : Nat) : Nat := 5 * 2 ^ c

/-- Fan channel `n` is enabled. -/
def State.fanInUse (s : State) (n : Nat) : Bool := s.flag (Reg.DRIVE_FAN_CFG n) 31

/-- DRIVE: R307. -/
def State.chkDrive (s : State) : List (Option Nat) :=
  let f := s.fld
  let m := s.flag Reg.DRIVE_M0_CFG 31
  let r (a hi lo mn mx : Nat) : Bool := off mn mx (f a hi lo)
  let imax := f Reg.DRIVE_M0_ILIM 15 0
  let trip := f Reg.DRIVE_M0_ILIM 31 16
  let cfg (n hi lo : Nat) : Nat := f (Reg.DRIVE_FAN_CFG n) hi lo
  let sp (n hi lo : Nat) : Nat := f (Reg.DRIVE_FAN_SPEED n) hi lo
  let st (n hi lo : Nat) : Nat := f (Reg.DRIVE_FAN_START n) hi lo
  [whole (m && (r Reg.DRIVE_M0_CFG 23 20 1 8 || r Reg.DRIVE_M0_CFG 15 0 100 65535 || r Reg.DRIVE_M0_PWM 23 16 2 192 ||
     r Reg.DRIVE_M0_PWM 6 0 16 64 || r Reg.DRIVE_M0_MOTOR 31 16 1 65535 || r Reg.DRIVE_M0_MOTOR 15 0 1 65535 ||
     r Reg.DRIVE_M0_KE 23 0 1 16777215 || r Reg.DRIVE_M0_SPEED 31 24 1 8 || r Reg.DRIVE_M0_SPEED 23 16 5 20 ||
     r Reg.DRIVE_M0_SPEED 12 0 100 4000 || r Reg.DRIVE_M0_RAMP 31 16 1 65535 || r Reg.DRIVE_M0_RAMP 15 0 1 65535 ||
     r Reg.DRIVE_M0_ILIM 31 16 1 65535 || r Reg.DRIVE_M0_ILIM 15 0 1 65535 || r Reg.DRIVE_M0_ALIGN 15 0 10 2000 ||
     r Reg.DRIVE_M0_OPEN 15 0 1 10000 || r Reg.DRIVE_M0_BRAKE 15 0 10 10000 || r Reg.DRIVE_M0_PROT 31 24 1 120 ||
     r Reg.DRIVE_M0_PROT 20 16 1 16 || r Reg.DRIVE_M0_PROT 4 0 1 20 || r Reg.DRIVE_M0_GAIN_I 31 16 1 65535 ||
     r Reg.DRIVE_M0_GAIN_I 15 0 1 65535 || r Reg.DRIVE_M0_GAIN_S 31 16 1 65535 || r Reg.DRIVE_M0_GAIN_S 15 0 1 65535)),
   whole (m && (decide (f Reg.DRIVE_M0_PWM 6 0 * 1000 < 12 * f Reg.DRIVE_M0_SPEED 12 0) ||
     decide (f Reg.DRIVE_M0_PWM 6 0 < 8 * f Reg.DRIVE_M0_SPEED 31 24))),
   whole (m && (decide (imax < f Reg.DRIVE_M0_ALIGN 31 16) || decide (imax < f Reg.DRIVE_M0_OPEN 31 16) ||
     decide (imax < f Reg.DRIVE_M0_BRAKE 31 16) || decide (imax < f Reg.DRIVE_M0_REGEN 15 0) || decide (trip ≤ imax) ||
     decide (2850000000 < trip * gainOf (f Reg.DRIVE_M0_CFG 19 18) * f Reg.DRIVE_M0_CFG 15 0 * 20))),
   whole (!m && s.flag Reg.DRIVE_M0_CFG 30),
   lowestOf 3 fun n => s.fanInUse n && (off 1 8 (cfg n 27 24) || decide (50 < cfg n 23 16) || decide (100 < cfg n 15 8) ||
     off 10 1000 (sp n 25 16) || off 1 999 (sp n 9 0) || off 20 120 (st n 31 24) || off 20 120 (st n 23 16) ||
     off 1 10 (st n 15 12) || off 5 15 (st n 11 8) || off 1 50 (st n 7 0) || decide (sp n 25 16 ≤ sp n 9 0) ||
     decide (100 * sp n 9 0 < sp n 25 16 * st n 11 8) || decide (st n 23 16 < st n 31 24)),
   whole (off 20 50 (f Reg.DRIVE_FAN_CTRL 5 0) && ((List.range 3).any fun n => s.fanInUse n))]

/-- THERM: R328. -/
def State.chkTherm (s : State) : List (Option Nat) :=
  let on (z : Nat) : Bool := s.flag (Reg.THERM_ZONE_CFG z) 31
  let t (z k : Nat) : Int := sint 8 (s.fld (Reg.THERM_ZONE_CURVE z (k / 2)) (16 * (k % 2) + 7) (16 * (k % 2)))
  let d (z k : Nat) : Nat := s.fld (Reg.THERM_ZONE_CURVE z (k / 2)) (16 * (k % 2) + 15) (16 * (k % 2) + 8)
  let lvl (z hi lo : Nat) : Nat := s.fld (Reg.THERM_ZONE_LVL z) hi lo
  let sens (z hi lo : Nat) : Nat := s.fld (Reg.THERM_ZONE_SENS z) hi lo
  let zones (f : Nat → Bool) : Option Nat := lowestOf 8 fun z => on z && f z
  let ntc (z : Nat) : Bool := decide (1 ≤ z) && decide (z ≤ 6)
  let wake := s.fld Reg.THERM_SLEEP_WAKE 7 0
  [zones fun z => ((List.range 7).any fun k => decide (t z (k + 1) ≤ t z k)) || ((List.range 8).any fun k => decide (100 < d z k)),
   zones fun z => off 1 20 (s.fld (Reg.THERM_ZONE_CFG z) 20 16),
   zones fun z => lvl z 31 16 ≠ 0x7FFF && lvl z 15 0 ≠ 0x7FFF && decide (sint 16 (lvl z 31 16) ≤ sint 16 (lvl z 15 0)),
   zones fun z => ntc z && (decide (sens z 15 0 < 100) || off 1000 6000 (sens z 31 16)),
   zones fun z => decide (z = 7) && decide (60 < sens z 15 0),
   zones fun z => (List.range 3).any fun n => s.flag (Reg.THERM_ZONE_CFG z) (24 + n) && !s.fanInUse n,
   whole (decide (s.fld Reg.THERM_CTRL 15 0 < 100) && ((List.range 8).any fun z => ntc z && on z)),
   whole (wake ≠ 0 && off 60 125 wake),
   lowestOf 3 fun n => off 10 95 (s.fld (Reg.THERM_FAN_FCFG n) 6 0) || off 1 10 (s.fld (Reg.THERM_FAN_FCFG n) 15 12)]

/-- FLASH: R436. The bits above the fields cannot be set by a valid record, and read 0. -/
def State.chkFlash (s : State) : List (Option Nat) :=
  [whole (off 1 4 (s.fld Reg.FLASH_CTRL 2 0)), whole (s.fld Reg.FLASH_JOURNAL_MASK 31 25 ≠ 0),
   whole (s.fld Reg.FLASH_WP_A 31 11 ≠ 0 || s.fld Reg.FLASH_WP_B 31 19 ≠ 0)]

/-- MBOX: R402. -/
def State.chkMbox (s : State) : List (Option Nat) :=
  [whole (off 8 0x77 (s.fld Reg.MBOX_CFG 6 0)),
   lowestOf 8 fun n => s.fld (Reg.MBOX_GP_CFG n) 5 4 = 3 || s.fld (Reg.MBOX_GP_CFG n) 1 0 = 3]

/-- The checks of the chapter that owns block `b`. Log entry 51 (DEDUCED). Log entry 71 (DEDUCED). -/
def State.chkBlock (s : State) : Nat → List (Option Nat)
  | 0x1 => s.chkPmc
  | 0x2 => s.chkLeash
  | 0x3 => s.chkKeys
  | 0x4 => s.chkMotion
  | 0x5 => s.chkHedge
  | 0x6 => s.chkSeq
  | 0x7 => s.chkSup
  | 0x8 => s.chkBatt
  | 0x9 => s.chkDrive
  | 0xA => s.chkTherm
  | 0xD => s.chkFlash
  | 0xF => s.chkMbox
  | _ => []

/-- Blocks with a set-up section, in ascending TYPE order (R439). -/
def setupBlocks : List Nat := [0x1, 0x2, 0x3, 0x4, 0x5, 0x6, 0x7, 0x8, 0x9, 0xA, 0xD, 0xE, 0xF]

end Sys2Proof.Machine
end

