-- ==== Sys2Proof/Machine/PlanOps.lean ====
section
/-!
DEFINITION. Plan images: their header and sections, the checks of R445, the slots, the OTP writes at load, and staging
(17_plan_image.md, R437 to R455).
-/

namespace Sys2Proof.Machine

/-! ### The image (R437 to R439) -/

/-- Header fields. -/
def imgKeySlot (i : List Byte) : Nat := leAt i 6 1
def imgRevoke (i : List Byte) : Nat := leAt i 7 1 % 16
def imgGen (i : List Byte) : Nat := leAt i 8 4
def imgLen (i : List Byte) : Nat := leAt i 12 4
def imgFloor (i : List Byte) : Nat := leAt i 16 4
def imgHash (i : List Byte) : Nat := leAt i 32 32
def imgKey (i : List Byte) : List Byte := (i.drop 128).take 64

/-- "QPLN". -/
def planMagic : Nat := 0x4E4C5051

/-- One section: TYPE and body, with OPTIONAL where TYPE or VERSION is unknown. -/
structure Section where
  typ : Nat
  known : Bool
  optional : Bool
  body : List Byte
deriving DecidableEq, Repr

/-- TYPE codes of R439. -/
def knownType (t : Nat) : Bool := t = 1 || t = 2 || (decide (0x10 < t) && setupBlocks.contains (t - 0x10))

/-- The sections from byte `a` on; none where they do not end at LENGTH. -/
def sectionsFrom : Nat → List Byte → Option (List Section)
  | _, [] => some []
  | 0, _ :: _ => none
  | n + 1, l =>
    let len := leAt l 4 4
    if l.length < 8 + len || len % 4 ≠ 0 then none
    else (sectionsFrom n (l.drop (8 + len))).map fun r =>
      { typ := leAt l 0 1, known := knownType (leAt l 0 1) && leAt l 1 1 = 1, optional := leAt l 2 1 % 2 = 1,
        body := (l.drop 8).take len } :: r

/-- The sections of an image: at most 32, as many as the header says, their types rising. -/
def imgSections (i : List Byte) : Option (List Section) :=
  match sectionsFrom 32 ((i.take (imgLen i)).drop 256) with
  | none => none
  | some l =>
    if l.length = leAt i 28 2 && 1 ≤ l.length && decide (l.Pairwise fun a b => a.typ < b.typ) &&
        l.all (fun x => x.known || x.optional) then some l
    else none

/-! ### The checks of R445 -/

/-- Check 1 on the bytes present. -/
def State.imgHeader (s : State) (i : List Byte) : Bool :=
  leAt i 0 4 = planMagic && leAt i 4 2 = 1 && decide (264 ≤ imgLen i) && decide (imgLen i ≤ 65504) && imgLen i % 4 = 0 &&
    decide (imgLen i ≤ i.length) && leAt i 20 4 = 0x51526480 && decide (leAt i 24 4 ≤ (s.reg Reg.DEV_FW_VER).toNat) &&
    (imgSections i).isSome && imgGen i ≠ 0 && decide (imgFloor i ≤ imgGen i) && !nbit (imgRevoke i) (imgKeySlot i)

/-- The generation floor (R443). -/
def Otp.floor (o : Otp) : Nat := (o.floors.getLastD 0).toNat

/-- Every key hash is blank. -/
def Otp.blank (o : Otp) : Bool := o.keyHash.toList.all fun h => h.isNone

/-- Key slot `k` is usable (R444). -/
def Otp.usable (o : Otp) (k : Nat) : Bool :=
  if h : k < 4 then o.blank || ((o.keyHash[k]).isSome && !o.revoked.getLsbD k) else false

/-- Check 4: the digest over header bytes 0–31 and the sections. Log entry 9 (DESIGN CHOICE). -/
def imgHashGood (i : List Byte) : Bool :=
  decide ((Config.sha256 (i.take 32 ++ (i.take (imgLen i)).drop 256)).toNat = imgHash i)

/-- Check 5: the key and the signature. Log entry 9 (DESIGN CHOICE). -/
def Otp.signed (o : Otp) (i : List Byte) : Bool :=
  (o.blank || decide (o.keyHash.toList.getD (imgKeySlot i) none = some (Config.sha256 (imgKey i)))) &&
    Config.ecdsaP256 (imgKey i) (BitVec.ofNat 256 (imgHash i)) ((i.drop 64).take 64)

/-- A PLATFORM body is valid (R441). Log entry 74 (DEDUCED). -/
def platformGood (b : List Byte) : Bool := b.length = 16 && decide (leAt b 0 1 ≤ 1) && decide (leAt b 1 1 ≤ 1)

/-- The entries of a KEYS body: slot and hash (R442). -/
def keyEntries (b : List Byte) : List (Nat × BitVec 256) :=
  (List.range (b.length / 36)).map fun i => (leAt b (36 * i) 1, BitVec.ofNat 256 (leAt b (36 * i + 4) 32))

/-- A KEYS entry is valid by itself: R442 and R443 (b). -/
def Otp.keyGood (o : Otp) (slot : Nat) (e : Nat × BitVec 256) : Bool :=
  decide (e.1 < 4) && e.1 ≠ slot && (match o.keyHash.toList.getD e.1 none with
    | some h => decide (h = e.2)
    | none => true)

/-- The index of the first entry of a KEYS body that fails R442 or R443 (b), a slot named before among them; 0xFFFF for a body
of another size; none where the body is valid. Log entry 71 (DEDUCED). -/
def Otp.keysBad (o : Otp) (slot : Nat) (b : List Byte) : Option Nat :=
  let l := keyEntries b
  if b.length % 36 ≠ 0 || l.length < 1 || 3 < l.length then some 0xFFFF
  else (List.range l.length).find? fun i => match l[i]? with
    | some e => !o.keyGood slot e || ((l.take i).map (·.1)).contains e.1
    | none => false

/-- The body of the section of a type, where the image has it. -/
def sectionBody (l : List Section) (t : Nat) : Option (List Byte) :=
  (l.find? fun x => x.known && decide (x.typ = t)).map (·.body)

/-- The records of the section of block `b`. -/
def blockRecs (l : List Section) (b : Nat) : List SetupRec := ((sectionBody l (0x10 + b)).map setupRecs).getD []

/-- The state with its set-up registers as a set of sections leaves them, from reset values. -/
def State.applySections (s : State) (l : List Section) : State :=
  setupBlocks.foldl (fun s b => (blockRecs l b).foldl (fun s r => s.applyRec b r) s) s

/-- The shadow registers: reset values, then the records (R447). -/
def State.shadow (s : State) (l : List Section) : State :=
  State.applySections { s with regs := [], hedge := { s.hedge with rule := Vector.replicate 32 {} } } l

/-- Check 6: none, or the block and the index of the first failure in the order of R445. Log entry 71 (DEDUCED). -/
def State.check6 (s : State) (i : List Byte) (l : List Section) : Option (Nat × Nat) :=
  let platform := match sectionBody l 1 with
    | some b => if platformGood b then none else some (0, 0xFFFF)
    | none => none
  let keys := ((sectionBody l 2).bind (s.plans.otp.keysBad (imgKeySlot i))).map fun k => (0, k)
  let sh := s.shadow l
  (platform.orElse fun _ => keys).orElse fun _ =>
    setupBlocks.findSome? fun b =>
      match (blockRecs l b).findIdx? fun r => !r.valid b with
      | some k => some (b, k)
      | none => ((sh.chkBlock b).findSome? id).map fun k => (b, k)

/-- R445 on an image: code, block and index; code 0 when every check passes. Check 6 gives 0x9.
Log entry 71 (DEDUCED). -/
def State.checkImage (s : State) (i : List Byte) : Nat × Nat × Nat :=
  let o := s.plans.otp
  if !s.imgHeader i then (2, 0, 0)
  else if imgGen i < o.floor then (3, 0, 0)
  else if !o.usable (imgKeySlot i) then (4, 0, 0)
  else if !imgHashGood i then (5, 0, 0)
  else if !o.signed i then (6, 0, 0)
  else match s.check6 i ((imgSections i).getD []) with
    | some (b, k) => (9, b, k)
    | none => (0, 0, 0)

/-! ### Slots (R43, R446) -/

/-- Flash address of Plan slot `k`. -/
def planBase (k : Fin 2) : Nat := k.val * 0x200000 + 0xC0000

/-- Flash address of firmware slot `k`. -/
def fwBase (k : Fin 2) : Nat := k.val * 0x200000

/-- The sectors of Plan slot `k`, numbered bank × 512 + sector index. -/
def planSectors (k : Fin 2) : List Nat := (List.range 16).map fun i => k.val * 512 + 0xC0 + i

/-- The image bytes of Plan slot `k` as the loader reads them. -/
def State.slotImage (s : State) (k : Fin 2) (errs : List LineErr) : List Byte :=
  s.flashBytes errs (planBase k) (min 65504 (max 256 (imgLen (s.flashBytes errs (planBase k) 256))))

/-- The slot's first line is blank, or the slot holds a suspect sector. -/
def State.slotBlankOrSuspect (s : State) (k : Fin 2) : Bool :=
  (s.lineAt (planBase k / 32)).isNone || ((List.range 16).any fun i => s.isSuspect k (0xC0 + i))

/-- The activation line of slot `k` activates generation `g`. -/
def State.activationGood (s : State) (k : Fin 2) (g : Nat) (errs : List LineErr) : Bool :=
  let l := s.flashBytes errs (planBase k + 0xFFE0) 32
  leAt l 0 4 = 0x54434151 && leAt l 4 4 = g && leAt l 8 4 = crc32 (l.take 8)

/-- Step 5 of R39: the outcome of a slot that is no candidate, or none (R43). -/
def State.notCandidate (s : State) (k : Fin 2) : Option Nat :=
  if s.slotBlankOrSuspect k then some 8
  else
    let i := s.flashBytes [] (planBase k) 256
    if leAt i 0 4 ≠ planMagic || leAt i 4 2 ≠ 1 || imgLen i < 264 || 65504 < imgLen i then some 2
    else if imgGen i < s.plans.otp.floor then some 3
    else if imgKeySlot i < 4 && s.plans.otp.revoked.getLsbD (imgKeySlot i) then some 4
    else none

/-- Verification of a slot: outcome 0 where it passes, with check 6 giving 0x2 (R445 to R447). -/
def State.verifySlot (s : State) (k : Fin 2) (errs : List LineErr) : Nat :=
  let i := s.slotImage k errs
  if !s.activationGood k (imgGen i) errs then 2
  else match (s.checkImage i).1 with
    | 9 => 2
    | c => c

/-- DEV.BOOT_DIAG outcome of a slot. -/
def State.setOutcome (s : State) (k : Fin 2) (c : Nat) : State :=
  s.setFld Reg.DEV_BOOT_DIAG (7 + 4 * k.val) (4 + 4 * k.val) c

/-- Step 5: the headers are read; outcomes of slots that are no candidates, and the candidates in descending order of
generation, slot 0 first when equal. -/
def State.readHeaders (s : State) : State :=
  let s := [0, 1].foldl (fun s (k : Fin 2) => match s.notCandidate k with
    | some c => s.setOutcome k c
    | none => s) s
  let gen (k : Fin 2) : Nat := imgGen (s.flashBytes [] (planBase k) 256)
  let c := [0, 1].filter fun (k : Fin 2) => (s.notCandidate k).isNone
  { s with dev.planCands := if c.length = 2 && gen 0 < gen 1 then [1, 0] else c }

/-! ### OTP at load (R443) -/

/-- The OTP writes of R443. -/
def Otp.load (o : Otp) (i : List Byte) (l : List Section) : Otp :=
  let put (o : Otp) (k : Nat) (h : BitVec 256) : Otp := { o with keyHash := o.keyHash.set (k % 4) (some h) (Nat.mod_lt _ (by decide)) }
  let o := if o.blank then put o (imgKeySlot i) (Config.sha256 (imgKey i)) else o
  let o := (((sectionBody l 2).map keyEntries).getD []).foldl (fun o e =>
    if (o.keyHash.toList.getD e.1 none).isNone then put o e.1 e.2 else o) o
  let o : Otp := { o with revoked := o.revoked ||| BitVec.ofNat 4 (imgRevoke i) }
  if o.floor < imgFloor i && o.floors.length < 16 then { o with floors := o.floors ++ [BitVec.ofNat 32 (imgFloor i)] } else o

/-! ### Staging (R450 to R455) -/

/-- The staging slot of Plans (R450). -/
def State.stagingSlot (s : State) : Fin 2 :=
  match s.planSlot with
  | some 0 => 1
  | some _ => 0
  | none =>
    let gen (k : Fin 2) : Nat :=
      let i := s.flashBytes [] (planBase k) 256
      if leAt i 0 4 = planMagic then imgGen i else 0
    if gen 1 < gen 0 then 1 else 0

/-- PLAN journal record (R430). -/
def State.planRecord (s : State) (kind : Nat) (slot : Fin 2) (version : Nat) (hash : Nat) (len : Nat) : State :=
  s.journal 0x0A ([BitVec.ofNat 8 kind, BitVec.ofNat 8 slot.val, 0, 0] ++ leBytes 4 version ++ leBytes 32 hash ++ leBytes 4 len)

/-- The result of a staging command (R375, R376). -/
def stageResult (check block index staged : Nat) : List Byte :=
  [BitVec.ofNat 8 check, BitVec.ofNat 8 block] ++ leBytes 2 index ++ leBytes 4 staged

/-- Programs whole lines from flash address `a`. -/
def State.programBytes (s : State) : Nat → Nat → List Byte → State
  | 0, _, _ => s
  | n + 1, a, d => if d.isEmpty then s else (s.programLine (a / 32) (padTo 32 (d.take 32))).programBytes n (a + 32) (d.drop 32)

/-- A chunk joins a staging: whole lines are programmed, the rest is held; FINAL pads it with 0xFF (R451). -/
def State.stageWrite (s : State) (base : Nat) (t : Staging) (d : List Byte) (final : Bool) : State × Staging :=
  let a := base + (t.count - t.tail.length)
  let all := t.tail ++ d
  let n := all.length / 32 * 32
  let out := if final && all.length ≠ n then all ++ List.replicate (n + 32 - all.length) 0xFF else all.take n
  (s.programBytes (out.length / 32) a out,
    { t with count := t.count + d.length, tail := if final then [] else all.drop n, chunk := none })

/-- A Plan chunk is complete: written, and on FINAL checked (R452). -/
def State.planChunk (s : State) (r : Req) (d : List Byte) (final : Bool) : State :=
  let (s, t) := s.stageWrite (planBase s.plans.plan.slot) s.plans.plan d final
  if !final then
    State.complete { s with plans.plan := t } r { status := Status.OK, result := stageResult 0 0 0 t.count }
  else
    let i := s.flashBytes [] (planBase t.slot) t.count
    let (c, b, k) := s.checkImage i
    let g := if s.imgHeader i then some (imgGen i) else none
    let s : State := { s with plans.plan := { t with isOpen := false, closed := true, gen := g, activated := false } }
    let s := s.planRecord 1 t.slot (imgGen i) (imgHash i) (imgLen i)
    s.complete r { status := if c = 0 then Status.OK else Status.REFUSED, result := stageResult c b k t.count }

/-- A firmware chunk is complete. The image's layout is Mellusta's: what its checks find comes with the FINAL chunk.
Log entry 72 (DESIGN CHOICE). -/
def State.firmwareChunk (s : State) (r : Req) (d : List Byte) (final : Bool) (check : Nat) (version : Word) : State :=
  let (s, t) := s.stageWrite (fwBase s.plans.firmware.slot) s.plans.firmware d final
  if !final then
    State.complete { s with plans.firmware := t } r { status := Status.OK, result := stageResult 0 0 0 t.count }
  else
    let s : State := { s with plans.firmware := { t with isOpen := false, closed := true } }
    let i := s.flashBytes [] (fwBase t.slot) t.count
    let m := if check = 0 then s.plans.fwMarked ||| BitVec.ofNat 2 (2 ^ t.slot.val) else s.plans.fwMarked
    let s := State.planRecord { s with plans.fwMarked := m } 3 t.slot version.toNat (Config.sha256 i).toNat t.count
    s.complete r { status := if check = 0 then Status.OK else Status.REFUSED, result := stageResult check 0 0 t.count }

/-- The chunk of OFFSET 0 goes on once every sector it had to erase is blank (R451). Log entry 71 (DEDUCED). -/
def State.stageReady (s : State) : State :=
  let s := match s.plans.plan.chunk with
    | some (r, d, final, _, _) => if s.plans.plan.todo.isEmpty then s.planChunk r d final else s
    | none => s
  match s.plans.firmware.chunk with
  | some (r, d, final, c, v) => if s.plans.firmware.todo.isEmpty then s.firmwareChunk r d final c v else s
  | none => s

/-- Sectors of a list that have to be erased: those that are not blank, or suspect. -/
def State.toErase (s : State) (l : List Nat) : List Nat :=
  l.filter fun g => !s.sectorBlank g || s.isSuspect (Fin.ofNat 2 (g / 512)) (g % 512)

/-- A staging's sector has been erased, or has failed twice: then the staging closes and its command completes ABORTED with
STAGED 0 (R452). -/
def Staging.erased (t : Staging) (g : Nat) (ok : Bool) : Staging :=
  if ok then { t with todo := t.todo.filter (· ≠ g) }
  else { slot := t.slot }

/-- The command that waits in a staging. -/
def Staging.waiting (t : Staging) : Option Req := t.chunk.map (·.1)

/-- What the end of an erase means to the stagings. Log entry 45 (DEDUCED). -/
def State.stageErased (s : State) (g : Nat) (use : EraseFor) (ok : Bool) : State :=
  let fail (s : State) (r : Option Req) : State := match r with
    | some r => if ok then s else s.complete r { status := Status.ABORTED, result := stageResult 0 0 0 0 }
    | none => s
  let s := match use with
    | .stage => fail { s with plans.plan := s.plans.plan.erased g ok } s.plans.plan.waiting
    | .firmware => fail { s with plans.firmware := s.plans.firmware.erased g ok } s.plans.firmware.waiting
    | .plan => { s with plans.plan := if ok then s.plans.plan.erased g true else s.plans.plan }
    | _ => s
  s.stageReady

end Sys2Proof.Machine
end

