-- ==== Sys2Proof/Machine/ResetOps.lean ====
section
/-!
DEFINITION. Resets: what a reset keeps, the cause registers, and the state it leaves the controller in (02_start_up.md, R36 to
R41 and R54 to R58).
-/

namespace Sys2Proof.Machine

/-- Reset cause codes (R54). -/
abbrev Cause.por : Nat := 1
abbrev Cause.rstN : Nat := 2
abbrev Cause.bor : Nat := 3
abbrev Cause.lpBor : Nat := 4
abbrev Cause.sheepdogWdt : Nat := 5
abbrev Cause.mgmtWdt : Nat := 6
abbrev Cause.lockstep : Nat := 7
abbrev Cause.safeHold : Nat := 8
abbrev Cause.swReset : Nat := 9
abbrev Cause.offExit : Nat := 10

/-- Causes that keep no register state (R54). -/
def coldCause (c : Nat) : Bool := c = Cause.por || c = Cause.bor || c = Cause.offExit

/-- The cause that started the present start: RESET_CAUSE.FIRST. -/
def State.firstCause (s : State) : Nat := s.fld Reg.DEV_RESET_CAUSE 7 0

/-- The flash array after a reset: a line in progress is finished (R538), every erase is abandoned (R419), and only what the
array and its marker areas hold is kept. -/
def State.flashReset (s : State) : State :=
  let f (s : State) (b : Fin 2) : State :=
    (s.endProgram b).abandonErase b false |>.modBank b fun x => { half := x.half, gen := x.gen, bitmap := x.bitmap, marks := x.marks }
  let s := f (f s 0) 1
  { s with flash := { lines := s.flash.lines, bank := s.flash.bank } }

/-- Registers that a warm reset keeps beside the cause registers: the fault and start-failure latches (R188, R213, R214), the
battery protection, retry and FET fault latches (R264). -/
def State.latchRegs (s : State) : List (Nat × Word) :=
  [(Reg.SUP_STATUS, s.reg Reg.SUP_STATUS &&& 3), (Reg.SUP_FAULT_LATCH, s.reg Reg.SUP_FAULT_LATCH),
   (Reg.SUP_FAULT_PT_LO, s.reg Reg.SUP_FAULT_PT_LO), (Reg.SUP_FAULT_PT_HI, s.reg Reg.SUP_FAULT_PT_HI),
   (Reg.SEQ_LATCH, s.reg Reg.SEQ_LATCH), (Reg.BATT_STATUS, s.reg Reg.BATT_STATUS &&& 0xAC),
   (Reg.BATT_FET_FAULT, s.reg Reg.BATT_FET_FAULT)]

/-- The battery's Kennel domain through a warm reset (R273): BATT.ACC, the charge since the latest snapshot with what a sleep had
counted, the charge counted on FIRC, and what forbids a candidate (R270). Log entry 42 (DEDUCED). -/
def Batt.kept (b : Batt) : Batt :=
  { acc := b.acc + BitVec.ofNat 64 b.lp.chg - BitVec.ofNat 64 b.lp.dsg, rem := b.rem, sinceSnap := b.sinceSnap.add b.lp,
    raw := b.raw, blocked := b.blocked, balMs := b.balMs }

/-- Nodes 76 and 77 follow the latches that survive a warm reset (R263, R264). -/
def State.battNodes (s : State) : State :=
  let s := s.battAlarm
  if s.reg Reg.BATT_FET_FAULT ≠ 0 then s.setNode 77 true else s

/-- The state a reset of cause `c` leaves: every register at its reset value but for what R54 and the latches keep, internal
reset asserted, all volatile state gone. Pin levels, host memory and non-volatile memory stay.
Log entry 73 (DEDUCED). -/
def State.cleared (s : State) (c : Nat) : State :=
  let s := s.flashReset
  let cold := coldCause c
  let keep := if cold then [] else s.latchRegs
  let count := if cold then 0 else satN 16 (s.fld Reg.DEV_RESET_COUNT 15 0 + 1)
  let strap := s.reg Reg.DEV_STRAP
  let safeCause := if c = Cause.safeHold then s.reg Reg.DEV_STAGE &&& 0x00FF0000 else 0
  let di := s.keys.di.zipIdx.map fun e =>
    ({ level := e.1.level != s.flag (Reg.KEYS_DI_CFG e.2) 3 } : DirectIn)
  let s : State :=
    { pending := s.pending, free := s.free, host := s.host, rdata := s.rdata,
      flash := s.flash, plans := { otp := s.plans.otp, fwMarked := s.plans.fwMarked },
      dev := { powered := s.dev.powered, inReset := true, resetNow := true, rstnLow := s.dev.rstnLow, regsGood := s.dev.regsGood && !cold },
      keys := { di := di }, ring := { perstHigh := s.ring.perstHigh }, mbox := { csLow := s.mbox.csLow },
      hedge := { dockLevel := s.hedge.dockLevel }, pmc := { offByte := s.pmc.offByte },
      batt := if cold then {} else s.batt.kept,
      bist := if c = Cause.por || c = Cause.bor then {}
        else { safeLatch := s.bist.safeLatch, safeCode := s.bist.safeCode } }
  let s := (keep.foldl (fun s e => s.setReg e.1 e.2) s).battNodes
  let s := (s.setReg Reg.DEV_RESET_COUNT (BitVec.ofNat 32 count)).setReg Reg.DEV_STRAP strap
  let s := s.setReg Reg.DEV_STAGE (s.reg Reg.DEV_STAGE ||| safeCause)
  let s := s.setReg Reg.DEV_RESET_CAUSE (pack [(c, 0), (1, 15 + c)])
  let src := if c = Cause.por || c = Cause.bor then 0x0D else if c = Cause.offExit then 0x0E else 0
  (s.setReg Reg.PMC_WAKE_SRC (BitVec.ofNat 32 src)).setReg Reg.PMC_OFF_BYTE (BitVec.ofNat 32 s.pmc.offByte.toNat)

/-- A cause joins the reset in progress (R55): ALL names it, and FIRST too where it arose in the fabric cycle that began the reset
and has the lowest code. Log entry 82 (DEDUCED). -/
def State.joinCause (s : State) (c : Nat) : State :=
  let s := s.setFlag Reg.DEV_RESET_CAUSE (15 + c) true
  if s.dev.resetNow then s.setFld Reg.DEV_RESET_CAUSE 7 0 (min c s.firstCause) else s

/-- A reset cause arises: it starts a reset, or joins the one in progress (R54, R55). Without power, or in Off, no cause but a
start arises. -/
def State.assertReset (s : State) (c : Nat) : State :=
  if !s.dev.powered || s.pmc.state = .off then s
  else if s.dev.inReset then s.joinCause c
  else s.cleared c

/-- A start from the detector trip of R36 or from Off: HVSEL is sampled (R59), a low RST_N joins ALL (R41, R55).
Log entry 24 (DEDUCED). Log entry 73 (DEDUCED). -/
def State.coldStart (s : State) (c : Nat) (hvsel : Bool) : State :=
  let s := State.cleared { s with dev.powered := true } c
  let s := s.setFlag Reg.DEV_STRAP 0 hvsel
  if s.dev.rstnLow then s.setFlag Reg.DEV_RESET_CAUSE (15 + Cause.rstN) true else s

/-- VIN falls through 4.3 V: the controller stops, and a later start is a POR (R36, R469 (d)). -/
def State.powerDown (s : State) : State :=
  let s := State.cleared { s with pmc.offByte := 0 } Cause.por
  { s with dev.powered := false, pmc.state := .run }

end Sys2Proof.Machine
end

