-- ==== Sys2Proof/Machine/Supervision.lean ====
section
/-!
DEFINITION. Rail supervision, counters, and the hold-up sequence (08_rail_supervision.md).
-/

namespace Sys2Proof.Machine

/-! ### The filtered values and the warning levels (R204 to R208) -/

def State.setMon (s : State) (n : Fin 24) (m : RailMon) : State := { s with sup.rail := s.sup.rail.set n m }

/-- RAIL_WARN for a setting (R208, R230); a clearing is `endWarning`'s but for ENDED. -/
def State.postWarn (s : State) (n : Fin 24) (kind level count : Nat) (clears : Option (Nat × Time)) : State :=
  let (ext, dur) := match clears with
    | some (e, t) => (e, satN 32 ((s.ptNow - t).toNat / 96))
    | none => (0, 0)
  s.post 0x21 ([BitVec.ofNat 8 n, BitVec.ofNat 8 kind, 0, 0] ++ leBytes 2 (s.railValue n) ++ leBytes 2 level ++
    leBytes 2 ext ++ leBytes 2 count ++ leBytes 4 dur)

/-- The UV warning of rail `n` judged at an update (R207). -/
def State.judgeUv (s : State) (n : Fin 24) : State :=
  let v := s.railValue n
  let level := s.fld (Reg.SUP_RAIL_WTH n) 15 0
  let m := s.sup.rail[n]
  if level = 0 then s
  else if !s.flag (Reg.SUP_RAIL_VALUE n) 16 then
    if v < level then
      let s := (s.setFlag (Reg.SUP_RAIL_VALUE n) 16 true).railCnt (Reg.SUP_RAIL_CNT_W n) 15 0
      (s.setMon n { m with uvSince := s.ptNow, uvExt := v }).postWarn n 1 level (s.fld (Reg.SUP_RAIL_CNT_W n) 15 0) none
    else s
  else if level + s.fld (Reg.SUP_RAIL_WHYST n) 15 0 ≤ v then
    (s.setFlag (Reg.SUP_RAIL_VALUE n) 16 false).postWarn n 2 level (s.fld (Reg.SUP_RAIL_CNT_W n) 15 0)
      (some (m.uvExt, m.uvSince))
  else s.setMon n { m with uvExt := min m.uvExt v }

/-- The OV warning (R207). -/
def State.judgeOv (s : State) (n : Fin 24) : State :=
  let v := s.railValue n
  let level := s.fld (Reg.SUP_RAIL_WTH n) 31 16
  let m := s.sup.rail[n]
  if level = 0 then s
  else if !s.flag (Reg.SUP_RAIL_VALUE n) 17 then
    if level < v then
      let s := (s.setFlag (Reg.SUP_RAIL_VALUE n) 17 true).railCnt (Reg.SUP_RAIL_CNT_W n) 31 16
      (s.setMon n { m with ovSince := s.ptNow, ovExt := v }).postWarn n 3 level (s.fld (Reg.SUP_RAIL_CNT_W n) 31 16) none
    else s
  else if v + s.fld (Reg.SUP_RAIL_WHYST n) 15 0 ≤ level then
    (s.setFlag (Reg.SUP_RAIL_VALUE n) 17 false).postWarn n 4 level (s.fld (Reg.SUP_RAIL_CNT_W n) 31 16)
      (some (m.ovExt, m.ovSince))
  else s.setMon n { m with ovExt := max m.ovExt v }

/-- The extremes of rail `n` take in the present value (R208). -/
def State.minMax (s : State) (n : Fin 24) : State :=
  let v := s.railValue n
  let w := s.reg (Reg.SUP_RAIL_MINMAX n)
  s.setReg (Reg.SUP_RAIL_MINMAX n) (pack [(max (wfld w 31 16) v, 16), (min (wfld w 15 0) v, 0)])

/-- One sample of rail `n`: its filter, its flags, and what is judged at the update. -/
def State.railSample (s : State) (n : Fin 24) (v : Nat) : State :=
  let len := s.fld (Reg.SUP_RAIL_CFG n) 13 8 + 1
  let m := s.sup.rail[n]
  let hist := (v :: m.hist).take len
  let full := decide (hist.length = len)
  let (s, mean) := s.roundFrac (hist.foldl (· + ·) 0 : Nat) (hist.length : Nat)
  let s := s.setMon n { m with hist := hist, last := v }
  let w := wset (wset (wset (s.reg (Reg.SUP_RAIL_VALUE n)) 15 0 mean.toNat) 18 18 (b2n (!s.fullService))) 19 19 (b2n full)
  let s := s.setReg (Reg.SUP_RAIL_VALUE n) w
  if (s.seq.rail[n]).state = .good && full then
    let s := s.minMax n
    if s.fullService then (s.judgeUv n).judgeOv n else s
  else s

/-- Every rail in use whose channel is usable has a full filter. -/
def State.filtersFull (s : State) : Bool :=
  let m := s.railsInUse
  (List.finRange 24).all fun n => !m.getLsbD n.val || s.flag (Reg.SUP_RAIL_VALUE n) 19 || s.flag Reg.BIST_UNUSABLE_ADC n

/-- Filters hold no sample: after enabling at Plan load, the switch to full service, and a wake (R205). -/
def State.emptyFilters (s : State) : State :=
  (List.finRange 24).foldl (fun s (n : Fin 24) =>
    (s.setMon n { s.sup.rail[n] with hist := [] }).setFlag (Reg.SUP_RAIL_VALUE n) 19 false) s

/-- The rails' slots of a cycle (R204); the channel of an unusable rail is frozen (R494). -/
def State.railSlots (s : State) (x : AdcCycle) : State :=
  let m := s.railsInUse
  (List.finRange 24).foldl (fun s (n : Fin 24) =>
    if m.getLsbD n && s.sup.cycle % 2 ^ s.fld (Reg.SUP_RAIL_CFG n) 4 2 = 0 && !s.flag Reg.BIST_UNUSABLE_ADC n then
      s.railSample n (x.rails[n]).toNat
    else s) s

/-- The comparison of the references (R485). -/
def State.refSlots (s : State) (x : AdcCycle) : State :=
  let d := x.refDiff.toNat
  let s := s.setReg Reg.BIST_REF_DIFF (pack [(d, 0), (max d (s.fld Reg.BIST_REF_DIFF 31 16), 16)])
  let run := if x.refBad then s.bist.refRun + 1 else 0
  let s : State := { s with bist.refRun := run }
  if run = 40 then s.classS 0x05 0xFFFF 0 else s

/-- The die and NTC samples go to their zones (R312, R314). -/
def State.zoneSlots (s : State) (x : AdcCycle) : State :=
  let add (s : State) (z : Fin 8) (v : Int) : State :=
    let y := s.therm.zone[z]
    { s with therm.zone := s.therm.zone.set z { y with sum := y.sum + v, count := y.count + 1 } }
  let s := add s 0 x.die.toInt
  match x.ntc with
  | none => s
  | some v => (List.finRange 6).foldl (fun s (k : Fin 6) => add s ⟨k.val + 1, by omega⟩ (v[k]).toNat) s

/-- One ADC-M cycle. -/
def State.adcCycle (s : State) (x : AdcCycle) : State :=
  let s := s.setReg Reg.SUP_SUPPLY (pack [(x.vhold.toNat, 16), (x.vin.toNat, 0)])
  let s := s.setFlag Reg.SUP_STATUS 6 (decide (100 * s.fld Reg.SUP_HOLD_CFG 6 0 ≤ x.vhold.toNat))
  let s := if s.dev.planLoaded then s.railSlots x else s
  let s := (s.refSlots x).zoneSlots x
  let s := if s.fullService && s.filtersFull then s.setFlag Reg.DEV_STAGE 7 false else s
  { s with sup.cycle := (s.sup.cycle + 1) % 32 }

/-- ADC-M converts while the controller is awake and out of reset (R204, R216). Log entry 10 (DESIGN CHOICE). -/
def State.adcRuns (s : State) : Bool := !s.asleep && !s.dev.inReset && s.dev.powered && s.pmc.state ≠ .off

def execAdcMCycle (x : AdcCycle) (s : State) : Out := .next (if s.adcRuns then s.adcCycle x else s)

/-! ### Comparator crossings (R210 to R216) -/

/-- RAIL_FAULT (R231) of kinds 1 and 2; FLAGS[1] tells a decision in the PMC state `SLEEP`. -/
def State.postCrossing (s : State) (n : Fin 24) (ov : Bool) (action : Nat) : State :=
  let code := if ov then s.fld (Reg.SUP_RAIL_FTH n) 25 16 else s.fld (Reg.SUP_RAIL_FTH n) 9 0
  s.post 0x22 ([BitVec.ofNat 8 n, if ov then 2 else 1, BitVec.ofNat 8 (s.seq.rail[n]).state.code, BitVec.ofNat 8 action] ++
    leBytes 2 (s.sup.rail[n]).last ++ leBytes 2 code ++ leBytes 3 s.railsOn.toNat ++
    [BitVec.ofNat 8 (b2n (s.flag Reg.SUP_STATUS 1) + 2 * b2n s.inSleep + 4 * b2n (s.flag Reg.SUP_STATUS 6))])

/-- ACTION of a crossing in the rail's state (R210), or none where it is ignored. `latched`: the latch was set before. -/
def crossAction (st : RailState) (ov latched : Bool) : Option Nat :=
  match st with
  | .faulted => none
  | .ramp => if ov then some (if latched then 0 else 1) else none
  | .settle => some (if latched then 0 else 1)
  | .good => some (if latched then 0 else 2)
  | _ => if ov then some 0 else none

/-- One crossing: counted, acted on and reported. Log entry 37 (DEDUCED). -/
def State.crossing (s : State) (latched : Bool) (n : Fin 24) (ov : Bool) : State :=
  match crossAction (s.seq.rail[n]).state ov latched with
  | none => s
  | some a =>
    let s := if ov then s.railCnt (Reg.SUP_RAIL_CNT_F n) 31 16 else s.railCnt (Reg.SUP_RAIL_CNT_F n) 15 0
    let s : State := if a = 2 then { s with sup.tripped := s.sup.tripped ||| railBit n }
      else if a = 1 && ov then { s with seq.ovX := s.seq.ovX ||| railBit n }
      else if a = 1 then { s with seq.uvX := s.seq.uvX ||| railBit n }
      else s
    s.postCrossing n ov a

/-- The FAULT_OFF journal record (R430). -/
def State.journalFaultOff (s : State) (n : Fin 24) (ov : Bool) : State :=
  let code := if ov then s.fld (Reg.SUP_RAIL_FTH n) 25 16 else s.fld (Reg.SUP_RAIL_FTH n) 9 0
  s.journal 0x04 ([BitVec.ofNat 8 n, if ov then 2 else 1,
    BitVec.ofNat 8 (b2n (s.flag Reg.SUP_STATUS 1) + 2 * b2n s.inSleep), 0] ++ leBytes 2 (s.sup.rail[n]).last ++
    leBytes 2 code ++ leBytes 3 s.railsOn.toNat ++ [BitVec.ofNat 8 s.seq.st.code])

/-- The latch is set: cause and PT, node 78 and response 0x80 (R211 steps 1 to 6), the Herd (R243, R247), and the wake source
in Sleep (R216). `m` holds the `GOOD` rails that crossed. Log entry 37 (DEDUCED). -/
def State.latchFaultOff (s : State) (m : BitVec 24) (n : Fin 24) (ov : Bool) : State :=
  let p := s.ptNow
  let s := (s.setFlag Reg.SUP_STATUS 0 true).setFlag Reg.SUP_STATUS 1 (decide (m &&& ~~~(railBit n) ≠ 0))
  let s := s.setReg Reg.SUP_FAULT_LATCH (pack [(n, 8), (if ov then 2 else 1, 0)])
  let s := (s.setReg Reg.SUP_FAULT_PT_LO (p.setWidth 32)).setReg Reg.SUP_FAULT_PT_HI ((p >>> 32).setWidth 32)
  ((s.setNode 78 true).herdAbort 2).herdAlarm 0

/-- Crossings decided in one fabric cycle; each ends its rail's time inside the window (R209). In Sleep only the comparators of
`GOOD` rails are powered, and a crossing is a source that the PMC detects in every state (R216, R463).
Log entry 37 (DEDUCED). -/
def State.crossings (s : State) (uv ov : BitVec 24) : State :=
  let live := s.railsInUse &&& (if s.inSleep then s.railsGood else 0xFFFFFF)
  let uv := uv &&& live
  let ov := ov &&& live
  let s : State := { s with seq.inside := s.seq.inside &&& ~~~(uv ||| ov) }
  let good := (uv ||| ov) &&& s.railsGood
  let latched := s.flag Reg.SUP_STATUS 0
  let first := if latched then none else (List.finRange 24).find? fun (n : Fin 24) => good.getLsbD n
  let s := match first with
    | some n => s.latchFaultOff good n (!uv.getLsbD n)
    | none => s
  let s := (List.finRange 24).foldl (fun s (n : Fin 24) =>
    let s := if uv.getLsbD n then s.crossing latched n false else s
    if ov.getLsbD n then s.crossing latched n true else s) s
  match first with
  | some n =>
    (s.journalFaultOff n (!uv.getLsbD n)).wakeDetect 0x0A
  | none => s

def execComparatorCrossing (uv ov : BitVec 24) (s : State) : Out :=
  .next (if s.dev.planLoaded && !s.dev.inReset && s.pmc.state ≠ .off then s.crossings uv ov else s)

/-! ### Counters (R217 to R220) -/

/-- SNAP_AGE: whole minutes of the Kennel seconds counter since the latest snapshot (R218 (e)). -/
def State.snapAge (s : State) : Nat := satN 16 ((s.time.ktick.toNat / 32768 - s.sup.snapSec) / 60)

/-- One that falls due in a sleep is taken after step 6 of the wake order. -/
def execCounterSnapshot (s : State) : Out :=
  .next (if s.dev.planLoaded && !s.inSleepOrWake && !s.dev.inReset && s.fld Reg.SUP_CTRL 31 24 ≤ s.snapAge &&
      s.flag Reg.SUP_CNT_STATUS 16 then s.snapshot 5 else s)

/-- The read structure of COUNTERS_READ. Log entry 39 (DEDUCED). -/
def State.countersBytes (s : State) (rails : BitVec 24) : List Byte :=
  leBytes 2 (s.fld Reg.SUP_VIN_FAIL_CNT 15 0) ++ leBytes 2 s.snapAge ++
    [BitVec.ofNat 8 (b2n (s.flag Reg.SUP_CNT_STATUS 16)), 0, 0, 0] ++
    ((List.finRange 24).filter fun n => rails.getLsbD n.val).flatMap fun (n : Fin 24) =>
      [BitVec.ofNat 8 n, 0, 0, 0] ++ s.railCounters n

/-- Log entry 39 (DEDUCED). -/
def execCountersRead (r : Req) (b : BufBlock) (rails : BitVec 24) (flags : Byte) (s : State) : Out :=
  .next (s.command r 0x14 (bufBad r b (8 + 20 * count128 (rails.setWidth 128))) fun s =>
      let rep := structReply r b (s.countersBytes rails) []
      if flags.getLsbD 0 then
        let w := (s.sup.snapNo, r, rep)
        let s := s.snapshot 4
        ({ s with sup.waits := s.sup.waits ++ [w] }, none)
      else (s, some rep))

/-- Clears the named counters of the named rails, and their extremes (R220, R377 (c)). -/
def State.clearCounters (s : State) (rails : BitVec 24) (c : Byte) : State :=
  let z (s : State) (b a hi lo : Nat) : State := if c.getLsbD b then s.setFld a hi lo 0 else s
  let s := (List.finRange 24).foldl (fun s (n : Fin 24) =>
    if rails.getLsbD n then
      let s := z (z s 0 (Reg.SUP_RAIL_CNT_W n) 15 0) 1 (Reg.SUP_RAIL_CNT_W n) 31 16
      let s := z (z s 2 (Reg.SUP_RAIL_CNT_F n) 15 0) 3 (Reg.SUP_RAIL_CNT_F n) 31 16
      let s := z (z s 4 (Reg.SUP_RAIL_CNT_S n) 15 0) 5 (Reg.SUP_RAIL_CNT_S n) 31 16
      (z s 6 (Reg.SUP_ON_CYCLES n) 31 0).setReg (Reg.SUP_RAIL_MINMAX n) 0x0000FFFF
    else s) s
  z s 7 Reg.SUP_VIN_FAIL_CNT 15 0

/-- Log entry 70 (DEDUCED). -/
def execCountersClear (r : Req) (rails : BitVec 24) (counters : Byte) (s : State) : Out :=
  .next (s.command r 0x15 (decide (rails &&& ~~~s.railsInUse ≠ 0) || decide (counters = 0) ||
        (decide (rails = 0) && decide (counters &&& 0x7F ≠ 0))) fun s =>
      let s := s.clearCounters rails counters
      let no := s.sup.snapNo
      let s := s.snapshot 4
      ({ s with sup.waits := s.sup.waits ++ [(no, r, { status := Status.OK })] }, none))

/-! ### Input supply failure (R221 to R227) -/

/-- RAIL_FAULT of kinds 3 and 4. -/
def State.postVin (s : State) (kind action : Nat) : State :=
  s.post 0x22 ([0xFF, BitVec.ofNat 8 kind, 0, BitVec.ofNat 8 action] ++ leBytes 2 (s.fld Reg.SUP_SUPPLY 15 0 / 10) ++
    leBytes 2 (s.fld Reg.SUP_CTRL 8 0) ++ leBytes 3 s.railsOn.toNat ++
    [BitVec.ofNat 8 (b2n (s.flag Reg.SUP_STATUS 1) + 2 * b2n s.inSleep + 4 * b2n (s.flag Reg.SUP_STATUS 6))])

/-- SEQ.STATUS (R203). -/
def State.seqStatus (s : State) : Word :=
  pack [(s.seq.st.code, 0), (b2n s.seq.waitWake, 4), (b2n (s.seq.slot ≠ 0), 5), (b2n (s.acting.toNat / 512 % 512 ≠ 0), 6)]

/-- The staged part of the power-fail record is refreshed (R226). -/
def State.stageRecord (s : State) : State :=
  { s with sup.staged := leBytes 2 s.socNow ++ leBytes 2 (s.fld Reg.DEV_RESET_COUNT 15 0) ++ leBytes 8 s.time.pt.toNat }

/-- The power-fail record as hardware completes it at step 2 (R226, R430). Log entry 38 (DEDUCED). -/
def State.powerFail (s : State) : List Byte :=
  leBytes 2 (s.fld Reg.SUP_SUPPLY 15 0) ++ leBytes 2 (s.fld Reg.SUP_SUPPLY 31 16) ++ leBytes 1 s.seqStatus.toNat ++
    leBytes 3 s.railsOn.toNat ++ leBytes 3 s.railsGood.toNat ++ leBytes 1 (s.fld Reg.SUP_STATUS 7 0) ++
    [BitVec.ofNat 8 (s.fld Reg.SUP_FAULT_LATCH 12 8), BitVec.ofNat 8 (s.fld Reg.SUP_FAULT_LATCH 1 0)] ++
    leBytes 3 s.actionOutputs.toNat ++ [BitVec.ofNat 8 s.drive.m0.st.code] ++ image (s.reg Reg.BATT_CURRENT) ++
    s.sup.staged ++ [BitVec.ofNat 8 (b2n (s.inSleep || s.inDeepSleep) + 2 * b2n (s.flag Reg.SUP_STATUS 6))]

/-- Both banks at step 2: erases are abandoned, unlocked sequences dropped; a program goes on (R225). -/
def State.flashHoldUp (s : State) : State :=
  let f (s : State) (b : Fin 2) : State := (s.abandonErase b true).modBank b fun x => { x with step := .none }
  f (f s 0) 1

/-- The VIN_FAIL decision (R222 steps 2 to 5). Log entry 38 (DEDUCED). -/
def State.vinFail (s : State) : State :=
  let s := (s.setFlag Reg.SUP_STATUS 2 true).setFlag Reg.SUP_STATUS 3 false
  let s := s.railCnt Reg.SUP_VIN_FAIL_CNT 15 0
  let s : State := { s with sup.holdUp := some (s.ptNow, s.powerFail), sup.vinLow := true, sup.enHold := true, sup.vinHold := true }
  (s.flashHoldUp.postVin 3 3).applyActions

def execVinFailDecision (s : State) : Out :=
  .next (if s.dev.powered && !s.dev.inReset && s.pmc.state ≠ .off && s.flag Reg.SUP_STATUS 4 && s.flag Reg.SUP_STATUS 3
    then s.vinFail else s)

/-- The record complete (R224 (c), (d)). -/
def State.recordComplete (s : State) (vinAbove : Bool) : State :=
  match s.sup.holdUp with
  | none => s
  | some (p, payload) =>
    let s := (s.jrnWrite 3 (s.ptEst p) p payload).setFlag Reg.SUP_STATUS 5 true
    let s : State := { s with sup.holdUp := none }
    if vinAbove then s.wakeHoldUp.kickErases else s.powerDown

def execHoldUpRecordComplete (vinAbove : Bool) (s : State) : Out := .next (s.recordComplete vinAbove)

/-- The record is cut: its first line stands or not, its second is never written (R226).
Log entry 8 (DESIGN CHOICE). Log entry 70 (DEDUCED). -/
def State.cutRecord (s : State) (p : Time) (payload : List Byte) : State :=
  let j := s.flash.jrn
  let n := s.jNext j.sector
  let (sec, slot) := if j.slot < 64 then (j.sector, j.slot) else (n, 0)
  let r := jrnBytes j.head 3 (s.ptEst p) (s.flag Reg.DEV_STAGE 7) j.boot p payload
  if s.freeVal % 2 = 1 then s.draw.setLine (slotLine sec slot) (some (r.take 32)) else s.draw

def State.vholdCollapse (s : State) (vinAbove hvsel : Bool) : State :=
  match s.sup.holdUp with
  | none => s
  | some (p, payload) =>
    let s := (s.cutRecord p payload).powerDown
    if vinAbove then s.coldStart Cause.por hvsel else s

def execVholdCollapse (vinAbove hvsel : Bool) (s : State) : Out := .next (s.vholdCollapse vinAbove hvsel)

/-- VIN good after a decision, or after an arming at which it was not good (R221 (b)). Log entry 38 (DEDUCED). -/
def State.vinGood (s : State) : State :=
  let s := ((s.setFlag Reg.SUP_STATUS 2 false).setFlag Reg.SUP_STATUS 3 true).setFlag Reg.SUP_STATUS 5 false
  let s : State := { s with sup.vinLow := false, sup.vinHold := false, seq.vinGoodPt := s.ptNow }
  let s : State := if s.seq.st = .vinDown then s else { s with sup.enHold := false }
  s.postVin 4 0

def execVinGood (s : State) : Out :=
  .next (if s.dev.powered && !s.dev.inReset && s.pmc.state ≠ .off && s.flag Reg.SUP_STATUS 4 && !s.flag Reg.SUP_STATUS 3
    then s.vinGood else s)

end Sys2Proof.Machine
end

