-- ==== Sys2Proof/Machine/Thermal.lean ====
section
/-!
DEFINITION. Thermal zones, the host zone and fan overrides (12_thermal.md).
-/

namespace Sys2Proof.Machine

/-! ### NTC temperature (R313) -/

/-- Scale of the fixed-point logarithm. Log entry 62 (DEDUCED). -/
def lnScale : Int := 1000000000000000000

/-- `n` terms of y + y³/3 + y⁵/5 + …: `t` is the present power of y and `y2` is y², both times lnScale.
Log entry 62 (DEDUCED). -/
def atanhSum : Nat → Nat → Int → Int → Int
  | 0, _, _, _ => 0
  | n + 1, k, t, y2 => t / (k : Int) + atanhSum n (k + 2) (t * y2 / lnScale) y2

/-- Natural logarithm of m / n, times lnScale, for a quotient between 1/2 and 2. -/
def lnNear (m n : Nat) : Int :=
  let y : Int := ((m : Int) - n) * lnScale / ((m : Int) + n)
  2 * atanhSum 24 1 y (y * y / lnScale)

/-- Natural logarithm of p / q, times lnScale. Log entry 62 (DEDUCED). -/
def lnRatio (p q : Nat) : Int :=
  let a := Nat.log2 p
  let b := Nat.log2 q
  ((a : Int) - b) * lnNear 2 1 + lnNear (p * 2 ^ b) (q * 2 ^ a)

/-- A temperature as a fraction of 0.1 °C, or a bad reading. -/
abbrev TempFrac := Option (Int × Int)

/-- R313 for RPULL and R25 in 10 Ω, B in K, and the mean ratio `num / den`: bad below 0.01, above 0.99 and outside −40.0 to
+150.0 °C. Log entry 62 (DEDUCED). -/
def ntcTemp (rpull r25 b num den : Nat) : TempFrac :=
  if 100 * num < den || 99 * den < 100 * num || den ≤ num then none
  else
    let l := lnRatio (rpull * num) (r25 * (den - num))
    let d := 100 * lnScale * b + 29815 * l
    if d ≤ 0 then none
    else
      let n := 596300 * lnScale * b - 5463 * d
      if n < -400 * (2 * d) || 1500 * (2 * d) < n then none else some (n, 2 * d)

/-- What an update finds for a zone. -/
inductive ZoneTemp where
  | absent
  | bad
  | at (t : Int)
deriving DecidableEq, Repr

/-- The temperature of zone `z` from the samples since the previous update (R312, R314), or the host's value (R318).
Log entry 62 (DEDUCED). -/
def State.zoneTemp (s : State) (z : Fin 8) : State × ZoneTemp :=
  let x := s.therm.zone[z]
  if z.val = 7 then (s, match s.therm.host with
    | none => .absent
    | some t => if x.invalid then .bad else .at t)
  else if x.count = 0 then (s, .absent)
  else
    let s : State := { s with therm.zone := s.therm.zone.set z { x with sum := 0, count := 0 } }
    let f : TempFrac := if z.val = 0 then some (x.sum, (x.count : Int)) else
      ntcTemp (s.fld Reg.THERM_CTRL 15 0) (s.fld (Reg.THERM_ZONE_SENS z) 15 0) (s.fld (Reg.THERM_ZONE_SENS z) 31 16)
        x.sum.toNat (65536 * x.count)
    match f with
    | none => (s, .bad)
    | some (n, d) =>
      let (s, t) := s.roundFrac n d
      (s, .at t)

/-! ### Levels and records (R315, R316, R329) -/

/-- Hysteresis in 0.1 °C. -/
def State.zoneHyst (s : State) (z : Nat) : Int := 5 * s.fld (Reg.THERM_ZONE_CFG z) 20 16

/-- WARN (`b` 17) or CRIT (`b` 18) level in 0.1 °C; none when disabled. -/
def State.zoneLevel (s : State) (z b : Nat) : Option Int :=
  let v := if b = 17 then s.fld (Reg.THERM_ZONE_LVL z) 15 0 else s.fld (Reg.THERM_ZONE_LVL z) 31 16
  if v = 0x7FFF then none else some (sint 16 v)

/-- THERMAL record with PT `p`. -/
def State.postThermal (s : State) (z kind : Nat) (level : Int) : State :=
  let w := Reg.THERM_ZONE_STATUS z
  s.post 0x42 ([BitVec.ofNat 8 z, BitVec.ofNat 8 kind, BitVec.ofNat 8 (b2n (s.flag w 17) + 2 * b2n (s.flag w 18) +
      4 * b2n (s.flag w 16) + 8 * b2n (s.flag w 19)), BitVec.ofNat 8 (s.fld w 31 24)] ++
    leBytes 2 (s.fld w 15 0) ++ leBytes 2 (ofSint 16 level) ++
    (List.finRange 3).map fun n => BitVec.ofNat 8 (s.thermDemand n))

/-- WARN or CRIT of a zone changes: its counter, its record, and node 68 + z for CRIT. -/
def State.zoneFlag (s : State) (z : Fin 8) (b : Nat) (on : Bool) : State :=
  if s.flag (Reg.THERM_ZONE_STATUS z) b = on then s
  else
    let s := s.setFlag (Reg.THERM_ZONE_STATUS z) b on
    let s := if !on then s else if b = 17 then s.inc (Reg.THERM_ZONE_CNT z) 15 0 else s.inc (Reg.THERM_ZONE_CNT z) 31 16
    let s := if b = 18 then s.setNode (68 + z) on else s
    s.postThermal z ((if b = 17 then 1 else 3) + b2n !on) ((s.zoneLevel z b).getD 0)

/-- A flag judged on `t` with hysteresis, or afresh (R316, R317). Log entry 63 (DEDUCED). -/
def State.zoneJudge (s : State) (z : Fin 8) (b : Nat) (fresh : Bool) (t : Int) : State :=
  match s.zoneLevel z b with
  | none => s.zoneFlag z b false
  | some l =>
    let old := s.flag (Reg.THERM_ZONE_STATUS z) b
    s.zoneFlag z b (decide (l ≤ t) || (old && !fresh && decide (l - s.zoneHyst z ≤ t)))

/-- Curve point `k` of a zone: temperature in 0.1 °C and demand. -/
def State.curve (s : State) (z k : Nat) : Int × Int :=
  let a := Reg.THERM_ZONE_CURVE z (k / 2)
  let o := 16 * (k % 2)
  (10 * sint 8 (s.fld a (o + 7) o), (s.fld a (o + 15) (o + 8) : Nat))

/-- Interpolation between the bracketing points, rounded down (R315). -/
def curveDemand (pts : List (Int × Int)) (t : Int) : Int :=
  match pts with
  | [] => 0
  | [p] => p.2
  | p :: q :: rest =>
    if t ≤ p.1 then p.2
    else if t < q.1 then p.2 + (t - p.1) * (q.2 - p.2) / (q.1 - p.1)
    else curveDemand (q :: rest) t

/-- The demand temperature follows `t` (R315). -/
def nextTDem (old : Option Int) (hyst t : Int) : Int :=
  match old with
  | none => t
  | some d => if d < t then t else if t < d - hyst then t + hyst else d

def State.setZone (s : State) (z : Fin 8) (x : Zone) : State := { s with therm.zone := s.therm.zone.set z x }

/-- DEMAND of a zone. -/
def State.setZoneDemand (s : State) (z : Fin 8) (d : Nat) : State := s.setFld (Reg.THERM_ZONE_STATUS z) 31 24 d

/-- The zone is invalid: demand 100 %, and CRIT with CRIT_ON_FAULT (R317). Log entry 63 (DEDUCED). -/
def State.zoneInvalid (s : State) (z : Fin 8) : State :=
  let s := s.setZoneDemand z 100
  if s.flag (Reg.THERM_ZONE_CFG z) 30 then s.zoneFlag z 18 true else s

/-- A valid temperature is taken: TEMP, t_dem and the demand. -/
def State.zoneTake (s : State) (z : Fin 8) (t : Int) : State :=
  let x := s.therm.zone[z]
  let d := nextTDem x.tDem (s.zoneHyst z) t
  let s := s.setZone z { x with tDem := some d }
  let s := (s.setFlag (Reg.THERM_ZONE_STATUS z) 16 true).setFld (Reg.THERM_ZONE_STATUS z) 15 0 (ofSint 16 t)
  s.setZoneDemand z (curveDemand ((List.range 8).map fun k => s.curve z k) d).toNat

/-- A zone turns invalid, with its record (5, or 7 for the host zone). -/
def State.zoneFails (s : State) (z : Fin 8) (kind : Nat) : State :=
  let s := s.setZone z { s.therm.zone[z] with invalid := true, good := 0, tDem := none, fresh := true }
  ((s.setFlag (Reg.THERM_ZONE_STATUS z) 16 false).setZoneDemand z 100).postThermal z kind 0 |>.zoneInvalid z

/-- The update of one enabled zone. -/
def State.zoneUpdate (s : State) (z : Fin 8) : State :=
  let (s, r) := s.zoneTemp z
  let s := s.setFlag (Reg.THERM_ZONE_STATUS z) 19 (!s.fullService)
  let x := s.therm.zone[z]
  match r with
  | .absent => s
  | .bad => if x.invalid then (s.setZone z { x with good := 0 }).zoneInvalid z else s.zoneFails z 5
  | .at t =>
    if x.invalid && x.good < 9 then (s.setZone z { x with good := x.good + 1 }).zoneInvalid z
    else if x.invalid then
      ((s.setZone z { x with invalid := false, good := 0 }).zoneTake z t).postThermal z 6 0
    else
      let s := s.setZone z { x with fresh := false }
      ((s.zoneTake z t).zoneJudge z 17 x.fresh t).zoneJudge z 18 x.fresh t

/-- ZONE_TEMP_WRITE commands complete after the update (R319, R377 (g)). -/
def State.zoneReplies (s : State) : State :=
  let l := s.therm.waits
  let w := Reg.THERM_ZONE_STATUS 7
  let res : List Byte := [BitVec.ofNat 8 (s.fld w 31 24),
    BitVec.ofNat 8 (b2n (s.flag w 17) + 2 * b2n (s.flag w 18) + 4 * b2n (s.flag w 16))]
  l.foldl (fun s r => s.complete r { status := Status.OK, result := res })
    { s with therm.waits := [] }

/-- The 100 ms update (R314). Log entry 63 (DEDUCED). -/
def State.zonesUpdate (s : State) : State :=
  let s := (List.finRange 8).foldl (fun s (z : Fin 8) => if s.zoneOn z then s.zoneUpdate z else s) s
  s.fansFollow.zoneReplies

/-- The zones run on the management core, with a Plan, while awake (R314). Log entry 10 (DESIGN CHOICE). -/
def State.thermRuns (s : State) : Bool := s.dev.planLoaded && !s.asleep && !s.dev.inReset

def execZoneUpdate (s : State) : Out := .next (if s.thermRuns then s.zonesUpdate else s)

/-! ### The host zone (R318, R319) -/

/-- HOST_TO has passed since the last write; a field of 0 stands for 5 s (R318, R332). -/
def State.hostDue (s : State) : Bool :=
  let t := s.fld (Reg.THERM_ZONE_SENS 7) 15 0
  s.therm.host.isSome && decide (ms (1000 * (if t = 0 then 5 else t)) ≤ (s.ptNow - s.therm.hostPt).toNat)

def execHostZoneTimeout (s : State) : Out :=
  .next (if s.thermRuns && s.zoneOn 7 && s.hostDue && !(s.therm.zone[(7 : Fin 8)]).invalid then
      (s.zoneFails 7 7).fansFollow
    else s)

/-- A write: its value waits for the next update, and a timed-out Z7 is valid again at once (R318 (b), (c)). -/
def State.hostWriteTemp (s : State) (r : Req) (v : Int) : State :=
  let x := s.therm.zone[(7 : Fin 8)]
  let th : Therm := { s.therm with host := some v, hostPt := s.ptNow, waits := s.therm.waits ++ [r] }
  let s : State := { s with therm := th }
  if x.invalid then
    let s := s.setZone 7 { x with invalid := false, good := 0 }
    (s.setFlag (Reg.THERM_ZONE_STATUS 7) 16 true).postThermal 7 8 0
  else s

def execZoneTempWrite (r : Req) (value : BitVec 16) (s : State) : Out :=
  .next (s.command r 0x3A (decide (value.toInt < -400) || decide (1500 < value.toInt)) fun s =>
      if !s.dev.planLoaded || !s.zoneOn 7 then (s, reply Status.NOT_IN_STATE) else (s.hostWriteTemp r value.toInt, none))

/-! ### Overrides (R320, R321) -/

/-- CLEAR on one channel: its latches clear, `FAULT` becomes `STOPPED`, kind 12 (R304, R325). -/
def State.fanClear (s : State) (n : Fin 3) : State :=
  if s.fld (Reg.THERM_FAN_FSTATUS n) 2 0 = 0 then s
  else
    let s := (s.setFld (Reg.THERM_FAN_FSTATUS n) 2 0 0).setFld (Reg.DRIVE_FAN_STATUS n) 22 21 0
    let s := s.setFlag (Reg.DRIVE_FAN_STATUS n) 19 false
    let s := if (s.drive.fan[n]).st = .fault then s.fanTo n .stopped else s
    (s.fanNode n).postFan n 12

/-- The channels of a mask. -/
def fansOf (mask : Byte) : List (Fin 3) := (List.finRange 3).filter fun n => mask.getLsbD n.val

/-- The override applies to the named channels; a duration of 0 cancels it. -/
def State.setOverride (s : State) (mask : Byte) (demand : Nat) (dur : Nat) : State :=
  let o : Option (Nat × Time) := if dur = 0 then none else some (demand, s.ptNow + BitVec.ofNat 64 (ms (1000 * dur)))
  ((fansOf mask).foldl (fun s n => s.setFan n { s.drive.fan[n] with ovr := o }) s).fansFollow

/-- Result of FAN_OVERRIDE (R375, R377 (e)). -/
def State.fanRes (s : State) (named : Nat) : List Byte :=
  [BitVec.ofNat 8 named, BitVec.ofNat 8 (bitsOf 3 fun n => s.flag (Reg.DRIVE_FAN_STATUS n) 17), 0, 0] ++
    image s.demandWord

/-- FAN_OVERRIDE at its decision point. -/
def State.overrideTake (s : State) (mask demand : Byte) (clear : Bool) (dur : Nat) (hot : BitVec 3) :
    State × Option Reply :=
  let l := fansOf mask
  if l.any fun n => s.flag Reg.BIST_UNUSABLE n then (s, reply Status.UNUSABLE (s.fanRes 0xFF))
  else if !s.dev.planLoaded || l.any fun n => !s.fanOn n then (s, reply Status.NOT_IN_STATE (s.fanRes 0xFF))
  else if clear then
    match l.find? fun n => hot.getLsbD n.val with
    | some n => (s, reply Status.REFUSED (s.fanRes n))
    | none =>
      let s := (l.foldl (fun s n => s.fanClear n) s).setOverride mask demand.toNat dur
      (s, reply Status.OK (s.fanRes 0xFF))
  else if s.dev.stage = .reduced then (s, reply Status.NOT_IN_STATE (s.fanRes 0xFF))
  else
    let s := s.setOverride mask demand.toNat dur
    (s, reply Status.OK (s.fanRes 0xFF))

def execFanOverride (r : Req) (mask demand flags : Byte) (duration : BitVec 16) (hot : BitVec 3) (s : State) : Out :=
  .next (if s.driveWaits then s.awaitTurn r 0x38
    else s.command r 0x38 ((fansOf mask).isEmpty || 100 < demand.toNat || 3600 < duration.toNat) fun s =>
      s.overrideTake mask demand (flags.getLsbD 0) duration.toNat hot)

/-- The duration of the channel's override has passed (R321). -/
def State.ovrOver (s : State) (n : Fin 3) : Bool :=
  match (s.drive.fan[n]).ovr with
  | some (_, e) => decide (e ≤ s.ptNow)
  | none => false

def execFanOverrideExpiry (n : Fin 3) (s : State) : Out :=
  .next (if s.thermRuns && s.ovrOver n then (s.setFan n { s.drive.fan[n] with ovr := none }).fansFollow else s)

/-- THERM.FAN_OVR: seconds left rounded up (R332). Log entry 61 (DEDUCED). -/
def State.ovrWord (s : State) (n : Fin 3) : Word :=
  match (s.drive.fan[n]).ovr with
  | none => 0
  | some (v, e) => pack [((e - s.ptNow).toNat / ms 1000 + b2n ((e - s.ptNow).toNat % ms 1000 ≠ 0), 0), (v, 16), (1, 24)]

/-! ### Sleep and counters (R327, R332) -/

def execDieTempWake (s : State) : Out :=
  .next (if s.live && s.fld Reg.THERM_SLEEP_WAKE 7 0 ≠ 0 then s.wakeDetect 0x0C else s)

/-- After a wake the zones start from new samples, t_dem restarts, and Z7 is unwritten: no demand and no flags (R315, R318,
R327). Log entry 63 (DEDUCED). -/
def State.thermResume (s : State) : State :=
  let s : State := { s with therm.zone := s.therm.zone.map fun x => { x with sum := 0, count := 0, tDem := none } }
  let s := s.setZone 7 {}
  let s : State := { s with therm.host := none }
  if s.zoneOn 7 then
    (((s.setFlag (Reg.THERM_ZONE_STATUS 7) 16 false).setZoneDemand 7 0).zoneFlag 7 17 false).zoneFlag 7 18 false
  else s

/-- THERM.STATUS (R332). -/
def State.thermStatus (s : State) : Word :=
  let f (b : Nat) : Nat := bitsOf 8 fun z => s.flag (Reg.THERM_ZONE_STATUS z) b
  pack [(f 16, 0), (f 17, 8), (f 18, 16)]

/-- THERM.CNT_CLR (R332). -/
def State.thermCntClr (s : State) (v : Word) : State :=
  s.clearBy v ((List.range 8).map (fun z => (z, Reg.THERM_ZONE_CNT z, 31, 0)) ++
    (List.range 3).map fun n => (8 + n, Reg.THERM_FAN_FCNT n, 31, 0))

end Sys2Proof.Machine
end

