-- ==== Sys2Proof/Machine/StartUp.lean ====
section
/-!
DEFINITION. From first volt to full service: resets, the start-up timeline, Plan load, and the switch to full service
(02_start_up.md; 17_plan_image.md, R447; what each block does at step 7).
-/

namespace Sys2Proof.Machine

/-! ### Resets (R36, R37, R54 to R57) -/

/-- A cause of a cold start: what a reset in progress still kept is lost too. Log entry 40 (DEDUCED). -/
def State.coldJoin (s : State) (c : Nat) : State :=
  let cause := s.reg Reg.DEV_RESET_CAUSE
  let now := s.dev.resetNow
  State.joinCause { (s.cleared c).setReg Reg.DEV_RESET_CAUSE cause with dev.resetNow := now } c

/-- Internal reset ends: TEST_EN is sampled, platform time starts at 0, and the XO is enabled (R39, R59, R63). -/
def State.releaseReset (s : State) (testEn : Bool) : State :=
  let s : State := { s with dev.inReset := false, dev.resetNow := false, ring.linkUp := s.ring.perstHigh }
  s.setFlag Reg.DEV_STRAP 1 testEn

/-- Log entry 3 (DEDUCED). Log entry 24 (DEDUCED). -/
def execPowerOn (hvsel : Bool) (s : State) : Out := .next (s.coldStart Cause.por hvsel)

/-- During the hold-up sequence the detector watches VHOLD instead of VIN (R224 (b)). -/
def execPowerLoss (s : State) : Out := .next (if s.dev.powered && s.sup.holdUp.isNone then s.powerDown else s)

/-- In Sleep and Deep sleep a collapse is LP_BOR instead (R462); in `SAFE_HOLD` it resets nothing (R46).
Log entry 40 (DEDUCED). -/
def execBrownOut (hvsel : Bool) (s : State) : Out :=
  .next (if !s.dev.powered || s.pmc.state = .off || s.inSleep || s.inDeepSleep || s.dev.stage = .safeHold then s
    else if s.dev.inReset then (s.coldJoin Cause.bor).setFlag Reg.DEV_STRAP 0 hvsel
    else s.coldStart Cause.bor hvsel)

def execLpBor (s : State) : Out := .next (if s.inSleep || s.inDeepSleep then s.assertReset Cause.lpBor else s)

def execRstNAssert (s : State) : Out := .next (State.assertReset { s with dev.rstnLow := true } Cause.rstN)

/-- Log entry 40 (DEDUCED). -/
def execRstNRelease (testEn : Bool) (s : State) : Out :=
  .next (let s : State := { s with dev.rstnLow := false }
    if s.dev.powered && s.dev.inReset && s.dev.regsGood && s.pmc.state ≠ .off then s.releaseReset testEn else s)

/-- A watchdog or the lockstep comparator trips while the processors run, or in the fabric cycle in which a reset stops them
(R55); nothing but RST_N and a power cycle leaves `SAFE_HOLD` (R46). Log entry 40 (DEDUCED). Log entry 82 (DEDUCED). -/
def State.runReset (s : State) (c : Nat) : State :=
  if (s.live && !s.asleep && s.dev.stage ≠ .safeHold) || (s.dev.inReset && s.dev.resetNow) then s.assertReset c else s

/-- The management watchdog has expired, or treats a blocked write as an expiry (R13): every node whose source is the management
plane reads active until the reset takes effect (R15, R16). -/
def State.mgmtNodes (s : State) : State := [68, 69, 70, 71, 72, 73, 74, 75, 79].foldl (fun s n => s.setNode n true) s

/-- A cause of code MGMT_WDT: the nodes of R15, then the reset, which takes effect in the same row. Log entry 40 (DEDUCED). -/
def State.mgmtReset (s : State) : State :=
  (if s.live && !s.asleep && s.dev.stage ≠ .safeHold then s.mgmtNodes else s).runReset Cause.mgmtWdt

def execSheepdogWdtExpiry (s : State) : Out := .next (s.runReset Cause.sheepdogWdt)

/-- Log entry 40 (DEDUCED). -/
def execMgmtWdtExpiry (s : State) : Out := .next s.mgmtReset

def execLockstepMismatch (s : State) : Out := .next (s.runReset Cause.lockstep)

def execBlockedWrite (bySheepdog : Bool) (s : State) : Out :=
  .next (if bySheepdog then s.runReset Cause.lockstep else s.mgmtReset)

/-- Step 2 of R39; RST_N held low keeps the controller in reset (R41). -/
def execRegulatorsGood (testEn : Bool) (s : State) : Out :=
  .next (if s.dev.powered && s.dev.inReset && s.pmc.state ≠ .off then
      let s : State := { s with dev.regsGood := true }
      if s.dev.rstnLow then s else s.releaseReset testEn
    else s)

/-- A write to DEV.SW_RESET (R57). -/
def State.swReset (s : State) (v : Word) : State :=
  if v ≠ 0xD065 then s
  else if s.railsOn = 0 && s.drive.m0.st = .stopped then s.assertReset Cause.swReset
  else s.setFlag Reg.DEV_STAGE 15 true


/-! ### Boot tests and SAFE_HOLD (R45, R46) -/

/-- A class S result at boot, or no firmware: one reset of cause SAFE_HOLD, then `SAFE_HOLD`. Log entry 41 (DEDUCED). -/
def State.bootFail (s : State) (code : Nat) : State :=
  let s := s.setFld Reg.DEV_STAGE 23 16 code
  if s.flag Reg.DEV_RESET_CAUSE (15 + Cause.safeHold) then
    let s := if s.flash.jrn.ready then s else s.findHead
    State.enterStage (s.setFlag Reg.MBOX_LINK_STATUS 8 true) .safeHold
  else s.assertReset Cause.safeHold

def execBootTestFail (code : Byte) (s : State) : Out :=
  .next (if s.live && s.dev.stage = .boot && !s.dev.planDone then (s.recordFail code.toNat 1 0xFFFF).bootFail code.toNat else s)

/-! ### Step 7: what every start loads (R219, R273, R274, R427, R430) -/

/-- The BOOT record (R430). -/
def State.bootRecord (s : State) : State :=
  s.journal 0x01 ([BitVec.ofNat 8 (s.fld Reg.DEV_RESET_CAUSE 7 0), 0] ++ leBytes 2 (s.fld Reg.DEV_RESET_CAUSE 25 16) ++
    leBytes 2 (s.fld Reg.DEV_RESET_COUNT 15 0) ++ [0, 0] ++ image (s.reg Reg.DEV_FW_VER) ++ image (s.reg Reg.DEV_PLAN_GEN) ++
    image (s.reg Reg.DEV_BOOT_DIAG) ++ image s.stageWord)

/-- The counters of rail `n` from the 20 bytes of a snapshot. -/
def State.loadRailCounters (s : State) (n : Nat) (b : List Byte) : State :=
  let w (o : Nat) : Word := BitVec.ofNat 32 (leAt b o 4)
  if n < 24 then
    (((s.setReg (Reg.SUP_RAIL_CNT_W n) (w 0)).setReg (Reg.SUP_RAIL_CNT_F n) (w 4)).setReg (Reg.SUP_RAIL_CNT_S n) (w 8)).setReg
      (Reg.SUP_ON_CYCLES n) (w 12)
  else s

/-- The counters from the latest complete snapshot; SNAP_AGE restarts (R219). -/
def State.loadCounters (s : State) : State :=
  let s : State := { s with sup.snapSec := s.time.ktick.toNat / 32768 }
  match s.latestSnap with
  | none => s
  | some (h, parts) =>
    let p := jrnPayload h
    let s : State := { s with sup.snapNo := BitVec.ofNat 16 (leAt p 0 2 + 1) }
    let s := (s.setFlag Reg.SUP_STATUS 7 true).setFld Reg.SUP_VIN_FAIL_CNT 15 0 (leAt p 4 2)
    let s := s.modJrn fun j => { j with snapSeq := jrnSeq h }
    parts.zipIdx.foldl (fun s e =>
      let b := jrnPayload e.1
      (s.loadRailCounters (2 * e.2) ((b.drop 4).take 16)).loadRailCounters (2 * e.2 + 1) ((b.drop 20).take 16)) s

/-- The gauge from the payload of its latest snapshot. Log entry 42 (DEDUCED). -/
def State.loadSnapshot (s : State) (p : List Byte) (cold : Bool) : State :=
  let fl := leAt p 26 1
  let s := (s.setFcc (leAt p 2 2)).setFld Reg.BATT_TTE 31 16 (leAt p 4 2)
  let s := (s.setReg Reg.BATT_ID_LO (BitVec.ofNat 32 (leAt p 28 4))).setReg Reg.BATT_ID_HI (BitVec.ofNat 32 (leAt p 32 4))
  let s := (s.setReg Reg.BATT_Q_DSG (BitVec.ofNat 32 (leAt p 36 4))).setReg Reg.BATT_Q_CHG (BitVec.ofNat 32 (leAt p 40 4))
  let s := ((s.setFlag Reg.BATT_GAUGE_STATUS 2 (nbit fl 0)).setFlag Reg.BATT_GAUGE_STATUS 1 (nbit fl 1)).setFlag
    Reg.BATT_GAUGE_STATUS 0 true
  let b := s.batt
  let b : Batt := { b with
    thr := leAt p 6 2 * 3600000
    anchor := if nbit fl 2 then some (BitVec.ofNat 64 (leAt p 16 8), leAt p 24 2) else none
    idKnown := decide (fl / 8 % 4 ≠ 0) && decide (leAt p 28 8 ≠ 0)
    acc := if cold then BitVec.ofNat 64 (leAt p 8 8) else b.acc }
  s.setBatt b

/-- The power-fail record from which the gauge takes its SoC: after a cold start the latest, where no snapshot is later (R274). -/
def State.failSoc (s : State) (cold : Bool) : Option Nat :=
  match s.latest 3, s.latest 9 with
  | some f, some g => if cold && jrnSeq g < jrnSeq f then some (leAt (jrnPayload f) 22 2) else none
  | some f, none => if cold then some (leAt (jrnPayload f) 22 2) else none
  | none, _ => none

/-- The gauge at step 7: the latest snapshot with the charge counted since it; after a cold start the SoC of a later
power-fail record instead, and no candidate from the anchor before it (R270, R273, R274). Log entry 42 (DEDUCED). -/
def State.loadGauge (s : State) : State :=
  let cold := coldCause s.firstCause
  let fail := s.failSoc cold
  let s := match s.latest 9 with
    | some g =>
      let p := jrnPayload g
      let s := (s.loadSnapshot p cold).setSoc (leAt p 0 2)
      s.setBatt { s.batt with snapSoc := leAt p 0 2 }
    | none => s
  let s := match fail with
    | some soc => s.setSoc soc
    | none => s
  let s := if cold then s.setBatt { s.batt with blocked := true } else s.addSince
  s.setBatt { s.batt with stepSoc := s.socNow }

/-- Step 7 as it runs with or without a Plan: the journal head, the BOOT record, the counters, the gauge.
Log entry 43 (DEDUCED). -/
def State.stepSeven (s : State) : State :=
  let s : State := { s with dev.planDone := true }
  (s.bootRecord.loadCounters).loadGauge

/-- Step 7 without a Plan (R44); a `SAFE` latch that survived the reset is followed here too. Log entry 43 (DEDUCED).
Log entry 78 (DEDUCED). -/
def State.withoutPlan (s : State) : State :=
  let s := State.applyActions { s.stepSeven with hedge.noPlanHold := true }
  if s.bist.safeLatch then
    ((s.setFlag Reg.BIST_STATUS 30 true).setNode 79 true).enterSafe.setFlag Reg.MBOX_LINK_STATUS 8 true
  else s

/-! ### Step 7: the Plan's part (R447, R152, R188, R191, R213, R221, R493) -/

/-- A PERSIST rule whose latest record shows it latched starts latched on both paths with its causes (R157). -/
def State.restoreLatches (s : State) : State :=
  let l := s.jrnRecords
  (List.finRange 32).foldl (fun s (n : Fin 32) =>
    let r := s.hedge.rule[n]
    if !(r.persist && r.latched && r.enable) then s
    else match latestOf l fun x => decide (jrnType x = 6) && decide (leAt (jrnPayload x) 0 1 = n.val) with
      | none => s
      | some x =>
        let p := jrnPayload x
        if leAt p 1 1 ≠ 1 then s
        else
          let c := BitVec.ofNat 128 (leAt p 6 16)
          let ca := (List.finRange 4).foldl (fun a (t : Fin 4) => a ||| (r.mask[t] &&& ~~~r.pol[t] &&& c)) 0
          let ci := (List.finRange 4).foldl (fun a (t : Fin 4) => a ||| (r.mask[t] &&& r.pol[t] &&& c)) 0
          let b := BitVec.ofNat 32 (2 ^ n.val)
          let run := s.hedge.run.set n { s.hedge.run[n] with causeA := ca, causeI := ci }
          { s with hedge.run := run, hedge.latchHw := s.hedge.latchHw ||| b, hedge.latchSd := s.hedge.latchSd ||| b }) s

/-- The Hedge is armed: soft nodes, restored latches, nodes 78 and 79 from the latches of R213 and R493, and one evaluation
by the hardware path (R152). Log entry 43 (DEDUCED). -/
def State.armHedge (s : State) : State :=
  let s := (List.range 16).foldl (fun s k => s.setNode (96 + k) (s.flag Reg.HEDGE_SOFT_DEFAULT k)) s
  let s := s.restoreLatches.planRef
  let s : State := { s with hedge.armed := true }
  let s := if s.flag Reg.SUP_STATUS 0 then s.setNode 78 true else s
  let s := if s.bist.safeLatch then (s.setFlag Reg.BIST_STATUS 30 true).setNode 79 true else s
  (s.hwEval { cond := 0, latch := 0, act := 0 }).applyActions

/-- One rail `FAULTED` from a latch that survived the reset, reported with the cause of a comparator or of start-failure handling.
Log entry 87 (DEDUCED). -/
def State.latchedRail (s : State) (n cause : Nat) : State :=
  if h : n < 24 then s.setRail ⟨n, h⟩ .faulted cause else s

/-- The sequencer at Plan load: `FAULT_OFF` and `START_FAIL` are entered again, `VIN_DOWN` where VIN is not good, else
`ALL_OFF`, where a cold start with AUTO_START_ON_VIN makes a Plan start due (R188, R190, R191, R213, R221). `START_FAIL` is reported
as entered, and t_rest after `VIN_DOWN` counts from VIN good. Log entry 87 (DEDUCED). -/
def State.seqLoad (s : State) (vinGood : Bool) : State :=
  let s : State := { s with sup.vinLow := !vinGood, seq.startPt := s.ptNow }
  if s.flag Reg.SUP_STATUS 0 then
    let s := s.latchedRail (s.fld Reg.SUP_FAULT_LATCH 12 8) 3
    { s with seq.st := .faultOff }
  else if s.failLatched then
    let k := s.fld Reg.SEQ_LATCH 2 0
    let s := if 1 ≤ k && k ≤ 3 then s.latchedRail (s.fld Reg.SEQ_LATCH 12 8) 6 else s
    s.enterStartFail
  else if !vinGood then { s with seq.st := .vinDown, seq.allOffPt := some s.ptNow }
  else if coldCause s.firstCause && s.flag Reg.SEQ_CTRL 0 then
    { s with seq.startDue := true, seq.restGroups := BitVec.ofNat 8 (s.fld Reg.SEQ_CTRL 15 8) }
  else { s with seq.waitWake := true }

/-- DEV registers of the loaded Plan (R447 (e), R61). Log entry 55 (DEDUCED). -/
def State.planRegs (s : State) (k : Fin 2) (i : List Byte) : State :=
  let s := s.setReg Reg.DEV_PLAN_GEN (BitVec.ofNat 32 (imgGen i))
  let s := (List.range 8).foldl (fun s j => s.setReg (Reg.DEV_PLAN_HASH j) (BitVec.ofNat 32 (leAt i (32 + 4 * j) 4))) s
  let first := s.fld Reg.DEV_BOOT_DIAG 3 2
  let other := imgGen (s.flashBytes [] (planBase (1 - k)) 256)
  ((s.setFld Reg.DEV_STAGE 9 8 (k.val + 1)).setFlag Reg.DEV_STAGE 10
    (decide (first ≠ k.val + 1) && decide (imgGen i < other))).setFlag Reg.DEV_STAGE 13
    (s.flag Reg.DRIVE_M0_CFG 29)

/-- Body byte `o` of PLATFORM; 0 without the section (R441). -/
def platformByte (l : List Section) (o : Nat) : Nat :=
  match sectionBody l 1 with
  | some b => leAt b o 1
  | none => 0

/-- Step 7 with the Plan of slot `k` (R447). Log entry 55 (DEDUCED). -/
def State.loadPlan (s : State) (k : Fin 2) (i : List Byte) (vinGood : Bool) : State :=
  let l := (imgSections i).getD []
  let s : State := { s with plans.otp := s.plans.otp.load i l }
  let s : State := { s with dev.rstOutStage := platformByte l 0, plans.xt32 := decide (platformByte l 1 = 1) }
  let s := (s.applySections l).emptyFilters
  let s := (s.setFlag Reg.SUP_STATUS 4 true).setFlag Reg.SUP_STATUS 3 vinGood
  let s : State := { s with dev.planLoaded := true }
  let s := (s.planRegs k i).stepSeven
  let s : State := { s.battAlarm with herd.st := if s.herdOn then .herdOff else .disabled }
  let s := (s.setFlag Reg.BATT_FET 2 (s.flag Reg.BATT_CFG 5)).setFlag Reg.BATT_FET 3 (s.flag Reg.BATT_CFG 6)
  let s := (s.diInit.armHedge).seqLoad vinGood
  let s := (s.startFmod).setFld Reg.MBOX_GP_OUT 7 0 (bitsOf 8 fun n => s.flag (Reg.MBOX_GP_CFG n) 8)
  if s.bist.safeLatch then s.enterSafe.setFlag Reg.MBOX_LINK_STATUS 8 true else s

/-! ### The boot scan and the verification (R39 steps 4 to 7, R42, R43, R422) -/

/-- The suspect set of a bank as its marker area gives it, and FLASH_SUSPECT of kind 1 for each sector in it. -/
def State.scanBank (s : State) (b : Fin 2) : State :=
  let v := (s.flash.bank[b]).scan
  let s := s.modBank b fun x => { x with suspect := v }
  (List.range 512).foldl (fun s k => if v.getLsbD k then s.postSuspect 1 b k else s) s

/-- The version of firmware slot `k` where the slot may run: its activation marker is set, its header checksum is valid, and no
sector of it is suspect (R42, R423). -/
def State.fwVersion (s : State) (heads : Vector (Option Word) 2) (k : Fin 2) : Option Word :=
  if s.plans.fwMarked.getLsbD k && (List.range 192).all fun i => !s.isSuspect k i then heads[k] else none

/-- The firmware slot that the boot ROM runs, and its version: the only one that qualifies, or of two the one with the higher
version; slot 0 of two equal versions, where R42 is silent. Log entry 80 (DESIGN CHOICE). -/
def State.fwChoice (s : State) (heads : Vector (Option Word) 2) : Option (Fin 2 × Word) :=
  match s.fwVersion heads 0, s.fwVersion heads 1 with
  | some v, some w => if v.toNat < w.toNat then some (1, w) else some (0, v)
  | some v, none => some (0, v)
  | none, some w => some (1, w)
  | none, none => none

/-- Steps 4 and 5 (R39). Where no slot is a candidate, step 7 comes with the end of the boot tests: at the entry to reduced service
in this model. Log entry 43 (DEDUCED). -/
def State.bootScan (s : State) (heads : Vector (Option Word) 2) : State :=
  let s := (s.scanBank 0).scanBank 1
  let s : State := { s with dev.scanDone := true }
  match s.fwChoice heads with
  | none => s.bootFail 0xF1
  | some (k, v) =>
    let s := ((s.setFld Reg.DEV_BOOT_DIAG 1 0 k.val).setReg Reg.DEV_FW_VER v).findHead
    let s := s.readHeaders
    match s.dev.planCands with
    | [] => s
    | c :: _ => s.setFld Reg.DEV_BOOT_DIAG 3 2 (c.val + 1)

def execBootScanDone (heads : Vector (Option Word) 2) (s : State) : Out :=
  .next (if s.live && s.dev.stage = .boot && !s.dev.scanDone then s.bootScan heads else s)

def State.planVerified (s : State) (errs : List LineErr) (vinGood : Bool) : State :=
  match s.dev.planCands with
  | [] => s
  | k :: rest =>
    let c := s.verifySlot k errs
    let s : State := { s with dev.planCands := rest }
    if c = 0 then (s.setOutcome k 1).loadPlan k (s.slotImage k errs) vinGood
    else
      let s := s.setOutcome k c
      if rest.isEmpty then s.withoutPlan else s

def execPlanVerifyDone (errs : List LineErr) (vinGood : Bool) (s : State) : Out :=
  .next (if s.live && s.dev.stage = .boot && s.dev.scanDone && !s.dev.planDone then s.planVerified errs vinGood else s)

/-! ### Reduced service (R39 step 8, R58) -/

/-- RST_OUT_N is released where the Plan selects this point, at once or 1 ms after its latest assertion; in `SAFE` and
`SAFE_HOLD` it stays low. Log entry 75 (DEDUCED). -/
def State.releaseRstOut (s : State) (stage : Nat) : State :=
  if s.dev.rstOutStage = stage && s.dev.rstOutLow && s.dev.stage ≠ .safe && s.dev.stage ≠ .safeHold then
    if s.rstOutHeld then { s with dev.rstOutDue := true } else { s with dev.rstOutLow := false }
  else s

/-- XO_FAIL or PLL_FAIL is set: the controller stays on FIRC until a reset (R50, R51). -/
def State.clockFailed (s : State) : Bool := s.flag Reg.DEV_STAGE 4 || s.flag Reg.DEV_STAGE 5

/-- RST_OUT_N at entry to reduced service; one that waited for full service is released where a clock has already failed.
Log entry 75 (DEDUCED). -/
def State.reducedRstOut (s : State) : State :=
  if s.clockFailed then (s.releaseRstOut 0).releaseRstOut 1 else s.releaseRstOut 0

/-- A start into `SAFE` (R493) goes through the same steps with the stage kept. Log entry 41 (DEDUCED).
Log entry 78 (DEDUCED). -/
def State.reducedEntry (s : State) (us : Word) : State :=
  let s := if s.dev.planDone then s else s.withoutPlan
  let s := (s.setReg Reg.DEV_T_REDUCED us).setFlag Reg.MBOX_LINK_STATUS 8 true
  let s := s.setFlag Reg.BATT_GAUGE_STATUS 4 true
  let s : State := { s with dev.reducedPt := some s.time.pt, dev.calRunning := true }
  let s := if s.dev.stage = .safe then s else s.reducedRstOut.enterStage .reduced
  s.fansFollow.kickErases

def execReducedServiceEntry (us : Word) (s : State) : Out :=
  .next (if s.live && (s.dev.stage = .boot || (s.dev.stage = .safe && s.dev.reducedPt.isNone)) &&
      (s.dev.planDone || (s.dev.scanDone && s.dev.planCands.isEmpty)) then
      s.reducedEntry us
    else s)

/-! ### The clocks (R49 to R52, R508) -/

def execXoGood (s : State) : Out :=
  .next (if s.live && s.dev.xoOn && !s.dev.xoGood then { s with dev.xoGood := true, dev.pllTries := 0 } else s)

/-- XO_FAIL (bit 4) or PLL_FAIL (bit 5) is set: the XO stops, SERVICE is posted, and RST_OUT_N is released where it waited for
full service (R50, R51, R58). In a wake the controller stays in reduced service from then on (R467).
Log entry 47 (DEDUCED). -/
def State.xoFail (s : State) (b : Nat) : State :=
  let s := s.setFlag Reg.DEV_STAGE b true
  let s : State := if s.pmc.state = .waking then { s.setFlag Reg.DEV_STAGE 7 true with dev.stage := .reduced } else s
  let s := State.releaseRstOut { s with dev.xoOn := false, dev.xoGood := false, dev.pllLocked := false } 1
  let (s, us) := s.elapsed
  s.postService s.stageWord us 0

def execXoFailTimeout (s : State) : Out := .next (if s.live && s.dev.xoOn && !s.dev.xoGood then s.xoFail 4 else s)

/-- The Kennel clock is the XT32 once it is good, where the Plan selects it (R508). Log entry 47 (DEDUCED). -/
def execXt32Good (s : State) : Out :=
  .next (if s.live && s.plans.xt32 then s.setFlag Reg.TIME_STATUS 3 true else s)

def execPllLock (s : State) : Out :=
  .next (if s.live && s.dev.xoGood then { s with dev.pllLocked := true } else s)

def execPllLockTimeout (s : State) : Out :=
  .next (if s.live && s.dev.xoGood && !s.dev.pllLocked then
      if s.dev.pllTries = 0 then { s with dev.pllTries := 1 } else s.xoFail 5
    else s)

/-- The chopper calibration ends; a second failure is a class S failure of the references (R52). -/
def State.calDone (s : State) (ok : Bool) (gain : Int) : State :=
  if ok then
    let s := s.setFlag Reg.DEV_STAGE 11 true
    { s with dev.calRunning := false, batt.gain := gain }
  else if s.dev.calFails = 0 then { s with dev.calFails := 1 }
  else State.classS { s with dev.calRunning := false, dev.calFails := 2 } 0x05 0xFFFF 0

def execCalComplete (ok : Bool) (gain : Word) (s : State) : Out :=
  .next (if s.live && s.dev.calRunning then s.calDone ok gain.toInt else s)

/-- The clock switch of R49 (a) and R67: platform time keeps its value and counts from the XO. -/
def State.toXo (s : State) (ppm : Word) : State :=
  let p := s.time.pt
  let s : State := { s with time.src := .xo, time.xoSince := some p }
  let s := (s.setReg Reg.TIME_REBASE_PT_LO (p.setWidth 32)).setReg Reg.TIME_REBASE_PT_HI ((p >>> 32).setWidth 32)
  ((s.setReg Reg.TIME_FIRC_PPM ppm).setFlag Reg.TIME_STATUS 2 false)

/-- Earlier PTM dialogues are discarded and one falls due (R71, R72). -/
def State.ptmRestart (s : State) : State :=
  ({ s with time.ptmDue := true, time.ptmDone := 0 }).setFlag Reg.TIME_STATUS 5 false

/-- The other slot is still unexamined beside a loaded one: R448. Log entry 72 (DESIGN CHOICE). -/
def State.otherUnverified (s : State) : Bool :=
  match s.planSlot with
  | some 0 => decide (s.fld Reg.DEV_BOOT_DIAG 11 8 = 0)
  | some _ => decide (s.fld Reg.DEV_BOOT_DIAG 7 4 = 0)
  | none => false

/-- Items (a) to (f) of R49. -/
def State.fullSwitch (s : State) (ppm : Word) : State :=
  let s := (s.toXo ppm).applyRaw ppm.toInt
  let s := s.setFlag Reg.BATT_GAUGE_STATUS 4 false
  let cold := s.dev.planLoaded && coldCause s.firstCause
  let s := if cold then s.setFlag Reg.BATT_GAUGE_STATUS 1 true else s
  let s := s.setBatt { s.batt with cold := cold }
  let (s, us) := s.elapsed
  let s := (s.setReg Reg.DEV_T_FULL us).setFlag Reg.DEV_STAGE 12 true
  let s : State := { s with dev.stage := if s.dev.stage = .safe then .safe else .full
                            plans.verifyDue := s.otherUnverified }
  let s := (({ s with motion.modDue := true : State }.emptyFilters).ptmRestart).releaseRstOut 1
  let s := if s.dev.stage = .safe then s else s.postService s.stageWord us s.time.pt.toNat
  if s.dev.planLoaded then s.gaugeRefresh.fansFollow else s

/-- Reduced service has been entered and full service has not; `SAFE` entered in between does not hold the clocks back.
Log entry 78 (DEDUCED). -/
def State.inReduced (s : State) : Bool :=
  s.dev.stage = .reduced || (s.dev.stage = .safe && s.dev.reducedPt.isSome && !s.flag Reg.DEV_STAGE 12)

def execFullServiceSwitch (ppm : Word) (s : State) : Out :=
  .next (if s.live && s.inReduced && s.dev.xoGood && s.dev.pllLocked && s.flag Reg.DEV_STAGE 11 && !s.asleep &&
      s.pmc.state ≠ .waking then s.fullSwitch ppm else s)

end Sys2Proof.Machine
end

