-- ==== Sys2Proof/Machine/Bist.lean ====
section
/-!
DEFINITION. Periodic self-test (19_self_test.md).
-/

namespace Sys2Proof.Machine

/-! ### The tests (R479, R482) -/

/-- Work of test `t` in fabric cycles. -/
def testWork (t : Nat) : Nat :=
  [2949120, 393216, 32768, 1024, 9600, 460800, 0, 9600, 384000, 96000, 96000, 38400, 19200, 28800, 9600].getD t 0

/-- Tests that name subjects: rails, cliff, encoder and fan channels. -/
def hasSubjects (t : Nat) : Bool := t = 5 || (10 ≤ t && t ≤ 13)

/-- Subject `i` of test `t` is in use and not unusable; tests without subjects have none to skip, and without a Plan
no channel is in use (R482). -/
def State.subjectLive (s : State) (t i : Nat) : Bool :=
  if hasSubjects t && !s.dev.planLoaded then false
  else if t = 5 then s.railsInUse.getLsbD i
  else if t = 10 then s.railsInUse.getLsbD i && !s.flag Reg.BIST_UNUSABLE_ADC i
  else if t = 11 then decide (i < 8) && decide (s.clfRole i ≠ 0) && !s.flag Reg.BIST_UNUSABLE (4 + i)
  else if t = 12 then decide (i < 4) && s.encOn i && !s.flag Reg.BIST_UNUSABLE (12 + i)
  else if t = 13 then decide (i < 3) && s.fanOn i && !s.flag Reg.BIST_UNUSABLE i
  else true

/-- The test is skipped: CRC_PLAN without a Plan, and a test with no subject. -/
def State.testSkipped (s : State) (t : Nat) : Bool :=
  if t = 2 then !s.dev.planLoaded
  else hasSubjects t && !((List.range 24).any fun i => s.subjectLive t i)

/-- A fan channel is in `STOPPED`. -/
def State.fanStopped (s : State) (i : Nat) : Bool := if h : i < 3 then decide ((s.drive.fan[i]).st = .stopped) else false

/-- A rail that TRIP may test: neither in `RAMP` nor in `SETTLE`. -/
def State.railTestable (s : State) (i : Nat) : Bool :=
  if h : i < 24 then decide ((s.seq.rail[i]).state ≠ .ramp) && decide ((s.seq.rail[i]).state ≠ .settle) else false

/-- Test `t` may run on subject `i` in its present state: TRIP on no rail in `RAMP` or `SETTLE`, FAN only on a channel in `STOPPED`
with VFAN at 4.5 V or more (R486, R489 (d)). -/
def State.subjectTestable (s : State) (t i : Nat) : Bool :=
  if t = 5 then s.railTestable i
  else if t = 13 then s.fanStopped i && !s.flag (Reg.DRIVE_FAN_STATUS i) 20
  else true

/-- The test cannot run in the present state on any of its subjects. -/
def State.testDeferred (s : State) (t : Nat) : Bool :=
  hasSubjects t && !((List.range 24).any fun i => s.subjectLive t i && s.subjectTestable t i)

/-! ### What a failure does (R490, R491, R494) -/

/-- The class of a failure of test `t` on subject `i` is D. -/
def State.testClassD (s : State) (t i : Nat) : Bool :=
  if t = 10 then s.flag (Reg.SUP_RAIL_CFG i) 1
  else if t = 11 then !s.nodeUsed (48 + i)
  else if t = 12 then !s.nodeUsed (56 + i) && !s.nodeUsed (60 + i)
  else t = 13

/-- What becomes of an unusable cliff channel's node. -/
def State.loseCliff (s : State) (i : Nat) : State :=
  if i < 8 then
    (((s.setFlag Reg.BIST_UNUSABLE (4 + i) true).setFlag (Reg.MOTION_CLF_STATUS i) 5 false).setNode (48 + i) false).setFmod
  else s

/-- An unusable encoder channel: position frozen and uncertain, nodes inactive. -/
def State.loseEncoder (s : State) (i : Nat) : State :=
  let s := s.setFlag Reg.BIST_UNUSABLE (12 + i) true
  if h : i < 4 then ((s.setOverspeed ⟨i, h⟩ false).setEncFault ⟨i, h⟩ false).setFlag (Reg.MOTION_ENC_STATUS i) 3 true else s

/-- An unusable fan channel: bridge off, `STOPPED`, node 85 + n active. -/
def State.loseFan (s : State) (i : Nat) : State :=
  let s := s.setFlag Reg.BIST_UNUSABLE i true
  if h : i < 3 then ((s.fanTo ⟨i, h⟩ .stopped).fanSeqEnd ⟨i, h⟩ 10).setNode (85 + i) true else s

/-- The subject becomes unusable. -/
def State.loseSubject (s : State) (t i : Nat) : State :=
  if t = 10 then s.setFlag Reg.BIST_UNUSABLE_ADC i true
  else if t = 11 then s.loseCliff i
  else if t = 12 then s.loseEncoder i
  else if t = 13 then s.loseFan i
  else s

/-- A failure that test `t` judges; in `SAFE` it is recorded only (R493). -/
def State.testFails (s : State) (t : Nat) (f : BistFail) : State :=
  let i := f.index.toNat
  if !(s.subjectLive t i && s.subjectTestable t i) then s
  else
    let s : State := { s with bist.failed := s.bist.failed ||| BitVec.ofNat 15 (2 ^ t) }
    if s.testClassD t i then
      let s := if s.dev.stage = .safe then s else s.loseSubject t i
      s.classD (t + 1) i f.detail.toNat
    else s.classS (t + 1) i f.detail.toNat

/-! ### The rotation (R481) -/

/-- Test `t` has no work left in this cycle. -/
def State.testDone (s : State) (t : Nat) : Bool :=
  s.testSkipped t || decide (testWork t ≤ s.bist.work.toList.getD t 0) && t ≠ 6

/-- The tests that still have work, in rotation order from the present turn. EN_READBACK has none: its result is collected at
the end of the cycle. -/
def State.openTests (s : State) : List (Fin 15) :=
  ((List.finRange 15).map fun k => s.bist.turn + k).filter fun (t : Fin 15) => t.val ≠ 6 && !s.testDone t

/-- The count of a test that has ended. Log entry 46 (DEDUCED). -/
def State.countTest (s : State) (t : Fin 15) (failed : Bool) : State :=
  if failed then s.inc (Reg.BIST_TEST_CNT t) 31 16 else s.inc (Reg.BIST_TEST_CNT t) 15 0

/-- The cycle ends: EN_READBACK's result, the cycle counters, the record, and a new cycle. Log entry 46 (DEDUCED). -/
def State.endCycle (s : State) : State :=
  let s := s.countTest 6 (s.reg Reg.BIST_EN_STUCK ≠ 0)
  let t := satN 16 (s.since s.bist.cyclePt / 96000)
  let s := s.setReg Reg.BIST_CYCLE_TIME (pack [(t, 0), (max t (s.fld Reg.BIST_CYCLE_TIME 31 16), 16)])
  let s := s.inc Reg.BIST_CYCLE_CNT 31 0
  let b : Bist := { s.bist with work := Vector.replicate 15 0, turn := 0, cyclePt := s.time.pt, failed := 0 }
  let s : State := { s with bist := b }
  if s.flag Reg.BIST_CTRL 0 then s.postBist 1 0 0 0xFFFF 0 else s

/-- Every test is done, or cannot run in the present state: then the cycle ends. Log entry 46 (DEDUCED). -/
def State.cycleCheck (s : State) (only : Option (Fin 15)) : State :=
  let l := s.openTests.filter fun t => some t ≠ only
  if l.all fun t => s.testDeferred t.val then s.endCycle else s

/-- One slice of test `t` in the rotation. -/
def State.rotationSlice (s : State) (t : Fin 15) (cycles : Nat) (fails : List BistFail) : State :=
  let w := min (testWork t) (s.bist.work[t] + cycles)
  let s : State := { s with bist.work := s.bist.work.set t w, bist.turn := t + 1 }
  let s := fails.foldl (fun s f => s.testFails t f) s
  if testWork t ≤ w then (s.countTest t (s.bist.failed.getLsbD t)).cycleCheck none else s.cycleCheck none

/-! ### Requested runs (R496) -/

/-- The requested tests that have work left, lowest first. -/
def State.requested (s : State) : Option (Fin 15) :=
  (List.finRange 15).find? fun (t : Fin 15) => s.flag Reg.BIST_REQ t

/-- The run ends when no requested test is left. -/
def State.requestCheck (s : State) : State :=
  match s.bist.request with
  | none => s
  | some r =>
    if s.fld Reg.BIST_REQ 14 0 ≠ 0 then s
    else
      let f := s.bist.reqFailed.toNat
      let s : State := { s with bist.request := none }
      let s := (s.setFlag Reg.BIST_STATUS 29 false).postBist 4 0 0 0xFFFF f
      s.complete r { status := Status.OK, result := leBytes 4 f }

/-- One slice of a requested test. -/
def State.requestSlice (s : State) (t : Fin 15) (cycles : Nat) (fails : List BistFail) : State :=
  let w := min (testWork t) (s.bist.reqWork[t] + cycles)
  let s : State := { s with bist.reqWork := s.bist.reqWork.set t w }
  let before := s.bist.failed
  let s : State := { s with bist.failed := 0 }
  let s := fails.foldl (fun s f => s.testFails t f) s
  let bad := decide (s.bist.failed ≠ 0) || (t.val = 6 && decide (s.reg Reg.BIST_EN_STUCK ≠ 0))
  let s : State := { s with bist.failed := before }
  let s : State := if bad then { s with bist.reqFailed := s.bist.reqFailed ||| BitVec.ofNat 15 (2 ^ t.val) } else s
  if testWork t ≤ w then ((s.setFlag Reg.BIST_REQ t false).countTest t (s.bist.reqFailed.getLsbD t)).requestCheck else s

/-- A requested test that cannot run in the present state is skipped. Log entry 46 (DEDUCED). -/
def State.requestSkip (s : State) (t : Fin 15) : State :=
  ((s.setFlag Reg.BIST_REQ t false).setFlag Reg.BIST_REQ (16 + t.val) true).requestCheck

/-- Slices run from reduced service on, in `SAFE` too, outside quiesce and sleep (R481, R482, R493).
Log entry 10 (DESIGN CHOICE). -/
def State.bistRuns (s : State) : Bool :=
  s.live && !s.asleep && !s.bist.paused && (s.dev.stage = .reduced || s.dev.stage = .full || s.dev.stage = .safe)

/-- The slice whose turn it is. A deferred test gives its turn away. -/
def State.bistSlice (s : State) (cycles : Nat) (deferred : Bool) (fails : List BistFail) : State :=
  match s.requested with
  | some t => if deferred || s.testDeferred t then s.requestSkip t else s.requestSlice t cycles fails
  | none =>
    match s.openTests with
    | [] => s.endCycle
    | t :: _ =>
      if deferred || s.testDeferred t then State.cycleCheck { s with bist.turn := t + 1 } (some t)
      else s.rotationSlice t cycles fails

/-- Log entry 46 (DEDUCED). -/
def execBistSlice (cycles : Fin 481) (deferred : Bool) (fails : List BistFail) (s : State) : Out :=
  .next (if s.bistRuns then s.bistSlice cycles.val deferred fails else s)

/-- SELFTEST_RUN after its BAD_PARAM and stage tests. -/
def State.selftestTake (s : State) (r : Req) (tests : Nat) : State × Option Reply :=
  if s.bist.request.isSome then (s, reply Status.BUSY)
  else
    let named (t : Nat) : Bool := tests = 0 || nbit tests t
    let skip := bitsOf 15 fun t => named t && (s.testSkipped t || s.testDeferred t)
    let run := bitsOf 15 fun t => named t && !(s.testSkipped t || s.testDeferred t)
    let s := (s.setReg Reg.BIST_REQ (pack [(run, 0), (skip, 16)])).setFlag Reg.BIST_STATUS 29 true
    let b : Bist := { s.bist with request := some r, reqTests := BitVec.ofNat 15 run, reqFailed := 0,
                                  reqWork := Vector.replicate 15 0 }
    (State.requestCheck { s with bist := b }, none)

def execSelftestRun (r : Req) (tests : Word) (s : State) : Out :=
  .next (s.command r 0x90 (decide (0x7FFF < tests.toNat)) fun s => s.selftestTake r tests.toNat)

/-! ### Continuous checks (R483, R486, R487) -/

/-- The EN commands as a mask. -/
def State.enMask (s : State) : BitVec 24 := railMask fun n => s.enable n

/-- One readback of pin `n`: class S at the third consecutive on while commanded off. -/
def State.enPin (s : State) (n : Fin 24) (high : Bool) : State :=
  let cmd := s.enable n
  let changed := cmd != s.bist.enCmd.getLsbD n
  let settled := if changed then 0 else s.bist.enSettled[n] + 1
  let judged := decide (2 ≤ settled)
  let run := if judged && high && !cmd then s.bist.enRun[n] + 1 else 0
  let s : State := { s with bist.enSettled := s.bist.enSettled.set n settled, bist.enRun := s.bist.enRun.set n run }
  let s := if judged && !high && cmd && !s.flag (Reg.SEQ_RAIL_SEQ n) 29 then s.setFlag Reg.BIST_EN_LOW n true else s
  if run = 3 then (s.setFlag Reg.BIST_EN_STUCK n true).classS 0x07 n 0 else s

/-- Log entry 46 (DEDUCED). -/
def State.enCheck (s : State) (high : BitVec 24) : State :=
  let m := s.enMask
  let s := (List.finRange 24).foldl (fun s (n : Fin 24) => s.enPin n (high.getLsbD n)) s
  { s with bist.enCmd := m }

def execEnReadbackCheck (high : BitVec 24) (s : State) : Out := .next (if s.live && !s.asleep then s.enCheck high else s)

/-- Every clock moves to its FIRC-derived rate: platform time counts on FIRC and frames are 2 ms (R487, R63, R79).
Log entry 47 (DEDUCED). -/
def State.toFirc (s : State) : State :=
  if s.time.src ≠ .xo then s
  else
    let last := match s.time.xoSince with
      | some a => some (a, s.time.pt)
      | none => s.time.xoLast
    let s : State := { s with time.src := .firc, time.xoSince := none, time.xoLast := last, dev.xoGood := false, dev.pllLocked := false }
    s.setFlag Reg.TIME_STATUS 2 true

/-- One window of the clock monitors: a PLL that has lost its lock counts as the XO's failure (R487, R495). Where only FIRC and
the LPO run, a disagreement is FIRC's.
Log entry 47 (DEDUCED). -/
def State.clockWindow (s : State) (bad : Option (Fin 3)) (pllLost : Bool) (lpo firc : BitVec 16) : State :=
  let s := s.setReg Reg.BIST_CLK_DEV (pack [(lpo.toNat, 16), (firc.toNat, 0)])
  let xoRun := decide (s.bist.clkRun[(0 : Fin 3)] ≠ 0)
  let lost := pllLost && (s.dev.pllLocked || xoRun)
  let bad := if s.dev.xoGood || xoRun then bad else bad.map fun _ => (1 : Fin 3)
  let s := if lost then s.toFirc else s
  let run : Vector Nat 3 := Vector.ofFn fun (k : Fin 3) =>
    if bad = some k || (k.val = 0 && lost) then s.bist.clkRun[k] + 1 else 0
  let s : State := { s with bist.clkRun := run }
  match (List.finRange 3).find? fun (k : Fin 3) => run[k] = 2 with
  | none => s
  | some k =>
    let s := if k.val = 0 then s.toFirc else s
    s.classS 0x08 0xFFFF (k.val + 1)

def execClockMonitorWindow (bad : Option (Fin 3)) (pllLost : Bool) (lpo firc : BitVec 16) (s : State) : Out :=
  .next (if s.live && !s.asleep then s.clockWindow bad pllLost lpo firc else s)

def execSramEccError (sheepdog multi : Bool) (s : State) : Out :=
  .next (if !s.live || s.asleep then s
    else if multi then s.classS 0x15 0xFFFF 0
    else if sheepdog then s.inc Reg.BIST_SRAM_ECC 31 16
    else s.inc Reg.BIST_SRAM_ECC 15 0)

/-- A write to BIST.CNT_CLR. -/
def State.bistCntClr (s : State) (v : Word) : State :=
  s.clearBy v (((List.range 15).map fun t => (0, Reg.BIST_TEST_CNT t, 31, 0)) ++ [(1, Reg.BIST_SRAM_ECC, 31, 0)])

end Sys2Proof.Machine
end

