-- ==== Sys2Proof/Machine/Rings.lean ====
section
/-!
DEFINITION. The commands of the host rings: freeze, negotiation, contexts, polling and dozing, descriptor fetch, stream
delivery, interrupts and link resets (13_host_rings.md).
-/

namespace Sys2Proof.Machine

/-! ### Freeze (R336) -/

def execFreeze (cause : FreezeCause) (s : State) : Out :=
  .next (match cause with
    | .busMaster => { s with ring.pcie.bme := false }
    | .d3hot => { s with ring.d3hot := true }
    | .linkDown => { s with ring.linkUp := false })

/-- The teardown of a context whose ENABLE was cleared (R357, host-initiated). Log entry 16 (DEDUCED). -/
def State.ctxClose (s : State) (c : Fin 32) : State :=
  let s := s.abortAll c
  let s := s.dropDest c
  (s.modCtx c fun x => { x with state := .disabled, stall := false, closing := false, coal := 0,
                                strm := { x.strm with lost := 0, lostCause := 0 } }).idleCheck

/-- PBA bit of a vector. Log entry 14 (DEDUCED). -/
def State.pba (s : State) (v : Nat) : Bool :=
  if v < 32 then s.flag Reg.MSIX_PBA0 v else s.flag Reg.MSIX_PBA1 (v - 32)

/-- A pending message is sent as soon as nothing holds it (R354). Log entry 14 (DEDUCED). -/
def State.deliver (s : State) (v : Fin 34) : State :=
  if s.pba v && s.sendable v then
    let s := if v.val < 32 then s.setFlag Reg.MSIX_PBA0 v.val false else s.setFlag Reg.MSIX_PBA1 (v.val - 32) false
    (s.countIrq v).message v
  else s

/-- A teardown that waited for the end of a freeze: of a context whose ENABLE was cleared, or whose descriptor read had
failed. Log entry 16 (DEDUCED). -/
def State.closeLate (s : State) (c : Fin 32) : State :=
  let x := s.ring.ctx[c]
  if !x.closing then s else if x.err ≠ 0 then s.ctxFail c x.err else s.ctxClose c

/-- What a thaw brings: waiting completions, teardowns and a state word that waited are written (R336, R348), and pending
messages that a function mask no longer holds are sent (R354). Log entry 16 (DEDUCED). -/
def State.thaw (s : State) : State :=
  if s.frozen then s
  else
    let s := s.flushWaiting
    let s := (List.finRange 32).foldl (fun s (c : Fin 32) => s.closeLate c) s
    let s := if s.ring.wordDue then ({ s with ring.wordDue := false }).writeStateWord else s
    (List.finRange 34).foldl (fun s (v : Fin 34) => s.deliver v) s

/-- Log entry 13 (DESIGN CHOICE). -/
def execFreezeEnd (cause : FreezeCause) (cfg : PcieCfg) (s : State) : Out :=
  .next (State.thaw (match cause with
    | .busMaster => ({ s with ring.pcie := { cfg with bme := true } }).setFlag Reg.TIME_STATUS 4 cfg.ptmEn
    | .d3hot => { s with ring.d3hot := false }
    | .linkDown => { s with ring.linkUp := true, pmc.l23 := false, pmc.pewakeLow := false }))

/-! ### Version and features (R337, R338) -/

def State.writeOffer (s : State) (v : Word) : State :=
  if s.ring.anyEnabled then s.ringErr 3
  else
    let s := s.setReg Reg.DEV_RRP_OFFER (v &&& 6)
    let common := v &&& BitVec.ofNat 32 (s.fld Reg.DEV_RRP_ACCEPT 23 16)
    let ver := if bit common 2 then 2 else if bit common 1 then 1 else 0
    (s.setFld Reg.DEV_RRP_ACCEPT 7 0 ver).setFlag Reg.DEV_RRP_ACCEPT 31 true

/-- A write to DEV.FEAT1: bits not advertised in FEAT0 are ignored; none changes unless every context is `DISABLED`
(R338). -/
def State.writeFeat1 (s : State) (v : Word) : State :=
  if s.ring.anyEnabled then s else s.setReg Reg.DEV_FEAT1 (v &&& s.reg Reg.DEV_FEAT0)

/-! ### Contexts (R340, R341) -/

def State.enableCtx (s : State) (c : Fin 32) : State :=
  if (s.ring.ctx[c]).state = .disabled then
    let s := s.setFlag (Reg.RING_CTX_CFG c) 31 true
    let s := s.modCtx c fun x => { x with state := .creating }
    match s.ring.engine with
    | .dozeEntry => s.enterPolling.inc Reg.DEV_DOZE_CNT 31 16
    | .dozing => s.enterPolling
    | _ => s
  else s

/-- The first condition of R340 that fails, as its error code of R364; 0 when all hold. Log entry 17 (DEDUCED). -/
def State.ctxCheck (s : State) (c : Fin 32) (slotTail slotHead : Nat) : Nat :=
  let cmd := !s.isStream c
  let sq := s.fld (Reg.RING_CTX_CFG c) 23 20
  let cq := s.fld (Reg.RING_CTX_CFG c) 19 16
  let ver := s.fld Reg.DEV_RRP_ACCEPT 7 0
  if ver = 0 then 0x01
  else if s.isV2 c && ver ≠ 2 then 0x02
  else if sq < 4 || 12 < sq || (cmd && (cq < 4 || 12 < cq)) then 0x03
  else if s.sqBase c % 4096 ≠ 0 || s.sqBase c = 0 || (cmd && (s.cqBase c % 4096 ≠ 0 || s.cqBase c = 0)) then 0x04
  else if s.ring.dbBase.isNone then 0x05
  else if cmd && 64 < s.fld (Reg.RING_CTX_CFG c) 14 8 then 0x0A
  else if slotTail ≠ 0 || slotHead ≠ 0 then 0x06
  else 0

def execContextChecksDone (c : Fin 32) (slotTail slotHead : BitVec 16) (s : State) : Out :=
  .next (if (s.ring.ctx[c]).state ≠ .creating || s.frozen then s
    else
      let code := s.ctxCheck c slotTail.toNat slotHead.toNat
      if code = 0 then
        let s := s.modCtx c fun _ => { state := .active }
        let s := s.setReg (Reg.RING_CTX_LOST c) 0
        if s.ring.engine = .idle || s.ring.engine = .dozing then s.enterPolling else s
      else s.ctxFail c code)

/-- Log entry 17 (DEDUCED). -/
def State.disableCtx (s : State) (c : Fin 32) : State :=
  let s := s.setFlag (Reg.RING_CTX_CFG c) 31 false
  match (s.ring.ctx[c]).state with
  | .active => if s.frozen then s.modCtx c fun x => { x with closing := true, err := 0 } else s.ctxClose c
  | .failed => s.modCtx c fun x => { x with state := .disabled, err := 0 }
  | .creating => s.modCtx c fun x => { x with state := .disabled }
  | .disabled => s

/-- R342: on an `ACTIVE` context only with EPOCH_LIVE enabled (R338); on a STREAM context it begins a new session.
Log entry 17 (DEDUCED). -/
def State.writeEpoch (s : State) (c : Fin 32) (v : Word) : State :=
  if (s.ring.ctx[c]).state = .active then
    if s.flag Reg.DEV_FEAT1 2 then
      let s := s.setFld (Reg.RING_CTX_EPOCH c) 15 0 (wfld v 15 0)
      if s.isStream c then s.modCtx c fun x => { x with strm := { x.strm with newSession := true } } else s
    else s
  else s.setFld (Reg.RING_CTX_EPOCH c) 15 0 (wfld v 15 0)

/-! ### The doorbell page (R348) -/

/-- Writes to DB_BASE are ignored while any context is not `DISABLED`, except in `STOPPED`. -/
def State.dbWritable (s : State) : Bool := !s.ring.anyEnabled || decide (s.ring.engine = .stopped)

def State.writeDbLo (s : State) (v : Word) : State :=
  if s.dbWritable then s.setReg Reg.DEV_DB_BASE_LO (v &&& 0xFFFFF000) else s.ringErr 0

def State.writeDbHi (s : State) (v : Word) : State :=
  if s.dbWritable then
    let s := s.setReg Reg.DEV_DB_BASE_HI v
    let s : State := { s with ring.dbBase := some ((s.reg Reg.DEV_DB_BASE_LO).toNat + 2 ^ 32 * v.toNat) }
    if s.ring.engine = .stopped || s.ring.engine = .dozing then s.enterPolling
    else ({ s with ring.interval := s.pollMin }).writeStateWord
  else s.ringErr 0

/-- A write to DB_CTRL: each field in its range, and POLL_MIN not above POLL_MAX, or the fields concerned stay
(R361). -/
def State.writeDbCtrl (s : State) (v : Word) : State :=
  let w := writeWord false Reg.DEV_DB_CTRL v (s.reg Reg.DEV_DB_CTRL)
  if wfld w 9 0 ≤ wfld w 19 10 then s.setReg Reg.DEV_DB_CTRL w
  else s.setFld Reg.DEV_DB_CTRL 29 20 (wfld w 29 20)

/-! ### Polling (R343, R345, R349) -/

/-- CQ entries free and not reserved. -/
def State.cqFree (s : State) (c : Fin 32) : Nat :=
  s.cqSize c - posDiff (s.cqSize c) (s.ring.ctx[c]).devTail (s.ring.ctx[c]).hostHead - s.inflight c

/-- Conditions (a) to (c) of R345 for an `ACTIVE` COMMAND context. -/
def State.wantsFetch (s : State) (c : Fin 32) : Bool :=
  let x := s.ring.ctx[c]
  let lim := s.fld (Reg.RING_CTX_CFG c) 14 8
  decide (x.state = .active) && !s.isStream c && !x.closing && decide (x.hostTail ≠ x.sqHead) &&
    decide (s.inflight c < (if lim = 0 then 16 else lim)) && decide (s.ringInflight < 64)

/-- All conditions of R345. Log entry 12 (DESIGN CHOICE). -/
def State.canFetch (s : State) (c : Fin 32) : Bool := s.wantsFetch c && decide (0 < s.cqFree c)

/-- The context whose descriptor is fetched next: the one served last until its turn of four is over, then round robin from
the context after it (R345). -/
def State.nextFetch (s : State) : Option (Fin 32) :=
  let l := s.ring.lastServed
  if s.ring.burst < 4 && s.canFetch l then some l
  else ((List.range 32).map fun i => Fin.ofNat 32 (l + 1 + i)).find? fun c => s.canFetch c

/-- The turn of the context served last is over when it has no more work (R345). -/
def State.endTurn (s : State) : State :=
  if s.canFetch s.ring.lastServed then s else { s with ring.burst := 4 }

/-- CTX_STATUS.CQ_STALL: fetch is held for CQ space. -/
def State.updateStall (s : State) (c : Fin 32) : State :=
  s.modCtx c fun x => { x with stall := s.wantsFetch c && !decide (0 < s.cqFree c) }

/-- One slot as read: its positions are checked (R343) and taken. The Bool says whether it found work (R349). -/
def State.readSlot (s : State) (c : Fin 32) (sl : Slot) : State × Bool :=
  let x := s.ring.ctx[c]
  if x.state ≠ .active then (s, false)
  else if s.isStream c then
    if goodPair (s.sqSize c) x.devTail sl.head.toNat then
      ((s.modCtx c fun x => { x with hostHead := sl.head.toNat }).ringFlushLost c, false)
    else (s.ctxFail c 0x09, false)
  else if !goodPair (s.sqSize c) sl.tail.toNat x.sqHead then (s.ctxFail c 0x08, false)
  else if !goodPair (s.cqSize c) x.devTail sl.head.toNat then (s.ctxFail c 0x09, false)
  else
    let freed := x.stall && decide (sl.head.toNat ≠ x.hostHead)
    let s := s.modCtx c fun x => { x with hostTail := sl.tail.toNat, hostHead := sl.head.toNat }
    let s := s.updateStall c
    (s, s.canFetch c || freed)

/-- A poll of every slot up to the highest `ACTIVE` context. -/
def State.readSlots (s : State) (slots : Vector Slot 32) : State × Bool :=
  (List.finRange 32).foldl (fun (a : State × Bool) (c : Fin 32) =>
    let (s, w) := a.1.readSlot c slots[c]
    (s, a.2 || w)) (s, false)

/-- While a LOST is pending, slot +2 of its ring is read at each poll interval even where the engine dozes (R346 (d)). -/
def State.readLost (s : State) (slots : Vector Slot 32) : State :=
  (List.finRange 32).foldl (fun s (c : Fin 32) =>
    let x := s.ring.ctx[c]
    if x.state = .active && s.isStream c && x.strm.lost ≠ 0 then (s.readSlot c slots[c]).1 else s) s

/-- Log entry 12 (DESIGN CHOICE). -/
def execDoorbellPoll (slots : Vector Slot 32) (s : State) : Out :=
  .next (if s.frozen then s
    else if s.ring.engine = .dozing || s.ring.engine = .dozeEntry then s.readLost slots
    else if s.ring.engine ≠ .polling then s
    else
      let (s, work) := s.endTurn.readSlots slots
      if s.ring.engine ≠ .polling then s
      else if work then ({ s with ring.lastWork := s.time.pt }).setInterval s.pollMin
      else s.setInterval (min (2 * s.ring.interval) s.pollMax))

/-! ### Fetch (R342, R345, R370) -/

/-- The fields of a descriptor (R367). -/
def descTag (b : List Byte) : BitVec 16 := BitVec.ofNat 16 (leAt b 2 2)
def descEpoch (b : List Byte) : BitVec 16 := BitVec.ofNat 16 (leAt b 4 2)
def descOpcode (b : List Byte) : Nat := leAt b 0 1
def descPver (b : List Byte) : Nat := leAt b 1 1 / 64

/-- The checks of R370 after the epoch's, in order; 0 where the command passes. -/
def descCheck (op pver deadline now : Nat) : Nat :=
  if !opcodes.contains op then Status.BAD_OPCODE
  else if pver ≠ 0 then Status.VERSION
  else if deadline ≠ 0 && deadline < now then Status.TIMEOUT
  else 0

/-- A BATTERY_CONTROL whose operation is none of R280's completes BAD_PARAM: it has no row of its own, and ends as it comes.
Log entry 11 (DESIGN CHOICE). -/
def undefinedOp (op param0 : Nat) : Nat :=
  if op = 0x21 && (param0 = 0 || 6 < param0) then Status.BAD_PARAM else 0

/-- The SQ head moves past a descriptor, and the shadow is written where SQ_SHADOW is enabled (R344). -/
def State.advanceSq (s : State) (c : Fin 32) : State :=
  let s := s.modCtx c fun x => { x with sqHead := (x.sqHead + 1) % (2 * s.sqSize c) }
  match s.ring.dbBase with
  | some a => if s.flag Reg.DEV_FEAT1 1 then s.hostWrite (a + 16 * c + 4) (leBytes 2 (s.ring.ctx[c]).sqHead) else s
  | none => s

def State.fetch (s : State) (c : Fin 32) (b : List Byte) : State :=
  let v2 := s.isV2 c
  let r : Req := { src := .ctx c, tag := descTag b, epoch := descEpoch b,
                   deadline := if v2 then BitVec.ofNat 64 (leAt b 8 8) else 0 }
  let s := s.advanceSq c
  let s : State := { s with ring.lastServed := c, ring.burst := if s.ring.lastServed = c && s.ring.burst < 4 then s.ring.burst + 1 else 1 }
  if r.epoch.toNat ≠ s.fld (Reg.RING_CTX_EPOCH c) 15 0 then
    (s.inc (Reg.RING_CTX_CNT c) 31 16).cqPut c r { status := Status.STALE_EPOCH } 0 s.time.pt
  else
    let p := if v2 then 16 else 8
    let st := descCheck (descOpcode b) (descPver b) r.deadline.toNat s.now
    let st := if st = 0 then undefinedOp (descOpcode b) (leAt b p 1) else st
    if st ≠ 0 then s.cqPut c r { status := st } 0 s.time.pt
    else
      let e : ReqEntry := ⟨r, BitVec.ofNat 8 (descOpcode b), padTo 24 (b.drop p), [], false⟩
      ({ s with reqs := s.reqs ++ [e] }).updateStall c

/-- A version 1 descriptor is the first 32 of the bytes read. Log entry 12 (DESIGN CHOICE). -/
def execDescriptorFetch (c : Fin 32) (bytes : Vector Byte 64) (s : State) : Out :=
  .next (if s.nextFetch = some c && !s.frozen && s.ring.engine = .polling then
      s.fetch c (bytes.toList.take (if s.isV2 c then 64 else 32))
    else s)

/-! ### Failed reads (R359) -/

def State.stopEngine (s : State) : State :=
  match s.ring.engine with
  | .polling | .dozeEntry | .dozing => ({ s with ring.engine := .stopped }).ringErr 1
  | _ => s

def execMemoryReadFail (what : FailedRead) (s : State) : Out :=
  .next (match what with
    | .descriptor c =>
      if (s.ring.ctx[c]).state ≠ .active then s
      else if s.frozen then s.modCtx c fun x => { x with closing := true, err := 0x07 }
      else s.ctxFail c 0x07
    | .slotCheck c => if (s.ring.ctx[c]).state = .creating then s.ctxFail c 0x07 else s
    | .poll => s.stopEngine
    | .readback => s.stopEngine
    | .reread => s.stopEngine)

/-! ### Dozing (R350, R352, R353) -/

/-- Nothing stands against doze entry: no ring command in flight, no LOST pending, no context `CREATING`. -/
def State.dozeAllowed (s : State) : Bool :=
  decide (s.ringInflight = 0) && !s.ring.anyLost && !s.ring.anyCreating

/-- Step 1 of doze entry: state word `DOZING` and DOZE_SEQ + 1. -/
def State.dozeStep1 (s : State) : State :=
  ({ s with ring.engine := .dozeEntry, ring.nudged := false, ring.dozeSeq := s.ring.dozeSeq + 1 }).writeStateWord.sendLtr

/-- DOZE_IDLE has passed since the last poll that found work and the last completion written (R350). -/
def State.ringIdle (s : State) : Bool :=
  decide (ms (s.fld Reg.DEV_DB_CTRL 29 20) ≤ (s.time.pt - s.ring.lastWork).toNat)

def execDozeEntry (s : State) : Out :=
  .next (if s.ring.engine = .polling && !s.frozen && s.flag Reg.DEV_FEAT1 0 && s.dozeAllowed && s.ringIdle then s.dozeStep1
    else s)

def execDozeReadback (slots : Vector Slot 32) (s : State) : Out :=
  .next (if s.ring.engine ≠ .dozeEntry || s.frozen then s
    else
      let (s, work) := s.readSlots slots
      if work || s.ring.nudged || s.ring.anyCreating then s.enterPolling.inc Reg.DEV_DOZE_CNT 31 16
      else (({ s with ring.engine := .dozing }).sendLtr).inc Reg.DEV_DOZE_CNT 15 0)

/-- What a write to DEV.NUDGE does beside its count (R352). -/
def State.nudge (s : State) : State :=
  if s.frozen then s
  else match s.ring.engine with
    | .dozeEntry => s.enterPolling.inc Reg.DEV_DOZE_CNT 31 16
    | .dozing => s.enterPolling
    | .polling => (s.setInterval s.pollMin).inc Reg.DEV_NUDGE_CNT 31 16
    | _ => s

/-! ### Stream delivery (R346, R395) -/

def State.offerCtx (s : State) (c : Fin 32) (head : Nat) : State :=
  match s.fabric.oldest c with
  | none => s
  | some r =>
    if (s.ring.ctx[c]).state ≠ .active || !s.isStream c then s.served c
    else
      let full := s.ringFree c < s.ringNeed c r.ev.pt || (s.ring.ctx[c]).strm.lost ≠ 0
      if full && !goodPair (s.sqSize c) (s.ring.ctx[c]).devTail head then s.ctxFail c 0x09
      else
        let s := if full then s.modCtx c fun x => { x with hostHead := head } else s
        (s.ringOffer c r.ev).served c

def State.offerPort (s : State) (p : Fin 4) : State :=
  match s.fabric.oldest (32 + p) with
  | none => s
  | some r =>
    (s.modPort p fun q => q.offer (s.flag Reg.DEV_FEAT1 3) (s.ptEst s.ptNow) s.ptNow r.ev).served (32 + p)

/-- Log entry 12 (DESIGN CHOICE). -/
def execStreamRecordOffer (d : Dest) (rereadHead : BitVec 16) (s : State) : Out :=
  .next (match d with
    | .ctx c => if s.frozen then s else s.offerCtx c rereadHead.toNat
    | .port p => s.offerPort p)

/-- R26: the oldest held record that is not bound for the journal is dropped and counted toward LOST; one bound for the journal
is held on, whole, until an entry is free. Log entry 19 (DEDUCED). -/
def State.holdTimeout (s : State) : State :=
  match s.fabric.held.find? fun r => !r.todo.getLsbD 36 with
  | none => s
  | some r =>
    let s := s.dropRecord r
    let rest := s.fabric.held.eraseP fun r => !r.todo.getLsbD 36
    { s with fabric := admitHeld rest { s.fabric with held := [] } }

/-- Log entry 19 (DEDUCED). -/
def execFabricHoldTimeout (s : State) : Out := .next s.holdTimeout

/-! ### Interrupts (R354, R355) -/

def execCoalesceTimeout (c : Fin 32) (s : State) : Out :=
  .next (if (s.ring.ctx[c]).state = .active && (s.ring.ctx[c]).coal ≠ 0 && !s.frozen then s.ctxMessage c else s)

/-- Log entry 14 (DEDUCED). -/
def State.unmask (s : State) (v : Fin 34) : State := (s.setFlag (Reg.MSIX_VCTRL v) 0 false).deliver v

/-! ### Link resets (R357) -/

/-- Registers a link reset returns to their reset values: RRP_OFFER, RRP_ACCEPT (VERSION, DONE), FEAT1, DB_BASE,
DB_CTRL, every RING register, the MSI-X table and the PBA. -/
def linkResetReg (a : Nat) : Bool :=
  (0xB000 ≤ a && a < 0xD000) || a == Reg.DEV_RRP_OFFER || a == Reg.DEV_RRP_ACCEPT || a == Reg.DEV_FEAT1 ||
  a == Reg.DEV_DB_BASE_LO || a == Reg.DEV_DB_BASE_HI || a == Reg.DEV_DB_CTRL

/-- Every context back to `DISABLED`, their commands' entries freed, undelivered records dropped, engine `IDLE`. PME_En is
sticky. Log entry 13 (DESIGN CHOICE). -/
def State.linkReset (s : State) : State :=
  let s : State := { s with
    regs := s.regs.filter fun e => !linkResetReg e.1
    reqs := s.reqs.filter fun e => !e.ofRing
    ring := { s.ring with engine := .idle, interval := 8, nudged := false, dbBase := none, wordDue := false, waiting := [],
                          ctx := Vector.replicate 32 {}, lastServed := 31, burst := 4, ltr := none,
                          pcie := { bme := false, msixEn := false, fnMask := false, ptmEn := false, ltrEn := false
                                    pmeEn := s.ring.pcie.pmeEn },
                          d3hot := false, linkUp := false } }
  let s := (List.range 32).foldl (fun s c => s.dropDest c) s
  s.setFlag Reg.TIME_STATUS 4 false

/-- A PERST_N assertion discards all PTM dialogues too (R72). -/
def State.perstReset (s : State) : State :=
  let s := s.linkReset
  State.setFlag { s with time.ptmDone := 0, time.ptmDue := false } Reg.TIME_STATUS 5 false

/-- DEV.RING_CNT_CLR (R361). -/
def State.ringCntClr (s : State) (v : Word) : State :=
  s.clearBy v [(0, Reg.DEV_NUDGE_CNT, 31, 0), (1, Reg.DEV_DOZE_CNT, 31, 0)]

end Sys2Proof.Machine
end

