-- ==== Sys2Proof/Machine/Mailbox.lean ====
section
/-!
DEFINITION. The commands of the mailbox ports: SPI and I2C frames with their CRC-8, the byte-addressed space, and the
exchange of each port (15_mailbox.md).
-/

namespace Sys2Proof.Machine

/-! ### CRC-8 (R388) -/

/-- One bit of the CRC with polynomial 0x07. -/
def crc8Bit (c : Byte) : Byte := if c.getLsbD 7 then (c <<< 1) ^^^ 0x07 else c <<< 1

/-- One byte of the CRC. -/
def crc8Byte (c b : Byte) : Byte :=
  crc8Bit (crc8Bit (crc8Bit (crc8Bit (crc8Bit (crc8Bit (crc8Bit (crc8Bit (c ^^^ b))))))))

/-- CRC-8, initial value 0, no reflection, no final XOR. -/
def crc8 (l : List Byte) : Byte := l.foldl crc8Byte 0

/-! ### The address space (R387) -/

/-- Regions of the mailbox space. -/
inductive Region where
  | inBuf (p : Fin 4)
  | outBuf (p : Fin 4)
  | control (p : Fin 4)
  | link
  | events (p : Fin 4)
deriving DecidableEq, Repr

/-- The port number an index names. -/
def portOf (n : Nat) : Fin 4 := ⟨n % 4, Nat.mod_lt _ (by decide)⟩

/-- The region of an address and the offset in it. -/
def region (a : Nat) : Option (Region × Nat) :=
  if a < 0x200 then
    some (if a % 0x80 < 0x40 then (.inBuf (portOf (a / 0x80)), a % 0x80) else (.outBuf (portOf (a / 0x80)), a % 0x80 - 0x40))
  else if a < 0x210 then some (.control (portOf ((a - 0x200) / 4)), a % 4)
  else if a < 0x214 then some (.link, a - 0x210)
  else if 0x240 ≤ a && a < 0x280 then some (.events (portOf ((a - 0x240) / 16)), a % 16)
  else none

/-- The region that a span of `n` bytes from `a` lies in as a whole (R387). -/
def spanRegion (a n : Nat) : Option (Region × Nat) :=
  match region a, region (a + n - 1) with
  | some (r, o), some (r', o') => if r = r' && o' = o + n - 1 then some (r, o) else none
  | _, _ => none

/-- The host may write the region (R387). -/
def Region.writable : Region → Bool
  | .inBuf _ => true
  | .control _ => true
  | .link => true
  | .outBuf _ => false
  | .events _ => false

/-- Control word of a port (R393). -/
def Port.control (q : Port) : Word :=
  pack [(b2n (q.state = .busy), 0), (b2n (q.state = .done), 1), (b2n q.err, 2), (b2n q.alertEn, 4),
    (b2n q.evtAlert, 5), (q.dataLen, 8), (q.evts.length, 16)]

/-- The bytes of a region, from its first. -/
def State.regionBytes (s : State) (r : Region) : List Byte :=
  match r with
  | .inBuf p => (s.mbox.port[p]).inBuf
  | .outBuf p => (s.mbox.port[p]).outBuf
  | .control p => image (s.mbox.port[p]).control
  | .link => image (s.reg Reg.MBOX_LINK_STATUS)
  | .events p => match (s.mbox.port[p]).evts with
    | e :: _ => e
    | [] => List.replicate 16 0xFF

/-! ### The exchange (R394) -/

/-- GO written 1: `IDLE` copies IN and queues the descriptor, or answers a failed check at once; in any other state
ERR is set. -/
def State.portGo (s : State) (p : Fin 4) : State :=
  let q := s.mbox.port[p]
  if q.state = .idle then
    let b := q.inBuf
    let r : Req := { src := .port p, tag := descTag b, epoch := descEpoch b, deadline := 0 }
    let st := descCheck (descOpcode b) (descPver b) 0 0
    let st := if st = 0 then undefinedOp (descOpcode b) (leAt b 8 1) else st
    if st ≠ 0 then
      s.modPort p fun q =>
        { q with state := .done, dataLen := 0, outBuf := padTo 64 (cplBytes false r st 0 0 0 []) }
    else
      let e : ReqEntry := ⟨r, BitVec.ofNat 8 (descOpcode b), padTo 24 (b.drop 8), padTo 32 (b.drop 32), false⟩
      ({ s with reqs := s.reqs ++ [e] }).modPort p fun q => { q with state := .busy }
  else s.modPort p fun q => { q with err := true }

/-- DONE written 1. -/
def State.portDone (s : State) (p : Fin 4) : State :=
  if (s.mbox.port[p]).state = .done then s.modPort p fun q => { q with state := .idle } else s

/-- EVT_POP written 1: the oldest record goes, and a pending LOST may now fit (R395). -/
def State.portPop (s : State) (p : Fin 4) : State :=
  match (s.mbox.port[p]).evts with
  | [] => s
  | _ :: es => s.modPort p fun q =>
      ({ q with evts := es }).flushLost (s.flag Reg.DEV_FEAT1 3) (s.ptEst s.ptNow) s.ptNow

/-- A write of byte 0 of the control word: RW bits, then ERR, DONE, EVT_POP and GO in that order (R393, R394). -/
def State.controlWrite (s : State) (p : Fin 4) (b : Byte) : State :=
  let s := s.modPort p fun q => { q with alertEn := b.getLsbD 4, evtAlert := b.getLsbD 5,
                                         err := q.err && !b.getLsbD 2 }
  let s := if b.getLsbD 1 then s.portDone p else s
  let s := if b.getLsbD 3 then s.portPop p else s
  if b.getLsbD 0 then s.portGo p else s

/-- A write to the link word: W1C bits (R401). -/
def State.linkWrite (s : State) (v : Nat) : State :=
  s.setReg Reg.MBOX_LINK_STATUS (s.reg Reg.MBOX_LINK_STATUS &&& ~~~(BitVec.ofNat 32 (v % 8)))

/-- Bytes `bs` committed to a region from offset `o`. -/
def State.commit (s : State) (r : Region) (o : Nat) (bs : List Byte) : State :=
  match r with
  | .inBuf p => s.modPort p fun q => { q with inBuf := padTo 64 (q.inBuf.take o ++ bs ++ q.inBuf.drop (o + bs.length)) }
  | .control p => if o = 0 then s.controlWrite p (bs.headD 0) else s
  | .link => if o = 0 then s.linkWrite (bs.headD 0).toNat else s
  | _ => s

/-! ### Frames (R388 to R391) -/

/-- Sets a LINK error bit and counts it: bit 0 CRC_ERR, 1 LEN_ERR, 2 RANGE_ERR. -/
def State.linkErr (s : State) (b : Nat) : State :=
  let s := s.setFlag Reg.MBOX_LINK_STATUS b true
  if b = 0 then s.inc Reg.MBOX_LINK_CNT 15 0 else s.inc Reg.MBOX_LINK_CNT 31 16

/-- First address and byte count of an address field. -/
def addrField (lo hi : Byte) : Nat × Nat := ((lo.toNat + 256 * hi.toNat) % 1024, hi.toNat / 4 + 1)

/-- A write frame whose check byte is good or bad: length, then region, then the commit (R391 (a)).
Log entry 18 (DEDUCED). -/
def State.writeFrame (s : State) (crcGood : Bool) (a n : Nat) (data : List Byte) : State :=
  if !crcGood then s.linkErr 0
  else if data.length ≠ n then s.linkErr 1
  else match spanRegion a n with
    | some (r, o) => if r.writable then s.commit r o data else s.linkErr 2
    | none => s.linkErr 2

/-- The bytes a read frame returns, all from one instant (R391 (b)). Log entry 18 (DEDUCED). -/
def State.readFrame (s : State) (a n : Nat) : State × List Byte :=
  match spanRegion a n with
  | some (r, o) => (s, padTo n ((s.regionBytes r).drop o))
  | none => (s.linkErr 2, List.replicate n 0xFF)

/-- The ports answer (R397, R398). Log entry 41 (DEDUCED). -/
def State.mboxReady (s : State) : Bool := s.flag Reg.MBOX_LINK_STATUS 8

def State.spiWrite (s : State) (bytes : List Byte) : State :=
  match bytes with
  | op :: lo :: hi :: rest =>
    if op = 0x02 then
      let an := addrField lo hi
      match rest.getLast? with
      | none => s.linkErr 1
      | some c => s.writeFrame (decide (c = crc8 bytes.dropLast)) an.1 an.2 rest.dropLast
    else s
  | [] => s
  | op :: _ => if op = 0x02 then s.linkErr 1 else s

/-- The frame that woke the controller is discarded at its rising edge (R398). -/
def State.endFrame (s : State) : State := { s with mbox.csLow := false, mbox.discard := false }

def execSpiWriteFrame (bytes : List Byte) (s : State) : Out :=
  .next (if s.mbox.discard || !s.mboxReady then s.endFrame else (s.spiWrite bytes).endFrame)

def execSpiReadFrame (op lo hi : Byte) (s : State) : Out :=
  .next (if s.mbox.discard || !s.mboxReady then s.endFrame
    else if op = 0x0B then
      let an := addrField lo hi
      let (s, d) := s.readFrame an.1 an.2
      ({ s with mbox.lastRead := d ++ [crc8 (op :: lo :: hi :: d)] }).endFrame
    else s.endFrame)

/-- The address byte of an I2C transaction. -/
def i2cByte (addr : BitVec 7) (rd : Bool) : Byte := BitVec.ofNat 8 (2 * addr.toNat + b2n rd)

/-- The I2C target acknowledges the address (R390). Log entry 18 (DEDUCED). -/
def State.i2cAck (s : State) (addr : BitVec 7) : Bool := s.mboxReady && decide (addr.toNat = s.fld Reg.MBOX_CFG 6 0)

/-- Log entry 18 (DEDUCED). -/
def execI2cWrite (addr : BitVec 7) (bytes : List Byte) (s : State) : Out :=
  .next (if !s.i2cAck addr then s
    else match bytes with
      | lo :: hi :: rest =>
        let an := addrField lo hi
        if rest.length = an.2 + 1 then
          s.writeFrame (decide (rest.getLastD 0 = crc8 (i2cByte addr false :: bytes.dropLast))) an.1 an.2 rest.dropLast
        else if rest.length = an.2 then
          if s.flag Reg.MBOX_CFG 8 then s else s.writeFrame true an.1 an.2 rest
        else s.linkErr 1
      | _ => s.linkErr 1)

/-- Log entry 18 (DEDUCED). -/
def execI2cRead (addr : BitVec 7) (lo hi : Byte) (pec : Bool) (s : State) : Out :=
  .next (if !s.i2cAck addr then s
    else
      let an := addrField lo hi
      let (s, d) := s.readFrame an.1 an.2
      let c := crc8 ([i2cByte addr false, lo, hi, i2cByte addr true] ++ d)
      { s with mbox.lastRead := if pec then d ++ [c] else d })

/-! ### The port commands -/

/-- A write that a port row stands for reaches the ports only while they answer (R397, R398). -/
def State.whenReady (s t : State) : Out := .next (if s.mboxReady then t else s)

def execMailboxGo (p : Fin 4) (s : State) : Out := s.whenReady (s.portGo p)

def execMailboxDoneClear (p : Fin 4) (s : State) : Out := s.whenReady (s.portDone p)

def execEvtPop (p : Fin 4) (s : State) : Out := s.whenReady (s.portPop p)

def execMailboxErrClear (p : Fin 4) (s : State) : Out := s.whenReady (s.modPort p fun q => { q with err := false })

def execLinkErrClear (value : Word) (s : State) : Out := s.whenReady (s.linkWrite (value.toNat % 256))

/-- A port's command leaves the request queue: its completion has been written (R20). -/
def State.releasePort (s : State) (p : Fin 4) : State := { s with reqs := s.reqs.filter fun e => decide (e.req.src ≠ .port p) }

/-- The decided completion replaces OUT in one step, and frees the command's entry (R20, R394). -/
def execMailboxReply (p : Fin 4) (s : State) : Out :=
  .next (match (s.mbox.port[p]).state, (s.mbox.port[p]).reply with
    | .busy, some (b, n) =>
      (s.modPort p fun q => { q with state := .done, outBuf := padTo 64 b, dataLen := n, reply := none }).releasePort p
    | _, _ => s)

/-- MBOX.CNT_CLR (R401). -/
def State.mboxCntClr (s : State) (v : Word) : State :=
  s.clearBy v [(0, Reg.MBOX_LINK_CNT, 15, 0), (1, Reg.MBOX_LINK_CNT, 31, 16)]

/-- MB_ALERT_N is driven low (R396): a `DONE` port with ALERT_EN, a waiting record with EVT_ALERT, or a waiting record
with ALERT. It is released in every reset, until the ports first answer after step 7, and in `SAFE_HOLD` (R38, R46).
Log entry 84 (DEDUCED). -/
def State.mbAlertLow (s : State) : Bool :=
  s.dev.powered && !s.dev.inReset && s.dev.stage ≠ .boot && s.dev.stage ≠ .safeHold && s.mbox.port.toList.any fun q =>
    (decide (q.state = .done) && q.alertEn) || (!q.evts.isEmpty && q.evtAlert) ||
    q.evts.any fun e => (e.getD 1 0).getLsbD 2

end Sys2Proof.Machine
end

