-- ==== Sys2Proof/Machine/Plan.lean ====
section
/-!
DEFINITION. The Plan and firmware staging commands (17_plan_image.md, R448 to R455).
-/

namespace Sys2Proof.Machine

/-- Bytes 32 to 63 of the port's IN buffer as they stood at GO (R374). -/
def State.portData (s : State) (r : Req) (p : Fin 4) : List Byte :=
  match s.reqs.find? fun e => sameReq e.req r with
  | some e => if e.data.isEmpty then (s.mbox.port[p]).inBuf.drop 32 else e.data
  | none => (s.mbox.port[p]).inBuf.drop 32

/-- The bytes of a chunk: read from the host buffer on a ring, taken from IN on a port (R374).
Log entry 45 (DEDUCED). -/
def State.chunkData (s : State) (r : Req) (length : Nat) (data : List Byte) : List Byte :=
  padTo length (match r.src with
    | .ctx _ => data
    | .port p => s.portData r p)

/-- LENGTH, BUF_ADDR or OFFSET is invalid for staging `t` with images of at most `top` bytes (R374, R452). -/
def chunkBad (t : Staging) (r : Req) (addr : BitVec 64) (length offset top : Nat) : Bool :=
  length = 0 ||
  (match r.src with
    | .ctx _ => decide (4096 < length) || addr.toNat % 8 ≠ 0
    | .port _ => decide (32 < length) || addr ≠ 0) ||
  (offset ≠ 0 && !(t.isOpen && offset = t.count)) || decide (top < offset + length)

/-- A chunk waits in a staging for erases; the commands behind it wait for its owner. Log entry 45 (DEDUCED). -/
def Staging.busy (t : Staging) : Bool := t.chunk.isSome

/-- A new staging of the sectors `l` in slot `k` with its first chunk; a retired sector that would have to be erased ends it
(R451, R452, R494). -/
def State.newStaging (s : State) (k : Fin 2) (l : List Nat) (c : Req × List Byte × Bool × Nat × Word) : Option Staging :=
  let todo := s.toErase l
  if todo.any fun g => s.isRetired g then none
  else some { isOpen := true, slot := k, todo := todo, chunk := some c }

/-- PLAN_STAGE after its BAD_PARAM and stage tests (R452). Log entry 45 (DEDUCED). -/
def State.planStageTake (s : State) (r : Req) (d : List Byte) (offset : Nat) (final readFails : Bool) : State × Option Reply :=
  if readFails then (s, reply Status.ABORTED (stageResult 0 0 0 s.plans.plan.count))
  else if offset ≠ 0 then (s.planChunk r d final, none)
  else
    let k := s.stagingSlot
    match s.newStaging k (planSectors k) (r, d, final, 0, 0) with
    | none => ({ s with plans.plan := { slot := k } }, reply Status.ABORTED (stageResult 0 0 0 0))
    | some t => (State.stageReady (State.kickErases { s with plans.plan := t }), none)

def execPlanStage (r : Req) (addr : BitVec 64) (length : BitVec 16) (offset : Word) (flags : Byte) (data : List Byte)
    (readFails : Bool) (s : State) : Out :=
  .next (if s.plans.plan.busy then s.awaitTurn r 0x81
    else s.command r 0x81 (chunkBad s.plans.plan r addr length.toNat offset.toNat 65504) fun s =>
      s.planStageTake r (s.chunkData r length.toNat data) offset.toNat (flags.getLsbD 0) readFails)

/-! ### Activation (R453) -/

/-- The activation line of generation `g`. -/
def activationLine (g : Nat) : List Byte :=
  let b := leBytes 4 0x54434151 ++ leBytes 4 g
  b ++ leBytes 4 (crc32 b) ++ List.replicate 20 0

/-- Log entry 25 (DESIGN CHOICE). -/
def State.activate (s : State) (g : Nat) : State :=
  let k := s.plans.plan.slot
  let i := s.slotImage k []
  let s := s.programLine ((planBase k + 0xFFE0) / 32) (activationLine g)
  let s : State := { s with plans.plan := { s.plans.plan with activated := true }, plans.verifyDue := true }
  s.planRecord 2 k g (imgHash i) (imgLen i)

def execPlanActivate (r : Req) (gen : Word) (s : State) : Out :=
  .next (if s.plans.plan.busy then s.awaitTurn r 0x82
    else s.command r 0x82 (gen = 0) fun s =>
      let t := s.plans.plan
      if !t.closed || t.isOpen || t.activated then (s, reply Status.NOT_IN_STATE)
      else if t.gen ≠ some gen.toNat || gen.toNat ≤ (s.reg Reg.DEV_PLAN_GEN).toNat then (s, reply Status.REFUSED)
      else (s.activate gen.toNat, reply Status.OK [BitVec.ofNat 8 t.slot.val]))

/-! ### Firmware (R455) -/

/-- The firmware slot that is not running. Log entry 72 (DESIGN CHOICE). -/
def State.otherFirmware (s : State) : Fin 2 := if s.fld Reg.DEV_BOOT_DIAG 1 0 = 0 then 1 else 0

/-- The sectors of firmware slot `k`. -/
def fwSectors (k : Fin 2) : List Nat := (List.range 192).map fun i => k.val * 512 + i

/-- FIRMWARE_STAGE after its BAD_PARAM and stage tests; OFFSET 0 erases the slot, and its activation marker with it.
Log entry 72 (DESIGN CHOICE). -/
def State.firmwareTake (s : State) (r : Req) (d : List Byte) (offset : Nat) (final readFails : Bool) (check : Nat) (v : Word) :
    State × Option Reply :=
  if readFails then (s, reply Status.ABORTED (stageResult 0 0 0 s.plans.firmware.count))
  else if offset ≠ 0 then (s.firmwareChunk r d final check v, none)
  else
    let k := s.otherFirmware
    let s : State := { s with plans.fwMarked := s.plans.fwMarked &&& ~~~BitVec.ofNat 2 (2 ^ k.val) }
    match s.newStaging k (fwSectors k) (r, d, final, check, v) with
    | none => ({ s with plans.firmware := { slot := k } }, reply Status.ABORTED (stageResult 0 0 0 0))
    | some t => (State.stageReady (State.kickErases { s with plans.firmware := t }), none)

/-- Log entry 72 (DESIGN CHOICE). -/
def execFirmwareStage (r : Req) (addr : BitVec 64) (length : BitVec 16) (offset : Word) (flags : Byte) (data : List Byte)
    (readFails : Bool) (check : Byte) (version : Word) (s : State) : Out :=
  .next (if s.plans.firmware.busy then s.awaitTurn r 0x83
    else s.command r 0x83 (chunkBad s.plans.firmware r addr length.toNat offset.toNat 786432) fun s =>
      s.firmwareTake r (s.chunkData r length.toNat data) offset.toNat (flags.getLsbD 0) readFails check.toNat version)

/-! ### Background verification (R448) -/

/-- The slot it verifies: the one that does not hold the loaded Plan. Log entry 45 (DEDUCED). -/
def State.backgroundVerify (s : State) (errs : List LineErr) : State :=
  let k := s.stagingSlot
  let c := match s.notCandidate k with
    | some c => c
    | none => match s.verifySlot k errs with
      | 0 => 7
      | c => c
  let s : State := { s with plans.verifyDue := false }
  s.setOutcome k c

def execPlanBackgroundVerify (errs : List LineErr) (s : State) : Out :=
  .next (if s.plans.verifyDue && s.fullService && !s.asleep && !s.dev.inReset then s.backgroundVerify errs else s)

end Sys2Proof.Machine
end

