-- ==== Sys2Proof/Machine/Flash.lean ====
section
/-!
DEFINITION. The flash commands: BAR2 reads and command sequences, the ends of programs, erases and suspensions, and the journal
writer's appends (16_flash.md).
-/

namespace Sys2Proof.Machine

/-! ### BAR2 (R405 to R412) -/

/-- BAR2 answers: the PCIe function is enabled and the link is up (R405). -/
def State.bar2Open (s : State) : Bool :=
  s.flag Reg.DEV_STAGE 12 && s.ring.linkUp && !s.ring.d3hot && !s.inSleepOrWake

/-- Sets status bit `i` of a bank. -/
def State.statusBit (s : State) (b : Fin 2) (i : Nat) : State := s.setFlag (flashStatus b) i true

/-- A command is accepted: status bits 27 to 24 clear (R408). Log entry 67 (DEDUCED). -/
def State.accepted (s : State) (b : Fin 2) : State := s.setFld (flashStatus b) 27 24 0

/-- A sequence is abandoned with SEQ_ERROR (R410). Log entry 67 (DEDUCED). -/
def State.seqFail (s : State) (b : Fin 2) : State := (s.modBank b fun x => { x with step := .none }).statusBit b 24

/-- R412: sector `k` of bank `b` is closed to the host. -/
def State.isProtected (s : State) (b : Fin 2) (k : Nat) : Bool :=
  match regionOf b k with
  | 0 => true
  | 1 => !s.planInactive b || s.plans.plan.isOpen
  | 2 => true
  | _ => if b = 0 then s.flag Reg.FLASH_WP_A ((k - 0x150) / 16) else s.flag Reg.FLASH_WP_B ((k - 0xD0) / 16)

/-- A host SECTOR_ERASE at its follow-up write. Log entry 67 (DEDUCED). -/
def State.hostErase (s : State) (b : Fin 2) (k : Nat) : State :=
  let x := s.flash.bank[b]
  if x.st ≠ .idle then s.statusBit b 24
  else if s.isProtected b k then s.statusBit b 26
  else (s.accepted b).startErase b k .host

/-- A host PROGRAM_LINE at its eighth write: nesting, protection, suspect sector, then the blank check.
Log entry 67 (DEDUCED). -/
def State.hostProgram (s : State) (b : Fin 2) (o : Nat) (d : List Byte) : State :=
  let x := s.flash.bank[b]
  let k := o / 0x1000
  let l := b.val * 65536 + o / 32
  if x.busy || (x.st = .suspended && k = x.sector) then s.statusBit b 24
  else if s.isProtected b k then s.statusBit b 26
  else if s.isSuspect b k then (s.statusBit b 25).refusedSuspect b k
  else if (s.lineAt l).isSome then s.statusBit b 27
  else
    let next : BankSt := if x.st = .suspended then .suspProgram else .program
    (s.accepted b).modBank b fun x => { x with st := next, line := l, data := d }

/-- ABORT/RESET (R418). -/
def State.hostAbort (s : State) (b : Fin 2) : State :=
  let s := (s.accepted b).modBank b fun x => { x with statusMode := false, step := .none }
  if (s.flash.bank[b]).use = .host then (s.abandonErase b true).kickErases else s

/-- ERASE_SUSPEND and ERASE_RESUME (R415). -/
def State.hostSuspend (s : State) (b : Fin 2) : State :=
  match (s.flash.bank[b]).st with
  | .erase => (s.accepted b).modBank b fun x => { x with st := .suspending }
  | .program => s.statusBit b 24
  | .suspProgram => s.statusBit b 24
  | _ => s

def State.hostResume (s : State) (b : Fin 2) : State :=
  if (s.flash.bank[b]).st = .suspended then (s.accepted b).modBank b fun x => { x with st := .erase }
  else s.statusBit b 24

/-- The PROGRAM_LINE write at bank offset `o` is the next expected one: the line base first, then the words in order.
Log entry 67 (DEDUCED). -/
def lineNext (base : Option Nat) (words : List Word) (o : Nat) : Bool :=
  match base with
  | none => o % 32 = 0
  | some a => o = a + 4 * words.length

/-- A follow-up write of PROGRAM_LINE. -/
def State.lineWrite (s : State) (b : Fin 2) (base : Option Nat) (words : List Word) (o : Nat) (v : Word) : State :=
  let a := base.getD o
  let words := words ++ [v]
  if words.length < 8 then s.modBank b fun x => { x with step := .program (some a) words }
  else (s.modBank b fun x => { x with step := .none }).hostProgram b a (words.flatMap image)

/-- One BAR2 write in a bank (R405, R409, R410, R415). ABORT/RESET acts at any step; a write that is the next data word of a
PROGRAM_LINE is data whatever its value. Log entry 67 (DEDUCED). -/
def State.bar2Write (s : State) (w : BarWrite) : State :=
  let b : Fin 2 := if w.addr.getLsbD 21 then 1 else 0
  let o := w.addr.toNat % 0x200000
  let x := s.flash.bank[b]
  let v := w.value
  if !w.whole || o % 4 ≠ 0 then s.statusBit b 24
  else match x.step with
    | .program base words =>
      if lineNext base words o && !x.busy then s.lineWrite b base words o v
      else if v = 0xF0 then s.hostAbort b
      else s.seqFail b
    | .none =>
      if v = 0xF0 then s.hostAbort b
      else if v = 0xB0 then s.hostSuspend b
      else if v = 0x3A then s.hostResume b
      else if v = 0xA9 && o = 0xAA8 then s.modBank b fun x => { x with step := .first }
      else s.seqFail b
    | .first =>
      if v = 0xF0 then s.hostAbort b
      else if v = 0x56 && o = 0x554 then s.modBank b fun x => { x with step := .second }
      else s.seqFail b
    | .second =>
      if v = 0xF0 then s.hostAbort b
      else if o ≠ 0xAA8 then s.seqFail b
      else if v = 0x70 then (s.accepted b).modBank b fun x => { x with step := .none, statusMode := true }
      else if v = 0x30 && !x.busy then s.modBank b fun x => { x with step := .erase }
      else if v = 0xA0 && !x.busy then s.modBank b fun x => { x with step := .program none [] }
      else s.seqFail b
    | .erase =>
      if v = 0xF0 then s.hostAbort b
      else if v = 0xE5 && !x.busy then (s.modBank b fun x => { x with step := .none }).hostErase b (o / 0x1000)
      else s.seqFail b

/-- BAR2 writes in order; none is answered while BAR2 is closed. -/
def State.bar2Writes (s : State) (l : List BarWrite) : State :=
  if s.bar2Open then l.foldl State.bar2Write s else s

/-- The write of value `v` at bank offset `o`. -/
def barAt (b : Fin 2) (o : Nat) (v : Nat) : BarWrite :=
  { addr := BitVec.ofNat 22 (b.val * 0x200000 + o), value := BitVec.ofNat 32 v }

/-- The two unlock writes and a command code (R409). Log entry 67 (DEDUCED). -/
def unlocked (b : Fin 2) (code : Nat) : List BarWrite := [barAt b 0xAA8 0xA9, barAt b 0x554 0x56, barAt b 0xAA8 code]

def execSectorErase (bank : Fin 2) (more : List BarWrite) (s : State) : Out :=
  .next (s.bar2Writes (unlocked bank 0x30 ++ more))

def execProgramLine (bank : Fin 2) (more : List BarWrite) (s : State) : Out :=
  .next (s.bar2Writes (unlocked bank 0xA0 ++ more))

def execStatusMode (bank : Fin 2) (s : State) : Out := .next (s.bar2Writes (unlocked bank 0x70))

def execEraseSuspend (addr : BitVec 22) (s : State) : Out := .next (s.bar2Writes [{ addr := addr, value := 0xB0 }])

def execEraseResume (addr : BitVec 22) (s : State) : Out := .next (s.bar2Writes [{ addr := addr, value := 0x3A }])

def execAbortReset (addr : BitVec 22) (s : State) : Out := .next (s.bar2Writes [{ addr := addr, value := 0xF0 }])

/-- R410: a sequence in progress fails. -/
def execSequenceTimeout (bank : Fin 2) (s : State) : Out :=
  .next (if (s.flash.bank[bank]).step = .none then s else s.seqFail bank)

/-- What a host read of lines leaves in LASTREAD and in the status word (R407, R420). -/
def State.hostLine (s : State) (b : Fin 2) (l : Nat) (ecc : Nat × Bool) : State :=
  let k := l % 65536 / 128
  let s := s.setReg Reg.FLASH_LASTREAD (s.lineWord l ecc)
  let s := (s.setFld (flashStatus b) 23 20 ecc.1).setFld (flashStatus b) 19 19 (b2n ecc.2)
  if s.isSuspect b k then s.statusBit b 25 else s

/-- R405, R406: the status word where the bank is busy or in status mode or the read touches the sector of a suspended erase;
otherwise array data with its ECC report. The spec does not say where the safety part of a firmware slot ends, which R13 keeps from
BAR2: the whole slot is read. Log entry 88 (DESIGN CHOICE). -/
def execBar2Read (addr : BitVec 22) (len : BitVec 13) (errs : List LineErr) (s : State) : Out :=
  let a := addr.toNat
  let n := len.toNat
  if !s.bar2Open || n = 0 || 4096 < n || a / 0x200000 ≠ (a + n - 1) / 0x200000 then .next s
  else
    let b : Fin 2 := Fin.ofNat 2 (a / 0x200000)
    let x := s.flash.bank[b]
    let held := x.st = .suspended && decide (a % 0x200000 / 0x1000 ≤ x.sector) &&
      decide (x.sector ≤ (a + n - 1) % 0x200000 / 0x1000)
    if x.busy || x.statusMode || held then
      .next { s with rdata := ((List.replicate 1025 (image (s.statusWord b))).flatten.drop (a % 4)).take n }
    else
      let d := s.flashBytes errs a n
      let last := (a + n - 1) / 32
      let s := (s.linesRead 0 errs a n).hostLine b last (s.lineEcc errs last)
      .next { s with rdata := d }

/-! ### Ends of programs, erases and suspensions (R413, R414, R417) -/

def execProgramDone (bank : Fin 2) (s : State) : Out := .next (s.endProgram bank).kickErases

/-- R413 steps 3 and 4, or the second verify failure. -/
def execEraseDone (bank : Fin 2) (ok : Bool) (s : State) : Out :=
  let x := s.flash.bank[bank]
  if x.st ≠ .erase then .next s
  else
    let g := bank.val * 512 + x.sector
    let was := s.isSuspect bank x.sector
    let s := s.modBank bank fun x => { x with st := .idle, suspect := setBit512 x.suspect x.sector (!ok) }
    let s :=
      if ok then
        let s := (s.clearSector g).mark bank true x.sector
        let s := if was then s.postSuspect 4 bank x.sector else s
        if x.use = .journal then s.modJrn fun j => { j with ahead := min 3 (j.ahead + 1) } else s
      else
        let s := s.scrambleSector g
        let s := if x.use = .host then s.statusBit bank 27 else s
        (s.postSuspect 3 bank x.sector).eraseFailed bank x.sector
    .next (s.stageErased g x.use ok).kickErases

def execSuspendDone (bank : Fin 2) (s : State) : Out :=
  .next (if (s.flash.bank[bank]).st = .suspending then s.modBank bank fun x => { x with st := .suspended } else s)

/-- R417: not in Sleep. -/
def execAutoResume (bank : Fin 2) (s : State) : Out :=
  .next (if (s.flash.bank[bank]).st = .suspended && !s.asleep then s.modBank bank fun x => { x with st := .erase } else s)

/-! ### The journal, ECC and counters -/

def execJournalAppend (s : State) : Out := .next s.jrnAppend

/-- R420: failure 0x14, class S, with the early warning of R421 for the agent processor fetch. -/
def execUncorrectableFetch (line : BitVec 17) (s : State) : Out :=
  let l := line.toNat
  .next (if s.live && !s.asleep then (s.lineRead 4 l (0, true)).classS 0x14 (l / 65536 * 512 + l % 65536 / 128) 0 else s)

/-- R421: the oldest entry is returned and leaves the FIFO. -/
def State.readWeakFifo (s : State) : State × Word :=
  ({ s with flash.fifo := s.flash.fifo.drop 1 }, s.flash.fifo.headD 0)

/-- FLASH.CNT_CLR (R435). -/
def State.flashCntClr (s : State) (v : Word) : State :=
  s.clearBy v [(0, Reg.FLASH_ECC_CNT, 15, 0), (1, Reg.FLASH_ECC_CNT, 31, 16)]

end Sys2Proof.Machine
end

