-- ==== Sys2Proof/Machine/TimeLeash.lean ====
section
/-!
DEFINITION. Platform-time reads, PTM dialogues, and the Leash (03_time_and_leash.md).
-/

namespace Sys2Proof.Machine

/-! ### Latching reads (R65) -/

/-- A read of TIME.PT_LO latches PT[63:32]. -/
def State.readPtLo (s : State) : State × Word :=
  let p := s.ptNow
  ({ s with time.ptHi := (p >>> 32).setWidth 32 }, p.setWidth 32)

/-- A read of TIME.KTICK_LO latches the tick counter's bits 47:32. -/
def State.readKtickLo (s : State) : State × Word :=
  let k := s.time.ktick
  ({ s with time.ktickHi := (k >>> 32).setWidth 32 }, k.setWidth 32)

/-! ### The clocks (R10, R28, R63, R68) -/

/-- One PT unit against the Kennel clock: 46,875 / 16 units make one Kennel tick. Log entry 1 (DESIGN CHOICE). -/
def State.countUnit (s : State) : State :=
  let p := s.time.kphase + 16
  let s : State := { s with time.pt := s.time.pt + 1 }
  if p < 46875 then { s with time.kphase := p }
  else { s with time.kphase := p - 46875, time.ktick := s.time.ktick + 1 }

/-- RST_OUT_N is released 1 ms after its latest assertion, where the point that releases it came before (R58).
Log entry 75 (DEDUCED). -/
def State.rstOutTimer (s : State) : State :=
  if s.dev.rstOutDue && !s.rstOutHeld then { s with dev.rstOutLow := false, dev.rstOutDue := false } else s

/-- What time alone does: one unit of platform time while the time base runs, one Kennel tick while it is stopped in a sleep, and
the release of RST_OUT_N and the change of FMOD at a period boundary; in a reset, the end of the fabric cycle that began it (log entries 1, 82). Everything else that time
brings about has a row of its own. Log entry 1 (DESIGN CHOICE). -/
def State.tick (s : State) : State :=
  if !s.live then { s with dev.resetNow := false }
  else if s.asleep then { s with time.ktick := s.time.ktick + 1 }
  else s.countUnit.rstOutTimer.modTimer

/-! ### PTM (R70 to R73) -/

/-- The 64-bit number that two registers hold. -/
def State.reg64 (s : State) (lo hi : Nat) : BitVec 64 := (s.reg hi).setWidth 64 <<< 32 ||| (s.reg lo).setWidth 64

/-- PTM_RATE in ppb from this dialogue and the previous one (R71): the deviation of the host's ns from the PT units at 1000 / 96 ns
each, as R74 uses it. Where no earlier dialogue stands, or no PT has passed since it, R71 states no value: a free one.
Log entry 83 (DESIGN CHOICE). -/
def State.ptmRate (s : State) (x : PtmSample) : State × Word :=
  let d := (x.pt - s.reg64 Reg.TIME_PTM_PT_LO Reg.TIME_PTM_PT_HI).toInt
  let h := (x.host - s.reg64 Reg.TIME_PTM_HOST_LO Reg.TIME_PTM_HOST_HI).toInt
  if s.time.ptmDone = 0 || d = 0 then (s.draw, BitVec.ofNat 32 s.freeVal)
  else
    let (s, r) := s.roundFrac ((96 * h - 1000 * d) * 1000000) d
    (s, BitVec.ofInt 32 r)

/-- A dialogue's results are written between the two increments of PTM_SEQ. -/
def State.ptmWrite (s : State) (x : PtmSample) : State :=
  let (s, rate) := s.ptmRate x
  let s := s.setReg Reg.TIME_PTM_SEQ (s.reg Reg.TIME_PTM_SEQ + 2)
  let s := (s.setReg Reg.TIME_PTM_PT_LO (x.pt.setWidth 32)).setReg Reg.TIME_PTM_PT_HI ((x.pt >>> 32).setWidth 32)
  let s := (s.setReg Reg.TIME_PTM_HOST_LO (x.host.setWidth 32)).setReg Reg.TIME_PTM_HOST_HI ((x.host >>> 32).setWidth 32)
  let s := (s.setReg Reg.TIME_PTM_DELAY x.delay).setReg Reg.TIME_PTM_RATE rate
  let s : State := { s with time.ptmDue := false, time.ptmDone := s.time.ptmDone + 1 }
  if 2 ≤ s.time.ptmDone then s.setFlag Reg.TIME_STATUS 5 true else s

/-- A dialogue falls due: it runs in L0, and waits for L0 otherwise. -/
def execPtmDialogue (inL0 : Bool) (sample : PtmSample) (s : State) : Out :=
  .next (if s.live && s.ring.pcie.ptmEn && s.fullService && s.ring.linkUp && !s.asleep && s.pmc.state ≠ .waking then
      if inL0 then s.ptmWrite sample else { s with time.ptmDue := true }
    else s)

/-! ### The Leash (R79 to R83) -/

/-- TEST_EN is high: the Debug activity has its budget, and DBGCLK and DBGDIO are active (R59, R84). -/
def State.testEn (s : State) : Bool := s.flag Reg.DEV_STRAP 1

/-- The guarantee of activity `a` + 1 in force: none in a partial frame, and none for Debug without TEST_EN (R79, R84). -/
def State.leashGuar (s : State) (a : Fin 10) : Nat :=
  if s.leash.partialFrame || (a = 9 && !s.testEn) then 0 else s.fld (Reg.TIME_LEASH_GUAR a) 16 0

/-- The ceiling of activity `a` + 1 in force (R80, R84). -/
def State.leashCeil (s : State) (a : Fin 10) : Nat :=
  if a = 9 && !s.testEn then 0 else s.fld (Reg.TIME_LEASH_CEIL a) 16 0

/-- The activity that the fabric grants its next cycle (R80): of those that request it, the first below its guarantee, else in
round robin after the last one granted the next below its ceiling, else none. -/
def State.leashGrant (s : State) (req : BitVec 10) (count : Vector Nat 10) (last : Fin 10) : Option (Fin 10) :=
  match (List.finRange 10).find? fun (a : Fin 10) => req.getLsbD a && decide (count[a] < s.leashGuar a) with
  | some a => some a
  | none => ((List.range 10).map fun i => Fin.ofNat 10 (last.val + 1 + i)).find? fun (a : Fin 10) =>
      req.getLsbD a && decide (count[a] < s.leashCeil a)

/-- The cycles granted to activity `a` + 1 in a frame (R81): one that was held has reached its ceiling, and passes it by at most
the 15 further cycles of a transfer already granted; one that was not held stays below it. `u` is what it would have used.
Log entry 44 (DEDUCED). -/
def State.leashUsed (s : State) (a : Fin 10) (u : Nat) : Nat :=
  let c := s.leashCeil a
  if s.flag Reg.TIME_LEASH_HELD a then max c (min u (c + 15)) else min u (c - 1)

/-- TIME.LEASH_HELD bit of activity `a` + 1. -/
def State.setHeld (s : State) (a : Fin 10) : State := s.setFlag Reg.TIME_LEASH_HELD a true

/-- Debug without its budget requests nothing and is held by nothing (R27, R84). Log entry 44 (DEDUCED). -/
def execLeashCeilingReached (a : Fin 10) (requestPending : Bool) (s : State) : Out :=
  .next (if s.live && !s.asleep && (a ≠ 9 || s.testEn) then
      let s := s.setHeld a
      if requestPending then { s with leash.heldPending := s.leash.heldPending ||| BitVec.ofNat 10 (2 ^ a.val) } else s
    else s)

/-- BUDGET_OVERRUN (R83). Log entry 44 (DEDUCED). -/
def State.postOverrun (s : State) (a : Fin 10) : State :=
  s.post 0x74 ([BitVec.ofNat 8 (a.val + 1), BitVec.ofNat 8 (b2n (s.flag Reg.TIME_STATUS 2))] ++
    leBytes 2 (s.fld (Reg.TIME_LEASH_OVR a) 15 0) ++ leBytes 2 (satN 16 s.leash.heldFrames[a]) ++ [0, 0])

/-- No BUDGET_OVERRUN of the activity came in the last second. -/
def State.overrunDue (s : State) (a : Fin 10) : Bool :=
  match s.leash.lastPost[a] with
  | none => true
  | some p => decide (96000000 ≤ s.since p)

/-- One activity at the end of a frame in which it was held with a request pending (R82). Log entry 44 (DEDUCED). -/
def State.overrun (s : State) (a : Fin 10) : State :=
  let s := s.inc (Reg.TIME_LEASH_OVR a) 15 0
  let s : State := { s with leash.heldFrames := s.leash.heldFrames.set a (s.leash.heldFrames[a] + 1) }
  if s.overrunDue a then
    let s := s.postOverrun a
    { s with leash.lastPost := s.leash.lastPost.set a (some s.time.pt), leash.heldFrames := s.leash.heldFrames.set a 0 }
  else s

/-- The overruns of the frame that ends, at a frame boundary or at the entry edge of a sleep (R82). -/
def State.closeOverruns (s : State) : State :=
  let s := (List.finRange 10).foldl (fun s (a : Fin 10) =>
    if s.leash.heldPending.getLsbD a then s.overrun a else s) s
  { s with leash.heldPending := 0 }

/-- A frame boundary: the counts of the frame that ends, where it is complete, its overruns, the sample kept for the Sheepdog pair (R147 (b)) and
the staged power-fail record (R226). Log entry 44 (DEDUCED). -/
def State.frameEnd (s : State) (used : Vector (BitVec 17) 10) : State :=
  let s := if s.leash.partialFrame then s
    else (List.finRange 10).foldl (fun s (a : Fin 10) =>
      s.setReg (Reg.TIME_LEASH_USED a) (BitVec.ofNat 32 (s.leashUsed a (used[a]).toNat))) s
  let s := s.closeOverruns.setReg Reg.TIME_LEASH_HELD 0
  let s : State := { s with leash.partialFrame := false, hedge.snap := some s.hedge.last }
  s.stageRecord

/-- The encoder positions are compared with their shadow decoders' (R489 (c)). -/
def State.shadowCheck (s : State) (shadow : BitVec 4) : State :=
  (List.range 4).foldl (fun s n => if shadow.getLsbD n then s.testFails 12 { index := BitVec.ofNat 16 n, detail := 0 } else s) s

def execLeashFrameBoundary (x : FrameUse) (s : State) : Out :=
  .next (if s.live && !s.asleep then (s.frameEnd x.used).shadowCheck x.shadow else s)

/-- TIME.LEASH_CLR (R82). -/
def State.leashClr (s : State) (v : Word) : State :=
  s.clearBy v ((List.range 10).map fun a => (a, Reg.TIME_LEASH_OVR a, 15, 0))

end Sys2Proof.Machine
end

