-- ==== Sys2Proof/Machine/Power.lean ====
section
/-!
DEFINITION. Power states and wake: requests, the quiesce handshake, entry and wake, Off, the host link across a sleep, and
accesses to gated blocks (18_power_states.md).
-/

namespace Sys2Proof.Machine

/-! ### Requests (R457, R541) -/

/-- Some wake source counts as armed for Sleep (2) or Deep sleep (3) (R541). -/
def State.wakeArmed (s : State) (target : Nat) (alarm : Word) : Bool :=
  let en (b : Nat) : Bool := s.flag Reg.PMC_WAKE_EN b
  en 0 || en 1 || en 2 || en 5 || en 6 ||
  (en 3 && (List.range 4).any fun n => s.fld (Reg.MOTION_ENC_WAKE n) 15 0 ≠ 0) ||
  (en 7 && decide (target = 2)) || (en 10 && s.herdOn) || decide (alarm ≠ 0) || decide (s.reg Reg.BATT_LP_WAKE ≠ 0)

/-- The BAD_PARAM condition of R457. Log entry 48 (DEDUCED). -/
def State.powerBad (s : State) (target : Nat) (alarm : Word) : Bool :=
  let d := alarm - BitVec.ofNat 32 (s.time.ktick.toNat / 32768)
  decide (4 < target) ||
    (alarm ≠ 0 && (target < 2 || target = 4 || d = 0 || decide (2 ^ 31 ≤ d.toNat)))

/-- POWER_STATE at the present moment with the ALARM flag as it stands. Log entry 49 (DEDUCED). -/
def State.postPowerNow (s : State) (kind target src : Nat) (noChange : Bool) : State :=
  s.postPower kind target src 0 0 (b2n noChange + 2 * b2n (s.flag Reg.PMC_STATUS 8)) 0 s.ptNow

/-- PMC.ALARM takes a value; 0 disarms it. Log entry 49 (DEDUCED). -/
def State.armAlarm (s : State) (alarm : Word) : State :=
  (s.setReg Reg.PMC_ALARM alarm).setFlag Reg.PMC_STATUS 8 (decide (alarm ≠ 0))

/-- Blocks that R459 does not list answer ACK at once; SUP and BATT join them except for Off. -/
def ackAtOnce (target : Nat) (b : Nat) : Bool :=
  [0x1, 0x2, 0x4, 0xA, 0xC, 0xE].contains b || (decide (target ≠ 4) && [0x7, 0x8].contains b)

/-- The quiesce request goes to every block (R458 (a)); the BIST engine pauses with it (R482). -/
def State.beginHandshake (s : State) (target : Nat) : State :=
  let s := s.setFld Reg.PMC_STATUS 7 4 target
  { s with pmc.base := s.powerCode, pmc.state := .quiesce, pmc.hsStart := s.time.pt, pmc.kind5 := false, pmc.late := false,
           pmc.answers := Vector.ofFn fun b => if ackAtOnce target b.val then .ack else .none
           bist.paused := true }

/-- The outcomes of R457 after BAD_PARAM and NOT_IN_STATE. Log entry 48 (DEDUCED). -/
def State.requestPower (s : State) (target : Nat) (alarm : Word) : State × Option Reply :=
  if (target = 2 || target = 3) && !s.wakeArmed target alarm then (s, reply Status.REFUSED)
  else if target = s.powerCode then (s.postPowerNow 1 target s.powerCode true, reply Status.OK)
  else
    let src := s.powerCode
    let s := if 2 ≤ target then s.armAlarm alarm else s
    let s := (s.abortEntry [(1, 0x10)]).postPowerNow 1 target src false
    if target < 2 then
      let s : State := { s with pmc.state := if target = 1 then .idle else .run, pmc.base := target }
      (s.postPowerNow 3 target src false, reply Status.OK)
    else (s.beginHandshake target, reply Status.OK)

/-- A request that arrives in a sleep or in `WAKING` waits for the first decision point after the wake.
Log entry 53 (DEDUCED). -/
def execPowerStateRequest (r : Req) (target : Byte) (alarm : Word) (s : State) : Out :=
  .next (if s.inSleepOrWake then s.awaitTurn r 0x70
    else s.command r 0x70 (s.powerBad target.toNat alarm) fun s => s.requestPower target.toNat alarm)

/-! ### Quiesce answers (R459, R460) -/

/-- What a block answers now. -/
inductive QNew where
  | ack
  | wait
  | nack (reason : Nat)
deriving DecidableEq, Repr

/-- NACK with the reason where the condition holds, else the rest. -/
def nackIf (c : Bool) (reason : Nat) (rest : QNew) : QNew := if c then .nack reason else rest

/-- The endpoint (R460). Log entry 52 (DEDUCED). -/
def State.linkAnswer (s : State) (target : Nat) : QNew :=
  let r := s.ring
  if !r.linkUp || !r.perstHigh then .ack
  else if target = 2 then nackIf (!r.d3hot && !r.pcie.aspmL12) 0x0C .ack
  else if s.pmc.l23 then .ack else .wait

/-- A watched sense line reads low with the drive lines driven (R107). Log entry 50 (DEDUCED). -/
def State.keyHeld (s : State) : Bool :=
  (List.range 16).any fun d => ((List.range 16).any fun k => s.keyWake (16 * d + k)) &&
    (List.range 16).any fun k => s.ksWatched k && (s.keys.prev.getD d 0).getLsbD k

/-- The sequencer and the Herd line interface (R193, R242). -/
def State.seqAnswer (s : State) (target : Nat) : QNew :=
  let busy := [SeqState.powerUp, .powerDown, .startAbort, .cut, .vinDown, .rest].contains s.seq.st ||
    decide (s.seq.slot ≠ 0) || decide (s.railsIn [.wait, .ramp, .settle, .discharge] ≠ 0)
  nackIf busy 0x03 (nackIf (decide (3 ≤ target) && decide (s.railsOn ≠ 0)) 0x04
    (nackIf (decide (s.herd.st ≠ .herdOff) && decide (s.herd.st ≠ .disabled)) 0x05 .ack))

/-- The fabric owes the journal a record that satisfies `p`. -/
def State.owesJournal (s : State) (p : EvRec → Bool) : Bool :=
  (s.fabric.ingress ++ s.fabric.held).any fun r => r.todo.getLsbD 36 && p r.ev

/-- The flash controller; for Off it waits for the record of kind 5 too (R419, R469 (a)). -/
def State.flashAnswer (s : State) (target : Nat) : QNew :=
  let b := s.flash.bank
  nackIf (b[0].busy || b[1].busy) 0x0A
    (nackIf (decide (3 ≤ target) && (decide (b[0].st = .suspended) || decide (b[1].st = .suspended))) 0x0B
      (if s.owesJournal (fun _ => true) || (decide (target = 4) && !s.pmc.kind5) then .wait else .ack))

/-- The ring engine, as far as it answers without doze entry (R353). Log entry 17 (DEDUCED). -/
def State.ringAnswer (s : State) : QNew :=
  nackIf (!s.dozeAllowed) 0x08
    (if s.ring.engine = .polling && !s.frozen then .nack 0x08 else if s.ring.engine = .dozeEntry then .wait else .ack)

/-- The answer of block `b` from its present condition. Log entry 50 (DEDUCED). -/
def State.blockAnswer (s : State) (target b : Nat) : QNew :=
  match b with
  | 0x0 => s.linkAnswer target
  | 0x3 => nackIf (decide (target = 3) && s.keyHeld) 0x01 .ack
  | 0x5 => nackIf (s.hedge.run.toList.any fun r => r.arm.isSome) 0x02 .ack
  | 0x6 => s.seqAnswer target
  | 0x7 => if target = 4 && s.owesJournal (fun e => e.jtype = 7 || e.jtype = 8) then .wait else .ack
  | 0x8 => if target = 4 && s.owesJournal (fun e => e.jtype = 9) then .wait else .ack
  | 0x9 => nackIf (!s.m0Quiet) 0x06 (nackIf ((List.finRange 3).any fun (n : Fin 3) => !s.fanQuiet n) 0x07 .ack)
  | 0xB => s.ringAnswer
  | 0xD => s.flashAnswer target
  | 0xF => nackIf (s.mbox.csLow || s.mbox.port.toList.any fun q => decide (q.state = .busy)) 0x09 .ack
  | _ => .ack

/-! ### The handshake (R458, R461, R469) -/

/-- Entry to Off at commit: every supply but the VIN domain's stops, and the wake-source byte says so (R469 (b), (c)). -/
def State.enterOff (s : State) : State :=
  let s := s.cleared Cause.por
  { s with pmc.state := .off, pmc.offByte := 2, dev.regsGood := false }

/-- Commit (R461 steps 1 and 2). -/
def State.commitEntry (s : State) : State :=
  let target := s.qTarget
  let s := s.inc Reg.PMC_CNT 15 0
  if target = 4 then s.enterOff
  else
    let s := ((s.setFld Reg.PMC_WAKE_SRC 31 16 0).setFlag Reg.PMC_WAKE_SRC 8 false).setFlag Reg.MBOX_LINK_STATUS 8 false
    let s : State := { s with pmc.state := if target = 2 then .sleep else .deepSleep, pmc.slept := target, pmc.fired := []
                              pmc.detail := 0, pmc.perstLatched := false, pmc.perstFlag := false, pmc.nudgeHeld := false
                              pmc.pmeSent := false, pmc.late := false, hedge.sleepHold := true
                              hedge.run := s.hedge.run.map fun x => { x with arm := none } }
    s.applyActions

/-- Blocks at ACK whose condition fails now, with their reasons: they withdraw it before commit (R461). -/
def State.withdrawn (s : State) : List (Fin 16 × Nat) :=
  (List.finRange 16).filterMap fun (b : Fin 16) =>
    match s.pmc.answers[b], s.blockAnswer s.qTarget b with
    | .ack, .nack reason => some (b, reason)
    | _, _ => none

/-- After an ACK: with every block but FLASH at ACK a handshake for Off posts kind 5; with every block at ACK the entry
commits, unless the condition of one fails by then. -/
def State.checkCommit (s : State) : State :=
  let others := (List.finRange 16).all fun (b : Fin 16) => b.val = 0xD || decide (s.pmc.answers[b] = .ack)
  if !others then s
  else if !s.withdrawn.isEmpty then s.abortEntry (s.withdrawn.take 1)
  else if s.pmc.answers[(13 : Fin 16)] = .ack then s.commitEntry
  else if s.qTarget = 4 && !s.pmc.kind5 then
    ({ s with pmc.kind5 := true }).postPowerNow 5 4 s.pmc.base false
  else s

/-- The answer of a block is recorded. Log entry 28 (DEDUCED). -/
def State.setAnswer (s : State) (b : Fin 16) (a : QAnswer) : State := { s with pmc.answers := s.pmc.answers.set b a }

/-- What a block does for the handshake before its first answer: SUP and BATT take their snapshots for Off, and a polling
engine begins doze entry (R218 (c), R273, R353). -/
def State.prepareBlock (s : State) (b : Fin 16) : State :=
  if s.pmc.answers[b] ≠ .none then s
  else if b.val = 0x7 && s.qTarget = 4 then s.snapshot 3
  else if b.val = 0x8 && s.qTarget = 4 then s.gaugeSnap
  else if b.val = 0xB && s.dozeAllowed && !s.frozen && (s.ring.engine = .polling || s.ring.engine = .dozeEntry) then
    let s : State := if s.ring.engine = .polling then s.dozeStep1 else s
    s.setAnswer b .asked
  else s

/-- The block has given no answer within 100 µs of the request (R458 (d)). -/
def State.answerMissing (s : State) (b : Fin 16) : Bool :=
  (s.pmc.answers[b] = .none || s.pmc.answers[b] = .asked) && decide (us 100 < s.since s.pmc.hsStart)

/-- An answer within a running handshake, NO_ANSWER where it comes too late: ACK, WAIT, a NACK, or an ACK withdrawn by a NACK. A ring engine still in doze entry
has not answered yet. -/
def State.answerNow (s : State) (b : Fin 16) : State :=
  if s.answerMissing b then s.abortEntry [(b, 0x0D)]
  else
  let s := s.prepareBlock b
  match s.blockAnswer s.qTarget b with
  | .nack reason => s.abortEntry [(b, reason)]
  | .wait => if b.val = 0xB || s.pmc.answers[b] = .ack then s else s.setAnswer b .wait
  | .ack => (s.setAnswer b .ack).checkCommit

/-- After an abort a block that refuses within its 100 µs is recorded as well. Log entry 28 (DEDUCED). -/
def State.answerLate (s : State) (b : Fin 16) : State :=
  if s.pmc.late && decide (s.since s.pmc.hsStart ≤ us 100) then
    match s.blockAnswer s.qTarget b with
    | .nack reason => s.logRefusal b reason
    | _ => s
  else s

def State.quiesceAnswer (s : State) (b : Fin 16) : State :=
  match s.pmc.state with
  | .quiesce => s.answerNow b
  | .run => s.answerLate b
  | .idle => s.answerLate b
  | _ => s

def execQuiesceAnswer (block : Fin 16) (s : State) : Out := .next (if s.live then s.quiesceAnswer block else s)

def execQuiesceNoAnswer (block : Fin 16) (s : State) : Out :=
  .next (if s.live && s.answerMissing block then s.abortEntry [(block, 0x0D)] else s)

/-- Blocks that hold the entry up at HS_LIMIT: one still at WAIT overruns, one that never answered has given no answer
(R458 (d), (e)). -/
def State.overran (s : State) : List (Fin 16 × Nat) :=
  (List.finRange 16).filterMap fun (b : Fin 16) =>
    match s.pmc.answers[b] with
    | .ack => none
    | .wait => some (b, 0x0E)
    | _ => some (b, 0x0D)

def execHandshakeLimit (s : State) : Out :=
  .next (if s.live && decide (ms (s.fld Reg.PMC_CTRL 9 0) ≤ s.since s.pmc.hsStart) then s.abortEntry s.overran else s)

/-! ### Entry (R461 steps 3 to 5, R68) -/

/-- The record that a destination is owed first is delivered, or dropped on a frozen ring. Log entry 54 (DEDUCED). -/
def State.drainOne (s : State) (d : Nat) : State :=
  if h : d < 32 then
    let c : Fin 32 := ⟨d, h⟩
    match s.fabric.oldest d with
    | none => s
    | some _ => if s.frozen then (s.ringLose c 1 2).served d else s.offerCtx c (s.ring.ctx[c]).hostHead
  else if h : d < 36 then s.offerPort ⟨d - 32, by omega⟩
  else s.jrnAppend

/-- The fabric delivers or drops every record (R26). Log entry 54 (DEDUCED). -/
def State.drainFabric (s : State) : State :=
  let s : State := { s with fabric.ingress := s.fabric.ingress ++ s.fabric.held, fabric.held := [] }
  let n := s.fabric.ingress.length
  (List.range 37).foldl (fun s d => (List.range n).foldl (fun s _ => s.drainOne d) s) s

/-- The entry edge: the time base stops and the clocks hand over. Log entry 54 (DEDUCED). -/
def State.entryEdge (s : State) (lpoPpm : Int) : State :=
  let s := s.closeOverruns.drainFabric
  let xoKept := s.flag Reg.PMC_CTRL 16 && s.inSleep
  let s : State := { s with
    fabric.holding := true
    time.ptEntry := s.time.pt, time.entryTick := s.time.ktick, time.kphase := 0, time.src := .kennel
    time.xoLast := (match s.time.xoSince with
      | some a => some (a, s.time.pt)
      | none => s.time.xoLast)
    time.xoSince := none
    batt.lpoEntry := lpoPpm
    pmc.xoFailBefore := s.clockFailed
    pmc.xoStopped := s.dev.xoOn && !xoKept
    dev.xoGood := s.dev.xoGood && xoKept, dev.xoOn := s.dev.xoOn && xoKept, dev.pllLocked := false
    ring.linkUp := s.ring.linkUp && s.inSleep }
  ((s.setFlag Reg.HEDGE_HB_STATUS 16 false).keysSleep.motionSleep.fansSleep).setFmod

def execEntryEdge (lpoPpm : Word) (s : State) : Out :=
  .next (if s.live && (s.inSleep || s.inDeepSleep) && !s.asleep then s.entryEdge lpoPpm.toInt else s)

/-! ### Wake sources (R463 to R465, R398) -/

def execLinkL23Ready (s : State) : Out :=
  .next (if s.live && s.ring.linkUp then
      let s : State := { s with pmc.l23 := true }
      if s.pmc.state = .quiesce && s.pmc.answers[(0 : Fin 16)] = .wait then s.quiesceAnswer 0 else s
    else s)

def execWakePinAssert (s : State) : Out := .next (if s.live then s.wakeDetect 0x01 else s)

/-- DOCK after HEDGE.CTRL.DOCK_POL; a change to inactive only with DOCK_EDGE (R464). -/
def execDockWake (level : Bool) (s : State) : Out :=
  .next (if s.live && ((level != s.flag Reg.HEDGE_CTRL 1) || s.flag Reg.PMC_WAKE_CFG 9) then s.wakeDetect 0x06 else s)

/-- TIME.KSEC, whole seconds of the Kennel tick counter. -/
def State.kennelSec (s : State) : Word := BitVec.ofNat 32 (s.time.ktick.toNat / 32768)

/-- The alarm disarms when it fires. -/
def execAlarmMatch (s : State) : Out :=
  .next (if s.live && s.flag Reg.PMC_STATUS 8 && s.kennelSec = s.reg Reg.PMC_ALARM then (s.armAlarm 0).wakeFire 0x05 0 else s)

def execLinkActivityWake (s : State) : Out :=
  .next (if s.live && !s.inDeepSleep && s.ring.linkUp then s.wakeDetect 0x08 else s)

def execMailboxWake (byCs : Bool) (s : State) : Out :=
  .next (if s.live then
      let s : State := if byCs then { s with mbox.csLow := true, mbox.discard := s.mbox.discard || s.inSleepOrWake } else s
      s.wakeDetect 0x07
    else s)

/-- The ports answer from 100 µs after the wake event. Log entry 41 (DEDUCED). -/
def execMailboxReady (s : State) : Out :=
  .next (if s.live && !s.asleep && s.dev.stage ≠ .boot && !s.inSleep && !s.inDeepSleep then s.setFlag Reg.MBOX_LINK_STATUS 8 true
    else s)

/-! ### The wake order (R466 to R468) -/

/-- Source `a` fired earlier than `b`, or at the same tick with a lower code. -/
def firesBefore (a b : Time × Nat × Nat) : Bool :=
  a.1.toNat < b.1.toNat || (a.1 = b.1 && a.2.1 < b.2.1)

/-- The first wake event after entry; it is put at the head of the sources held. Log entry 23 (DEDUCED). -/
def State.wakeEvent (s : State) : State :=
  match s.pmc.fired with
  | [] => s
  | x :: xs =>
    let w := xs.foldl (fun a b => if firesBefore b a then b else a) x
    let s : State := { s with pmc.state := .waking, pmc.detail := w.2.2, pmc.fired := w :: (x :: xs).filter (· ≠ w) }
    ((s.setFld Reg.PMC_WAKE_SRC 7 0 w.2.1).setReg Reg.PMC_WAKE_PT_LO (w.1.setWidth 32)).setReg Reg.PMC_WAKE_PT_HI
      ((w.1 >>> 32).setWidth 32)

def execWakeEvent (s : State) : Out := .next (if s.live && (s.inSleep || s.inDeepSleep) && s.asleep then s.wakeEvent else s)

/-- Step 4 for the host link: a latched PERST_N, the retraining, PEWAKE_N and PME (R468 (a) to (c)).
Log entry 52 (DEDUCED). -/
def State.wakeLink (s : State) : State :=
  let s : State := if s.pmc.perstLatched then { s.perstReset with pmc.perstLatched := false, pmc.perstFlag := true, pmc.l23 := false }
    else s
  let r := s.ring
  let low := r.pcie.pmeEn && ((r.d3hot && !r.linkUp) || !r.perstHigh)
  { s with pmc.pewakeLow := low, pmc.pmeSent := r.pcie.pmeEn && r.d3hot && r.linkUp
           ring.linkUp := r.linkUp || (r.perstHigh && !low) }

/-- The restart edge (R68): platform time restarts on FIRC in a new frame, in which no activity is held (R79, R81), and every block
resumes. Log entry 52 (DEDUCED). -/
def State.restartEdge (s : State) (herdLow : Bool) : State :=
  let n := s.sleepTicks
  let (p, frac) := ptAdvance s.time.ptEntry (s.fld Reg.TIME_STATUS 11 8) n
  let slept := p - s.time.ptEntry
  let s := ((s.setFld Reg.TIME_STATUS 11 8 frac).setReg Reg.TIME_SLEEP_TICKS_LO (BitVec.ofNat 32 n)).setReg
    Reg.TIME_SLEEP_TICKS_HI (BitVec.ofNat 32 (n / 2 ^ 32))
  let s := (s.setFlag Reg.TIME_STATUS 2 true).setFlag Reg.BATT_GAUGE_STATUS 4 true
  let s := s.setReg Reg.TIME_LEASH_HELD 0
  let s : State := { s with
    time.pt := p, time.src := .firc, leash.partialFrame := true, pmc.restartPt := p
    dev.xoOn := s.dev.xoOn || (s.pmc.xoStopped && !s.pmc.xoFailBefore), dev.pllTries := 0
    bist.paused := false, bist.cyclePt := s.bist.cyclePt + slept }
  (((s.wakeLink.keysResume.motionResume).herdResume herdLow).thermResume).emptyFilters

def execRestartEdge (kedges : Vector (BitVec 16) 4) (herdLow : Bool) (s : State) : Out :=
  .next (if s.live && s.pmc.state = .waking && s.asleep then (s.lateEdges kedges).restartEdge herdLow else s)

/-- The next record on every stream is the first after a wake (R75 (b)). Log entry 47 (DEDUCED). -/
def State.markWake (s : State) : State :=
  { s with ring.ctx := s.ring.ctx.map fun x => { x with strm := { x.strm with afterWake := true } }
           mbox.port := s.mbox.port.map fun q => { q with strm := { q.strm with afterWake := true } } }

/-- The records held since the entry edge are decided. Log entry 27 (DEDUCED). -/
def State.releaseRecords (s : State) : State :=
  let l := s.fabric.waiting
  l.foldl (fun s e => s.offer e) { s with fabric.holding := false, fabric.waiting := [] }

/-- DETAIL of WAKE: after a matrix wake KEYS.WAKE_NODE as it stands, else what the first source gave (R472). -/
def State.wakeDetail (s : State) : Nat :=
  if s.fld Reg.PMC_WAKE_SRC 7 0 = 2 then s.fld Reg.KEYS_WAKE_NODE 15 0 else s.pmc.detail

/-- WAKE record (R472). Log entry 27 (DEDUCED). -/
def State.postWake (s : State) : State :=
  let fl := b2n s.pmc.perstFlag + 2 * b2n (s.pmc.xoStopped && !s.pmc.xoFailBefore) +
    4 * b2n (s.flag Reg.DEV_STAGE 4 && !s.pmc.xoFailBefore)
  s.postRec { typ := 0x51, est := true, alert := false
              pt := BitVec.ofNat 64 ((s.reg Reg.PMC_WAKE_PT_LO).toNat + 2 ^ 32 * (s.reg Reg.PMC_WAKE_PT_HI).toNat)
              payload := padTo 16 ([BitVec.ofNat 8 (s.fld Reg.PMC_WAKE_SRC 7 0), BitVec.ofNat 8 s.pmc.slept] ++
                leBytes 2 (s.fld Reg.PMC_WAKE_SRC 31 16) ++ leBytes 2 s.wakeDetail ++ [BitVec.ofNat 8 fl, 0] ++
                leBytes 8 s.time.pt.toNat) }

/-! ### Accesses to gated blocks (R8, R34, R465, R470) -/

/-- The Plan uses a function of the block that self-test has not marked unusable (R34). Log entry 51 (DEDUCED). -/
def State.blockUsed (s : State) (b : Nat) : Bool :=
  let ok (i : Nat) : Bool := !s.flag Reg.BIST_UNUSABLE i
  let line (i : Nat) : Bool := !s.flag Reg.BIST_UNUSABLE_LINES i
  match b with
  | 0x3 => ((List.range 256).any fun n => s.keyRole n ≠ 0 && line (n / 16) && line (16 + n % 16)) ||
      (List.range 16).any fun n => s.diRole n ≠ 0
  | 0x4 => ((List.range 4).any fun n => s.encOn n && ok (12 + n)) || (List.range 8).any fun n => s.clfRole n ≠ 0 && ok (4 + n)
  | 0x6 => s.railsInUse ≠ 0 || s.herdOn
  | 0x9 => (s.m0Enabled && ok 3) || (List.range 3).any fun n => s.fanOn n && ok n
  | _ => true

/-- Block `b` is gated: in a sleep every block but DEV, PMC and TIME; otherwise an unused block marked so in R34.
Log entry 51 (DEDUCED). -/
def State.blockGated (s : State) (b : Nat) : Bool :=
  if b ≤ 2 then false
  else if s.asleep || s.inSleep || s.inDeepSleep then true
  else [0x3, 0x4, 0x6, 0x7, 0x9].contains b && !(s.dev.planLoaded && s.blockUsed b)

/-- What a read of a gated block returns. -/
def gatedWord (b : Nat) : Word := BitVec.ofNat 32 (0xFA110000 + b)

/-- GATED_ACCESS record of block `b` (R473). -/
def State.postGated (s : State) (b : Fin 16) : State :=
  let g := s.pmc.gated[b]
  match g.first with
  | none => s
  | some (p, kind, off, st) =>
    let s := s.postAt p 0x73 ([BitVec.ofNat 8 b, BitVec.ofNat 8 kind] ++ leBytes 2 off ++ leBytes 2 (satN 16 g.count) ++
      [BitVec.ofNat 8 st, 0])
    { s with pmc.gated := s.pmc.gated.set b { lastPost := some s.time.pt } }

/-- No record of the block came within the last 100 ms, and the controller is awake. Log entry 27 (DEDUCED). -/
def State.gatedDue (s : State) (b : Fin 16) : Bool :=
  !s.inSleepOrWake && (match (s.pmc.gated[b]).lastPost with
    | none => true
    | some p => decide (ms 100 ≤ s.since p))

/-- One access that the block does not answer. -/
def State.gatedAccess (s : State) (b : Fin 16) (off : Nat) (write viaCmd bar2 : Bool) : State :=
  let s := if s.flag Reg.DEV_GATED_ACCESS 31 then s
    else s.setReg Reg.DEV_GATED_ACCESS (pack [(1, 31), (b2n write, 30), (b2n viaCmd, 29), (b2n bar2, 28), (b.val, 24), (off, 0)])
  let s := s.inc Reg.DEV_GATED_CNT 15 0
  let g := s.pmc.gated[b]
  let g : GatedBlk := { g with
    count := g.count + 1
    first := some (g.first.getD (s.ptNow, b2n write + 2 * b2n viaCmd + 4 * b2n bar2, off, s.powerCode)) }
  let s : State := { s with pmc.gated := s.pmc.gated.set b g }
  let s := s.pmcIrq 2
  if s.gatedDue b then s.postGated b else s

/-- A BAR0 access is gated where its block is; a BAR2 access is gated in Sleep (R465). A bus access needs the PCIe function, an
access by command only a live controller. -/
def execGatedRegisterAccess (write viaCmd bar2 : Bool) (addr : BitVec 32) (s : State) : Out :=
  .next (if !s.live || s.inDeepSleep || (!viaCmd && !s.flag Reg.DEV_STAGE 12) then s
    else
      let b : Fin 16 := if bar2 then 0xD else Fin.ofNat 16 (addr.toNat / 4096)
      let off := if bar2 then addr.toNat % 65536 else addr.toNat % 4096
      if (bar2 && s.inSleep) || (!bar2 && s.blockGated b) then
        let s := s.gatedAccess b off write viaCmd bar2
        if write then s else { s with rdata := image (gatedWord b) }
      else s)

def execGatedAccessReport (block : Fin 16) (s : State) : Out :=
  .next (if s.live && s.gatedDue block then s.postGated block else s)

def State.gatedClr (s : State) (v : Word) : State := s.clearBy v [(0, Reg.DEV_GATED_CNT, 15, 0)]

def State.pmcCntClr (s : State) (v : Word) : State := s.clearBy v [(0, Reg.PMC_CNT, 15, 0), (1, Reg.PMC_CNT, 31, 16)]

/-! ### Steps 5 and 6 (R467) -/

/-- Step 5 for the clocks: the switch of R67, unless XO_FAIL or PLL_FAIL leaves the controller on FIRC.
Log entry 47 (DEDUCED). -/
def State.wakeClocks (s : State) (ppm : Int) (ppmWord : Word) : State :=
  if s.dev.stage = .full && !s.clockFailed then
    let s := ((s.toXo ppmWord).applyRaw ppm).setFlag Reg.BATT_GAUGE_STATUS 4 false
    { s with motion.modDue := true }
  else s

/-- What each block does once the controller is in `RUN` again (R350, R353, R465, R470).
Log entry 15 (DEDUCED). Log entry 27 (DEDUCED). -/
def State.afterWake (s : State) : State :=
  let s : State := if s.ring.engine = .dozing then s.enterPolling else s
  let s : State := if s.pmc.nudgeHeld then { s.nudge with pmc.nudgeHeld := false } else s
  let s := (List.finRange 16).foldl (fun s (b : Fin 16) => if s.gatedDue b then s.postGated b else s) s
  s.fansFollow.kickErases

/-- Step 6: held records, the gauge's quantities (R275), WAKE, POWER_STATE of kind 4, `RUN`, and vector 1 for each cause that is set and enabled. -/
def State.wakeDone (s : State) : State :=
  let s := ((s.ptmRestart.markWake.releaseRecords).gaugeRefresh).postWake
  let s := s.pmcIrq 0
  let n := (s.reg Reg.TIME_SLEEP_TICKS_LO).toNat + 2 ^ 32 * s.fld Reg.TIME_SLEEP_TICKS_HI 15 0
  let src := s.pmc.slept
  let s : State := { s with pmc.state := .run, pmc.base := 0 }
  let s := s.postPower 4 0 src 0 0 (2 * b2n (s.flag Reg.PMC_STATUS 8)) n s.pmc.restartPt
  let s := (List.range 3).foldl (fun s b =>
    if s.flag Reg.PMC_IRQ_STATUS b && s.flag Reg.PMC_IRQ_EN b then s.message 1 else s) s
  s.afterWake

/-- The clock switch can be made: the PLL is locked, or the wake stays on FIRC; the Hedge has released its sleep actions. -/
def State.wakeReady (s : State) : Bool :=
  s.pmc.state = .waking && !s.asleep && !s.hedge.sleepHold &&
    (s.dev.stage ≠ .full || s.clockFailed || (s.dev.xoGood && s.dev.pllLocked))

def execWakeClockSwitch (ppm lpoPpm : Word) (s : State) : Out :=
  .next (if s.live && s.wakeReady then ((s.wakeClocks ppm.toInt ppm).applyLp lpoPpm.toInt).wakeDone else s)

/-! ### Off, PERST_N and NUDGE (R357, R468, R469, R352) -/

def execOffExit (hvsel : Bool) (s : State) : Out :=
  .next (if s.dev.powered && s.pmc.state = .off then
      State.coldStart { s with pmc.offByte := s.pmc.offByte ||| 1 } Cause.offExit hvsel
    else s)

/-- A PERST_N assertion in a sleep is latched for step 4 (R468 (a)). Log entry 52 (DEDUCED). -/
def execLinkReset (cause : LinkResetCause) (s : State) : Out :=
  .next (let s : State := if cause = .perst then { s with ring.perstHigh := false } else s
    if !s.live then s
    else if s.asleep || s.inSleep || s.inDeepSleep then
      if cause = .perst then { s with pmc.perstLatched := true } else s
    else if cause = .perst then { s.perstReset with pmc.l23 := false }
    else { s.linkReset with pmc.l23 := false })

/-- PERST_N rises: PEWAKE_N is released, and outside reset and sleep the link trains (R53, R468 (c)).
Log entry 52 (DEDUCED). -/
def execPerstNRise (s : State) : Out :=
  .next { s with ring.perstHigh := true, pmc.pewakeLow := false
                 ring.linkUp := s.ring.linkUp || (s.live && !s.asleep && !s.inSleep && !s.inDeepSleep) }

/-- A write to DEV.NUDGE: it counts, and in a sleep it is held for the wake (R352, R465). Log entry 53 (DEDUCED). -/
def State.writeNudge (s : State) : State :=
  let s := s.inc Reg.DEV_NUDGE_CNT 15 0
  if s.inSleepOrWake then { s with pmc.nudgeHeld := true } else s.nudge

end Sys2Proof.Machine
end

