-- ==== Sys2Proof/Machine/Regs.lean ====
section
/-!
DEFINITION. BAR0 as the host sees it: what each register reads, what a read does, and what a write does, block by block
(the register maps and field tables of every chapter; R7, R8). Registers not named here read as they are stored.
-/

namespace Sys2Proof.Machine

/-- A word whose value is a number. -/
def word (n : Nat) : Word := BitVec.ofNat 32 n

/-- Low and high word of a 64-bit time. -/
def loWord (t : Time) : Word := t.setWidth 32
def hiWord (t : Time) : Word := (t >>> 32).setWidth 32

/-- The index of `a` in an array of registers at `base` with stride `st` and `n` members. -/
def arrayIdx (base st n a : Nat) : Option Nat :=
  if base ≤ a && a < base + st * n && (a - base) % st = 0 then some ((a - base) / st) else none

/-- The first of a list of alternatives that applies. -/
def firstWord (d : Word) (l : List (Option Word)) : Word := (l.findSome? id).getD d

/-- The alternatives for one register and for an array of registers. -/
def one (a b : Nat) (w : Word) : Option Word := if a = b then some w else none
def many {n : Nat} (base st a : Nat) (f : Fin n → Word) : Option Word :=
  match arrayIdx base st n a with
  | some i => if h : i < n then some (f ⟨i, h⟩) else none
  | none => none

/-! ### What registers read -/

/-- DEV (R60, R361, R476). -/
def State.readDev (s : State) (a : Nat) : Word :=
  if a = Reg.DEV_STAGE then s.stageWord
  else if a = Reg.DEV_RING_STATUS then
    pack [(s.ring.engine.code, 0), (b2n s.frozen, 3), (s.ringInflight, 8)]
  else s.reg a

/-- PMC.STATUS shows the state (R475). -/
def State.readPmc (s : State) (a : Nat) : Word :=
  if a = Reg.PMC_STATUS then wset (s.reg a) 3 0 s.pmc.state.code else s.reg a

/-- TIME (R86, R87). -/
def State.readTime (s : State) (a : Nat) : Word :=
  firstWord (s.reg a)
    [one a Reg.TIME_PT_LO (loWord s.ptNow), one a Reg.TIME_PT_HI s.time.ptHi,
     one a Reg.TIME_STATUS (wset (s.reg a) 1 0 s.time.src.code),
     one a Reg.TIME_KTICK_LO (s.time.ktick.setWidth 32), one a Reg.TIME_KTICK_HI s.time.ktickHi,
     one a Reg.TIME_KSEC ((s.time.ktick >>> 15).setWidth 32)]

/-- KEYS.LINE_USE (R88). -/
def State.readKeys (s : State) (a : Nat) : Word :=
  if a = Reg.KEYS_LINE_USE then word (bitsOf 16 (fun d => s.kdUsed d) + 2 ^ 16 * bitsOf 16 fun k => s.ksUsed k) else s.reg a

/-- HEDGE.RULE_STATE of rule `n` (R171): ms left of its arm, rounded up. Log entry 36 (DEDUCED). -/
def State.ruleState (s : State) (n : Fin 32) : Word :=
  let (left, seen) := match (s.hedge.run[n]).arm with
    | some a => ((ms 500 - s.since a.pt + ms 1 - 1) / ms 1, a.seen)
    | none => (0, false)
  pack [(b2n (s.hedge.condHw.getLsbD n), 0), (b2n (s.hedge.latchHw.getLsbD n), 1), (b2n (s.hedge.latchSd.getLsbD n), 2),
    (b2n (s.hedge.run[n]).arm.isSome, 3), (b2n seen, 4), (left, 16)]

/-- HEDGE.RULE_CAUSE word `w` of rule `n` (R154). -/
def State.ruleCause (s : State) (n : Fin 32) (w : Nat) : Word :=
  word128 ((s.hedge.run[n]).causeA ||| (s.hedge.run[n]).causeI) w

/-- Rules armed for release. -/
def State.armedRel (s : State) : Word :=
  word (bitsOf 32 fun n => if h : n < 32 then (s.hedge.run[n]).arm.isSome else false)

/-- HEDGE (R170, R171). -/
def State.readHedge (s : State) (a : Nat) : Word :=
  firstWord (s.setupReg a)
    [one a Reg.HEDGE_STATUS (s.reg a &&& 0x20 ||| pack [(b2n s.hedge.armed, 0), (b2n s.hedge.sleepHold, 6), (b2n s.hedge.bootHold, 7)]),
     one a Reg.HEDGE_ACTIONS (s.actionOutputs.setWidth 32), one a Reg.HEDGE_ACT_HW (s.hedge.actHw.setWidth 32),
     one a Reg.HEDGE_ACT_SD (s.hedge.actSd.setWidth 32), one a Reg.HEDGE_COND_HW s.hedge.condHw,
     one a Reg.HEDGE_COND_SD s.hedge.condSd, one a Reg.HEDGE_LATCHED (s.hedge.latchHw ||| s.hedge.latchSd),
     one a Reg.HEDGE_ARMED_REL s.armedRel, many (n := 4) (Reg.HEDGE_NODE 0) 4 a fun w => word128 s.hedge.nodes w,
     one a Reg.HEDGE_SOFT (s.soft.setWidth 32),
     one a Reg.HEDGE_SSTOP_STATUS (wset (s.reg a) 3 0 (bitsOf 4 fun n => if h : n < 4 then s.sstopLow ⟨n, h⟩ else false)),
     many (n := 4) (Reg.HEDGE_RULE_CAUSE 0) 4 a fun w => s.ruleCause s.windowRule w,
     one a Reg.HEDGE_RULE_STATE (s.ruleState s.windowRule)]

/-- Groups that the Hedge holds, and bit 8 for action 17 (R201). -/
def State.groupHeld (s : State) : Word := word (s.acting.toNat / 512 % 512)

/-- SEQ.REST_LEFT: ms left of t_rest, rounded up. Log entry 36 (DEDUCED). -/
def State.restLeft (s : State) : Word :=
  if s.seq.st = .rest then word (((s.seq.restEnd - s.ptNow).toNat + ms 1 - 1) / ms 1) else 0

/-- SEQ.RAIL_STATUS (R202). -/
def State.railStatus (s : State) (n : Fin 24) : Word :=
  s.reg (Reg.SEQ_RAIL_STATUS n) &&& 0x40 |||
    pack [((s.seq.rail[n]).state.code, 0), (b2n (s.railsInUse.getLsbD n), 5), (b2n ((s.needed s.seq.target).getLsbD n), 7),
      ((s.seq.rail[n]).rank, 8)]

/-- SEQ.HERD_STATUS (R251). -/
def State.herdStatus (s : State) : Word :=
  s.reg Reg.SEQ_HERD_STATUS &&& 0x100000 |||
    pack [(s.herd.st.code, 0), (s.herd.step, 8), (b2n s.herdHolds, 16),
      (b2n (s.herdOn && s.herd.line && !s.herdHolds), 17),
      (b2n s.herdWork, 18), (b2n (s.herdOn && s.herdLead), 19)]

/-- SEQ and the Herd registers (R199 to R203, R250, R251). -/
def State.readSeq (s : State) (a : Nat) : Word :=
  firstWord (s.reg a)
    [one a Reg.SEQ_STATUS s.seqStatus, one a Reg.SEQ_GROUP_TARGET (s.seq.target.setWidth 32),
     one a Reg.SEQ_GROUP_GOOD (s.groupsGood.setWidth 32), one a Reg.SEQ_PENDING (s.seq.slot.setWidth 32),
     one a Reg.SEQ_GROUP_HELD s.groupHeld, one a Reg.SEQ_RAILS_ON (s.railsOn.setWidth 32),
     one a Reg.SEQ_RAILS_GOOD (s.railsGood.setWidth 32), one a Reg.SEQ_REST_LEFT s.restLeft,
     many (n := 24) (Reg.SEQ_RAIL_STATUS 0) 0x20 a fun n => s.railStatus n, one a Reg.SEQ_HERD_STATUS s.herdStatus,
     one a Reg.SEQ_HERD_STEP_PT_LO (loWord s.herd.stepPt), one a Reg.SEQ_HERD_STEP_PT_HI (hiWord s.herd.stepPt)]

/-- SUP.CNT_STATUS shows the snapshot's age (R218 (e)). -/
def State.readSup (s : State) (a : Nat) : Word :=
  if a = Reg.SUP_CNT_STATUS then wset (s.reg a) 15 0 s.snapAge else s.reg a

/-- BATT (R284, R286). -/
def State.readBatt (s : State) (a : Nat) : Word :=
  firstWord (s.reg a)
    [one a Reg.BATT_FET s.fetWord, one a Reg.BATT_ACC_LO (s.batt.acc.setWidth 32), one a Reg.BATT_STATUS s.battStatusWord,
     many (n := 8) (Reg.BATT_CELL 0) 4 a fun k => s.cellWord k, one a Reg.BATT_BAL_STATUS s.balWord]

/-- DRIVE (R308, R309). -/
def State.readDrive (s : State) (a : Nat) : Word :=
  firstWord (s.reg a)
    [one a Reg.DRIVE_M0_STATUS s.m0Status, one a Reg.DRIVE_M0_TARGET s.m0Target,
     many (n := 3) (Reg.DRIVE_FAN_STATUS 0) 0x20 a fun n =>
       wset (wset (s.reg a) 2 0 (s.drive.fan[n]).st.code) 31 24 (s.fanDemand n)]

/-- THERM (R331, R332). -/
def State.readTherm (s : State) (a : Nat) : Word :=
  firstWord (s.reg a)
    [one a Reg.THERM_STATUS s.thermStatus, one a Reg.THERM_DEMAND s.demandWord,
     one a (Reg.THERM_ZONE_STATUS 7) (wset (s.reg a) 20 20 (b2n (s.zoneOn 7 && s.therm.host.isNone))),
     many (n := 3) (Reg.THERM_FAN_FSTATUS 0) 0x10 a fun n =>
       wset (wset (s.reg a) 17 16 (s.drive.fan[n]).seq.code) 20 18 (s.drive.fan[n]).attempt,
     many (n := 3) (Reg.THERM_FAN_OVR 0) 0x10 a fun n => s.ovrWord n]

/-- RING.CTX_STATUS (R363). -/
def State.ctxStatus (s : State) (c : Fin 32) : Word :=
  let x := s.ring.ctx[c]
  pack [(x.state.code, 0), (b2n x.stall, 2), (b2n (x.strm.lost ≠ 0), 3), (s.inflight c, 8), (x.err, 24)]

/-- RING (R362, R363). -/
def State.readRing (s : State) (a : Nat) : Word :=
  firstWord (s.reg a)
    [many (n := 32) (Reg.RING_CTX_STATUS 0) 0x40 a fun c => s.ctxStatus c,
     many (n := 32) (Reg.RING_CTX_POS 0) 0x40 a fun c =>
       pack [(if s.isStream c then 0 else (s.ring.ctx[c]).sqHead, 0), ((s.ring.ctx[c]).devTail, 16)],
     many (n := 32) (Reg.RING_CTX_HOSTPOS 0) 0x40 a fun c =>
       pack [((s.ring.ctx[c]).hostTail, 0), ((s.ring.ctx[c]).hostHead, 16)],
     many (n := 32) (Reg.RING_CTX_SEQ 0) 0x40 a fun c => (s.ring.ctx[c]).strm.seq.setWidth 32]

/-- FLASH.SUSPECT_MAP word `w` (R434). -/
def State.suspectMap (s : State) (w : Fin 32) : Word :=
  word ((s.flash.bank[w.val / 16]'(by omega)).suspect.toNat >>> (32 * (w.val % 16)))

/-- Free entry lines and the half in use of a marker area (R422, R435). -/
def Bank.marker (x : Bank) : Nat := (125 - x.marks.length) + 128 * b2n x.half

/-- FLASH (R434, R435). -/
def State.readFlash (s : State) (a : Nat) : Word :=
  let j := s.flash.jrn
  firstWord (s.reg a)
    [one a Reg.FLASH_STATUS0 (s.statusWord 0), one a Reg.FLASH_STATUS1 (s.statusWord 1),
     one a Reg.FLASH_WEAK_FIFO (s.flash.fifo.headD 0),
     one a Reg.FLASH_WEAK_STATUS (wset (s.reg a) 3 0 s.flash.fifo.length),
     one a Reg.FLASH_SUSPECT_CNT (pack [((s.flash.bank[0]).suspects, 0), ((s.flash.bank[1]).suspects, 16)]),
     one a Reg.FLASH_JOURNAL_HEAD (word j.head), one a Reg.FLASH_JOURNAL_OLDEST (word j.oldest),
     one a Reg.FLASH_JOURNAL_STATUS (pack [(j.sector, 0), (j.ahead, 8),
       (b2n ((s.flash.bank[0]).erasing && (s.flash.bank[0]).use = .journal), 10), (b2n j.held, 11), (j.boot.toNat, 16)]),
     one a Reg.FLASH_MARKER_STATUS (pack [((s.flash.bank[0]).marker, 0), ((s.flash.bank[1]).marker, 16)]),
     many (n := 32) (Reg.FLASH_SUSPECT_MAP 0) 4 a fun w => s.suspectMap w]

/-- BIST.STATUS shows the engine (R499). -/
def State.readBist (s : State) (a : Nat) : Word :=
  if a = Reg.BIST_STATUS then
    s.reg a ||| pack [(satN 16 ((s.bist.work.toList.foldl (· + ·) 0) / 1000), 0), (s.bist.turn.val, 16), (b2n s.bist.paused, 28), (b2n s.bist.safeLatch, 31)]
  else s.reg a

/-- Level of GP pin `n`: a push-pull output as driven, an open-drain output low while driven low; otherwise the pin's level is
not the block's, and bit `n` of the free value `v` stands for it (R401).
Log entry 8 (DESIGN CHOICE). Log entry 55 (DEDUCED). -/
def State.gpLevel (s : State) (v n : Nat) : Bool :=
  match s.fld (Reg.MBOX_GP_CFG n) 5 4 with
  | 1 => s.flag Reg.MBOX_GP_OUT n
  | 2 => s.flag Reg.MBOX_GP_OUT n && nbit v n
  | _ => nbit v n

/-- MBOX (R400, R401). -/
def State.readMbox (s : State) (a : Nat) : Word :=
  firstWord (s.reg a)
    [many (n := 4) (Reg.MBOX_PORT_STATUS 0) 4 a fun p =>
       (s.mbox.port[p]).control &&& 0xFFFFFF ||| pack [((s.mbox.port[p]).state.code, 24)],
     many (n := 4) (Reg.MBOX_PORT_SUB 0) 4 a fun p => (s.mbox.port[p]).sub.setWidth 32,
     one a Reg.MBOX_GP_IN (word (bitsOf 8 fun n => s.gpLevel s.freeVal n))]

/-- What the register at BAR0 offset `a` reads, its block being clocked. -/
def State.readWord (s : State) (a : Nat) : Word :=
  match a / 4096 with
  | 0x0 => s.readDev a
  | 0x1 => s.readPmc a
  | 0x2 => s.readTime a
  | 0x3 => s.readKeys a
  | 0x5 => s.readHedge a
  | 0x6 => s.readSeq a
  | 0x7 => s.readSup a
  | 0x8 => s.readBatt a
  | 0x9 => s.readDrive a
  | 0xA => s.readTherm a
  | 0xB => s.readRing a
  | 0xD => s.readFlash a
  | 0xE => s.readBist a
  | 0xF => s.readMbox a
  | _ => s.reg a

/-- The image of a register in a structure (R378): as R8 states while its block is gated. -/
def State.imageOf (s : State) (a : Nat) : List Byte :=
  image (if s.blockGated (a / 4096) then gatedWord (a / 4096) else s.readWord a)

/-- The images of several registers, in order. -/
def State.images (s : State) (l : List Nat) : List Byte := l.flatMap s.imageOf

/-! ### Bus reads -/

/-- A read of a clocked register, with what the read itself does: the latching pairs (R65, R119, R284) and WEAK_FIFO (R421). -/
def State.busRead (s : State) (a : Nat) : State × Word :=
  if a = Reg.TIME_PT_LO then s.readPtLo
  else if a = Reg.TIME_KTICK_LO then s.readKtickLo
  else if a = Reg.BATT_ACC_LO then s.readAccLo
  else if a = Reg.FLASH_WEAK_FIFO then s.readWeakFifo
  else if a = Reg.MBOX_GP_IN then (s.draw, s.readWord a)
  else match arrayIdx (Reg.MOTION_ENC_POS 0) 0x20 4 a with
    | some n => (s.latchEnc (Fin.ofNat 4 n), s.readWord a)
    | none => (s, s.readWord a)

/-- The block number of a BAR0 offset. -/
def blockOf (a : Nat) : Fin 16 := Fin.ofNat 16 (a / 4096)

/-- A read of BAR0 offset `a`, or what a gated block answers (R8, R470). Log entry 56 (DEDUCED). -/
def State.bar0Read (s : State) (a : Nat) (viaCmd : Bool) : State × Word :=
  if s.blockGated (a / 4096) then (s.gatedAccess (blockOf a) (a % 4096) false viaCmd false, gatedWord (a / 4096))
  else s.busRead a

/-! ### Bus writes -/

/-- A write to CTX_CFG: fields other than ENABLE only while the context is `DISABLED`, then ENABLE (R340, R362). -/
def State.writeCtxCfg (s : State) (c : Fin 32) (v : Word) : State :=
  let a := Reg.RING_CTX_CFG c
  let s := if (s.ring.ctx[c]).state = .disabled then s.writeStored a (v &&& 0x7FFFFFFF) else s
  if bit v 31 then s.enableCtx c else s.disableCtx c

/-- Writes to DEV. -/
def State.writeDev (s : State) (a : Nat) (v : Word) : State :=
  if a = Reg.DEV_SW_RESET then s.swReset v
  else if a = Reg.DEV_RRP_OFFER then s.writeOffer v
  else if a = Reg.DEV_FEAT1 then s.writeFeat1 v
  else if a = Reg.DEV_DB_BASE_LO then s.writeDbLo v
  else if a = Reg.DEV_DB_BASE_HI then s.writeDbHi v
  else if a = Reg.DEV_DB_CTRL then s.writeDbCtrl v
  else if a = Reg.DEV_NUDGE then s.writeNudge
  else if a = Reg.DEV_RING_CNT_CLR then s.ringCntClr v
  else if a = Reg.DEV_GATED_CLR then s.gatedClr v
  else s.writeStored a v

/-- Writes to RING: base and subscription registers only while the context is `DISABLED` (R362). -/
def State.writeRing (s : State) (a : Nat) (v : Word) : State :=
  let c : Fin 32 := Fin.ofNat 32 (a % 4096 / 0x40)
  if 0xB800 ≤ a then s
  else match a % 0x40 with
    | 0x00 => s.writeCtxCfg c v
    | 0x04 => s.writeEpoch c v
    | 0x20 => s.writeStored a v
    | _ => if (s.ring.ctx[c]).state = .disabled then s.writeStored a v else s

/-- Writes to MSIX: unmasking a vector sends its pending message (R354). -/
def State.writeMsix (s : State) (a : Nat) (v : Word) : State :=
  match arrayIdx (Reg.MSIX_VCTRL 0) 0x10 34 a with
  | some n => if bit v 0 then s.writeStored a v else s.unmask (Fin.ofNat 34 n)
  | none => s.writeStored a v

/-- Writes to MOTION: a changed ENABLE clears a channel's history (R122); FMOD and the roles set the frequency in use (R136). -/
def State.writeMotion (s : State) (a : Nat) (v : Word) : State :=
  if a = Reg.MOTION_CNT_CLR then s.motionCntClr v
  else
    let t := s.writeStored a v
    match arrayIdx (Reg.MOTION_ENC_CFG 0) 0x20 4 a with
    | some n => if s.encOn n = t.encOn n then t else t.encEnable (Fin.ofNat 4 n)
    | none =>
      if a = Reg.MOTION_CLIFF_CTRL || (arrayIdx (Reg.MOTION_CLF_CFG 0) 0x20 8 a).isSome then t.setFmod else t

/-- Writes to HEDGE: the rule window writes the selected rule (R170). -/
def State.writeHedge (s : State) (a : Nat) (v : Word) : State :=
  if a = Reg.HEDGE_CNT_CLR then s.hedgeCntClr v
  else
    let s := s.setSetupReg a (writeWord s.dev.planLoaded a v (s.setupReg a))
    if a = Reg.HEDGE_CTRL then s.dockWritten else s

/-- A write to the register at BAR0 offset `a`, its block being clocked. -/
def State.busWrite (s : State) (a : Nat) (v : Word) : State :=
  match a / 4096 with
  | 0x0 => s.writeDev a v
  | 0x1 => if a = Reg.PMC_CNT_CLR then s.pmcCntClr v else s.writeStored a v
  | 0x2 => if a = Reg.TIME_LEASH_CLR then s.leashClr v else s.writeStored a v
  | 0x3 => if a = Reg.KEYS_CNT_CLR then s.keysCntClr v else s.writeStored a v
  | 0x4 => s.writeMotion a v
  | 0x5 => s.writeHedge a v
  | 0x6 => if a = Reg.SEQ_HERD_CNT_CLR then s.herdCntClr v else s.writeStored a v
  | 0x8 => if a = Reg.BATT_CNT_CLR then s.battCntClr v else s.writeStored a v
  | 0x9 => if a = Reg.DRIVE_CNT_CLR then s.driveCntClr v else s.writeStored a v
  | 0xA => if a = Reg.THERM_CNT_CLR then s.thermCntClr v else s.writeStored a v
  | 0xB => s.writeRing a v
  | 0xC => s.writeMsix a v
  | 0xD => if a = Reg.FLASH_CNT_CLR then s.flashCntClr v else s.writeStored a v
  | 0xE => if a = Reg.BIST_CNT_CLR then s.bistCntClr v else s.writeStored a v
  | 0xF => if a = Reg.MBOX_CNT_CLR then s.mboxCntClr v else s.writeStored a v
  | _ => s.writeStored a v

/-- A write to BAR0 offset `a`, discarded by a gated block (R8, R470). Log entry 56 (DEDUCED). -/
def State.bar0Write (s : State) (a : Nat) (v : Word) (viaCmd : Bool) : State :=
  if s.blockGated (a / 4096) then s.gatedAccess (blockOf a) (a % 4096) true viaCmd false else s.busWrite a v

/-! ### The rows -/

/-- The host can reach BAR0: the controller runs, full service has enabled the PCIe function (R49 (e), R53), and the controller is not
in Deep sleep, where the link is off (R456). Log entry 13 (DESIGN CHOICE). Log entry 56 (DEDUCED). -/
def State.barOpen (s : State) : Bool := s.live && !s.inDeepSleep && s.flag Reg.DEV_STAGE 12

/-- A host write of `v` to BAR0 offset `a`. -/
def State.hostStore (s : State) (a : Nat) (v : Word) : Out := .next (if s.barOpen then s.bar0Write a v false else s)

/-- A host read of BAR0 offset `a`: the value returned is kept in `rdata`. -/
def State.hostLoad (s : State) (a : Nat) : Out :=
  .next (if s.barOpen then { (s.bar0Read a false).1 with rdata := image (s.bar0Read a false).2 } else s)

/-- A write of any BAR0 word; a byte offset that is no multiple of 4 lies in the word around it.
Log entry 56 (DEDUCED). -/
def execRegisterWrite (off : BitVec 16) (value : Word) (s : State) : Out := s.hostStore (off.toNat / 4 * 4) value

def execSwReset (value : Word) (s : State) : Out := s.hostStore Reg.DEV_SW_RESET value

def execPtLoRead (s : State) : Out := s.hostLoad Reg.TIME_PT_LO

def execKtickLoRead (s : State) : Out := s.hostLoad Reg.TIME_KTICK_LO

def execEncPosRead (n : Fin 4) (s : State) : Out := s.hostLoad (Reg.MOTION_ENC_POS n)

def execAccLoRead (s : State) : Out := s.hostLoad Reg.BATT_ACC_LO

def execWeakFifoRead (s : State) : Out := s.hostLoad Reg.FLASH_WEAK_FIFO

def execLeashClr (value : Word) (s : State) : Out := s.hostStore Reg.TIME_LEASH_CLR value

def execKeysCntClr (value : Word) (s : State) : Out := s.hostStore Reg.KEYS_CNT_CLR value

def execMotionCntClr (value : Word) (s : State) : Out := s.hostStore Reg.MOTION_CNT_CLR value

def execHedgeCntClr (value : Word) (s : State) : Out := s.hostStore Reg.HEDGE_CNT_CLR value

def execHerdCntClr (value : Word) (s : State) : Out := s.hostStore Reg.SEQ_HERD_CNT_CLR value

def execBattCntClr (value : Word) (s : State) : Out := s.hostStore Reg.BATT_CNT_CLR value

def execDriveCntClr (value : Word) (s : State) : Out := s.hostStore Reg.DRIVE_CNT_CLR value

def execThermCntClr (value : Word) (s : State) : Out := s.hostStore Reg.THERM_CNT_CLR value

def execRingCntClr (value : Word) (s : State) : Out := s.hostStore Reg.DEV_RING_CNT_CLR value

def execMboxCntClr (value : Word) (s : State) : Out := s.hostStore Reg.MBOX_CNT_CLR value

def execFlashCntClr (value : Word) (s : State) : Out := s.hostStore Reg.FLASH_CNT_CLR value

def execGatedClr (value : Word) (s : State) : Out := s.hostStore Reg.DEV_GATED_CLR value

def execPmcCntClr (value : Word) (s : State) : Out := s.hostStore Reg.PMC_CNT_CLR value

def execBistCntClr (value : Word) (s : State) : Out := s.hostStore Reg.BIST_CNT_CLR value

/-- Log entry 53 (DEDUCED). -/
def execNudge (value : Word) (s : State) : Out := s.hostStore Reg.DEV_NUDGE value

def execRrpOfferWrite (value : Word) (s : State) : Out := s.hostStore Reg.DEV_RRP_OFFER value

def execCtxEpochWrite (c : Fin 32) (value : Word) (s : State) : Out := s.hostStore (Reg.RING_CTX_EPOCH c) value

def execDbBaseHiWrite (value : Word) (s : State) : Out := s.hostStore Reg.DEV_DB_BASE_HI value

/-- ENABLE set, the other fields as they stand. -/
def execContextEnable (c : Fin 32) (s : State) : Out :=
  s.hostStore (Reg.RING_CTX_CFG c) (s.reg (Reg.RING_CTX_CFG c) ||| 0x80000000)

/-- ENABLE cleared, the other fields as they stand. -/
def execContextDisable (c : Fin 32) (s : State) : Out :=
  s.hostStore (Reg.RING_CTX_CFG c) (s.reg (Reg.RING_CTX_CFG c) &&& 0x7FFFFFFF)

/-- MASK cleared (R354). -/
def execMsixUnmask (v : Fin 34) (s : State) : Out := s.hostStore (Reg.MSIX_VCTRL v) 0

end Sys2Proof.Machine
end

