-- ==== Sys2Proof/Machine/Commands.lean ====
section
/-!
DEFINITION. The read commands and the register, subscription and journal commands of the opcode table
(14_commands_events.md, R375 to R379, R385).
-/

namespace Sys2Proof.Machine

/-! ### Structures (R378) -/

/-- A structure-read command. -/
def State.readCommand (s : State) (r : Req) (op total : Nat) (b : BufBlock) (bytes : State → List Byte) : Out :=
  .next (s.structRead r op total b bytes)

/-- IDENTIFY. -/
def State.identifyBytes (s : State) : List Byte :=
  s.images ([Reg.DEV_ID, Reg.DEV_REV, Reg.DEV_FW_VER, Reg.DEV_PLAN_GEN] ++ (List.range 8).map Reg.DEV_PLAN_HASH ++
    [Reg.DEV_STAGE, Reg.DEV_STRAP, Reg.DEV_UID_LO, Reg.DEV_UID_HI])

def execIdentify (r : Req) (b : BufBlock) (s : State) : Out := s.readCommand r 0x01 64 b State.identifyBytes

/-- GET_STATUS. -/
def State.statusBytes (s : State) : List Byte :=
  s.images [Reg.DEV_STAGE, Reg.DEV_RESET_CAUSE, Reg.HEDGE_ACTIONS, Reg.HEDGE_LATCHED, Reg.SEQ_STATUS, Reg.SEQ_RAILS_GOOD,
    Reg.BATT_SOC, Reg.DRIVE_M0_STATUS]

def execGetStatus (r : Req) (b : BufBlock) (s : State) : Out := s.readCommand r 0x03 32 b State.statusBytes

/-- TIME_READ. -/
def State.timeBytes (s : State) : List Byte :=
  leBytes 8 s.ptNow.toNat ++ s.images [Reg.TIME_STATUS, Reg.TIME_FIRC_PPM, Reg.TIME_PTM_PT_LO, Reg.TIME_PTM_PT_HI,
    Reg.TIME_PTM_HOST_LO, Reg.TIME_PTM_HOST_HI, Reg.TIME_PTM_RATE, Reg.TIME_PTM_DELAY, Reg.TIME_PTM_SEQ]

def execTimeRead (r : Req) (b : BufBlock) (s : State) : Out := s.readCommand r 0x04 48 b State.timeBytes

/-- RAIL_READ (R195). Log entry 57 (DEDUCED). -/
def State.railBytes (s : State) : List Byte :=
  s.images [Reg.SEQ_STATUS, Reg.SEQ_LATCH] ++ leBytes 1 s.seq.target.toNat ++ leBytes 1 s.groupsGood.toNat ++
    leBytes 1 s.seq.slot.toNat ++ leBytes 2 s.groupHeld.toNat ++ [0, 0, 0] ++
    (List.range 24).flatMap fun n => s.images [Reg.SEQ_RAIL_STATUS n, Reg.SEQ_RAIL_MEAS n]

/-- Log entry 57 (DEDUCED). -/
def execRailRead (r : Req) (b : BufBlock) (s : State) : Out := s.readCommand r 0x12 208 b State.railBytes

/-- BATTERY_READ (R279): BATT.ACC as it stands, without the latch of ACC_LO, since the command changes no state (R23).
Log entry 57 (DEDUCED). -/
def State.batteryBytes (s : State) : List Byte :=
  (s.images ((List.range 22).map fun i => Reg.BATT_STATUS + 4 * i)).take 72 ++ image (s.batt.acc.setWidth 32) ++
    image ((s.batt.acc >>> 32).setWidth 32) ++ s.images [Reg.BATT_Q_DSG, Reg.BATT_Q_CHG] ++
    leBytes 2 (ofSint 16 s.packTemp)

/-- Log entry 57 (DEDUCED). -/
def execBatteryRead (r : Req) (b : BufBlock) (s : State) : Out := s.readCommand r 0x20 96 b State.batteryBytes

/-- MOTOR_READ: the values of the last decision point, or the present ones where M0 reaches none (R299). -/
def State.motorBytes (s : State) : List Byte :=
  let v := if s.m0Runs then s.drive.m0.view else s.m0Words
  [v[0], v[1], v[2], v[3], v[4], v[5]].flatMap image ++ leBytes 2 (v[6].toNat % 2 ^ 16)

def execMotorRead (r : Req) (b : BufBlock) (s : State) : Out := s.readCommand r 0x32 32 b State.motorBytes

/-- HEDGE_READ (R167) for rule `n`. Log entry 36 (DEDUCED). -/
def State.hedgeBytes (n : Fin 32) (s : State) : List Byte :=
  s.images ((List.range 4).map Reg.HEDGE_NODE ++ [Reg.HEDGE_ACTIONS, Reg.HEDGE_ACT_HW, Reg.HEDGE_ACT_SD, Reg.HEDGE_COND_HW,
    Reg.HEDGE_COND_SD, Reg.HEDGE_LATCHED, Reg.HEDGE_ARMED_REL]) ++
    ((List.range 4).flatMap fun w => image (s.ruleCause n w)) ++ image (s.ruleState n) ++ leBytes 1 n.val

/-- A rule above 31 is not defined (R6). -/
def execHedgeRead (r : Req) (b : BufBlock) (rule : Byte) (s : State) : Out :=
  match ruleOf rule with
  | some n => s.readCommand r 0x42 68 b (State.hedgeBytes n)
  | none => .next (s.command r 0x42 true fun s => (s, none))

/-- INPUT_READ. -/
def State.inputBytes (s : State) : List Byte :=
  s.images ((List.range 8).map Reg.KEYS_STATE ++ (List.range 8).map Reg.KEYS_WITHHELD ++ (List.range 8).map Reg.KEYS_STUCK ++
    [Reg.KEYS_DI_STATE, Reg.KEYS_DI_PAIR_STATUS, Reg.KEYS_LINE_FAULT, Reg.KEYS_WAKE_NODE])

def execInputRead (r : Req) (b : BufBlock) (s : State) : Out := s.readCommand r 0x50 112 b State.inputBytes

/-- One channel of ENCODER_READ. -/
def State.encBytes (s : State) (n : Fin 4) : List Byte :=
  let x := s.motion.enc[n]
  image (s.encPos n) ++ [BitVec.ofNat 8 (s.encFlags n), 0] ++ leBytes 2 (s.fld (Reg.MOTION_ENC_STATUS n) 31 16) ++
    leBytes 8 x.edgePt.toNat ++ leBytes 4 (x.interval s.time.pt) ++ leBytes 2 (s.fld (Reg.MOTION_KEDGES n) 15 0) ++ [0, 0]

/-- ENCODER_READ (R139). -/
def State.encoderBytes (s : State) : List Byte := leBytes 8 s.ptNow.toNat ++ (List.finRange 4).flatMap s.encBytes

def execEncoderRead (r : Req) (b : BufBlock) (s : State) : Out := s.readCommand r 0x51 104 b State.encoderBytes

/-- One channel of CLIFF_READ; the entry of an unusable channel reads 0 (R494). -/
def State.cliffEntry (s : State) (n : Nat) : List Byte :=
  if s.flag Reg.BIST_UNUSABLE (4 + n) then List.replicate 8 0
  else
    image (s.reg (Reg.MOTION_CLF_RESULT n)) ++ leBytes 1 (s.fld (Reg.MOTION_CLF_STATUS n) 15 8) ++
      leBytes 1 (s.fld (Reg.MOTION_CLF_CFG n) 3 2) ++
      leBytes 1 (s.fld (Reg.MOTION_CLF_STATUS n) 5 0 + 64 * s.clfRole n) ++ [0]

/-- CLIFF_READ (R139). -/
def State.cliffBytes (s : State) : List Byte := (List.range 8).flatMap s.cliffEntry

def execCliffRead (r : Req) (b : BufBlock) (s : State) : Out := s.readCommand r 0x52 64 b State.cliffBytes

/-- WAKE_READ. -/
def State.wakeBytes (s : State) : List Byte :=
  leBytes 2 (s.fld Reg.PMC_WAKE_SRC 7 0) ++ leBytes 2 (s.fld Reg.PMC_WAKE_SRC 31 16) ++ [0, 0, 0, 0] ++
    s.images [Reg.PMC_WAKE_PT_LO, Reg.PMC_WAKE_PT_HI]

def execWakeRead (r : Req) (b : BufBlock) (s : State) : Out := s.readCommand r 0x71 16 b State.wakeBytes

/-- SELFTEST_READ (R496). -/
def State.selftestBytes (s : State) : List Byte := s.images ((List.range 16).map fun i => Reg.BIST_CTRL + 4 * i)

def execSelftestRead (r : Req) (b : BufBlock) (s : State) : Out := s.readCommand r 0x91 64 b State.selftestBytes

/-! ### Register commands (R377) -/

/-- REG_READ names words that lie in BAR0. -/
def regReadBad (off : BitVec 32) (count : Byte) : Bool :=
  off.toNat % 4 ≠ 0 || (count ≠ 1 && count ≠ 2) || decide (0x10000 < off.toNat + 4 * count.toNat)

/-- Each word as a BAR0 read of it, in order. -/
def State.regReadTake (s : State) (off : Nat) (two : Bool) : State × Option Reply :=
  let (s, a) := s.bar0Read off true
  let (s, b) := if two then s.bar0Read (off + 4) true else (s, 0)
  (s, reply Status.OK (image a ++ image b))

def execRegRead (r : Req) (off : BitVec 32) (count : Byte) (s : State) : Out :=
  .next (s.command r 0x06 (regReadBad off count) fun s => s.regReadTake off.toNat (count = 2))

/-- LOCKED, then REFUSED, then the write of VALUE into the bits of MASK. Log entry 56 (DEDUCED). -/
def State.regWriteTake (s : State) (a : Nat) (v m : Word) : State × Option Reply :=
  if s.dev.planLoaded then (s, reply Status.LOCKED)
  else if s.blockGated (a / 4096) then (s.bar0Write a v true, reply Status.REFUSED)
  else if m &&& ~~~(setupMask a) ≠ 0 then (s, reply Status.REFUSED)
  else
    let s := s.busWrite a ((s.setupReg a &&& ~~~m) ||| (v &&& m))
    (s, reply Status.OK (image (s.readWord a)))

def execRegWrite (r : Req) (off value mask : BitVec 32) (s : State) : Out :=
  .next (s.command r 0x07 (off.toNat % 4 ≠ 0 || decide (0x10000 ≤ off.toNat)) fun s => s.regWriteTake off.toNat value mask)

/-! ### SUBSCRIBE (R385) -/

/-- The mask after MODE 0 replace, 1 add, 2 remove. -/
def newMask (mode : Byte) (old m : BitVec 64) : BitVec 64 :=
  if mode = 0 then m else if mode = 1 then old ||| m else old &&& ~~~m

def subscribeBad (target mode : Byte) (m : BitVec 64) : Bool :=
  !(decide (target.toNat < 32) || (0x40 ≤ target.toNat && target.toNat ≤ 0x43)) || decide (2 < mode.toNat) ||
    decide (m >>> 25 ≠ 0)

def State.subscribeTake (s : State) (target mode : Byte) (m : BitVec 64) : State × Option Reply :=
  if target.toNat < 32 then
    let c : Fin 32 := Fin.ofNat 32 target.toNat
    if (s.ring.ctx[c]).state = .active && s.isStream c then
      let n := newMask mode (BitVec.ofNat 64 (s.ctxMask c)) m
      ((s.setReg (Reg.RING_SUB_LO c) (loWord n)).setReg (Reg.RING_SUB_HI c) (hiWord n), reply Status.OK (leBytes 8 n.toNat))
    else (s, reply Status.NOT_IN_STATE)
  else
    let p : Fin 4 := Fin.ofNat 4 target.toNat
    let n := newMask mode ((s.mbox.port[p]).sub.setWidth 64) m
    (s.modPort p fun q => { q with sub := n.setWidth 25 }, reply Status.OK (leBytes 8 n.toNat))

def execSubscribe (r : Req) (target mode : Byte) (mask : BitVec 64) (s : State) : Out :=
  .next (s.command r 0x60 (subscribeBad target mode mask) fun s => s.subscribeTake target mode mask)

/-! ### JOURNAL_READ (R379) -/

/-- First sequence number returned. Log entry 58 (DEDUCED). -/
def State.readFrom (s : State) (start : BitVec 32) : Nat :=
  if start = 0xFFFFFFFF then s.flash.jrn.oldest else max start.toNat s.flash.jrn.oldest

/-- The records returned, by sequence number and slot, in ascending order. Log entry 58 (DEDUCED). -/
def State.readSlotsFrom (s : State) (first count : Nat) : List (Nat × Nat × Nat) :=
  ((List.range (s.flash.jrn.head - first)).filterMap fun i => (s.recordSlot (first + i)).map fun e => (first + i, e)).take count

/-- The bytes of a record as read. -/
def State.recordBytes (s : State) (errs : List LineErr) (e : Nat × Nat × Nat) : List Byte :=
  s.flashBytes errs (slotLine e.2.1 e.2.2 * 32) 64

/-- CORRECTED and FLAGS. Log entry 58 (DEDUCED). -/
def State.readFlags (s : State) (errs : List LineErr) (l : List (Nat × Nat × Nat)) : List Byte :=
  let ecc := l.flatMap fun e => [s.lineEcc errs (slotLine e.2.1 e.2.2), s.lineEcc errs (slotLine e.2.1 e.2.2 + 1)]
  let bad := l.any fun e => !jrnValid (s.recordBytes errs e)
  let last := l.any fun e => decide (e.1 + 1 = s.flash.jrn.head)
  [BitVec.ofNat 8 (ecc.foldl (fun m e => max m e.1) 0),
   BitVec.ofNat 8 (b2n (ecc.any fun e => e.2) + 2 * b2n bad + 4 * b2n last)]

/-- Agent of FLASH_WEAK for command reads (R432). Log entry 58 (DEDUCED). -/
def journalAgent : Nat := 1

/-- Log entry 58 (DEDUCED). -/
def execJournalRead (r : Req) (b : BufBlock) (start : BitVec 32) (count : Byte) (errs : List LineErr) (s : State) : Out :=
  let l := s.readSlotsFrom (s.readFrom start) count.toNat
  .next (s.command r 0x80 (count = 0 || decide (64 < count.toNat) || bufBad r b (64 * l.length)) fun s =>
      let rep := structReply r b (l.flatMap (s.recordBytes errs)) (s.readFlags errs l)
      (l.foldl (fun s e => s.linesRead journalAgent errs (slotLine e.2.1 e.2.2 * 32) 64) s, some rep))

end Sys2Proof.Machine
end

