-- ==== Sys2Proof/Machine/Dispatch.lean ====
section
/-!
DEFINITION. The dispatch: one arm per command, each one direct call of its meaning.
-/

namespace Sys2Proof.Machine

/-- The effect of a command on everything but the queue. -/
def exec (i : Instr) (s : State) : Host.Outcome State Fault Refusal :=
  match i with
  | .powerOn hvsel => Sys2Proof.Machine.execPowerOn hvsel s
  | .powerLoss => Sys2Proof.Machine.execPowerLoss s
  | .brownOut hvsel => Sys2Proof.Machine.execBrownOut hvsel s
  | .lpBor => Sys2Proof.Machine.execLpBor s
  | .rstNAssert => Sys2Proof.Machine.execRstNAssert s
  | .rstNRelease testEn => Sys2Proof.Machine.execRstNRelease testEn s
  | .sheepdogWdtExpiry => Sys2Proof.Machine.execSheepdogWdtExpiry s
  | .mgmtWdtExpiry => Sys2Proof.Machine.execMgmtWdtExpiry s
  | .lockstepMismatch => Sys2Proof.Machine.execLockstepMismatch s
  | .blockedWrite bySheepdog => Sys2Proof.Machine.execBlockedWrite bySheepdog s
  | .regulatorsGood testEn => Sys2Proof.Machine.execRegulatorsGood testEn s
  | .bootTestFail code => Sys2Proof.Machine.execBootTestFail code s
  | .bootScanDone fw => Sys2Proof.Machine.execBootScanDone fw s
  | .planVerifyDone errs vinGood => Sys2Proof.Machine.execPlanVerifyDone errs vinGood s
  | .reducedServiceEntry us => Sys2Proof.Machine.execReducedServiceEntry us s
  | .xoGood => Sys2Proof.Machine.execXoGood s
  | .xoFailTimeout => Sys2Proof.Machine.execXoFailTimeout s
  | .xt32Good => Sys2Proof.Machine.execXt32Good s
  | .pllLock => Sys2Proof.Machine.execPllLock s
  | .pllLockTimeout => Sys2Proof.Machine.execPllLockTimeout s
  | .calComplete ok gain => Sys2Proof.Machine.execCalComplete ok gain s
  | .fullServiceSwitch ppm => Sys2Proof.Machine.execFullServiceSwitch ppm s
  | .swReset value => Sys2Proof.Machine.execSwReset value s
  | .registerWrite off value => Sys2Proof.Machine.execRegisterWrite off value s
  | .ptLoRead => Sys2Proof.Machine.execPtLoRead s
  | .ktickLoRead => Sys2Proof.Machine.execKtickLoRead s
  | .ptmDialogue inL0 sample => Sys2Proof.Machine.execPtmDialogue inL0 sample s
  | .leashFrameBoundary used => Sys2Proof.Machine.execLeashFrameBoundary used s
  | .leashCeilingReached a requestPending => Sys2Proof.Machine.execLeashCeilingReached a requestPending s
  | .leashClr value => Sys2Proof.Machine.execLeashClr value s
  | .fabricHoldTimeout => Sys2Proof.Machine.execFabricHoldTimeout s
  | .matrixScan scan => Sys2Proof.Machine.execMatrixScan scan s
  | .stuckTimeout node => Sys2Proof.Machine.execStuckTimeout node s
  | .kennelScan closed => Sys2Proof.Machine.execKennelScan closed s
  | .anyKeyDetect line => Sys2Proof.Machine.execAnyKeyDetect line s
  | .diEdge n high => Sys2Proof.Machine.execDiEdge n high s
  | .diDebounceExpiry n => Sys2Proof.Machine.execDiDebounceExpiry n s
  | .pairDiscrepancyTimeout k => Sys2Proof.Machine.execPairDiscrepancyTimeout k s
  | .diKennelWake n => Sys2Proof.Machine.execDiKennelWake n s
  | .keysCntClr value => Sys2Proof.Machine.execKeysCntClr value s
  | .encoderEdge n onB a b => Sys2Proof.Machine.execEncoderEdge n onB a b s
  | .overspeedRelease n => Sys2Proof.Machine.execOverspeedRelease n s
  | .illegalTransition n => Sys2Proof.Machine.execIllegalTransition n s
  | .faultHoldExpiry n => Sys2Proof.Machine.execFaultHoldExpiry n s
  | .encoderReport n => Sys2Proof.Machine.execEncoderReport n s
  | .encPosRead n => Sys2Proof.Machine.execEncPosRead n s
  | .motionWake n => Sys2Proof.Machine.execMotionWake n s
  | .motionCntClr value => Sys2Proof.Machine.execMotionCntClr value s
  | .cliffResult n x => Sys2Proof.Machine.execCliffResult n x s
  | .hedgeHwEval readback err => Sys2Proof.Machine.execHedgeHwEval readback err s
  | .hedgeSdEval => Sys2Proof.Machine.execHedgeSdEval s
  | .orderlyOffOverrun group => Sys2Proof.Machine.execOrderlyOffOverrun group s
  | .dockAccept level => Sys2Proof.Machine.execDockAccept level s
  | .armExpiry rule => Sys2Proof.Machine.execArmExpiry rule s
  | .sstopMismatchClear n => Sys2Proof.Machine.execSstopMismatchClear n s
  | .safeStopPulseTest n readsLow taken => Sys2Proof.Machine.execSafeStopPulseTest n readsLow taken s
  | .ssPoll rx => Sys2Proof.Machine.execSsPoll rx s
  | .ssIdentityCheck id => Sys2Proof.Machine.execSsIdentityCheck id s
  | .ssSampleProcess => Sys2Proof.Machine.execSsSampleProcess s
  | .hedgeCntClr value => Sys2Proof.Machine.execHedgeCntClr value s
  | .heartbeat r count => Sys2Proof.Machine.execHeartbeat r count s
  | .hedgeArmRelease r rule => Sys2Proof.Machine.execHedgeArmRelease r rule s
  | .hedgeRelease r rule token => Sys2Proof.Machine.execHedgeRelease r rule token s
  | .softNodeSet r mask values => Sys2Proof.Machine.execSoftNodeSet r mask values s
  | .hedgeRead r b rule => Sys2Proof.Machine.execHedgeRead r b rule s
  | .seqDecisionPoint x => Sys2Proof.Machine.execSeqDecisionPoint x s
  | .rampTimeout rails => Sys2Proof.Machine.execRampTimeout rails s
  | .settleDone rails => Sys2Proof.Machine.execSettleDone rails s
  | .dischargeTimeout rails => Sys2Proof.Machine.execDischargeTimeout rails s
  | .restExpiry => Sys2Proof.Machine.execRestExpiry s
  | .planStart => Sys2Proof.Machine.execPlanStart s
  | .railGroupOn r g => Sys2Proof.Machine.execRailGroupOn r g s
  | .railGroupOff r g => Sys2Proof.Machine.execRailGroupOff r g s
  | .railRead r b => Sys2Proof.Machine.execRailRead r b s
  | .faultClear r => Sys2Proof.Machine.execFaultClear r s
  | .adcMCycle x => Sys2Proof.Machine.execAdcMCycle x s
  | .comparatorCrossing uv ov => Sys2Proof.Machine.execComparatorCrossing uv ov s
  | .vinFailDecision => Sys2Proof.Machine.execVinFailDecision s
  | .holdUpRecordComplete vinAbove => Sys2Proof.Machine.execHoldUpRecordComplete vinAbove s
  | .vholdCollapse vinAbove hvsel => Sys2Proof.Machine.execVholdCollapse vinAbove hvsel s
  | .vinGood => Sys2Proof.Machine.execVinGood s
  | .counterSnapshot => Sys2Proof.Machine.execCounterSnapshot s
  | .countersRead r b rails flags => Sys2Proof.Machine.execCountersRead r b rails flags s
  | .countersClear r rails counters => Sys2Proof.Machine.execCountersClear r rails counters s
  | .herdPulseClassify w => Sys2Proof.Machine.execHerdPulseClassify w s
  | .herdAlarmClassify => Sys2Proof.Machine.execHerdAlarmClassify s
  | .herdMusterStart => Sys2Proof.Machine.execHerdMusterStart s
  | .herdMusterBlocked => Sys2Proof.Machine.execHerdMusterBlocked s
  | .herdStepEdge => Sys2Proof.Machine.execHerdStepEdge s
  | .herdEmptyStep => Sys2Proof.Machine.execHerdEmptyStep s
  | .herdStepTimeout => Sys2Proof.Machine.execHerdStepTimeout s
  | .herdDownTimeout => Sys2Proof.Machine.execHerdDownTimeout s
  | .herdAlarmQuiet => Sys2Proof.Machine.execHerdAlarmQuiet s
  | .herdKennelWake => Sys2Proof.Machine.execHerdKennelWake s
  | .herdCntClr value => Sys2Proof.Machine.execHerdCntClr value s
  | .cellSweep x => Sys2Proof.Machine.execCellSweep x s
  | .currentWindow nv => Sys2Proof.Machine.execCurrentWindow nv s
  | .ocdTrip uv => Sys2Proof.Machine.execOcdTrip uv s
  | .scdTrip uv => Sys2Proof.Machine.execScdTrip uv s
  | .protRetryExpiry scd => Sys2Proof.Machine.execProtRetryExpiry scd s
  | .chargerDetect => Sys2Proof.Machine.execChargerDetect s
  | .fetFaultDetect k => Sys2Proof.Machine.execFetFaultDetect k s
  | .gaugeUpdate => Sys2Proof.Machine.execGaugeUpdate s
  | .gaugeSnapshot => Sys2Proof.Machine.execGaugeSnapshot s
  | .coldStartRestWindow => Sys2Proof.Machine.execColdStartRestWindow s
  | .batteryLpWake c => Sys2Proof.Machine.execBatteryLpWake c s
  | .packIdRead id => Sys2Proof.Machine.execPackIdRead id s
  | .accLoRead => Sys2Proof.Machine.execAccLoRead s
  | .battCntClr value => Sys2Proof.Machine.execBattCntClr value s
  | .batteryRead r b => Sys2Proof.Machine.execBatteryRead r b s
  | .batteryControlFet r mask value flags => Sys2Proof.Machine.execBatteryControlFet r mask value flags s
  | .batteryControlClearProt r => Sys2Proof.Machine.execBatteryControlClearProt r s
  | .batteryControlClearFet r still => Sys2Proof.Machine.execBatteryControlClearFet r still s
  | .batteryControlBalance r enable => Sys2Proof.Machine.execBatteryControlBalance r enable s
  | .batteryControlRelearn r => Sys2Proof.Machine.execBatteryControlRelearn r s
  | .batteryControlSnapshot r => Sys2Proof.Machine.execBatteryControlSnapshot r s
  | .m0DecisionPoint x => Sys2Proof.Machine.execM0DecisionPoint x s
  | .m0PwmPeriod x => Sys2Proof.Machine.execM0PwmPeriod x s
  | .m0HwFault f => Sys2Proof.Machine.execM0HwFault f s
  | .gateTestEnd pass => Sys2Proof.Machine.execGateTestEnd pass s
  | .standstillHoldEnd => Sys2Proof.Machine.execStandstillHoldEnd s
  | .alignEnd => Sys2Proof.Machine.execAlignEnd s
  | .observerLock => Sys2Proof.Machine.execObserverLock s
  | .openRampTimeout => Sys2Proof.Machine.execOpenRampTimeout s
  | .brakeTimeout => Sys2Proof.Machine.execBrakeTimeout s
  | .coastStop => Sys2Proof.Machine.execCoastStop s
  | .coastTimeout => Sys2Proof.Machine.execCoastTimeout s
  | .motorRun r dir flags setpoint accel decel => Sys2Proof.Machine.execMotorRun r dir flags setpoint accel decel s
  | .motorStop r mode flags causePresent => Sys2Proof.Machine.execMotorStop r mode flags causePresent s
  | .motorRead r b => Sys2Proof.Machine.execMotorRead r b s
  | .driveCntClr value => Sys2Proof.Machine.execDriveCntClr value s
  | .fanStart n x => Sys2Proof.Machine.execFanStart n x s
  | .fanLock n x => Sys2Proof.Machine.execFanLock n x s
  | .fanStartTimeout n x => Sys2Proof.Machine.execFanStartTimeout n x s
  | .fanLockLost n x => Sys2Proof.Machine.execFanLockLost n x s
  | .fanCoastEnd n x => Sys2Proof.Machine.execFanCoastEnd n x s
  | .vfanUndervoltage n x => Sys2Proof.Machine.execVfanUndervoltage n x s
  | .bridgeTrip n overTemp x => Sys2Proof.Machine.execBridgeTrip n overTemp x s
  | .fanRetryAttempt n x => Sys2Proof.Machine.execFanRetryAttempt n x s
  | .fanSlowTimer n cmd x => Sys2Proof.Machine.execFanSlowTimer n cmd x s
  | .tachLostTimer n x => Sys2Proof.Machine.execTachLostTimer n x s
  | .zoneUpdate => Sys2Proof.Machine.execZoneUpdate s
  | .hostZoneTimeout => Sys2Proof.Machine.execHostZoneTimeout s
  | .fanOverrideExpiry n => Sys2Proof.Machine.execFanOverrideExpiry n s
  | .dieTempWake => Sys2Proof.Machine.execDieTempWake s
  | .zoneTempWrite r value => Sys2Proof.Machine.execZoneTempWrite r value s
  | .fanOverride r mask demand flags duration hot => Sys2Proof.Machine.execFanOverride r mask demand flags duration hot s
  | .thermCntClr value => Sys2Proof.Machine.execThermCntClr value s
  | .freeze cause => Sys2Proof.Machine.execFreeze cause s
  | .freezeEnd cause cfg => Sys2Proof.Machine.execFreezeEnd cause cfg s
  | .rrpOfferWrite value => Sys2Proof.Machine.execRrpOfferWrite value s
  | .contextEnable c => Sys2Proof.Machine.execContextEnable c s
  | .contextChecksDone c slotTail slotHead => Sys2Proof.Machine.execContextChecksDone c slotTail slotHead s
  | .contextDisable c => Sys2Proof.Machine.execContextDisable c s
  | .ctxEpochWrite c value => Sys2Proof.Machine.execCtxEpochWrite c value s
  | .dbBaseHiWrite value => Sys2Proof.Machine.execDbBaseHiWrite value s
  | .nudge value => Sys2Proof.Machine.execNudge value s
  | .doorbellPoll slots => Sys2Proof.Machine.execDoorbellPoll slots s
  | .descriptorFetch c bytes => Sys2Proof.Machine.execDescriptorFetch c bytes s
  | .memoryReadFail what => Sys2Proof.Machine.execMemoryReadFail what s
  | .dozeEntry => Sys2Proof.Machine.execDozeEntry s
  | .dozeReadback slots => Sys2Proof.Machine.execDozeReadback slots s
  | .streamRecordOffer d rereadHead => Sys2Proof.Machine.execStreamRecordOffer d rereadHead s
  | .coalesceTimeout c => Sys2Proof.Machine.execCoalesceTimeout c s
  | .msixUnmask v => Sys2Proof.Machine.execMsixUnmask v s
  | .linkReset cause => Sys2Proof.Machine.execLinkReset cause s
  | .ringCntClr value => Sys2Proof.Machine.execRingCntClr value s
  | .identify r b => Sys2Proof.Machine.execIdentify r b s
  | .getStatus r b => Sys2Proof.Machine.execGetStatus r b s
  | .timeRead r b => Sys2Proof.Machine.execTimeRead r b s
  | .regRead r off count => Sys2Proof.Machine.execRegRead r off count s
  | .regWrite r off value mask => Sys2Proof.Machine.execRegWrite r off value mask s
  | .subscribe r target mode mask => Sys2Proof.Machine.execSubscribe r target mode mask s
  | .inputRead r b => Sys2Proof.Machine.execInputRead r b s
  | .encoderRead r b => Sys2Proof.Machine.execEncoderRead r b s
  | .cliffRead r b => Sys2Proof.Machine.execCliffRead r b s
  | .wakeRead r b => Sys2Proof.Machine.execWakeRead r b s
  | .journalRead r b start count errs => Sys2Proof.Machine.execJournalRead r b start count errs s
  | .planStage r addr length offset flags data readFails => Sys2Proof.Machine.execPlanStage r addr length offset flags data readFails s
  | .planActivate r gen => Sys2Proof.Machine.execPlanActivate r gen s
  | .firmwareStage r addr length offset flags data readFails check version => Sys2Proof.Machine.execFirmwareStage r addr length offset flags data readFails check version s
  | .planBackgroundVerify errs => Sys2Proof.Machine.execPlanBackgroundVerify errs s
  | .powerStateRequest r target alarm => Sys2Proof.Machine.execPowerStateRequest r target alarm s
  | .selftestRun r tests => Sys2Proof.Machine.execSelftestRun r tests s
  | .selftestRead r b => Sys2Proof.Machine.execSelftestRead r b s
  | .spiWriteFrame bytes => Sys2Proof.Machine.execSpiWriteFrame bytes s
  | .spiReadFrame op lo hi => Sys2Proof.Machine.execSpiReadFrame op lo hi s
  | .i2cWrite addr bytes => Sys2Proof.Machine.execI2cWrite addr bytes s
  | .i2cRead addr lo hi pec => Sys2Proof.Machine.execI2cRead addr lo hi pec s
  | .mailboxGo p => Sys2Proof.Machine.execMailboxGo p s
  | .mailboxDoneClear p => Sys2Proof.Machine.execMailboxDoneClear p s
  | .evtPop p => Sys2Proof.Machine.execEvtPop p s
  | .mailboxErrClear p => Sys2Proof.Machine.execMailboxErrClear p s
  | .linkErrClear value => Sys2Proof.Machine.execLinkErrClear value s
  | .mailboxReply p => Sys2Proof.Machine.execMailboxReply p s
  | .mailboxWake byCs => Sys2Proof.Machine.execMailboxWake byCs s
  | .mboxCntClr value => Sys2Proof.Machine.execMboxCntClr value s
  | .bar2Read addr len errs => Sys2Proof.Machine.execBar2Read addr len errs s
  | .uncorrectableFetch line => Sys2Proof.Machine.execUncorrectableFetch line s
  | .sectorErase bank more => Sys2Proof.Machine.execSectorErase bank more s
  | .programLine bank more => Sys2Proof.Machine.execProgramLine bank more s
  | .statusMode bank => Sys2Proof.Machine.execStatusMode bank s
  | .eraseSuspend addr => Sys2Proof.Machine.execEraseSuspend addr s
  | .eraseResume addr => Sys2Proof.Machine.execEraseResume addr s
  | .abortReset addr => Sys2Proof.Machine.execAbortReset addr s
  | .sequenceTimeout bank => Sys2Proof.Machine.execSequenceTimeout bank s
  | .programDone bank => Sys2Proof.Machine.execProgramDone bank s
  | .eraseDone bank ok => Sys2Proof.Machine.execEraseDone bank ok s
  | .suspendDone bank => Sys2Proof.Machine.execSuspendDone bank s
  | .autoResume bank => Sys2Proof.Machine.execAutoResume bank s
  | .journalAppend => Sys2Proof.Machine.execJournalAppend s
  | .weakFifoRead => Sys2Proof.Machine.execWeakFifoRead s
  | .flashCntClr value => Sys2Proof.Machine.execFlashCntClr value s
  | .quiesceAnswer block => Sys2Proof.Machine.execQuiesceAnswer block s
  | .quiesceNoAnswer block => Sys2Proof.Machine.execQuiesceNoAnswer block s
  | .handshakeLimit => Sys2Proof.Machine.execHandshakeLimit s
  | .entryEdge lpoPpm => Sys2Proof.Machine.execEntryEdge lpoPpm s
  | .linkL23Ready => Sys2Proof.Machine.execLinkL23Ready s
  | .wakePinAssert => Sys2Proof.Machine.execWakePinAssert s
  | .dockWake level => Sys2Proof.Machine.execDockWake level s
  | .alarmMatch => Sys2Proof.Machine.execAlarmMatch s
  | .linkActivityWake => Sys2Proof.Machine.execLinkActivityWake s
  | .wakeEvent => Sys2Proof.Machine.execWakeEvent s
  | .restartEdge kedges herdLow => Sys2Proof.Machine.execRestartEdge kedges herdLow s
  | .wakeClockSwitch ppm lpoPpm => Sys2Proof.Machine.execWakeClockSwitch ppm lpoPpm s
  | .offExit hvsel => Sys2Proof.Machine.execOffExit hvsel s
  | .gatedRegisterAccess write viaCmd bar2 addr => Sys2Proof.Machine.execGatedRegisterAccess write viaCmd bar2 addr s
  | .gatedAccessReport block => Sys2Proof.Machine.execGatedAccessReport block s
  | .gatedClr value => Sys2Proof.Machine.execGatedClr value s
  | .pmcCntClr value => Sys2Proof.Machine.execPmcCntClr value s
  | .bistSlice cycles deferred fails => Sys2Proof.Machine.execBistSlice cycles deferred fails s
  | .enReadbackCheck high => Sys2Proof.Machine.execEnReadbackCheck high s
  | .clockMonitorWindow bad pllLost lpo firc => Sys2Proof.Machine.execClockMonitorWindow bad pllLost lpo firc s
  | .sramEccError sheepdog multi => Sys2Proof.Machine.execSramEccError sheepdog multi s
  | .bistCntClr value => Sys2Proof.Machine.execBistCntClr value s
  | .herdMusterHoldExpiry => Sys2Proof.Machine.execHerdMusterHoldExpiry s
  | .tachEdge n x => Sys2Proof.Machine.execTachEdge n x s
  | .perstNRise => Sys2Proof.Machine.execPerstNRise s
  | .mailboxReady => Sys2Proof.Machine.execMailboxReady s

end Sys2Proof.Machine
end

