-- ==== Sys2Proof/Safety.lean ====
section
/-!
DEFINITION. What a safe state is, in the terms the statements use: the three stores of the state in their canonical form, and
the frames by which statements say what a command leaves alone.
-/

namespace Sys2Proof.Machine

/-- Register file, host memory and flash array are in canonical form: addresses strictly rising, no entry equal to what an
unlisted address reads as. -/
structure State.Stored (s : State) : Prop where
  regs : sparseWf regReset s.regs = true
  host : sparseWf hostDefault s.host = true
  lines : sparseWf lineDefault s.flash.lines = true

/-- A reset of cause `c` has just begun (R54, R55): internal reset is asserted, no stage is reached, no Plan is loaded, platform
time is 0, and RESET_CAUSE names the cause in FIRST and in ALL. -/
structure State.ResetTo (s : State) (c : Nat) : Prop where
  inReset : s.dev.inReset = true
  stage : s.dev.stage = .boot
  noPlan : s.dev.planLoaded = false
  time : s.time.pt = 0
  first : s.fld Reg.DEV_RESET_CAUSE 7 0 = c
  all : s.flag Reg.DEV_RESET_CAUSE (15 + c) = true

/-- Every register of the blocks of `l` (block `b` lies at BAR0 offset 0x1000 * b) is the same in both states. -/
def State.sameBlocks (s t : State) (l : List Nat) : Prop := ∀ a, a / 4096 ∈ l → t.reg a = s.reg a

/-- Every register but those at the offsets of `l` is the same in both states. -/
def State.sameRegsBut (s t : State) (l : List Nat) : Prop := ∀ a, a ∉ l → t.reg a = s.reg a

/-- Every byte of host memory is the same in both states. -/
def State.sameHost (s t : State) : Prop := ∀ a, t.hostByte a = s.hostByte a

/-- A write of `v` to a counter-clear register whose bits clear the fields of `l` (bit, register, high bit, low bit): a field
whose bit is set reads 0, the others are as before, and every other register is the same. -/
def State.CountersCleared (s t : State) (v : Word) (l : List (Nat × Nat × Nat × Nat)) : Prop :=
  (∀ e ∈ l, t.fld e.2.1 e.2.2.1 e.2.2.2 = if bit v e.1 then 0 else s.fld e.2.1 e.2.2.1 e.2.2.2) ∧
  s.sameRegsBut t (l.map fun e => e.2.1)

/-- In a sleep, source `code` with its detail has fired (R463, R466): it is held with the PT of its detection, and its PENDING
bit in WAKE_SRC is set. -/
structure State.WokenBy (s t : State) (code detail : Nat) : Prop where
  fired : t.pmc.fired = s.pmc.fired ++ [(s.ptNow, code, detail)]
  pending : t.flag Reg.PMC_WAKE_SRC (15 + code) = true

/-- The owner takes the command now and executes it: it is next in the owner's queue, its deadline is 0 or has not passed, and the
service stage admits the opcode (R20 to R22, R371). -/
def State.admits (s : State) (r : Req) (op : Nat) : Prop :=
  s.mayTake r op = true ∧ (r.deadline = 0 ∨ s.now ≤ r.deadline.toNat) ∧ s.stageAdmits op = true

/-- M0 reaches decision points, and the next one samples no fault and neither action 0 nor action 1 (R22, R293, R294). -/
structure State.m0Calm (s : State) : Prop where
  runs : s.m0Runs = true
  noFault : s.drive.m0.detected = none
  hall : s.m0Halls = false ∨ s.drive.m0.hallRun < 2
  locked : held s.drive.m0.lossPt s.ptNow (ms 5) = false
  slow : held s.drive.m0.overPt s.ptNow (ms 10) = false
  seen0 : s.drive.m0.seen0 = false
  seen1 : s.drive.m0.seen1 = false
  dropped : s.drive.m0.dropped = false
  off : s.m0Off = false
  brake : s.act 1 = false

/-- The sequencer reaches decision points, and the next one samples no failure, no shutdown and no newly asserted orderly-off
action (R22, R175, R182, R187). -/
structure State.seqCalm (s : State) : Prop where
  runs : s.seqRuns = true
  tripped : s.sup.tripped = 0
  vin : s.sup.vinLow = false
  cut : s.act 17 = false
  uv : s.seq.uvX = 0
  ov : s.seq.ovX = 0
  taken : ∀ k : Fin 8, s.act (9 + k) = s.seq.taken.getLsbD k

/-- The end of a decision point of the sequencer: the rails advance (R175), response 0x84 ends where its rails are down (R146),
and a class S failure that waits for the rails takes its effect (R495). -/
abbrev State.endPoint (s : State) : State := s.advance.overrunEnds.safeCheck

/-! ### Frames -/

/-- The parts of a state: its fields but for the queue and the register file, and the registers of each block. -/
inductive Part where
  | free | host | dev | time | leash | fabric | reqs | keys | motion | seq | herd | sup | batt | drive | therm | hedge | bist
  | pmc | ring | mbox | flash | plans | rdata
  | block (b : Fin 16)
deriving DecidableEq, Repr

/-- A part is the same in both states. -/
def State.samePart (s t : State) : Part → Prop
  | .free => t.free = s.free
  | .host => t.host = s.host
  | .dev => t.dev = s.dev
  | .time => t.time = s.time
  | .leash => t.leash = s.leash
  | .fabric => t.fabric = s.fabric
  | .reqs => t.reqs = s.reqs
  | .keys => t.keys = s.keys
  | .motion => t.motion = s.motion
  | .seq => t.seq = s.seq
  | .herd => t.herd = s.herd
  | .sup => t.sup = s.sup
  | .batt => t.batt = s.batt
  | .drive => t.drive = s.drive
  | .therm => t.therm = s.therm
  | .hedge => t.hedge = s.hedge
  | .bist => t.bist = s.bist
  | .pmc => t.pmc = s.pmc
  | .ring => t.ring = s.ring
  | .mbox => t.mbox = s.mbox
  | .flash => t.flash = s.flash
  | .plans => t.plans = s.plans
  | .rdata => t.rdata = s.rdata
  | .block b => ∀ a : Nat, a / 4096 = b.val → t.reg a = s.reg a

/-- The registers of the blocks of `l`, numbered as in R34: 0 DEV, 1 PMC, 2 TIME, 3 KEYS, 4 MOTION, 5 HEDGE, 6 SEQ, 7 SUP, 8 BATT,
9 DRIVE, 10 THERM, 11 RING, 12 MSIX, 13 FLASH, 14 BIST, 15 MBOX. -/
def blocks (l : List (Fin 16)) : List Part := l.map Part.block

def everyBlock : List Part := blocks (List.finRange 16)

/-- The parts that a command may change; it leaves every other part as it was. A record posted changes `fabric`, a completion
`host`, `reqs`, `ring`, `mbox` and the registers of RING and MSIX, an interrupt `host` and MSIX, a Hedge node `hedge` and what
its actions reach: `drive` and the registers of DRIVE and THERM. -/
def touched : Instr → List Part
  | .powerOn .. | .powerLoss | .brownOut .. | .lpBor | .rstNAssert | .sheepdogWdtExpiry | .mgmtWdtExpiry | .lockstepMismatch |
      .blockedWrite .. | .bootTestFail .. | .bootScanDone .. | .vholdCollapse .. | .offExit .. => [.free, .dev, .time, .leash,
      .fabric, .reqs, .keys, .motion, .seq, .herd, .sup, .batt, .drive, .therm, .hedge, .bist, .pmc, .ring, .mbox, .flash,
      .plans] ++ everyBlock
  | .rstNRelease .. | .regulatorsGood .. => [.dev, .ring] ++ blocks [0]
  | .planVerifyDone .. => [.free, .host, .dev, .fabric, .reqs, .keys, .motion, .seq, .herd, .sup, .batt, .drive, .hedge, .bist,
      .ring, .mbox, .flash, .plans] ++ everyBlock
  | .reducedServiceEntry .. => [.free, .dev, .fabric, .sup, .batt, .drive, .hedge, .bist, .flash] ++ blocks [0, 7, 8, 9, 10, 14,
      15]
  | .xoGood | .pllLock => [.dev]
  | .xoFailTimeout | .pllLockTimeout => [.free, .dev, .fabric] ++ blocks [0]
  | .xt32Good => blocks [2]
  | .calComplete .. => [.free, .host, .dev, .fabric, .batt, .drive, .hedge, .bist, .pmc, .ring] ++ blocks [0, 1, 9, 10, 12, 14]
  | .fullServiceSwitch .. => [.free, .dev, .time, .fabric, .motion, .sup, .batt, .drive, .plans] ++ blocks [0, 2, 7, 8, 9, 10]
  | .swReset .. | .registerWrite .. | .holdUpRecordComplete .. | .regWrite .. | .quiesceAnswer .. | .linkL23Ready => [.free,
      .host, .dev, .time, .leash, .fabric, .reqs, .keys, .motion, .seq, .herd, .sup, .batt, .drive, .therm, .hedge, .bist, .pmc,
      .ring, .mbox, .flash, .plans] ++ everyBlock
  | .ptLoRead | .ktickLoRead => [.host, .time, .fabric, .pmc, .rdata] ++ blocks [0, 1, 12]
  | .ptmDialogue .. => [.free, .time] ++ blocks [2]
  | .leashFrameBoundary .. => [.free, .host, .dev, .leash, .fabric, .sup, .drive, .hedge, .bist, .pmc, .ring] ++ blocks [0, 1, 2,
      4, 9, 10, 12, 14]
  | .leashCeilingReached .. => [.leash] ++ blocks [2]
  | .leashClr .. => [.host, .fabric, .pmc] ++ blocks [0, 1, 2, 12]
  | .fabricHoldTimeout => [.fabric, .ring, .mbox] ++ blocks [11]
  | .matrixScan .. => [.free, .host, .dev, .fabric, .keys, .seq, .drive, .hedge, .bist, .pmc, .ring] ++ blocks [0, 1, 3, 9, 10,
      12, 14]
  | .stuckTimeout .. => [.fabric] ++ blocks [3]
  | .kennelScan .. | .diKennelWake .. => [.host, .fabric, .keys, .seq, .bist, .pmc, .ring] ++ blocks [0, 1, 3, 12]
  | .anyKeyDetect .. => [.host, .fabric, .keys, .seq, .bist, .pmc, .ring] ++ blocks [0, 1, 12]
  | .diEdge .. => [.keys] ++ blocks [3]
  | .diDebounceExpiry .. => [.host, .fabric, .keys, .seq, .drive, .hedge, .bist, .pmc, .ring] ++ blocks [0, 1, 3, 9, 10, 12]
  | .pairDiscrepancyTimeout .. => [.fabric, .drive, .hedge] ++ blocks [3, 9, 10]
  | .keysCntClr .. => [.host, .fabric, .pmc] ++ blocks [0, 1, 3, 12]
  | .encoderEdge .. | .illegalTransition .. => [.host, .fabric, .motion, .seq, .drive, .hedge, .bist, .pmc, .ring] ++ blocks [0,
      1, 4, 9, 10, 12]
  | .overspeedRelease .. | .faultHoldExpiry .. => [.fabric, .drive, .hedge] ++ blocks [4, 9, 10]
  | .encoderReport .. => [.fabric, .motion]
  | .encPosRead .. => [.host, .fabric, .pmc, .rdata] ++ blocks [0, 1, 4, 12]
  | .motionWake .. => [.host, .fabric, .motion, .seq, .bist, .pmc, .ring] ++ blocks [0, 1, 12]
  | .motionCntClr .. => [.host, .fabric, .pmc] ++ blocks [0, 1, 4, 12]
  | .cliffResult .. => [.free, .fabric, .motion, .drive, .hedge] ++ blocks [4, 9, 10]
  | .hedgeHwEval .. => [.host, .fabric, .reqs, .herd, .drive, .hedge, .ring, .mbox] ++ blocks [5, 9, 10, 11, 12]
  | .hedgeSdEval => [.free, .host, .dev, .fabric, .herd, .drive, .hedge, .bist, .pmc, .ring] ++ blocks [0, 1, 5, 9, 10, 12, 14]
  | .orderlyOffOverrun .. | .dockAccept .. | .fanStartTimeout .. | .bridgeTrip .. => [.fabric, .drive, .hedge] ++ blocks [9, 10]
  | .armExpiry .. => [.hedge]
  | .sstopMismatchClear .. | .safeStopPulseTest .. | .ssPoll .. | .ssIdentityCheck .. => [.fabric, .drive, .hedge] ++ blocks [5,
      9, 10]
  | .ssSampleProcess => [.free, .fabric, .drive, .hedge] ++ blocks [5, 9, 10]
  | .hedgeCntClr .. => [.host, .fabric, .pmc] ++ blocks [0, 1, 5, 12]
  | .heartbeat .. => [.host, .fabric, .reqs, .drive, .hedge, .ring, .mbox] ++ blocks [5, 9, 10, 11, 12]
  | .hedgeArmRelease .. => [.free, .host, .reqs, .hedge, .ring, .mbox] ++ blocks [11, 12]
  | .hedgeRelease .. => [.host, .reqs, .hedge, .ring, .mbox] ++ blocks [11, 12]
  | .softNodeSet .. | .standstillHoldEnd | .alignEnd | .observerLock | .openRampTimeout | .brakeTimeout | .coastStop |
      .coastTimeout | .motorRun .. | .motorStop .. | .fanOverride .. => [.host, .fabric, .reqs, .drive, .hedge, .ring, .mbox] ++
      blocks [9, 10, 11, 12]
  | .hedgeRead .. | .railRead .. | .batteryRead .. | .motorRead .. | .identify .. | .getStatus .. | .timeRead .. | .subscribe .. |
      .inputRead .. | .encoderRead .. | .cliffRead .. | .wakeRead .. | .selftestRead .. => [.host, .reqs, .ring, .mbox] ++
      blocks [11, 12]
  | .seqDecisionPoint .. | .rampTimeout .. | .settleDone .. | .dischargeTimeout .. | .restExpiry | .planStart | .railGroupOn .. |
      .railGroupOff .. | .faultClear .. | .herdPulseClassify .. | .herdMusterBlocked | .herdStepEdge | .herdEmptyStep |
      .herdStepTimeout | .herdDownTimeout => [.free, .host, .dev, .fabric, .reqs, .seq, .herd, .sup, .drive, .hedge, .bist,
      .ring, .mbox] ++ blocks [0, 6, 7, 9, 10, 11, 12, 14]
  | .adcMCycle .. => [.free, .host, .dev, .fabric, .sup, .drive, .therm, .hedge, .bist, .pmc, .ring] ++ blocks [0, 1, 7, 9, 10,
      12, 14]
  | .comparatorCrossing .. => [.host, .fabric, .seq, .herd, .sup, .drive, .hedge, .bist, .pmc, .ring] ++ blocks [0, 1, 6, 7, 9,
      10, 12]
  | .vinFailDecision => [.free, .fabric, .sup, .drive, .flash] ++ blocks [7, 9, 10]
  | .vinGood => [.fabric, .seq, .sup] ++ blocks [7]
  | .counterSnapshot => [.fabric, .sup] ++ blocks [7]
  | .countersRead .. | .countersClear .. => [.host, .fabric, .reqs, .sup, .ring, .mbox] ++ blocks [7, 11, 12]
  | .herdAlarmClassify => [.fabric, .herd, .drive, .hedge] ++ blocks [6, 9, 10]
  | .herdMusterStart | .herdMusterHoldExpiry => [.herd]
  | .herdAlarmQuiet => [.fabric, .herd, .drive, .hedge] ++ blocks [9, 10]
  | .herdKennelWake => [.host, .fabric, .seq, .herd, .bist, .pmc, .ring] ++ blocks [0, 1, 12]
  | .herdCntClr .. => [.host, .fabric, .pmc] ++ blocks [0, 1, 6, 12]
  | .cellSweep .. => [.free, .host, .dev, .fabric, .seq, .batt, .drive, .hedge, .bist, .pmc, .ring] ++ blocks [0, 1, 8, 9, 10, 12,
      14]
  | .currentWindow .. => [.free, .fabric, .batt, .drive, .hedge] ++ blocks [8, 9, 10]
  | .ocdTrip .. | .scdTrip .. => [.free, .host, .fabric, .seq, .batt, .drive, .hedge, .bist, .pmc, .ring] ++ blocks [0, 1, 8, 9,
      10, 12]
  | .protRetryExpiry .. | .fetFaultDetect .. => [.fabric, .drive, .hedge] ++ blocks [8, 9, 10]
  | .chargerDetect => [.fabric, .batt, .drive, .hedge] ++ blocks [8, 9, 10]
  | .gaugeUpdate | .packIdRead .. => [.free, .fabric, .batt] ++ blocks [8]
  | .gaugeSnapshot => [.fabric, .batt]
  | .coldStartRestWindow => [.fabric, .batt] ++ blocks [8]
  | .batteryLpWake .. => [.free, .host, .fabric, .seq, .bist, .pmc, .ring] ++ blocks [0, 1, 12]
  | .accLoRead => [.host, .fabric, .pmc, .rdata] ++ blocks [0, 1, 8, 12]
  | .battCntClr .. => [.host, .fabric, .pmc] ++ blocks [0, 1, 8, 12]
  | .batteryControlFet .. => [.host, .reqs, .ring, .mbox] ++ blocks [8, 11, 12]
  | .batteryControlClearProt .. => [.host, .fabric, .reqs, .batt, .drive, .hedge, .ring, .mbox] ++ blocks [8, 9, 10, 11, 12]
  | .batteryControlClearFet .. => [.host, .fabric, .reqs, .drive, .hedge, .ring, .mbox] ++ blocks [8, 9, 10, 11, 12]
  | .batteryControlBalance .. => [.host, .reqs, .batt, .ring, .mbox] ++ blocks [11, 12]
  | .batteryControlRelearn .. => [.free, .host, .fabric, .reqs, .batt, .ring, .mbox] ++ blocks [8, 11, 12]
  | .batteryControlSnapshot .. => [.host, .fabric, .reqs, .batt, .ring, .mbox] ++ blocks [11, 12]
  | .m0DecisionPoint .. => [.free, .host, .fabric, .reqs, .drive, .hedge, .ring, .mbox] ++ blocks [9, 10, 11, 12]
  | .m0PwmPeriod .. => [.free, .drive] ++ blocks [9]
  | .m0HwFault .. => [.drive] ++ blocks [9]
  | .gateTestEnd .. => [.host, .fabric, .reqs, .drive, .hedge, .ring, .mbox] ++ blocks [9, 10, 11, 12, 14]
  | .driveCntClr .. => [.host, .fabric, .pmc] ++ blocks [0, 1, 9, 12]
  | .fanStart .. | .fanLock .. | .fanLockLost .. | .fanCoastEnd .. | .vfanUndervoltage .. | .fanRetryAttempt .. | .fanSlowTimer ..
      | .tachLostTimer .. | .fanOverrideExpiry .. | .tachEdge .. => [.fabric, .drive] ++ blocks [9, 10]
  | .zoneUpdate => [.free, .host, .fabric, .reqs, .drive, .therm, .hedge, .ring, .mbox] ++ blocks [9, 10, 11, 12]
  | .hostZoneTimeout => [.fabric, .drive, .therm, .hedge] ++ blocks [9, 10]
  | .dieTempWake | .wakePinAssert | .dockWake .. | .alarmMatch | .linkActivityWake => [.host, .fabric, .seq, .bist, .pmc, .ring]
      ++ blocks [0, 1, 12]
  | .zoneTempWrite .. => [.host, .fabric, .reqs, .therm, .ring, .mbox] ++ blocks [10, 11, 12]
  | .thermCntClr .. => [.host, .fabric, .pmc] ++ blocks [0, 1, 10, 12]
  | .freeze .. => [.ring]
  | .freezeEnd .. => [.host, .fabric, .reqs, .pmc, .ring] ++ blocks [0, 2, 11, 12]
  | .rrpOfferWrite .. | .ringCntClr .. | .gatedClr .. | .pmcCntClr .. => [.host, .fabric, .pmc] ++ blocks [0, 1, 12]
  | .contextEnable .. | .contextDisable .. => [.host, .fabric, .reqs, .pmc, .ring] ++ everyBlock
  | .contextChecksDone .. | .doorbellPoll .. | .memoryReadFail .. | .dozeReadback .. => [.host, .fabric, .reqs, .ring] ++ blocks
      [0, 11, 12]
  | .ctxEpochWrite .. => [.host, .fabric, .pmc, .ring] ++ blocks [0, 1, 11, 12]
  | .dbBaseHiWrite .. | .nudge .. => [.host, .fabric, .pmc, .ring] ++ blocks [0, 1, 12]
  | .descriptorFetch .. => [.host, .reqs, .ring] ++ blocks [11, 12]
  | .dozeEntry => [.host, .ring]
  | .streamRecordOffer .. => [.host, .fabric, .reqs, .ring, .mbox] ++ blocks [0, 11, 12]
  | .coalesceTimeout .. => [.host, .ring] ++ blocks [11, 12]
  | .msixUnmask .. => [.host, .fabric, .pmc] ++ blocks [0, 1, 11, 12]
  | .linkReset .. => [.time, .fabric, .reqs, .pmc, .ring] ++ blocks [0, 2, 11, 12]
  | .regRead .. => [.free, .host, .time, .fabric, .reqs, .pmc, .ring, .mbox, .flash] ++ blocks [0, 1, 4, 8, 11, 12]
  | .journalRead .. => [.host, .fabric, .reqs, .ring, .mbox, .flash] ++ blocks [11, 12, 13]
  | .planStage .. | .planActivate .. | .firmwareStage .. => [.host, .fabric, .reqs, .ring, .mbox, .flash, .plans] ++ blocks [11,
      12]
  | .planBackgroundVerify .. => [.plans] ++ blocks [0]
  | .powerStateRequest .. => [.host, .fabric, .reqs, .bist, .pmc, .ring, .mbox] ++ blocks [0, 1, 11, 12]
  | .selftestRun .. => [.host, .fabric, .reqs, .bist, .ring, .mbox] ++ blocks [11, 12, 14]
  | .spiWriteFrame .. | .i2cWrite .. => [.reqs, .mbox] ++ blocks [15]
  | .spiReadFrame .. | .i2cRead .. => [.mbox] ++ blocks [15]
  | .mailboxGo .. | .mailboxReply .. => [.reqs, .mbox]
  | .mailboxDoneClear .. | .evtPop .. | .mailboxErrClear .. => [.mbox]
  | .linkErrClear .. | .mailboxReady => blocks [15]
  | .mailboxWake .. => [.host, .fabric, .seq, .bist, .pmc, .ring, .mbox] ++ blocks [0, 1, 12]
  | .mboxCntClr .. => [.host, .fabric, .pmc] ++ blocks [0, 1, 12, 15]
  | .bar2Read .. => [.fabric, .flash, .rdata] ++ blocks [13]
  | .uncorrectableFetch .. => [.free, .host, .dev, .fabric, .drive, .hedge, .bist, .pmc, .ring, .flash] ++ blocks [0, 1, 9, 10,
      12, 13, 14]
  | .sectorErase .. | .programLine .. | .statusMode .. | .eraseSuspend .. | .eraseResume .. | .abortReset .. => [.free, .fabric,
      .flash] ++ blocks [13]
  | .sequenceTimeout .. => [.flash] ++ blocks [13]
  | .programDone .. | .suspendDone .. | .autoResume .. => [.flash]
  | .eraseDone .. => [.free, .host, .dev, .fabric, .reqs, .drive, .hedge, .bist, .pmc, .ring, .mbox, .flash, .plans] ++ blocks [0,
      1, 9, 10, 11, 12, 13, 14]
  | .journalAppend => [.host, .fabric, .reqs, .sup, .batt, .ring, .mbox, .flash] ++ blocks [11, 12]
  | .weakFifoRead => [.host, .fabric, .pmc, .flash, .rdata] ++ blocks [0, 1, 12]
  | .flashCntClr .. => [.host, .fabric, .pmc] ++ blocks [0, 1, 12, 13]
  | .quiesceNoAnswer .. | .handshakeLimit => [.host, .fabric, .bist, .pmc, .ring] ++ blocks [0, 1, 12]
  | .entryEdge .. => [.host, .dev, .time, .leash, .fabric, .reqs, .keys, .motion, .sup, .batt, .drive, .pmc, .ring, .mbox, .flash]
      ++ blocks [0, 2, 4, 5, 9, 10, 11, 12]
  | .wakeEvent => [.pmc] ++ blocks [1]
  | .restartEdge .. => [.dev, .time, .leash, .fabric, .reqs, .keys, .motion, .seq, .herd, .sup, .drive, .therm, .hedge, .bist,
      .pmc, .ring] ++ blocks [0, 2, 4, 6, 7, 8, 9, 10, 11, 12]
  | .wakeClockSwitch .. => [.free, .host, .time, .fabric, .motion, .batt, .drive, .pmc, .ring, .mbox, .flash] ++ blocks [0, 1, 2,
      8, 9, 10, 12]
  | .gatedRegisterAccess .. => [.host, .fabric, .pmc, .rdata] ++ blocks [0, 1, 12]
  | .gatedAccessReport .. => [.fabric, .pmc]
  | .bistSlice .. => [.free, .host, .dev, .fabric, .reqs, .drive, .hedge, .bist, .pmc, .ring, .mbox] ++ blocks [0, 1, 4, 9, 10,
      11, 12, 14]
  | .enReadbackCheck .. | .sramEccError .. => [.free, .host, .dev, .fabric, .drive, .hedge, .bist, .pmc, .ring] ++ blocks [0, 1,
      9, 10, 12, 14]
  | .clockMonitorWindow .. => [.free, .host, .dev, .time, .fabric, .drive, .hedge, .bist, .pmc, .ring] ++ blocks [0, 1, 2, 9, 10,
      12, 14]
  | .bistCntClr .. => [.host, .fabric, .pmc] ++ blocks [0, 1, 12, 14]
  | .perstNRise => [.pmc, .ring]

end Sys2Proof.Machine
end

