-- ==== Sys2Proof/Certificates/Slice0/Obligations.lean ====
section
/-!
DEFINITION. The statements for the provers. A statement about a command is about exec on it; `∃ t, exec c s = .next t ∧ …` says
that the command completes in every state that meets the hypotheses, and with what. Rule numbers are the specification's. Where a
clause rests on a choice of the model its docstring names the log entry.
-/

open Sys2Proof Sys2Proof.Machine

/-- One step runs the command at the front of the queue on the state with the queue's rest. -/
def Obligations.StepRunsFront : Prop := ∀ (c : Instr) (s : State), step { s with pending := c :: s.pending } = exec c s

/-- The model's own choice (log entry 1): with an empty queue the block idles, and one unit of platform time passes, or one
Kennel tick in a sleep; outside reset the two clocks keep their ratio of 46875 units to 16 ticks. -/
def Obligations.IdleStep : Prop := ∀ s : State, s.pending = [] → ∃ t, step s = .next t ∧ t.pending = [] ∧ t.regs = s.regs ∧
  (s.live = false → t = s) ∧
  (s.live = true → s.asleep = true → t = { s with time.ktick := s.time.ktick + 1 }) ∧
  (s.live = true → s.asleep = false → t.time.pt = s.time.pt + 1 ∧ (s.time.kphase < 46875 →
    t.time.kphase < 46875 ∧ t.time.kphase + 46875 * (t.time.ktick - s.time.ktick).toNat = s.time.kphase + 16))

/-- Every command of the table takes the block to a next state, and leaves the queue of those that wait behind it. -/
def Obligations.EveryCommandCompletes : Prop := ∀ (c : Instr) (s : State), s.Stored →
  ∃ t, exec c s = .next t ∧ t.pending = s.pending

/-- What each command leaves alone: every part of the state that `touched` does not list for it. -/
def Obligations.CommandFrames : Prop := ∀ (c : Instr) (s t : State), s.Stored → exec c s = .next t →
  ∀ p : Part, p ∉ touched c → s.samePart t p

/-- The three sparse tables (register file, host memory, flash array) keep their canonical form in every step. -/
def Obligations.StepKeepsStored : Prop := ∀ s t : State, s.Stored → step s = .next t → t.Stored

/-- R39, R54, R63: the machine right after reset, and its tables in canonical form. Model choices: host memory reads 0 and
the flash array is blank where nothing is listed (log entries 5 and 6), the reset stands for a POR (log entry 3). -/
def Obligations.ResetState : Prop :=
  (State.reset.pending = [] ∧ State.reset.dev.stage = .boot ∧ State.reset.dev.planLoaded = false ∧ State.reset.dev.inReset = false ∧
    State.reset.time.pt = 0 ∧ State.reset.time.src = .firc ∧ State.reset.live = true ∧ State.reset.railsOn = 0 ∧
    State.reset.dev.rstOutLow = true ∧ State.reset.drive.m0.st = .stopped ∧ (∀ a, State.reset.reg a = regReset a) ∧
    State.reset.reg Reg.DEV_ID = 0x51526480 ∧ State.reset.fld Reg.DEV_RESET_CAUSE 7 0 = 1 ∧
    (∀ a, State.reset.hostByte a = 0) ∧ ∀ l, State.reset.lineAt l = none) ∧
  (State.reset.Stored)

/-- R9: a saturating counter stops at its maximum value and never wraps. -/
def Obligations.SaturatingCounters : Prop := ∀ (s : State) (a hi lo : Nat), s.Stored → hi < 32 → lo ≤ hi →
  (s.inc a hi lo).fld a hi lo = min (2 ^ (hi + 1 - lo) - 1) (s.fld a hi lo + 1) ∧
  (∀ i, i < lo ∨ hi < i → (s.inc a hi lo).flag a i = s.flag a i) ∧ s.sameRegsBut (s.inc a hi lo) [a]

/-- R54, R55: what each reset command leaves, and RST_N and the regulators releasing the reset. -/
def Obligations.ResetCommands : Prop := ∀ s : State, s.Stored →
  (∀ hv, ∃ t, exec (.powerOn hv) s = .next t ∧ t.ResetTo 1 ∧ t.dev.powered = true ∧ t.flag Reg.DEV_STRAP 0 = hv) ∧
  (s.dev.powered = true → s.sup.holdUp = none →
    ∃ t, exec .powerLoss s = .next t ∧ t.ResetTo 1 ∧ t.dev.powered = false) ∧
  (∀ hv, s.live = true → s.inSleep = false → s.inDeepSleep = false → s.dev.stage ≠ .safeHold →
    ∃ t, exec (.brownOut hv) s = .next t ∧ t.ResetTo 3 ∧ t.flag Reg.DEV_STRAP 0 = hv) ∧
  (s.live = true → (s.inSleep = true ∨ s.inDeepSleep = true) → ∃ t, exec .lpBor s = .next t ∧ t.ResetTo 4) ∧
  (s.live = true → ∃ t, exec .rstNAssert s = .next t ∧ t.ResetTo 2 ∧ t.dev.rstnLow = true) ∧
  (s.live = true → s.asleep = false → s.dev.stage ≠ .safeHold →
    (∃ t, exec .sheepdogWdtExpiry s = .next t ∧ t.ResetTo 5) ∧
    (∃ t, exec .mgmtWdtExpiry s = .next t ∧ t.ResetTo 6) ∧
    (∃ t, exec .lockstepMismatch s = .next t ∧ t.ResetTo 7) ∧
    (∃ t, exec (.blockedWrite true) s = .next t ∧ t.ResetTo 7) ∧
    (∃ t, exec (.blockedWrite false) s = .next t ∧ t.ResetTo 6)) ∧
  (s.barOpen = true → s.railsOn = 0 → s.drive.m0.st = .stopped →
    ∃ t, exec (.swReset 0xD065) s = .next t ∧ t.ResetTo 9) ∧
  (s.barOpen = true → (s.railsOn ≠ 0 ∨ s.drive.m0.st ≠ .stopped) →
    exec (.swReset 0xD065) s = .next (s.setFlag Reg.DEV_STAGE 15 true)) ∧
  (s.barOpen = true → ∀ v, v ≠ 0xD065 → exec (.swReset v) s = .next s)

/-- R57: DEV.SW_RESET. -/
def Obligations.SwReset : Prop := ∀ s : State, s.Stored → s.barOpen = true →
  ((∀ n : Fin 24, (s.seq.rail[n]).state = .off) → s.drive.m0.st = .stopped →
    ∃ t, exec (.swReset 0xD065) s = .next t ∧ t.ResetTo 9) ∧
  (((∃ n : Fin 24, (s.seq.rail[n]).state ≠ .off) ∨ s.drive.m0.st ≠ .stopped) →
    exec (.swReset 0xD065) s = .next (s.setFlag Reg.DEV_STAGE 15 true)) ∧
  ∀ v, v ≠ 0xD065 → exec (.swReset v) s = .next s

/-- R39, R41, R43, R46, R49 to R52: the release of reset, the steps of the start-up timeline, the clocks, the calibration
and the switch to full service. -/
def Obligations.StartUpAndClocks : Prop :=
  (∀ s : State, s.Stored →
    (∀ te, s.dev.powered = true → s.dev.inReset = true → s.dev.regsGood = true → s.pmc.state ≠ .off →
      ∃ t, exec (.rstNRelease te) s = .next t ∧ t.dev.inReset = false ∧ t.dev.rstnLow = false ∧ t.flag Reg.DEV_STRAP 1 = te) ∧
    (∀ te, s.dev.powered = true → s.dev.inReset = true → s.dev.rstnLow = false → s.pmc.state ≠ .off →
      ∃ t, exec (.regulatorsGood te) s = .next t ∧ t.dev.inReset = false ∧ t.dev.regsGood = true ∧ t.flag Reg.DEV_STRAP 1 = te) ∧
    (∀ te, s.dev.powered = true → s.dev.inReset = true → s.dev.rstnLow = true → s.pmc.state ≠ .off →
      exec (.regulatorsGood te) s = .next { s with dev.regsGood := true }) ∧
    (∀ code, s.live = true → s.dev.stage = .boot → s.dev.planDone = false →
      ∃ t, exec (.bootTestFail code) s = .next t ∧
        (s.flag Reg.DEV_RESET_CAUSE 23 = false → t.ResetTo 8) ∧
        (s.flag Reg.DEV_RESET_CAUSE 23 = true → t.dev.stage = .safeHold)) ∧
    (∀ heads : Vector (Option Word) 2, s.live = true → s.dev.stage = .boot → s.dev.scanDone = false →
      ((∀ k : Fin 2, s.plans.fwMarked.getLsbD k = false ∨ heads[k] = none) → ∃ t, exec (.bootScanDone heads) s = .next t ∧
        (s.flag Reg.DEV_RESET_CAUSE 23 = false → t.ResetTo 8) ∧
        (s.flag Reg.DEV_RESET_CAUSE 23 = true → t.dev.stage = .safeHold)) ∧
      (∀ (k : Fin 2) (v : Word), s.plans.fwMarked.getLsbD k = true → heads[k] = some v →
        (∀ i : Fin 192, ((s.flash.bank[k]).scan).getLsbD i = false) →
        (s.plans.fwMarked.getLsbD (1 - k).val = false ∨ (heads[1 - k]).all (fun w => w.toNat < v.toNat) = true ∨
          ∃ i : Fin 192, ((s.flash.bank[1 - k]).scan).getLsbD i = true) →
        ∃ t, exec (.bootScanDone heads) s = .next t ∧ t.dev.scanDone = true ∧ t.dev.stage = .boot ∧
          t.reg Reg.DEV_FW_VER = v ∧ t.fld Reg.DEV_BOOT_DIAG 1 0 = k.val)) ∧
    (∀ errs good k rest, s.live = true → s.dev.stage = .boot → s.dev.scanDone = true → s.dev.planDone = false →
      s.dev.planCands = k :: rest →
      (s.verifySlot k errs = 0 → exec (.planVerifyDone errs good) s =
        .next ((({ s with dev.planCands := rest }).setOutcome k 1).loadPlan k (s.slotImage k errs) good)) ∧
      (s.verifySlot k errs ≠ 0 → rest ≠ [] → exec (.planVerifyDone errs good) s =
        .next (({ s with dev.planCands := rest }).setOutcome k (s.verifySlot k errs))) ∧
      (s.verifySlot k errs ≠ 0 → rest = [] → exec (.planVerifyDone errs good) s =
        .next (({ s with dev.planCands := rest }).setOutcome k (s.verifySlot k errs)).withoutPlan)) ∧
    (∀ us, s.live = true → s.dev.stage = .boot → (s.dev.planDone = true ∨ (s.dev.scanDone = true ∧ s.dev.planCands = [])) →
      ∃ t, exec (.reducedServiceEntry us) s = .next t ∧ t.dev.stage = .reduced ∧ t.dev.calRunning = true ∧
        t.dev.reducedPt = some s.time.pt)) ∧
  (∀ s : State, s.Stored → s.live = true →
    (s.dev.xoOn = true → s.dev.xoGood = false →
      exec .xoGood s = .next { s with dev.xoGood := true, dev.pllTries := 0 } ∧
      ∃ t, exec .xoFailTimeout s = .next t ∧ t.flag Reg.DEV_STAGE 4 = true ∧ t.dev.xoOn = false) ∧
    (s.plans.xt32 = true → exec .xt32Good s = .next (s.setFlag Reg.TIME_STATUS 3 true)) ∧
    (s.dev.xoGood = true → exec .pllLock s = .next { s with dev.pllLocked := true }) ∧
    (s.dev.xoGood = true → s.dev.pllLocked = false →
      (s.dev.pllTries = 0 → exec .pllLockTimeout s = .next { s with dev.pllTries := 1 }) ∧
      (s.dev.pllTries ≠ 0 → ∃ t, exec .pllLockTimeout s = .next t ∧ t.flag Reg.DEV_STAGE 5 = true ∧ t.dev.xoOn = false)) ∧
    (∀ gain, s.dev.calRunning = true →
      (∃ t, exec (.calComplete true gain) s = .next t ∧ t.flag Reg.DEV_STAGE 11 = true ∧ t.dev.calRunning = false ∧
        t.batt.gain = gain.toInt) ∧
      (s.dev.calFails = 0 → exec (.calComplete false gain) s = .next { s with dev.calFails := 1 }) ∧
      (s.dev.calFails ≠ 0 → exec (.calComplete false gain) s =
        .next (State.classS { s with dev.calRunning := false, dev.calFails := 2 } 0x05 0xFFFF 0))) ∧
    (∀ ppm, s.dev.stage = .reduced → s.dev.xoGood = true → s.dev.pllLocked = true → s.flag Reg.DEV_STAGE 11 = true →
      s.asleep = false → s.pmc.state ≠ .waking →
      ∃ t, exec (.fullServiceSwitch ppm) s = .next t ∧ t.dev.stage = .full ∧ t.time.src = .xo ∧ t.time.pt = s.time.pt ∧
        t.time.xoSince = some s.time.pt ∧ t.reg Reg.TIME_FIRC_PPM = ppm ∧ t.flag Reg.DEV_STAGE 12 = true ∧
        t.time.ptmDue = true ∧ t.flag Reg.TIME_STATUS 5 = false))

/-- R65: the latched reads of platform time and of the Kennel tick, and what they return in Sleep. -/
def Obligations.LatchedTime : Prop := ∀ s : State, s.Stored → s.barOpen = true →
  (∃ t, exec .ptLoRead s = .next t ∧ t.rdata = image (s.ptNow.setWidth 32) ∧
    t.readWord Reg.TIME_PT_HI = (s.ptNow >>> 32).setWidth 32) ∧
  (∃ t, exec .ktickLoRead s = .next t ∧ t.rdata = image (s.time.ktick.setWidth 32) ∧
    t.readWord Reg.TIME_KTICK_HI = (s.time.ktick >>> 32).setWidth 32) ∧
  (s.asleep = true → s.ptNow = (ptAdvance s.time.ptEntry (s.fld Reg.TIME_STATUS 11 8) s.sleepTicks).1 ∧
    wfld (s.readWord Reg.TIME_STATUS) 1 0 = 2) ∧
  (s.asleep = false → s.ptNow = s.time.pt)

/-- R65: the latching read pairs, and the other reads that change state (R119, R284, R421). -/
def Obligations.LatchingReads : Prop := ∀ s : State, s.barOpen = true →
  exec .ptLoRead s = .next { s with time.ptHi := (s.ptNow >>> 32).setWidth 32, rdata := image (s.ptNow.setWidth 32) } ∧
  exec .ktickLoRead s = .next { s with time.ktickHi := (s.time.ktick >>> 32).setWidth 32,
                                       rdata := image (s.time.ktick.setWidth 32) } ∧
  (s.blockGated 8 = false → exec .accLoRead s = .next { s.setReg Reg.BATT_ACC_HI ((s.batt.acc >>> 32).setWidth 32) with
    rdata := image (s.batt.acc.setWidth 32) }) ∧
  (s.blockGated 13 = false → exec .weakFifoRead s = .next { s with flash.fifo := s.flash.fifo.drop 1,
                                                                   rdata := image (s.flash.fifo.headD 0) }) ∧
  (∀ n : Fin 4, s.blockGated 4 = false → exec (.encPosRead n) s =
    .next { ((s.setReg (Reg.MOTION_ENC_EDGE_PT_LO n) ((s.motion.enc[n]).edgePt.setWidth 32)).setReg
        (Reg.MOTION_ENC_EDGE_PT_HI n) (((s.motion.enc[n]).edgePt >>> 32).setWidth 32)).setReg
        (Reg.MOTION_ENC_INTERVAL n) (BitVec.ofNat 32 ((s.motion.enc[n]).interval s.time.pt)) with
      rdata := image (s.reg (Reg.MOTION_ENC_POS n)) })

/-- Every counter-clear register: each bit set clears its counter, the others stand, and no other register changes. -/
def Obligations.CounterClears : Prop := ∀ (s : State) (v : Word), s.Stored → s.barOpen = true →
  (∃ t, exec (.leashClr v) s = .next t ∧
    s.CountersCleared t v ((List.range 10).map fun n => (n, Reg.TIME_LEASH_OVR n, 15, 0))) ∧
  (∃ t, exec (.gatedClr v) s = .next t ∧ s.CountersCleared t v [(0, Reg.DEV_GATED_CNT, 15, 0)]) ∧
  (∃ t, exec (.pmcCntClr v) s = .next t ∧ s.CountersCleared t v [(0, Reg.PMC_CNT, 15, 0), (1, Reg.PMC_CNT, 31, 16)]) ∧
  (∃ t, exec (.ringCntClr v) s = .next t ∧
    s.CountersCleared t v [(0, Reg.DEV_NUDGE_CNT, 31, 0), (1, Reg.DEV_DOZE_CNT, 31, 0)]) ∧
  (s.blockGated 3 = false → ∃ t, exec (.keysCntClr v) s = .next t ∧ s.CountersCleared t v
    [(0, Reg.KEYS_GHOST_CNT, 15, 0), (1, Reg.KEYS_STUCK_CNT, 15, 0), (2, Reg.KEYS_PAIR_FAULT_CNT, 15, 0)]) ∧
  (s.blockGated 4 = false → ∃ t, exec (.motionCntClr v) s = .next t ∧ s.CountersCleared t v
    ((List.range 4).map (fun n => (n, Reg.MOTION_ENC_STATUS n, 31, 16)) ++
      (List.range 8).map fun n => (8 + n, Reg.MOTION_CLF_STATUS n, 31, 16))) ∧
  (s.blockGated 5 = false → ∃ t, exec (.hedgeCntClr v) s = .next t ∧ s.CountersCleared t v
    ((List.range 32).map (fun n => (0, Reg.HEDGE_RULE_TRIPS n, 15, 0)) ++
      [(1, Reg.HEDGE_DIVERGE_CNT, 15, 0), (2, Reg.HEDGE_HB_MISS, 15, 0), (3, Reg.HEDGE_SS_ERR_CNT, 31, 0),
       (4, Reg.HEDGE_SSTOP_STATUS, 31, 16)])) ∧
  (s.blockGated 6 = false → ∃ t, exec (.herdCntClr v) s = .next t ∧ s.CountersCleared t v
    [(0, Reg.SEQ_HERD_CNT_A, 15, 0), (1, Reg.SEQ_HERD_CNT_A, 31, 16), (2, Reg.SEQ_HERD_CNT_B, 15, 0),
     (3, Reg.SEQ_HERD_CNT_B, 31, 16)]) ∧
  (s.blockGated 8 = false → ∃ t, exec (.battCntClr v) s = .next t ∧ s.CountersCleared t v
    [(0, Reg.BATT_PROT_CNT_A, 15, 0), (1, Reg.BATT_PROT_CNT_A, 31, 16), (2, Reg.BATT_PROT_CNT_B, 15, 0),
     (3, Reg.BATT_PROT_CNT_B, 31, 16)]) ∧
  (s.blockGated 9 = false → ∃ t, exec (.driveCntClr v) s = .next t ∧ s.CountersCleared t v
    [(0, Reg.DRIVE_M0_CNT, 15, 0), (1, Reg.DRIVE_M0_CNT, 31, 16)]) ∧
  (s.blockGated 10 = false → ∃ t, exec (.thermCntClr v) s = .next t ∧ s.CountersCleared t v
    ((List.range 8).map (fun z => (z, Reg.THERM_ZONE_CNT z, 31, 0)) ++
      (List.range 3).map fun n => (8 + n, Reg.THERM_FAN_FCNT n, 31, 0))) ∧
  (s.blockGated 15 = false → ∃ t, exec (.mboxCntClr v) s = .next t ∧
    s.CountersCleared t v [(0, Reg.MBOX_LINK_CNT, 15, 0), (1, Reg.MBOX_LINK_CNT, 31, 16)]) ∧
  (s.blockGated 13 = false → ∃ t, exec (.flashCntClr v) s = .next t ∧
    s.CountersCleared t v [(0, Reg.FLASH_ECC_CNT, 15, 0), (1, Reg.FLASH_ECC_CNT, 31, 16)]) ∧
  (s.blockGated 14 = false → ∃ t, exec (.bistCntClr v) s = .next t ∧ s.CountersCleared t v
    ((List.range 15).map (fun n => (0, Reg.BIST_TEST_CNT n, 31, 0)) ++ [(1, Reg.BIST_SRAM_ECC, 31, 0)]))

/-- R71, R79 to R82: a completed PTM dialogue, a reached ceiling and a frame boundary. -/
def Obligations.TimeAndLeash : Prop := ∀ s : State, s.Stored → s.live = true → s.asleep = false →
  (∀ x, s.ring.pcie.ptmEn = true → s.fullService = true → s.ring.linkUp = true → s.pmc.state ≠ .waking →
    (∃ t, exec (.ptmDialogue true x) s = .next t ∧ t.reg Reg.TIME_PTM_SEQ = s.reg Reg.TIME_PTM_SEQ + 2 ∧
      t.reg Reg.TIME_PTM_PT_LO = x.pt.setWidth 32 ∧ t.reg Reg.TIME_PTM_PT_HI = (x.pt >>> 32).setWidth 32 ∧
      t.reg Reg.TIME_PTM_HOST_LO = x.host.setWidth 32 ∧ t.reg Reg.TIME_PTM_HOST_HI = (x.host >>> 32).setWidth 32 ∧
      t.reg Reg.TIME_PTM_DELAY = x.delay ∧ t.time.ptmDone = s.time.ptmDone + 1 ∧ t.time.ptmDue = false ∧
      (1 ≤ s.time.ptmDone → t.flag Reg.TIME_STATUS 5 = true)) ∧
    exec (.ptmDialogue false x) s = .next { s with time.ptmDue := true }) ∧
  (∀ a : Fin 10, (a = 9 → s.flag Reg.DEV_STRAP 1 = true) →
    exec (.leashCeilingReached a false) s = .next (s.setFlag Reg.TIME_LEASH_HELD a true) ∧
    ∃ t, exec (.leashCeilingReached a true) s = .next t ∧ t.flag Reg.TIME_LEASH_HELD a = true ∧
      t.leash.heldPending.getLsbD a = true) ∧
  (s.flag Reg.DEV_STRAP 1 = false → ∀ pending, exec (.leashCeilingReached 9 pending) s = .next s) ∧
  (∀ x, ∃ t, exec (.leashFrameBoundary x) s = .next t ∧ t.reg Reg.TIME_LEASH_HELD = 0 ∧
    t.leash.heldPending = 0 ∧ t.leash.partialFrame = false ∧ (x.shadow = 0 → t.hedge.snap = some s.hedge.last) ∧
    (∀ a : Fin 10, t.reg (Reg.TIME_LEASH_OVR a) = if s.leash.heldPending.getLsbD a
      then satInc (s.reg (Reg.TIME_LEASH_OVR a)) 15 0 else s.reg (Reg.TIME_LEASH_OVR a)) ∧
    (s.leash.partialFrame = false → ∀ a : Fin 10, s.flag Reg.TIME_LEASH_HELD a = true → (a = 9 → s.flag Reg.DEV_STRAP 1 = true) →
      s.fld (Reg.TIME_LEASH_CEIL a) 16 0 ≤ (t.reg (Reg.TIME_LEASH_USED a)).toNat ∧
      (t.reg (Reg.TIME_LEASH_USED a)).toNat ≤ s.fld (Reg.TIME_LEASH_CEIL a) 16 0 + 15))

/-- R89 to R95, R103, R106, R107, R109 to R111: what each command of the key matrix and the direct inputs does where it applies,
and that it does nothing where it does not. -/
def Obligations.KeysCommands : Prop := ∀ s : State, s.Stored →
  (∀ x, (s.scanOn = true → ∃ t, exec (.matrixScan x) s = .next t ∧ t.keys.prev = x.closed ∧ t.time = s.time ∧
      (∀ n : Fin 256, t.flag (Reg.KEYS_STATE (n / 32)) (16 * (n / 16 % 2) + n % 16) = (t.key n).accepted) ∧
      (s.flag Reg.KEYS_CTRL 1 = true → s.keys.wakePt = none → s.failedLines x = 0 → ∀ n : Fin 256,
        (s.keyLive n = false → t.key n = s.key n) ∧
        (s.keyLive n = true → (t.key n).accepted = ((s.debounce n ((x.closed.getD (n / 16) 0).getLsbD (n % 16))
          (s.time.pt + BitVec.ofNat 64 (n.val / 16 * 3000 + 96 * s.fld Reg.KEYS_CTRL 20 16))).key n).accepted))) ∧
    (s.scanOn = false → exec (.matrixScan x) s = .next s)) ∧
  (∀ n : Fin 256, s.keyRole n ≠ 0 → s.keyStuck n = false →
    ((s.key n).accepted = true ∨ s.keys.withheld n = true ∨ s.keys.inJudgement n = true →
      ∃ t, exec (.stuckTimeout n) s = .next t ∧ t.keyStuck n = true ∧
        t.reg Reg.KEYS_STUCK_CNT = satInc (s.reg Reg.KEYS_STUCK_CNT) 15 0 ∧ t.keys = s.keys ∧ t.hedge = s.hedge) ∧
    ((s.key n).accepted = false → s.keys.withheld n = false → s.keys.inJudgement n = false →
      exec (.stuckTimeout n) s = .next s)) ∧
  (s.inSleep = true →
    (∀ c, ∃ t, exec (.kennelScan c) s = .next t ∧ t.time = s.time ∧ t.hedge = s.hedge) ∧
    (∃ t, exec (.kennelScan (Vector.replicate 16 0)) s = .next t ∧ t.pmc = s.pmc ∧ t.keys.wakePt = s.keys.wakePt) ∧
    ∀ n : Fin 256, ∀ x, x = Vector.ofFn (fun d : Fin 16 => if d.val = n / 16 then BitVec.ofNat 16 (2 ^ (n.val % 16)) else 0) →
      s.keyLive n = true → s.keyWake n = true → s.keyStuck n = false → (s.key n).sleptOpen = true →
      ((s.key n).kRun = 0 → ∃ t, exec (.kennelScan x) s = .next t ∧ (t.key n).kRun = 1 ∧ t.pmc = s.pmc) ∧
      ((s.key n).kRun = 1 → s.flag Reg.PMC_WAKE_EN 1 = true → ∃ t, exec (.kennelScan x) s = .next t ∧ s.WokenBy t 0x02 0)) ∧
  (s.inSleep = false → ∀ c, exec (.kennelScan c) s = .next s) ∧
  (∀ k : Fin 16, s.inDeepSleep = true → s.ksWatched k = true →
    (s.flag Reg.PMC_WAKE_EN 1 = true → ∃ t, exec (.anyKeyDetect k) s = .next t ∧ s.WokenBy t 0x02 0 ∧ t.keys.nodes = s.keys.nodes ∧
      t.keys.wakePt = some (s.keys.wakePt.getD s.ptNow)) ∧
    (s.flag Reg.PMC_WAKE_EN 1 = false → exec (.anyKeyDetect k) s = .next s)) ∧
  (∀ k : Fin 16, s.inDeepSleep = false ∨ s.ksWatched k = false → exec (.anyKeyDetect k) s = .next s) ∧
  (∀ (n : Fin 16) (high : Bool),
    (s.asleep = false → ∃ t, exec (.diEdge n high) s = .next t ∧ t.keys.di[n] = { s.keys.di[n] with
        level := high != s.flag (Reg.KEYS_DI_CFG n) 3, timing := true, edgePt := s.time.pt,
        firstPt := some ((s.keys.di[n]).firstPt.getD s.time.pt) } ∧
      t.flag Reg.KEYS_DI_STATE (16 + n) = (high != s.flag (Reg.KEYS_DI_CFG n) 3)) ∧
    (s.asleep = true → ∃ t, exec (.diEdge n high) s = .next t ∧ t.keys.di[n] = { s.keys.di[n] with
        level := high != s.flag (Reg.KEYS_DI_CFG n) 3 } ∧
      t.flag Reg.KEYS_DI_STATE (16 + n) = (high != s.flag (Reg.KEYS_DI_CFG n) 3)) ∧
    ∀ t, exec (.diEdge n high) s = .next t → t.keys.nodes = s.keys.nodes ∧ s.sameRegsBut t [Reg.KEYS_DI_STATE] ∧
      ∀ m : Fin 16, m ≠ n → t.keys.di[m] = s.keys.di[m]) ∧
  (∀ n : Fin 16, s.asleep = false →
    (s.diRole n ≠ 0 → (s.keys.di[n]).level ≠ (s.keys.di[n]).accepted →
      ∃ t, exec (.diDebounceExpiry n) s = .next t ∧ (t.keys.di[n]).accepted = (s.keys.di[n]).level ∧
        (t.keys.di[n]).acceptPt = s.time.pt ∧ t.flag Reg.KEYS_DI_STATE n = (s.keys.di[n]).level) ∧
    (s.diRole n ≠ 0 → (s.keys.di[n]).level = (s.keys.di[n]).accepted →
      ∃ t, exec (.diDebounceExpiry n) s = .next t ∧ (t.keys.di[n]).accepted = (s.keys.di[n]).accepted ∧
        (t.keys.di[n]).timing = false ∧ (t.keys.di[n]).firstPt = none) ∧
    (s.diRole n = 0 → exec (.diDebounceExpiry n) s = .next { s with
      keys.di := s.keys.di.set n { s.keys.di[n] with timing := false, firstPt := none } })) ∧
  (∀ k : Fin 8, s.keys.pairTiming.getLsbD k = true → s.flag Reg.KEYS_DI_PAIR_STATUS k = false →
    ∃ t, exec (.pairDiscrepancyTimeout k) s = .next t ∧ t.flag Reg.KEYS_DI_PAIR_STATUS k = true ∧
      t.reg Reg.KEYS_PAIR_FAULT_CNT = satInc (s.reg Reg.KEYS_PAIR_FAULT_CNT) 15 0 ∧
      (s.flag (Reg.KEYS_DI_CFG (2 * k)) 9 = true → t.node (32 + 2 * k) = true ∧ t.node (33 + 2 * k) = true)) ∧
  (∀ k : Fin 8, s.keys.pairTiming.getLsbD k = false → exec (.pairDiscrepancyTimeout k) s = .next s) ∧
  (∀ n : Fin 16, s.asleep = true → (s.diRole n = 3 ∨ (s.diRole n ≠ 0 ∧ s.flag (Reg.KEYS_DI_CFG n) 8 = true)) →
    ((s.inSleep = true ∨ s.inDeepSleep = true) → s.flag Reg.PMC_WAKE_EN 2 = true →
      ∃ t, exec (.diKennelWake n) s = .next t ∧ s.WokenBy t 0x03 n ∧ (t.keys.di[n]).woke = true ∧ (t.keys.di[n]).level = true) ∧
    (s.flag Reg.PMC_WAKE_EN 2 = false → ∃ t, exec (.diKennelWake n) s = .next t ∧ (t.keys.di[n]).level = true ∧
      (t.keys.di[n]).woke = (s.keys.di[n]).woke ∧ t.pmc = s.pmc))

/-- R94, R95: a node that is not in the ghost logic's hands is accepted at the D-th opposite reading in a row and not
before, and its closing PT is the sample point of the first of them. -/
def Obligations.KeyDebounce : Prop := ∀ (s : State) (n : Fin 256) (closed : Bool) (p : Time),
  s.Stored → s.keys.withheld n = false → s.keys.inJudgement n = false → closed ≠ (s.key n).accepted →
  ((s.key n).count + 1 < s.keyD (s.keyRole n) → ((s.debounce n closed p).key n).accepted = (s.key n).accepted ∧
    ((s.debounce n closed p).key n).count = (s.key n).count + 1 ∧
    ((s.debounce n closed p).key n).firstPt = some ((s.key n).firstPt.getD p)) ∧
  (s.keyD (s.keyRole n) ≤ (s.key n).count + 1 → ((s.debounce n closed p).key n).accepted = closed ∧
    (closed = true → ((s.debounce n closed p).key n).closePt = (s.key n).firstPt.getD p))

/-- R117, R119 to R123, R126, R130 to R135: what each command of the encoders and the cliff channels does where it applies. -/
def Obligations.MotionCommands : Prop := ∀ s : State, s.Stored →
  (∀ (n : Fin 4) (onB a b : Bool), s.encRuns n = true → ∃ t, exec (.encoderEdge n onB a b) s = .next t ∧
    t.reg (Reg.MOTION_ENC_POS n) = (if ((a == b) == onB) != s.flag (Reg.MOTION_ENC_CFG n) 6
      then s.reg (Reg.MOTION_ENC_POS n) + 1 else s.reg (Reg.MOTION_ENC_POS n) - 1) ∧
    (t.motion.enc[n]).edgePt = s.time.pt ∧
    t.flag (Reg.MOTION_ENC_STATUS n) 0 = (((a == b) == onB) != s.flag (Reg.MOTION_ENC_CFG n) 6) ∧
    ∀ m : Fin 4, m ≠ n → t.reg (Reg.MOTION_ENC_POS m) = s.reg (Reg.MOTION_ENC_POS m) ∧ t.motion.enc[m] = s.motion.enc[m]) ∧
  (∀ (n : Fin 4) (onB a b : Bool), s.asleep = true → ∃ t, exec (.encoderEdge n onB a b) s = .next t ∧
    (t.motion.enc[n]).kedges = min 0xFFFF ((s.motion.enc[n]).kedges + 1) ∧
    t.reg (Reg.MOTION_ENC_POS n) = s.reg (Reg.MOTION_ENC_POS n) ∧
    (s.fld (Reg.MOTION_ENC_WAKE n) 15 0 = (s.motion.enc[n]).kedges + 1 → (s.inSleep = true ∨ s.inDeepSleep = true) →
      s.flag Reg.PMC_WAKE_EN 3 = true → s.WokenBy t 0x04 n)) ∧
  (∀ n : Fin 4, s.encRuns n = true → s.flag (Reg.MOTION_ENC_STATUS n) 1 = true →
    s.fld (Reg.MOTION_ENC_OVS_REL n) 23 0 ≤ (s.motion.enc[n]).interval s.time.pt →
    ∃ t, exec (.overspeedRelease n) s = .next t ∧ t.flag (Reg.MOTION_ENC_STATUS n) 1 = false ∧
      t.hedge.nodes.getLsbD (56 + n) = false) ∧
  (∀ n : Fin 4, s.encRuns n = true → ∃ t, exec (.illegalTransition n) s = .next t ∧
    t.reg (Reg.MOTION_ENC_POS n) = s.reg (Reg.MOTION_ENC_POS n) ∧ t.flag (Reg.MOTION_ENC_STATUS n) 3 = true ∧
    t.fld (Reg.MOTION_ENC_STATUS n) 31 16 = min 0xFFFF (s.fld (Reg.MOTION_ENC_STATUS n) 31 16 + 1) ∧
    (t.motion.enc[n]).hist = [] ∧ t.flag (Reg.MOTION_ENC_STATUS n) 2 = true ∧ t.hedge.nodes.getLsbD (60 + n) = true) ∧
  (∀ n : Fin 4, s.asleep = false → ∃ t, exec (.faultHoldExpiry n) s = .next t ∧
    t.flag (Reg.MOTION_ENC_STATUS n) 2 = false ∧ t.hedge.nodes.getLsbD (60 + n) = false) ∧
  (∀ n : Fin 4, s.encRuns n = true → s.fld (Reg.MOTION_ENC_CFG n) 17 8 ≠ 0 → s.encPos n ≠ (s.motion.enc[n]).reported →
    ∃ t, exec (.encoderReport n) s = .next t ∧ (t.motion.enc[n]).reported = s.encPos n ∧ t.hedge = s.hedge ∧
      s.sameBlocks t (List.range 16)) ∧
  (∀ n : Fin 4, s.asleep = true → (s.motion.enc[n]).kedges < s.fld (Reg.MOTION_ENC_WAKE n) 15 0 →
    ∃ t, exec (.motionWake n) s = .next t ∧ (t.motion.enc[n]).kedges = s.fld (Reg.MOTION_ENC_WAKE n) 15 0 ∧
      ((s.inSleep = true ∨ s.inDeepSleep = true) → s.flag Reg.PMC_WAKE_EN 3 = true → s.WokenBy t 0x04 n)) ∧
  (∀ (n : Fin 8) (x : CliffData), s.asleep = false → s.clfRole n ≠ 0 → s.flag Reg.BIST_UNUSABLE (4 + n) = false →
    ∃ t, exec (.cliffResult n x) s = .next t ∧
      t.hedge.nodes.getLsbD (48 + n) = (decide (s.clfRole n = 2) && decide (t.fld (Reg.MOTION_CLF_STATUS n) 3 0 ≠ 0)) ∧
      t.fld (Reg.MOTION_CLF_STATUS n) 15 8 = min 255 x.ma.toNat ∧
      ∀ fs, s.fld (Reg.MOTION_CLF_CFG n) 3 2 < 3 → fs = [10000000, 50000000, 250000000].getD (s.fld (Reg.MOTION_CLF_CFG n) 3 2) 0 →
        (x.on.toNat ≤ x.off.toNat → t.fld (Reg.MOTION_CLF_RESULT n) 15 0 = 0) ∧
        (x.off.toNat + fs ≤ x.on.toNat → t.fld (Reg.MOTION_CLF_RESULT n) 15 0 = 65535) ∧
        (∀ v, v ≤ 65535 → x.on.toNat * 65535 = x.off.toNat * 65535 + v * fs → t.fld (Reg.MOTION_CLF_RESULT n) 15 0 = v) ∧
        (∀ v, v ≤ 65535 → x.off.toNat * 65535 = v * fs → t.fld (Reg.MOTION_CLF_RESULT n) 31 16 = v) ∧
        (fs ≤ x.off.toNat → t.fld (Reg.MOTION_CLF_RESULT n) 31 16 = 65535))

/-- R122: with five edges in the history the interval is the time from the fifth most recent to the latest, or the time
since the fourth most recent where that is longer, held at 0xFFFFFFFF; with fewer it is infinite. -/
def Obligations.EncoderInterval : Prop := (∀ (x : Enc) (t : Time) (a b c d e : Time), x.hist = [a, b, c, d, e] →
    x.interval t = min 0xFFFFFFFF (max (a - e).toNat (t - d).toNat)) ∧
  (∀ (x : Enc) (t : Time), x.hist.length < 5 → x.interval t = 0xFFFFFFFF) ∧
  ∀ (s : State) (n : Fin 4) (up : Bool),
    ((s.encEdge n up).motion.enc[n]).hist = (s.time.pt ::
      (if up = s.flag (Reg.MOTION_ENC_STATUS n) 0 then (s.motion.enc[n]).hist else [])).take 5

/-- R143, R147, R161 to R165: what each event of the Hedge does where it applies. -/
def Obligations.HedgeEvents : Prop := ∀ s : State, s.Stored →
  (∀ rb err, s.asleep = false → s.inSleep = false → s.inDeepSleep = false → s.hedge.release = none →
    ∃ t, exec (.hedgeHwEval rb err) s = .next t ∧ t.seq = s.seq ∧
    (∀ n : Fin 4, t.flag Reg.HEDGE_SSTOP_STATUS (4 + n) = rb.getLsbD n) ∧
    (s.hedge.armed = true → t.hedge.last.pt = s.ptNow ∧ t.hedge.last.nodes = s.hedge.nodes ∧ t.hedge.condHw = ruleBits (fun n => (s.hedge.rule[n]).cond s.hedge.nodes) ^^^ err.cond ∧
      t.hedge.latchHw = (s.hedge.latchHw ||| (t.hedge.condHw &&& s.hedge.latching)) ^^^ err.latch)) ∧
  (s.hedgeRuns = true → ∃ t, exec .hedgeSdEval s = .next t ∧ t.hedge.sdNodes = (s.hedge.snap.getD s.hedge.last).nodes ∧
    t.hedge.condSd = ruleBits (fun n => (s.hedge.rule[n]).cond (s.hedge.snap.getD s.hedge.last).nodes) ∧
    t.hedge.latchSd = s.hedge.latchSd ||| (t.hedge.condSd &&& s.hedge.latching) ||| (s.hedge.snap.getD s.hedge.last).latch ∧
    t.hedge.bootHold = false ∧ t.hedge.sleepHold = false) ∧
  (∀ g : Fin 8, s.hedgeRuns = true → s.act (9 + g) = true → s.groupDown g = false →
    ∃ t, exec (.orderlyOffOverrun g) s = .next t ∧ t.hedge.overrun.getLsbD g = true ∧ t.act 17 = true) ∧
  (∀ g : Fin 8, s.act (9 + g) = false ∨ s.groupDown g = true → exec (.orderlyOffOverrun g) s = .next s) ∧
  (∀ level, s.asleep = false → s.flag Reg.HEDGE_CTRL 0 = true → ∃ t, exec (.dockAccept level) s = .next t ∧
    t.hedge.dockLevel = level ∧ t.node 88 = (level != s.flag Reg.HEDGE_CTRL 1)) ∧
  (∀ level, s.flag Reg.HEDGE_CTRL 0 = false → exec (.dockAccept level) s = .next s) ∧
  (∀ n : Fin 32, s.hedgeRuns = true → ∃ t, exec (.armExpiry n) s = .next t ∧ (t.hedge.run[n]).arm = none ∧ t.hedge.latchHw = s.hedge.latchHw ∧
    t.hedge.latchSd = s.hedge.latchSd) ∧
  (∀ n : Fin 4, s.flag Reg.HEDGE_SSTOP_STATUS (8 + n) = true → ∃ t, exec (.sstopMismatchClear n) s = .next t ∧
    t.flag Reg.HEDGE_SSTOP_STATUS (8 + n) = false ∧ t.node (80 + n) = s.flag Reg.HEDGE_SSTOP_STATUS (12 + n)) ∧
  (∀ (n : Fin 4) (low : Bool), s.flag Reg.HEDGE_SSTOP_CFG n = true → s.sstopAsserted n = false → s.asleep = false →
    s.inSleep = false → s.inDeepSleep = false → exec (.safeStopPulseTest n low true) s = .next s ∧
    ∃ t, exec (.safeStopPulseTest n low false) s = .next t ∧ t.flag Reg.HEDGE_SSTOP_STATUS (12 + n) = (!low) ∧
      t.node (80 + n) = (s.flag Reg.HEDGE_SSTOP_STATUS (8 + n) || !low)) ∧
  (s.ssOn = true →
    (∀ rx, ∃ t, exec (.ssPoll rx) s = .next t ∧ t.hedge.sensor.rx = rx.toList ∧ t.hedge.sensor.fresh = true ∧
      t.hedge.sensor.polls = s.hedge.sensor.polls + 1) ∧
    (∀ id : Byte, s.hedge.sensor.idDue = true → ∃ t, exec (.ssIdentityCheck id) s = .next t ∧ t.hedge.sensor.polls = 0 ∧
      t.hedge.sensor.idPassed = decide ((id.toNat &&& s.fld Reg.HEDGE_SS_ID 23 16) = s.fld Reg.HEDGE_SS_ID 15 8) ∧
      t.flag Reg.HEDGE_SS_STATUS 2 = !t.hedge.sensor.idPassed ∧ (t.hedge.sensor.idPassed = false → t.node 65 = true)) ∧
    (s.hedge.sensor.fresh = true → ∃ t, exec .ssSampleProcess s = .next t ∧ t.hedge.sensor.fresh = false ∧
      t.reg Reg.HEDGE_SS_SAMPLE_XY = pack [(ofSint 16 (s.ssAxes s.hedge.sensor.rx).1, 0),
        (ofSint 16 (s.ssAxes s.hedge.sensor.rx).2.1, 16)] ∧
      t.fld Reg.HEDGE_SS_SAMPLE_Z 15 0 = ofSint 16 (s.ssAxes s.hedge.sensor.rx).2.2 ∧
      (s.node 65 = true → t.flag Reg.HEDGE_SS_STATUS 5 = s.flag Reg.HEDGE_SS_STATUS 5 ∧ t.hedge.nodes = s.hedge.nodes)))

/-- R156, R158, R159: the commands of the Hedge that the host sends. The token of an arm is a free value other than 0. A release
that nothing stands against waits for the hardware engine's next evaluation, which clears the latches or refuses. -/
def Obligations.HedgeHostCommands : Prop := ∀ (s : State) (r : Req), s.Stored →
  (∀ n : Fin 32, s.admits r 0x40 → s.hedge.release = none → (s.hedge.rule[n]).enable = true →
    (s.hedge.isLatched n = true → (s.hedge.rule[n]).policy ≠ 2 → s.hedge.condSd.getLsbD n = false →
      s.hedge.activeCauses n s.hedge.sdNodes = 0 → ∀ token, token = BitVec.ofNat 16 (s.freeVal % 65535 + 1) → token ≠ 0 ∧
      exec (.hedgeArmRelease r (BitVec.ofNat 8 n)) s =
        .next ((((s.take r 0x40).draw.setArm n (some { token := token, pt := s.time.pt, pressed := false, seen := false }))).complete r
          { status := Status.OK, result := leBytes 2 token.toNat ++ [0xFF] })) ∧
    (s.hedge.isLatched n = false → exec (.hedgeArmRelease r (BitVec.ofNat 8 n)) s =
      .next ((s.take r 0x40).complete r { status := Status.NOT_IN_STATE, result := [0, 0, 0xFF] })) ∧
    (s.hedge.isLatched n = true → (s.hedge.rule[n]).policy = 2 → exec (.hedgeArmRelease r (BitVec.ofNat 8 n)) s =
      .next ((s.take r 0x40).complete r { status := Status.LOCKED, result := [0, 0, 0xFF] })) ∧
    (s.hedge.isLatched n = true → (s.hedge.rule[n]).policy ≠ 2 → s.hedge.activeCauses n s.hedge.sdNodes ≠ 0 →
      exec (.hedgeArmRelease r (BitVec.ofNat 8 n)) s = .next ((s.take r 0x40).complete r
        { status := Status.REFUSED, result := [0, 0, BitVec.ofNat 8 (lowest128 (s.hedge.activeCauses n s.hedge.sdNodes))] }))) ∧
  (∀ (n : Fin 32) (a : HArm), (s.hedge.run[n]).arm = some a → s.admits r 0x41 → s.hedge.release = none →
    (((s.hedge.rule[n]).policy = 1 → a.seen = true) → s.hedge.condSd.getLsbD n = false →
      s.hedge.activeCauses n s.hedge.sdNodes = 0 → s.hedge.condHw.getLsbD n = false →
      s.hedge.activeCauses n s.hedge.last.nodes = 0 →
      ∃ t, exec (.hedgeRelease r (BitVec.ofNat 8 n) a.token) s = .next t ∧
        t.hedge = { s.hedge with release := some (r, n) } ∧ t.host = s.host) ∧
    (∀ token : BitVec 16, token ≠ a.token → ∃ t, exec (.hedgeRelease r (BitVec.ofNat 8 n) token) s = .next t ∧
      t.hedge.latchHw = s.hedge.latchHw ∧ t.hedge.latchSd = s.hedge.latchSd ∧ (t.hedge.run[n]).arm = none ∧
      t.hedge.release = none)) ∧
  (∀ (n : Fin 32) rb, s.hedgeRuns = true → s.hedge.release = some (r, n) →
    ((s.hedge.rule[n]).cond s.hedge.nodes = false → s.hedge.activeCauses n s.hedge.nodes = 0 →
      ∃ t, exec (.hedgeHwEval rb { cond := 0, latch := 0, act := 0 }) s = .next t ∧ t.hedge.isLatched n = false ∧
        (t.hedge.run[n]).arm = none ∧ (t.hedge.run[n]).causeA = 0 ∧ (t.hedge.run[n]).causeI = 0 ∧ t.hedge.release = none) ∧
    ((s.hedge.rule[n]).cond s.hedge.nodes = true →
      ∃ t, exec (.hedgeHwEval rb { cond := 0, latch := 0, act := 0 }) s = .next t ∧ (t.hedge.run[n]).arm = none ∧
        t.hedge.latchSd = s.hedge.latchSd ∧ t.hedge.release = none ∧
        ((s.hedge.rule[n]).latched = true → t.hedge.isLatched n = true))) ∧
  (∀ count : BitVec 16, s.admits r 0x05 → s.hbAccepts count = true →
    ∃ t, exec (.heartbeat r count) s = .next t ∧ t.node 66 = false ∧ t.flag Reg.HEDGE_HB_STATUS 16 = true ∧
      t.fld Reg.HEDGE_HB_STATUS 15 0 = count.toNat ∧ t.hedge.hbPt = s.time.pt) ∧
  (∀ count : BitVec 16, s.admits r 0x05 → s.hbAccepts count = false →
    exec (.heartbeat r count) s = .next ((s.take r 0x05).complete r { status := Status.BAD_PARAM })) ∧
  (∀ mask values : BitVec 16, s.admits r 0x43 → ∃ t, exec (.softNodeSet r mask values) s = .next t ∧
    (∀ k : Fin 16, t.node (96 + k) = if mask.getLsbD k then values.getLsbD k else s.node (96 + k)) ∧
    ∀ k, k < 96 → t.node k = s.node k)

/-- R144: the condition of a rule, literal by literal. -/
def Obligations.RuleCondition : Prop := ∀ (r : HRule) (nodes : BitVec 128), r.cond nodes = true ↔
  r.enable = true ∧ (∃ t : Fin 4, r.mask[t] ≠ 0) ∧
  ∀ t : Fin 4, r.mask[t] = 0 ∨ ∃ i, i < 128 ∧ (r.mask[t]).getLsbD i = true ∧ nodes.getLsbD i ≠ (r.pol[t]).getLsbD i

/-- R146: a built-in response asserts its actions when its node becomes active, without waiting for an evaluation. -/
def Obligations.BuiltInResponses : Prop := ∀ (s : State) (n i : Nat),
  ((n = 78 ∨ n = 67) ∧ i ∈ [0, 2, 3, 4, 5, 6, 7, 8, 17] ∨
    (n = 79 ∨ n = 89) ∧ i ∈ [0, 2, 3, 4, 5, 6, 7, 8, 9, 10, 11, 12, 13, 14, 15, 16, 20]) →
  (s.setNode n true).act i = true

/-- R22, R175, R182, R184, R185, R188, R189, R191, R214: the sequencer's commands where the engine samples nothing else, each its
own change followed by the engine's advance (`endPoint`), whose parts RailStates states; a request that the boot hold defers; and
FAULT_CLEAR. That each command is a decision point of its own is the model's reading (log entry 79). -/
def Obligations.SequencerCommands : Prop :=
  (∀ s : State, s.Stored → s.seqCalm →
    (s.startAllowed = true → s.seq.startDue = true → s.seq.st = .allOff →
      (s.startable s.seq.restGroups = 0 →
        exec .planStart s = .next (State.endPoint { s with seq.waitWake := true, seq.startDue := false })) ∧
      (s.startable s.seq.restGroups ≠ 0 → s.herdGroups = 0 → ∃ u, u = s.planStart ∧ u.seq.st = .powerUp ∧
        u.seq.target = s.seq.target ||| s.startable s.seq.restGroups ∧ u.seq.startDue = false ∧ u.seq.waitWake = false ∧
        exec .planStart s = .next u.endPoint)) ∧
    (s.seq.startDue = false →
      exec .planStart s = .next s.endPoint ∧
      (∀ x, exec (.seqDecisionPoint x) s = .next (s.seqSample x).endPoint) ∧
      (∀ (rails : BitVec 24) (f : Fin 24), s.railsHeld = false → (s.seq.st = .powerUp ∨ s.seq.st = .steady) →
        (rails &&& s.railsIn [.ramp]).getLsbD f = true →
        (∀ k : Fin 24, (rails &&& s.railsIn [.ramp]).getLsbD k = true → f ≤ k) →
        ∃ u, u = s.startFailure (rails &&& s.railsIn [.ramp]) (rails &&& s.railsIn [.ramp]) ∧ u.seq.st = .startAbort ∧
          u.seq.target = 0 ∧ u.seq.slot = 0 ∧ u.reg Reg.SEQ_LATCH = pack [(1, 31), (f.val, 8), (1, 0)] ∧
          (∀ n : Fin 24, (u.seq.rail[n]).state =
            if rails.getLsbD n = true ∧ (s.seq.rail[n]).state = .ramp then .faulted else (s.seq.rail[n]).state) ∧
          exec (.rampTimeout rails) s = .next u.endPoint) ∧
      (∀ rails : BitVec 24, s.railsHeld = true ∨ rails &&& s.railsIn [.ramp] = 0 →
        exec (.rampTimeout rails) s = .next s.endPoint) ∧
      (∀ rails : BitVec 24, ∃ u, u = s.settleDone rails ∧
        (∀ n : Fin 24, (u.seq.rail[n]).state = if s.railsHeld = false ∧ rails.getLsbD n = true ∧
          (s.seq.rail[n]).state = .settle ∧ s.keptRails.getLsbD n = true then .good else (s.seq.rail[n]).state) ∧
        exec (.settleDone rails) s = .next u.endPoint) ∧
      (∀ rails : BitVec 24, ∃ u, u = s.dischargeTimeouts rails ∧
        (∀ n : Fin 24, (u.seq.rail[n]).state =
          (if rails.getLsbD n = true ∧ (s.seq.rail[n]).state = .discharge then .off else (s.seq.rail[n]).state) ∧
          u.flag (Reg.SEQ_RAIL_STATUS n) 6 =
            (decide (rails.getLsbD n = true ∧ (s.seq.rail[n]).state = .discharge) || s.flag (Reg.SEQ_RAIL_STATUS n) 6)) ∧
        exec (.dischargeTimeout rails) s = .next u.endPoint) ∧
      (s.seq.st = .rest →
        ((s.seq.restCut = true ∨ s.flag Reg.SEQ_CTRL 0 = true) →
          (s.startAllowed = true → exec .restExpiry s =
            .next (State.planStart { s with seq.st := .allOff, seq.startDue := true }).endPoint) ∧
          (s.startAllowed = false → exec .restExpiry s =
            .next (State.endPoint { s with seq.st := .allOff, seq.startDue := true }))) ∧
        (s.seq.restCut = false → s.flag Reg.SEQ_CTRL 0 = false →
          exec .restExpiry s = .next (State.endPoint { s with seq.st := .allOff, seq.waitWake := true }))) ∧
      (∀ (r : Req) (g : BitVec 8), s.hedge.bootHold = false → s.admits r 0x10 → g ≠ 0 → g &&& ~~~s.carriedGroups = 0 →
        (∀ k : Fin 8, g.getLsbD k = true → s.act (9 + k) = false) → s.herdGroups = 0 →
        (s.seq.st = .allOff ∨ s.seq.st = .steady ∨ s.seq.st = .powerUp) → g &&& ~~~(s.groupsGood &&& s.seq.target) ≠ 0 →
        ∃ u, u = ((s.take r 0x10).groupOn r g).1 ∧ u.seq.ons = s.seq.ons ++ [(r, g)] ∧
          u.seq.target = s.seq.target ||| g ∧ u.seq.st = .powerUp ∧ exec (.railGroupOn r g) s = .next u.endPoint) ∧
      (∀ (r : Req) (g : BitVec 8), s.hedge.bootHold = false → s.admits r 0x11 → g ≠ 0 → s.herdGroups = 0 →
        s.herd.st = .herdOff → s.seq.st = .steady → g &&& s.seq.target ≠ 0 →
        ∃ u, u = ((s.take r 0x11).groupOff r g).1 ∧ u.seq.st = .powerDown ∧ u.seq.target = s.seq.target &&& ~~~g ∧
          u.seq.slot = s.seq.slot &&& ~~~g ∧ u.seq.offs = s.seq.offs ++ [(r, false)] ∧
          exec (.railGroupOff r g) s = .next u.endPoint) ∧
      (∀ (r : Req) (g : BitVec 8), s.hedge.bootHold = false → s.admits r 0x11 → g ≠ 0 → s.herdGroups = 0 →
        s.herd.st = .herdOff → s.seq.st = .steady → g &&& (s.seq.target ||| s.seq.slot) = 0 →
        exec (.railGroupOff r g) s = .next (State.endPoint ((s.take r 0x11).complete r
          { status := Status.OK, result := s.railRes 1 }))))) ∧
  (∀ (s : State) (r : Req) (g : BitVec 8), s.dev.planLoaded = true → s.hedge.bootHold = true →
    exec (.railGroupOn r g) s = .next (s.awaitTurn r 0x10) ∧ exec (.railGroupOff r g) s = .next (s.awaitTurn r 0x11) ∧
    exec (.faultClear r) s = .next (s.awaitTurn r 0x13)) ∧
  (∀ (s : State) (r : Req), s.Stored → s.seqCalm → s.seq.startDue = false → s.hedge.bootHold = false → s.admits r 0x13 →
    (s.seq.st = .startFail → ∃ u, u = (s.take r 0x13).clearStartFail.1 ∧ u.seq.st = .allOff ∧ u.seq.waitWake = true ∧
      u.reg Reg.SEQ_LATCH = 0 ∧
      (∀ n : Fin 24, (u.seq.rail[n]).state = if (s.seq.rail[n]).state = .faulted then .off else (s.seq.rail[n]).state) ∧
      exec (.faultClear r) s = .next (State.endPoint (u.complete r { status := Status.OK, result := [0, 0, 0, 0] }))) ∧
    (s.seq.st = .faultOff → s.railsIn [.discharge] = 0 → (∀ n : Fin 24, s.flag (Reg.SUP_RAIL_VALUE n) 21 = false) →
      ∃ u, u = (s.take r 0x13).clearFaultOff.1 ∧ u.seq.st = (if s.failLatched then .startFail else .allOff) ∧
        u.flag Reg.SUP_STATUS 0 = false ∧ u.node 78 = false ∧ (∀ n : Fin 24, (u.seq.rail[n]).state ≠ .faulted) ∧
        exec (.faultClear r) s = .next (State.endPoint (u.complete r
          { status := Status.OK, result := [0, 0, 0, BitVec.ofNat 8 u.seq.st.code] }))) ∧
    (s.seq.st = .faultOff → s.railsIn [.discharge] ≠ 0 → exec (.faultClear r) s = .next (State.endPoint ((s.take r 0x13).complete r
      { status := Status.BUSY, result := leBytes 3 (s.railsIn [.discharge]).toNat ++ [BitVec.ofNat 8 s.seq.st.code] }))) ∧
    (s.seq.st ≠ .startFail → s.seq.st ≠ .faultOff → exec (.faultClear r) s = .next (State.endPoint ((s.take r 0x13).complete r
      { status := Status.NOT_IN_STATE, result := [0, 0, 0, BitVec.ofNat 8 s.seq.st.code] }))))

/-- R175, R176, R180, R182, R211, R243: a rail that changes state, and only that rail, is in its new state from now on; no rail
enters RAMP while one of its prerequisites is not GOOD, and none while a Herd abort of reason 5 holds the rails; the entry to
FAULT_OFF; and the end of a power-down (the state `ALL_OFF` waits in is log entry 33). -/
def Obligations.RailStates : Prop :=
  (∀ (s : State) (n : Fin 24) (x : RailState) (cause : Nat) (ab : Bool), s.Stored →
    (s.seq.rail[n]).state ≠ x →
    (((s.setRail n x cause ab).seq.rail[n]).state = x ∧ ((s.setRail n x cause ab).seq.rail[n]).entered = s.ptNow) ∧
    (∀ m : Fin 24, m ≠ n → ((s.setRail n x cause ab).seq.rail[m]).state = (s.seq.rail[m]).state) ∧
    (∀ m : Fin 24, (s.setRail n x cause ab).reg (Reg.SUP_ON_CYCLES m) =
      if x = .good ∧ m = n then satInc (s.reg (Reg.SUP_ON_CYCLES m)) 31 0 else s.reg (Reg.SUP_ON_CYCLES m)) ∧
    (x = .ramp → ∀ m : Fin 24, m ≠ n → ((s.setRail n x cause ab).seq.rail[m]).rank = (s.seq.rail[m]).rank ∧
      (s.seq.rail[m]).rank < ((s.setRail n x cause ab).seq.rail[n]).rank) ∧
    (x = .off → ((s.setRail n x cause ab).seq.rail[n]).rank = 0 ∧ ∀ m : Fin 24, m ≠ n →
      ((s.setRail n x cause ab).seq.rail[m]).rank =
        if (s.seq.rail[n]).rank ≠ 0 ∧ (s.seq.rail[n]).rank < (s.seq.rail[m]).rank then (s.seq.rail[m]).rank - 1 else (s.seq.rail[m]).rank)) ∧
  (∀ (s : State) (n : Fin 24), s.Stored →
    (s.railsHeld = true → s.riseStep = s) ∧
    ((s.seq.rail[n]).state ≠ .ramp → (s.riseStep.seq.rail[n]).state = .ramp →
      (s.seq.rail[n]).state = .wait ∧ s.railPre n &&& ~~~s.railsGood = 0 ∧ (s.needed s.seq.target).getLsbD n = true) ∧
    ((s.seq.rail[n]).state ≠ .discharge → (s.downStep.seq.rail[n]).state = .discharge →
      s.keptRails.getLsbD n = false ∧ s.railsIn [.ramp, .settle, .good] &&& railBit n ≠ 0)) ∧
  (∀ s : State, s.Stored → s.sup.tripped ≠ 0 → s.seq.st ≠ .faultOff →
    s.enterFaultOff.seq.st = .faultOff ∧ s.enterFaultOff.seq.target = 0 ∧ s.enterFaultOff.seq.slot = 0 ∧
    s.enterFaultOff.sup.tripped = 0 ∧ ∀ n : Fin 24, (s.enterFaultOff.seq.rail[n]).state =
      if s.sup.tripped.getLsbD n then .faulted else match (s.seq.rail[n]).state with
        | .wait => .off
        | .ramp => .discharge
        | .settle => .discharge
        | .good => .discharge
        | x => x) ∧
  (∀ s : State, s.Stored → s.herdGroups = 0 →
    (s.seq.slot = 0 → s.endDown.seq.st = (if s.seq.target ≠ 0 then .steady else .allOff) ∧
      s.endDown.seq.target = s.seq.target ∧ s.endDown.seq.waitWake = (decide (s.seq.target = 0) || s.seq.waitWake)) ∧
    (s.seq.slot ≠ 0 → s.endDown.seq.st = .powerUp ∧ s.endDown.seq.target = s.seq.target ||| s.seq.slot ∧
      s.endDown.seq.slot = 0))

/-- R204, R205, R210 to R227: what each command of rail supervision, of the hold-up sequence and of the rail counters does
where it applies. -/
def Obligations.SupervisionCommands : Prop :=
  (∀ s : State, s.Stored →
    (∀ x : AdcCycle, s.adcRuns = true → ∃ t, exec (.adcMCycle x) s = .next t ∧
      t.reg Reg.SUP_SUPPLY = pack [(x.vhold.toNat, 16), (x.vin.toNat, 0)] ∧ t.sup.cycle = (s.sup.cycle + 1) % 32 ∧
      t.flag Reg.SUP_STATUS 6 = decide (100 * s.fld Reg.SUP_HOLD_CFG 6 0 ≤ x.vhold.toNat)) ∧
    (∀ (uv ov : BitVec 24) (n : Fin 24), s.dev.planLoaded = true → s.dev.inReset = false → s.pmc.state ≠ .off → s.asleep = false →
      s.flag Reg.SUP_STATUS 0 = false → s.railsInUse.getLsbD n = true → s.railsGood.getLsbD n = true →
      (uv.getLsbD n = true ∨ ov.getLsbD n = true) → ∃ t, exec (.comparatorCrossing uv ov) s = .next t ∧
        t.flag Reg.SUP_STATUS 0 = true ∧ t.node 78 = true ∧ t.act 17 = true ∧ t.sup.tripped.getLsbD n = true ∧
        ∀ m : Fin 24, t.enable m = false) ∧
    (s.dev.powered = true → s.dev.inReset = false → s.pmc.state ≠ .off → s.flag Reg.SUP_STATUS 4 = true →
      (s.flag Reg.SUP_STATUS 3 = true → ∃ t, exec .vinFailDecision s = .next t ∧ t.flag Reg.SUP_STATUS 2 = true ∧
        t.flag Reg.SUP_STATUS 3 = false ∧ t.fld Reg.SUP_VIN_FAIL_CNT 15 0 = min 0xFFFF (s.fld Reg.SUP_VIN_FAIL_CNT 15 0 + 1) ∧
        t.sup.vinLow = true ∧ t.sup.vinHold = true ∧ t.sup.holdUp ≠ none ∧ ∀ m : Fin 24, t.enable m = false) ∧
      (s.flag Reg.SUP_STATUS 3 = false → ∃ t, exec .vinGood s = .next t ∧ t.flag Reg.SUP_STATUS 2 = false ∧
        t.flag Reg.SUP_STATUS 3 = true ∧ t.flag Reg.SUP_STATUS 5 = false ∧ t.sup.vinLow = false ∧ t.sup.vinHold = false)) ∧
    (s.sup.holdUp ≠ none →
      (∃ t, exec (.holdUpRecordComplete true) s = .next t ∧ t.flag Reg.SUP_STATUS 5 = true ∧ t.sup.holdUp = none) ∧
      (∃ t, exec (.holdUpRecordComplete false) s = .next t ∧ t.ResetTo 1 ∧ t.dev.powered = false) ∧
      (∀ hv, ∃ t, exec (.vholdCollapse true hv) s = .next t ∧ t.ResetTo 1 ∧ t.flag Reg.DEV_STRAP 0 = hv) ∧
      ∀ hv, ∃ t, exec (.vholdCollapse false hv) s = .next t ∧ t.ResetTo 1 ∧ t.dev.powered = false) ∧
    (s.dev.planLoaded = true → s.inSleepOrWake = false → s.dev.inReset = false → s.fld Reg.SUP_CTRL 31 24 ≤ s.snapAge →
      s.flag Reg.SUP_CNT_STATUS 16 = true → ∃ t, exec .counterSnapshot s = .next t ∧ t.sup.snapNo = s.sup.snapNo + 1 ∧
        t.flag Reg.SUP_CNT_STATUS 16 = false)) ∧
  (∀ (s : State) (r : Req) (rails : BitVec 24), s.Stored → s.asleep = false →
    (∀ (b : BufBlock) (flags : Byte), s.admits r 0x14 → bufBad r b (8 + 20 * count128 (rails.setWidth 128)) = false →
      (flags.getLsbD 0 = false → exec (.countersRead r b rails flags) s =
        .next ((s.take r 0x14).complete r (structReply r b (s.countersBytes rails) []))) ∧
      (flags.getLsbD 0 = true → ∃ t, exec (.countersRead r b rails flags) s = .next t ∧
        t.sup.waits = s.sup.waits ++ [(s.sup.snapNo, r, structReply r b (s.countersBytes rails) [])] ∧
        t.flag Reg.SUP_CNT_STATUS 16 = false)) ∧
    (∀ counters : Byte, s.admits r 0x15 → rails &&& ~~~s.railsInUse = 0 → counters ≠ 0 → (rails ≠ 0 ∨ counters = 0x80) →
      ∃ t, exec (.countersClear r rails counters) s = .next t ∧
        t.sup.waits = s.sup.waits ++ [(s.sup.snapNo, r, { status := Status.OK })] ∧
        (∀ n : Fin 24, ∀ e ∈ [(0, Reg.SUP_RAIL_CNT_W n, 15, 0), (1, Reg.SUP_RAIL_CNT_W n, 31, 16), (2, Reg.SUP_RAIL_CNT_F n, 15, 0),
            (3, Reg.SUP_RAIL_CNT_F n, 31, 16), (4, Reg.SUP_RAIL_CNT_S n, 15, 0), (5, Reg.SUP_RAIL_CNT_S n, 31, 16),
            (6, Reg.SUP_ON_CYCLES n, 31, 0)],
          t.fld e.2.1 e.2.2.1 e.2.2.2 = if rails.getLsbD n && counters.getLsbD e.1 then 0 else s.fld e.2.1 e.2.2.1 e.2.2.2) ∧
        t.fld Reg.SUP_VIN_FAIL_CNT 15 0 = if counters.getLsbD 7 then 0 else s.fld Reg.SUP_VIN_FAIL_CNT 15 0))

/-- R207: the undervoltage warning sets below its level and counts, clears at the level plus the hysteresis, and otherwise
stands; a level of 0 disables it. -/
def Obligations.RailWarning : Prop := ∀ (s : State) (n : Fin 24), s.Stored →
  (s.fld (Reg.SUP_RAIL_WTH n) 15 0 = 0 → s.judgeUv n = s) ∧
  (s.flag (Reg.SUP_RAIL_VALUE n) 16 = false → s.railValue n < s.fld (Reg.SUP_RAIL_WTH n) 15 0 →
    (s.judgeUv n).flag (Reg.SUP_RAIL_VALUE n) 16 = true ∧
    (s.judgeUv n).reg (Reg.SUP_RAIL_CNT_W n) = satInc (s.reg (Reg.SUP_RAIL_CNT_W n)) 15 0) ∧
  (s.flag (Reg.SUP_RAIL_VALUE n) 16 = false → s.fld (Reg.SUP_RAIL_WTH n) 15 0 ≤ s.railValue n → s.judgeUv n = s) ∧
  (s.flag (Reg.SUP_RAIL_VALUE n) 16 = true → s.fld (Reg.SUP_RAIL_WTH n) 15 0 ≠ 0 →
    s.fld (Reg.SUP_RAIL_WTH n) 15 0 + s.fld (Reg.SUP_RAIL_WHYST n) 15 0 ≤ s.railValue n →
    (s.judgeUv n).flag (Reg.SUP_RAIL_VALUE n) 16 = false ∧
    (s.judgeUv n).reg (Reg.SUP_RAIL_CNT_W n) = s.reg (Reg.SUP_RAIL_CNT_W n)) ∧
  (s.flag (Reg.SUP_RAIL_VALUE n) 16 = true →
    s.railValue n < s.fld (Reg.SUP_RAIL_WTH n) 15 0 + s.fld (Reg.SUP_RAIL_WHYST n) 15 0 →
    (s.judgeUv n).regs = s.regs ∧ (s.judgeUv n).fabric = s.fabric)

/-- R237 to R247: what each command of the Herd line does where it applies and the engine samples nothing else; the engine's
advance (`endPoint`) ends each. A start failure is latched as kind 4 unless one is latched already, and a shutdown or latched
state stands (log entry 35). -/
def Obligations.HerdCommands : Prop :=
  (∀ s : State, s.Stored → s.herdRuns = true →
    (s.herdLead = true → s.herd.st = .herdOff → s.herd.requested = true → s.herdPulsing = false →
      exec .herdMusterStart s = .next { s with herd.lowUntil := s.ptNow + 480 }) ∧
    exec .herdMusterHoldExpiry s = .next { s with herd.holdOff := false } ∧
    (s.seqCalm → s.seq.startDue = false →
      (s.herdLead = true → s.herd.st = .herdOff → s.herd.requested = true → ∃ u, u = s.musterBlocked ∧
        u.herd.requested = false ∧ u.seq.target = 0 ∧ u.seq.slot = 0 ∧ u.flag Reg.SEQ_LATCH 31 = true ∧
        (s.failLatched = false → u.fld Reg.SEQ_LATCH 2 0 = 4) ∧ u.fld Reg.SEQ_HERD_ABORT 7 0 = 10 ∧
        u.seq.st = (if s.seq.st = .faultOff ∨ s.seq.st = .cut ∨ s.seq.st = .vinDown ∨ s.seq.st = .startFail then s.seq.st
          else .startAbort) ∧
        exec .herdMusterBlocked s = .next u.endPoint) ∧
      (s.herdWork = false → (s.herd.st = .muster ∨ s.herd.st = .stepUp) → s.herd.step < s.herdSteps →
        exec .herdStepEdge s = .next (State.endPoint
          { s with herd.st := .stepUp, herd.step := s.herd.step + 1, herd.stepPt := s.ptNow, herd.line := true })) ∧
      (s.herdWork = false → (s.herd.st = .muster ∨ s.herd.st = .stepUp) → s.herdSteps ≤ s.herd.step →
        ∃ u, u = s.stepEdge ∧ u.herd.st = .running ∧ u.seq = s.seq ∧ exec .herdStepEdge s = .next u.endPoint) ∧
      (s.herdWork = false → s.herd.st = .stepDown → 1 < s.herd.step →
        exec .herdStepEdge s = .next (State.endPoint
          { s with herd.step := s.herd.step - 1, herd.stepPt := s.ptNow, herd.line := true })) ∧
      (s.herdWork = false → s.herd.st = .stepDown → s.herd.step ≤ 1 →
        ∃ u, u = s.stepEdge ∧ u.herd.st = .herdOff ∧ u.seq.offs = s.seq.offs.filter (fun e => !e.2) ∧
          exec .herdStepEdge s = .next u.endPoint) ∧
      (s.herdWork = false → s.herd.st ≠ .muster → exec .herdEmptyStep s = exec .herdStepEdge s) ∧
      (s.herdWork = false → s.herd.st = .stepUp → s.herd.step < s.herdSteps → exec .herdEmptyStep s = .next (State.endPoint
        { s with herd.st := .stepUp, herd.step := s.herd.step + 1, herd.stepPt := s.ptNow, herd.line := true })) ∧
      ((s.herd.st = .muster ∨ s.herd.st = .stepUp) → ∃ u, u = s.stepTimeout ∧ u.herd.st = .abort ∧ u.herd.aborting = none ∧
        u.seq.target = 0 ∧ u.seq.slot = 0 ∧ u.flag Reg.SEQ_LATCH 31 = true ∧
        u.reg Reg.SEQ_HERD_CNT_B = satInc (s.reg Reg.SEQ_HERD_CNT_B) 31 16 ∧ exec .herdStepTimeout s = .next u.endPoint) ∧
      (s.herd.st = .stepDown → ∃ u, u = s.downTimeout ∧ u.herd.st = .herdOff ∧ u.flag Reg.SEQ_HERD_STATUS 20 = true ∧
        u.reg Reg.SEQ_HERD_CNT_B = satInc (s.reg Reg.SEQ_HERD_CNT_B) 31 16 ∧
        u.seq.offs = s.seq.offs.filter (fun e => !e.2) ∧ exec .herdDownTimeout s = .next u.endPoint)) ∧
    (s.herd.st = .running → ∃ t, exec .herdAlarmClassify s = .next t ∧ t.herd.st = .alarmed ∧ t.node 67 = true ∧
      t.act 17 = true ∧ t.reg Reg.SEQ_HERD_CNT_A = satInc (s.reg Reg.SEQ_HERD_CNT_A) 31 16) ∧
    (s.herd.st = .alarmed → ∃ t, exec .herdAlarmQuiet s = .next t ∧ t.herd.st = .herdOff ∧ t.node 67 = false)) ∧
  (∀ s : State, s.Stored → s.live = true → s.herdOn = true → s.herd.st = .herdOff →
    ((s.inSleep = true ∨ s.inDeepSleep = true) → s.flag Reg.PMC_WAKE_EN 10 = true →
      ∃ t, exec .herdKennelWake s = .next t ∧ s.WokenBy t 0x0B 0) ∧
    ((s.pmc.state = .run ∨ s.pmc.state = .idle) → s.flag Reg.PMC_WAKE_EN 10 = true →
      ∃ t, exec .herdKennelWake s = .next t ∧ t.flag Reg.PMC_RUN_PENDING 10 = true) ∧
    (s.flag Reg.PMC_WAKE_EN 10 = false → exec .herdKennelWake s = .next { s with herd.line := false }))

/-- R237, R239, R246: pulses by width (in PT units of 1/96 µs) on a member that is off or running: below 1 µs nothing, 3 to 8 µs a
start or a call, the widths beside it invalid and counted; in every other state a pulse has no meaning. -/
def Obligations.HerdPulses : Prop := ∀ (s : State) (w : BitVec 24), s.Stored → s.herdRuns = true → s.seqCalm →
  s.seq.startDue = false →
  (w.toNat < 96 ∨ (s.herd.st ≠ .herdOff ∧ s.herd.st ≠ .running) →
    exec (.herdPulseClassify w) s = .next (State.endPoint { s with herd.line := true })) ∧
  (s.herd.st = .herdOff ∨ s.herd.st = .running →
    (96 ≤ w.toNat ∧ w.toNat < 288) ∨ (768 < w.toNat ∧ w.toNat < 960) →
    ∃ u, u = State.invalidPulse { s with herd.line := true } w.toNat ∧
      u.reg Reg.SEQ_HERD_CNT_B = satInc (s.reg Reg.SEQ_HERD_CNT_B) 15 0 ∧ u.herd.st = s.herd.st ∧ u.seq = s.seq ∧
      exec (.herdPulseClassify w) s = .next u.endPoint) ∧
  (288 ≤ w.toNat → w.toNat ≤ 768 →
    (s.herd.st = .herdOff → ∃ u, u = (State.herdPulse { s with herd.line := true } 2 w.toNat).muster w.toNat ∧
      u.herd.st = .muster ∧ u.herd.step = 0 ∧ u.herd.requested = false ∧
      u.reg Reg.SEQ_HERD_PULSE = pack [(w.toNat * 10 / 96, 0), (2, 16)] ∧
      (s.seq.st = .startFail → s.herdLead = true → u.herd.aborting = some 6) ∧
      (s.seq.st = .faultOff → u.herd.aborting = some 6) ∧
      exec (.herdPulseClassify w) s = .next u.endPoint) ∧
    (s.herd.st = .running → ∃ u, u = State.herdCall { s with herd.line := true } w.toNat ∧ u.herd.st = .stepDown ∧
      u.herd.step = s.herdSteps ∧ u.seq.target &&& s.herdGroups = 0 ∧
      u.reg Reg.SEQ_HERD_CNT_A = satInc (s.reg Reg.SEQ_HERD_CNT_A) 15 0 ∧
      exec (.herdPulseClassify w) s = .next u.endPoint)) ∧
  (960 ≤ w.toNat →
    (s.herd.st = .herdOff → exec (.herdPulseClassify w) s = .next (State.endPoint (State.setReg { s with herd.line := true }
      Reg.SEQ_HERD_PULSE (pack [(satN 16 (w.toNat * 10 / 96), 0), (5, 16)])))) ∧
    (s.herd.st = .running → exec (.herdPulseClassify w) s = .next (State.endPoint { s with herd.line := true })))

/-- R254 to R256, R259 to R264, R268 to R278: what each event of the battery front end and the gauge does where it applies. -/
def Obligations.BatteryEvents : Prop := ∀ s : State, s.Stored →
  (s.battRuns = true →
    (∀ x : Sweep, ∃ t, exec (.cellSweep x) s = .next t ∧ t.fld Reg.BATT_PACK_V 31 16 = x.packp.toNat ∧
      ∀ k : Fin 8, t.fld (Reg.BATT_CELL k) 15 0 = if s.nCell = 0 ∨ k.val < s.nCell then (x.cells[k]).toNat else 0) ∧
    (∀ nv : Word, (s.rShunt = 0 → exec (.currentWindow nv) s = .next (s.setReg Reg.BATT_CURRENT (BitVec.ofNat 32 s.freeVal)).draw) ∧
      (s.rShunt ≠ 0 → ∃ t, exec (.currentWindow nv) s = .next t ∧ t.batt.rem = (s.batt.rem + nv.toInt) % (s.rShunt : Int) ∧
        (s.time.src = .xo → t.batt.acc = s.batt.acc + BitVec.ofInt 64 ((s.batt.rem + nv.toInt) / (s.rShunt : Int))))) ∧
    (∀ uv, (s.flag Reg.BATT_STATUS 2 = false → ∃ t, exec (.ocdTrip uv) s = .next t ∧ t.flag Reg.BATT_STATUS 2 = true ∧
        t.reg Reg.BATT_PROT_CNT_B = satInc (s.reg Reg.BATT_PROT_CNT_B) 15 0 ∧
        t.node 76 = decide (t.prot &&& t.fld Reg.BATT_PROT_CFG 27 24 ≠ 0)) ∧
      (s.flag Reg.BATT_STATUS 2 = true → exec (.ocdTrip uv) s = .next s) ∧
      (s.flag Reg.BATT_STATUS 3 = false → ∃ t, exec (.scdTrip uv) s = .next t ∧ t.flag Reg.BATT_STATUS 3 = true ∧
        t.reg Reg.BATT_PROT_CNT_B = satInc (s.reg Reg.BATT_PROT_CNT_B) 31 16 ∧
        t.node 76 = decide (t.prot &&& t.fld Reg.BATT_PROT_CFG 27 24 ≠ 0)) ∧
      (s.flag Reg.BATT_STATUS 3 = true → exec (.scdTrip uv) s = .next s)) ∧
    (∀ scd : Bool, s.flag Reg.BATT_PROT_CFG 0 = true → s.flag Reg.BATT_STATUS 5 = false →
      ∃ t, exec (.protRetryExpiry scd) s = .next t ∧
        ∀ f : Fin 4, t.flag Reg.BATT_STATUS f = (s.flag Reg.BATT_STATUS f && decide (f.val ≠ if scd then 3 else 2))) ∧
    (∃ t, exec .chargerDetect s = .next t ∧ t.flag Reg.BATT_STATUS 14 = true ∧ t.flag Reg.BATT_STATUS 2 = false ∧
      t.flag Reg.BATT_STATUS 3 = false ∧ t.flag Reg.BATT_STATUS 5 = false) ∧
    (∀ k, s.fetFaultable k = true → ∃ t, exec (.fetFaultDetect k) s = .next t ∧
      t.flag Reg.BATT_FET_FAULT (fetIdx k) = true ∧ (s.flag Reg.BATT_FET_FAULT (fetIdx k) = false → t.node 77 = true)) ∧
    (∃ t, exec .gaugeUpdate s = .next t ∧ t.batt.secSum = 0 ∧ t.batt.secN = 0) ∧
    (s.dev.planLoaded = true → s.asleep = false → ∃ t, exec .gaugeSnapshot s = .next t ∧ t.batt.sinceSnap = s.batt.win ∧
      t.batt.snapsPosted = s.batt.snapsPosted + 1 ∧ t.batt.snapSoc = s.socNow)) ∧
  (s.batt.cold = true → s.asleep = false → ∃ t, exec .coldStartRestWindow s = .next t ∧ t.batt.cold = false ∧
    t.batt.ocvCold = !s.batt.coldBroken ∧ (s.batt.coldBroken = true → t.flag Reg.BATT_GAUGE_STATUS 1 = true)) ∧
  (∀ c, s.live = true → (s.inSleep = true ∨ s.inDeepSleep = true) → s.lpArmed c = true →
    ∃ t, exec (.batteryLpWake c) s = .next t ∧ s.WokenBy t 0x09 (lpLetter c)) ∧
  (s.dev.planLoaded = true → s.asleep = false → s.fld Reg.BATT_CFG 17 16 ≠ 0 →
    (∃ t, exec (.packIdRead none) s = .next t ∧ t.flag Reg.BATT_GAUGE_STATUS 1 = true ∧ t.batt.idKnown = s.batt.idKnown) ∧
    (∀ v : BitVec 64, s.fld Reg.BATT_CFG 17 16 = 2 → (v = 0 ∨ v = BitVec.allOnes 64) →
      exec (.packIdRead (some v)) s = exec (.packIdRead none) s) ∧
    (∀ v : BitVec 64, (s.fld Reg.BATT_CFG 17 16 = 2 → v ≠ 0 ∧ v ≠ BitVec.allOnes 64) →
      s.batt.idKnown = true → s.idMatches v.toNat = true → exec (.packIdRead (some v)) s = .next s) ∧
    ∀ v : BitVec 64, (s.fld Reg.BATT_CFG 17 16 = 2 → v ≠ 0 ∧ v ≠ BitVec.allOnes 64) →
      s.batt.idKnown = false ∨ s.idMatches v.toNat = false → ∃ t, exec (.packIdRead (some v)) s = .next t ∧
      t.reg Reg.BATT_ID_LO = v.setWidth 32 ∧ t.reg Reg.BATT_ID_HI = (v >>> 32).setWidth 32 ∧ t.batt.idKnown = true ∧
      t.fcc = s.designCap)

/-- R280, R261, R264: BATTERY_CONTROL, operation by operation, when the command is admitted. -/
def Obligations.BatteryControl : Prop := ∀ (s : State) (r : Req), s.Stored → s.asleep = false → s.admits r 0x21 →
  (∀ mask value flags : Byte, mask.getLsbD 1 = true → value.getLsbD 1 = false → s.railsOn ≠ 0 → flags.getLsbD 0 = false →
    exec (.batteryControlFet r mask value flags) s = .next ((s.take r 0x21).complete r
      { status := Status.NOT_IN_STATE, result := s.battRes false (s.fld Reg.BATT_FET_FAULT 4 0) })) ∧
  (∀ mask value flags : Byte, (mask.getLsbD 1 = false ∨ value.getLsbD 1 = true ∨ s.railsOn = 0 ∨ flags.getLsbD 0 = true) →
    (mask.getLsbD 0 = true → s.act 18 = false) → (mask.getLsbD 1 = true → s.act 19 = false) →
    ∃ t, exec (.batteryControlFet r mask value flags) s = .next t ∧
      t.flag Reg.BATT_FET 2 = (if mask.getLsbD 0 then value.getLsbD 0 else s.flag Reg.BATT_FET 2) ∧
      t.flag Reg.BATT_FET 3 = (if mask.getLsbD 1 then value.getLsbD 1 else s.flag Reg.BATT_FET 3)) ∧
  (s.prot / 4 ≠ 0 → ∃ t, exec (.batteryControlClearProt r) s = .next t ∧ t.flag Reg.BATT_STATUS 2 = false ∧
    t.flag Reg.BATT_STATUS 3 = false ∧ t.flag Reg.BATT_STATUS 5 = false) ∧
  (s.prot / 4 = 0 → exec (.batteryControlClearProt r) s = .next ((s.take r 0x21).complete r
    { status := Status.NOT_IN_STATE, result := s.battRes false (s.fld Reg.BATT_FET_FAULT 4 0) })) ∧
  (∃ t, exec (.batteryControlClearFet r 0) s = .next t ∧ t.reg Reg.BATT_FET_FAULT = 0 ∧ t.node 77 = false ∧
    t.flag Reg.BATT_STATUS 7 = false) ∧
  (∀ still : BitVec 5, still ≠ 0 → exec (.batteryControlClearFet r still) s = .next ((s.take r 0x21).complete r
    { status := Status.REFUSED, result := s.battRes false still.toNat })) ∧
  (∀ enable : Byte, enable.toNat ≤ 1 → ∃ t, exec (.batteryControlBalance r enable) s = .next t ∧
    t.batt.balCmd = some (decide (enable = 1))) ∧
  (∀ enable : Byte, 1 < enable.toNat → exec (.batteryControlBalance r enable) s =
    .next ((s.take r 0x21).complete r { status := Status.BAD_PARAM })) ∧
  (∃ t, exec (.batteryControlRelearn r) s = .next t ∧ t.fcc = s.designCap ∧ t.batt.anchor = none ∧
    t.flag Reg.BATT_GAUGE_STATUS 2 = true ∧ t.flag Reg.BATT_GAUGE_STATUS 1 = true) ∧
  (∃ t, exec (.batteryControlSnapshot r) s = .next t ∧ t.batt.snapsPosted = s.batt.snapsPosted + 1 ∧
    t.batt.waits = s.batt.waits ++ [(s.batt.snapsPosted + 1, r)])

/-- R38, R150, R257, R259, R260, R262, R264, R293, R294, R297: what holds the two pack FET outputs off, and the M0 gates low,
whatever state M0 is in. -/
def Obligations.OutputsHeldOff : Prop :=
  (∀ s : State,
    (s.flag Reg.BATT_STATUS 0 = true → s.batt.reliefChg = false → s.chgOn = false) ∧
    (s.flag Reg.BATT_STATUS 1 = true → s.batt.reliefDsg = false → s.dsgOn = false) ∧
    (s.flag Reg.BATT_STATUS 2 = true ∨ s.flag Reg.BATT_STATUS 3 = true → s.dsgOn = false ∧ s.bdDsg = false) ∧
    (s.flag Reg.BATT_FET_FAULT 0 = true ∨ s.dev.planLoaded = false ∨ s.dev.inReset = true ∨ s.hedge.bootHold = true →
      s.chgOn = false ∧ s.dsgOn = false) ∧
    (s.act 18 = true → s.chgOn = false) ∧ (s.act 19 = true → s.dsgOn = false)) ∧
  (∀ s : State,
    (s.dev.inReset = true ∨ s.dev.planLoaded = false ∨ s.asleep = true ∨ s.hedge.bootHold = true ∨ s.act 0 = true ∨
      s.sup.vinHold = true ∨ s.drive.m0.detected ≠ none ∨
      (s.drive.m0.starting = false ∧ (s.drive.m0.st = .stopped ∨ s.drive.m0.st = .fault))) → s.m0Gates = .low)

/-- R289 to R294, R298: what each event of the primary drive does where it applies. The duties of the next period are free values
within the bounds of R289 and R290 (log entry 8). -/
def Obligations.MotorEvents : Prop := ∀ s : State, s.Stored → s.m0Runs = true →
  (∀ x : M0Meas, ∃ t, exec (.m0DecisionPoint x) s = .next t ∧ t.fld Reg.DRIVE_M0_MEAS 18 0 = x.speed.toNat ∧
    t.reg Reg.DRIVE_M0_IDQ = pack [(x.id.toNat, 0), (x.iq.toNat, 16)] ∧ t.drive.m0.dropped = false ∧
    t.drive.m0.view = t.m0Words) ∧
  (∀ x : M0Meas, s.drive.m0.detected = none → s.drive.m0.starting = false → s.m0Off = true →
    (s.m0Halls = false ∨ s.drive.m0.hallRun < 2) → x.angleErr.toNat ≤ 45 → x.speed.toNat ≤ 110 * s.maxFreq →
    (s.drive.m0.st = .openRamp ∨ s.drive.m0.st = .closedLoop ∨ s.drive.m0.st = .braking) →
    ∃ t, exec (.m0DecisionPoint x) s = .next t ∧ t.drive.m0.st = .coasting) ∧
  (∀ x : M0Meas, s.drive.m0.st ≠ .fault →
    (∀ k p, s.drive.m0.detected = some (k, p) → ∃ t, exec (.m0DecisionPoint x) s = .next t ∧ t.drive.m0.st = .fault ∧
      t.drive.m0.kind = k ∧ t.node 84 = true) ∧
    (s.drive.m0.detected = none → s.m0Halls = true → 2 ≤ s.drive.m0.hallRun →
      ∃ t, exec (.m0DecisionPoint x) s = .next t ∧ t.drive.m0.st = .fault ∧ t.drive.m0.kind = 8 ∧ t.node 84 = true)) ∧
  (∀ x : M0Pwm, ∃ t, exec (.m0PwmPeriod x) s = .next t ∧
    (∃ left : Fin 3, (∀ k : Fin 3, s.drive.m0.duty[k] ≤ s.drive.m0.duty[left]) ∧
      t.drive.m0.current = pwmCurrents left x.i1.toInt x.i2.toInt) ∧
    (t.drive.m0.current[0]) + (t.drive.m0.current[1]) + (t.drive.m0.current[2]) = 0 ∧
    (∀ k : Fin 3, t.drive.m0.duty[k] ≤ s.pwmPeriod) ∧
    (∀ i k : Fin 3, i ≠ k → t.drive.m0.duty[i] ≤ s.pwmPeriod - 116 ∨ t.drive.m0.duty[k] ≤ s.pwmPeriod - 116)) ∧
  (s.drive.m0.st ≠ .fault →
    (∀ p low, s.m0Side p low = true → ∃ t, exec (.m0HwFault (.vdsOc p low)) s = .next t ∧
      t.flag Reg.DRIVE_M0_FAULT 16 = true ∧ t.m0Gates = .low ∧ t.drive.m0.detected ≠ none) ∧
    (∀ p, s.m0Conducts = true → ∃ t, exec (.m0HwFault (.shuntOc p)) s = .next t ∧ t.flag Reg.DRIVE_M0_FAULT 17 = true ∧
      t.m0Gates = .low ∧ t.drive.m0.detected ≠ none) ∧
    (∀ p, s.m0Side p false = true → ∃ t, exec (.m0HwFault (.bstUv p)) s = .next t ∧ t.flag Reg.DRIVE_M0_FAULT 19 = true ∧
      t.m0Gates = .low ∧ t.drive.m0.detected ≠ none) ∧
    (s.drive.m0.st ≠ .stopped → ∃ t, exec (.m0HwFault .vgdUv) s = .next t ∧ t.flag Reg.DRIVE_M0_FAULT 18 = true ∧
      t.m0Gates = .low ∧ t.drive.m0.detected ≠ none))

/-- R293 to R296, R298: the timers of M0's states, at decision points that sample no fault and no action, and MOTOR_RUN and
MOTOR_STOP. -/
def Obligations.MotorStates : Prop :=
  (∀ s : State, s.Stored → s.m0Calm →
    (s.drive.m0.st = .stopped → s.drive.m0.starting = true →
      (∃ t, exec (.gateTestEnd true) s = .next t ∧ t.drive.m0.st = .align ∧ t.drive.m0.hold = true ∧ t.drive.m0.starting = false ∧
        t.reg Reg.DRIVE_M0_CNT = satInc (s.reg Reg.DRIVE_M0_CNT) 15 0) ∧
      ∃ t, exec (.gateTestEnd false) s = .next t ∧ t.drive.m0.st = .fault ∧ t.drive.m0.kind = 7 ∧ t.flag Reg.BIST_UNUSABLE 3 = true) ∧
    (s.drive.m0.st = .align → s.drive.m0.hold = true →
      ∃ t, exec .standstillHoldEnd s = .next t ∧ t.drive.m0.st = (if s.m0Halls then .openRamp else .align) ∧ t.drive.m0.hold = false) ∧
    (s.drive.m0.st = .align → s.drive.m0.hold = false → ∃ t, exec .alignEnd s = .next t ∧ t.drive.m0.st = .openRamp) ∧
    (s.drive.m0.st = .align → s.drive.m0.hold = true → ∃ t, exec .alignEnd s = .next t ∧ t.drive.m0.st = .fault ∧
      t.drive.m0.kind = 5 ∧ t.node 84 = true) ∧
    (s.drive.m0.st = .openRamp → (∃ t, exec .observerLock s = .next t ∧ t.drive.m0.st = .closedLoop) ∧
      ∃ t, exec .openRampTimeout s = .next t ∧ t.drive.m0.st = .fault ∧ t.drive.m0.kind = 5 ∧ t.node 84 = true) ∧
    (s.drive.m0.st = .braking → ∃ t, exec .brakeTimeout s = .next t ∧
      t.drive.m0.st = if s.m0Speed < s.sStop then .stopped else .coasting) ∧
    (s.drive.m0.st = .coasting → (∃ t, exec .coastStop s = .next t ∧ t.drive.m0.st = .stopped ∧ t.drive.m0.stops = []) ∧
      ∃ t, exec .coastTimeout s = .next t ∧ t.drive.m0.st = .fault ∧ t.drive.m0.kind = 9 ∧ t.node 84 = true)) ∧
  (∀ (s : State) (r : Req), s.driveWaits = true →
    (∀ dir flags setpoint accel decel, exec (.motorRun r dir flags setpoint accel decel) s = .next (s.awaitTurn r 0x30)) ∧
    ∀ mode flags c, exec (.motorStop r mode flags c) s = .next (s.awaitTurn r 0x31)) ∧
  (∀ (s : State) (r : Req), s.Stored → s.m0Calm → s.drive.m0.queued = none → s.driveWaits = false →
    (∀ (dir flags : Byte) (setpoint : Word) (accel decel : BitVec 16), s.admits r 0x30 → dir.toNat ≤ 1 →
      s.sHandoff ≤ setpoint.toNat → setpoint.toNat ≤ 100 * s.maxFreq → (flags.getLsbD 0 = true → accel ≠ 0) →
      (flags.getLsbD 1 = true → decel ≠ 0) → s.runStop = none → s.drive.m0.st = .stopped → s.drive.m0.starting = false →
      ∃ t, exec (.motorRun r dir flags setpoint accel decel) s = .next t ∧ t.drive.m0.starting = true ∧
        t.drive.m0.startReq = some r ∧ t.drive.m0.run.setpoint = setpoint.toNat ∧ t.drive.m0.run.rev = dir.getLsbD 0 ∧
        t.drive.m0.st = .stopped) ∧
    (s.admits r 0x31 → s.drive.m0.st = .closedLoop → ∀ (flags : Byte) (c : Bool),
      (∃ t, exec (.motorStop r 0 flags c) s = .next t ∧ t.drive.m0.st = .closedLoop ∧ t.drive.m0.stopping = true ∧
        t.drive.m0.stops = s.drive.m0.stops ++ [r] ∧ t.drive.m0.queued = none) ∧
      (∃ t, exec (.motorStop r 1 flags c) s = .next t ∧ t.drive.m0.st = .braking ∧ t.drive.m0.stops = s.drive.m0.stops ++ [r]) ∧
      ∃ t, exec (.motorStop r 2 flags c) s = .next t ∧ t.drive.m0.st = .coasting ∧ t.drive.m0.stops = s.drive.m0.stops ++ [r]) ∧
    (s.admits r 0x31 → s.drive.m0.st = .fault → ∀ mode flags : Byte, mode.toNat ≤ 2 →
      (flags.getLsbD 0 = false → ∀ c, exec (.motorStop r mode flags c) s =
        .next ((s.take r 0x31).complete r { status := Status.NOT_IN_STATE, result := s.m0StopRes }).m0Show) ∧
      (flags.getLsbD 0 = true → exec (.motorStop r mode flags true) s =
        .next ((s.take r 0x31).complete r { status := Status.REFUSED, result := s.m0StopRes }).m0Show) ∧
      (flags.getLsbD 0 = true → s.flag Reg.BIST_UNUSABLE 3 = false → s.m0Speed < s.sStop →
        ∃ t, exec (.motorStop r mode flags false) s = .next t ∧ t.drive.m0.st = .stopped ∧
          t.fld Reg.DRIVE_M0_FAULT 3 0 = 0 ∧ t.node 84 = false)))

/-- R302, R304 to R306, R322 to R326: what each event of an enabled fan channel does where it applies: with VFAN at 4.5 V or more,
with VFAN below it, and the bridge trip and the TACH edge in either case. -/
def Obligations.FanEvents : Prop := ∀ (s : State) (n : Fin 3) (x : FanMeas), s.Stored → s.fanRuns n = true →
  (4500 ≤ x.vfan.toNat →
    ((s.fanMeas n x).fanMayStart n = true → (s.drive.fan[n]).st = .stopped →
      ((s.drive.fan[n]).seq = .none → ∃ t, exec (.fanStart n x) s = .next t ∧ (t.drive.fan[n]).st = .starting) ∧
      ((s.drive.fan[n]).seq ≠ .none → ∃ t, exec (.fanRetryAttempt n x) s = .next t ∧ (t.drive.fan[n]).st = .starting ∧
        (t.drive.fan[n]).attempt = (s.drive.fan[n]).attempt + 1)) ∧
    ((s.drive.fan[n]).st = .starting →
      (∃ t, exec (.fanLock n x) s = .next t ∧ (t.drive.fan[n]).st = (if s.fanWanted n then .running else .coasting) ∧
        (t.drive.fan[n]).seq = .none) ∧
      ∃ t, exec (.fanStartTimeout n x) s = .next t ∧ (t.drive.fan[n]).st = .stopped ∧
        t.reg (Reg.THERM_FAN_FCNT n) = satInc (s.reg (Reg.THERM_FAN_FCNT n)) 15 0) ∧
    ((s.drive.fan[n]).st = .running →
      (∃ t, exec (.fanLockLost n x) s = .next t ∧ (t.drive.fan[n]).st = .coasting ∧ (t.drive.fan[n]).seq = .stall ∧
        t.flag (Reg.DRIVE_FAN_STATUS n) 18 = false ∧
        t.reg (Reg.THERM_FAN_FCNT n) = satInc (s.reg (Reg.THERM_FAN_FCNT n)) 31 16) ∧
      (∀ cmd : BitVec 16, ∃ t, exec (.fanSlowTimer n cmd x) s = .next t ∧ t.flag (Reg.THERM_FAN_FSTATUS n) 3 =
          decide (100 * (s.fanMeas n x).measured6 n < 6 * (s.fld (Reg.THERM_FAN_FCFG n) 6 0 * cmd.toNat)) ∧
        t.flag (Reg.DRIVE_FAN_STATUS n) 16 = decide (10 * s.fld (Reg.DRIVE_FAN_START n) 23 16 ≤ x.ma.toNat)) ∧
      (s.fanTach n = true → s.flag (Reg.DRIVE_FAN_STATUS n) 18 = true →
        ∃ t, exec (.tachLostTimer n x) s = .next t ∧ t.flag (Reg.THERM_FAN_FSTATUS n) 4 = true)) ∧
    ((s.drive.fan[n]).st = .coasting →
      ((s.drive.fan[n]).retryDue = false → ∃ t, exec (.fanCoastEnd n x) s = .next t ∧ (t.drive.fan[n]).st = .stopped ∧
        t.flag (Reg.DRIVE_FAN_STATUS n) 18 = false) ∧
      ((s.drive.fan[n]).seq ≠ .none → (∃ t, exec (.fanRetryAttempt n x) s = .next t ∧ (t.drive.fan[n]).retryDue = true ∧
          (t.drive.fan[n]).st = .coasting) ∧
        ((s.drive.fan[n]).retryDue = true → (s.fanMeas n x).fanMayStart n = true → ∃ t, exec (.fanCoastEnd n x) s = .next t ∧
          (t.drive.fan[n]).st = .starting ∧ (t.drive.fan[n]).attempt = (s.drive.fan[n]).attempt + 1)))) ∧
  ((s.drive.fan[n]).st = .starting ∨ (s.drive.fan[n]).st = .running →
    (∃ t, exec (.vfanUndervoltage n x) s = .next t ∧ (t.drive.fan[n]).st = .coasting ∧ (t.drive.fan[n]).seq = .none ∧
      t.flag (Reg.DRIVE_FAN_STATUS n) 20 = true) ∧
    (x.vfan.toNat < 4500 → (∃ t, exec (.fanLock n x) s = .next t ∧ (t.drive.fan[n]).st = .coasting ∧
        (t.drive.fan[n]).seq = .none ∧ t.flag (Reg.DRIVE_FAN_STATUS n) 20 = true) ∧
      ∃ t, exec (.fanStartTimeout n x) s = .next t ∧ (t.drive.fan[n]).st = .coasting ∧
        (t.drive.fan[n]).seq = .none ∧ t.reg (Reg.THERM_FAN_FCNT n) = s.reg (Reg.THERM_FAN_FCNT n))) ∧
  (∀ hot, ∃ t, exec (.bridgeTrip n hot x) s = .next t ∧ (t.drive.fan[n]).st = .fault ∧ (t.drive.fan[n]).seq = .none ∧
    t.flag (Reg.THERM_FAN_FSTATUS n) 2 = true ∧ (s.flag (Reg.THERM_FAN_FSTATUS n) 2 = false → t.node (85 + n) = true)) ∧
  (s.fanTach n = true → ∃ t, exec (.tachEdge n x) s = .next t ∧ (t.drive.fan[n]).tachPt = some s.ptNow ∧
    ∀ p, (s.drive.fan[n]).tachPt = some p → t.fld (Reg.DRIVE_FAN_MEAS n) 31 16 =
      satN 16 (60 * 96000000 / ((s.ptNow - p).toNat * s.fanPpr n)))

/-- R314, R316 to R321, R325, R327: what each command of the thermal zones and the fan overrides does where it applies, and
the WARN and CRIT flags. -/
def Obligations.ThermalCommands : Prop :=
  (∀ s : State, s.Stored →
    (s.thermRuns = true →
      (∃ t, exec .zoneUpdate s = .next t ∧ t.therm.waits = [] ∧
        ∀ m : Int, s.zoneOn 0 = true → (s.therm.zone[(0 : Fin 8)]).invalid = false → (s.therm.zone[(0 : Fin 8)]).count ≠ 0 →
          (s.therm.zone[(0 : Fin 8)]).sum = m * (s.therm.zone[(0 : Fin 8)]).count →
          t.fld (Reg.THERM_ZONE_STATUS 0) 15 0 = ofSint 16 m ∧ t.flag (Reg.THERM_ZONE_STATUS 0) 16 = true ∧
            (t.therm.zone[(0 : Fin 8)]).count = 0) ∧
      (s.zoneOn 7 = true → s.hostDue = true → (s.therm.zone[(7 : Fin 8)]).invalid = false →
        ∃ t, exec .hostZoneTimeout s = .next t ∧ (t.therm.zone[(7 : Fin 8)]).invalid = true ∧
          t.flag (Reg.THERM_ZONE_STATUS 7) 16 = false ∧ t.fld (Reg.THERM_ZONE_STATUS 7) 31 24 = 100 ∧
          (s.flag (Reg.THERM_ZONE_CFG 7) 30 = true → s.flag (Reg.THERM_ZONE_STATUS 7) 18 = false →
            t.flag (Reg.THERM_ZONE_STATUS 7) 18 = true ∧ t.node 75 = true))) ∧
    (∀ n : Fin 3, s.thermRuns = true →
      (s.ovrOver n = true → ∃ t, exec (.fanOverrideExpiry n) s = .next t ∧ (t.drive.fan[n]).ovr = none) ∧
      (s.ovrOver n = false → exec (.fanOverrideExpiry n) s = .next s)) ∧
    (s.live = true → (s.inSleep = true ∨ s.inDeepSleep = true) → s.fld Reg.THERM_SLEEP_WAKE 7 0 ≠ 0 →
      ∃ t, exec .dieTempWake s = .next t ∧ s.WokenBy t 0x0C 0) ∧
    (∀ (r : Req) (v : BitVec 16), s.asleep = false → s.admits r 0x3A →
      (v.toInt < -400 ∨ 1500 < v.toInt → exec (.zoneTempWrite r v) s =
        .next ((s.take r 0x3A).complete r { status := Status.BAD_PARAM })) ∧
      (-400 ≤ v.toInt → v.toInt ≤ 1500 → s.dev.planLoaded = true → s.zoneOn 7 = true →
        ∃ t, exec (.zoneTempWrite r v) s = .next t ∧ t.therm.host = some v.toInt ∧ t.therm.hostPt = s.ptNow ∧
          t.therm.waits = s.therm.waits ++ [r] ∧
          ((s.therm.zone[(7 : Fin 8)]).invalid = true → t.flag (Reg.THERM_ZONE_STATUS 7) 16 = true)) ∧
      (-400 ≤ v.toInt → v.toInt ≤ 1500 → s.zoneOn 7 = false → exec (.zoneTempWrite r v) s =
        .next ((s.take r 0x3A).complete r { status := Status.NOT_IN_STATE }))) ∧
    (∀ (r : Req) mask demand flags dur hot, s.driveWaits = true →
      exec (.fanOverride r mask demand flags dur hot) s = .next (s.awaitTurn r 0x38)) ∧
    (∀ (r : Req) (mask demand flags : Byte) (dur : BitVec 16) (hot : BitVec 3), s.driveWaits = false → s.admits r 0x38 →
      fansOf mask ≠ [] → demand.toNat ≤ 100 → dur.toNat ≤ 3600 → s.dev.planLoaded = true →
      (∀ n ∈ fansOf mask, s.flag Reg.BIST_UNUSABLE n = false ∧ s.fanOn n = true) →
      (flags.getLsbD 0 = false → s.dev.stage ≠ .reduced → ∃ t, exec (.fanOverride r mask demand flags dur hot) s = .next t ∧
        ∀ n ∈ fansOf mask, (t.drive.fan[n]).ovr = if dur = 0 then none
          else some (demand.toNat, s.ptNow + BitVec.ofNat 64 (dur.toNat * 96000000))) ∧
      (flags.getLsbD 0 = true → (∀ n ∈ fansOf mask, hot.getLsbD n = false) →
        ∃ t, exec (.fanOverride r mask demand flags dur hot) s = .next t ∧
          ∀ n ∈ fansOf mask, t.fld (Reg.THERM_FAN_FSTATUS n) 2 0 = 0) ∧
      (∀ n rest, flags.getLsbD 0 = true → (fansOf mask).filter (fun n => hot.getLsbD n.val) = n :: rest →
        exec (.fanOverride r mask demand flags dur hot) s =
          .next ((s.take r 0x38).complete r { status := Status.REFUSED, result := s.fanRes n })))) ∧
  (∀ (s : State) (z : Fin 8) (b : Nat) (t : Int), s.Stored → (b = 17 ∨ b = 18) →
    (s.zoneLevel z b = none → (s.zoneJudge z b false t).flag (Reg.THERM_ZONE_STATUS z) b = false) ∧
    ∀ l, s.zoneLevel z b = some l →
      (l ≤ t → (s.zoneJudge z b false t).flag (Reg.THERM_ZONE_STATUS z) b = true) ∧
      (t < l - s.zoneHyst z → (s.zoneJudge z b false t).flag (Reg.THERM_ZONE_STATUS z) b = false) ∧
      (l - s.zoneHyst z ≤ t → t < l →
        (s.zoneJudge z b false t).flag (Reg.THERM_ZONE_STATUS z) b = s.flag (Reg.THERM_ZONE_STATUS z) b) ∧
      (b = 18 → s.flag (Reg.THERM_ZONE_STATUS z) 18 = false → l ≤ t → (s.zoneJudge z b false t).node (68 + z) = true))

/-- R315: the demand curve is held at its ends and interpolated linearly, rounded down, between neighbouring points. -/
def Obligations.DemandCurve : Prop := ∀ (pre post : List (Int × Int)) (p q : Int × Int) (t : Int),
  (pre ++ p :: q :: post).Pairwise (fun a b => a.1 < b.1) →
  (p.1 ≤ t → t < q.1 → curveDemand (pre ++ p :: q :: post) t = p.2 + (t - p.1) * (q.2 - p.2) / (q.1 - p.1)) ∧
  (pre = [] → t ≤ p.1 → curveDemand (pre ++ p :: q :: post) t = p.2) ∧
  (post = [] → q.1 ≤ t → curveDemand (pre ++ p :: q :: post) t = q.2)

/-- R336, R337, R340 to R342, R348, R352, R354, R357: what the host's writes to the ring registers do while the link is open
and the controller awake. -/
def Obligations.RingRegisters : Prop := ∀ s : State, s.Stored → s.barOpen = true → s.blockGated 0xB = false →
  (∀ v, (s.ring.anyEnabled = false → ∃ t, exec (.rrpOfferWrite v) s = .next t ∧ t.reg Reg.DEV_RRP_OFFER = v &&& 6 ∧
      t.flag Reg.DEV_RRP_ACCEPT 31 = true ∧
      t.fld Reg.DEV_RRP_ACCEPT 7 0 = if bit (v &&& BitVec.ofNat 32 (s.fld Reg.DEV_RRP_ACCEPT 23 16)) 2 then 2
        else if bit (v &&& BitVec.ofNat 32 (s.fld Reg.DEV_RRP_ACCEPT 23 16)) 1 then 1 else 0) ∧
    (s.ring.anyEnabled = true → ∃ t, exec (.rrpOfferWrite v) s = .next t ∧ t.flag Reg.DEV_RING_ERR 3 = true ∧
      t.reg Reg.DEV_RRP_OFFER = s.reg Reg.DEV_RRP_OFFER)) ∧
  (∀ c : Fin 32, (s.ring.ctx[c]).state = .disabled → ∃ t, exec (.contextEnable c) s = .next t ∧
    (t.ring.ctx[c]).state = .creating ∧ t.flag (Reg.RING_CTX_CFG c) 31 = true ∧
    ∀ d : Fin 32, d ≠ c → t.ring.ctx[d] = s.ring.ctx[d]) ∧
  (∀ c : Fin 32, (s.ring.ctx[c]).state = .active → s.frozen = false → ∃ t, exec (.contextDisable c) s = .next t ∧
    (t.ring.ctx[c]).state = .disabled ∧ t.flag (Reg.RING_CTX_CFG c) 31 = false ∧ t.inflight c = 0) ∧
  (∀ c : Fin 32, (s.ring.ctx[c]).state = .failed → ∃ t, exec (.contextDisable c) s = .next t ∧
    (t.ring.ctx[c]).state = .disabled ∧ (t.ring.ctx[c]).err = 0 ∧ t.flag (Reg.RING_CTX_CFG c) 31 = false) ∧
  (∀ (c : Fin 32) (v : Word), ((s.ring.ctx[c]).state ≠ .active ∨ s.flag Reg.DEV_FEAT1 2 = true →
      ∃ t, exec (.ctxEpochWrite c v) s = .next t ∧ t.fld (Reg.RING_CTX_EPOCH c) 15 0 = wfld v 15 0) ∧
    ((s.ring.ctx[c]).state = .active → s.flag Reg.DEV_FEAT1 2 = false → exec (.ctxEpochWrite c v) s = .next s)) ∧
  (∀ v, (s.dbWritable = true → ∃ t, exec (.dbBaseHiWrite v) s = .next t ∧
      t.ring.dbBase = some ((s.reg Reg.DEV_DB_BASE_LO).toNat + 2 ^ 32 * v.toNat) ∧
      ((s.ring.engine = .stopped ∨ s.ring.engine = .dozing) → t.ring.engine = .polling)) ∧
    (s.dbWritable = false → ∃ t, exec (.dbBaseHiWrite v) s = .next t ∧ t.flag Reg.DEV_RING_ERR 0 = true ∧
      t.ring.dbBase = s.ring.dbBase)) ∧
  (∀ v, ∃ t, exec (.nudge v) s = .next t ∧ t.fld Reg.DEV_NUDGE_CNT 15 0 = min 0xFFFF (s.fld Reg.DEV_NUDGE_CNT 15 0 + 1) ∧
    (s.inSleepOrWake = false → s.frozen = false → s.ring.engine = .dozing → t.ring.engine = .polling)) ∧
  (∀ v : Fin 34, ∃ t, exec (.msixUnmask v) s = .next t ∧ t.flag (Reg.MSIX_VCTRL v) 0 = false ∧
    (s.pba v = true → s.ring.pcie.fnMask = false → s.ring.pcie.bme = true → s.ring.pcie.msixEn = true → s.frozen = false →
      t.pba v = false ∧ t.host = (s.hostWrite ((s.reg (Reg.MSIX_ADDR_LO v)).toNat + 2 ^ 32 * (s.reg (Reg.MSIX_ADDR_HI v)).toNat)
        (image (s.reg (Reg.MSIX_DATA v)))).host))

/-- R336, R340, R341, R343, R345, R348 to R350, R353, R355, R357, R359: the ring engine's events. -/
def Obligations.RingEvents : Prop := ∀ s : State, s.Stored →
  exec (.freeze .busMaster) s = .next { s with ring.pcie.bme := false } ∧
  exec (.freeze .d3hot) s = .next { s with ring.d3hot := true } ∧
  exec (.freeze .linkDown) s = .next { s with ring.linkUp := false } ∧
  (∀ cfg, (∃ t, exec (.freezeEnd .busMaster cfg) s = .next t ∧ t.ring.pcie = { cfg with bme := true } ∧
      t.flag Reg.TIME_STATUS 4 = cfg.ptmEn) ∧
    (∃ t, exec (.freezeEnd .d3hot cfg) s = .next t ∧ t.ring.d3hot = false) ∧
    ∃ t, exec (.freezeEnd .linkDown cfg) s = .next t ∧ t.ring.linkUp = true) ∧
  (∀ (c : Fin 32) (a b : BitVec 16), (s.ring.ctx[c]).state = .creating → s.frozen = false →
    (s.ctxCheck c a.toNat b.toNat = 0 → ∃ t, exec (.contextChecksDone c a b) s = .next t ∧ (t.ring.ctx[c]).state = .active ∧
      t.reg (Reg.RING_CTX_LOST c) = 0 ∧ (s.ring.engine = .idle → t.ring.engine = .polling)) ∧
    (s.ctxCheck c a.toNat b.toNat ≠ 0 → ∃ t, exec (.contextChecksDone c a b) s = .next t ∧ (t.ring.ctx[c]).state = .failed ∧
      (t.ring.ctx[c]).err = s.ctxCheck c a.toNat b.toNat ∧ t.flag Reg.DEV_RING_ERR 2 = true)) ∧
  (∀ c : Fin 32, ((s.ring.ctx[c]).state = .active → s.frozen = false → ∃ t, exec (.memoryReadFail (.descriptor c)) s = .next t ∧
      (t.ring.ctx[c]).state = .failed ∧ (t.ring.ctx[c]).err = 7 ∧ t.inflight c = 0 ∧ t.flag Reg.DEV_RING_ERR 2 = true) ∧
    ((s.ring.ctx[c]).state = .creating → ∃ t, exec (.memoryReadFail (.slotCheck c)) s = .next t ∧
      (t.ring.ctx[c]).state = .failed ∧ (t.ring.ctx[c]).err = 7 ∧ t.flag Reg.DEV_RING_ERR 2 = true)) ∧
  (∀ what, (what = .poll ∨ what = .readback ∨ what = .reread) →
    (s.ring.engine = .polling ∨ s.ring.engine = .dozeEntry ∨ s.ring.engine = .dozing) →
    ∃ t, exec (.memoryReadFail what) s = .next t ∧ t.ring.engine = .stopped ∧ t.flag Reg.DEV_RING_ERR 1 = true) ∧
  (s.ring.engine = .polling → s.frozen = false → s.flag Reg.DEV_FEAT1 0 = true → s.dozeAllowed = true →
    s.ringIdle = true → ∃ t, exec .dozeEntry s = .next t ∧ t.ring.engine = .dozeEntry ∧ t.ring.dozeSeq = s.ring.dozeSeq + 1) ∧
  (∀ slots, s.ring.engine = .dozeEntry → s.frozen = false → (∀ c : Fin 32, (s.ring.ctx[c]).state = .disabled) →
    (s.ring.nudged = true → ∃ t, exec (.dozeReadback slots) s = .next t ∧ t.ring.engine = .polling ∧
      t.fld Reg.DEV_DOZE_CNT 31 16 = min 0xFFFF (s.fld Reg.DEV_DOZE_CNT 31 16 + 1)) ∧
    (s.ring.nudged = false → ∃ t, exec (.dozeReadback slots) s = .next t ∧ t.ring.engine = .dozing ∧
      t.fld Reg.DEV_DOZE_CNT 15 0 = min 0xFFFF (s.fld Reg.DEV_DOZE_CNT 15 0 + 1))) ∧
  (∀ slots, s.ring.engine = .polling → s.frozen = false → (∀ c : Fin 32, (s.ring.ctx[c]).state ≠ .active) →
    ∃ t, exec (.doorbellPoll slots) s = .next t ∧ t.ring.interval = min (2 * s.ring.interval) s.pollMax) ∧
  (∀ c : Fin 32, (s.ring.ctx[c]).state = .active → (s.ring.ctx[c]).coal ≠ 0 → s.frozen = false →
    ∃ t, exec (.coalesceTimeout c) s = .next t ∧ (t.ring.ctx[c]).coal = 0 ∧
      t.fld (Reg.RING_CTX_CNT c) 15 0 = if s.flag (Reg.RING_CTX_CFG c) 28 && s.sendable (2 + c)
        then min 0xFFFF (s.fld (Reg.RING_CTX_CNT c) 15 0 + 1) else s.fld (Reg.RING_CTX_CNT c) 15 0)

/-- R342 to R345, R370: a descriptor fetch, and what the positions read from a slot do to an active context. -/
def Obligations.RingFetch : Prop :=
  (∀ (s : State) (c : Fin 32), s.Stored →
    (s.ring.lastServed = c → s.ring.burst < 4 → s.canFetch c = true → s.nextFetch = some c) ∧
    ((4 ≤ s.ring.burst ∨ s.canFetch s.ring.lastServed = false) → s.canFetch c = true →
      (∀ d : Fin 32, (d.val + 31 - s.ring.lastServed.val) % 32 < (c.val + 31 - s.ring.lastServed.val) % 32 → s.canFetch d = false) →
      s.nextFetch = some c) ∧
    (s.canFetch c = false → s.nextFetch ≠ some c)) ∧
  (∀ (s : State) (c : Fin 32) (b : Vector Byte 64), s.Stored → s.nextFetch = some c →
    s.frozen = false → s.ring.engine = .polling →
    (∃ t, exec (.descriptorFetch c b) s = .next t ∧ t.ring.lastServed = c ∧ t.ring.burst ≤ 4 ∧
      (t.ring.ctx[c]).sqHead = ((s.ring.ctx[c]).sqHead + 1) % (2 * s.sqSize c) ∧
      (leAt b.toList 4 2 % 65536 ≠ s.fld (Reg.RING_CTX_EPOCH c) 15 0 → t.reqs = s.reqs ∧
        t.fld (Reg.RING_CTX_CNT c) 31 16 = min 0xFFFF (s.fld (Reg.RING_CTX_CNT c) 31 16 + 1))) ∧
    (s.isV2 c = true → leAt b.toList 4 2 = s.fld (Reg.RING_CTX_EPOCH c) 15 0 →
      descCheck (leAt b.toList 0 1) (leAt b.toList 1 1 / 64) (leAt b.toList 8 8) s.now = 0 →
      undefinedOp (leAt b.toList 0 1) (leAt b.toList 16 1) = 0 →
      ∃ t, exec (.descriptorFetch c b) s = .next t ∧ t.reqs = s.reqs ++
        [⟨⟨.ctx c, BitVec.ofNat 16 (leAt b.toList 2 2), BitVec.ofNat 16 (leAt b.toList 4 2), BitVec.ofNat 64 (leAt b.toList 8 8)⟩,
          BitVec.ofNat 8 (leAt b.toList 0 1), padTo 24 (b.toList.drop 16), [], false⟩])) ∧
  (∀ (s : State) (c : Fin 32) (sl : Slot), s.Stored → (s.ring.ctx[c]).state = .active →
    (s.isStream c = true → goodPair (s.sqSize c) (s.ring.ctx[c]).devTail sl.head.toNat = false →
      (((s.readSlot c sl).1.ring.ctx[c]).state = .failed ∧ ((s.readSlot c sl).1.ring.ctx[c]).err = 0x09)) ∧
    (s.isStream c = false → goodPair (s.sqSize c) sl.tail.toNat (s.ring.ctx[c]).sqHead = false →
      (((s.readSlot c sl).1.ring.ctx[c]).state = .failed ∧ ((s.readSlot c sl).1.ring.ctx[c]).err = 0x08)) ∧
    (s.isStream c = false → goodPair (s.sqSize c) sl.tail.toNat (s.ring.ctx[c]).sqHead = true →
      goodPair (s.cqSize c) (s.ring.ctx[c]).devTail sl.head.toNat = false →
      (((s.readSlot c sl).1.ring.ctx[c]).state = .failed ∧ ((s.readSlot c sl).1.ring.ctx[c]).err = 0x09)) ∧
    (s.isStream c = false → goodPair (s.sqSize c) sl.tail.toNat (s.ring.ctx[c]).sqHead = true →
      goodPair (s.cqSize c) (s.ring.ctx[c]).devTail sl.head.toNat = true →
      (((s.readSlot c sl).1.ring.ctx[c]).state = .active ∧ ((s.readSlot c sl).1.ring.ctx[c]).hostTail = sl.tail.toNat ∧
        ((s.readSlot c sl).1.ring.ctx[c]).hostHead = sl.head.toNat)))

/-- R24, R26, R346, R395: a record delivered to a stream ring or a port queue with room takes its entries there; without
room it is counted as lost; of the records held too long the oldest that is not bound for the journal is dropped and counted as
lost at each destination. -/
def Obligations.StreamDelivery : Prop := ∀ s : State, s.Stored →
  (∀ (c : Fin 32) (h : BitVec 16) (r : FabRec), s.frozen = false → s.fabric.oldest c = some r →
    (s.ring.ctx[c]).state = .active → s.isStream c = true →
    ((s.ring.ctx[c]).strm.lost = 0 → s.ringNeed c r.ev.pt ≤ s.ringFree c → ∃ t, exec (.streamRecordOffer (.ctx c) h) s = .next t ∧
      (t.ring.ctx[c]).strm.seq = (s.ring.ctx[c]).strm.seq + BitVec.ofNat 16 (s.ringNeed c r.ev.pt) ∧
      (t.ring.ctx[c]).strm.lost = 0 ∧
      (t.ring.ctx[c]).devTail % (2 * s.sqSize c) = ((s.ring.ctx[c]).devTail + s.ringNeed c r.ev.pt) % (2 * s.sqSize c)) ∧
    ((s.ring.ctx[c]).strm.lost = 0 → s.ringFree c < s.ringNeed c r.ev.pt →
      goodPair (s.sqSize c) (s.ring.ctx[c]).devTail h.toNat = true → h.toNat = (s.ring.ctx[c]).hostHead →
      ∃ t, exec (.streamRecordOffer (.ctx c) h) s = .next t ∧ (t.ring.ctx[c]).strm.lost = satN 32 (s.ringNeed c r.ev.pt) ∧
        (t.ring.ctx[c]).devTail = (s.ring.ctx[c]).devTail)) ∧
  (∀ (p : Fin 4) (r : FabRec), s.fabric.oldest (32 + p) = some r → (s.mbox.port[p]).strm.lost = 0 →
    ((s.mbox.port[p]).strm.needsAnchor r.ev.pt = false → (s.mbox.port[p]).evts.length < 16 →
      ∃ t, exec (.streamRecordOffer (.port p) 0) s = .next t ∧ (t.mbox.port[p]).evts = (s.mbox.port[p]).evts ++
        [recBytes false 0 (s.mbox.port[p]).strm.seq r.ev]) ∧
    ((s.mbox.port[p]).evts.length = 16 → ∃ t, exec (.streamRecordOffer (.port p) 0) s = .next t ∧
      (t.mbox.port[p]).evts = (s.mbox.port[p]).evts ∧ (t.mbox.port[p]).strm.lost ≠ 0)) ∧
  ((∀ r ∈ s.fabric.held, r.todo.getLsbD 36 = true) → exec .fabricHoldTimeout s = .next s) ∧
  (∀ r, s.fabric.held.find? (fun r => !r.todo.getLsbD 36) = some r → ∃ t, exec .fabricHoldTimeout s = .next t ∧
    t.fabric = admitHeld (s.fabric.held.eraseP fun r => !r.todo.getLsbD 36) { s.fabric with held := [] } ∧
    (∀ c : Fin 32, (t.ring.ctx[c]).strm.lost =
      if r.todo.getLsbD c then satN 32 ((s.ring.ctx[c]).strm.lost + 1) else (s.ring.ctx[c]).strm.lost) ∧
    ∀ p : Fin 4, (t.mbox.port[p]).strm.lost =
      if r.todo.getLsbD (32 + p) then satN 32 ((s.mbox.port[p]).strm.lost + 1) else (s.mbox.port[p]).strm.lost)

/-- R357, R53: a link reset leaves every context disabled, no ring command in flight and the ring registers at their reset
values, and touches nothing but the link and the rings; a PERST_N edge in a sleep is kept for the wake. -/
def Obligations.LinkResets : Prop := ∀ s : State, s.Stored → s.live = true →
  (s.asleep = false → s.inSleep = false → s.inDeepSleep = false → ∀ cause, ∃ t, exec (.linkReset cause) s = .next t ∧
    (∀ c : Fin 32, (t.ring.ctx[c]).state = .disabled) ∧ t.ring.engine = .idle ∧ t.ring.dbBase = none ∧ t.ring.linkUp = false ∧
    t.ringInflight = 0 ∧ (∀ a, linkResetReg a = true → t.reg a = regReset a) ∧ t.seq = s.seq ∧ t.hedge = s.hedge ∧
    t.mbox = s.mbox ∧ t.flash = s.flash ∧ t.dev = s.dev ∧ s.sameBlocks t [3, 4, 5, 6, 7, 8, 9, 0xA, 0xD, 0xE, 0xF] ∧ t.host = s.host) ∧
  ((s.asleep = true ∨ s.inSleep = true ∨ s.inDeepSleep = true) →
    exec (.linkReset .perst) s = .next { s with ring.perstHigh := false, pmc.perstLatched := true }) ∧
  (s.asleep = false → s.inSleep = false → s.inDeepSleep = false → exec .perstNRise s =
    .next { s with ring.perstHigh := true, pmc.pewakeLow := false, ring.linkUp := true })

/-- R344, R345, R368, R373: a completion on a ring goes to the CQ entry at its tail, the tail moves on, and no other byte of
host memory changes but the data buffer, the doorbell page's state word and the message of the context's vector. -/
def Obligations.RingCompletion : Prop := ∀ (s : State) (r : Req) (c : Fin 32) (rep : Reply) (base len : Nat), s.Stored →
  r.src = .ctx c → (∃ e ∈ s.reqs, sameReq e.req r = true) → (s.ring.ctx[c]).state = .active → s.frozen = false →
  len = (if s.isV2 c then 32 else 16) → base = s.cqBase c + (s.ring.ctx[c]).devTail % s.cqSize c * len →
  ((s.complete r rep).ring.ctx[c]).devTail = ((s.ring.ctx[c]).devTail + 1) % (2 * s.cqSize c) ∧
  (s.flag (Reg.RING_CTX_CFG c) 28 = false → s.ring.engine ≠ .polling → ∀ i, i < len →
    (s.complete r rep).hostByte (base + i) = (cplBytes (s.isV2 c) r rep.status (phaseBit (s.cqSize c) (s.ring.ctx[c]).devTail +
      (if rep.data.isEmpty then 0 else 8)) (s.ring.ctx[c]).sqHead s.time.pt rep.result).getD i 0) ∧
  ∀ a, ¬(rep.buf ≤ a ∧ a < rep.buf + rep.data.length) → ¬(base ≤ a ∧ a < base + len) →
    (∀ d, s.ring.dbBase = some d → ¬(d + 0x800 ≤ a ∧ a < d + 0x808)) →
    (∀ m, m = (s.reg (Reg.MSIX_ADDR_LO (2 + c))).toNat + 2 ^ 32 * (s.reg (Reg.MSIX_ADDR_HI (2 + c))).toNat → ¬(m ≤ a ∧ a < m + 4)) →
    (s.complete r rep).hostByte a = s.hostByte a

/-- R371, R372, R378 and the structure tables: a read command that its owner executes answers OK with the bytes of its
structure, read at that moment, and changes nothing else than its completion does. -/
def Obligations.StructureReads : Prop := ∀ (s : State) (r : Req) (b : BufBlock), s.Stored → s.asleep = false →
  (s.admits r 0x01 → bufBad r b 64 = false →
    exec (.identify r b) s = .next ((s.take r 0x01).complete r (structReply r b (padTo 64 s.identifyBytes) []))) ∧
  (s.admits r 0x03 → bufBad r b 32 = false →
    exec (.getStatus r b) s = .next ((s.take r 0x03).complete r (structReply r b (padTo 32 s.statusBytes) []))) ∧
  (s.admits r 0x04 → bufBad r b 48 = false →
    exec (.timeRead r b) s = .next ((s.take r 0x04).complete r (structReply r b (padTo 48 s.timeBytes) []))) ∧
  (s.admits r 0x12 → bufBad r b 208 = false →
    exec (.railRead r b) s = .next ((s.take r 0x12).complete r (structReply r b (padTo 208 s.railBytes) []))) ∧
  (s.admits r 0x20 → bufBad r b 96 = false →
    exec (.batteryRead r b) s = .next ((s.take r 0x20).complete r (structReply r b (padTo 96 s.batteryBytes) []))) ∧
  (s.admits r 0x32 → bufBad r b 32 = false →
    exec (.motorRead r b) s = .next ((s.take r 0x32).complete r (structReply r b (padTo 32 s.motorBytes) []))) ∧
  (∀ n : Fin 32, s.admits r 0x42 → bufBad r b 68 = false →
    exec (.hedgeRead r b (BitVec.ofNat 8 n)) s =
      .next ((s.take r 0x42).complete r (structReply r b (padTo 68 (s.hedgeBytes n)) []))) ∧
  (∀ n : Byte, s.admits r 0x42 → 32 ≤ n.toNat →
    exec (.hedgeRead r b n) s = .next ((s.take r 0x42).complete r { status := Status.BAD_PARAM })) ∧
  (s.admits r 0x50 → bufBad r b 112 = false →
    exec (.inputRead r b) s = .next ((s.take r 0x50).complete r (structReply r b (padTo 112 s.inputBytes) []))) ∧
  (s.admits r 0x51 → bufBad r b 104 = false →
    exec (.encoderRead r b) s = .next ((s.take r 0x51).complete r (structReply r b (padTo 104 s.encoderBytes) []))) ∧
  (s.admits r 0x52 → bufBad r b 64 = false →
    exec (.cliffRead r b) s = .next ((s.take r 0x52).complete r (structReply r b (padTo 64 s.cliffBytes) []))) ∧
  (s.admits r 0x71 → bufBad r b 16 = false →
    exec (.wakeRead r b) s = .next ((s.take r 0x71).complete r (structReply r b (padTo 16 s.wakeBytes) []))) ∧
  (s.admits r 0x91 → bufBad r b 64 = false →
    exec (.selftestRead r b) s = .next ((s.take r 0x91).complete r (structReply r b (padTo 64 s.selftestBytes) [])))

/-- R377, R385, R379: the register, subscription and journal commands that their owner executes. -/
def Obligations.RegisterCommands : Prop := ∀ (s : State) (r : Req), s.Stored → s.asleep = false →
  (∀ (off : BitVec 32) (count : Byte), s.admits r 0x06 → regReadBad off count = false →
    ∃ a b : State × Word, a = (s.take r 0x06).bar0Read off.toNat true ∧
      b = (if count = 2 then a.1.bar0Read (off.toNat + 4) true else (a.1, 0)) ∧
      exec (.regRead r off count) s = .next (b.1.complete r { status := Status.OK, result := image a.2 ++ image b.2 })) ∧
  (∀ off value mask : BitVec 32, s.admits r 0x07 → off.toNat % 4 = 0 → off.toNat < 0x10000 →
    (s.dev.planLoaded = true →
      exec (.regWrite r off value mask) s = .next ((s.take r 0x07).complete r { status := Status.LOCKED })) ∧
    (s.dev.planLoaded = false → s.blockGated (off.toNat / 4096) = false → mask &&& ~~~(setupMask off.toNat) ≠ 0 →
      exec (.regWrite r off value mask) s = .next ((s.take r 0x07).complete r { status := Status.REFUSED })) ∧
    (s.dev.planLoaded = false → s.blockGated (off.toNat / 4096) = true → ∃ t, t = (s.take r 0x07).bar0Write off.toNat value true ∧
      exec (.regWrite r off value mask) s = .next (t.complete r { status := Status.REFUSED })) ∧
    (s.dev.planLoaded = false → s.blockGated (off.toNat / 4096) = false → mask &&& ~~~(setupMask off.toNat) = 0 →
      ∃ t, t = (s.take r 0x07).busWrite off.toNat ((s.setupReg off.toNat &&& ~~~mask) ||| (value &&& mask)) ∧
        exec (.regWrite r off value mask) s =
          .next (t.complete r { status := Status.OK, result := image (t.readWord off.toNat) }))) ∧
  (∀ (p : Fin 4) (mode : Byte) (m : BitVec 64), s.admits r 0x60 → mode.toNat ≤ 2 → m >>> 25 = 0 →
    ∃ n, n = newMask mode ((s.mbox.port[p]).sub.setWidth 64) m ∧
      exec (.subscribe r (BitVec.ofNat 8 (0x40 + p)) mode m) s =
        .next (((s.take r 0x60).modPort p fun q => { q with sub := n.setWidth 25 }).complete r
          { status := Status.OK, result := leBytes 8 n.toNat })) ∧
  (∀ (c : Fin 32) (mode : Byte) (m : BitVec 64), s.admits r 0x60 → mode.toNat ≤ 2 → m >>> 25 = 0 →
    (s.ring.ctx[c]).state = .active → s.isStream c = true →
    ∃ n, n = newMask mode (BitVec.ofNat 64 (s.ctxMask c)) m ∧
      exec (.subscribe r (BitVec.ofNat 8 c) mode m) s =
        .next ((((s.take r 0x60).setReg (Reg.RING_SUB_LO c) (loWord n)).setReg (Reg.RING_SUB_HI c) (hiWord n)).complete r
          { status := Status.OK, result := leBytes 8 n.toNat })) ∧
  (∀ (b : BufBlock) (start : BitVec 32) (count : Byte) (errs : List LineErr) (l : List (Nat × Nat × Nat)),
    l = s.readSlotsFrom (s.readFrom start) count.toNat → s.admits r 0x80 → 0 < count.toNat → count.toNat ≤ 64 →
    bufBad r b (64 * l.length) = false →
    exec (.journalRead r b start count errs) s =
      .next ((l.foldl (fun s e => s.linesRead journalAgent errs (slotLine e.2.1 e.2.2 * 32) 64) (s.take r 0x80)).complete r
        (structReply r b (l.flatMap (s.recordBytes errs)) (s.readFlags errs l))))

/-- R20 to R22, R336, R357, R371, R394: a command waits until its owner is clocked and it is first in the owner's queue; the tests
of a command that its owner takes; and where its completion goes. That one queue of the owner takes commands in the order of
arrival is log entry 79. -/
def Obligations.CommandOutcomes : Prop :=
  (∀ (s : State) (r : Req) (op : Nat) (bad : Bool) (k : State → State × Option Reply), s.mayTake r op = false →
    s.command r op bad k = s.awaitTurn r op) ∧
  (∀ (s : State) (r : Req) (op : Nat) (bad : Bool) (k : State → State × Option Reply), s.mayTake r op = true →
    (r.deadline ≠ 0 → r.deadline.toNat < s.now → s.command r op bad k = (s.take r op).complete r { status := Status.TIMEOUT }) ∧
    (r.deadline = 0 ∨ s.now ≤ r.deadline.toNat →
      (bad = true → s.command r op bad k = (s.take r op).complete r { status := Status.BAD_PARAM }) ∧
      (bad = false → s.stageAdmits op = false → s.command r op bad k = (s.take r op).complete r { status := Status.NOT_IN_STATE }) ∧
      (bad = false → s.stageAdmits op = true →
        (∀ t rep, k (s.take r op) = (t, some rep) → s.command r op bad k = t.complete r rep) ∧
        ∀ t, k (s.take r op) = (t, none) → s.command r op bad k = t))) ∧
  (∀ (s : State) (r : Req) (op : Nat),
    ((∃ e, s.entryOf r = some e ∧ e.taken = true) ∨
      (∃ h, s.headOf (ownerOf op) = some h ∧ sameReq h.req r = false) ∨ s.ownersRun = false → s.mayTake r op = false) ∧
    (s.ownersRun = true → s.entryOf r = none → s.headOf (ownerOf op) = none → s.hasEntry r = true → s.mayTake r op = true)) ∧
  (∀ (s : State) (r : Req) (rep : Reply),
    ((∀ e ∈ s.reqs, sameReq e.req r = false) → s.complete r rep = s) ∧
    ((∃ e ∈ s.reqs, sameReq e.req r = true) →
      (∀ p : Fin 4, r.src = .port p →
        (s.complete r rep).host = s.host ∧ (s.complete r rep).reqs = s.reqs ∧
        ∃ b, ((s.complete r rep).mbox.port[p]).reply = some (b, min 48 rep.data.length) ∧ b.length = 64 ∧
          b.take 2 = leBytes 2 r.tag.toNat ∧ b.getD 2 0 = BitVec.ofNat 8 rep.status ∧ b.drop 16 = padTo 48 (rep.data.take 48)) ∧
      (∀ c : Fin 32, r.src = .ctx c →
        ((s.ring.ctx[c]).state ≠ .active → (s.complete r rep).host = s.host ∧ (s.complete r rep).ring = s.ring ∧
          ∀ e ∈ (s.complete r rep).reqs, sameReq e.req r = false) ∧
        ((s.ring.ctx[c]).state = .active → s.frozen = true →
          s.complete r rep = { s with ring.waiting := s.ring.waiting ++ [(r, rep, s.time.pt)] }) ∧
        ((s.ring.ctx[c]).state = .active → s.frozen = false → ∀ e ∈ (s.complete r rep).reqs, sameReq e.req r = false))))

/-- R388, R391: a correct SPI or I2C frame reaches the mailbox space; a frame with a bad check byte commits nothing, sets
CRC_ERR and counts. The span of a frame lies in one region. -/
def Obligations.MailboxFrames : Prop := ∀ (s : State) (lo hi : Byte) (data : List Byte) (reg : Region) (o : Nat), s.Stored →
  s.mboxReady = true → spanRegion (addrField lo hi).1 (addrField lo hi).2 = some (reg, o) →
  (s.mbox.discard = false → data.length = (addrField lo hi).2 → reg.writable = true →
    exec (.spiWriteFrame (0x02 :: lo :: hi :: data ++ [crc8 (0x02 :: lo :: hi :: data)])) s =
      .next (s.commit reg o data).endFrame) ∧
  (s.mbox.discard = false → data.length = (addrField lo hi).2 → reg.writable = false →
    exec (.spiWriteFrame (0x02 :: lo :: hi :: data ++ [crc8 (0x02 :: lo :: hi :: data)])) s = .next (s.linkErr 2).endFrame) ∧
  (∀ c : Byte, s.mbox.discard = false → c ≠ crc8 (0x02 :: lo :: hi :: data) →
    ∃ t, exec (.spiWriteFrame (0x02 :: lo :: hi :: data ++ [c])) s = .next t ∧ t.flag Reg.MBOX_LINK_STATUS 0 = true ∧
      t.mbox.port = s.mbox.port ∧ t.fld Reg.MBOX_LINK_CNT 15 0 = min 0xFFFF (s.fld Reg.MBOX_LINK_CNT 15 0 + 1)) ∧
  (s.mbox.discard = false → ∃ d, d = padTo (addrField lo hi).2 ((s.regionBytes reg).drop o) ∧
    exec (.spiReadFrame 0x0B lo hi) s =
      .next ({ s with mbox.lastRead := d ++ [crc8 (0x0B :: lo :: hi :: d)] }).endFrame) ∧
  (∀ addr : BitVec 7, addr.toNat = s.fld Reg.MBOX_CFG 6 0 →
    (data.length = (addrField lo hi).2 → reg.writable = true →
      exec (.i2cWrite addr (lo :: hi :: data ++ [crc8 (i2cByte addr false :: lo :: hi :: data)])) s = .next (s.commit reg o data) ∧
      (s.flag Reg.MBOX_CFG 8 = false → exec (.i2cWrite addr (lo :: hi :: data)) s = .next (s.commit reg o data)) ∧
      (s.flag Reg.MBOX_CFG 8 = true → exec (.i2cWrite addr (lo :: hi :: data)) s = .next s)) ∧
    (∀ pec, ∃ t, exec (.i2cRead addr lo hi pec) s = .next t ∧ t.mbox.port = s.mbox.port ∧
      t.mbox.lastRead.take (addrField lo hi).2 = padTo (addrField lo hi).2 ((s.regionBytes reg).drop o) ∧
      t.mbox.lastRead.length = (addrField lo hi).2 + b2n pec)) ∧
  (∀ addr : BitVec 7, addr.toNat ≠ s.fld Reg.MBOX_CFG 6 0 →
    exec (.i2cWrite addr (lo :: hi :: data)) s = .next s ∧ ∀ pec, exec (.i2cRead addr lo hi pec) s = .next s)

/-- R393 to R395, R397, R398, R401: what the bits of a port's control word and the link word do, a mailbox frame as a wake
source, and when the ports answer again. -/
def Obligations.PortCommands : Prop :=
  (∀ (s : State) (p : Fin 4), s.Stored → s.mboxReady = true →
    ((s.mbox.port[p]).state = .idle → descCheck (descOpcode (s.mbox.port[p]).inBuf) (descPver (s.mbox.port[p]).inBuf) 0 0 = 0 →
      undefinedOp (descOpcode (s.mbox.port[p]).inBuf) (leAt (s.mbox.port[p]).inBuf 8 1) = 0 →
      ∃ t, exec (.mailboxGo p) s = .next t ∧ (t.mbox.port[p]).state = .busy ∧ (∀ q, q ≠ p → t.mbox.port[q] = s.mbox.port[q]) ∧
        t.reqs = s.reqs ++ [⟨⟨.port p, descTag (s.mbox.port[p]).inBuf, descEpoch (s.mbox.port[p]).inBuf, 0⟩,
          BitVec.ofNat 8 (descOpcode (s.mbox.port[p]).inBuf), padTo 24 ((s.mbox.port[p]).inBuf.drop 8),
          padTo 32 ((s.mbox.port[p]).inBuf.drop 32), false⟩]) ∧
    (∀ st, (s.mbox.port[p]).state = .idle → descCheck (descOpcode (s.mbox.port[p]).inBuf) (descPver (s.mbox.port[p]).inBuf) 0 0 = st →
      st ≠ 0 → ∃ t, exec (.mailboxGo p) s = .next t ∧ (t.mbox.port[p]).state = .done ∧ t.reqs = s.reqs ∧
        (t.mbox.port[p]).outBuf.getD 2 0 = BitVec.ofNat 8 st) ∧
    ((s.mbox.port[p]).state ≠ .idle → exec (.mailboxGo p) s = .next (s.modPort p fun q => { q with err := true })) ∧
    (∀ b n, (s.mbox.port[p]).state = .busy → (s.mbox.port[p]).reply = some (b, n) →
      exec (.mailboxReply p) s =
        .next ((s.modPort p fun q => { q with state := .done, outBuf := padTo 64 b, dataLen := n, reply := none }).releasePort p)) ∧
    ((s.mbox.port[p]).state = .done →
      exec (.mailboxDoneClear p) s = .next (s.modPort p fun q => { q with state := .idle })) ∧
    (exec (.mailboxErrClear p) s = .next (s.modPort p fun q => { q with err := false })) ∧
    (∀ e es, (s.mbox.port[p]).evts = e :: es → ∃ t, exec (.evtPop p) s = .next t ∧ (t.mbox.port[p]).evts.take es.length = es ∧
      ∀ q, q ≠ p → t.mbox.port[q] = s.mbox.port[q]) ∧
    (∀ v : Word, ∃ t, exec (.linkErrClear v) s = .next t ∧ t.mbox = s.mbox ∧
      ∀ i, i < 32 → t.flag Reg.MBOX_LINK_STATUS i = (s.flag Reg.MBOX_LINK_STATUS i && !(decide (i < 3) && v.getLsbD i)))) ∧
  (∀ s : State, s.Stored → s.live = true →
    (∀ byCs, s.inSleep = true ∨ s.inDeepSleep = true → s.flag Reg.PMC_WAKE_EN 6 = true →
      ∃ t, exec (.mailboxWake byCs) s = .next t ∧ s.WokenBy t 7 0 ∧ t.mbox.discard = (s.mbox.discard || byCs)) ∧
    (∀ byCs, (s.inSleep = true ∨ s.inDeepSleep = true) → s.flag Reg.PMC_WAKE_EN 6 = false →
      ∃ t, exec (.mailboxWake byCs) s = .next t ∧ t.pmc = s.pmc ∧ t.regs = s.regs) ∧
    (s.asleep = false → s.dev.stage ≠ .boot → s.inSleep = false → s.inDeepSleep = false →
      ∃ t, exec .mailboxReady s = .next t ∧ t.mboxReady = true ∧ t.mbox = s.mbox) ∧
    (∀ bytes, s.mbox.discard = true → ∃ t, exec (.spiWriteFrame bytes) s = .next t ∧ t.mbox.port = s.mbox.port ∧
      t.mbox.discard = false ∧ t.regs = s.regs))

/-- R409 to R418: the command sequences of BAR2, in a bank with no sequence open. A command that is accepted clears status
bits 27 to 24. -/
def Obligations.FlashSequences : Prop := ∀ (s : State) (b : Fin 2), s.Stored → s.bar2Open = true →
  (s.flash.bank[b]).step = .none →
  (∃ t, exec (.statusMode b) s = .next t ∧ (t.flash.bank[b]).statusMode = true ∧ (t.flash.bank[b]).step = .none ∧
    t.fld (flashStatus b) 27 24 = 0) ∧
  (∀ k : Fin 512, (s.flash.bank[b]).st = .idle →
    (s.isProtected b k = false → ∃ t, exec (.sectorErase b [barAt b (4096 * k.val) 0xE5]) s = .next t ∧
      (t.flash.bank[b]).st = .erase ∧ (t.flash.bank[b]).sector = k.val ∧ (t.flash.bank[b]).use = .host ∧
      (t.flash.bank[b]).marks.getLast? = some { done := false, sector := k.val, pt := s.ptNow } ∧ t.flash.lines = s.flash.lines ∧
      t.fld (flashStatus b) 27 24 = 0) ∧
    (s.isProtected b k = true → ∃ t, exec (.sectorErase b [barAt b (4096 * k.val) 0xE5]) s = .next t ∧
      (t.flash.bank[b]).st = .idle ∧ t.flag (flashStatus b) 26 = true ∧ t.flash.lines = s.flash.lines)) ∧
  (∀ (l : Fin 65536) (d : Vector (BitVec 32) 8), (s.flash.bank[b]).st = .idle → s.isProtected b (l.val / 128) = false →
    s.isSuspect b (l.val / 128) = false → s.lineAt (b.val * 65536 + l.val) = none →
    ∃ t, exec (.programLine b ((List.finRange 8).map fun (i : Fin 8) => barAt b (32 * l.val + 4 * i.val) (d[i]).toNat)) s = .next t ∧
      (t.flash.bank[b]).st = .program ∧ (t.flash.bank[b]).line = b.val * 65536 + l.val ∧
      (t.flash.bank[b]).data = d.toList.flatMap image) ∧
  (∀ a : BitVec 22, a.getLsbD 21 = decide (b = 1) → a.toNat % 4 = 0 →
    ((s.flash.bank[b]).st = .erase → ∃ t, exec (.eraseSuspend a) s = .next t ∧ (t.flash.bank[b]).st = .suspending ∧
      (t.flash.bank[b]).sector = (s.flash.bank[b]).sector) ∧
    ((s.flash.bank[b]).st = .suspended → ∃ t, exec (.eraseResume a) s = .next t ∧ (t.flash.bank[b]).st = .erase ∧
      (t.flash.bank[b]).sector = (s.flash.bank[b]).sector) ∧
    ((s.flash.bank[b]).st = .idle → ∃ t, exec (.eraseResume a) s = .next t ∧ (t.flash.bank[b]).st = .idle ∧
      t.flag (flashStatus b) 24 = true))

/-- R410, R413 to R418: the abort, and the ends of programs, erases, suspensions and sequences. -/
def Obligations.FlashEvents : Prop := ∀ (s : State) (b : Fin 2), s.Stored →
  (∀ a : BitVec 22, a.getLsbD 21 = decide (b = 1) → a.toNat % 4 = 0 → s.bar2Open = true → (s.flash.bank[b]).step = .none →
    ∃ t, exec (.abortReset a) s = .next t ∧ (t.flash.bank[b]).statusMode = false ∧ (t.flash.bank[b]).step = .none ∧
      ((s.flash.bank[b]).use = .host → (s.flash.bank[b]).erasing = true → (s.flash.bank[b]).doomed = false →
        (s.flash.bank[b]).sector < 512 → (t.flash.bank[b]).suspect.getLsbD (s.flash.bank[b]).sector = true)) ∧
  ((s.flash.bank[b]).step ≠ .none → ∃ t, exec (.sequenceTimeout b) s = .next t ∧ (t.flash.bank[b]).step = .none ∧
    t.flag (flashStatus b) 24 = true ∧ t.flash.lines = s.flash.lines) ∧
  ((s.flash.bank[b]).st = .program → ∃ t, exec (.programDone b) s = .next t ∧
    t.lineAt (s.flash.bank[b]).line = some (s.flash.bank[b]).data ∧
    ∀ l, l ≠ (s.flash.bank[b]).line → t.lineAt l = s.lineAt l) ∧
  (∀ k : Fin 512, (s.flash.bank[b]).st = .erase → (s.flash.bank[b]).sector = k.val → s.plans.plan.chunk = none →
    s.plans.firmware.chunk = none →
    (∃ t, exec (.eraseDone b true) s = .next t ∧ t.sectorBlank (b.val * 512 + k.val) = true ∧ t.isSuspect b k = false ∧
      ∀ l, l / 128 ≠ b.val * 512 + k.val → t.lineAt l = s.lineAt l) ∧
    (∃ t, exec (.eraseDone b false) s = .next t ∧ t.isSuspect b k = true ∧
      ((s.flash.bank[b]).use = .host → t.flag (flashStatus b) 27 = true))) ∧
  ((s.flash.bank[b]).st = .suspending →
    exec (.suspendDone b) s = .next (s.modBank b fun x => { x with st := .suspended })) ∧
  ((s.flash.bank[b]).st = .suspended → s.asleep = false →
    exec (.autoResume b) s = .next (s.modBank b fun x => { x with st := .erase })) ∧
  (∀ line : BitVec 17, s.live = true → s.asleep = false → ∃ t, exec (.uncorrectableFetch line) s = .next t ∧ t.flag Reg.BIST_FAIL_MASK 20 = true ∧
    t.fld Reg.FLASH_ECC_CNT 31 16 = min 0xFFFF (s.fld Reg.FLASH_ECC_CNT 31 16 + 1) ∧
    (s.flag Reg.BIST_STATUS 30 = false → s.dev.stage ≠ .safe → t.node 79 = true))

/-- R405 to R407, R425, R426: a BAR2 read within one bank, and the journal's append. -/
def Obligations.FlashReadsAndJournal : Prop :=
  (∀ (s : State) (b : Fin 2) (a : BitVec 22) (n : BitVec 13) (errs : List LineErr), s.Stored →
    s.bar2Open = true → 0 < n.toNat → n.toNat ≤ 4096 → a.toNat / 0x200000 = b.val → (a.toNat + n.toNat - 1) / 0x200000 = b.val →
    ((s.flash.bank[b]).busy = false → (s.flash.bank[b]).statusMode = false → (s.flash.bank[b]).st ≠ .suspended →
      ∃ t, exec (.bar2Read a n errs) s = .next t ∧ t.rdata = s.flashBytes errs a.toNat n.toNat ∧ t.flash.lines = s.flash.lines ∧
        t.flash.bank = s.flash.bank ∧
        t.fld (flashStatus b) 23 20 = (s.lineEcc errs ((a.toNat + n.toNat - 1) / 32)).1 % 16) ∧
    ((s.flash.bank[b]).busy = true ∨ (s.flash.bank[b]).statusMode = true → a.toNat % 4 = 0 → n.toNat = 4 →
      exec (.bar2Read a n errs) s = .next { s with rdata := image (s.statusWord b) })) ∧
  (∀ (s : State) (rec : FabRec), s.Stored → s.fabric.oldest 36 = some rec →
    s.flash.jrn.ready = true → s.sup.holdUp = none → s.asleep = false →
    (s.flash.jrn.room = false → exec .journalAppend s = .next (s.modJrn fun j => { j with held := true })) ∧
    (s.flash.jrn.slot < 64 → ∃ t bytes, exec .journalAppend s = .next t ∧ t.flash.jrn.head = s.flash.jrn.head + 1 ∧
      t.lineAt (slotLine s.flash.jrn.sector s.flash.jrn.slot) = some (bytes.take 32) ∧
      t.lineAt (slotLine s.flash.jrn.sector s.flash.jrn.slot + 1) = some (bytes.drop 32) ∧
      bytes.take 4 = leBytes 4 s.flash.jrn.head ∧ bytes.getD 4 0 = BitVec.ofNat 8 rec.ev.jtype ∧ jrnValid bytes = true))

/-- R448, R451 to R455: the staging commands, activation and what it writes, and the verification of the other slot. -/
def Obligations.PlanCommands : Prop :=
  (∀ (s : State) (r : Req), s.Stored → s.asleep = false →
    (∀ (addr : BitVec 64) (length : BitVec 16) (offset : Word) (flags : Byte) (data : List Byte), s.plans.plan.busy = false →
      s.admits r 0x81 → chunkBad s.plans.plan r addr length.toNat offset.toNat 65504 = false →
      (exec (.planStage r addr length offset flags data true) s =
        .next ((s.take r 0x81).complete r { status := Status.ABORTED, result := stageResult 0 0 0 s.plans.plan.count })) ∧
      (offset ≠ 0 → ∃ d, d = (s.take r 0x81).chunkData r length.toNat data ∧ d.length = length.toNat ∧ exec (.planStage r addr length offset flags data false) s =
        .next ((s.take r 0x81).planChunk r d (flags.getLsbD 0))) ∧
      (offset ≠ 0 → flags.getLsbD 0 = false → ∃ t, exec (.planStage r addr length offset flags data false) s = .next t ∧
        t.plans.plan.isOpen = s.plans.plan.isOpen ∧ t.plans.plan.count = s.plans.plan.count + length.toNat) ∧
      (offset = 0 → (∀ g ∈ planSectors s.stagingSlot, s.isRetired g = false) →
        ∃ t, exec (.planStage r addr length offset flags data false) s = .next t ∧ t.plans.plan.slot = s.stagingSlot)) ∧
    (s.plans.plan.busy = true →
      (∀ addr length offset flags data fails, exec (.planStage r addr length offset flags data fails) s = .next (s.awaitTurn r 0x81)) ∧
      ∀ gen, exec (.planActivate r gen) s = .next (s.awaitTurn r 0x82)) ∧
    (s.plans.firmware.busy = true → ∀ addr length offset flags data fails check v,
      exec (.firmwareStage r addr length offset flags data fails check v) s = .next (s.awaitTurn r 0x83)) ∧
    (∀ gen : Word, s.plans.plan.busy = false → s.admits r 0x82 → gen ≠ 0 → s.plans.plan.closed = true →
      s.plans.plan.isOpen = false → s.plans.plan.activated = false → s.plans.plan.gen = some gen.toNat →
      (s.reg Reg.DEV_PLAN_GEN).toNat < gen.toNat →
      exec (.planActivate r gen) s = .next (((s.take r 0x82).activate gen.toNat).complete r
        { status := Status.OK, result := [BitVec.ofNat 8 s.plans.plan.slot.val] })) ∧
    (∀ gen : Word, s.plans.plan.busy = false → s.admits r 0x82 → gen ≠ 0 → s.plans.plan.closed = false →
      exec (.planActivate r gen) s = .next ((s.take r 0x82).complete r { status := Status.NOT_IN_STATE })) ∧
    (∀ (addr : BitVec 64) (length : BitVec 16) (offset : Word) (flags : Byte) (data : List Byte) (check : Byte) (v : Word),
      s.plans.firmware.busy = false → s.admits r 0x83 → chunkBad s.plans.firmware r addr length.toNat offset.toNat 786432 = false →
      (offset ≠ 0 → flags.getLsbD 0 = false → ∃ t, exec (.firmwareStage r addr length offset flags data false check v) s = .next t ∧
        t.plans.firmware.isOpen = s.plans.firmware.isOpen ∧
        t.plans.firmware.count = s.plans.firmware.count + length.toNat) ∧
      (offset = 0 → (∀ g ∈ fwSectors s.otherFirmware, s.isRetired g = false) →
        ∃ t, exec (.firmwareStage r addr length offset flags data false check v) s = .next t ∧
          t.plans.firmware.slot = s.otherFirmware)) ∧
    (∀ errs, s.plans.verifyDue = true → s.dev.stage = .full → s.dev.inReset = false →
      ∃ t, exec (.planBackgroundVerify errs) s = .next t ∧ t.plans.verifyDue = false ∧ t.flash = s.flash ∧
        ((s.notCandidate s.stagingSlot).isNone = true → s.verifySlot s.stagingSlot errs = 0 →
          t.fld Reg.DEV_BOOT_DIAG (7 + 4 * s.stagingSlot.val) (4 + 4 * s.stagingSlot.val) = 7))) ∧
  (∀ (s : State) (g : Nat), s.Stored → g < 2 ^ 32 →
    s.isSuspect s.plans.plan.slot 0xCF = false → s.lineAt ((planBase s.plans.plan.slot + 0xFFE0) / 32) = none →
    (s.activate g).activationGood s.plans.plan.slot g [] = true ∧
    ∀ l, l ≠ (planBase s.plans.plan.slot + 0xFFE0) / 32 → (s.activate g).lineAt l = s.lineAt l)

/-- R457, R458, R541: the outcomes of POWER_STATE_REQUEST that its owner executes. -/
def Obligations.PowerRequests : Prop := ∀ (s : State) (r : Req) (target : Byte) (alarm : Word), s.Stored → s.inSleepOrWake = false →
  s.admits r 0x70 → s.powerBad target.toNat alarm = false →
  ((target.toNat = 2 ∨ target.toNat = 3) → s.wakeArmed target.toNat alarm = false →
    exec (.powerStateRequest r target alarm) s = .next ((s.take r 0x70).complete r { status := Status.REFUSED })) ∧
  (target.toNat < 2 → target.toNat ≠ s.powerCode → ∃ t, exec (.powerStateRequest r target alarm) s = .next t ∧
    t.pmc.state = (if target.toNat = 1 then .idle else .run)) ∧
  (target.toNat = s.powerCode → target.toNat < 2 → ∃ t, exec (.powerStateRequest r target alarm) s = .next t ∧
    t.pmc = s.pmc ∧ t.bist = s.bist) ∧
  (2 ≤ target.toNat → target.toNat ≠ s.powerCode → (target.toNat = 4 ∨ s.wakeArmed target.toNat alarm = true) →
    ∃ t, exec (.powerStateRequest r target alarm) s = .next t ∧ t.pmc.state = .quiesce ∧ t.qTarget = target.toNat ∧
      t.bist.paused = true ∧ t.reg Reg.PMC_ALARM = alarm ∧ t.flag Reg.PMC_STATUS 8 = decide (alarm ≠ 0) ∧
      t.pmc.hsStart = s.time.pt ∧ ∀ b : Fin 16, t.pmc.answers[b] = if ackAtOnce target.toNat b then .ack else .none)

/-- R458 to R461: the answers of a quiesce handshake: a refusal aborts the entry, an ACK is recorded, the last ACK commits unless a
block at ACK refuses by then, an answer later than 100 µs counts as none, and at HS_LIMIT each block that is not at ACK refuses. -/
def Obligations.QuiesceCommands : Prop := ∀ (s : State) (b : Fin 16), s.Stored → s.live = true → s.pmc.state = .quiesce →
  (∀ u reason, s.answerMissing b = false → u = s.prepareBlock b → u.blockAnswer u.qTarget b = .nack reason → ∃ t, exec (.quiesceAnswer b) s = .next t ∧
    t.pmc.state = (if s.pmc.base = 1 then .idle else .run) ∧ t.flag Reg.PMC_REFUSE_LOG b = true ∧ t.bist.paused = false ∧
    t.fld (Reg.PMC_REFUSE_REASON (b.val / 4)) (8 * (b.val % 4) + 7) (8 * (b.val % 4)) = reason % 256 ∧
    t.flag Reg.PMC_IRQ_STATUS 1 = true) ∧
  (∀ u, s.answerMissing b = false → u = s.prepareBlock b → u.blockAnswer u.qTarget b = .ack → (∃ c : Fin 16, c ≠ b ∧ c.val ≠ 0xD ∧ u.pmc.answers[c] ≠ .ack) →
    exec (.quiesceAnswer b) s = .next (u.setAnswer b .ack)) ∧
  ((∀ c : Fin 16, s.blockAnswer s.qTarget c = .ack ∨ s.blockAnswer s.qTarget c = .wait) → (∀ c : Fin 16, c ≠ 5 → s.pmc.answers[c] = .ack) →
    s.answerMissing 5 = false → s.qTarget = 2 ∨ s.qTarget = 3 → ∃ t, exec (.quiesceAnswer 5) s = .next t ∧
      t.pmc.state = (if s.qTarget = 2 then .sleep else .deepSleep) ∧ t.hedge.sleepHold = true ∧
      t.fld Reg.PMC_CNT 15 0 = min 0xFFFF (s.fld Reg.PMC_CNT 15 0 + 1) ∧ t.fld Reg.PMC_WAKE_SRC 31 16 = 0 ∧
      t.mboxReady = false) ∧
  ((∀ n : Fin 32, (s.hedge.run[n]).arm = none) → (∀ c : Fin 16, c ≠ 5 → s.pmc.answers[c] = .ack) →
    s.answerMissing 5 = false → (∃ (c : Fin 16) (reason : Nat), s.blockAnswer s.qTarget c = .nack reason) → ∃ t, exec (.quiesceAnswer 5) s = .next t ∧
      t.pmc.state = if s.pmc.base = 1 then .idle else .run) ∧
  (s.answerMissing b = true → exec (.quiesceAnswer b) s = exec (.quiesceNoAnswer b) s ∧
    ∃ t, exec (.quiesceNoAnswer b) s = .next t ∧ t.pmc.state = (if s.pmc.base = 1 then .idle else .run) ∧ t.flag Reg.PMC_REFUSE_LOG b = true ∧
    t.fld (Reg.PMC_REFUSE_REASON (b.val / 4)) (8 * (b.val % 4) + 7) (8 * (b.val % 4)) = 0x0D) ∧
  (ms (s.fld Reg.PMC_CTRL 9 0) ≤ s.since s.pmc.hsStart → ∃ t, exec .handshakeLimit s = .next t ∧
    t.pmc.state = (if s.pmc.base = 1 then .idle else .run) ∧ (t.flag Reg.PMC_REFUSE_LOG b = true ↔ s.pmc.answers[b] ≠ .ack) ∧
    (s.pmc.answers[b] ≠ .ack → t.fld (Reg.PMC_REFUSE_REASON (b.val / 4)) (8 * (b.val % 4) + 7) (8 * (b.val % 4)) =
      if s.pmc.answers[b] = .wait then 0x0E else 0x0D))

/-- R461, R68: the entry edge stops platform time on the Kennel clock, and the restart edge moves it on by what the ticks
give. -/
def Obligations.SleepEdges : Prop := ∀ s : State, s.Stored → s.live = true →
  (∀ lpo, (s.inSleep = true ∨ s.inDeepSleep = true) → s.asleep = false →
    ∃ t, exec (.entryEdge lpo) s = .next t ∧ t.asleep = true ∧ t.time.pt = s.time.pt ∧ t.time.ptEntry = s.time.pt ∧
      t.time.entryTick = s.time.ktick ∧ t.fabric.holding = true ∧ t.dev.pllLocked = false ∧
      t.flag Reg.HEDGE_HB_STATUS 16 = false ∧ t.ring.linkUp = (s.ring.linkUp && s.inSleep)) ∧
  (∀ kedges herdLow, s.pmc.state = .waking → s.asleep = true → ∃ t, exec (.restartEdge kedges herdLow) s = .next t ∧
    t.time.src = .firc ∧ t.time.pt = s.ptNow ∧ t.flag Reg.TIME_STATUS 2 = true ∧
    (t.reg Reg.TIME_SLEEP_TICKS_LO).toNat = s.sleepTicks % 2 ^ 32 ∧ t.bist.paused = false ∧ t.pmc.restartPt = s.ptNow) ∧
  (∀ ppm lpo, s.wakeReady = true → ∃ t, exec (.wakeClockSwitch ppm lpo) s = .next t ∧ t.pmc.state = .run ∧
    t.time.pt = s.time.pt ∧ t.flag Reg.PMC_IRQ_STATUS 0 = true ∧
    (s.dev.stage = .full → s.clockFailed = false → t.time.src = .xo ∧ t.flag Reg.TIME_STATUS 2 = false))

/-- R357, R463 to R466, R469, R470, R473: the wake sources, the wake event, the link's report for Deep sleep, the exit from
Off, and accesses to gated blocks. -/
def Obligations.WakeAndPowerEvents : Prop :=
  (∀ s : State, s.Stored → s.live = true →
    (s.inSleep = true ∨ s.inDeepSleep = true →
      (s.flag Reg.PMC_WAKE_EN 0 = true → ∃ t, exec .wakePinAssert s = .next t ∧ s.WokenBy t 1 0) ∧
      (s.flag Reg.PMC_WAKE_EN 5 = true → ∃ t, exec (.dockWake (!s.flag Reg.HEDGE_CTRL 1)) s = .next t ∧ s.WokenBy t 6 0) ∧
      (s.flag Reg.PMC_STATUS 8 = true → s.kennelSec = s.reg Reg.PMC_ALARM → ∃ t, exec .alarmMatch s = .next t ∧ s.WokenBy t 5 0 ∧ t.reg Reg.PMC_ALARM = 0 ∧
        t.flag Reg.PMC_STATUS 8 = false) ∧
      (s.flag Reg.PMC_WAKE_EN 7 = true → s.inSleep = true → s.ring.linkUp = true →
        ∃ t, exec .linkActivityWake s = .next t ∧ s.WokenBy t 8 0) ∧
      (∀ p code detail, s.asleep = true → s.pmc.fired = [(p, code, detail)] → ∃ t, exec .wakeEvent s = .next t ∧
        t.pmc.state = .waking ∧ t.fld Reg.PMC_WAKE_SRC 7 0 = code % 256 ∧ t.pmc.detail = detail ∧
        t.reg Reg.PMC_WAKE_PT_LO = p.setWidth 32)) ∧
    (s.pmc.state = .run → s.flag Reg.PMC_WAKE_EN 0 = true → ∃ t, exec .wakePinAssert s = .next t ∧
      t.flag Reg.PMC_RUN_PENDING 0 = true ∧ t.pmc = s.pmc)) ∧
  (∀ s : State, s.Stored →
    (s.live = true → s.ring.linkUp = true → s.pmc.state ≠ .quiesce →
      exec .linkL23Ready s = .next { s with pmc.l23 := true }) ∧
    (∀ hv, s.dev.powered = true → s.pmc.state = .off → ∃ t, exec (.offExit hv) s = .next t ∧ t.ResetTo 10) ∧
    (∀ (write viaCmd : Bool) (a : BitVec 32), s.live = true → s.inDeepSleep = false →
      (viaCmd = true ∨ s.flag Reg.DEV_STAGE 12 = true) → s.blockGated (a.toNat / 4096) = true →
      a.toNat < 0x10000 → ∃ t, exec (.gatedRegisterAccess write viaCmd false a) s = .next t ∧
        (write = false → t.rdata = image (gatedWord (a.toNat / 4096))) ∧ (write = true → t.rdata = s.rdata) ∧
        t.fld Reg.DEV_GATED_CNT 15 0 = min 0xFFFF (s.fld Reg.DEV_GATED_CNT 15 0 + 1) ∧
        t.flag Reg.PMC_IRQ_STATUS 2 = true ∧ t.flag Reg.DEV_GATED_ACCESS 31 = true ∧
        (s.flag Reg.DEV_GATED_ACCESS 31 = true → t.reg Reg.DEV_GATED_ACCESS = s.reg Reg.DEV_GATED_ACCESS)) ∧
    (∀ (b : Fin 16) first, s.live = true → s.gatedDue b = true → (s.pmc.gated[b]).first = some first →
      ∃ t, exec (.gatedAccessReport b) s = .next t ∧ t.pmc.gated[b] = { lastPost := some s.time.pt } ∧ t.regs = s.regs))

/-- R481 to R488, R496, R499: the self-test engine and the continuous checks. -/
def Obligations.SelfTest : Prop := ∀ s : State, s.Stored →
  (∀ (t : Fin 15) (l : List (Fin 15)) (n : Fin 481), s.bistRuns = true → s.requested = none → s.openTests = t :: l →
    s.testDeferred t = false → s.bist.work[t] + n.val < testWork t →
    ∃ u, exec (.bistSlice n false []) s = .next u ∧ u.bist.work[t] = s.bist.work[t] + n.val ∧ u.bist.turn = t + 1 ∧
      u.regs = s.regs) ∧
  (∀ n : Fin 481, s.bistRuns = true → s.requested = none → s.openTests = [] → ∃ u, exec (.bistSlice n false []) s = .next u ∧
    u.bist.turn = 0 ∧ (∀ t : Fin 15, u.bist.work[t] = 0) ∧
    (u.reg Reg.BIST_CYCLE_CNT).toNat = min 0xFFFFFFFF ((s.reg Reg.BIST_CYCLE_CNT).toNat + 1)) ∧
  (s.live = true → s.asleep = false →
    (∀ high : BitVec 24, (∀ n : Fin 24, high.getLsbD n = s.enable n) →
      ∃ u, exec (.enReadbackCheck high) s = .next u ∧ u.regs = s.regs ∧ u.bist.enCmd = s.enMask) ∧
    (∀ lpo firc : BitVec 16, ∃ u, exec (.clockMonitorWindow none false lpo firc) s = .next u ∧
      u.fld Reg.BIST_CLK_DEV 31 16 = lpo.toNat ∧ u.fld Reg.BIST_CLK_DEV 15 0 = firc.toNat ∧
      (∀ k : Fin 3, u.bist.clkRun[k] = 0) ∧ u.time = s.time) ∧
    (∀ (k : Fin 3) (lpo firc : BitVec 16), s.dev.xoGood = true → s.bist.clkRun[k] = 1 →
      ∃ u, exec (.clockMonitorWindow (some k) false lpo firc) s = .next u ∧ u.flag Reg.BIST_FAIL_MASK 7 = true ∧
        (k.val = 0 → s.time.src = .xo → u.time.src = .firc)) ∧
    (∀ sheepdog, ∃ u, exec (.sramEccError sheepdog true) s = .next u ∧ u.flag Reg.BIST_FAIL_MASK 21 = true) ∧
    (∃ u, exec (.sramEccError true false) s = .next u ∧
      u.fld Reg.BIST_SRAM_ECC 31 16 = min 0xFFFF (s.fld Reg.BIST_SRAM_ECC 31 16 + 1) ∧
      s.sameRegsBut u [Reg.BIST_SRAM_ECC]) ∧
    (∃ u, exec (.sramEccError false false) s = .next u ∧
      u.fld Reg.BIST_SRAM_ECC 15 0 = min 0xFFFF (s.fld Reg.BIST_SRAM_ECC 15 0 + 1) ∧
      s.sameRegsBut u [Reg.BIST_SRAM_ECC]) ∧
    (∀ (r : Req) (tests : Word), s.admits r 0x90 → tests.toNat ≤ 0x7FFF → s.bist.request = none →
      (∃ t : Fin 15, (tests = 0 ∨ tests.getLsbD t = true) ∧ s.testSkipped t = false ∧ s.testDeferred t = false) →
      ∃ u, exec (.selftestRun r tests) s = .next u ∧ u.bist.request = some r ∧ u.flag Reg.BIST_STATUS 29 = true ∧
        ∀ t : Fin 15, u.flag Reg.BIST_REQ t =
          ((decide (tests = 0) || tests.getLsbD t) && !(s.testSkipped t || s.testDeferred t))) ∧
    (∀ (r : Req) (tests : Word) r', s.admits r 0x90 → tests.toNat ≤ 0x7FFF → s.bist.request = some r' →
      exec (.selftestRun r tests) s = .next ((s.take r 0x90).complete r { status := Status.BUSY })))

/-- R6, R7: what a bus write does to each writable field of a register, and that it changes no other bit. PMC.WAKE_EN, whose
undefined combinations leave the whole register, is the exception named. -/
def Obligations.FieldWrites : Prop := ∀ (locked : Bool) (a : Nat) (v old : Word) (r : RegSpec), regSpec a = some r →
  ¬(a = Reg.PMC_WAKE_EN ∧ wfld v 10 0 &&& 0x318 ≠ 0) →
  (∀ f ∈ r.fields, wfld (writeWord locked a v old) f.hi f.lo =
    match f.acc with
    | .w1c => wfld (old &&& ~~~v) f.hi f.lo
    | .rw => if f.admits (wfld v f.hi f.lo) then wfld v f.hi f.lo else wfld old f.hi f.lo
    | .rwl => if !locked && f.admits (wfld v f.hi f.lo) then wfld v f.hi f.lo else wfld old f.hi f.lo) ∧
  ∀ i, i < 32 → (∀ f ∈ r.fields, i < f.lo ∨ f.hi < i) → bit (writeWord locked a v old) i = bit old i

/-- R4 to R8: REGISTER_WRITE. A register without an action of its own takes the fields that R6 and R7 let through; once a
Plan is loaded its RWL fields stand; a gated block discards the write; and outside SW_RESET no write changes a state
machine. -/
def Obligations.RegisterWrites : Prop := ∀ (s : State) (off : BitVec 16) (v : Word) (a : Nat), s.Stored → s.barOpen = true →
  a = off.toNat / 4 * 4 →
  (s.blockGated (a / 4096) = false → exec (.registerWrite off v) s = .next (s.busWrite a v)) ∧
  (s.blockGated (a / 4096) = false → a / 4096 ∈ [3, 6, 7, 8, 9, 10, 13, 14, 15] →
    a ∉ [Reg.KEYS_CNT_CLR, Reg.SEQ_HERD_CNT_CLR, Reg.BATT_CNT_CLR, Reg.DRIVE_CNT_CLR, Reg.THERM_CNT_CLR, Reg.FLASH_CNT_CLR,
      Reg.BIST_CNT_CLR, Reg.MBOX_CNT_CLR] →
    exec (.registerWrite off v) s = .next (s.setReg a (writeWord s.dev.planLoaded a v (s.reg a)))) ∧
  (s.blockGated (a / 4096) = true → ∃ t, exec (.registerWrite off v) s = .next t ∧ (∀ x, x / 4096 = a / 4096 → x ≠ Reg.MSIX_PBA0 → t.reg x = s.reg x) ∧
    t.pmc.state = s.pmc.state ∧ t.time = s.time) ∧
  (a ≠ Reg.DEV_SW_RESET → ∀ t, exec (.registerWrite off v) s = .next t → t.dev = s.dev ∧ t.keys = s.keys ∧ t.seq = s.seq ∧
    t.herd = s.herd ∧ t.sup = s.sup ∧ t.batt = s.batt ∧ t.drive = s.drive ∧ t.therm = s.therm ∧ t.bist = s.bist ∧
    t.mbox = s.mbox ∧ t.flash = s.flash ∧ t.plans = s.plans)

/-- R8: a register read of a block whose clock or power is off returns 0xFA11_00nn with the block number nn; a write to it
is discarded; neither wakes the block. -/
def Obligations.GatedBlocks : Prop := ∀ (s : State) (a : BitVec 32) (v : Word), s.Stored → s.barOpen = true →
  a.toNat < 0x10000 → s.blockGated (a.toNat / 4096) = true →
  (∃ t, exec (.gatedRegisterAccess false false false a) s = .next t ∧
    t.rdata = image (BitVec.ofNat 32 (0xFA110000 + a.toNat / 4096)) ∧ t.blockGated (a.toNat / 4096) = true) ∧
  ∃ t, exec (.registerWrite (a.setWidth 16) v) s = .next t ∧ (∀ x, x / 4096 = a.toNat / 4096 → x ≠ Reg.MSIX_PBA0 → t.reg x = s.reg x) ∧ t.rdata = s.rdata ∧
    t.blockGated (a.toNat / 4096) = true
end

