-- ==== Sys2Proof/Laws/Bits.lean ====
section
/-! SUPPORT. Laws of bit fields: what a field reads after a field write. -/

namespace Sys2Proof.Machine

theorem fieldMask_getLsbD (hi lo i : Nat) : (fieldMask hi lo).getLsbD i = (decide (i < 32) && decide (lo ≤ i) && decide (i ≤ hi)) := by
  unfold fieldMask
  rw [BitVec.getLsbD_ofNat, Nat.testBit_shiftLeft, Nat.testBit_two_pow_sub_one]
  by_cases h1 : lo ≤ i <;> by_cases h2 : i < 32 <;> by_cases h3 : i ≤ hi <;> simp [h1, h2, h3] <;> omega

/-- Every bit of a word after a field write. -/
theorem wset_getLsbD (w : Word) (hi lo v i : Nat) : (wset w hi lo v).getLsbD i =
    if lo ≤ i ∧ i ≤ hi then (decide (i < 32) && v.testBit (i - lo)) else w.getLsbD i := by
  unfold wset
  rw [BitVec.getLsbD_or, BitVec.getLsbD_and, BitVec.getLsbD_and, BitVec.getLsbD_not, fieldMask_getLsbD, BitVec.getLsbD_ofNat,
    Nat.testBit_shiftLeft]
  by_cases h2 : i < 32
  · by_cases h1 : lo ≤ i <;> by_cases h3 : i ≤ hi <;> simp [h1, h2, h3]
  · rw [BitVec.getLsbD_of_ge w i (by omega)]
    simp [h2]

/-- The field just written. -/
theorem wfld_wset_self (w : Word) {hi lo : Nat} (v : Nat) (hh : hi < 32) (hl : lo ≤ hi) :
    wfld (wset w hi lo v) hi lo = v % 2 ^ (hi + 1 - lo) := by
  apply Nat.eq_of_testBit_eq
  intro i
  unfold wfld
  rw [Nat.testBit_mod_two_pow, Nat.testBit_mod_two_pow, Nat.testBit_shiftRight, BitVec.testBit_toNat, wset_getLsbD]
  by_cases h : i < hi + 1 - lo
  · rw [if_pos ⟨by omega, by omega⟩]
    simp [show lo + i < 32 by omega]
  · simp [h]

/-- A field that the write does not touch. -/
theorem wfld_wset_other (w : Word) {hi lo hi' lo' : Nat} (v : Nat) (h : hi' < lo ∨ hi < lo') :
    wfld (wset w hi lo v) hi' lo' = wfld w hi' lo' := by
  apply Nat.eq_of_testBit_eq
  intro i
  unfold wfld
  rw [Nat.testBit_mod_two_pow, Nat.testBit_mod_two_pow, Nat.testBit_shiftRight, Nat.testBit_shiftRight, BitVec.testBit_toNat,
    BitVec.testBit_toNat, wset_getLsbD]
  by_cases hi' : i < hi' + 1 - lo'
  · rw [if_neg (by omega)]
  · simp [hi']

/-- A bit just written. -/
theorem bit_wset_self (w : Word) {i : Nat} (v : Nat) (h : i < 32) : bit (wset w i i v) i = decide (v % 2 = 1) := by
  unfold bit
  rw [wset_getLsbD, if_pos ⟨Nat.le_refl _, Nat.le_refl _⟩]
  simp [h, Nat.testBit_zero]

/-- A bit that a field write does not touch. -/
theorem bit_wset_other (w : Word) {hi lo i : Nat} (v : Nat) (h : i < lo ∨ hi < i) : bit (wset w hi lo v) i = bit w i := by
  unfold bit
  rw [wset_getLsbD, if_neg (by omega)]

end Sys2Proof.Machine
end

