-- ==== Sys2Proof/Laws/Sparse.lean ====
section
/-!
SUPPORT. Laws of sparse storage: what a read after a write gives, and that every operation keeps the canonical form.
-/

namespace Sys2Proof.Machine

variable {α : Type} [DecidableEq α] {d : Nat → α} {m : List (Nat × α)} {a b : Nat} {v : α}

theorem sparseAbove_mono (h : a ≤ b) (hm : sparseAbove d b m = true) : sparseAbove d a m = true := by
  cases m with
  | nil => rfl
  | cons e t =>
    simp only [sparseAbove, Bool.and_eq_true, decide_eq_true_eq] at hm ⊢
    exact ⟨⟨by omega, hm.1.2⟩, hm.2⟩

theorem sparseWf_of_above (hm : sparseAbove d b m = true) : sparseWf d m = true := by
  cases m with
  | nil => rfl
  | cons e t =>
    simp only [sparseAbove, sparseWf, Bool.and_eq_true, decide_eq_true_eq] at hm ⊢
    exact ⟨hm.1.2, hm.2⟩

theorem sparseSet_above (hb : b < a) (hm : sparseAbove d b m = true) : sparseAbove d b (sparseSet d m a v) = true := by
  induction m generalizing b with
  | nil => simp only [sparseSet]; split <;> simp_all [sparseAbove]
  | cons e t ih =>
    obtain ⟨k, w⟩ := e
    simp only [sparseAbove, Bool.and_eq_true, decide_eq_true_eq] at hm
    obtain ⟨⟨hk, hw⟩, ht⟩ := hm
    simp only [sparseSet]
    split
    · split <;> simp_all [sparseAbove]
    · split
      · split
        · exact sparseAbove_mono (by omega) ht
        · rename_i e2 _
          subst e2
          simp_all [sparseAbove]
      · simp only [sparseAbove, Bool.and_eq_true, decide_eq_true_eq]
        exact ⟨⟨hk, hw⟩, ih (by omega) ht⟩

/-- Placing a value keeps the canonical form. -/
theorem sparseSet_wf (hm : sparseWf d m = true) : sparseWf d (sparseSet d m a v) = true := by
  cases m with
  | nil => simp only [sparseSet]; split <;> simp_all [sparseWf, sparseAbove]
  | cons e t =>
    obtain ⟨k, w⟩ := e
    simp only [sparseWf, Bool.and_eq_true, decide_eq_true_eq] at hm
    simp only [sparseSet]
    split
    · split <;> simp_all [sparseWf, sparseAbove]
    · split
      · split
        · exact sparseWf_of_above hm.2
        · rename_i e2 _
          subst e2
          simp_all [sparseWf]
      · simp only [sparseWf, Bool.and_eq_true, decide_eq_true_eq]
        exact ⟨hm.1, sparseSet_above (by omega) hm.2⟩

theorem sparseSetRun_wf (l : List α) (hm : sparseWf d m = true) : sparseWf d (sparseSetRun d m a l) = true := by
  induction l generalizing m a with
  | nil => exact hm
  | cons x xs ih => exact ih (sparseSet_wf hm)

theorem sparseFilter_above (p : Nat × α → Bool) (hm : sparseAbove d b m = true) :
    sparseAbove d b (m.filter p) = true := by
  induction m generalizing b with
  | nil => rfl
  | cons e t ih =>
    obtain ⟨k, w⟩ := e
    simp only [sparseAbove, Bool.and_eq_true, decide_eq_true_eq] at hm
    simp only [List.filter_cons]
    split
    · simp only [sparseAbove, Bool.and_eq_true, decide_eq_true_eq]
      exact ⟨hm.1, ih hm.2⟩
    · exact sparseAbove_mono (by omega) (ih hm.2)

/-- Dropping entries keeps the canonical form. -/
theorem sparseFilter_wf (p : Nat × α → Bool) (hm : sparseWf d m = true) : sparseWf d (m.filter p) = true := by
  cases m with
  | nil => rfl
  | cons e t =>
    obtain ⟨k, w⟩ := e
    simp only [sparseWf, Bool.and_eq_true, decide_eq_true_eq] at hm
    simp only [List.filter_cons]
    split
    · simp only [sparseWf, Bool.and_eq_true, decide_eq_true_eq]
      exact ⟨hm.1, sparseFilter_above p hm.2⟩
    · exact sparseWf_of_above (sparseFilter_above p hm.2)

omit [DecidableEq α] in
theorem sparseGet_below (h : ∀ e ∈ m, a < e.1) : sparseGet d m a = d a := by
  cases m with
  | nil => rfl
  | cons e t =>
    have := h e (by simp)
    simp only [sparseGet]
    rw [if_neg (by omega), if_pos this]

theorem sparseAbove_mem (hm : sparseAbove d b m = true) : ∀ e ∈ m, b < e.1 := by
  induction m generalizing b with
  | nil => simp
  | cons e t ih =>
    obtain ⟨k, w⟩ := e
    simp only [sparseAbove, Bool.and_eq_true, decide_eq_true_eq] at hm
    intro f hf
    simp only [List.mem_cons] at hf
    rcases hf with rfl | hf
    · exact hm.1.1
    · have := ih hm.2 f hf
      omega

/-- A read where a value was just placed gives that value. -/
theorem sparseGet_set_self (hm : sparseWf d m = true) : sparseGet d (sparseSet d m a v) a = v := by
  induction m with
  | nil => simp only [sparseSet]; split <;> simp_all [sparseGet]
  | cons e t ih =>
    obtain ⟨k, w⟩ := e
    simp only [sparseWf, Bool.and_eq_true, decide_eq_true_eq] at hm
    simp only [sparseSet]
    split
    · rename_i hlt
      split
      · rename_i hv
        simp only [sparseGet]
        rw [if_neg (by omega), if_pos hlt, hv]
      · simp [sparseGet]
    · split
      · rename_i heq
        subst heq
        split
        · rename_i hv
          rw [hv]
          exact sparseGet_below (sparseAbove_mem hm.2)
        · simp [sparseGet]
      · rename_i h1 h2
        simp only [sparseGet]
        rw [if_neg h2, if_neg h1]
        exact ih (sparseWf_of_above hm.2)

/-- A read elsewhere gives what it gave before. -/
theorem sparseGet_set_other (hm : sparseWf d m = true) (hb : b ≠ a) :
    sparseGet d (sparseSet d m a v) b = sparseGet d m b := by
  induction m with
  | nil => simp only [sparseSet]; split <;> simp_all [sparseGet]
  | cons e t ih =>
    obtain ⟨k, w⟩ := e
    simp only [sparseWf, Bool.and_eq_true, decide_eq_true_eq] at hm
    simp only [sparseSet]
    split
    · rename_i hlt
      split
      · rfl
      · simp only [sparseGet]
        rw [if_neg hb]
        split
        · rw [if_neg (by omega), if_pos (by omega)]
        · rfl
    · split
      · rename_i heq
        subst heq
        split
        · simp only [sparseGet]
          rw [if_neg hb]
          split
          · exact sparseGet_below fun e he => by have := sparseAbove_mem hm.2 e he; omega
          · rfl
        · simp only [sparseGet]
          rw [if_neg hb]
          split
          · rfl
          · rfl
      · simp only [sparseGet]
        split
        · rfl
        · split
          · rfl
          · exact ih (sparseWf_of_above hm.2)

/-- Dropping entries by their key leaves what every kept key reads. -/
theorem sparseGet_filter_above {p : Nat → Bool} (ha : p a = true) (hm : sparseAbove d b m = true) :
    sparseGet d (m.filter fun e => p e.1) a = sparseGet d m a := by
  induction m generalizing b with
  | nil => rfl
  | cons e t ih =>
    obtain ⟨k, v⟩ := e
    simp only [sparseAbove, Bool.and_eq_true, decide_eq_true_eq] at hm
    by_cases hk : p k = true
    · rw [List.filter_cons_of_pos (by exact hk)]
      simp only [sparseGet, ih hm.2]
    · rw [List.filter_cons_of_neg (by exact hk), ih hm.2]
      have hne : a ≠ k := fun e => hk (e ▸ ha)
      simp only [sparseGet, hne, if_false]
      by_cases hl : a < k
      · rw [if_pos hl]
        exact sparseGet_below fun e he => Nat.lt_trans hl (sparseAbove_mem hm.2 e he)
      · rw [if_neg hl]

theorem sparseGet_filter {p : Nat → Bool} (ha : p a = true) (hm : sparseWf d m = true) :
    sparseGet d (m.filter fun e => p e.1) a = sparseGet d m a := by
  cases m with
  | nil => rfl
  | cons e t =>
    obtain ⟨k, v⟩ := e
    simp only [sparseWf, Bool.and_eq_true, decide_eq_true_eq] at hm
    by_cases hk : p k = true
    · rw [List.filter_cons_of_pos (by exact hk)]
      simp only [sparseGet, sparseGet_filter_above ha hm.2]
    · rw [List.filter_cons_of_neg (by exact hk), sparseGet_filter_above ha hm.2]
      have hne : a ≠ k := fun e => hk (e ▸ ha)
      simp only [sparseGet, hne, if_false]
      by_cases hl : a < k
      · rw [if_pos hl]
        exact sparseGet_below fun e he => Nat.lt_trans hl (sparseAbove_mem hm.2 e he)
      · rw [if_neg hl]

end Sys2Proof.Machine
end

