-- ==== Sys2Proof/Laws/State.lean ====
section
/-! SUPPORT. What the shared updates do to each field of the state: one lemma per field per update. Registers after a register
write need the register file in canonical form (`State.Stored`), which every update keeps. -/

namespace Sys2Proof.Machine

/-! ### setReg -/

@[simp] theorem State.setReg_pending (s : State) (a : Nat) (w : Word) : (s.setReg a w).pending = s.pending := rfl
@[simp] theorem State.setReg_free (s : State) (a : Nat) (w : Word) : (s.setReg a w).free = s.free := rfl
@[simp] theorem State.setReg_host (s : State) (a : Nat) (w : Word) : (s.setReg a w).host = s.host := rfl
@[simp] theorem State.setReg_dev (s : State) (a : Nat) (w : Word) : (s.setReg a w).dev = s.dev := rfl
@[simp] theorem State.setReg_time (s : State) (a : Nat) (w : Word) : (s.setReg a w).time = s.time := rfl
@[simp] theorem State.setReg_leash (s : State) (a : Nat) (w : Word) : (s.setReg a w).leash = s.leash := rfl
@[simp] theorem State.setReg_fabric (s : State) (a : Nat) (w : Word) : (s.setReg a w).fabric = s.fabric := rfl
@[simp] theorem State.setReg_reqs (s : State) (a : Nat) (w : Word) : (s.setReg a w).reqs = s.reqs := rfl
@[simp] theorem State.setReg_keys (s : State) (a : Nat) (w : Word) : (s.setReg a w).keys = s.keys := rfl
@[simp] theorem State.setReg_motion (s : State) (a : Nat) (w : Word) : (s.setReg a w).motion = s.motion := rfl
@[simp] theorem State.setReg_seq (s : State) (a : Nat) (w : Word) : (s.setReg a w).seq = s.seq := rfl
@[simp] theorem State.setReg_herd (s : State) (a : Nat) (w : Word) : (s.setReg a w).herd = s.herd := rfl
@[simp] theorem State.setReg_sup (s : State) (a : Nat) (w : Word) : (s.setReg a w).sup = s.sup := rfl
@[simp] theorem State.setReg_batt (s : State) (a : Nat) (w : Word) : (s.setReg a w).batt = s.batt := rfl
@[simp] theorem State.setReg_drive (s : State) (a : Nat) (w : Word) : (s.setReg a w).drive = s.drive := rfl
@[simp] theorem State.setReg_therm (s : State) (a : Nat) (w : Word) : (s.setReg a w).therm = s.therm := rfl
@[simp] theorem State.setReg_hedge (s : State) (a : Nat) (w : Word) : (s.setReg a w).hedge = s.hedge := rfl
@[simp] theorem State.setReg_bist (s : State) (a : Nat) (w : Word) : (s.setReg a w).bist = s.bist := rfl
@[simp] theorem State.setReg_pmc (s : State) (a : Nat) (w : Word) : (s.setReg a w).pmc = s.pmc := rfl
@[simp] theorem State.setReg_ring (s : State) (a : Nat) (w : Word) : (s.setReg a w).ring = s.ring := rfl
@[simp] theorem State.setReg_mbox (s : State) (a : Nat) (w : Word) : (s.setReg a w).mbox = s.mbox := rfl
@[simp] theorem State.setReg_flash (s : State) (a : Nat) (w : Word) : (s.setReg a w).flash = s.flash := rfl
@[simp] theorem State.setReg_plans (s : State) (a : Nat) (w : Word) : (s.setReg a w).plans = s.plans := rfl
@[simp] theorem State.setReg_rdata (s : State) (a : Nat) (w : Word) : (s.setReg a w).rdata = s.rdata := rfl

/-! ### setFld -/

@[simp] theorem State.setFld_pending (s : State) (a hi lo v : Nat) : (s.setFld a hi lo v).pending = s.pending := rfl
@[simp] theorem State.setFld_free (s : State) (a hi lo v : Nat) : (s.setFld a hi lo v).free = s.free := rfl
@[simp] theorem State.setFld_host (s : State) (a hi lo v : Nat) : (s.setFld a hi lo v).host = s.host := rfl
@[simp] theorem State.setFld_dev (s : State) (a hi lo v : Nat) : (s.setFld a hi lo v).dev = s.dev := rfl
@[simp] theorem State.setFld_time (s : State) (a hi lo v : Nat) : (s.setFld a hi lo v).time = s.time := rfl
@[simp] theorem State.setFld_leash (s : State) (a hi lo v : Nat) : (s.setFld a hi lo v).leash = s.leash := rfl
@[simp] theorem State.setFld_fabric (s : State) (a hi lo v : Nat) : (s.setFld a hi lo v).fabric = s.fabric := rfl
@[simp] theorem State.setFld_reqs (s : State) (a hi lo v : Nat) : (s.setFld a hi lo v).reqs = s.reqs := rfl
@[simp] theorem State.setFld_keys (s : State) (a hi lo v : Nat) : (s.setFld a hi lo v).keys = s.keys := rfl
@[simp] theorem State.setFld_motion (s : State) (a hi lo v : Nat) : (s.setFld a hi lo v).motion = s.motion := rfl
@[simp] theorem State.setFld_seq (s : State) (a hi lo v : Nat) : (s.setFld a hi lo v).seq = s.seq := rfl
@[simp] theorem State.setFld_herd (s : State) (a hi lo v : Nat) : (s.setFld a hi lo v).herd = s.herd := rfl
@[simp] theorem State.setFld_sup (s : State) (a hi lo v : Nat) : (s.setFld a hi lo v).sup = s.sup := rfl
@[simp] theorem State.setFld_batt (s : State) (a hi lo v : Nat) : (s.setFld a hi lo v).batt = s.batt := rfl
@[simp] theorem State.setFld_drive (s : State) (a hi lo v : Nat) : (s.setFld a hi lo v).drive = s.drive := rfl
@[simp] theorem State.setFld_therm (s : State) (a hi lo v : Nat) : (s.setFld a hi lo v).therm = s.therm := rfl
@[simp] theorem State.setFld_hedge (s : State) (a hi lo v : Nat) : (s.setFld a hi lo v).hedge = s.hedge := rfl
@[simp] theorem State.setFld_bist (s : State) (a hi lo v : Nat) : (s.setFld a hi lo v).bist = s.bist := rfl
@[simp] theorem State.setFld_pmc (s : State) (a hi lo v : Nat) : (s.setFld a hi lo v).pmc = s.pmc := rfl
@[simp] theorem State.setFld_ring (s : State) (a hi lo v : Nat) : (s.setFld a hi lo v).ring = s.ring := rfl
@[simp] theorem State.setFld_mbox (s : State) (a hi lo v : Nat) : (s.setFld a hi lo v).mbox = s.mbox := rfl
@[simp] theorem State.setFld_flash (s : State) (a hi lo v : Nat) : (s.setFld a hi lo v).flash = s.flash := rfl
@[simp] theorem State.setFld_plans (s : State) (a hi lo v : Nat) : (s.setFld a hi lo v).plans = s.plans := rfl
@[simp] theorem State.setFld_rdata (s : State) (a hi lo v : Nat) : (s.setFld a hi lo v).rdata = s.rdata := rfl

/-! ### setFlag -/

@[simp] theorem State.setFlag_pending (s : State) (a i : Nat) (b : Bool) : (s.setFlag a i b).pending = s.pending := rfl
@[simp] theorem State.setFlag_free (s : State) (a i : Nat) (b : Bool) : (s.setFlag a i b).free = s.free := rfl
@[simp] theorem State.setFlag_host (s : State) (a i : Nat) (b : Bool) : (s.setFlag a i b).host = s.host := rfl
@[simp] theorem State.setFlag_dev (s : State) (a i : Nat) (b : Bool) : (s.setFlag a i b).dev = s.dev := rfl
@[simp] theorem State.setFlag_time (s : State) (a i : Nat) (b : Bool) : (s.setFlag a i b).time = s.time := rfl
@[simp] theorem State.setFlag_leash (s : State) (a i : Nat) (b : Bool) : (s.setFlag a i b).leash = s.leash := rfl
@[simp] theorem State.setFlag_fabric (s : State) (a i : Nat) (b : Bool) : (s.setFlag a i b).fabric = s.fabric := rfl
@[simp] theorem State.setFlag_reqs (s : State) (a i : Nat) (b : Bool) : (s.setFlag a i b).reqs = s.reqs := rfl
@[simp] theorem State.setFlag_keys (s : State) (a i : Nat) (b : Bool) : (s.setFlag a i b).keys = s.keys := rfl
@[simp] theorem State.setFlag_motion (s : State) (a i : Nat) (b : Bool) : (s.setFlag a i b).motion = s.motion := rfl
@[simp] theorem State.setFlag_seq (s : State) (a i : Nat) (b : Bool) : (s.setFlag a i b).seq = s.seq := rfl
@[simp] theorem State.setFlag_herd (s : State) (a i : Nat) (b : Bool) : (s.setFlag a i b).herd = s.herd := rfl
@[simp] theorem State.setFlag_sup (s : State) (a i : Nat) (b : Bool) : (s.setFlag a i b).sup = s.sup := rfl
@[simp] theorem State.setFlag_batt (s : State) (a i : Nat) (b : Bool) : (s.setFlag a i b).batt = s.batt := rfl
@[simp] theorem State.setFlag_drive (s : State) (a i : Nat) (b : Bool) : (s.setFlag a i b).drive = s.drive := rfl
@[simp] theorem State.setFlag_therm (s : State) (a i : Nat) (b : Bool) : (s.setFlag a i b).therm = s.therm := rfl
@[simp] theorem State.setFlag_hedge (s : State) (a i : Nat) (b : Bool) : (s.setFlag a i b).hedge = s.hedge := rfl
@[simp] theorem State.setFlag_bist (s : State) (a i : Nat) (b : Bool) : (s.setFlag a i b).bist = s.bist := rfl
@[simp] theorem State.setFlag_pmc (s : State) (a i : Nat) (b : Bool) : (s.setFlag a i b).pmc = s.pmc := rfl
@[simp] theorem State.setFlag_ring (s : State) (a i : Nat) (b : Bool) : (s.setFlag a i b).ring = s.ring := rfl
@[simp] theorem State.setFlag_mbox (s : State) (a i : Nat) (b : Bool) : (s.setFlag a i b).mbox = s.mbox := rfl
@[simp] theorem State.setFlag_flash (s : State) (a i : Nat) (b : Bool) : (s.setFlag a i b).flash = s.flash := rfl
@[simp] theorem State.setFlag_plans (s : State) (a i : Nat) (b : Bool) : (s.setFlag a i b).plans = s.plans := rfl
@[simp] theorem State.setFlag_rdata (s : State) (a i : Nat) (b : Bool) : (s.setFlag a i b).rdata = s.rdata := rfl

/-! ### inc -/

@[simp] theorem State.inc_pending (s : State) (a hi lo : Nat) : (s.inc a hi lo).pending = s.pending := rfl
@[simp] theorem State.inc_free (s : State) (a hi lo : Nat) : (s.inc a hi lo).free = s.free := rfl
@[simp] theorem State.inc_host (s : State) (a hi lo : Nat) : (s.inc a hi lo).host = s.host := rfl
@[simp] theorem State.inc_dev (s : State) (a hi lo : Nat) : (s.inc a hi lo).dev = s.dev := rfl
@[simp] theorem State.inc_time (s : State) (a hi lo : Nat) : (s.inc a hi lo).time = s.time := rfl
@[simp] theorem State.inc_leash (s : State) (a hi lo : Nat) : (s.inc a hi lo).leash = s.leash := rfl
@[simp] theorem State.inc_fabric (s : State) (a hi lo : Nat) : (s.inc a hi lo).fabric = s.fabric := rfl
@[simp] theorem State.inc_reqs (s : State) (a hi lo : Nat) : (s.inc a hi lo).reqs = s.reqs := rfl
@[simp] theorem State.inc_keys (s : State) (a hi lo : Nat) : (s.inc a hi lo).keys = s.keys := rfl
@[simp] theorem State.inc_motion (s : State) (a hi lo : Nat) : (s.inc a hi lo).motion = s.motion := rfl
@[simp] theorem State.inc_seq (s : State) (a hi lo : Nat) : (s.inc a hi lo).seq = s.seq := rfl
@[simp] theorem State.inc_herd (s : State) (a hi lo : Nat) : (s.inc a hi lo).herd = s.herd := rfl
@[simp] theorem State.inc_sup (s : State) (a hi lo : Nat) : (s.inc a hi lo).sup = s.sup := rfl
@[simp] theorem State.inc_batt (s : State) (a hi lo : Nat) : (s.inc a hi lo).batt = s.batt := rfl
@[simp] theorem State.inc_drive (s : State) (a hi lo : Nat) : (s.inc a hi lo).drive = s.drive := rfl
@[simp] theorem State.inc_therm (s : State) (a hi lo : Nat) : (s.inc a hi lo).therm = s.therm := rfl
@[simp] theorem State.inc_hedge (s : State) (a hi lo : Nat) : (s.inc a hi lo).hedge = s.hedge := rfl
@[simp] theorem State.inc_bist (s : State) (a hi lo : Nat) : (s.inc a hi lo).bist = s.bist := rfl
@[simp] theorem State.inc_pmc (s : State) (a hi lo : Nat) : (s.inc a hi lo).pmc = s.pmc := rfl
@[simp] theorem State.inc_ring (s : State) (a hi lo : Nat) : (s.inc a hi lo).ring = s.ring := rfl
@[simp] theorem State.inc_mbox (s : State) (a hi lo : Nat) : (s.inc a hi lo).mbox = s.mbox := rfl
@[simp] theorem State.inc_flash (s : State) (a hi lo : Nat) : (s.inc a hi lo).flash = s.flash := rfl
@[simp] theorem State.inc_plans (s : State) (a hi lo : Nat) : (s.inc a hi lo).plans = s.plans := rfl
@[simp] theorem State.inc_rdata (s : State) (a hi lo : Nat) : (s.inc a hi lo).rdata = s.rdata := rfl

/-! ### incBy -/

@[simp] theorem State.incBy_pending (s : State) (a hi lo n : Nat) : (s.incBy a hi lo n).pending = s.pending := rfl
@[simp] theorem State.incBy_free (s : State) (a hi lo n : Nat) : (s.incBy a hi lo n).free = s.free := rfl
@[simp] theorem State.incBy_host (s : State) (a hi lo n : Nat) : (s.incBy a hi lo n).host = s.host := rfl
@[simp] theorem State.incBy_dev (s : State) (a hi lo n : Nat) : (s.incBy a hi lo n).dev = s.dev := rfl
@[simp] theorem State.incBy_time (s : State) (a hi lo n : Nat) : (s.incBy a hi lo n).time = s.time := rfl
@[simp] theorem State.incBy_leash (s : State) (a hi lo n : Nat) : (s.incBy a hi lo n).leash = s.leash := rfl
@[simp] theorem State.incBy_fabric (s : State) (a hi lo n : Nat) : (s.incBy a hi lo n).fabric = s.fabric := rfl
@[simp] theorem State.incBy_reqs (s : State) (a hi lo n : Nat) : (s.incBy a hi lo n).reqs = s.reqs := rfl
@[simp] theorem State.incBy_keys (s : State) (a hi lo n : Nat) : (s.incBy a hi lo n).keys = s.keys := rfl
@[simp] theorem State.incBy_motion (s : State) (a hi lo n : Nat) : (s.incBy a hi lo n).motion = s.motion := rfl
@[simp] theorem State.incBy_seq (s : State) (a hi lo n : Nat) : (s.incBy a hi lo n).seq = s.seq := rfl
@[simp] theorem State.incBy_herd (s : State) (a hi lo n : Nat) : (s.incBy a hi lo n).herd = s.herd := rfl
@[simp] theorem State.incBy_sup (s : State) (a hi lo n : Nat) : (s.incBy a hi lo n).sup = s.sup := rfl
@[simp] theorem State.incBy_batt (s : State) (a hi lo n : Nat) : (s.incBy a hi lo n).batt = s.batt := rfl
@[simp] theorem State.incBy_drive (s : State) (a hi lo n : Nat) : (s.incBy a hi lo n).drive = s.drive := rfl
@[simp] theorem State.incBy_therm (s : State) (a hi lo n : Nat) : (s.incBy a hi lo n).therm = s.therm := rfl
@[simp] theorem State.incBy_hedge (s : State) (a hi lo n : Nat) : (s.incBy a hi lo n).hedge = s.hedge := rfl
@[simp] theorem State.incBy_bist (s : State) (a hi lo n : Nat) : (s.incBy a hi lo n).bist = s.bist := rfl
@[simp] theorem State.incBy_pmc (s : State) (a hi lo n : Nat) : (s.incBy a hi lo n).pmc = s.pmc := rfl
@[simp] theorem State.incBy_ring (s : State) (a hi lo n : Nat) : (s.incBy a hi lo n).ring = s.ring := rfl
@[simp] theorem State.incBy_mbox (s : State) (a hi lo n : Nat) : (s.incBy a hi lo n).mbox = s.mbox := rfl
@[simp] theorem State.incBy_flash (s : State) (a hi lo n : Nat) : (s.incBy a hi lo n).flash = s.flash := rfl
@[simp] theorem State.incBy_plans (s : State) (a hi lo n : Nat) : (s.incBy a hi lo n).plans = s.plans := rfl
@[simp] theorem State.incBy_rdata (s : State) (a hi lo n : Nat) : (s.incBy a hi lo n).rdata = s.rdata := rfl

/-! ### writeStored -/

@[simp] theorem State.writeStored_pending (s : State) (a : Nat) (v : Word) : (s.writeStored a v).pending = s.pending := rfl
@[simp] theorem State.writeStored_free (s : State) (a : Nat) (v : Word) : (s.writeStored a v).free = s.free := rfl
@[simp] theorem State.writeStored_host (s : State) (a : Nat) (v : Word) : (s.writeStored a v).host = s.host := rfl
@[simp] theorem State.writeStored_dev (s : State) (a : Nat) (v : Word) : (s.writeStored a v).dev = s.dev := rfl
@[simp] theorem State.writeStored_time (s : State) (a : Nat) (v : Word) : (s.writeStored a v).time = s.time := rfl
@[simp] theorem State.writeStored_leash (s : State) (a : Nat) (v : Word) : (s.writeStored a v).leash = s.leash := rfl
@[simp] theorem State.writeStored_fabric (s : State) (a : Nat) (v : Word) : (s.writeStored a v).fabric = s.fabric := rfl
@[simp] theorem State.writeStored_reqs (s : State) (a : Nat) (v : Word) : (s.writeStored a v).reqs = s.reqs := rfl
@[simp] theorem State.writeStored_keys (s : State) (a : Nat) (v : Word) : (s.writeStored a v).keys = s.keys := rfl
@[simp] theorem State.writeStored_motion (s : State) (a : Nat) (v : Word) : (s.writeStored a v).motion = s.motion := rfl
@[simp] theorem State.writeStored_seq (s : State) (a : Nat) (v : Word) : (s.writeStored a v).seq = s.seq := rfl
@[simp] theorem State.writeStored_herd (s : State) (a : Nat) (v : Word) : (s.writeStored a v).herd = s.herd := rfl
@[simp] theorem State.writeStored_sup (s : State) (a : Nat) (v : Word) : (s.writeStored a v).sup = s.sup := rfl
@[simp] theorem State.writeStored_batt (s : State) (a : Nat) (v : Word) : (s.writeStored a v).batt = s.batt := rfl
@[simp] theorem State.writeStored_drive (s : State) (a : Nat) (v : Word) : (s.writeStored a v).drive = s.drive := rfl
@[simp] theorem State.writeStored_therm (s : State) (a : Nat) (v : Word) : (s.writeStored a v).therm = s.therm := rfl
@[simp] theorem State.writeStored_hedge (s : State) (a : Nat) (v : Word) : (s.writeStored a v).hedge = s.hedge := rfl
@[simp] theorem State.writeStored_bist (s : State) (a : Nat) (v : Word) : (s.writeStored a v).bist = s.bist := rfl
@[simp] theorem State.writeStored_pmc (s : State) (a : Nat) (v : Word) : (s.writeStored a v).pmc = s.pmc := rfl
@[simp] theorem State.writeStored_ring (s : State) (a : Nat) (v : Word) : (s.writeStored a v).ring = s.ring := rfl
@[simp] theorem State.writeStored_mbox (s : State) (a : Nat) (v : Word) : (s.writeStored a v).mbox = s.mbox := rfl
@[simp] theorem State.writeStored_flash (s : State) (a : Nat) (v : Word) : (s.writeStored a v).flash = s.flash := rfl
@[simp] theorem State.writeStored_plans (s : State) (a : Nat) (v : Word) : (s.writeStored a v).plans = s.plans := rfl
@[simp] theorem State.writeStored_rdata (s : State) (a : Nat) (v : Word) : (s.writeStored a v).rdata = s.rdata := rfl

/-! ### hostWrite -/

@[simp] theorem State.hostWrite_pending (s : State) (a : Nat) (l : List Byte) : (s.hostWrite a l).pending = s.pending := rfl
@[simp] theorem State.hostWrite_free (s : State) (a : Nat) (l : List Byte) : (s.hostWrite a l).free = s.free := rfl
@[simp] theorem State.hostWrite_regs (s : State) (a : Nat) (l : List Byte) : (s.hostWrite a l).regs = s.regs := rfl
@[simp] theorem State.hostWrite_dev (s : State) (a : Nat) (l : List Byte) : (s.hostWrite a l).dev = s.dev := rfl
@[simp] theorem State.hostWrite_time (s : State) (a : Nat) (l : List Byte) : (s.hostWrite a l).time = s.time := rfl
@[simp] theorem State.hostWrite_leash (s : State) (a : Nat) (l : List Byte) : (s.hostWrite a l).leash = s.leash := rfl
@[simp] theorem State.hostWrite_fabric (s : State) (a : Nat) (l : List Byte) : (s.hostWrite a l).fabric = s.fabric := rfl
@[simp] theorem State.hostWrite_reqs (s : State) (a : Nat) (l : List Byte) : (s.hostWrite a l).reqs = s.reqs := rfl
@[simp] theorem State.hostWrite_keys (s : State) (a : Nat) (l : List Byte) : (s.hostWrite a l).keys = s.keys := rfl
@[simp] theorem State.hostWrite_motion (s : State) (a : Nat) (l : List Byte) : (s.hostWrite a l).motion = s.motion := rfl
@[simp] theorem State.hostWrite_seq (s : State) (a : Nat) (l : List Byte) : (s.hostWrite a l).seq = s.seq := rfl
@[simp] theorem State.hostWrite_herd (s : State) (a : Nat) (l : List Byte) : (s.hostWrite a l).herd = s.herd := rfl
@[simp] theorem State.hostWrite_sup (s : State) (a : Nat) (l : List Byte) : (s.hostWrite a l).sup = s.sup := rfl
@[simp] theorem State.hostWrite_batt (s : State) (a : Nat) (l : List Byte) : (s.hostWrite a l).batt = s.batt := rfl
@[simp] theorem State.hostWrite_drive (s : State) (a : Nat) (l : List Byte) : (s.hostWrite a l).drive = s.drive := rfl
@[simp] theorem State.hostWrite_therm (s : State) (a : Nat) (l : List Byte) : (s.hostWrite a l).therm = s.therm := rfl
@[simp] theorem State.hostWrite_hedge (s : State) (a : Nat) (l : List Byte) : (s.hostWrite a l).hedge = s.hedge := rfl
@[simp] theorem State.hostWrite_bist (s : State) (a : Nat) (l : List Byte) : (s.hostWrite a l).bist = s.bist := rfl
@[simp] theorem State.hostWrite_pmc (s : State) (a : Nat) (l : List Byte) : (s.hostWrite a l).pmc = s.pmc := rfl
@[simp] theorem State.hostWrite_ring (s : State) (a : Nat) (l : List Byte) : (s.hostWrite a l).ring = s.ring := rfl
@[simp] theorem State.hostWrite_mbox (s : State) (a : Nat) (l : List Byte) : (s.hostWrite a l).mbox = s.mbox := rfl
@[simp] theorem State.hostWrite_flash (s : State) (a : Nat) (l : List Byte) : (s.hostWrite a l).flash = s.flash := rfl
@[simp] theorem State.hostWrite_plans (s : State) (a : Nat) (l : List Byte) : (s.hostWrite a l).plans = s.plans := rfl
@[simp] theorem State.hostWrite_rdata (s : State) (a : Nat) (l : List Byte) : (s.hostWrite a l).rdata = s.rdata := rfl

/-! ### draw -/

@[simp] theorem State.draw_pending (s : State) : (s.draw).pending = s.pending := rfl
@[simp] theorem State.draw_regs (s : State) : (s.draw).regs = s.regs := rfl
@[simp] theorem State.draw_host (s : State) : (s.draw).host = s.host := rfl
@[simp] theorem State.draw_dev (s : State) : (s.draw).dev = s.dev := rfl
@[simp] theorem State.draw_time (s : State) : (s.draw).time = s.time := rfl
@[simp] theorem State.draw_leash (s : State) : (s.draw).leash = s.leash := rfl
@[simp] theorem State.draw_fabric (s : State) : (s.draw).fabric = s.fabric := rfl
@[simp] theorem State.draw_reqs (s : State) : (s.draw).reqs = s.reqs := rfl
@[simp] theorem State.draw_keys (s : State) : (s.draw).keys = s.keys := rfl
@[simp] theorem State.draw_motion (s : State) : (s.draw).motion = s.motion := rfl
@[simp] theorem State.draw_seq (s : State) : (s.draw).seq = s.seq := rfl
@[simp] theorem State.draw_herd (s : State) : (s.draw).herd = s.herd := rfl
@[simp] theorem State.draw_sup (s : State) : (s.draw).sup = s.sup := rfl
@[simp] theorem State.draw_batt (s : State) : (s.draw).batt = s.batt := rfl
@[simp] theorem State.draw_drive (s : State) : (s.draw).drive = s.drive := rfl
@[simp] theorem State.draw_therm (s : State) : (s.draw).therm = s.therm := rfl
@[simp] theorem State.draw_hedge (s : State) : (s.draw).hedge = s.hedge := rfl
@[simp] theorem State.draw_bist (s : State) : (s.draw).bist = s.bist := rfl
@[simp] theorem State.draw_pmc (s : State) : (s.draw).pmc = s.pmc := rfl
@[simp] theorem State.draw_ring (s : State) : (s.draw).ring = s.ring := rfl
@[simp] theorem State.draw_mbox (s : State) : (s.draw).mbox = s.mbox := rfl
@[simp] theorem State.draw_flash (s : State) : (s.draw).flash = s.flash := rfl
@[simp] theorem State.draw_plans (s : State) : (s.draw).plans = s.plans := rfl
@[simp] theorem State.draw_rdata (s : State) : (s.draw).rdata = s.rdata := rfl

/-! ### modCtx -/

@[simp] theorem State.modCtx_pending (s : State) (c : Fin 32) (f : Ctx → Ctx) : (s.modCtx c f).pending = s.pending := rfl
@[simp] theorem State.modCtx_free (s : State) (c : Fin 32) (f : Ctx → Ctx) : (s.modCtx c f).free = s.free := rfl
@[simp] theorem State.modCtx_regs (s : State) (c : Fin 32) (f : Ctx → Ctx) : (s.modCtx c f).regs = s.regs := rfl
@[simp] theorem State.modCtx_host (s : State) (c : Fin 32) (f : Ctx → Ctx) : (s.modCtx c f).host = s.host := rfl
@[simp] theorem State.modCtx_dev (s : State) (c : Fin 32) (f : Ctx → Ctx) : (s.modCtx c f).dev = s.dev := rfl
@[simp] theorem State.modCtx_time (s : State) (c : Fin 32) (f : Ctx → Ctx) : (s.modCtx c f).time = s.time := rfl
@[simp] theorem State.modCtx_leash (s : State) (c : Fin 32) (f : Ctx → Ctx) : (s.modCtx c f).leash = s.leash := rfl
@[simp] theorem State.modCtx_fabric (s : State) (c : Fin 32) (f : Ctx → Ctx) : (s.modCtx c f).fabric = s.fabric := rfl
@[simp] theorem State.modCtx_reqs (s : State) (c : Fin 32) (f : Ctx → Ctx) : (s.modCtx c f).reqs = s.reqs := rfl
@[simp] theorem State.modCtx_keys (s : State) (c : Fin 32) (f : Ctx → Ctx) : (s.modCtx c f).keys = s.keys := rfl
@[simp] theorem State.modCtx_motion (s : State) (c : Fin 32) (f : Ctx → Ctx) : (s.modCtx c f).motion = s.motion := rfl
@[simp] theorem State.modCtx_seq (s : State) (c : Fin 32) (f : Ctx → Ctx) : (s.modCtx c f).seq = s.seq := rfl
@[simp] theorem State.modCtx_herd (s : State) (c : Fin 32) (f : Ctx → Ctx) : (s.modCtx c f).herd = s.herd := rfl
@[simp] theorem State.modCtx_sup (s : State) (c : Fin 32) (f : Ctx → Ctx) : (s.modCtx c f).sup = s.sup := rfl
@[simp] theorem State.modCtx_batt (s : State) (c : Fin 32) (f : Ctx → Ctx) : (s.modCtx c f).batt = s.batt := rfl
@[simp] theorem State.modCtx_drive (s : State) (c : Fin 32) (f : Ctx → Ctx) : (s.modCtx c f).drive = s.drive := rfl
@[simp] theorem State.modCtx_therm (s : State) (c : Fin 32) (f : Ctx → Ctx) : (s.modCtx c f).therm = s.therm := rfl
@[simp] theorem State.modCtx_hedge (s : State) (c : Fin 32) (f : Ctx → Ctx) : (s.modCtx c f).hedge = s.hedge := rfl
@[simp] theorem State.modCtx_bist (s : State) (c : Fin 32) (f : Ctx → Ctx) : (s.modCtx c f).bist = s.bist := rfl
@[simp] theorem State.modCtx_pmc (s : State) (c : Fin 32) (f : Ctx → Ctx) : (s.modCtx c f).pmc = s.pmc := rfl
@[simp] theorem State.modCtx_mbox (s : State) (c : Fin 32) (f : Ctx → Ctx) : (s.modCtx c f).mbox = s.mbox := rfl
@[simp] theorem State.modCtx_flash (s : State) (c : Fin 32) (f : Ctx → Ctx) : (s.modCtx c f).flash = s.flash := rfl
@[simp] theorem State.modCtx_plans (s : State) (c : Fin 32) (f : Ctx → Ctx) : (s.modCtx c f).plans = s.plans := rfl
@[simp] theorem State.modCtx_rdata (s : State) (c : Fin 32) (f : Ctx → Ctx) : (s.modCtx c f).rdata = s.rdata := rfl

/-! ### modPort -/

@[simp] theorem State.modPort_pending (s : State) (p : Fin 4) (f : Port → Port) : (s.modPort p f).pending = s.pending := rfl
@[simp] theorem State.modPort_free (s : State) (p : Fin 4) (f : Port → Port) : (s.modPort p f).free = s.free := rfl
@[simp] theorem State.modPort_regs (s : State) (p : Fin 4) (f : Port → Port) : (s.modPort p f).regs = s.regs := rfl
@[simp] theorem State.modPort_host (s : State) (p : Fin 4) (f : Port → Port) : (s.modPort p f).host = s.host := rfl
@[simp] theorem State.modPort_dev (s : State) (p : Fin 4) (f : Port → Port) : (s.modPort p f).dev = s.dev := rfl
@[simp] theorem State.modPort_time (s : State) (p : Fin 4) (f : Port → Port) : (s.modPort p f).time = s.time := rfl
@[simp] theorem State.modPort_leash (s : State) (p : Fin 4) (f : Port → Port) : (s.modPort p f).leash = s.leash := rfl
@[simp] theorem State.modPort_fabric (s : State) (p : Fin 4) (f : Port → Port) : (s.modPort p f).fabric = s.fabric := rfl
@[simp] theorem State.modPort_reqs (s : State) (p : Fin 4) (f : Port → Port) : (s.modPort p f).reqs = s.reqs := rfl
@[simp] theorem State.modPort_keys (s : State) (p : Fin 4) (f : Port → Port) : (s.modPort p f).keys = s.keys := rfl
@[simp] theorem State.modPort_motion (s : State) (p : Fin 4) (f : Port → Port) : (s.modPort p f).motion = s.motion := rfl
@[simp] theorem State.modPort_seq (s : State) (p : Fin 4) (f : Port → Port) : (s.modPort p f).seq = s.seq := rfl
@[simp] theorem State.modPort_herd (s : State) (p : Fin 4) (f : Port → Port) : (s.modPort p f).herd = s.herd := rfl
@[simp] theorem State.modPort_sup (s : State) (p : Fin 4) (f : Port → Port) : (s.modPort p f).sup = s.sup := rfl
@[simp] theorem State.modPort_batt (s : State) (p : Fin 4) (f : Port → Port) : (s.modPort p f).batt = s.batt := rfl
@[simp] theorem State.modPort_drive (s : State) (p : Fin 4) (f : Port → Port) : (s.modPort p f).drive = s.drive := rfl
@[simp] theorem State.modPort_therm (s : State) (p : Fin 4) (f : Port → Port) : (s.modPort p f).therm = s.therm := rfl
@[simp] theorem State.modPort_hedge (s : State) (p : Fin 4) (f : Port → Port) : (s.modPort p f).hedge = s.hedge := rfl
@[simp] theorem State.modPort_bist (s : State) (p : Fin 4) (f : Port → Port) : (s.modPort p f).bist = s.bist := rfl
@[simp] theorem State.modPort_pmc (s : State) (p : Fin 4) (f : Port → Port) : (s.modPort p f).pmc = s.pmc := rfl
@[simp] theorem State.modPort_ring (s : State) (p : Fin 4) (f : Port → Port) : (s.modPort p f).ring = s.ring := rfl
@[simp] theorem State.modPort_flash (s : State) (p : Fin 4) (f : Port → Port) : (s.modPort p f).flash = s.flash := rfl
@[simp] theorem State.modPort_plans (s : State) (p : Fin 4) (f : Port → Port) : (s.modPort p f).plans = s.plans := rfl
@[simp] theorem State.modPort_rdata (s : State) (p : Fin 4) (f : Port → Port) : (s.modPort p f).rdata = s.rdata := rfl

/-! ### served -/

@[simp] theorem State.served_pending (s : State) (d : Nat) : (s.served d).pending = s.pending := rfl
@[simp] theorem State.served_free (s : State) (d : Nat) : (s.served d).free = s.free := rfl
@[simp] theorem State.served_regs (s : State) (d : Nat) : (s.served d).regs = s.regs := rfl
@[simp] theorem State.served_host (s : State) (d : Nat) : (s.served d).host = s.host := rfl
@[simp] theorem State.served_dev (s : State) (d : Nat) : (s.served d).dev = s.dev := rfl
@[simp] theorem State.served_time (s : State) (d : Nat) : (s.served d).time = s.time := rfl
@[simp] theorem State.served_leash (s : State) (d : Nat) : (s.served d).leash = s.leash := rfl
@[simp] theorem State.served_reqs (s : State) (d : Nat) : (s.served d).reqs = s.reqs := rfl
@[simp] theorem State.served_keys (s : State) (d : Nat) : (s.served d).keys = s.keys := rfl
@[simp] theorem State.served_motion (s : State) (d : Nat) : (s.served d).motion = s.motion := rfl
@[simp] theorem State.served_seq (s : State) (d : Nat) : (s.served d).seq = s.seq := rfl
@[simp] theorem State.served_herd (s : State) (d : Nat) : (s.served d).herd = s.herd := rfl
@[simp] theorem State.served_sup (s : State) (d : Nat) : (s.served d).sup = s.sup := rfl
@[simp] theorem State.served_batt (s : State) (d : Nat) : (s.served d).batt = s.batt := rfl
@[simp] theorem State.served_drive (s : State) (d : Nat) : (s.served d).drive = s.drive := rfl
@[simp] theorem State.served_therm (s : State) (d : Nat) : (s.served d).therm = s.therm := rfl
@[simp] theorem State.served_hedge (s : State) (d : Nat) : (s.served d).hedge = s.hedge := rfl
@[simp] theorem State.served_bist (s : State) (d : Nat) : (s.served d).bist = s.bist := rfl
@[simp] theorem State.served_pmc (s : State) (d : Nat) : (s.served d).pmc = s.pmc := rfl
@[simp] theorem State.served_ring (s : State) (d : Nat) : (s.served d).ring = s.ring := rfl
@[simp] theorem State.served_mbox (s : State) (d : Nat) : (s.served d).mbox = s.mbox := rfl
@[simp] theorem State.served_flash (s : State) (d : Nat) : (s.served d).flash = s.flash := rfl
@[simp] theorem State.served_plans (s : State) (d : Nat) : (s.served d).plans = s.plans := rfl
@[simp] theorem State.served_rdata (s : State) (d : Nat) : (s.served d).rdata = s.rdata := rfl

/-! ### dropDest -/

@[simp] theorem State.dropDest_pending (s : State) (d : Nat) : (s.dropDest d).pending = s.pending := rfl
@[simp] theorem State.dropDest_free (s : State) (d : Nat) : (s.dropDest d).free = s.free := rfl
@[simp] theorem State.dropDest_regs (s : State) (d : Nat) : (s.dropDest d).regs = s.regs := rfl
@[simp] theorem State.dropDest_host (s : State) (d : Nat) : (s.dropDest d).host = s.host := rfl
@[simp] theorem State.dropDest_dev (s : State) (d : Nat) : (s.dropDest d).dev = s.dev := rfl
@[simp] theorem State.dropDest_time (s : State) (d : Nat) : (s.dropDest d).time = s.time := rfl
@[simp] theorem State.dropDest_leash (s : State) (d : Nat) : (s.dropDest d).leash = s.leash := rfl
@[simp] theorem State.dropDest_reqs (s : State) (d : Nat) : (s.dropDest d).reqs = s.reqs := rfl
@[simp] theorem State.dropDest_keys (s : State) (d : Nat) : (s.dropDest d).keys = s.keys := rfl
@[simp] theorem State.dropDest_motion (s : State) (d : Nat) : (s.dropDest d).motion = s.motion := rfl
@[simp] theorem State.dropDest_seq (s : State) (d : Nat) : (s.dropDest d).seq = s.seq := rfl
@[simp] theorem State.dropDest_herd (s : State) (d : Nat) : (s.dropDest d).herd = s.herd := rfl
@[simp] theorem State.dropDest_sup (s : State) (d : Nat) : (s.dropDest d).sup = s.sup := rfl
@[simp] theorem State.dropDest_batt (s : State) (d : Nat) : (s.dropDest d).batt = s.batt := rfl
@[simp] theorem State.dropDest_drive (s : State) (d : Nat) : (s.dropDest d).drive = s.drive := rfl
@[simp] theorem State.dropDest_therm (s : State) (d : Nat) : (s.dropDest d).therm = s.therm := rfl
@[simp] theorem State.dropDest_hedge (s : State) (d : Nat) : (s.dropDest d).hedge = s.hedge := rfl
@[simp] theorem State.dropDest_bist (s : State) (d : Nat) : (s.dropDest d).bist = s.bist := rfl
@[simp] theorem State.dropDest_pmc (s : State) (d : Nat) : (s.dropDest d).pmc = s.pmc := rfl
@[simp] theorem State.dropDest_ring (s : State) (d : Nat) : (s.dropDest d).ring = s.ring := rfl
@[simp] theorem State.dropDest_mbox (s : State) (d : Nat) : (s.dropDest d).mbox = s.mbox := rfl
@[simp] theorem State.dropDest_flash (s : State) (d : Nat) : (s.dropDest d).flash = s.flash := rfl
@[simp] theorem State.dropDest_plans (s : State) (d : Nat) : (s.dropDest d).plans = s.plans := rfl
@[simp] theorem State.dropDest_rdata (s : State) (d : Nat) : (s.dropDest d).rdata = s.rdata := rfl

/-! ### release -/

@[simp] theorem State.release_pending (s : State) (r : Req) : (s.release r).pending = s.pending := rfl
@[simp] theorem State.release_free (s : State) (r : Req) : (s.release r).free = s.free := rfl
@[simp] theorem State.release_regs (s : State) (r : Req) : (s.release r).regs = s.regs := rfl
@[simp] theorem State.release_host (s : State) (r : Req) : (s.release r).host = s.host := rfl
@[simp] theorem State.release_dev (s : State) (r : Req) : (s.release r).dev = s.dev := rfl
@[simp] theorem State.release_time (s : State) (r : Req) : (s.release r).time = s.time := rfl
@[simp] theorem State.release_leash (s : State) (r : Req) : (s.release r).leash = s.leash := rfl
@[simp] theorem State.release_fabric (s : State) (r : Req) : (s.release r).fabric = s.fabric := rfl
@[simp] theorem State.release_keys (s : State) (r : Req) : (s.release r).keys = s.keys := rfl
@[simp] theorem State.release_motion (s : State) (r : Req) : (s.release r).motion = s.motion := rfl
@[simp] theorem State.release_seq (s : State) (r : Req) : (s.release r).seq = s.seq := rfl
@[simp] theorem State.release_herd (s : State) (r : Req) : (s.release r).herd = s.herd := rfl
@[simp] theorem State.release_sup (s : State) (r : Req) : (s.release r).sup = s.sup := rfl
@[simp] theorem State.release_batt (s : State) (r : Req) : (s.release r).batt = s.batt := rfl
@[simp] theorem State.release_drive (s : State) (r : Req) : (s.release r).drive = s.drive := rfl
@[simp] theorem State.release_therm (s : State) (r : Req) : (s.release r).therm = s.therm := rfl
@[simp] theorem State.release_hedge (s : State) (r : Req) : (s.release r).hedge = s.hedge := rfl
@[simp] theorem State.release_bist (s : State) (r : Req) : (s.release r).bist = s.bist := rfl
@[simp] theorem State.release_pmc (s : State) (r : Req) : (s.release r).pmc = s.pmc := rfl
@[simp] theorem State.release_ring (s : State) (r : Req) : (s.release r).ring = s.ring := rfl
@[simp] theorem State.release_mbox (s : State) (r : Req) : (s.release r).mbox = s.mbox := rfl
@[simp] theorem State.release_flash (s : State) (r : Req) : (s.release r).flash = s.flash := rfl
@[simp] theorem State.release_plans (s : State) (r : Req) : (s.release r).plans = s.plans := rfl
@[simp] theorem State.release_rdata (s : State) (r : Req) : (s.release r).rdata = s.rdata := rfl

/-! ### enqueue -/

@[simp] theorem State.enqueue_pending (s : State) (r : FabRec) : (s.enqueue r).pending = s.pending := by
  unfold State.enqueue
  split
  · rfl
  · split <;> rfl
@[simp] theorem State.enqueue_free (s : State) (r : FabRec) : (s.enqueue r).free = s.free := by
  unfold State.enqueue
  split
  · rfl
  · split <;> rfl
@[simp] theorem State.enqueue_regs (s : State) (r : FabRec) : (s.enqueue r).regs = s.regs := by
  unfold State.enqueue
  split
  · rfl
  · split <;> rfl
@[simp] theorem State.enqueue_host (s : State) (r : FabRec) : (s.enqueue r).host = s.host := by
  unfold State.enqueue
  split
  · rfl
  · split <;> rfl
@[simp] theorem State.enqueue_dev (s : State) (r : FabRec) : (s.enqueue r).dev = s.dev := by
  unfold State.enqueue
  split
  · rfl
  · split <;> rfl
@[simp] theorem State.enqueue_time (s : State) (r : FabRec) : (s.enqueue r).time = s.time := by
  unfold State.enqueue
  split
  · rfl
  · split <;> rfl
@[simp] theorem State.enqueue_leash (s : State) (r : FabRec) : (s.enqueue r).leash = s.leash := by
  unfold State.enqueue
  split
  · rfl
  · split <;> rfl
@[simp] theorem State.enqueue_reqs (s : State) (r : FabRec) : (s.enqueue r).reqs = s.reqs := by
  unfold State.enqueue
  split
  · rfl
  · split <;> rfl
@[simp] theorem State.enqueue_keys (s : State) (r : FabRec) : (s.enqueue r).keys = s.keys := by
  unfold State.enqueue
  split
  · rfl
  · split <;> rfl
@[simp] theorem State.enqueue_motion (s : State) (r : FabRec) : (s.enqueue r).motion = s.motion := by
  unfold State.enqueue
  split
  · rfl
  · split <;> rfl
@[simp] theorem State.enqueue_seq (s : State) (r : FabRec) : (s.enqueue r).seq = s.seq := by
  unfold State.enqueue
  split
  · rfl
  · split <;> rfl
@[simp] theorem State.enqueue_herd (s : State) (r : FabRec) : (s.enqueue r).herd = s.herd := by
  unfold State.enqueue
  split
  · rfl
  · split <;> rfl
@[simp] theorem State.enqueue_sup (s : State) (r : FabRec) : (s.enqueue r).sup = s.sup := by
  unfold State.enqueue
  split
  · rfl
  · split <;> rfl
@[simp] theorem State.enqueue_batt (s : State) (r : FabRec) : (s.enqueue r).batt = s.batt := by
  unfold State.enqueue
  split
  · rfl
  · split <;> rfl
@[simp] theorem State.enqueue_drive (s : State) (r : FabRec) : (s.enqueue r).drive = s.drive := by
  unfold State.enqueue
  split
  · rfl
  · split <;> rfl
@[simp] theorem State.enqueue_therm (s : State) (r : FabRec) : (s.enqueue r).therm = s.therm := by
  unfold State.enqueue
  split
  · rfl
  · split <;> rfl
@[simp] theorem State.enqueue_hedge (s : State) (r : FabRec) : (s.enqueue r).hedge = s.hedge := by
  unfold State.enqueue
  split
  · rfl
  · split <;> rfl
@[simp] theorem State.enqueue_bist (s : State) (r : FabRec) : (s.enqueue r).bist = s.bist := by
  unfold State.enqueue
  split
  · rfl
  · split <;> rfl
@[simp] theorem State.enqueue_pmc (s : State) (r : FabRec) : (s.enqueue r).pmc = s.pmc := by
  unfold State.enqueue
  split
  · rfl
  · split <;> rfl
@[simp] theorem State.enqueue_ring (s : State) (r : FabRec) : (s.enqueue r).ring = s.ring := by
  unfold State.enqueue
  split
  · rfl
  · split <;> rfl
@[simp] theorem State.enqueue_mbox (s : State) (r : FabRec) : (s.enqueue r).mbox = s.mbox := by
  unfold State.enqueue
  split
  · rfl
  · split <;> rfl
@[simp] theorem State.enqueue_flash (s : State) (r : FabRec) : (s.enqueue r).flash = s.flash := by
  unfold State.enqueue
  split
  · rfl
  · split <;> rfl
@[simp] theorem State.enqueue_plans (s : State) (r : FabRec) : (s.enqueue r).plans = s.plans := by
  unfold State.enqueue
  split
  · rfl
  · split <;> rfl
@[simp] theorem State.enqueue_rdata (s : State) (r : FabRec) : (s.enqueue r).rdata = s.rdata := by
  unfold State.enqueue
  split
  · rfl
  · split <;> rfl

/-! ### offer -/

@[simp] theorem State.offer_pending (s : State) (e : EvRec) : (s.offer e).pending = s.pending := by
  unfold State.offer
  split
  · simp
  · split <;> simp
@[simp] theorem State.offer_free (s : State) (e : EvRec) : (s.offer e).free = s.free := by
  unfold State.offer
  split
  · simp
  · split <;> simp
@[simp] theorem State.offer_regs (s : State) (e : EvRec) : (s.offer e).regs = s.regs := by
  unfold State.offer
  split
  · simp
  · split <;> simp
@[simp] theorem State.offer_host (s : State) (e : EvRec) : (s.offer e).host = s.host := by
  unfold State.offer
  split
  · simp
  · split <;> simp
@[simp] theorem State.offer_dev (s : State) (e : EvRec) : (s.offer e).dev = s.dev := by
  unfold State.offer
  split
  · simp
  · split <;> simp
@[simp] theorem State.offer_time (s : State) (e : EvRec) : (s.offer e).time = s.time := by
  unfold State.offer
  split
  · simp
  · split <;> simp
@[simp] theorem State.offer_leash (s : State) (e : EvRec) : (s.offer e).leash = s.leash := by
  unfold State.offer
  split
  · simp
  · split <;> simp
@[simp] theorem State.offer_reqs (s : State) (e : EvRec) : (s.offer e).reqs = s.reqs := by
  unfold State.offer
  split
  · simp
  · split <;> simp
@[simp] theorem State.offer_keys (s : State) (e : EvRec) : (s.offer e).keys = s.keys := by
  unfold State.offer
  split
  · simp
  · split <;> simp
@[simp] theorem State.offer_motion (s : State) (e : EvRec) : (s.offer e).motion = s.motion := by
  unfold State.offer
  split
  · simp
  · split <;> simp
@[simp] theorem State.offer_seq (s : State) (e : EvRec) : (s.offer e).seq = s.seq := by
  unfold State.offer
  split
  · simp
  · split <;> simp
@[simp] theorem State.offer_herd (s : State) (e : EvRec) : (s.offer e).herd = s.herd := by
  unfold State.offer
  split
  · simp
  · split <;> simp
@[simp] theorem State.offer_sup (s : State) (e : EvRec) : (s.offer e).sup = s.sup := by
  unfold State.offer
  split
  · simp
  · split <;> simp
@[simp] theorem State.offer_batt (s : State) (e : EvRec) : (s.offer e).batt = s.batt := by
  unfold State.offer
  split
  · simp
  · split <;> simp
@[simp] theorem State.offer_drive (s : State) (e : EvRec) : (s.offer e).drive = s.drive := by
  unfold State.offer
  split
  · simp
  · split <;> simp
@[simp] theorem State.offer_therm (s : State) (e : EvRec) : (s.offer e).therm = s.therm := by
  unfold State.offer
  split
  · simp
  · split <;> simp
@[simp] theorem State.offer_hedge (s : State) (e : EvRec) : (s.offer e).hedge = s.hedge := by
  unfold State.offer
  split
  · simp
  · split <;> simp
@[simp] theorem State.offer_bist (s : State) (e : EvRec) : (s.offer e).bist = s.bist := by
  unfold State.offer
  split
  · simp
  · split <;> simp
@[simp] theorem State.offer_pmc (s : State) (e : EvRec) : (s.offer e).pmc = s.pmc := by
  unfold State.offer
  split
  · simp
  · split <;> simp
@[simp] theorem State.offer_ring (s : State) (e : EvRec) : (s.offer e).ring = s.ring := by
  unfold State.offer
  split
  · simp
  · split <;> simp
@[simp] theorem State.offer_mbox (s : State) (e : EvRec) : (s.offer e).mbox = s.mbox := by
  unfold State.offer
  split
  · simp
  · split <;> simp
@[simp] theorem State.offer_flash (s : State) (e : EvRec) : (s.offer e).flash = s.flash := by
  unfold State.offer
  split
  · simp
  · split <;> simp
@[simp] theorem State.offer_plans (s : State) (e : EvRec) : (s.offer e).plans = s.plans := by
  unfold State.offer
  split
  · simp
  · split <;> simp
@[simp] theorem State.offer_rdata (s : State) (e : EvRec) : (s.offer e).rdata = s.rdata := by
  unfold State.offer
  split
  · simp
  · split <;> simp

/-! ### postRec -/

@[simp] theorem State.postRec_pending (s : State) (e : EvRec) : (s.postRec e).pending = s.pending := by
  unfold State.postRec
  split <;> simp
@[simp] theorem State.postRec_free (s : State) (e : EvRec) : (s.postRec e).free = s.free := by
  unfold State.postRec
  split <;> simp
@[simp] theorem State.postRec_regs (s : State) (e : EvRec) : (s.postRec e).regs = s.regs := by
  unfold State.postRec
  split <;> simp
@[simp] theorem State.postRec_host (s : State) (e : EvRec) : (s.postRec e).host = s.host := by
  unfold State.postRec
  split <;> simp
@[simp] theorem State.postRec_dev (s : State) (e : EvRec) : (s.postRec e).dev = s.dev := by
  unfold State.postRec
  split <;> simp
@[simp] theorem State.postRec_time (s : State) (e : EvRec) : (s.postRec e).time = s.time := by
  unfold State.postRec
  split <;> simp
@[simp] theorem State.postRec_leash (s : State) (e : EvRec) : (s.postRec e).leash = s.leash := by
  unfold State.postRec
  split <;> simp
@[simp] theorem State.postRec_reqs (s : State) (e : EvRec) : (s.postRec e).reqs = s.reqs := by
  unfold State.postRec
  split <;> simp
@[simp] theorem State.postRec_keys (s : State) (e : EvRec) : (s.postRec e).keys = s.keys := by
  unfold State.postRec
  split <;> simp
@[simp] theorem State.postRec_motion (s : State) (e : EvRec) : (s.postRec e).motion = s.motion := by
  unfold State.postRec
  split <;> simp
@[simp] theorem State.postRec_seq (s : State) (e : EvRec) : (s.postRec e).seq = s.seq := by
  unfold State.postRec
  split <;> simp
@[simp] theorem State.postRec_herd (s : State) (e : EvRec) : (s.postRec e).herd = s.herd := by
  unfold State.postRec
  split <;> simp
@[simp] theorem State.postRec_sup (s : State) (e : EvRec) : (s.postRec e).sup = s.sup := by
  unfold State.postRec
  split <;> simp
@[simp] theorem State.postRec_batt (s : State) (e : EvRec) : (s.postRec e).batt = s.batt := by
  unfold State.postRec
  split <;> simp
@[simp] theorem State.postRec_drive (s : State) (e : EvRec) : (s.postRec e).drive = s.drive := by
  unfold State.postRec
  split <;> simp
@[simp] theorem State.postRec_therm (s : State) (e : EvRec) : (s.postRec e).therm = s.therm := by
  unfold State.postRec
  split <;> simp
@[simp] theorem State.postRec_hedge (s : State) (e : EvRec) : (s.postRec e).hedge = s.hedge := by
  unfold State.postRec
  split <;> simp
@[simp] theorem State.postRec_bist (s : State) (e : EvRec) : (s.postRec e).bist = s.bist := by
  unfold State.postRec
  split <;> simp
@[simp] theorem State.postRec_pmc (s : State) (e : EvRec) : (s.postRec e).pmc = s.pmc := by
  unfold State.postRec
  split <;> simp
@[simp] theorem State.postRec_ring (s : State) (e : EvRec) : (s.postRec e).ring = s.ring := by
  unfold State.postRec
  split <;> simp
@[simp] theorem State.postRec_mbox (s : State) (e : EvRec) : (s.postRec e).mbox = s.mbox := by
  unfold State.postRec
  split <;> simp
@[simp] theorem State.postRec_flash (s : State) (e : EvRec) : (s.postRec e).flash = s.flash := by
  unfold State.postRec
  split <;> simp
@[simp] theorem State.postRec_plans (s : State) (e : EvRec) : (s.postRec e).plans = s.plans := by
  unfold State.postRec
  split <;> simp
@[simp] theorem State.postRec_rdata (s : State) (e : EvRec) : (s.postRec e).rdata = s.rdata := by
  unfold State.postRec
  split <;> simp

/-! ### postAt -/

@[simp] theorem State.postAt_pending (s : State) (p : Time) (t : Nat) (l : List Byte) (b : Bool) : (s.postAt p t l b).pending = s.pending := by
  simp [State.postAt]
@[simp] theorem State.postAt_free (s : State) (p : Time) (t : Nat) (l : List Byte) (b : Bool) : (s.postAt p t l b).free = s.free := by
  simp [State.postAt]
@[simp] theorem State.postAt_regs (s : State) (p : Time) (t : Nat) (l : List Byte) (b : Bool) : (s.postAt p t l b).regs = s.regs := by
  simp [State.postAt]
@[simp] theorem State.postAt_host (s : State) (p : Time) (t : Nat) (l : List Byte) (b : Bool) : (s.postAt p t l b).host = s.host := by
  simp [State.postAt]
@[simp] theorem State.postAt_dev (s : State) (p : Time) (t : Nat) (l : List Byte) (b : Bool) : (s.postAt p t l b).dev = s.dev := by
  simp [State.postAt]
@[simp] theorem State.postAt_time (s : State) (p : Time) (t : Nat) (l : List Byte) (b : Bool) : (s.postAt p t l b).time = s.time := by
  simp [State.postAt]
@[simp] theorem State.postAt_leash (s : State) (p : Time) (t : Nat) (l : List Byte) (b : Bool) : (s.postAt p t l b).leash = s.leash := by
  simp [State.postAt]
@[simp] theorem State.postAt_reqs (s : State) (p : Time) (t : Nat) (l : List Byte) (b : Bool) : (s.postAt p t l b).reqs = s.reqs := by
  simp [State.postAt]
@[simp] theorem State.postAt_keys (s : State) (p : Time) (t : Nat) (l : List Byte) (b : Bool) : (s.postAt p t l b).keys = s.keys := by
  simp [State.postAt]
@[simp] theorem State.postAt_motion (s : State) (p : Time) (t : Nat) (l : List Byte) (b : Bool) : (s.postAt p t l b).motion = s.motion := by
  simp [State.postAt]
@[simp] theorem State.postAt_seq (s : State) (p : Time) (t : Nat) (l : List Byte) (b : Bool) : (s.postAt p t l b).seq = s.seq := by
  simp [State.postAt]
@[simp] theorem State.postAt_herd (s : State) (p : Time) (t : Nat) (l : List Byte) (b : Bool) : (s.postAt p t l b).herd = s.herd := by
  simp [State.postAt]
@[simp] theorem State.postAt_sup (s : State) (p : Time) (t : Nat) (l : List Byte) (b : Bool) : (s.postAt p t l b).sup = s.sup := by
  simp [State.postAt]
@[simp] theorem State.postAt_batt (s : State) (p : Time) (t : Nat) (l : List Byte) (b : Bool) : (s.postAt p t l b).batt = s.batt := by
  simp [State.postAt]
@[simp] theorem State.postAt_drive (s : State) (p : Time) (t : Nat) (l : List Byte) (b : Bool) : (s.postAt p t l b).drive = s.drive := by
  simp [State.postAt]
@[simp] theorem State.postAt_therm (s : State) (p : Time) (t : Nat) (l : List Byte) (b : Bool) : (s.postAt p t l b).therm = s.therm := by
  simp [State.postAt]
@[simp] theorem State.postAt_hedge (s : State) (p : Time) (t : Nat) (l : List Byte) (b : Bool) : (s.postAt p t l b).hedge = s.hedge := by
  simp [State.postAt]
@[simp] theorem State.postAt_bist (s : State) (p : Time) (t : Nat) (l : List Byte) (b : Bool) : (s.postAt p t l b).bist = s.bist := by
  simp [State.postAt]
@[simp] theorem State.postAt_pmc (s : State) (p : Time) (t : Nat) (l : List Byte) (b : Bool) : (s.postAt p t l b).pmc = s.pmc := by
  simp [State.postAt]
@[simp] theorem State.postAt_ring (s : State) (p : Time) (t : Nat) (l : List Byte) (b : Bool) : (s.postAt p t l b).ring = s.ring := by
  simp [State.postAt]
@[simp] theorem State.postAt_mbox (s : State) (p : Time) (t : Nat) (l : List Byte) (b : Bool) : (s.postAt p t l b).mbox = s.mbox := by
  simp [State.postAt]
@[simp] theorem State.postAt_flash (s : State) (p : Time) (t : Nat) (l : List Byte) (b : Bool) : (s.postAt p t l b).flash = s.flash := by
  simp [State.postAt]
@[simp] theorem State.postAt_plans (s : State) (p : Time) (t : Nat) (l : List Byte) (b : Bool) : (s.postAt p t l b).plans = s.plans := by
  simp [State.postAt]
@[simp] theorem State.postAt_rdata (s : State) (p : Time) (t : Nat) (l : List Byte) (b : Bool) : (s.postAt p t l b).rdata = s.rdata := by
  simp [State.postAt]

/-! ### post -/

@[simp] theorem State.post_pending (s : State) (t : Nat) (l : List Byte) (b : Bool) : (s.post t l b).pending = s.pending := by
  simp [State.post]
@[simp] theorem State.post_free (s : State) (t : Nat) (l : List Byte) (b : Bool) : (s.post t l b).free = s.free := by
  simp [State.post]
@[simp] theorem State.post_regs (s : State) (t : Nat) (l : List Byte) (b : Bool) : (s.post t l b).regs = s.regs := by
  simp [State.post]
@[simp] theorem State.post_host (s : State) (t : Nat) (l : List Byte) (b : Bool) : (s.post t l b).host = s.host := by
  simp [State.post]
@[simp] theorem State.post_dev (s : State) (t : Nat) (l : List Byte) (b : Bool) : (s.post t l b).dev = s.dev := by
  simp [State.post]
@[simp] theorem State.post_time (s : State) (t : Nat) (l : List Byte) (b : Bool) : (s.post t l b).time = s.time := by
  simp [State.post]
@[simp] theorem State.post_leash (s : State) (t : Nat) (l : List Byte) (b : Bool) : (s.post t l b).leash = s.leash := by
  simp [State.post]
@[simp] theorem State.post_reqs (s : State) (t : Nat) (l : List Byte) (b : Bool) : (s.post t l b).reqs = s.reqs := by
  simp [State.post]
@[simp] theorem State.post_keys (s : State) (t : Nat) (l : List Byte) (b : Bool) : (s.post t l b).keys = s.keys := by
  simp [State.post]
@[simp] theorem State.post_motion (s : State) (t : Nat) (l : List Byte) (b : Bool) : (s.post t l b).motion = s.motion := by
  simp [State.post]
@[simp] theorem State.post_seq (s : State) (t : Nat) (l : List Byte) (b : Bool) : (s.post t l b).seq = s.seq := by
  simp [State.post]
@[simp] theorem State.post_herd (s : State) (t : Nat) (l : List Byte) (b : Bool) : (s.post t l b).herd = s.herd := by
  simp [State.post]
@[simp] theorem State.post_sup (s : State) (t : Nat) (l : List Byte) (b : Bool) : (s.post t l b).sup = s.sup := by
  simp [State.post]
@[simp] theorem State.post_batt (s : State) (t : Nat) (l : List Byte) (b : Bool) : (s.post t l b).batt = s.batt := by
  simp [State.post]
@[simp] theorem State.post_drive (s : State) (t : Nat) (l : List Byte) (b : Bool) : (s.post t l b).drive = s.drive := by
  simp [State.post]
@[simp] theorem State.post_therm (s : State) (t : Nat) (l : List Byte) (b : Bool) : (s.post t l b).therm = s.therm := by
  simp [State.post]
@[simp] theorem State.post_hedge (s : State) (t : Nat) (l : List Byte) (b : Bool) : (s.post t l b).hedge = s.hedge := by
  simp [State.post]
@[simp] theorem State.post_bist (s : State) (t : Nat) (l : List Byte) (b : Bool) : (s.post t l b).bist = s.bist := by
  simp [State.post]
@[simp] theorem State.post_pmc (s : State) (t : Nat) (l : List Byte) (b : Bool) : (s.post t l b).pmc = s.pmc := by
  simp [State.post]
@[simp] theorem State.post_ring (s : State) (t : Nat) (l : List Byte) (b : Bool) : (s.post t l b).ring = s.ring := by
  simp [State.post]
@[simp] theorem State.post_mbox (s : State) (t : Nat) (l : List Byte) (b : Bool) : (s.post t l b).mbox = s.mbox := by
  simp [State.post]
@[simp] theorem State.post_flash (s : State) (t : Nat) (l : List Byte) (b : Bool) : (s.post t l b).flash = s.flash := by
  simp [State.post]
@[simp] theorem State.post_plans (s : State) (t : Nat) (l : List Byte) (b : Bool) : (s.post t l b).plans = s.plans := by
  simp [State.post]
@[simp] theorem State.post_rdata (s : State) (t : Nat) (l : List Byte) (b : Bool) : (s.post t l b).rdata = s.rdata := by
  simp [State.post]

/-! ### journalAt -/

@[simp] theorem State.journalAt_pending (s : State) (p : Time) (t : Nat) (l : List Byte) : (s.journalAt p t l).pending = s.pending := by
  simp [State.journalAt]
@[simp] theorem State.journalAt_free (s : State) (p : Time) (t : Nat) (l : List Byte) : (s.journalAt p t l).free = s.free := by
  simp [State.journalAt]
@[simp] theorem State.journalAt_regs (s : State) (p : Time) (t : Nat) (l : List Byte) : (s.journalAt p t l).regs = s.regs := by
  simp [State.journalAt]
@[simp] theorem State.journalAt_host (s : State) (p : Time) (t : Nat) (l : List Byte) : (s.journalAt p t l).host = s.host := by
  simp [State.journalAt]
@[simp] theorem State.journalAt_dev (s : State) (p : Time) (t : Nat) (l : List Byte) : (s.journalAt p t l).dev = s.dev := by
  simp [State.journalAt]
@[simp] theorem State.journalAt_time (s : State) (p : Time) (t : Nat) (l : List Byte) : (s.journalAt p t l).time = s.time := by
  simp [State.journalAt]
@[simp] theorem State.journalAt_leash (s : State) (p : Time) (t : Nat) (l : List Byte) : (s.journalAt p t l).leash = s.leash := by
  simp [State.journalAt]
@[simp] theorem State.journalAt_reqs (s : State) (p : Time) (t : Nat) (l : List Byte) : (s.journalAt p t l).reqs = s.reqs := by
  simp [State.journalAt]
@[simp] theorem State.journalAt_keys (s : State) (p : Time) (t : Nat) (l : List Byte) : (s.journalAt p t l).keys = s.keys := by
  simp [State.journalAt]
@[simp] theorem State.journalAt_motion (s : State) (p : Time) (t : Nat) (l : List Byte) : (s.journalAt p t l).motion = s.motion := by
  simp [State.journalAt]
@[simp] theorem State.journalAt_seq (s : State) (p : Time) (t : Nat) (l : List Byte) : (s.journalAt p t l).seq = s.seq := by
  simp [State.journalAt]
@[simp] theorem State.journalAt_herd (s : State) (p : Time) (t : Nat) (l : List Byte) : (s.journalAt p t l).herd = s.herd := by
  simp [State.journalAt]
@[simp] theorem State.journalAt_sup (s : State) (p : Time) (t : Nat) (l : List Byte) : (s.journalAt p t l).sup = s.sup := by
  simp [State.journalAt]
@[simp] theorem State.journalAt_batt (s : State) (p : Time) (t : Nat) (l : List Byte) : (s.journalAt p t l).batt = s.batt := by
  simp [State.journalAt]
@[simp] theorem State.journalAt_drive (s : State) (p : Time) (t : Nat) (l : List Byte) : (s.journalAt p t l).drive = s.drive := by
  simp [State.journalAt]
@[simp] theorem State.journalAt_therm (s : State) (p : Time) (t : Nat) (l : List Byte) : (s.journalAt p t l).therm = s.therm := by
  simp [State.journalAt]
@[simp] theorem State.journalAt_hedge (s : State) (p : Time) (t : Nat) (l : List Byte) : (s.journalAt p t l).hedge = s.hedge := by
  simp [State.journalAt]
@[simp] theorem State.journalAt_bist (s : State) (p : Time) (t : Nat) (l : List Byte) : (s.journalAt p t l).bist = s.bist := by
  simp [State.journalAt]
@[simp] theorem State.journalAt_pmc (s : State) (p : Time) (t : Nat) (l : List Byte) : (s.journalAt p t l).pmc = s.pmc := by
  simp [State.journalAt]
@[simp] theorem State.journalAt_ring (s : State) (p : Time) (t : Nat) (l : List Byte) : (s.journalAt p t l).ring = s.ring := by
  simp [State.journalAt]
@[simp] theorem State.journalAt_mbox (s : State) (p : Time) (t : Nat) (l : List Byte) : (s.journalAt p t l).mbox = s.mbox := by
  simp [State.journalAt]
@[simp] theorem State.journalAt_flash (s : State) (p : Time) (t : Nat) (l : List Byte) : (s.journalAt p t l).flash = s.flash := by
  simp [State.journalAt]
@[simp] theorem State.journalAt_plans (s : State) (p : Time) (t : Nat) (l : List Byte) : (s.journalAt p t l).plans = s.plans := by
  simp [State.journalAt]
@[simp] theorem State.journalAt_rdata (s : State) (p : Time) (t : Nat) (l : List Byte) : (s.journalAt p t l).rdata = s.rdata := by
  simp [State.journalAt]

/-! ### journal -/

@[simp] theorem State.journal_pending (s : State) (t : Nat) (l : List Byte) : (s.journal t l).pending = s.pending := by
  simp [State.journal]
@[simp] theorem State.journal_free (s : State) (t : Nat) (l : List Byte) : (s.journal t l).free = s.free := by
  simp [State.journal]
@[simp] theorem State.journal_regs (s : State) (t : Nat) (l : List Byte) : (s.journal t l).regs = s.regs := by
  simp [State.journal]
@[simp] theorem State.journal_host (s : State) (t : Nat) (l : List Byte) : (s.journal t l).host = s.host := by
  simp [State.journal]
@[simp] theorem State.journal_dev (s : State) (t : Nat) (l : List Byte) : (s.journal t l).dev = s.dev := by
  simp [State.journal]
@[simp] theorem State.journal_time (s : State) (t : Nat) (l : List Byte) : (s.journal t l).time = s.time := by
  simp [State.journal]
@[simp] theorem State.journal_leash (s : State) (t : Nat) (l : List Byte) : (s.journal t l).leash = s.leash := by
  simp [State.journal]
@[simp] theorem State.journal_reqs (s : State) (t : Nat) (l : List Byte) : (s.journal t l).reqs = s.reqs := by
  simp [State.journal]
@[simp] theorem State.journal_keys (s : State) (t : Nat) (l : List Byte) : (s.journal t l).keys = s.keys := by
  simp [State.journal]
@[simp] theorem State.journal_motion (s : State) (t : Nat) (l : List Byte) : (s.journal t l).motion = s.motion := by
  simp [State.journal]
@[simp] theorem State.journal_seq (s : State) (t : Nat) (l : List Byte) : (s.journal t l).seq = s.seq := by
  simp [State.journal]
@[simp] theorem State.journal_herd (s : State) (t : Nat) (l : List Byte) : (s.journal t l).herd = s.herd := by
  simp [State.journal]
@[simp] theorem State.journal_sup (s : State) (t : Nat) (l : List Byte) : (s.journal t l).sup = s.sup := by
  simp [State.journal]
@[simp] theorem State.journal_batt (s : State) (t : Nat) (l : List Byte) : (s.journal t l).batt = s.batt := by
  simp [State.journal]
@[simp] theorem State.journal_drive (s : State) (t : Nat) (l : List Byte) : (s.journal t l).drive = s.drive := by
  simp [State.journal]
@[simp] theorem State.journal_therm (s : State) (t : Nat) (l : List Byte) : (s.journal t l).therm = s.therm := by
  simp [State.journal]
@[simp] theorem State.journal_hedge (s : State) (t : Nat) (l : List Byte) : (s.journal t l).hedge = s.hedge := by
  simp [State.journal]
@[simp] theorem State.journal_bist (s : State) (t : Nat) (l : List Byte) : (s.journal t l).bist = s.bist := by
  simp [State.journal]
@[simp] theorem State.journal_pmc (s : State) (t : Nat) (l : List Byte) : (s.journal t l).pmc = s.pmc := by
  simp [State.journal]
@[simp] theorem State.journal_ring (s : State) (t : Nat) (l : List Byte) : (s.journal t l).ring = s.ring := by
  simp [State.journal]
@[simp] theorem State.journal_mbox (s : State) (t : Nat) (l : List Byte) : (s.journal t l).mbox = s.mbox := by
  simp [State.journal]
@[simp] theorem State.journal_flash (s : State) (t : Nat) (l : List Byte) : (s.journal t l).flash = s.flash := by
  simp [State.journal]
@[simp] theorem State.journal_plans (s : State) (t : Nat) (l : List Byte) : (s.journal t l).plans = s.plans := by
  simp [State.journal]
@[simp] theorem State.journal_rdata (s : State) (t : Nat) (l : List Byte) : (s.journal t l).rdata = s.rdata := by
  simp [State.journal]

/-! ### postService -/

@[simp] theorem State.postService_pending (s : State) (w e : Word) (n : Nat) : (s.postService w e n).pending = s.pending := by
  simp [State.postService]
@[simp] theorem State.postService_free (s : State) (w e : Word) (n : Nat) : (s.postService w e n).free = s.free := by
  simp [State.postService]
@[simp] theorem State.postService_regs (s : State) (w e : Word) (n : Nat) : (s.postService w e n).regs = s.regs := by
  simp [State.postService]
@[simp] theorem State.postService_host (s : State) (w e : Word) (n : Nat) : (s.postService w e n).host = s.host := by
  simp [State.postService]
@[simp] theorem State.postService_dev (s : State) (w e : Word) (n : Nat) : (s.postService w e n).dev = s.dev := by
  simp [State.postService]
@[simp] theorem State.postService_time (s : State) (w e : Word) (n : Nat) : (s.postService w e n).time = s.time := by
  simp [State.postService]
@[simp] theorem State.postService_leash (s : State) (w e : Word) (n : Nat) : (s.postService w e n).leash = s.leash := by
  simp [State.postService]
@[simp] theorem State.postService_reqs (s : State) (w e : Word) (n : Nat) : (s.postService w e n).reqs = s.reqs := by
  simp [State.postService]
@[simp] theorem State.postService_keys (s : State) (w e : Word) (n : Nat) : (s.postService w e n).keys = s.keys := by
  simp [State.postService]
@[simp] theorem State.postService_motion (s : State) (w e : Word) (n : Nat) : (s.postService w e n).motion = s.motion := by
  simp [State.postService]
@[simp] theorem State.postService_seq (s : State) (w e : Word) (n : Nat) : (s.postService w e n).seq = s.seq := by
  simp [State.postService]
@[simp] theorem State.postService_herd (s : State) (w e : Word) (n : Nat) : (s.postService w e n).herd = s.herd := by
  simp [State.postService]
@[simp] theorem State.postService_sup (s : State) (w e : Word) (n : Nat) : (s.postService w e n).sup = s.sup := by
  simp [State.postService]
@[simp] theorem State.postService_batt (s : State) (w e : Word) (n : Nat) : (s.postService w e n).batt = s.batt := by
  simp [State.postService]
@[simp] theorem State.postService_drive (s : State) (w e : Word) (n : Nat) : (s.postService w e n).drive = s.drive := by
  simp [State.postService]
@[simp] theorem State.postService_therm (s : State) (w e : Word) (n : Nat) : (s.postService w e n).therm = s.therm := by
  simp [State.postService]
@[simp] theorem State.postService_hedge (s : State) (w e : Word) (n : Nat) : (s.postService w e n).hedge = s.hedge := by
  simp [State.postService]
@[simp] theorem State.postService_bist (s : State) (w e : Word) (n : Nat) : (s.postService w e n).bist = s.bist := by
  simp [State.postService]
@[simp] theorem State.postService_pmc (s : State) (w e : Word) (n : Nat) : (s.postService w e n).pmc = s.pmc := by
  simp [State.postService]
@[simp] theorem State.postService_ring (s : State) (w e : Word) (n : Nat) : (s.postService w e n).ring = s.ring := by
  simp [State.postService]
@[simp] theorem State.postService_mbox (s : State) (w e : Word) (n : Nat) : (s.postService w e n).mbox = s.mbox := by
  simp [State.postService]
@[simp] theorem State.postService_flash (s : State) (w e : Word) (n : Nat) : (s.postService w e n).flash = s.flash := by
  simp [State.postService]
@[simp] theorem State.postService_plans (s : State) (w e : Word) (n : Nat) : (s.postService w e n).plans = s.plans := by
  simp [State.postService]
@[simp] theorem State.postService_rdata (s : State) (w e : Word) (n : Nat) : (s.postService w e n).rdata = s.rdata := by
  simp [State.postService]

/-! ### take -/

@[simp] theorem State.take_pending (s : State) (r : Req) (op : Nat) : (s.take r op).pending = s.pending := by
  unfold State.take
  split <;> rfl
@[simp] theorem State.take_free (s : State) (r : Req) (op : Nat) : (s.take r op).free = s.free := by
  unfold State.take
  split <;> rfl
@[simp] theorem State.take_regs (s : State) (r : Req) (op : Nat) : (s.take r op).regs = s.regs := by
  unfold State.take
  split <;> rfl
@[simp] theorem State.take_host (s : State) (r : Req) (op : Nat) : (s.take r op).host = s.host := by
  unfold State.take
  split <;> rfl
@[simp] theorem State.take_dev (s : State) (r : Req) (op : Nat) : (s.take r op).dev = s.dev := by
  unfold State.take
  split <;> rfl
@[simp] theorem State.take_time (s : State) (r : Req) (op : Nat) : (s.take r op).time = s.time := by
  unfold State.take
  split <;> rfl
@[simp] theorem State.take_leash (s : State) (r : Req) (op : Nat) : (s.take r op).leash = s.leash := by
  unfold State.take
  split <;> rfl
@[simp] theorem State.take_fabric (s : State) (r : Req) (op : Nat) : (s.take r op).fabric = s.fabric := by
  unfold State.take
  split <;> rfl
@[simp] theorem State.take_keys (s : State) (r : Req) (op : Nat) : (s.take r op).keys = s.keys := by
  unfold State.take
  split <;> rfl
@[simp] theorem State.take_motion (s : State) (r : Req) (op : Nat) : (s.take r op).motion = s.motion := by
  unfold State.take
  split <;> rfl
@[simp] theorem State.take_seq (s : State) (r : Req) (op : Nat) : (s.take r op).seq = s.seq := by
  unfold State.take
  split <;> rfl
@[simp] theorem State.take_herd (s : State) (r : Req) (op : Nat) : (s.take r op).herd = s.herd := by
  unfold State.take
  split <;> rfl
@[simp] theorem State.take_sup (s : State) (r : Req) (op : Nat) : (s.take r op).sup = s.sup := by
  unfold State.take
  split <;> rfl
@[simp] theorem State.take_batt (s : State) (r : Req) (op : Nat) : (s.take r op).batt = s.batt := by
  unfold State.take
  split <;> rfl
@[simp] theorem State.take_drive (s : State) (r : Req) (op : Nat) : (s.take r op).drive = s.drive := by
  unfold State.take
  split <;> rfl
@[simp] theorem State.take_therm (s : State) (r : Req) (op : Nat) : (s.take r op).therm = s.therm := by
  unfold State.take
  split <;> rfl
@[simp] theorem State.take_hedge (s : State) (r : Req) (op : Nat) : (s.take r op).hedge = s.hedge := by
  unfold State.take
  split <;> rfl
@[simp] theorem State.take_bist (s : State) (r : Req) (op : Nat) : (s.take r op).bist = s.bist := by
  unfold State.take
  split <;> rfl
@[simp] theorem State.take_pmc (s : State) (r : Req) (op : Nat) : (s.take r op).pmc = s.pmc := by
  unfold State.take
  split <;> rfl
@[simp] theorem State.take_ring (s : State) (r : Req) (op : Nat) : (s.take r op).ring = s.ring := by
  unfold State.take
  split <;> rfl
@[simp] theorem State.take_mbox (s : State) (r : Req) (op : Nat) : (s.take r op).mbox = s.mbox := by
  unfold State.take
  split <;> rfl
@[simp] theorem State.take_flash (s : State) (r : Req) (op : Nat) : (s.take r op).flash = s.flash := by
  unfold State.take
  split <;> rfl
@[simp] theorem State.take_plans (s : State) (r : Req) (op : Nat) : (s.take r op).plans = s.plans := by
  unfold State.take
  split <;> rfl
@[simp] theorem State.take_rdata (s : State) (r : Req) (op : Nat) : (s.take r op).rdata = s.rdata := by
  unfold State.take
  split <;> rfl

/-! ### Registers -/

@[simp] theorem State.hostWrite_reg (s : State) (a : Nat) (l : List Byte) (x : Nat) : (s.hostWrite a l).reg x = s.reg x := by
  simp [State.reg]
@[simp] theorem State.draw_reg (s : State) (x : Nat) : (s.draw).reg x = s.reg x := by
  simp [State.reg]
@[simp] theorem State.modCtx_reg (s : State) (c : Fin 32) (f : Ctx → Ctx) (x : Nat) : (s.modCtx c f).reg x = s.reg x := by
  simp [State.reg]
@[simp] theorem State.modPort_reg (s : State) (p : Fin 4) (f : Port → Port) (x : Nat) : (s.modPort p f).reg x = s.reg x := by
  simp [State.reg]
@[simp] theorem State.served_reg (s : State) (d : Nat) (x : Nat) : (s.served d).reg x = s.reg x := by
  simp [State.reg]
@[simp] theorem State.dropDest_reg (s : State) (d : Nat) (x : Nat) : (s.dropDest d).reg x = s.reg x := by
  simp [State.reg]
@[simp] theorem State.release_reg (s : State) (r : Req) (x : Nat) : (s.release r).reg x = s.reg x := by
  simp [State.reg]
@[simp] theorem State.enqueue_reg (s : State) (r : FabRec) (x : Nat) : (s.enqueue r).reg x = s.reg x := by
  simp [State.reg]
@[simp] theorem State.offer_reg (s : State) (e : EvRec) (x : Nat) : (s.offer e).reg x = s.reg x := by
  simp [State.reg]
@[simp] theorem State.postRec_reg (s : State) (e : EvRec) (x : Nat) : (s.postRec e).reg x = s.reg x := by
  simp [State.reg]
@[simp] theorem State.postAt_reg (s : State) (p : Time) (t : Nat) (l : List Byte) (b : Bool) (x : Nat) : (s.postAt p t l b).reg x = s.reg x := by
  simp [State.reg]
@[simp] theorem State.post_reg (s : State) (t : Nat) (l : List Byte) (b : Bool) (x : Nat) : (s.post t l b).reg x = s.reg x := by
  simp [State.reg]
@[simp] theorem State.journalAt_reg (s : State) (p : Time) (t : Nat) (l : List Byte) (x : Nat) : (s.journalAt p t l).reg x = s.reg x := by
  simp [State.reg]
@[simp] theorem State.journal_reg (s : State) (t : Nat) (l : List Byte) (x : Nat) : (s.journal t l).reg x = s.reg x := by
  simp [State.reg]
@[simp] theorem State.postService_reg (s : State) (w e : Word) (n : Nat) (x : Nat) : (s.postService w e n).reg x = s.reg x := by
  simp [State.reg]
@[simp] theorem State.take_reg (s : State) (r : Req) (op : Nat) (x : Nat) : (s.take r op).reg x = s.reg x := by
  simp [State.reg]

theorem State.Stored.setReg {s : State} (h : s.Stored) (a : Nat) (w : Word) : (s.setReg a w).Stored :=
  ⟨sparseSet_wf h.regs, h.host, h.lines⟩

theorem State.Stored.setFld {s : State} (h : s.Stored) (a hi lo v : Nat) : (s.setFld a hi lo v).Stored := h.setReg _ _

theorem State.Stored.setFlag {s : State} (h : s.Stored) (a i : Nat) (b : Bool) : (s.setFlag a i b).Stored := h.setReg _ _

theorem State.Stored.inc {s : State} (h : s.Stored) (a hi lo : Nat) : (s.inc a hi lo).Stored := h.setReg _ _

/-- A change that touches none of the stored tables keeps them canonical. -/
theorem State.Stored.congr {s t : State} (h : s.Stored) (hr : t.regs = s.regs) (hh : t.host = s.host)
    (hl : t.flash = s.flash) : t.Stored := ⟨hr ▸ h.regs, hh ▸ h.host, hl ▸ h.lines⟩

/-- Every register after a register write. -/
theorem State.reg_setReg {s : State} (h : s.Stored) (a : Nat) (w : Word) (b : Nat) :
    (s.setReg a w).reg b = if b = a then w else s.reg b := by
  by_cases hb : b = a
  · rw [if_pos hb, hb]
    exact sparseGet_set_self h.regs
  · rw [if_neg hb]
    exact sparseGet_set_other h.regs hb

theorem State.reg_setFld {s : State} (h : s.Stored) (a hi lo v b : Nat) :
    (s.setFld a hi lo v).reg b = if b = a then wset (s.reg a) hi lo v else s.reg b := State.reg_setReg h _ _ _

theorem State.reg_setFlag {s : State} (h : s.Stored) (a i : Nat) (x : Bool) (b : Nat) :
    (s.setFlag a i x).reg b = if b = a then wset (s.reg a) i i (b2n x) else s.reg b := State.reg_setReg h _ _ _

theorem State.reg_inc {s : State} (h : s.Stored) (a hi lo b : Nat) :
    (s.inc a hi lo).reg b = if b = a then satInc (s.reg a) hi lo else s.reg b := State.reg_setReg h _ _ _

/-- The field just stored. -/
theorem State.fld_setFld_self {s : State} (h : s.Stored) (a : Nat) {hi lo : Nat} (v : Nat) (hh : hi < 32) (hl : lo ≤ hi) :
    (s.setFld a hi lo v).fld a hi lo = v % 2 ^ (hi + 1 - lo) := by
  unfold State.fld
  rw [State.reg_setFld h, if_pos rfl]
  exact wfld_wset_self _ _ hh hl

/-- A field of another register, or of other bits. -/
theorem State.fld_setFld_other {s : State} (h : s.Stored) {a hi lo b hi' lo' : Nat} (v : Nat) (hd : b ≠ a ∨ hi' < lo ∨ hi < lo') :
    (s.setFld a hi lo v).fld b hi' lo' = s.fld b hi' lo' := by
  unfold State.fld
  rw [State.reg_setFld h]
  by_cases hb : b = a
  · rw [if_pos hb, hb]
    exact wfld_wset_other _ _ (by omega)
  · rw [if_neg hb]

/-- The flag just stored. -/
theorem State.flag_setFlag_self {s : State} (h : s.Stored) (a : Nat) {i : Nat} (b : Bool) (hi : i < 32) :
    (s.setFlag a i b).flag a i = b := by
  unfold State.flag
  rw [State.reg_setFlag h, if_pos rfl, bit_wset_self _ _ hi]
  cases b <;> rfl

/-- A flag of another register or another bit. -/
theorem State.flag_setFlag_other {s : State} (h : s.Stored) {a i b j : Nat} (x : Bool) (hd : b ≠ a ∨ j ≠ i) :
    (s.setFlag a i x).flag b j = s.flag b j := by
  unfold State.flag
  rw [State.reg_setFlag h]
  by_cases hb : b = a
  · rw [if_pos hb, hb]
    exact bit_wset_other _ _ (by omega)
  · rw [if_neg hb]

/-- A flag beside a stored field. -/
theorem State.flag_setFld_other {s : State} (h : s.Stored) {a hi lo b j : Nat} (v : Nat) (hd : b ≠ a ∨ j < lo ∨ hi < j) :
    (s.setFld a hi lo v).flag b j = s.flag b j := by
  unfold State.flag
  rw [State.reg_setFld h]
  by_cases hb : b = a
  · rw [if_pos hb, hb]
    exact bit_wset_other _ _ (by omega)
  · rw [if_neg hb]

end Sys2Proof.Machine
end

