-- ==== Sys2Proof/Laws/Bus.lean ====
section
/-! SUPPORT. BAR0 accesses of the host: what an access does while BAR0 is open and the block is clocked, and what a gated
block does with it. -/

namespace Sys2Proof.Machine

theorem State.hostStore_open {s : State} {a : Nat} (v : Word) (hb : s.barOpen = true) (hg : s.blockGated (a / 4096) = false) :
    s.hostStore a v = .next (s.busWrite a v) := by
  unfold State.hostStore State.bar0Write
  rw [if_pos hb, hg]
  rfl

theorem State.hostStore_gated {s : State} {a : Nat} (v : Word) (hb : s.barOpen = true) (hg : s.blockGated (a / 4096) = true) :
    s.hostStore a v = .next (s.gatedAccess (blockOf a) (a % 4096) true false false) := by
  unfold State.hostStore State.bar0Write
  rw [if_pos hb, hg]
  rfl

theorem State.hostLoad_open {s : State} {a : Nat} (hb : s.barOpen = true) (hg : s.blockGated (a / 4096) = false) :
    s.hostLoad a = .next { (s.busRead a).1 with rdata := image (s.busRead a).2 } := by
  unfold State.hostLoad State.bar0Read
  rw [if_pos hb, hg]
  rfl

theorem State.hostLoad_gated {s : State} {a : Nat} (hb : s.barOpen = true) (hg : s.blockGated (a / 4096) = true) :
    s.hostLoad a = .next { s.gatedAccess (blockOf a) (a % 4096) false false false with rdata := image (gatedWord (a / 4096)) } := by
  unfold State.hostLoad State.bar0Read
  rw [if_pos hb, hg]
  rfl

/-- DEV, PMC and TIME are never gated. -/
theorem State.blockGated_low (s : State) {b : Nat} (h : b ≤ 2) : s.blockGated b = false := by
  unfold State.blockGated
  rw [if_pos h]

/-- Two fields share no bit. -/
abbrev fieldsApart (e f : Nat × Nat × Nat × Nat) : Prop := f.2.1 ≠ e.2.1 ∨ f.2.2.1 < e.2.2.2 ∨ e.2.2.1 < f.2.2.2

/-- Every entry names bits of one 32-bit register. -/
abbrev fieldGood (e : Nat × Nat × Nat × Nat) : Prop := e.2.2.1 < 32 ∧ e.2.2.2 ≤ e.2.2.1

theorem State.clearBy_stored {s : State} (h : s.Stored) (v : Word) (l : List (Nat × Nat × Nat × Nat)) : (s.clearBy v l).Stored := by
  unfold State.clearBy
  induction l generalizing s with
  | nil => exact h
  | cons e t ih =>
    refine ih ?_
    dsimp only
    by_cases hb : bit v e.1 = true
    · rw [if_pos hb]; exact h.setFld _ _ _ _
    · rw [if_neg hb]; exact h

theorem State.clearBy_fld_other {s : State} (h : s.Stored) (v : Word) (l : List (Nat × Nat × Nat × Nat)) (f : Nat × Nat × Nat × Nat)
    (hf : ∀ e ∈ l, fieldsApart e f) : (s.clearBy v l).fld f.2.1 f.2.2.1 f.2.2.2 = s.fld f.2.1 f.2.2.1 f.2.2.2 := by
  unfold State.clearBy
  induction l generalizing s with
  | nil => rfl
  | cons e t ih =>
    rw [List.foldl_cons]
    by_cases hb : bit v e.1 = true
    · rw [if_pos hb]
      exact (ih (h.setFld _ _ _ _) (fun e he => hf e (List.mem_cons_of_mem _ he))).trans
        (State.fld_setFld_other h _ (hf e List.mem_cons_self))
    · rw [if_neg hb]
      exact ih h (fun e he => hf e (List.mem_cons_of_mem _ he))

/-- A counter-clear write over fields that share no bit. -/
theorem State.clearBy_cleared {s : State} (h : s.Stored) (v : Word) (l : List (Nat × Nat × Nat × Nat))
    (hg : ∀ e ∈ l, fieldGood e) (hd : l.Pairwise fieldsApart) : s.CountersCleared (s.clearBy v l) v l := by
  have sym : ∀ e f : Nat × Nat × Nat × Nat, fieldsApart e f → fieldsApart f e := by
    intro e f h
    unfold fieldsApart at h ⊢
    rcases h with h | h | h
    · exact .inl h.symm
    · exact .inr (.inr h)
    · exact .inr (.inl h)
  induction l generalizing s with
  | nil => exact ⟨fun e he => (List.not_mem_nil he).elim, fun a _ => rfl⟩
  | cons e t ih =>
    have hs : (if bit v e.1 then s.setFld e.2.1 e.2.2.1 e.2.2.2 0 else s : State).Stored := by
      by_cases hb : bit v e.1 = true
      · rw [if_pos hb]; exact h.setFld _ _ _ _
      · rw [if_neg hb]; exact h
    obtain ⟨h1, h2⟩ := ih hs (fun e he => hg e (List.mem_cons_of_mem _ he)) (List.pairwise_cons.mp hd).2
    have he := (List.pairwise_cons.mp hd).1
    have ge := hg e List.mem_cons_self
    refine ⟨fun f hf => ?_, fun a ha => ?_⟩
    · show (State.clearBy _ v t).fld _ _ _ = _
      rcases List.mem_cons.mp hf with rfl | hf'
      · rw [State.clearBy_fld_other hs v t f (fun g hg => sym _ _ (he g hg))]
        by_cases hb : bit v f.1 = true
        · rw [if_pos hb, if_pos hb, State.fld_setFld_self h _ _ ge.1 ge.2]
          exact Nat.zero_mod _
        · rw [if_neg hb, if_neg hb]
      · refine (h1 f hf').trans ?_
        have e1 : (if bit v e.1 then s.setFld e.2.1 e.2.2.1 e.2.2.2 0 else s : State).fld f.2.1 f.2.2.1 f.2.2.2 =
            s.fld f.2.1 f.2.2.1 f.2.2.2 := by
          by_cases hb : bit v e.1 = true
          · rw [if_pos hb]; exact State.fld_setFld_other h _ (he f hf')
          · rw [if_neg hb]
        rw [e1]
    · have ha' : a ≠ e.2.1 ∧ a ∉ t.map (fun e => e.2.1) :=
        ⟨fun x => ha (x ▸ List.mem_cons_self), fun x => ha (List.mem_cons_of_mem _ x)⟩
      refine (h2 a ha'.2).trans ?_
      by_cases hb : bit v e.1 = true
      · rw [if_pos hb]
        unfold State.setFld
        rw [State.reg_setReg h, if_neg ha'.1]
      · rw [if_neg hb]

end Sys2Proof.Machine
end

