-- ==== Sys2Proof/Laws/Commands.lean ====
section
/-! SUPPORT. Host commands: what taking a command changes, the tests of R371, and the structure reads. -/

namespace Sys2Proof.Machine

/-- Taking a command changes the request queue alone. -/
theorem State.take_eq (s : State) (r : Req) (op : Nat) : ∃ l, s.take r op = { s with reqs := l } := by
  unfold State.take; split <;> exact ⟨_, rfl⟩

/-- A command that is not next in its owner's queue waits its turn. -/
theorem State.command_waits {s : State} {r : Req} {op : Nat} {bad : Bool} {k : State → State × Option Reply}
    (h : s.mayTake r op = false) : s.command r op bad k = s.awaitTurn r op := by
  unfold State.command
  rw [h]
  rfl

/-- A command that is next in its owner's queue. -/
theorem State.command_taken {s : State} {r : Req} {op : Nat} {bad : Bool} {k : State → State × Option Reply} {x : State × Option Reply}
    (h : s.mayTake r op = true) (e : (if r.deadline ≠ 0 && decide (r.deadline.toNat < s.now) then
        (s.take r op, some { status := Status.TIMEOUT })
      else if bad then (s.take r op, some { status := Status.BAD_PARAM })
      else if !s.stageAdmits op then (s.take r op, some { status := Status.NOT_IN_STATE })
      else k (s.take r op)) = x) :
    s.command r op bad k = match x.2 with
      | some rep => x.1.complete r rep
      | none => x.1 := by
  subst e
  obtain ⟨l, e⟩ := s.take_eq r op
  unfold State.command
  rw [h, e]
  rfl

theorem State.command_timeout {s : State} {r : Req} {op : Nat} {bad : Bool} {k : State → State × Option Reply}
    (hm : s.mayTake r op = true) (h : r.deadline ≠ 0) (h' : r.deadline.toNat < s.now) :
    s.command r op bad k = (s.take r op).complete r { status := Status.TIMEOUT } := by
  refine (State.command_taken hm rfl).trans ?_
  simp only [h, h', ne_eq, not_false_eq_true, decide_true, Bool.and_self, if_true]

theorem State.deadline_kept {s : State} {r : Req} (h : r.deadline = 0 ∨ s.now ≤ r.deadline.toNat) :
    (r.deadline ≠ 0 && decide (r.deadline.toNat < s.now)) = false := by
  rcases h with h | h
  · simp [h]
  · simp only [ne_eq, decide_not, Bool.and_eq_false_imp, decide_eq_false_iff_not]; intro _; omega

theorem State.command_bad {s : State} {r : Req} {op : Nat} {k : State → State × Option Reply} (hm : s.mayTake r op = true)
    (h : r.deadline = 0 ∨ s.now ≤ r.deadline.toNat) :
    s.command r op true k = (s.take r op).complete r { status := Status.BAD_PARAM } := by
  refine (State.command_taken hm rfl).trans ?_
  simp only [State.deadline_kept h, Bool.false_eq_true, if_false, if_true]

theorem State.command_stage {s : State} {r : Req} {op : Nat} {k : State → State × Option Reply} (hm : s.mayTake r op = true)
    (h : r.deadline = 0 ∨ s.now ≤ r.deadline.toNat) (h' : s.stageAdmits op = false) :
    s.command r op false k = (s.take r op).complete r { status := Status.NOT_IN_STATE } := by
  refine (State.command_taken hm rfl).trans ?_
  simp only [State.deadline_kept h, h', Bool.not_false, Bool.false_eq_true, if_false, if_true]

/-- A command that passes the tests gets what its continuation answers. -/
theorem State.command_admits {s : State} {r : Req} {op : Nat} {k : State → State × Option Reply} {t : State} {rep : Reply}
    (h : s.admits r op) (hk : k (s.take r op) = (t, some rep)) : s.command r op false k = t.complete r rep := by
  refine (State.command_taken h.1 rfl).trans ?_
  simp only [State.deadline_kept h.2.1, h.2.2, hk, Bool.not_true, Bool.false_eq_true, if_false]

/-- A command that passes the tests and stays in flight. -/
theorem State.command_open {s : State} {r : Req} {op : Nat} {k : State → State × Option Reply} {t : State}
    (h : s.admits r op) (hk : k (s.take r op) = (t, none)) : s.command r op false k = t := by
  refine (State.command_taken h.1 rfl).trans ?_
  simp only [State.deadline_kept h.2.1, h.2.2, hk, Bool.not_true, Bool.false_eq_true, if_false]

/-- What a register reads does not depend on the request queue, but for the ring status and the ring contexts. -/
theorem State.imageOf_reqs (s : State) (l : List ReqEntry) (a : Nat) (h : a ≠ Reg.DEV_RING_STATUS) (h' : a / 4096 ≠ 0xB) :
    ({ s with reqs := l } : State).imageOf a = s.imageOf a := by
  have hg : ∀ b, ({ s with reqs := l } : State).blockGated b = s.blockGated b := fun b => rfl
  have hr : ∀ a, ({ s with reqs := l } : State).reg a = s.reg a := fun b => rfl
  have hd : ({ s with reqs := l } : State).readDev a = s.readDev a := by
    unfold State.readDev
    rw [if_neg h, if_neg h, hr]
    rfl
  unfold State.imageOf State.readWord
  rw [hg]
  split
  · rfl
  · split <;> first | exact congrArg _ hd | (exact absurd (by assumption) h') | rfl

theorem State.images_reqs (s : State) (l : List ReqEntry) (as : List Nat)
    (h : ∀ a ∈ as, a ≠ Reg.DEV_RING_STATUS ∧ a / 4096 ≠ 0xB) : ({ s with reqs := l } : State).images as = s.images as := by
  unfold State.images
  induction as with
  | nil => rfl
  | cons a t ih =>
    rw [List.flatMap_cons, List.flatMap_cons, ih fun x hx => h x (List.mem_cons_of_mem _ hx),
      State.imageOf_reqs s l a (h a List.mem_cons_self).1 (h a List.mem_cons_self).2]

/-- A structure read that its owner executes. -/
theorem State.structRead_admits {s : State} {r : Req} {op total : Nat} {b : BufBlock} {bytes : State → List Byte}
    (h : s.admits r op) (hb : bufBad r b total = false) (hs : ∀ l, bytes { s with reqs := l } = bytes s) :
    s.structRead r op total b bytes = (s.take r op).complete r (structReply r b (padTo total (bytes s)) []) := by
  unfold State.structRead
  rw [hb]
  refine State.command_admits h ?_
  obtain ⟨l, e⟩ := s.take_eq r op
  rw [e, hs]

end Sys2Proof.Machine
end

