-- ==== Sys2Proof/Laws/KeepsBase.lean ====
section
/-! SUPPORT. What an operation may change. Each part of a state has a number (`Part.num`): a field of State has its place in
the structure, the register block at BAR0 offset 0x1000 * b has 32 + b. `Keeps K s t` says that every part whose bit is set in
`K` is the same in `s` and `t`, that the queue is, and that the tables of `t` are canonical. -/

namespace Sys2Proof.Machine

/-- The number of a part. -/
def Part.num : Part → Nat
  | .free => 1 | .host => 3 | .dev => 4 | .time => 5 | .leash => 6 | .fabric => 7 | .reqs => 8 | .keys => 9 | .motion => 10
  | .seq => 11 | .herd => 12 | .sup => 13 | .batt => 14 | .drive => 15 | .therm => 16 | .hedge => 17 | .bist => 18 | .pmc => 19
  | .ring => 20 | .mbox => 21 | .flash => 22 | .plans => 23 | .rdata => 24
  | .block b => 32 + b.val

/-- The parts of `K`, the queue and the canonical form survive from `s` to `t`. -/
structure Keeps (K : Nat) (s t : State) : Prop where
  stored : t.Stored
  pending : t.pending = s.pending
  part : ∀ p : Part, K.testBit p.num = true → s.samePart t p

theorem State.samePart_refl (s : State) (p : Part) : s.samePart s p := by
  cases p <;> first | exact rfl | exact fun _ _ => rfl

theorem State.samePart_trans {s t u : State} {p : Part} (h : s.samePart t p) (h' : t.samePart u p) : s.samePart u p := by
  cases p <;> first | exact Eq.trans h' h | exact fun a ha => (h' a ha).trans (h a ha)

theorem Keeps.refl {K : Nat} {s : State} (h : s.Stored) : Keeps K s s := ⟨h, rfl, fun p _ => s.samePart_refl p⟩

theorem keeps_sub {K W V : Nat} (h : K &&& W = 0) (hv : V &&& W = V) : K &&& V = 0 := by
  rw [← hv, Nat.and_comm V W, ← Nat.and_assoc, h, Nat.zero_and]

theorem keeps_bit {K W i : Nat} (h : K &&& W = 0) (hw : W.testBit i = true) : K.testBit i = false := by
  have := congrArg (fun n => n.testBit i) h
  simpa [Nat.testBit_and, hw] using this

theorem keeps_no {K W i : Nat} {p : Prop} (h : K &&& W = 0) (hw : W.testBit i = true) (hk : K.testBit i = true) : p := by
  rw [keeps_bit h hw] at hk
  cases hk

theorem keeps_block {K W a : Nat} (h : K &&& W = 0) (b : Nat) (hb : a / 4096 % 16 = b) (hw : W.testBit (32 + b) = true) :
    K.testBit (32 + a / 4096 % 16) = false := keeps_bit h (hb ▸ hw)

theorem keeps_any {K W : Nat} (h : K &&& W = 0) (hw : 0xFFFF00000000 &&& W = 0xFFFF00000000) (a : Nat) :
    K.testBit (32 + a / 4096 % 16) = false := by
  have hb : a / 4096 % 16 < 16 := Nat.mod_lt _ (by decide)
  have key : ∀ i, i < 16 → (0xFFFF00000000 : Nat).testBit (32 + i) = true := by decide
  exact keeps_bit (keeps_sub h hw) (key _ hb)

/-- No bit of `K` names a register block. -/
theorem keeps_noBlock {K W : Nat} (h : K &&& W = 0) (hw : 0xFFFF00000000 &&& W = 0xFFFF00000000) {b : Fin 16} {p : Prop}
    (hk : K.testBit (Part.block b).num = true) : p := by
  have key : ∀ b : Fin 16, (0xFFFF00000000 : Nat).testBit (32 + b.val) = true := by decide
  exact keeps_no (keeps_sub h hw) (key b) hk

/-- One more update: where the queue and the three tables are as before, the parts of `K` decide. -/
theorem Keeps.upd {K : Nat} {s u t : State} (h : Keeps K s u) (hp : t.pending = u.pending) (hr : t.regs = u.regs)
    (hh : t.host = u.host) (hl : t.flash.lines = u.flash.lines) (e : ∀ p : Part, K.testBit p.num = true → u.samePart t p) :
    Keeps K s t :=
  ⟨⟨hr ▸ h.stored.regs, hh ▸ h.stored.host, hl ▸ h.stored.lines⟩, hp.trans h.pending,
    fun p hk => State.samePart_trans (h.part p hk) (e p hk)⟩

theorem Keeps.set_free {K : Nat} {s u : State} {v0} (hK : K &&& 2 = 0) (h : Keeps K s u) :
    Keeps K s { u with free := v0 } := by
  refine h.upd rfl rfl rfl rfl fun p hk => ?_
  cases p <;> first | exact keeps_no hK (by decide) hk | exact rfl | exact fun _ _ => rfl

theorem Keeps.set_dev {K : Nat} {s u : State} {v0} (hK : K &&& 16 = 0) (h : Keeps K s u) :
    Keeps K s { u with dev := v0 } := by
  refine h.upd rfl rfl rfl rfl fun p hk => ?_
  cases p <;> first | exact keeps_no hK (by decide) hk | exact rfl | exact fun _ _ => rfl

theorem Keeps.set_dev_time {K : Nat} {s u : State} {v0 v1} (hK : K &&& 48 = 0) (h : Keeps K s u) :
    Keeps K s { u with dev := v0, time := v1 } := by
  refine h.upd rfl rfl rfl rfl fun p hk => ?_
  cases p <;> first | exact keeps_no hK (by decide) hk | exact rfl | exact fun _ _ => rfl

theorem Keeps.set_dev_time_leash_bist_pmc {K : Nat} {s u : State} {v0 v1 v2 v3 v4} (hK : K &&& 786544 = 0) (h : Keeps K s u) :
    Keeps K s { u with dev := v0, time := v1, leash := v2, bist := v3, pmc := v4 } := by
  refine h.upd rfl rfl rfl rfl fun p hk => ?_
  cases p <;> first | exact keeps_no hK (by decide) hk | exact rfl | exact fun _ _ => rfl

theorem Keeps.set_dev_time_fabric_batt_pmc_ring {K : Nat} {s u : State} {v0 v1 v2 v3 v4 v5} (hK : K &&& 1589424 = 0) (h : Keeps K s u) :
    Keeps K s { u with dev := v0, time := v1, fabric := v2, batt := v3, pmc := v4, ring := v5 } := by
  refine h.upd rfl rfl rfl rfl fun p hk => ?_
  cases p <;> first | exact keeps_no hK (by decide) hk | exact rfl | exact fun _ _ => rfl

theorem Keeps.set_dev_batt {K : Nat} {s u : State} {v0 v1} (hK : K &&& 16400 = 0) (h : Keeps K s u) :
    Keeps K s { u with dev := v0, batt := v1 } := by
  refine h.upd rfl rfl rfl rfl fun p hk => ?_
  cases p <;> first | exact keeps_no hK (by decide) hk | exact rfl | exact fun _ _ => rfl

theorem Keeps.set_dev_pmc {K : Nat} {s u : State} {v0 v1} (hK : K &&& 524304 = 0) (h : Keeps K s u) :
    Keeps K s { u with dev := v0, pmc := v1 } := by
  refine h.upd rfl rfl rfl rfl fun p hk => ?_
  cases p <;> first | exact keeps_no hK (by decide) hk | exact rfl | exact fun _ _ => rfl

theorem Keeps.set_dev_ring {K : Nat} {s u : State} {v0 v1} (hK : K &&& 1048592 = 0) (h : Keeps K s u) :
    Keeps K s { u with dev := v0, ring := v1 } := by
  refine h.upd rfl rfl rfl rfl fun p hk => ?_
  cases p <;> first | exact keeps_no hK (by decide) hk | exact rfl | exact fun _ _ => rfl

theorem Keeps.set_dev_plans {K : Nat} {s u : State} {v0 v1} (hK : K &&& 8388624 = 0) (h : Keeps K s u) :
    Keeps K s { u with dev := v0, plans := v1 } := by
  refine h.upd rfl rfl rfl rfl fun p hk => ?_
  cases p <;> first | exact keeps_no hK (by decide) hk | exact rfl | exact fun _ _ => rfl

theorem Keeps.set_time {K : Nat} {s u : State} {v0} (hK : K &&& 32 = 0) (h : Keeps K s u) :
    Keeps K s { u with time := v0 } := by
  refine h.upd rfl rfl rfl rfl fun p hk => ?_
  cases p <;> first | exact keeps_no hK (by decide) hk | exact rfl | exact fun _ _ => rfl

theorem Keeps.set_leash {K : Nat} {s u : State} {v0} (hK : K &&& 64 = 0) (h : Keeps K s u) :
    Keeps K s { u with leash := v0 } := by
  refine h.upd rfl rfl rfl rfl fun p hk => ?_
  cases p <;> first | exact keeps_no hK (by decide) hk | exact rfl | exact fun _ _ => rfl

theorem Keeps.set_leash_hedge {K : Nat} {s u : State} {v0 v1} (hK : K &&& 131136 = 0) (h : Keeps K s u) :
    Keeps K s { u with leash := v0, hedge := v1 } := by
  refine h.upd rfl rfl rfl rfl fun p hk => ?_
  cases p <;> first | exact keeps_no hK (by decide) hk | exact rfl | exact fun _ _ => rfl

theorem Keeps.set_fabric {K : Nat} {s u : State} {v0} (hK : K &&& 128 = 0) (h : Keeps K s u) :
    Keeps K s { u with fabric := v0 } := by
  refine h.upd rfl rfl rfl rfl fun p hk => ?_
  cases p <;> first | exact keeps_no hK (by decide) hk | exact rfl | exact fun _ _ => rfl

theorem Keeps.set_reqs {K : Nat} {s u : State} {v0} (hK : K &&& 256 = 0) (h : Keeps K s u) :
    Keeps K s { u with reqs := v0 } := by
  refine h.upd rfl rfl rfl rfl fun p hk => ?_
  cases p <;> first | exact keeps_no hK (by decide) hk | exact rfl | exact fun _ _ => rfl

theorem Keeps.set_keys {K : Nat} {s u : State} {v0} (hK : K &&& 512 = 0) (h : Keeps K s u) :
    Keeps K s { u with keys := v0 } := by
  refine h.upd rfl rfl rfl rfl fun p hk => ?_
  cases p <;> first | exact keeps_no hK (by decide) hk | exact rfl | exact fun _ _ => rfl

theorem Keeps.set_motion {K : Nat} {s u : State} {v0} (hK : K &&& 1024 = 0) (h : Keeps K s u) :
    Keeps K s { u with motion := v0 } := by
  refine h.upd rfl rfl rfl rfl fun p hk => ?_
  cases p <;> first | exact keeps_no hK (by decide) hk | exact rfl | exact fun _ _ => rfl

theorem Keeps.set_seq {K : Nat} {s u : State} {v0} (hK : K &&& 2048 = 0) (h : Keeps K s u) :
    Keeps K s { u with seq := v0 } := by
  refine h.upd rfl rfl rfl rfl fun p hk => ?_
  cases p <;> first | exact keeps_no hK (by decide) hk | exact rfl | exact fun _ _ => rfl

theorem Keeps.set_seq_herd {K : Nat} {s u : State} {v0 v1} (hK : K &&& 6144 = 0) (h : Keeps K s u) :
    Keeps K s { u with seq := v0, herd := v1 } := by
  refine h.upd rfl rfl rfl rfl fun p hk => ?_
  cases p <;> first | exact keeps_no hK (by decide) hk | exact rfl | exact fun _ _ => rfl

theorem Keeps.set_seq_sup {K : Nat} {s u : State} {v0 v1} (hK : K &&& 10240 = 0) (h : Keeps K s u) :
    Keeps K s { u with seq := v0, sup := v1 } := by
  refine h.upd rfl rfl rfl rfl fun p hk => ?_
  cases p <;> first | exact keeps_no hK (by decide) hk | exact rfl | exact fun _ _ => rfl

theorem Keeps.set_herd {K : Nat} {s u : State} {v0} (hK : K &&& 4096 = 0) (h : Keeps K s u) :
    Keeps K s { u with herd := v0 } := by
  refine h.upd rfl rfl rfl rfl fun p hk => ?_
  cases p <;> first | exact keeps_no hK (by decide) hk | exact rfl | exact fun _ _ => rfl

theorem Keeps.set_sup {K : Nat} {s u : State} {v0} (hK : K &&& 8192 = 0) (h : Keeps K s u) :
    Keeps K s { u with sup := v0 } := by
  refine h.upd rfl rfl rfl rfl fun p hk => ?_
  cases p <;> first | exact keeps_no hK (by decide) hk | exact rfl | exact fun _ _ => rfl

theorem Keeps.set_batt {K : Nat} {s u : State} {v0} (hK : K &&& 16384 = 0) (h : Keeps K s u) :
    Keeps K s { u with batt := v0 } := by
  refine h.upd rfl rfl rfl rfl fun p hk => ?_
  cases p <;> first | exact keeps_no hK (by decide) hk | exact rfl | exact fun _ _ => rfl

theorem Keeps.set_drive {K : Nat} {s u : State} {v0} (hK : K &&& 32768 = 0) (h : Keeps K s u) :
    Keeps K s { u with drive := v0 } := by
  refine h.upd rfl rfl rfl rfl fun p hk => ?_
  cases p <;> first | exact keeps_no hK (by decide) hk | exact rfl | exact fun _ _ => rfl

theorem Keeps.set_therm {K : Nat} {s u : State} {v0} (hK : K &&& 65536 = 0) (h : Keeps K s u) :
    Keeps K s { u with therm := v0 } := by
  refine h.upd rfl rfl rfl rfl fun p hk => ?_
  cases p <;> first | exact keeps_no hK (by decide) hk | exact rfl | exact fun _ _ => rfl

theorem Keeps.set_hedge {K : Nat} {s u : State} {v0} (hK : K &&& 131072 = 0) (h : Keeps K s u) :
    Keeps K s { u with hedge := v0 } := by
  refine h.upd rfl rfl rfl rfl fun p hk => ?_
  cases p <;> first | exact keeps_no hK (by decide) hk | exact rfl | exact fun _ _ => rfl

theorem Keeps.set_hedge_pmc {K : Nat} {s u : State} {v0 v1} (hK : K &&& 655360 = 0) (h : Keeps K s u) :
    Keeps K s { u with hedge := v0, pmc := v1 } := by
  refine h.upd rfl rfl rfl rfl fun p hk => ?_
  cases p <;> first | exact keeps_no hK (by decide) hk | exact rfl | exact fun _ _ => rfl

theorem Keeps.set_bist {K : Nat} {s u : State} {v0} (hK : K &&& 262144 = 0) (h : Keeps K s u) :
    Keeps K s { u with bist := v0 } := by
  refine h.upd rfl rfl rfl rfl fun p hk => ?_
  cases p <;> first | exact keeps_no hK (by decide) hk | exact rfl | exact fun _ _ => rfl

theorem Keeps.set_bist_pmc {K : Nat} {s u : State} {v0 v1} (hK : K &&& 786432 = 0) (h : Keeps K s u) :
    Keeps K s { u with bist := v0, pmc := v1 } := by
  refine h.upd rfl rfl rfl rfl fun p hk => ?_
  cases p <;> first | exact keeps_no hK (by decide) hk | exact rfl | exact fun _ _ => rfl

theorem Keeps.set_pmc {K : Nat} {s u : State} {v0} (hK : K &&& 524288 = 0) (h : Keeps K s u) :
    Keeps K s { u with pmc := v0 } := by
  refine h.upd rfl rfl rfl rfl fun p hk => ?_
  cases p <;> first | exact keeps_no hK (by decide) hk | exact rfl | exact fun _ _ => rfl

theorem Keeps.set_pmc_ring {K : Nat} {s u : State} {v0 v1} (hK : K &&& 1572864 = 0) (h : Keeps K s u) :
    Keeps K s { u with pmc := v0, ring := v1 } := by
  refine h.upd rfl rfl rfl rfl fun p hk => ?_
  cases p <;> first | exact keeps_no hK (by decide) hk | exact rfl | exact fun _ _ => rfl

theorem Keeps.set_ring {K : Nat} {s u : State} {v0} (hK : K &&& 1048576 = 0) (h : Keeps K s u) :
    Keeps K s { u with ring := v0 } := by
  refine h.upd rfl rfl rfl rfl fun p hk => ?_
  cases p <;> first | exact keeps_no hK (by decide) hk | exact rfl | exact fun _ _ => rfl

theorem Keeps.set_ring_mbox {K : Nat} {s u : State} {v0 v1} (hK : K &&& 3145728 = 0) (h : Keeps K s u) :
    Keeps K s { u with ring := v0, mbox := v1 } := by
  refine h.upd rfl rfl rfl rfl fun p hk => ?_
  cases p <;> first | exact keeps_no hK (by decide) hk | exact rfl | exact fun _ _ => rfl

theorem Keeps.set_mbox {K : Nat} {s u : State} {v0} (hK : K &&& 2097152 = 0) (h : Keeps K s u) :
    Keeps K s { u with mbox := v0 } := by
  refine h.upd rfl rfl rfl rfl fun p hk => ?_
  cases p <;> first | exact keeps_no hK (by decide) hk | exact rfl | exact fun _ _ => rfl

theorem Keeps.set_flash {K : Nat} {s u : State} {v0} (hK : K &&& 4194304 = 0) (el : Flash.lines v0 = u.flash.lines) (h : Keeps K s u) :
    Keeps K s { u with flash := v0 } := by
  refine h.upd rfl rfl rfl el fun p hk => ?_
  cases p <;> first | exact keeps_no hK (by decide) hk | exact rfl | exact fun _ _ => rfl

theorem Keeps.set_plans {K : Nat} {s u : State} {v0} (hK : K &&& 8388608 = 0) (h : Keeps K s u) :
    Keeps K s { u with plans := v0 } := by
  refine h.upd rfl rfl rfl rfl fun p hk => ?_
  cases p <;> first | exact keeps_no hK (by decide) hk | exact rfl | exact fun _ _ => rfl

theorem Keeps.set_rdata {K : Nat} {s u : State} {v0} (hK : K &&& 16777216 = 0) (h : Keeps K s u) :
    Keeps K s { u with rdata := v0 } := by
  refine h.upd rfl rfl rfl rfl fun p hk => ?_
  cases p <;> first | exact keeps_no hK (by decide) hk | exact rfl | exact fun _ _ => rfl

theorem Keeps.ite {K : Nat} {s : State} {c : Prop} [Decidable c] {a b : State} (ha : c → Keeps K s a) (hb : ¬c → Keeps K s b) :
    Keeps K s (if c then a else b) := by
  by_cases hc : c
  · rw [if_pos hc]
    exact ha hc
  · rw [if_neg hc]
    exact hb hc

theorem Keeps.of_eq {K : Nat} {s t : State} {β : Type} {p : State × β} {b : β} (e : p = (t, b)) (h : Keeps K s p.1) :
    Keeps K s t := by
  rw [e] at h
  exact h

theorem Keeps.foldl {α : Type} {K : Nat} {s : State} (l : List α) (f : State → α → State)
    (hf : ∀ u x, Keeps K s u → Keeps K s (f u x)) {t : State} (h : Keeps K s t) : Keeps K s (l.foldl f t) := by
  induction l generalizing t with
  | nil => exact h
  | cons x xs ih => exact ih (hf t x h)

theorem Keeps.foldl_range {K : Nat} {s : State} (n : Nat) (f : State → Nat → State)
    (hf : ∀ u x, x < n → Keeps K s u → Keeps K s (f u x)) {t : State} (h : Keeps K s t) : Keeps K s ((List.range n).foldl f t) := by
  have key : ∀ l : List Nat, (∀ x ∈ l, x < n) → ∀ {t : State}, Keeps K s t → Keeps K s (l.foldl f t) := by
    intro l
    induction l with
    | nil => exact fun _ _ h => h
    | cons x xs ih =>
      intro hl t h
      exact ih (fun y hy => hl y (List.mem_cons_of_mem x hy)) (hf t x (hl x List.mem_cons_self) h)
  exact key _ (fun x hx => List.mem_range.mp hx) h

theorem Keeps.foldl_fst {α β : Type} {K : Nat} {s : State} (l : List α) (f : State × β → α → State × β)
    (hf : ∀ p x, Keeps K s p.1 → Keeps K s (f p x).1) {p : State × β} (h : Keeps K s p.1) : Keeps K s (l.foldl f p).1 := by
  induction l generalizing p with
  | nil => exact h
  | cons x xs ih => exact ih (hf p x h)

/-- A register write leaves every other register alone. -/
theorem State.reg_setReg_other {s : State} (h : s.Stored) {a b : Nat} (w : Word) (hb : b ≠ a) : (s.setReg a w).reg b = s.reg b :=
  sparseGet_set_other h.regs hb

/-- A register write is what the next read gives. -/
theorem State.reg_setReg_self {s : State} (h : s.Stored) (a : Nat) (w : Word) : (s.setReg a w).reg a = w :=
  sparseGet_set_self h.regs

theorem State.setReg_keeps {K : Nat} {s t : State} {a : Nat} (w : Word) (hb : K.testBit (32 + a / 4096 % 16) = false)
    (h : Keeps K s t) : Keeps K s (t.setReg a w) := by
  refine ⟨⟨sparseSet_wf h.stored.regs, h.stored.host, h.stored.lines⟩, h.pending, fun p hk => ?_⟩
  refine State.samePart_trans (h.part p hk) ?_
  cases p
  case block b =>
    intro c hc
    refine State.reg_setReg_other h.stored w fun e => ?_
    have hn : a / 4096 % 16 = b.val := by rw [← e, hc]; exact Nat.mod_eq_of_lt b.isLt
    rw [hn] at hb
    exact Bool.noConfusion (hb.symm.trans hk)
  all_goals exact rfl

theorem State.setFld_keeps {K : Nat} {s t : State} {a : Nat} (hi lo v : Nat) (hb : K.testBit (32 + a / 4096 % 16) = false)
    (h : Keeps K s t) : Keeps K s (t.setFld a hi lo v) := State.setReg_keeps _ hb h

theorem State.setFlag_keeps {K : Nat} {s t : State} {a : Nat} (i : Nat) (b : Bool) (hb : K.testBit (32 + a / 4096 % 16) = false)
    (h : Keeps K s t) : Keeps K s (t.setFlag a i b) := State.setReg_keeps _ hb h

theorem State.inc_keeps {K : Nat} {s t : State} {a : Nat} (hi lo : Nat) (hb : K.testBit (32 + a / 4096 % 16) = false)
    (h : Keeps K s t) : Keeps K s (t.inc a hi lo) := State.setReg_keeps _ hb h

theorem State.incBy_keeps {K : Nat} {s t : State} {a : Nat} (hi lo n : Nat) (hb : K.testBit (32 + a / 4096 % 16) = false)
    (h : Keeps K s t) : Keeps K s (t.incBy a hi lo n) := State.setReg_keeps _ hb h

theorem State.writeStored_keeps {K : Nat} {s t : State} {a : Nat} (v : Word) (hb : K.testBit (32 + a / 4096 % 16) = false)
    (h : Keeps K s t) : Keeps K s (t.writeStored a v) := State.setReg_keeps _ hb h

theorem State.hostWrite_keeps {K : Nat} {s t : State} (a : Nat) (bs : List Byte) (hK : K &&& 8 = 0) (h : Keeps K s t) :
    Keeps K s (t.hostWrite a bs) := by
  refine ⟨⟨h.stored.regs, sparseSetRun_wf bs h.stored.host, h.stored.lines⟩, h.pending, fun p hk => ?_⟩
  refine State.samePart_trans (h.part p hk) ?_
  cases p <;> first | exact rfl | exact fun _ _ => rfl | exact keeps_no hK (by decide) hk

theorem State.setLine_keeps {K : Nat} {s t : State} (l : Nat) (v : Option (List Byte)) (hK : K &&& 4194304 = 0) (h : Keeps K s t) :
    Keeps K s (t.setLine l v) := by
  refine ⟨⟨h.stored.regs, h.stored.host, sparseSet_wf h.stored.lines⟩, h.pending, fun p hk => ?_⟩
  refine State.samePart_trans (h.part p hk) ?_
  cases p <;> first | exact keeps_no hK (by decide) hk | exact rfl | exact fun _ _ => rfl

theorem State.clearSector_keeps {K : Nat} {s t : State} (g : Nat) (hK : K &&& 4194304 = 0) (h : Keeps K s t) :
    Keeps K s (t.clearSector g) := by
  refine ⟨⟨h.stored.regs, h.stored.host, sparseFilter_wf _ h.stored.lines⟩, h.pending, fun p hk => ?_⟩
  refine State.samePart_trans (h.part p hk) ?_
  cases p <;> first | exact keeps_no hK (by decide) hk | exact rfl | exact fun _ _ => rfl

end Sys2Proof.Machine
end

