-- ==== Sys2Proof/Laws/KeepsOps.lean ====
section
/-! SUPPORT. What the operations and commands of Machine/Ops.lean leave unchanged: one lemma for each, its mask the parts it
may write. -/

set_option linter.all false

namespace Sys2Proof.Machine

theorem State.clearBy_keeps {K : Nat} {s₀ s : State} (v : Word) (l : List (Nat × Nat × Nat × Nat)) (b : Nat)
    (hl : l.all (fun e => e.2.1 / 4096 % 16 == b) = true) (hb : K.testBit (32 + b) = false) (h : Keeps K s₀ s) :
    Keeps K s₀ (State.clearBy s v l) := by
  have hl' : ∀ e ∈ l, e.2.1 / 4096 % 16 = b := fun e he => by simpa using List.all_eq_true.mp hl e he
  clear hl
  unfold State.clearBy
  induction l generalizing s with
  | nil => exact h
  | cons e t ih =>
    refine ih (Keeps.ite (fun _ => State.setFld_keeps _ _ _ ?_ h) (fun _ => h)) (fun e he => hl' e (List.mem_cons_of_mem _ he))
    rw [hl' e List.mem_cons_self]
    exact hb

theorem State.draw_keeps {K : Nat} {s₀ s : State} (hK : K &&& 2 = 0) (h : Keeps K s₀ s) :
    Keeps K s₀ (State.draw s) := by
  unfold State.draw
  (try extract_lets)
  repeat' (first
   | (with_reducible assumption)
   | (with_reducible exact keeps_sub hK (by decide))
   | (with_reducible rfl)
   | (with_reducible refine Keeps.ite (fun _ => ?_) (fun _ => ?_))
   | (with_reducible refine Keeps.of_eq (by with_reducible assumption) ?_)
   | split
   | (extract_lets)
   | (with_reducible apply Keeps.set_free)
   | (dsimp only))

theorem State.roundFrac_keeps {K : Nat} {s₀ s : State} (n : Int) (d : Int) (hK : K &&& 2 = 0) (h : Keeps K s₀ s) :
    Keeps K s₀ (State.roundFrac s n d).1 := by
  unfold State.roundFrac
  (try extract_lets)
  repeat' (first
   | (with_reducible assumption)
   | (with_reducible exact keeps_sub hK (by decide))
   | (with_reducible rfl)
   | (with_reducible refine Keeps.ite (fun _ => ?_) (fun _ => ?_))
   | (with_reducible apply State.draw_keeps)
   | (with_reducible refine Keeps.of_eq (by with_reducible assumption) ?_)
   | split
   | (extract_lets)
   | (dsimp only))

theorem State.enqueue_keeps {K : Nat} {s₀ s : State} (r : FabRec) (hK : K &&& 128 = 0) (h : Keeps K s₀ s) :
    Keeps K s₀ (State.enqueue s r) := by
  unfold State.enqueue
  (try extract_lets)
  repeat' (first
   | (with_reducible assumption)
   | (with_reducible exact keeps_sub hK (by decide))
   | (with_reducible rfl)
   | (with_reducible refine Keeps.ite (fun _ => ?_) (fun _ => ?_))
   | (with_reducible refine Keeps.of_eq (by with_reducible assumption) ?_)
   | split
   | (extract_lets)
   | (with_reducible apply Keeps.set_fabric)
   | (dsimp only))

theorem State.offer_keeps {K : Nat} {s₀ s : State} (e' : EvRec) (hK : K &&& 128 = 0) (h : Keeps K s₀ s) :
    Keeps K s₀ (State.offer s e') := by
  unfold State.offer
  (try extract_lets)
  repeat' (first
   | (with_reducible assumption)
   | (with_reducible exact keeps_sub hK (by decide))
   | (with_reducible rfl)
   | (with_reducible refine Keeps.ite (fun _ => ?_) (fun _ => ?_))
   | (with_reducible apply State.enqueue_keeps)
   | (with_reducible refine Keeps.of_eq (by with_reducible assumption) ?_)
   | split
   | (extract_lets)
   | (dsimp only))

theorem State.postRec_keeps {K : Nat} {s₀ s : State} (e' : EvRec) (hK : K &&& 128 = 0) (h : Keeps K s₀ s) :
    Keeps K s₀ (State.postRec s e') := by
  unfold State.postRec
  (try extract_lets)
  repeat' (first
   | (with_reducible assumption)
   | (with_reducible exact keeps_sub hK (by decide))
   | (with_reducible rfl)
   | (with_reducible refine Keeps.ite (fun _ => ?_) (fun _ => ?_))
   | (with_reducible apply State.offer_keeps)
   | (with_reducible refine Keeps.of_eq (by with_reducible assumption) ?_)
   | split
   | (extract_lets)
   | (with_reducible apply Keeps.set_fabric)
   | (dsimp only))

theorem State.postAt_keeps {K : Nat} {s₀ s : State} (p' : Time) (typ : Nat) (payload : List Byte) (alert : Bool) (hK : K &&& 128 = 0) (h : Keeps K s₀ s) :
    Keeps K s₀ (State.postAt s p' typ payload alert) := by
  unfold State.postAt
  (try extract_lets)
  repeat' (first
   | (with_reducible assumption)
   | (with_reducible exact keeps_sub hK (by decide))
   | (with_reducible rfl)
   | (with_reducible refine Keeps.ite (fun _ => ?_) (fun _ => ?_))
   | (with_reducible apply State.postRec_keeps)
   | (with_reducible refine Keeps.of_eq (by with_reducible assumption) ?_)
   | split
   | (extract_lets)
   | (dsimp only))

theorem State.post_keeps {K : Nat} {s₀ s : State} (typ : Nat) (payload : List Byte) (alert : Bool) (hK : K &&& 128 = 0) (h : Keeps K s₀ s) :
    Keeps K s₀ (State.post s typ payload alert) := by
  unfold State.post
  (try extract_lets)
  repeat' (first
   | (with_reducible assumption)
   | (with_reducible exact keeps_sub hK (by decide))
   | (with_reducible rfl)
   | (with_reducible refine Keeps.ite (fun _ => ?_) (fun _ => ?_))
   | (with_reducible apply State.postAt_keeps)
   | (with_reducible refine Keeps.of_eq (by with_reducible assumption) ?_)
   | split
   | (extract_lets)
   | (dsimp only))

theorem State.journalAt_keeps {K : Nat} {s₀ s : State} (p' : Time) (jtype : Nat) (payload : List Byte) (hK : K &&& 128 = 0) (h : Keeps K s₀ s) :
    Keeps K s₀ (State.journalAt s p' jtype payload) := by
  unfold State.journalAt
  (try extract_lets)
  repeat' (first
   | (with_reducible assumption)
   | (with_reducible exact keeps_sub hK (by decide))
   | (with_reducible rfl)
   | (with_reducible refine Keeps.ite (fun _ => ?_) (fun _ => ?_))
   | (with_reducible apply State.postRec_keeps)
   | (with_reducible refine Keeps.of_eq (by with_reducible assumption) ?_)
   | split
   | (extract_lets)
   | (dsimp only))

theorem State.journal_keeps {K : Nat} {s₀ s : State} (jtype : Nat) (payload : List Byte) (hK : K &&& 128 = 0) (h : Keeps K s₀ s) :
    Keeps K s₀ (State.journal s jtype payload) := by
  unfold State.journal
  (try extract_lets)
  repeat' (first
   | (with_reducible assumption)
   | (with_reducible exact keeps_sub hK (by decide))
   | (with_reducible rfl)
   | (with_reducible refine Keeps.ite (fun _ => ?_) (fun _ => ?_))
   | (with_reducible apply State.journalAt_keeps)
   | (with_reducible refine Keeps.of_eq (by with_reducible assumption) ?_)
   | split
   | (extract_lets)
   | (dsimp only))

theorem State.served_keeps {K : Nat} {s₀ s : State} (d : Nat) (hK : K &&& 128 = 0) (h : Keeps K s₀ s) :
    Keeps K s₀ (State.served s d) := by
  unfold State.served
  (try extract_lets)
  repeat' (first
   | (with_reducible assumption)
   | (with_reducible exact keeps_sub hK (by decide))
   | (with_reducible rfl)
   | (with_reducible refine Keeps.ite (fun _ => ?_) (fun _ => ?_))
   | (with_reducible refine Keeps.of_eq (by with_reducible assumption) ?_)
   | split
   | (extract_lets)
   | (with_reducible apply Keeps.set_fabric)
   | (dsimp only))

theorem State.dropDest_keeps {K : Nat} {s₀ s : State} (d : Nat) (hK : K &&& 128 = 0) (h : Keeps K s₀ s) :
    Keeps K s₀ (State.dropDest s d) := by
  unfold State.dropDest
  (try extract_lets)
  repeat' (first
   | (with_reducible assumption)
   | (with_reducible exact keeps_sub hK (by decide))
   | (with_reducible rfl)
   | (with_reducible refine Keeps.ite (fun _ => ?_) (fun _ => ?_))
   | (with_reducible refine Keeps.of_eq (by with_reducible assumption) ?_)
   | split
   | (extract_lets)
   | (with_reducible apply Keeps.set_fabric)
   | (dsimp only))

theorem State.modCtx_keeps {K : Nat} {s₀ s : State} (c : Fin 32) (f : Ctx → Ctx) (hK : K &&& 1048576 = 0) (h : Keeps K s₀ s) :
    Keeps K s₀ (State.modCtx s c f) := by
  unfold State.modCtx
  (try extract_lets)
  repeat' (first
   | (with_reducible assumption)
   | (with_reducible exact keeps_sub hK (by decide))
   | (with_reducible rfl)
   | (with_reducible refine Keeps.ite (fun _ => ?_) (fun _ => ?_))
   | (with_reducible refine Keeps.of_eq (by with_reducible assumption) ?_)
   | split
   | (extract_lets)
   | (with_reducible apply Keeps.set_ring)
   | (dsimp only))

theorem State.modPort_keeps {K : Nat} {s₀ s : State} (p' : Fin 4) (f : Port → Port) (hK : K &&& 2097152 = 0) (h : Keeps K s₀ s) :
    Keeps K s₀ (State.modPort s p' f) := by
  unfold State.modPort
  (try extract_lets)
  repeat' (first
   | (with_reducible assumption)
   | (with_reducible exact keeps_sub hK (by decide))
   | (with_reducible rfl)
   | (with_reducible refine Keeps.ite (fun _ => ?_) (fun _ => ?_))
   | (with_reducible refine Keeps.of_eq (by with_reducible assumption) ?_)
   | split
   | (extract_lets)
   | (with_reducible apply Keeps.set_mbox)
   | (dsimp only))

theorem State.postService_keeps {K : Nat} {s₀ s : State} (stageWord : Word) (elapsed : Word) (rebase : Nat) (hK : K &&& 128 = 0) (h : Keeps K s₀ s) :
    Keeps K s₀ (State.postService s stageWord elapsed rebase) := by
  unfold State.postService
  (try extract_lets)
  repeat' (first
   | (with_reducible assumption)
   | (with_reducible exact keeps_sub hK (by decide))
   | (with_reducible rfl)
   | (with_reducible refine Keeps.ite (fun _ => ?_) (fun _ => ?_))
   | (with_reducible apply State.post_keeps)
   | (with_reducible refine Keeps.of_eq (by with_reducible assumption) ?_)
   | split
   | (extract_lets)
   | (dsimp only))

end Sys2Proof.Machine
end

