-- ==== Sys2Proof/Laws/KeepsStreams.lean ====
section
/-! SUPPORT. What the operations and commands of Machine/Streams.lean leave unchanged: one lemma for each, its mask the parts it
may write. -/

set_option linter.all false

namespace Sys2Proof.Machine

theorem State.message_keeps {K : Nat} {s₀ s : State} (v : Nat) (hK : K &&& 17592186044424 = 0) (h : Keeps K s₀ s) :
    Keeps K s₀ (State.message s v) := by
  unfold State.message
  (try extract_lets)
  repeat' (first
   | (with_reducible assumption)
   | (with_reducible exact keeps_sub hK (by decide))
   | (with_reducible rfl)
   | exact keeps_block hK 12 (by decide) (by decide)
   | (with_reducible refine Keeps.ite (fun _ => ?_) (fun _ => ?_))
   | (with_reducible apply State.setFlag_keeps)
   | (with_reducible apply State.hostWrite_keeps)
   | (with_reducible refine Keeps.of_eq (by with_reducible assumption) ?_)
   | split
   | (extract_lets)
   | (dsimp only))

theorem State.ringErr_keeps {K : Nat} {s₀ s : State} (b : Nat) (hK : K &&& 17596481011720 = 0) (h : Keeps K s₀ s) :
    Keeps K s₀ (State.ringErr s b) := by
  unfold State.ringErr
  (try extract_lets)
  repeat' (first
   | (with_reducible assumption)
   | (with_reducible exact keeps_sub hK (by decide))
   | (with_reducible rfl)
   | exact keeps_block hK 0 (by decide) (by decide)
   | (with_reducible refine Keeps.ite (fun _ => ?_) (fun _ => ?_))
   | (with_reducible apply State.setFlag_keeps)
   | (with_reducible apply State.message_keeps)
   | (with_reducible refine Keeps.of_eq (by with_reducible assumption) ?_)
   | split
   | (extract_lets)
   | (dsimp only))

theorem State.countIrq_keeps {K : Nat} {s₀ s : State} (v : Nat) (hv : v < 34) (hK : K &&& 8796093022208 = 0)
    (h : Keeps K s₀ s) : Keeps K s₀ (State.countIrq s v) := by
  unfold State.countIrq
  split
  · refine State.inc_keeps _ _ ?_ h
    exact keeps_block hK 11 (by simp only [Reg.RING_CTX_CNT]; omega) (by decide)
  · exact h

theorem State.ctxMessage_keeps {K : Nat} {s₀ s : State} (c : Fin 32) (hK : K &&& 26388280115208 = 0) (h : Keeps K s₀ s) :
    Keeps K s₀ (State.ctxMessage s c) := by
  unfold State.ctxMessage
  have hm := State.modCtx_keeps c (fun x => { x with coal := 0 }) (keeps_sub hK (by decide)) h
  exact Keeps.ite (fun _ => State.message_keeps _ (keeps_sub hK (by decide)) (State.countIrq_keeps _ (by omega)
    (keeps_sub hK (by decide)) hm)) (fun _ => hm)

theorem State.entryWritten_keeps {K : Nat} {s₀ s : State} (c : Fin 32) (alert : Bool) (hK : K &&& 26388280115208 = 0) (h : Keeps K s₀ s) :
    Keeps K s₀ (State.entryWritten s c alert) := by
  unfold State.entryWritten
  (try extract_lets)
  repeat' (first
   | (with_reducible assumption)
   | (with_reducible exact keeps_sub hK (by decide))
   | (with_reducible rfl)
   | (with_reducible refine Keeps.ite (fun _ => ?_) (fun _ => ?_))
   | (with_reducible apply State.modCtx_keeps)
   | (with_reducible apply State.ctxMessage_keeps)
   | (with_reducible refine Keeps.of_eq (by with_reducible assumption) ?_)
   | split
   | (extract_lets)
   | (dsimp only))

theorem State.writeStateWord_keeps {K : Nat} {s₀ s : State} (hK : K &&& 1048584 = 0) (h : Keeps K s₀ s) :
    Keeps K s₀ (State.writeStateWord s) := by
  unfold State.writeStateWord
  (try extract_lets)
  repeat' (first
   | (with_reducible assumption)
   | (with_reducible exact keeps_sub hK (by decide))
   | (with_reducible rfl)
   | (with_reducible refine Keeps.ite (fun _ => ?_) (fun _ => ?_))
   | (with_reducible apply State.hostWrite_keeps)
   | (with_reducible refine Keeps.of_eq (by with_reducible assumption) ?_)
   | split
   | (extract_lets)
   | (with_reducible apply Keeps.set_ring)
   | (dsimp only))

theorem State.sendLtr_keeps {K : Nat} {s₀ s : State} (hK : K &&& 1048576 = 0) (h : Keeps K s₀ s) :
    Keeps K s₀ (State.sendLtr s) := by
  unfold State.sendLtr
  (try extract_lets)
  repeat' (first
   | (with_reducible assumption)
   | (with_reducible exact keeps_sub hK (by decide))
   | (with_reducible rfl)
   | (with_reducible refine Keeps.ite (fun _ => ?_) (fun _ => ?_))
   | (with_reducible refine Keeps.of_eq (by with_reducible assumption) ?_)
   | split
   | (extract_lets)
   | (with_reducible apply Keeps.set_ring)
   | (dsimp only))

theorem State.enterPolling_keeps {K : Nat} {s₀ s : State} (hK : K &&& 1048584 = 0) (h : Keeps K s₀ s) :
    Keeps K s₀ (State.enterPolling s) := by
  unfold State.enterPolling
  (try extract_lets)
  repeat' (first
   | (with_reducible assumption)
   | (with_reducible exact keeps_sub hK (by decide))
   | (with_reducible rfl)
   | (with_reducible refine Keeps.ite (fun _ => ?_) (fun _ => ?_))
   | (with_reducible apply State.sendLtr_keeps)
   | (with_reducible apply State.writeStateWord_keeps)
   | (with_reducible refine Keeps.of_eq (by with_reducible assumption) ?_)
   | split
   | (extract_lets)
   | (with_reducible apply Keeps.set_ring)
   | (dsimp only))

theorem State.setInterval_keeps {K : Nat} {s₀ s : State} (n : Nat) (hK : K &&& 1048584 = 0) (h : Keeps K s₀ s) :
    Keeps K s₀ (State.setInterval s n) := by
  unfold State.setInterval
  (try extract_lets)
  repeat' (first
   | (with_reducible assumption)
   | (with_reducible exact keeps_sub hK (by decide))
   | (with_reducible rfl)
   | (with_reducible refine Keeps.ite (fun _ => ?_) (fun _ => ?_))
   | (with_reducible apply State.sendLtr_keeps)
   | (with_reducible apply State.writeStateWord_keeps)
   | (with_reducible refine Keeps.of_eq (by with_reducible assumption) ?_)
   | split
   | (extract_lets)
   | (with_reducible apply Keeps.set_ring)
   | (dsimp only))

theorem State.idleCheck_keeps {K : Nat} {s₀ s : State} (hK : K &&& 1048576 = 0) (h : Keeps K s₀ s) :
    Keeps K s₀ (State.idleCheck s) := by
  unfold State.idleCheck
  (try extract_lets)
  repeat' (first
   | (with_reducible assumption)
   | (with_reducible exact keeps_sub hK (by decide))
   | (with_reducible rfl)
   | (with_reducible refine Keeps.ite (fun _ => ?_) (fun _ => ?_))
   | (with_reducible refine Keeps.of_eq (by with_reducible assumption) ?_)
   | split
   | (extract_lets)
   | (with_reducible apply Keeps.set_ring)
   | (dsimp only))

theorem State.ringPut_keeps {K : Nat} {s₀ s : State} (c : Fin 32) (e' : EvRec) (hK : K &&& 26388280115208 = 0) (h : Keeps K s₀ s) :
    Keeps K s₀ (State.ringPut s c e') := by
  unfold State.ringPut
  (try extract_lets)
  repeat' (first
   | (with_reducible assumption)
   | (with_reducible exact keeps_sub hK (by decide))
   | (with_reducible rfl)
   | (with_reducible refine Keeps.ite (fun _ => ?_) (fun _ => ?_))
   | (with_reducible apply State.hostWrite_keeps)
   | (with_reducible apply State.modCtx_keeps)
   | (with_reducible apply State.entryWritten_keeps)
   | (with_reducible refine Keeps.of_eq (by with_reducible assumption) ?_)
   | split
   | (extract_lets)
   | (dsimp only))

theorem State.ringPutAnchored_keeps {K : Nat} {s₀ s : State} (c : Fin 32) (e' : EvRec) (hK : K &&& 26388280115208 = 0) (h : Keeps K s₀ s) :
    Keeps K s₀ (State.ringPutAnchored s c e') := by
  unfold State.ringPutAnchored
  (try extract_lets)
  repeat' (first
   | (with_reducible assumption)
   | (with_reducible exact keeps_sub hK (by decide))
   | (with_reducible rfl)
   | (with_reducible refine Keeps.ite (fun _ => ?_) (fun _ => ?_))
   | (with_reducible apply State.ringPut_keeps)
   | (with_reducible refine Keeps.of_eq (by with_reducible assumption) ?_)
   | split
   | (extract_lets)
   | (dsimp only))

theorem State.ringLose_keeps {K : Nat} {s₀ s : State} (c : Fin 32) (n : Nat) (cause : Nat) (hK : K &&& 8796094070784 = 0) (h : Keeps K s₀ s) :
    Keeps K s₀ (State.ringLose s c n cause) := by
  unfold State.ringLose
  (try extract_lets)
  repeat' (first
   | (with_reducible assumption)
   | (with_reducible exact keeps_sub hK (by decide))
   | (with_reducible rfl)
   | exact keeps_block hK 11 (by decide) (by decide)
   | exact keeps_block hK 11 (by simp only [Reg.RING_CTX_LOST]; omega) (by decide)
   | (with_reducible refine Keeps.ite (fun _ => ?_) (fun _ => ?_))
   | (with_reducible apply State.incBy_keeps)
   | (with_reducible apply State.modCtx_keeps)
   | (with_reducible refine Keeps.of_eq (by with_reducible assumption) ?_)
   | split
   | (extract_lets)
   | (dsimp only))

theorem State.ringFlushLost_keeps {K : Nat} {s₀ s : State} (c : Fin 32) (hK : K &&& 26388280115208 = 0) (h : Keeps K s₀ s) :
    Keeps K s₀ (State.ringFlushLost s c) := by
  unfold State.ringFlushLost
  (try extract_lets)
  repeat' (first
   | (with_reducible assumption)
   | (with_reducible exact keeps_sub hK (by decide))
   | (with_reducible rfl)
   | (with_reducible refine Keeps.ite (fun _ => ?_) (fun _ => ?_))
   | (with_reducible apply State.ringPutAnchored_keeps)
   | (with_reducible apply State.modCtx_keeps)
   | (with_reducible refine Keeps.of_eq (by with_reducible assumption) ?_)
   | split
   | (extract_lets)
   | (dsimp only))

theorem State.ringOffer_keeps {K : Nat} {s₀ s : State} (c : Fin 32) (e' : EvRec) (hK : K &&& 26388280115208 = 0) (h : Keeps K s₀ s) :
    Keeps K s₀ (State.ringOffer s c e') := by
  unfold State.ringOffer
  (try extract_lets)
  repeat' (first
   | (with_reducible assumption)
   | (with_reducible exact keeps_sub hK (by decide))
   | (with_reducible rfl)
   | (with_reducible refine Keeps.ite (fun _ => ?_) (fun _ => ?_))
   | (with_reducible apply State.ringLose_keeps)
   | (with_reducible apply State.ringPutAnchored_keeps)
   | (with_reducible apply State.ringFlushLost_keeps)
   | (with_reducible refine Keeps.of_eq (by with_reducible assumption) ?_)
   | split
   | (extract_lets)
   | (dsimp only))

theorem State.dropRecord_keeps {K : Nat} {s₀ s : State} (r : FabRec) (hK : K &&& 8796096167936 = 0) (h : Keeps K s₀ s) :
    Keeps K s₀ (State.dropRecord s r) := by
  unfold State.dropRecord
  (try extract_lets)
  repeat' (first
   | (with_reducible assumption)
   | (with_reducible exact keeps_sub hK (by decide))
   | (with_reducible rfl)
   | (with_reducible refine Keeps.ite (fun _ => ?_) (fun _ => ?_))
   | (with_reducible apply State.modPort_keeps)
   | (with_reducible apply State.ringLose_keeps)
   | (with_reducible refine Keeps.foldl _ _ (fun s x h => ?_) ?_)
   | (with_reducible refine Keeps.foldl_fst _ _ (fun s x h => ?_) ?_)
   | (with_reducible refine Keeps.of_eq (by with_reducible assumption) ?_)
   | split
   | (extract_lets)
   | (dsimp only))

end Sys2Proof.Machine
end

