-- ==== Sys2Proof/Laws/KeepsPowerOps.lean ====
section
/-! SUPPORT. What the operations and commands of Machine/PowerOps.lean leave unchanged: one lemma for each, its mask the parts it
may write. -/

set_option linter.all false

namespace Sys2Proof.Machine

theorem State.pmcIrq_keeps {K : Nat} {s₀ s : State} (b : Nat) (hK : K &&& 17600775979016 = 0) (h : Keeps K s₀ s) :
    Keeps K s₀ (State.pmcIrq s b) := by
  unfold State.pmcIrq
  (try extract_lets)
  repeat' (first
   | (with_reducible assumption)
   | (with_reducible exact keeps_sub hK (by decide))
   | (with_reducible rfl)
   | exact keeps_block hK 1 (by decide) (by decide)
   | (with_reducible refine Keeps.ite (fun _ => ?_) (fun _ => ?_))
   | (with_reducible apply State.setFlag_keeps)
   | (with_reducible apply State.message_keeps)
   | (with_reducible refine Keeps.of_eq (by with_reducible assumption) ?_)
   | split
   | (extract_lets)
   | (dsimp only))

theorem State.postPower_keeps {K : Nat} {s₀ s : State} (kind : Nat) (target : Nat) (src : Nat) (reason : Nat) (refusers : Nat) (flags : Nat) (ticks : Nat) (p' : Time) (hK : K &&& 128 = 0) (h : Keeps K s₀ s) :
    Keeps K s₀ (State.postPower s kind target src reason refusers flags ticks p') := by
  unfold State.postPower
  (try extract_lets)
  repeat' (first
   | (with_reducible assumption)
   | (with_reducible exact keeps_sub hK (by decide))
   | (with_reducible rfl)
   | (with_reducible refine Keeps.ite (fun _ => ?_) (fun _ => ?_))
   | (with_reducible apply State.postAt_keeps)
   | (with_reducible refine Keeps.of_eq (by with_reducible assumption) ?_)
   | split
   | (extract_lets)
   | (dsimp only))

theorem State.logRefusal_keeps {K : Nat} {s₀ s : State} (block : Fin 16) (reason : Nat) (hK : K &&& 8589934592 = 0) (h : Keeps K s₀ s) :
    Keeps K s₀ (State.logRefusal s block reason) := by
  unfold State.logRefusal
  (try extract_lets)
  repeat' (first
   | (with_reducible assumption)
   | (with_reducible exact keeps_sub hK (by decide))
   | (with_reducible rfl)
   | exact keeps_block hK 1 (by decide) (by decide)
   | exact keeps_block hK 1 (by simp only [Reg.PMC_REFUSE_REASON]; omega) (by decide)
   | (with_reducible refine Keeps.ite (fun _ => ?_) (fun _ => ?_))
   | (with_reducible apply State.setFlag_keeps)
   | (with_reducible apply State.setFld_keeps)
   | (with_reducible refine Keeps.of_eq (by with_reducible assumption) ?_)
   | split
   | (extract_lets)
   | (dsimp only))

theorem State.ringUndoze_keeps {K : Nat} {s₀ s : State} (hK : K &&& 4296015880 = 0) (h : Keeps K s₀ s) :
    Keeps K s₀ (State.ringUndoze s) := by
  unfold State.ringUndoze
  (try extract_lets)
  repeat' (first
   | (with_reducible assumption)
   | (with_reducible exact keeps_sub hK (by decide))
   | (with_reducible rfl)
   | exact keeps_block hK 0 (by decide) (by decide)
   | (with_reducible refine Keeps.ite (fun _ => ?_) (fun _ => ?_))
   | (with_reducible apply State.enterPolling_keeps)
   | (with_reducible apply State.inc_keeps)
   | (with_reducible refine Keeps.of_eq (by with_reducible assumption) ?_)
   | split
   | (extract_lets)
   | (dsimp only))

theorem State.releaseBlocks_keeps {K : Nat} {s₀ s : State} (hK : K &&& 4296802312 = 0) (h : Keeps K s₀ s) :
    Keeps K s₀ (State.releaseBlocks s) := by
  unfold State.releaseBlocks
  (try extract_lets)
  repeat' (first
   | (with_reducible assumption)
   | (with_reducible exact keeps_sub hK (by decide))
   | (with_reducible rfl)
   | (with_reducible refine Keeps.ite (fun _ => ?_) (fun _ => ?_))
   | (with_reducible apply State.ringUndoze_keeps)
   | (with_reducible refine Keeps.of_eq (by with_reducible assumption) ?_)
   | split
   | (extract_lets)
   | (with_reducible apply Keeps.set_bist_pmc)
   | (dsimp only))

theorem State.abortEntry_keeps {K : Nat} {s₀ s : State} (refusers : List (Fin 16 × Nat)) (hK : K &&& 17605072781448 = 0) (h : Keeps K s₀ s) :
    Keeps K s₀ (State.abortEntry s refusers) := by
  unfold State.abortEntry
  (try extract_lets)
  repeat' (first
   | (with_reducible assumption)
   | (with_reducible exact keeps_sub hK (by decide))
   | (with_reducible rfl)
   | exact keeps_block hK 1 (by decide) (by decide)
   | exact keeps_block hK 1 (by simp only [Reg.PMC_REFUSE_REASON]; omega) (by decide)
   | (with_reducible refine Keeps.ite (fun _ => ?_) (fun _ => ?_))
   | (with_reducible apply State.setReg_keeps)
   | (with_reducible apply State.postPower_keeps)
   | (with_reducible apply State.inc_keeps)
   | (with_reducible apply State.logRefusal_keeps)
   | (with_reducible apply State.releaseBlocks_keeps)
   | (with_reducible apply State.pmcIrq_keeps)
   | (with_reducible refine Keeps.foldl_range _ _ (fun s x hx h => ?_) ?_)
   | (with_reducible refine Keeps.foldl _ _ (fun s x h => ?_) ?_)
   | (with_reducible refine Keeps.foldl_fst _ _ (fun s x h => ?_) ?_)
   | (with_reducible refine Keeps.of_eq (by with_reducible assumption) ?_)
   | split
   | (extract_lets)
   | (with_reducible apply Keeps.set_pmc)
   | (dsimp only))

theorem State.wakeFire_keeps {K : Nat} {s₀ s : State} (code : Nat) (detail : Nat) (hK : K &&& 17605072783496 = 0) (h : Keeps K s₀ s) :
    Keeps K s₀ (State.wakeFire s code detail) := by
  unfold State.wakeFire
  (try extract_lets)
  repeat' (first
   | (with_reducible assumption)
   | (with_reducible exact keeps_sub hK (by decide))
   | (with_reducible rfl)
   | exact keeps_block hK 1 (by decide) (by decide)
   | (with_reducible refine Keeps.ite (fun _ => ?_) (fun _ => ?_))
   | (with_reducible apply State.setFlag_keeps)
   | (with_reducible apply State.abortEntry_keeps)
   | (with_reducible refine Keeps.of_eq (by with_reducible assumption) ?_)
   | split
   | (extract_lets)
   | (with_reducible apply Keeps.set_seq)
   | (with_reducible apply Keeps.set_pmc)
   | (dsimp only))

theorem State.wakeDetect_keeps {K : Nat} {s₀ s : State} (code : Nat) (detail : Nat) (hK : K &&& 17605072783496 = 0) (h : Keeps K s₀ s) :
    Keeps K s₀ (State.wakeDetect s code detail) := by
  unfold State.wakeDetect
  (try extract_lets)
  repeat' (first
   | (with_reducible assumption)
   | (with_reducible exact keeps_sub hK (by decide))
   | (with_reducible rfl)
   | (with_reducible refine Keeps.ite (fun _ => ?_) (fun _ => ?_))
   | (with_reducible apply State.wakeFire_keeps)
   | (with_reducible refine Keeps.of_eq (by with_reducible assumption) ?_)
   | split
   | (extract_lets)
   | (dsimp only))

theorem State.wakeHoldUp_keeps {K : Nat} {s₀ s : State} (hK : K &&& 17605072783496 = 0) (h : Keeps K s₀ s) :
    Keeps K s₀ (State.wakeHoldUp s) := by
  unfold State.wakeHoldUp
  (try extract_lets)
  repeat' (first
   | (with_reducible assumption)
   | (with_reducible exact keeps_sub hK (by decide))
   | (with_reducible rfl)
   | exact keeps_block hK 1 (by decide) (by decide)
   | (with_reducible refine Keeps.ite (fun _ => ?_) (fun _ => ?_))
   | (with_reducible apply State.setFlag_keeps)
   | (with_reducible apply State.wakeFire_keeps)
   | (with_reducible refine Keeps.of_eq (by with_reducible assumption) ?_)
   | split
   | (extract_lets)
   | (dsimp only))

end Sys2Proof.Machine
end

