-- ==== Sys2Proof/Laws/KeepsRequests.lean ====
section
/-! SUPPORT. What the operations and commands of Machine/Requests.lean leave unchanged: one lemma for each, its mask the parts it
may write. -/

set_option linter.all false

namespace Sys2Proof.Machine

theorem State.putEntry_keeps {K : Nat} {s₀ s : State} (r : Req) (op : Nat) (taken : Bool) (hK : K &&& 256 = 0) (h : Keeps K s₀ s) :
    Keeps K s₀ (State.putEntry s r op taken) := by
  unfold State.putEntry
  (try extract_lets)
  repeat' (first
   | (with_reducible assumption)
   | (with_reducible exact keeps_sub hK (by decide))
   | (with_reducible rfl)
   | (with_reducible refine Keeps.ite (fun _ => ?_) (fun _ => ?_))
   | (with_reducible refine Keeps.of_eq (by with_reducible assumption) ?_)
   | split
   | (extract_lets)
   | (with_reducible apply Keeps.set_reqs)
   | (dsimp only))

theorem State.take_keeps {K : Nat} {s₀ s : State} (r : Req) (op : Nat) (hK : K &&& 256 = 0) (h : Keeps K s₀ s) :
    Keeps K s₀ (State.take s r op) := by
  unfold State.take
  (try extract_lets)
  repeat' (first
   | (with_reducible assumption)
   | (with_reducible exact keeps_sub hK (by decide))
   | (with_reducible rfl)
   | (with_reducible refine Keeps.ite (fun _ => ?_) (fun _ => ?_))
   | (with_reducible apply State.putEntry_keeps)
   | (with_reducible refine Keeps.of_eq (by with_reducible assumption) ?_)
   | split
   | (extract_lets)
   | (with_reducible apply Keeps.set_reqs)
   | (dsimp only))

theorem State.cqPut_keeps {K : Nat} {s₀ s : State} (c : Fin 32) (r : Req) (rep : Reply) (flags : Nat) (done : Time) (hK : K &&& 26388280115208 = 0) (h : Keeps K s₀ s) :
    Keeps K s₀ (State.cqPut s c r rep flags done) := by
  unfold State.cqPut
  (try extract_lets)
  repeat' (first
   | (with_reducible assumption)
   | (with_reducible exact keeps_sub hK (by decide))
   | (with_reducible rfl)
   | (with_reducible refine Keeps.ite (fun _ => ?_) (fun _ => ?_))
   | (with_reducible apply State.hostWrite_keeps)
   | (with_reducible apply State.setInterval_keeps)
   | (with_reducible apply State.modCtx_keeps)
   | (with_reducible apply State.entryWritten_keeps)
   | (with_reducible refine Keeps.of_eq (by with_reducible assumption) ?_)
   | split
   | (extract_lets)
   | (with_reducible apply Keeps.set_ring)
   | (dsimp only))

theorem State.release_keeps {K : Nat} {s₀ s : State} (r : Req) (hK : K &&& 256 = 0) (h : Keeps K s₀ s) :
    Keeps K s₀ (State.release s r) := by
  unfold State.release
  (try extract_lets)
  repeat' (first
   | (with_reducible assumption)
   | (with_reducible exact keeps_sub hK (by decide))
   | (with_reducible rfl)
   | (with_reducible refine Keeps.ite (fun _ => ?_) (fun _ => ?_))
   | (with_reducible refine Keeps.of_eq (by with_reducible assumption) ?_)
   | split
   | (extract_lets)
   | (with_reducible apply Keeps.set_reqs)
   | (dsimp only))

theorem State.complete_keeps {K : Nat} {s₀ s : State} (r : Req) (rep : Reply) (hK : K &&& 26388282212616 = 0) (h : Keeps K s₀ s) :
    Keeps K s₀ (State.complete s r rep) := by
  unfold State.complete
  (try extract_lets)
  repeat' (first
   | (with_reducible assumption)
   | (with_reducible exact keeps_sub hK (by decide))
   | (with_reducible rfl)
   | (with_reducible refine Keeps.ite (fun _ => ?_) (fun _ => ?_))
   | (with_reducible apply State.modPort_keeps)
   | (with_reducible apply State.cqPut_keeps)
   | (with_reducible apply State.release_keeps)
   | (with_reducible refine Keeps.of_eq (by with_reducible assumption) ?_)
   | split
   | (extract_lets)
   | (with_reducible apply Keeps.set_ring)
   | (dsimp only))

theorem State.flushWaiting_keeps {K : Nat} {s₀ s : State} (hK : K &&& 26388280115464 = 0) (h : Keeps K s₀ s) :
    Keeps K s₀ (State.flushWaiting s) := by
  unfold State.flushWaiting
  (try extract_lets)
  repeat' (first
   | (with_reducible assumption)
   | (with_reducible exact keeps_sub hK (by decide))
   | (with_reducible rfl)
   | (with_reducible refine Keeps.ite (fun _ => ?_) (fun _ => ?_))
   | (with_reducible apply State.cqPut_keeps)
   | (with_reducible apply State.release_keeps)
   | (with_reducible refine Keeps.foldl _ _ (fun s x h => ?_) ?_)
   | (with_reducible refine Keeps.foldl_fst _ _ (fun s x h => ?_) ?_)
   | (with_reducible refine Keeps.of_eq (by with_reducible assumption) ?_)
   | split
   | (extract_lets)
   | (with_reducible apply Keeps.set_ring)
   | (dsimp only))

theorem State.awaitTurn_keeps {K : Nat} {s₀ s : State} (r : Req) (op : Nat) (hK : K &&& 256 = 0) (h : Keeps K s₀ s) :
    Keeps K s₀ (State.awaitTurn s r op) := by
  unfold State.awaitTurn
  (try extract_lets)
  repeat' (first
   | (with_reducible assumption)
   | (with_reducible exact keeps_sub hK (by decide))
   | (with_reducible rfl)
   | (with_reducible refine Keeps.ite (fun _ => ?_) (fun _ => ?_))
   | (with_reducible apply State.putEntry_keeps)
   | (with_reducible refine Keeps.of_eq (by with_reducible assumption) ?_)
   | split
   | (extract_lets)
   | (dsimp only))

theorem State.command_keeps {K : Nat} {s₀ s : State} (r : Req) (op : Nat) (bad : Bool) (k : State → State × Option Reply) (hk : ∀ s : State, Keeps K s₀ s → Keeps K s₀ (k s).1) (hK : K &&& 26388282212616 = 0) (h : Keeps K s₀ s) :
    Keeps K s₀ (State.command s r op bad k) := by
  unfold State.command
  (try extract_lets)
  repeat' (first
   | (with_reducible assumption)
   | (with_reducible exact keeps_sub hK (by decide))
   | (with_reducible rfl)
   | (with_reducible refine Keeps.ite (fun _ => ?_) (fun _ => ?_))
   | (with_reducible apply State.awaitTurn_keeps)
   | (with_reducible apply State.complete_keeps)
   | (with_reducible apply State.take_keeps)
   | (with_reducible refine Keeps.of_eq (by with_reducible assumption) ?_)
   | (with_reducible apply hk)
   | split
   | (extract_lets)
   | (dsimp only))

theorem State.abortAll_keeps {K : Nat} {s₀ s : State} (c : Fin 32) (hK : K &&& 26388280115464 = 0) (h : Keeps K s₀ s) :
    Keeps K s₀ (State.abortAll s c) := by
  unfold State.abortAll
  (try extract_lets)
  repeat' (first
   | (with_reducible assumption)
   | (with_reducible exact keeps_sub hK (by decide))
   | (with_reducible rfl)
   | (with_reducible refine Keeps.ite (fun _ => ?_) (fun _ => ?_))
   | (with_reducible apply State.cqPut_keeps)
   | (with_reducible apply State.release_keeps)
   | (with_reducible refine Keeps.foldl _ _ (fun s x h => ?_) ?_)
   | (with_reducible refine Keeps.foldl_fst _ _ (fun s x h => ?_) ?_)
   | (with_reducible refine Keeps.of_eq (by with_reducible assumption) ?_)
   | split
   | (extract_lets)
   | (dsimp only))

theorem State.ctxFail_keeps {K : Nat} {s₀ s : State} (c : Fin 32) (code : Nat) (hK : K &&& 26392575082888 = 0) (h : Keeps K s₀ s) :
    Keeps K s₀ (State.ctxFail s c code) := by
  unfold State.ctxFail
  (try extract_lets)
  repeat' (first
   | (with_reducible assumption)
   | (with_reducible exact keeps_sub hK (by decide))
   | (with_reducible rfl)
   | exact keeps_block hK 0 (by decide) (by decide)
   | (with_reducible refine Keeps.ite (fun _ => ?_) (fun _ => ?_))
   | (with_reducible apply State.setReg_keeps)
   | (with_reducible apply State.dropDest_keeps)
   | (with_reducible apply State.idleCheck_keeps)
   | (with_reducible apply State.abortAll_keeps)
   | (with_reducible apply State.ringErr_keeps)
   | (with_reducible apply State.modCtx_keeps)
   | (with_reducible refine Keeps.of_eq (by with_reducible assumption) ?_)
   | split
   | (extract_lets)
   | (dsimp only))

end Sys2Proof.Machine
end

