-- ==== Sys2Proof/Laws/KeepsFanOps.lean ====
section
/-! SUPPORT. What the operations and commands of Machine/FanOps.lean leave unchanged: one lemma for each, its mask the parts it
may write. -/

set_option linter.all false

namespace Sys2Proof.Machine

theorem State.postFan_keeps {K : Nat} {s₀ s : State} (n : Fin 3) (kind : Nat) (hK : K &&& 128 = 0) (h : Keeps K s₀ s) :
    Keeps K s₀ (State.postFan s n kind) := by
  unfold State.postFan
  (try extract_lets)
  repeat' (first
   | (with_reducible assumption)
   | (with_reducible exact keeps_sub hK (by decide))
   | (with_reducible rfl)
   | (with_reducible refine Keeps.ite (fun _ => ?_) (fun _ => ?_))
   | (with_reducible apply State.post_keeps)
   | (with_reducible refine Keeps.of_eq (by with_reducible assumption) ?_)
   | split
   | (extract_lets)
   | (dsimp only))

theorem State.setFan_keeps {K : Nat} {s₀ s : State} (n : Fin 3) (x : Fan) (hK : K &&& 32768 = 0) (h : Keeps K s₀ s) :
    Keeps K s₀ (State.setFan s n x) := by
  unfold State.setFan
  (try extract_lets)
  repeat' (first
   | (with_reducible assumption)
   | (with_reducible exact keeps_sub hK (by decide))
   | (with_reducible rfl)
   | (with_reducible refine Keeps.ite (fun _ => ?_) (fun _ => ?_))
   | (with_reducible refine Keeps.of_eq (by with_reducible assumption) ?_)
   | split
   | (extract_lets)
   | (with_reducible apply Keeps.set_drive)
   | (dsimp only))

theorem State.fanWarnClear_keeps {K : Nat} {s₀ s : State} (n : Fin 3) (b : Nat) (hK : K &&& 4398046511232 = 0) (h : Keeps K s₀ s) :
    Keeps K s₀ (State.fanWarnClear s n b) := by
  unfold State.fanWarnClear
  (try extract_lets)
  repeat' (first
   | (with_reducible assumption)
   | (with_reducible exact keeps_sub hK (by decide))
   | (with_reducible rfl)
   | exact keeps_block hK 10 (by decide) (by decide)
   | exact keeps_block hK 10 (by simp only [Reg.THERM_FAN_FSTATUS]; omega) (by decide)
   | (with_reducible refine Keeps.ite (fun _ => ?_) (fun _ => ?_))
   | (with_reducible apply State.setFlag_keeps)
   | (with_reducible apply State.postFan_keeps)
   | (with_reducible refine Keeps.of_eq (by with_reducible assumption) ?_)
   | split
   | (extract_lets)
   | (dsimp only))

theorem State.fanTo_keeps {K : Nat} {s₀ s : State} (n : Fin 3) (st : FanState) (hK : K &&& 6597069799552 = 0) (h : Keeps K s₀ s) :
    Keeps K s₀ (State.fanTo s n st) := by
  unfold State.fanTo
  (try extract_lets)
  repeat' (first
   | (with_reducible assumption)
   | (with_reducible exact keeps_sub hK (by decide))
   | (with_reducible rfl)
   | exact keeps_block hK 9 (by decide) (by decide)
   | exact keeps_block hK 9 (by simp only [Reg.DRIVE_FAN_STATUS]; omega) (by decide)
   | (with_reducible refine Keeps.ite (fun _ => ?_) (fun _ => ?_))
   | (with_reducible apply State.setFlag_keeps)
   | (with_reducible apply State.setFan_keeps)
   | (with_reducible apply State.fanWarnClear_keeps)
   | (with_reducible refine Keeps.of_eq (by with_reducible assumption) ?_)
   | split
   | (extract_lets)
   | (dsimp only))

theorem State.fanSeqEnd_keeps {K : Nat} {s₀ s : State} (n : Fin 3) (kind : Nat) (hK : K &&& 32896 = 0) (h : Keeps K s₀ s) :
    Keeps K s₀ (State.fanSeqEnd s n kind) := by
  unfold State.fanSeqEnd
  (try extract_lets)
  repeat' (first
   | (with_reducible assumption)
   | (with_reducible exact keeps_sub hK (by decide))
   | (with_reducible rfl)
   | (with_reducible refine Keeps.ite (fun _ => ?_) (fun _ => ?_))
   | (with_reducible apply State.setFan_keeps)
   | (with_reducible apply State.postFan_keeps)
   | (with_reducible refine Keeps.of_eq (by with_reducible assumption) ?_)
   | split
   | (extract_lets)
   | (dsimp only))

theorem State.fanFollow_keeps {K : Nat} {s₀ s : State} (n : Fin 3) (hK : K &&& 6597069799552 = 0) (h : Keeps K s₀ s) :
    Keeps K s₀ (State.fanFollow s n) := by
  unfold State.fanFollow
  (try extract_lets)
  repeat' (first
   | (with_reducible assumption)
   | (with_reducible exact keeps_sub hK (by decide))
   | (with_reducible rfl)
   | (with_reducible refine Keeps.ite (fun _ => ?_) (fun _ => ?_))
   | (with_reducible apply State.fanTo_keeps)
   | (with_reducible apply State.fanSeqEnd_keeps)
   | (with_reducible refine Keeps.of_eq (by with_reducible assumption) ?_)
   | split
   | (extract_lets)
   | (dsimp only))

theorem State.fansFollow_keeps {K : Nat} {s₀ s : State} (hK : K &&& 6597069799552 = 0) (h : Keeps K s₀ s) :
    Keeps K s₀ (State.fansFollow s) := by
  unfold State.fansFollow
  (try extract_lets)
  repeat' (first
   | (with_reducible assumption)
   | (with_reducible exact keeps_sub hK (by decide))
   | (with_reducible rfl)
   | (with_reducible refine Keeps.ite (fun _ => ?_) (fun _ => ?_))
   | (with_reducible apply State.fanFollow_keeps)
   | (with_reducible refine Keeps.foldl _ _ (fun s x h => ?_) ?_)
   | (with_reducible refine Keeps.foldl_fst _ _ (fun s x h => ?_) ?_)
   | (with_reducible refine Keeps.of_eq (by with_reducible assumption) ?_)
   | split
   | (extract_lets)
   | (dsimp only))

theorem State.fanHold_keeps {K : Nat} {s₀ s : State} (n : Fin 3) (hK : K &&& 6597069799552 = 0) (h : Keeps K s₀ s) :
    Keeps K s₀ (State.fanHold s n) := by
  unfold State.fanHold
  (try extract_lets)
  repeat' (first
   | (with_reducible assumption)
   | (with_reducible exact keeps_sub hK (by decide))
   | (with_reducible rfl)
   | exact keeps_block hK 9 (by decide) (by decide)
   | exact keeps_block hK 9 (by simp only [Reg.DRIVE_FAN_STATUS]; omega) (by decide)
   | (with_reducible refine Keeps.ite (fun _ => ?_) (fun _ => ?_))
   | (with_reducible apply State.setFlag_keeps)
   | (with_reducible apply State.fanTo_keeps)
   | (with_reducible apply State.fanSeqEnd_keeps)
   | (with_reducible refine Keeps.of_eq (by with_reducible assumption) ?_)
   | split
   | (extract_lets)
   | (dsimp only))

theorem State.fansHold_keeps {K : Nat} {s₀ s : State} (hK : K &&& 6597069799552 = 0) (h : Keeps K s₀ s) :
    Keeps K s₀ (State.fansHold s) := by
  unfold State.fansHold
  (try extract_lets)
  repeat' (first
   | (with_reducible assumption)
   | (with_reducible exact keeps_sub hK (by decide))
   | (with_reducible rfl)
   | exact keeps_block hK 9 (by decide) (by decide)
   | exact keeps_block hK 9 (by simp only [Reg.DRIVE_FAN_STATUS]; omega) (by decide)
   | (with_reducible refine Keeps.ite (fun _ => ?_) (fun _ => ?_))
   | (with_reducible apply State.setFlag_keeps)
   | (with_reducible apply State.fanHold_keeps)
   | (with_reducible refine Keeps.foldl _ _ (fun s x h => ?_) ?_)
   | (with_reducible refine Keeps.foldl_fst _ _ (fun s x h => ?_) ?_)
   | (with_reducible refine Keeps.of_eq (by with_reducible assumption) ?_)
   | split
   | (extract_lets)
   | (dsimp only))

end Sys2Proof.Machine
end

