-- ==== Sys2Proof/Laws/KeepsActionOps.lean ====
section
/-! SUPPORT. What the operations and commands of Machine/ActionOps.lean leave unchanged: one lemma for each, its mask the parts it
may write. -/

set_option linter.all false

namespace Sys2Proof.Machine

theorem State.m0Actions_keeps {K : Nat} {s₀ s : State} (hK : K &&& 32768 = 0) (h : Keeps K s₀ s) :
    Keeps K s₀ (State.m0Actions s) := by
  unfold State.m0Actions
  (try extract_lets)
  repeat' (first
   | (with_reducible assumption)
   | (with_reducible exact keeps_sub hK (by decide))
   | (with_reducible rfl)
   | (with_reducible refine Keeps.ite (fun _ => ?_) (fun _ => ?_))
   | (with_reducible refine Keeps.of_eq (by with_reducible assumption) ?_)
   | split
   | (extract_lets)
   | (with_reducible apply Keeps.set_drive)
   | (dsimp only))

theorem State.applyActions_keeps {K : Nat} {s₀ s : State} (hK : K &&& 6597069799552 = 0) (h : Keeps K s₀ s) :
    Keeps K s₀ (State.applyActions s) := by
  unfold State.applyActions
  (try extract_lets)
  repeat' (first
   | (with_reducible assumption)
   | (with_reducible exact keeps_sub hK (by decide))
   | (with_reducible rfl)
   | (with_reducible refine Keeps.ite (fun _ => ?_) (fun _ => ?_))
   | (with_reducible apply State.m0Actions_keeps)
   | (with_reducible apply State.fansHold_keeps)
   | (with_reducible refine Keeps.of_eq (by with_reducible assumption) ?_)
   | split
   | (extract_lets)
   | (dsimp only))

end Sys2Proof.Machine
end

