-- ==== Sys2Proof/Laws/KeepsHedgeOps.lean ====
section
/-! SUPPORT. What the operations and commands of Machine/HedgeOps.lean leave unchanged: one lemma for each, its mask the parts it
may write. -/

set_option linter.all false

namespace Sys2Proof.Machine

theorem State.tripBuiltin_keeps {K : Nat} {s₀ s : State} (k : Nat) (p' : Time) (hK : K &&& 131200 = 0) (h : Keeps K s₀ s) :
    Keeps K s₀ (State.tripBuiltin s k p') := by
  unfold State.tripBuiltin
  (try extract_lets)
  repeat' (first
   | (with_reducible assumption)
   | (with_reducible exact keeps_sub hK (by decide))
   | (with_reducible rfl)
   | (with_reducible refine Keeps.ite (fun _ => ?_) (fun _ => ?_))
   | (with_reducible apply State.postAt_keeps)
   | (with_reducible refine Keeps.of_eq (by with_reducible assumption) ?_)
   | split
   | (extract_lets)
   | (with_reducible apply Keeps.set_hedge)
   | (dsimp only))

theorem State.clearRec_keeps {K : Nat} {s₀ s : State} (rule : Nat) (kind : Nat) (mask : BitVec 21) (trip : Time) (p' : Time) (hK : K &&& 128 = 0) (h : Keeps K s₀ s) :
    Keeps K s₀ (State.clearRec s rule kind mask trip p') := by
  unfold State.clearRec
  (try extract_lets)
  repeat' (first
   | (with_reducible assumption)
   | (with_reducible exact keeps_sub hK (by decide))
   | (with_reducible rfl)
   | (with_reducible refine Keeps.ite (fun _ => ?_) (fun _ => ?_))
   | (with_reducible apply State.postAt_keeps)
   | (with_reducible refine Keeps.of_eq (by with_reducible assumption) ?_)
   | split
   | (extract_lets)
   | (dsimp only))

theorem State.reportBuiltins_keeps {K : Nat} {s₀ s : State} (p' : Time) (hK : K &&& 131200 = 0) (h : Keeps K s₀ s) :
    Keeps K s₀ (State.reportBuiltins s p') := by
  unfold State.reportBuiltins
  (try extract_lets)
  repeat' (first
   | (with_reducible assumption)
   | (with_reducible exact keeps_sub hK (by decide))
   | (with_reducible rfl)
   | (with_reducible refine Keeps.ite (fun _ => ?_) (fun _ => ?_))
   | (with_reducible apply State.tripBuiltin_keeps)
   | (with_reducible apply State.clearRec_keeps)
   | (with_reducible refine Keeps.foldl_range _ _ (fun s x hx h => ?_) ?_)
   | (with_reducible refine Keeps.foldl _ _ (fun s x h => ?_) ?_)
   | (with_reducible refine Keeps.foldl_fst _ _ (fun s x h => ?_) ?_)
   | (with_reducible refine Keeps.of_eq (by with_reducible assumption) ?_)
   | split
   | (extract_lets)
   | (with_reducible apply Keeps.set_hedge)
   | (dsimp only))

theorem State.builtins_keeps {K : Nat} {s₀ s : State} (hK : K &&& 6597069930624 = 0) (h : Keeps K s₀ s) :
    Keeps K s₀ (State.builtins s) := by
  unfold State.builtins
  (try extract_lets)
  repeat' (first
   | (with_reducible assumption)
   | (with_reducible exact keeps_sub hK (by decide))
   | (with_reducible rfl)
   | (with_reducible refine Keeps.ite (fun _ => ?_) (fun _ => ?_))
   | (with_reducible apply State.reportBuiltins_keeps)
   | (with_reducible apply State.applyActions_keeps)
   | (with_reducible refine Keeps.of_eq (by with_reducible assumption) ?_)
   | split
   | (extract_lets)
   | (with_reducible apply Keeps.set_hedge)
   | (dsimp only))

theorem State.setNode_keeps {K : Nat} {s₀ s : State} (n : Nat) (b : Bool) (hK : K &&& 6597069930624 = 0) (h : Keeps K s₀ s) :
    Keeps K s₀ (State.setNode s n b) := by
  unfold State.setNode
  (try extract_lets)
  repeat' (first
   | (with_reducible assumption)
   | (with_reducible exact keeps_sub hK (by decide))
   | (with_reducible rfl)
   | (with_reducible refine Keeps.ite (fun _ => ?_) (fun _ => ?_))
   | (with_reducible apply State.builtins_keeps)
   | (with_reducible refine Keeps.of_eq (by with_reducible assumption) ?_)
   | split
   | (extract_lets)
   | (with_reducible apply Keeps.set_hedge)
   | (dsimp only))

theorem State.tripRule_keeps {K : Nat} {s₀ s : State} (n : Fin 32) (nodes : BitVec 128) (sheepdog : Bool) (p' : Time) (hK : K &&& 137439084672 = 0) (h : Keeps K s₀ s) :
    Keeps K s₀ (State.tripRule s n nodes sheepdog p') := by
  unfold State.tripRule
  (try extract_lets)
  repeat' (first
   | (with_reducible assumption)
   | (with_reducible exact keeps_sub hK (by decide))
   | (with_reducible rfl)
   | exact keeps_block hK 5 (by decide) (by decide)
   | exact keeps_block hK 5 (by simp only [Reg.HEDGE_RULE_TRIPS]; omega) (by decide)
   | (with_reducible refine Keeps.ite (fun _ => ?_) (fun _ => ?_))
   | (with_reducible apply State.postAt_keeps)
   | (with_reducible apply State.inc_keeps)
   | (with_reducible refine Keeps.of_eq (by with_reducible assumption) ?_)
   | split
   | (extract_lets)
   | (with_reducible apply Keeps.set_hedge)
   | (dsimp only))

theorem State.persistRec_keeps {K : Nat} {s₀ s : State} (n : Fin 32) (kind : Nat) (hK : K &&& 128 = 0) (h : Keeps K s₀ s) :
    Keeps K s₀ (State.persistRec s n kind) := by
  unfold State.persistRec
  (try extract_lets)
  repeat' (first
   | (with_reducible assumption)
   | (with_reducible exact keeps_sub hK (by decide))
   | (with_reducible rfl)
   | (with_reducible refine Keeps.ite (fun _ => ?_) (fun _ => ?_))
   | (with_reducible apply State.journal_keeps)
   | (with_reducible refine Keeps.of_eq (by with_reducible assumption) ?_)
   | split
   | (extract_lets)
   | (dsimp only))

theorem State.addCauses_keeps {K : Nat} {s₀ s : State} (nodes : BitVec 128) (cond : BitVec 32) (hK : K &&& 131072 = 0) (h : Keeps K s₀ s) :
    Keeps K s₀ (State.addCauses s nodes cond) := by
  unfold State.addCauses
  (try extract_lets)
  repeat' (first
   | (with_reducible assumption)
   | (with_reducible exact keeps_sub hK (by decide))
   | (with_reducible rfl)
   | (with_reducible refine Keeps.ite (fun _ => ?_) (fun _ => ?_))
   | (with_reducible refine Keeps.of_eq (by with_reducible assumption) ?_)
   | split
   | (extract_lets)
   | (with_reducible apply Keeps.set_hedge)
   | (dsimp only))

theorem State.reportRules_keeps {K : Nat} {s₀ s : State} (nodes : BitVec 128) (sheepdog : Bool) (fresh : BitVec 32) (p' : Time) (hK : K &&& 137439084672 = 0) (h : Keeps K s₀ s) :
    Keeps K s₀ (State.reportRules s nodes sheepdog fresh p') := by
  unfold State.reportRules
  (try extract_lets)
  repeat' (first
   | (with_reducible assumption)
   | (with_reducible exact keeps_sub hK (by decide))
   | (with_reducible rfl)
   | (with_reducible refine Keeps.ite (fun _ => ?_) (fun _ => ?_))
   | (with_reducible apply State.persistRec_keeps)
   | (with_reducible apply State.clearRec_keeps)
   | (with_reducible apply State.tripRule_keeps)
   | (with_reducible refine Keeps.foldl _ _ (fun s x h => ?_) ?_)
   | (with_reducible refine Keeps.foldl_fst _ _ (fun s x h => ?_) ?_)
   | (with_reducible refine Keeps.of_eq (by with_reducible assumption) ?_)
   | split
   | (extract_lets)
   | (with_reducible apply Keeps.set_hedge)
   | (dsimp only))

theorem State.postBist_keeps {K : Nat} {s₀ s : State} (kind : Nat) (code : Nat) (cls : Nat) (index : Nat) (detail : Nat) (hK : K &&& 128 = 0) (h : Keeps K s₀ s) :
    Keeps K s₀ (State.postBist s kind code cls index detail) := by
  unfold State.postBist
  (try extract_lets)
  repeat' (first
   | (with_reducible assumption)
   | (with_reducible exact keeps_sub hK (by decide))
   | (with_reducible rfl)
   | (with_reducible refine Keeps.ite (fun _ => ?_) (fun _ => ?_))
   | (with_reducible apply State.post_keeps)
   | (with_reducible refine Keeps.of_eq (by with_reducible assumption) ?_)
   | split
   | (extract_lets)
   | (dsimp only))

theorem State.recordFail_keeps {K : Nat} {s₀ s : State} (code : Nat) (cls : Nat) (index : Nat) (hK : K &&& 70368744177664 = 0) (h : Keeps K s₀ s) :
    Keeps K s₀ (State.recordFail s code cls index) := by
  unfold State.recordFail
  (try extract_lets)
  repeat' (first
   | (with_reducible assumption)
   | (with_reducible exact keeps_sub hK (by decide))
   | (with_reducible rfl)
   | exact keeps_block hK 14 (by decide) (by decide)
   | (with_reducible refine Keeps.ite (fun _ => ?_) (fun _ => ?_))
   | (with_reducible apply State.setReg_keeps)
   | (with_reducible apply State.setFlag_keeps)
   | (with_reducible refine Keeps.of_eq (by with_reducible assumption) ?_)
   | split
   | (extract_lets)
   | (dsimp only))

theorem State.elapsed_keeps {K : Nat} {s₀ s : State} (hK : K &&& 2 = 0) (h : Keeps K s₀ s) :
    Keeps K s₀ (State.elapsed s).1 := by
  unfold State.elapsed
  (try extract_lets)
  repeat' (first
   | (with_reducible assumption)
   | (with_reducible exact keeps_sub hK (by decide))
   | (with_reducible rfl)
   | (with_reducible refine Keeps.ite (fun _ => ?_) (fun _ => ?_))
   | (with_reducible apply State.draw_keeps)
   | (with_reducible refine Keeps.of_eq (by with_reducible assumption) ?_)
   | split
   | (extract_lets)
   | (dsimp only))

theorem State.enterStage_keeps {K : Nat} {s₀ s : State} (g : Stage) (hK : K &&& 146 = 0) (h : Keeps K s₀ s) :
    Keeps K s₀ (State.enterStage s g) := by
  unfold State.enterStage
  (try extract_lets)
  repeat' (first
   | (with_reducible assumption)
   | (with_reducible exact keeps_sub hK (by decide))
   | (with_reducible rfl)
   | (with_reducible refine Keeps.ite (fun _ => ?_) (fun _ => ?_))
   | (with_reducible apply State.elapsed_keeps)
   | (with_reducible apply State.postService_keeps)
   | (with_reducible refine Keeps.of_eq (by with_reducible assumption) ?_)
   | split
   | (extract_lets)
   | (with_reducible apply Keeps.set_dev)
   | (dsimp only))

theorem State.assertRstOut_keeps {K : Nat} {s₀ s : State} (hK : K &&& 16 = 0) (h : Keeps K s₀ s) :
    Keeps K s₀ (State.assertRstOut s) := by
  unfold State.assertRstOut
  (try extract_lets)
  repeat' (first
   | (with_reducible assumption)
   | (with_reducible exact keeps_sub hK (by decide))
   | (with_reducible rfl)
   | (with_reducible refine Keeps.ite (fun _ => ?_) (fun _ => ?_))
   | (with_reducible refine Keeps.of_eq (by with_reducible assumption) ?_)
   | split
   | (extract_lets)
   | (with_reducible apply Keeps.set_dev)
   | (dsimp only))

theorem State.enterSafe_keeps {K : Nat} {s₀ s : State} (hK : K &&& 70373039407250 = 0) (h : Keeps K s₀ s) :
    Keeps K s₀ (State.enterSafe s) := by
  unfold State.enterSafe
  (try extract_lets)
  repeat' (first
   | (with_reducible assumption)
   | (with_reducible exact keeps_sub hK (by decide))
   | (with_reducible rfl)
   | exact keeps_block hK 0 (by decide) (by decide)
   | exact keeps_block hK 14 (by decide) (by decide)
   | (with_reducible refine Keeps.ite (fun _ => ?_) (fun _ => ?_))
   | (with_reducible apply State.assertRstOut_keeps)
   | (with_reducible apply State.setFlag_keeps)
   | (with_reducible apply State.enterStage_keeps)
   | (with_reducible apply State.setFld_keeps)
   | (with_reducible refine Keeps.of_eq (by with_reducible assumption) ?_)
   | split
   | (extract_lets)
   | (with_reducible apply Keeps.set_bist)
   | (dsimp only))

theorem State.safeCheck_keeps {K : Nat} {s₀ s : State} (hK : K &&& 70373039407250 = 0) (h : Keeps K s₀ s) :
    Keeps K s₀ (State.safeCheck s) := by
  unfold State.safeCheck
  (try extract_lets)
  repeat' (first
   | (with_reducible assumption)
   | (with_reducible exact keeps_sub hK (by decide))
   | (with_reducible rfl)
   | (with_reducible refine Keeps.ite (fun _ => ?_) (fun _ => ?_))
   | (with_reducible apply State.enterSafe_keeps)
   | (with_reducible refine Keeps.of_eq (by with_reducible assumption) ?_)
   | split
   | (extract_lets)
   | (dsimp only))

theorem State.classS_keeps {K : Nat} {s₀ s : State} (code : Nat) (index : Nat) (detail : Nat) (hK : K &&& 94570886889626 = 0) (h : Keeps K s₀ s) :
    Keeps K s₀ (State.classS s code index detail) := by
  unfold State.classS
  (try extract_lets)
  repeat' (first
   | (with_reducible assumption)
   | (with_reducible exact keeps_sub hK (by decide))
   | (with_reducible rfl)
   | exact keeps_block hK 14 (by decide) (by decide)
   | (with_reducible refine Keeps.ite (fun _ => ?_) (fun _ => ?_))
   | (with_reducible apply State.setFlag_keeps)
   | (with_reducible apply State.postBist_keeps)
   | (with_reducible apply State.recordFail_keeps)
   | (with_reducible apply State.safeCheck_keeps)
   | (with_reducible apply State.abortEntry_keeps)
   | (with_reducible apply State.setNode_keeps)
   | (with_reducible refine Keeps.of_eq (by with_reducible assumption) ?_)
   | split
   | (extract_lets)
   | (with_reducible apply Keeps.set_bist)
   | (dsimp only))

theorem State.classD_keeps {K : Nat} {s₀ s : State} (code : Nat) (index : Nat) (detail : Nat) (hK : K &&& 70368744177792 = 0) (h : Keeps K s₀ s) :
    Keeps K s₀ (State.classD s code index detail) := by
  unfold State.classD
  (try extract_lets)
  repeat' (first
   | (with_reducible assumption)
   | (with_reducible exact keeps_sub hK (by decide))
   | (with_reducible rfl)
   | (with_reducible refine Keeps.ite (fun _ => ?_) (fun _ => ?_))
   | (with_reducible apply State.postBist_keeps)
   | (with_reducible apply State.recordFail_keeps)
   | (with_reducible refine Keeps.of_eq (by with_reducible assumption) ?_)
   | split
   | (extract_lets)
   | (dsimp only))

end Sys2Proof.Machine
end

