-- ==== Sys2Proof/Laws/KeepsOperands.lean ====
section
/-! SUPPORT. What the operations and commands of Machine/Operands.lean leave unchanged: one lemma for each, its mask the parts it
may write. -/

set_option linter.all false

namespace Sys2Proof.Machine

theorem State.structRead_keeps {K : Nat} {s₀ s : State} (r : Req) (op total : Nat) (b : BufBlock) (bytes : State → List Byte) (hK : K &&& 26388282212616 = 0) (h : Keeps K s₀ s) :
    Keeps K s₀ ((State.structRead s r op total b bytes)) :=
  State.command_keeps _ _ _ _ (fun _ h => h) (keeps_sub hK (by decide)) h

end Sys2Proof.Machine
end

