-- ==== Sys2Proof/Laws/KeepsSeqOps.lean ====
section
/-! SUPPORT. What the operations and commands of Machine/SeqOps.lean leave unchanged: one lemma for each, its mask the parts it
may write. -/

set_option linter.all false

namespace Sys2Proof.Machine

theorem State.postHerd_keeps {K : Nat} {s₀ s : State} (kind : Nat) (reason : Nat) (width : Nat) (hK : K &&& 128 = 0) (h : Keeps K s₀ s) :
    Keeps K s₀ (State.postHerd s kind reason width) := by
  unfold State.postHerd
  (try extract_lets)
  repeat' (first
   | (with_reducible assumption)
   | (with_reducible exact keeps_sub hK (by decide))
   | (with_reducible rfl)
   | (with_reducible refine Keeps.ite (fun _ => ?_) (fun _ => ?_))
   | (with_reducible apply State.post_keeps)
   | (with_reducible refine Keeps.of_eq (by with_reducible assumption) ?_)
   | split
   | (extract_lets)
   | (dsimp only))

theorem State.herdAbort_keeps {K : Nat} {s₀ s : State} (reason : Nat) (hK : K &&& 274877911168 = 0) (h : Keeps K s₀ s) :
    Keeps K s₀ (State.herdAbort s reason) := by
  unfold State.herdAbort
  (try extract_lets)
  repeat' (first
   | (with_reducible assumption)
   | (with_reducible exact keeps_sub hK (by decide))
   | (with_reducible rfl)
   | exact keeps_block hK 6 (by decide) (by decide)
   | (with_reducible refine Keeps.ite (fun _ => ?_) (fun _ => ?_))
   | (with_reducible apply State.postHerd_keeps)
   | (with_reducible apply State.setReg_keeps)
   | (with_reducible refine Keeps.of_eq (by with_reducible assumption) ?_)
   | split
   | (extract_lets)
   | (with_reducible apply Keeps.set_herd)
   | (dsimp only))

theorem State.herdLow_keeps {K : Nat} {s₀ s : State} (w : Nat) (hK : K &&& 4096 = 0) (h : Keeps K s₀ s) :
    Keeps K s₀ (State.herdLow s w) := by
  unfold State.herdLow
  (try extract_lets)
  repeat' (first
   | (with_reducible assumption)
   | (with_reducible exact keeps_sub hK (by decide))
   | (with_reducible rfl)
   | (with_reducible refine Keeps.ite (fun _ => ?_) (fun _ => ?_))
   | (with_reducible refine Keeps.of_eq (by with_reducible assumption) ?_)
   | split
   | (extract_lets)
   | (with_reducible apply Keeps.set_herd)
   | (dsimp only))

theorem State.herdAlarm_keeps {K : Nat} {s₀ s : State} (b : Nat) (hK : K &&& 4096 = 0) (h : Keeps K s₀ s) :
    Keeps K s₀ (State.herdAlarm s b) := by
  unfold State.herdAlarm
  (try extract_lets)
  repeat' (first
   | (with_reducible assumption)
   | (with_reducible exact keeps_sub hK (by decide))
   | (with_reducible rfl)
   | (with_reducible refine Keeps.ite (fun _ => ?_) (fun _ => ?_))
   | (with_reducible apply State.herdLow_keeps)
   | (with_reducible refine Keeps.of_eq (by with_reducible assumption) ?_)
   | split
   | (extract_lets)
   | (with_reducible apply Keeps.set_herd)
   | (dsimp only))

theorem State.cutAlarm_keeps {K : Nat} {s₀ s : State} (hK : K &&& 4096 = 0) (h : Keeps K s₀ s) :
    Keeps K s₀ (State.cutAlarm s) := by
  unfold State.cutAlarm
  (try extract_lets)
  repeat' (first
   | (with_reducible assumption)
   | (with_reducible exact keeps_sub hK (by decide))
   | (with_reducible rfl)
   | (with_reducible refine Keeps.ite (fun _ => ?_) (fun _ => ?_))
   | (with_reducible apply State.herdAlarm_keeps)
   | (with_reducible refine Keeps.of_eq (by with_reducible assumption) ?_)
   | split
   | (extract_lets)
   | (with_reducible apply Keeps.set_herd)
   | (dsimp only))

theorem State.cntChanged_keeps {K : Nat} {s₀ s : State} (hK : K &&& 549755813888 = 0) (h : Keeps K s₀ s) :
    Keeps K s₀ (State.cntChanged s) := by
  unfold State.cntChanged
  (try extract_lets)
  repeat' (first
   | (with_reducible assumption)
   | (with_reducible exact keeps_sub hK (by decide))
   | (with_reducible rfl)
   | exact keeps_block hK 7 (by decide) (by decide)
   | (with_reducible refine Keeps.ite (fun _ => ?_) (fun _ => ?_))
   | (with_reducible apply State.setFlag_keeps)
   | (with_reducible refine Keeps.of_eq (by with_reducible assumption) ?_)
   | split
   | (extract_lets)
   | (dsimp only))

theorem State.railCnt_keeps {K : Nat} {s₀ s : State} (a hi lo : Nat) (hb : K.testBit (32 + a / 4096 % 16) = false)
    (hK : K &&& 549755813888 = 0) (h : Keeps K s₀ s) : Keeps K s₀ (State.railCnt s a hi lo) :=
  State.cntChanged_keeps (keeps_sub hK (by decide)) (State.inc_keeps _ _ hb h)

theorem State.snapshot_keeps {K : Nat} {s₀ s : State} (c : Nat) (hK : K &&& 549755822208 = 0) (h : Keeps K s₀ s) :
    Keeps K s₀ (State.snapshot s c) := by
  unfold State.snapshot
  (try extract_lets)
  repeat' (first
   | (with_reducible assumption)
   | (with_reducible exact keeps_sub hK (by decide))
   | (with_reducible rfl)
   | exact keeps_block hK 7 (by decide) (by decide)
   | (with_reducible refine Keeps.ite (fun _ => ?_) (fun _ => ?_))
   | (with_reducible apply State.setFlag_keeps)
   | (with_reducible apply State.journal_keeps)
   | (with_reducible refine Keeps.foldl_range _ _ (fun s x hx h => ?_) ?_)
   | (with_reducible refine Keeps.foldl _ _ (fun s x h => ?_) ?_)
   | (with_reducible refine Keeps.foldl_fst _ _ (fun s x h => ?_) ?_)
   | (with_reducible refine Keeps.of_eq (by with_reducible assumption) ?_)
   | split
   | (extract_lets)
   | (with_reducible apply Keeps.set_sup)
   | (dsimp only))

theorem State.postRail_keeps {K : Nat} {s₀ s : State} (n : Fin 24) (src : RailState) (cause : Nat) (aborted : Bool) (us : Nat) (hK : K &&& 128 = 0) (h : Keeps K s₀ s) :
    Keeps K s₀ (State.postRail s n src cause aborted us) := by
  unfold State.postRail
  (try extract_lets)
  repeat' (first
   | (with_reducible assumption)
   | (with_reducible exact keeps_sub hK (by decide))
   | (with_reducible rfl)
   | (with_reducible refine Keeps.ite (fun _ => ?_) (fun _ => ?_))
   | (with_reducible apply State.post_keeps)
   | (with_reducible refine Keeps.of_eq (by with_reducible assumption) ?_)
   | split
   | (extract_lets)
   | (dsimp only))

theorem State.endWarning_keeps {K : Nat} {s₀ s : State} (n : Fin 24) (ov : Bool) (hK : K &&& 549755814016 = 0) (h : Keeps K s₀ s) :
    Keeps K s₀ (State.endWarning s n ov) := by
  unfold State.endWarning
  (try extract_lets)
  repeat' (first
   | (with_reducible assumption)
   | (with_reducible exact keeps_sub hK (by decide))
   | (with_reducible rfl)
   | exact keeps_block hK 7 (by decide) (by decide)
   | exact keeps_block hK 7 (by simp only [Reg.SUP_RAIL_VALUE]; omega) (by decide)
   | (with_reducible refine Keeps.ite (fun _ => ?_) (fun _ => ?_))
   | (with_reducible apply State.post_keeps)
   | (with_reducible apply State.setFlag_keeps)
   | (with_reducible refine Keeps.of_eq (by with_reducible assumption) ?_)
   | split
   | (extract_lets)
   | (dsimp only))

theorem State.setRail_keeps {K : Nat} {s₀ s : State} (n : Fin 24) (dst : RailState) (cause : Nat) (aborted : Bool) (hK : K &&& 824633723008 = 0) (h : Keeps K s₀ s) :
    Keeps K s₀ (State.setRail s n dst cause aborted) := by
  unfold State.setRail
  (try extract_lets)
  repeat' (first
   | (with_reducible assumption)
   | (with_reducible exact keeps_sub hK (by decide))
   | (with_reducible rfl)
   | exact keeps_block hK 6 (by decide) (by decide)
   | exact keeps_block hK 7 (by decide) (by decide)
   | exact keeps_block hK 6 (by simp only [Reg.SEQ_RAIL_MEAS]; omega) (by decide)
   | exact keeps_block hK 7 (by simp only [Reg.SUP_ON_CYCLES]; omega) (by decide)
   | (with_reducible refine Keeps.ite (fun _ => ?_) (fun _ => ?_))
   | (with_reducible apply State.setFld_keeps)
   | (with_reducible apply State.railCnt_keeps)
   | (with_reducible apply State.postRail_keeps)
   | (with_reducible apply State.endWarning_keeps)
   | (with_reducible refine Keeps.of_eq (by with_reducible assumption) ?_)
   | split
   | (extract_lets)
   | (with_reducible apply Keeps.set_seq)
   | (dsimp only))

theorem State.setRails_keeps {K : Nat} {s₀ s : State} (m : BitVec 24) (dst : RailState) (cause : Nat) (aborted : Bool) (hK : K &&& 824633723008 = 0) (h : Keeps K s₀ s) :
    Keeps K s₀ (State.setRails s m dst cause aborted) := by
  unfold State.setRails
  (try extract_lets)
  repeat' (first
   | (with_reducible assumption)
   | (with_reducible exact keeps_sub hK (by decide))
   | (with_reducible rfl)
   | (with_reducible refine Keeps.ite (fun _ => ?_) (fun _ => ?_))
   | (with_reducible apply State.setRail_keeps)
   | (with_reducible refine Keeps.foldl _ _ (fun s x h => ?_) ?_)
   | (with_reducible refine Keeps.foldl_fst _ _ (fun s x h => ?_) ?_)
   | (with_reducible refine Keeps.of_eq (by with_reducible assumption) ?_)
   | split
   | (extract_lets)
   | (dsimp only))

theorem State.postSeqDoneOf_keeps {K : Nat} {s₀ s : State} (kind : Nat) (groups : BitVec 8) (start : Time) (timeouts : Nat) (hK : K &&& 128 = 0) (h : Keeps K s₀ s) :
    Keeps K s₀ (State.postSeqDoneOf s kind groups start timeouts) := by
  unfold State.postSeqDoneOf
  (try extract_lets)
  repeat' (first
   | (with_reducible assumption)
   | (with_reducible exact keeps_sub hK (by decide))
   | (with_reducible rfl)
   | (with_reducible refine Keeps.ite (fun _ => ?_) (fun _ => ?_))
   | (with_reducible apply State.post_keeps)
   | (with_reducible refine Keeps.of_eq (by with_reducible assumption) ?_)
   | split
   | (extract_lets)
   | (dsimp only))

theorem State.postSeqDone_keeps {K : Nat} {s₀ s : State} (kind : Nat) (groups : BitVec 8) (hK : K &&& 128 = 0) (h : Keeps K s₀ s) :
    Keeps K s₀ (State.postSeqDone s kind groups) := by
  unfold State.postSeqDone
  (try extract_lets)
  repeat' (first
   | (with_reducible assumption)
   | (with_reducible exact keeps_sub hK (by decide))
   | (with_reducible rfl)
   | (with_reducible refine Keeps.ite (fun _ => ?_) (fun _ => ?_))
   | (with_reducible apply State.postSeqDoneOf_keeps)
   | (with_reducible refine Keeps.of_eq (by with_reducible assumption) ?_)
   | split
   | (extract_lets)
   | (dsimp only))

theorem State.abortOns_keeps {K : Nat} {s₀ s : State} (g : BitVec 8) (byFail : Bool) (hK : K &&& 26388282214664 = 0) (h : Keeps K s₀ s) :
    Keeps K s₀ (State.abortOns s g byFail) := by
  unfold State.abortOns
  (try extract_lets)
  repeat' (first
   | (with_reducible assumption)
   | (with_reducible exact keeps_sub hK (by decide))
   | (with_reducible rfl)
   | (with_reducible refine Keeps.ite (fun _ => ?_) (fun _ => ?_))
   | (with_reducible apply State.complete_keeps)
   | (with_reducible refine Keeps.foldl _ _ (fun s x h => ?_) ?_)
   | (with_reducible refine Keeps.foldl_fst _ _ (fun s x h => ?_) ?_)
   | (with_reducible refine Keeps.of_eq (by with_reducible assumption) ?_)
   | split
   | (extract_lets)
   | (with_reducible apply Keeps.set_seq)
   | (dsimp only))

theorem State.finishOffs_keeps {K : Nat} {s₀ s : State} (herd : Bool) (loc : Bool) (hK : K &&& 26388282214664 = 0) (h : Keeps K s₀ s) :
    Keeps K s₀ (State.finishOffs s herd loc) := by
  unfold State.finishOffs
  (try extract_lets)
  repeat' (first
   | (with_reducible assumption)
   | (with_reducible exact keeps_sub hK (by decide))
   | (with_reducible rfl)
   | (with_reducible refine Keeps.ite (fun _ => ?_) (fun _ => ?_))
   | (with_reducible apply State.complete_keeps)
   | (with_reducible refine Keeps.foldl _ _ (fun s x h => ?_) ?_)
   | (with_reducible refine Keeps.foldl_fst _ _ (fun s x h => ?_) ?_)
   | (with_reducible refine Keeps.of_eq (by with_reducible assumption) ?_)
   | split
   | (extract_lets)
   | (with_reducible apply Keeps.set_seq)
   | (dsimp only))

theorem State.enterShutdown_keeps {K : Nat} {s₀ s : State} (st : SeqState) (byFail : Bool) (hK : K &&& 26388282218760 = 0) (h : Keeps K s₀ s) :
    Keeps K s₀ (State.enterShutdown s st byFail) := by
  unfold State.enterShutdown
  (try extract_lets)
  repeat' (first
   | (with_reducible assumption)
   | (with_reducible exact keeps_sub hK (by decide))
   | (with_reducible rfl)
   | (with_reducible refine Keeps.ite (fun _ => ?_) (fun _ => ?_))
   | (with_reducible apply State.abortOns_keeps)
   | (with_reducible refine Keeps.of_eq (by with_reducible assumption) ?_)
   | split
   | (extract_lets)
   | (with_reducible apply Keeps.set_seq_herd)
   | (dsimp only))

theorem State.cutRails_keeps {K : Nat} {s₀ s : State} (cause : Nat) (hK : K &&& 824633723008 = 0) (h : Keeps K s₀ s) :
    Keeps K s₀ (State.cutRails s cause) := by
  unfold State.cutRails
  (try extract_lets)
  repeat' (first
   | (with_reducible assumption)
   | (with_reducible exact keeps_sub hK (by decide))
   | (with_reducible rfl)
   | (with_reducible refine Keeps.ite (fun _ => ?_) (fun _ => ?_))
   | (with_reducible apply State.setRails_keeps)
   | (with_reducible refine Keeps.of_eq (by with_reducible assumption) ?_)
   | split
   | (extract_lets)
   | (dsimp only))

theorem State.journalFail_keeps {K : Nat} {s₀ s : State} (target : BitVec 8) (reason : Nat) (hK : K &&& 128 = 0) (h : Keeps K s₀ s) :
    Keeps K s₀ (State.journalFail s target reason) := by
  unfold State.journalFail
  (try extract_lets)
  repeat' (first
   | (with_reducible assumption)
   | (with_reducible exact keeps_sub hK (by decide))
   | (with_reducible rfl)
   | (with_reducible refine Keeps.ite (fun _ => ?_) (fun _ => ?_))
   | (with_reducible apply State.journal_keeps)
   | (with_reducible refine Keeps.of_eq (by with_reducible assumption) ?_)
   | split
   | (extract_lets)
   | (dsimp only))

theorem State.latchFail_keeps {K : Nat} {s₀ s : State} (rail : Nat) (kind : Nat) (hK : K &&& 274877906944 = 0) (h : Keeps K s₀ s) :
    Keeps K s₀ (State.latchFail s rail kind) := by
  unfold State.latchFail
  (try extract_lets)
  repeat' (first
   | (with_reducible assumption)
   | (with_reducible exact keeps_sub hK (by decide))
   | (with_reducible rfl)
   | exact keeps_block hK 6 (by decide) (by decide)
   | (with_reducible refine Keeps.ite (fun _ => ?_) (fun _ => ?_))
   | (with_reducible apply State.setReg_keeps)
   | (with_reducible refine Keeps.of_eq (by with_reducible assumption) ?_)
   | split
   | (extract_lets)
   | (dsimp only))

theorem State.startFailure_keeps {K : Nat} {s₀ s : State} (m : BitVec 24) (timed : BitVec 24) (hK : K &&& 27212915939720 = 0) (h : Keeps K s₀ s) :
    Keeps K s₀ (State.startFailure s m timed) := by
  unfold State.startFailure
  (try extract_lets)
  repeat' (first
   | (with_reducible assumption)
   | (with_reducible exact keeps_sub hK (by decide))
   | (with_reducible rfl)
   | exact keeps_block hK 7 (by decide) (by decide)
   | exact keeps_block hK 7 (by simp only [Reg.SUP_RAIL_CNT_S]; omega) (by decide)
   | (with_reducible refine Keeps.ite (fun _ => ?_) (fun _ => ?_))
   | (with_reducible apply State.enterShutdown_keeps)
   | (with_reducible apply State.setRail_keeps)
   | (with_reducible apply State.railCnt_keeps)
   | (with_reducible apply State.herdAbort_keeps)
   | (with_reducible apply State.latchFail_keeps)
   | (with_reducible apply State.journalFail_keeps)
   | (with_reducible refine Keeps.foldl _ _ (fun s x h => ?_) ?_)
   | (with_reducible refine Keeps.foldl_fst _ _ (fun s x h => ?_) ?_)
   | (with_reducible refine Keeps.of_eq (by with_reducible assumption) ?_)
   | split
   | (extract_lets)
   | (dsimp only))

end Sys2Proof.Machine
end

