-- ==== Sys2Proof/Laws/KeepsBatteryOps.lean ====
section
/-! SUPPORT. What the operations and commands of Machine/BatteryOps.lean leave unchanged: one lemma for each, its mask the parts it
may write. -/

set_option linter.all false

namespace Sys2Proof.Machine

theorem State.setBatt_keeps {K : Nat} {s₀ s : State} (b : Batt) (hK : K &&& 16384 = 0) (h : Keeps K s₀ s) :
    Keeps K s₀ (State.setBatt s b) := by
  unfold State.setBatt
  (try extract_lets)
  repeat' (first
   | (with_reducible assumption)
   | (with_reducible exact keeps_sub hK (by decide))
   | (with_reducible rfl)
   | (with_reducible refine Keeps.ite (fun _ => ?_) (fun _ => ?_))
   | (with_reducible refine Keeps.of_eq (by with_reducible assumption) ?_)
   | split
   | (extract_lets)
   | (with_reducible apply Keeps.set_batt)
   | (dsimp only))

theorem State.postBatt_keeps {K : Nat} {s₀ s : State} (kind : Nat) (detail : Nat) (a : Int) (b : Int) (hK : K &&& 128 = 0) (h : Keeps K s₀ s) :
    Keeps K s₀ (State.postBatt s kind detail a b) := by
  unfold State.postBatt
  (try extract_lets)
  repeat' (first
   | (with_reducible assumption)
   | (with_reducible exact keeps_sub hK (by decide))
   | (with_reducible rfl)
   | (with_reducible refine Keeps.ite (fun _ => ?_) (fun _ => ?_))
   | (with_reducible apply State.post_keeps)
   | (with_reducible refine Keeps.of_eq (by with_reducible assumption) ?_)
   | split
   | (extract_lets)
   | (dsimp only))

theorem State.battAlarm_keeps {K : Nat} {s₀ s : State} (hK : K &&& 7696581558400 = 0) (h : Keeps K s₀ s) :
    Keeps K s₀ (State.battAlarm s) := by
  unfold State.battAlarm
  (try extract_lets)
  repeat' (first
   | (with_reducible assumption)
   | (with_reducible exact keeps_sub hK (by decide))
   | (with_reducible rfl)
   | exact keeps_block hK 8 (by decide) (by decide)
   | (with_reducible refine Keeps.ite (fun _ => ?_) (fun _ => ?_))
   | (with_reducible apply State.setFlag_keeps)
   | (with_reducible apply State.setNode_keeps)
   | (with_reducible refine Keeps.of_eq (by with_reducible assumption) ?_)
   | split
   | (extract_lets)
   | (dsimp only))

theorem State.battWake_keeps {K : Nat} {s₀ s : State} (letter : Nat) (hK : K &&& 17605072783498 = 0) (h : Keeps K s₀ s) :
    Keeps K s₀ (State.battWake s letter) := by
  unfold State.battWake
  (try extract_lets)
  repeat' (first
   | (with_reducible assumption)
   | (with_reducible exact keeps_sub hK (by decide))
   | (with_reducible rfl)
   | (with_reducible refine Keeps.ite (fun _ => ?_) (fun _ => ?_))
   | (with_reducible apply State.roundFrac_keeps)
   | (with_reducible apply State.postBatt_keeps)
   | (with_reducible apply State.wakeDetect_keeps)
   | (with_reducible refine Keeps.of_eq (by with_reducible assumption) ?_)
   | split
   | (extract_lets)
   | (dsimp only))

theorem State.protSet_keeps {K : Nat} {s₀ s : State} (f : Nat) (a : Int) (b : Int) (hK : K &&& 25301654341770 = 0) (h : Keeps K s₀ s) :
    Keeps K s₀ (State.protSet s f a b) := by
  unfold State.protSet
  (try extract_lets)
  repeat' (first
   | (with_reducible assumption)
   | (with_reducible exact keeps_sub hK (by decide))
   | (with_reducible rfl)
   | exact keeps_block hK 8 (by decide) (by decide)
   | (with_reducible refine Keeps.ite (fun _ => ?_) (fun _ => ?_))
   | (with_reducible apply State.setFlag_keeps)
   | (with_reducible apply State.postBatt_keeps)
   | (with_reducible apply State.inc_keeps)
   | (with_reducible apply State.battWake_keeps)
   | (with_reducible apply State.battAlarm_keeps)
   | (with_reducible refine Keeps.of_eq (by with_reducible assumption) ?_)
   | split
   | (extract_lets)
   | (dsimp only))

theorem State.protClear_keeps {K : Nat} {s₀ s : State} (m : Nat) (a : Int) (hK : K &&& 7696581558400 = 0) (h : Keeps K s₀ s) :
    Keeps K s₀ (State.protClear s m a) := by
  unfold State.protClear
  (try extract_lets)
  repeat' (first
   | (with_reducible assumption)
   | (with_reducible exact keeps_sub hK (by decide))
   | (with_reducible rfl)
   | exact keeps_block hK 8 (by decide) (by decide)
   | (with_reducible refine Keeps.ite (fun _ => ?_) (fun _ => ?_))
   | (with_reducible apply State.setFld_keeps)
   | (with_reducible apply State.postBatt_keeps)
   | (with_reducible apply State.battAlarm_keeps)
   | (with_reducible refine Keeps.of_eq (by with_reducible assumption) ?_)
   | split
   | (extract_lets)
   | (dsimp only))

theorem State.trip_keeps {K : Nat} {s₀ s : State} (f : Nat) (uv : Nat) (hK : K &&& 25301654358154 = 0) (h : Keeps K s₀ s) :
    Keeps K s₀ (State.trip s f uv) := by
  unfold State.trip
  (try extract_lets)
  repeat' (first
   | (with_reducible assumption)
   | (with_reducible exact keeps_sub hK (by decide))
   | (with_reducible rfl)
   | exact keeps_block hK 8 (by decide) (by decide)
   | (with_reducible refine Keeps.ite (fun _ => ?_) (fun _ => ?_))
   | (with_reducible apply State.setFlag_keeps)
   | (with_reducible apply State.draw_keeps)
   | (with_reducible apply State.roundFrac_keeps)
   | (with_reducible apply State.setBatt_keeps)
   | (with_reducible apply State.protSet_keeps)
   | (with_reducible refine Keeps.of_eq (by with_reducible assumption) ?_)
   | split
   | (extract_lets)
   | (dsimp only))

theorem State.clearTrips_keeps {K : Nat} {s₀ s : State} (a : Int) (hK : K &&& 7696581574784 = 0) (h : Keeps K s₀ s) :
    Keeps K s₀ (State.clearTrips s a) := by
  unfold State.clearTrips
  (try extract_lets)
  repeat' (first
   | (with_reducible assumption)
   | (with_reducible exact keeps_sub hK (by decide))
   | (with_reducible rfl)
   | exact keeps_block hK 8 (by decide) (by decide)
   | (with_reducible refine Keeps.ite (fun _ => ?_) (fun _ => ?_))
   | (with_reducible apply State.setFlag_keeps)
   | (with_reducible apply State.protClear_keeps)
   | (with_reducible apply State.setBatt_keeps)
   | (with_reducible refine Keeps.of_eq (by with_reducible assumption) ?_)
   | split
   | (extract_lets)
   | (dsimp only))

theorem State.fetFault_keeps {K : Nat} {s₀ s : State} (k : FetFault) (hK : K &&& 7696581558400 = 0) (h : Keeps K s₀ s) :
    Keeps K s₀ (State.fetFault s k) := by
  unfold State.fetFault
  (try extract_lets)
  repeat' (first
   | (with_reducible assumption)
   | (with_reducible exact keeps_sub hK (by decide))
   | (with_reducible rfl)
   | exact keeps_block hK 8 (by decide) (by decide)
   | (with_reducible refine Keeps.ite (fun _ => ?_) (fun _ => ?_))
   | (with_reducible apply State.setFlag_keeps)
   | (with_reducible apply State.postBatt_keeps)
   | (with_reducible apply State.setNode_keeps)
   | (with_reducible refine Keeps.of_eq (by with_reducible assumption) ?_)
   | split
   | (extract_lets)
   | (dsimp only))

theorem State.count_keeps {K : Nat} {s₀ s : State} (q : ChgQ) (hK : K &&& 16384 = 0) (h : Keeps K s₀ s) :
    Keeps K s₀ (State.count s q) := by
  unfold State.count
  (try extract_lets)
  repeat' (first
   | (with_reducible assumption)
   | (with_reducible exact keeps_sub hK (by decide))
   | (with_reducible rfl)
   | (with_reducible refine Keeps.ite (fun _ => ?_) (fun _ => ?_))
   | (with_reducible apply State.setBatt_keeps)
   | (with_reducible refine Keeps.of_eq (by with_reducible assumption) ?_)
   | split
   | (extract_lets)
   | (dsimp only))

theorem State.showSoc_keeps {K : Nat} {s₀ s : State} (hK : K &&& 1099511627778 = 0) (h : Keeps K s₀ s) :
    Keeps K s₀ (State.showSoc s) := by
  unfold State.showSoc
  (try extract_lets)
  repeat' (first
   | (with_reducible assumption)
   | (with_reducible exact keeps_sub hK (by decide))
   | (with_reducible rfl)
   | exact keeps_block hK 8 (by decide) (by decide)
   | (with_reducible refine Keeps.ite (fun _ => ?_) (fun _ => ?_))
   | (with_reducible apply State.roundFrac_keeps)
   | (with_reducible apply State.setFld_keeps)
   | (with_reducible refine Keeps.of_eq (by with_reducible assumption) ?_)
   | split
   | (extract_lets)
   | (dsimp only))

theorem State.setSoc_keeps {K : Nat} {s₀ s : State} (soc : Nat) (hK : K &&& 1099511644160 = 0) (h : Keeps K s₀ s) :
    Keeps K s₀ (State.setSoc s soc) := by
  unfold State.setSoc
  (try extract_lets)
  repeat' (first
   | (with_reducible assumption)
   | (with_reducible exact keeps_sub hK (by decide))
   | (with_reducible rfl)
   | exact keeps_block hK 8 (by decide) (by decide)
   | (with_reducible refine Keeps.ite (fun _ => ?_) (fun _ => ?_))
   | (with_reducible apply State.setFld_keeps)
   | (with_reducible apply State.setBatt_keeps)
   | (with_reducible refine Keeps.of_eq (by with_reducible assumption) ?_)
   | split
   | (extract_lets)
   | (dsimp only))

theorem State.setFcc_keeps {K : Nat} {s₀ s : State} (fcc : Nat) (hK : K &&& 1099511644162 = 0) (h : Keeps K s₀ s) :
    Keeps K s₀ (State.setFcc s fcc) := by
  unfold State.setFcc
  (try extract_lets)
  repeat' (first
   | (with_reducible assumption)
   | (with_reducible exact keeps_sub hK (by decide))
   | (with_reducible rfl)
   | exact keeps_block hK 8 (by decide) (by decide)
   | (with_reducible refine Keeps.ite (fun _ => ?_) (fun _ => ?_))
   | (with_reducible apply State.roundFrac_keeps)
   | (with_reducible apply State.setFld_keeps)
   | (with_reducible apply State.setSoc_keeps)
   | (with_reducible refine Keeps.of_eq (by with_reducible assumption) ?_)
   | split
   | (extract_lets)
   | (dsimp only))

theorem State.showRest_keeps {K : Nat} {s₀ s : State}  (hK : K &&& 1099511627778 = 0) (h : Keeps K s₀ s) :
    Keeps K s₀ ((State.showRest s)) := by
  have hb : K.testBit (32 + Reg.BATT_TTE / 4096 % 16) = false := keeps_block hK 8 (by decide) (by decide)
  have hf : K &&& 2 = 0 := keeps_sub hK (by decide)
  have key : ∀ (t : State) (a b : Nat) (c i : Int), Keeps K s₀ t → Keeps K s₀ (if 500 * i ≤ (a : Int) * 1000000 then t.setFld Reg.BATT_TTE 15 0 b
    else (match t.roundFrac c i with | (u, v) => u.setFld Reg.BATT_TTE 15 0 (min v.toNat 0xFFFE)) : State) := by
    intro t a b c i ht
    split
    · exact State.setFld_keeps _ _ _ hb ht
    · exact State.setFld_keeps _ _ _ hb (State.roundFrac_keeps _ _ hf ht)
  exact key _ _ _ _ _ (State.setFld_keeps _ _ _ (keeps_block hK 8 (by decide) (by decide)) h)

theorem State.applyWindow_keeps {K : Nat} {s₀ s : State} (hK : K &&& 1099511644162 = 0) (h : Keeps K s₀ s) :
    Keeps K s₀ (State.applyWindow s) := by
  unfold State.applyWindow
  (try extract_lets)
  repeat' (first
   | (with_reducible assumption)
   | (with_reducible exact keeps_sub hK (by decide))
   | (with_reducible rfl)
   | exact keeps_block hK 8 (by decide) (by decide)
   | (with_reducible refine Keeps.ite (fun _ => ?_) (fun _ => ?_))
   | (with_reducible apply State.setReg_keeps)
   | (with_reducible apply State.showSoc_keeps)
   | (with_reducible apply State.incBy_keeps)
   | (with_reducible apply State.setBatt_keeps)
   | (with_reducible refine Keeps.of_eq (by with_reducible assumption) ?_)
   | split
   | (extract_lets)
   | (dsimp only))

theorem State.gaugeSnap_keeps {K : Nat} {s₀ s : State} (hK : K &&& 16512 = 0) (h : Keeps K s₀ s) :
    Keeps K s₀ (State.gaugeSnap s) := by
  unfold State.gaugeSnap
  (try extract_lets)
  repeat' (first
   | (with_reducible assumption)
   | (with_reducible exact keeps_sub hK (by decide))
   | (with_reducible rfl)
   | (with_reducible refine Keeps.ite (fun _ => ?_) (fun _ => ?_))
   | (with_reducible apply State.journal_keeps)
   | (with_reducible apply State.setBatt_keeps)
   | (with_reducible refine Keeps.of_eq (by with_reducible assumption) ?_)
   | split
   | (extract_lets)
   | (dsimp only))

theorem State.gaugeWritten_keeps {K : Nat} {s₀ s : State} (hK : K &&& 26388282229000 = 0) (h : Keeps K s₀ s) :
    Keeps K s₀ (State.gaugeWritten s) := by
  unfold State.gaugeWritten
  (try extract_lets)
  repeat' (first
   | (with_reducible assumption)
   | (with_reducible exact keeps_sub hK (by decide))
   | (with_reducible rfl)
   | (with_reducible refine Keeps.ite (fun _ => ?_) (fun _ => ?_))
   | (with_reducible apply State.complete_keeps)
   | (with_reducible apply State.setBatt_keeps)
   | (with_reducible refine Keeps.foldl _ _ (fun s x h => ?_) ?_)
   | (with_reducible refine Keeps.foldl_fst _ _ (fun s x h => ?_) ?_)
   | (with_reducible refine Keeps.of_eq (by with_reducible assumption) ?_)
   | split
   | (extract_lets)
   | (dsimp only))

theorem State.setEstimated_keeps {K : Nat} {s₀ s : State} (detail : Nat) (hK : K &&& 1099511644288 = 0) (h : Keeps K s₀ s) :
    Keeps K s₀ (State.setEstimated s detail) := by
  unfold State.setEstimated
  (try extract_lets)
  repeat' (first
   | (with_reducible assumption)
   | (with_reducible exact keeps_sub hK (by decide))
   | (with_reducible rfl)
   | exact keeps_block hK 8 (by decide) (by decide)
   | (with_reducible refine Keeps.ite (fun _ => ?_) (fun _ => ?_))
   | (with_reducible apply State.setFlag_keeps)
   | (with_reducible apply State.setBatt_keeps)
   | (with_reducible apply State.postBatt_keeps)
   | (with_reducible refine Keeps.of_eq (by with_reducible assumption) ?_)
   | split
   | (extract_lets)
   | (dsimp only))

theorem State.packSoc_keeps {K : Nat} {s₀ s : State} (cells : List Nat) (hK : K &&& 2 = 0) (h : Keeps K s₀ s) :
    Keeps K s₀ (State.packSoc s cells).1 := by
  unfold State.packSoc
  (try extract_lets)
  repeat' (first
   | (with_reducible assumption)
   | (with_reducible exact keeps_sub hK (by decide))
   | (with_reducible rfl)
   | (with_reducible refine Keeps.ite (fun _ => ?_) (fun _ => ?_))
   | (with_reducible apply State.draw_keeps)
   | (with_reducible refine Keeps.foldl _ _ (fun s x h => ?_) ?_)
   | (with_reducible refine Keeps.foldl_fst _ _ (fun s x h => ?_) ?_)
   | (with_reducible refine Keeps.of_eq (by with_reducible assumption) ?_)
   | split
   | (extract_lets)
   | (dsimp only))

end Sys2Proof.Machine
end

