-- ==== Sys2Proof/Laws/KeepsBattery.lean ====
section
/-! SUPPORT. What the operations and commands of Machine/Battery.lean leave unchanged: one lemma for each, its mask the parts it
may write. -/

set_option linter.all false

namespace Sys2Proof.Machine

theorem State.learn_keeps {K : Nat} {s₀ s : State} (soc : Nat) (hK : K &&& 1099511644290 = 0) (h : Keeps K s₀ s) :
    Keeps K s₀ (State.learn s soc) := by
  unfold State.learn
  (try extract_lets)
  repeat' (first
   | (with_reducible assumption)
   | (with_reducible exact keeps_sub hK (by decide))
   | (with_reducible rfl)
   | exact keeps_block hK 8 (by decide) (by decide)
   | (with_reducible refine Keeps.ite (fun _ => ?_) (fun _ => ?_))
   | (with_reducible apply State.setFlag_keeps)
   | (with_reducible apply State.roundFrac_keeps)
   | (with_reducible apply State.postBatt_keeps)
   | (with_reducible apply State.setFcc_keeps)
   | (with_reducible refine Keeps.of_eq (by with_reducible assumption) ?_)
   | split
   | (extract_lets)
   | (dsimp only))

theorem State.ocvApply_keeps {K : Nat} {s₀ s : State} (soc : Nat) (cell : Nat) (hK : K &&& 1099511644290 = 0) (h : Keeps K s₀ s) :
    Keeps K s₀ (State.ocvApply s soc cell) := by
  unfold State.ocvApply
  (try extract_lets)
  repeat' (first
   | (with_reducible assumption)
   | (with_reducible exact keeps_sub hK (by decide))
   | (with_reducible rfl)
   | exact keeps_block hK 8 (by decide) (by decide)
   | (with_reducible refine Keeps.ite (fun _ => ?_) (fun _ => ?_))
   | (with_reducible apply State.setFlag_keeps)
   | (with_reducible apply State.gaugeSnap_keeps)
   | (with_reducible apply State.setFld_keeps)
   | (with_reducible apply State.setBatt_keeps)
   | (with_reducible apply State.postBatt_keeps)
   | (with_reducible apply State.setSoc_keeps)
   | (with_reducible apply State.learn_keeps)
   | (with_reducible refine Keeps.of_eq (by with_reducible assumption) ?_)
   | split
   | (extract_lets)
   | (dsimp only))

theorem State.ocvCorrect_keeps {K : Nat} {s₀ s : State} (cells : List Nat) (hK : K &&& 1099511644290 = 0) (h : Keeps K s₀ s) :
    Keeps K s₀ (State.ocvCorrect s cells) := by
  unfold State.ocvCorrect
  (try extract_lets)
  repeat' (first
   | (with_reducible assumption)
   | (with_reducible exact keeps_sub hK (by decide))
   | (with_reducible rfl)
   | exact keeps_block hK 8 (by decide) (by decide)
   | (with_reducible refine Keeps.ite (fun _ => ?_) (fun _ => ?_))
   | (with_reducible apply State.packSoc_keeps)
   | (with_reducible apply State.setFlag_keeps)
   | (with_reducible apply State.roundFrac_keeps)
   | (with_reducible apply State.ocvApply_keeps)
   | (with_reducible apply State.postBatt_keeps)
   | (with_reducible refine Keeps.of_eq (by with_reducible assumption) ?_)
   | split
   | (extract_lets)
   | (dsimp only))

theorem State.ocvPackChange_keeps {K : Nat} {s₀ s : State} (cells : List Nat) (hK : K &&& 1099511644162 = 0) (h : Keeps K s₀ s) :
    Keeps K s₀ (State.ocvPackChange s cells) := by
  unfold State.ocvPackChange
  (try extract_lets)
  repeat' (first
   | (with_reducible assumption)
   | (with_reducible exact keeps_sub hK (by decide))
   | (with_reducible rfl)
   | (with_reducible refine Keeps.ite (fun _ => ?_) (fun _ => ?_))
   | (with_reducible apply State.packSoc_keeps)
   | (with_reducible apply State.roundFrac_keeps)
   | (with_reducible apply State.setBatt_keeps)
   | (with_reducible apply State.setSoc_keeps)
   | (with_reducible refine Keeps.of_eq (by with_reducible assumption) ?_)
   | split
   | (extract_lets)
   | (dsimp only))

theorem State.sweepGauge_keeps {K : Nat} {s₀ s : State} (cells : List Nat) (hK : K &&& 1099511644290 = 0) (h : Keeps K s₀ s) :
    Keeps K s₀ (State.sweepGauge s cells) := by
  unfold State.sweepGauge
  (try extract_lets)
  repeat' (first
   | (with_reducible assumption)
   | (with_reducible exact keeps_sub hK (by decide))
   | (with_reducible rfl)
   | (with_reducible refine Keeps.ite (fun _ => ?_) (fun _ => ?_))
   | (with_reducible apply State.setBatt_keeps)
   | (with_reducible apply State.ocvCorrect_keeps)
   | (with_reducible apply State.ocvPackChange_keeps)
   | (with_reducible refine Keeps.of_eq (by with_reducible assumption) ?_)
   | split
   | (extract_lets)
   | (dsimp only))

theorem State.judgeCells_keeps {K : Nat} {s₀ s : State} (f : Nat) (run : Nat) (on : Bool) (off : Bool) (v : Nat) (cell : Fin 8) (hK : K &&& 25301654341770 = 0) (h : Keeps K s₀ s) :
    Keeps K s₀ (State.judgeCells s f run on off v cell).1 := by
  unfold State.judgeCells
  (try extract_lets)
  repeat' (first
   | (with_reducible assumption)
   | (with_reducible exact keeps_sub hK (by decide))
   | (with_reducible rfl)
   | exact keeps_block hK 8 (by decide) (by decide)
   | exact keeps_block hK 8 (by simp only [Reg.BATT_CELL]; omega) (by decide)
   | (with_reducible refine Keeps.ite (fun _ => ?_) (fun _ => ?_))
   | (with_reducible apply State.setFlag_keeps)
   | (with_reducible apply State.protClear_keeps)
   | (with_reducible apply State.protSet_keeps)
   | (with_reducible refine Keeps.of_eq (by with_reducible assumption) ?_)
   | split
   | (extract_lets)
   | (dsimp only))

theorem State.protSweep_keeps {K : Nat} {s₀ s : State} (cells : List Nat) (hK : K &&& 25301654358154 = 0) (h : Keeps K s₀ s) :
    Keeps K s₀ (State.protSweep s cells) := by
  unfold State.protSweep
  (try extract_lets)
  repeat' (first
   | (with_reducible assumption)
   | (with_reducible exact keeps_sub hK (by decide))
   | (with_reducible rfl)
   | (with_reducible refine Keeps.ite (fun _ => ?_) (fun _ => ?_))
   | (with_reducible apply State.setBatt_keeps)
   | (with_reducible apply State.judgeCells_keeps)
   | (with_reducible refine Keeps.foldl _ _ (fun s x h => ?_) ?_)
   | (with_reducible refine Keeps.foldl_fst _ _ (fun s x h => ?_) ?_)
   | (with_reducible refine Keeps.of_eq (by with_reducible assumption) ?_)
   | split
   | (extract_lets)
   | (dsimp only))

theorem State.balance_keeps {K : Nat} {s₀ s : State} (cells : List Nat) (hK : K &&& 1099511644160 = 0) (h : Keeps K s₀ s) :
    Keeps K s₀ (State.balance s cells) := by
  unfold State.balance
  (try extract_lets)
  repeat' (first
   | (with_reducible assumption)
   | (with_reducible exact keeps_sub hK (by decide))
   | (with_reducible rfl)
   | exact keeps_block hK 8 (by decide) (by decide)
   | exact keeps_block hK 8 (by simp only [Reg.BATT_CELL]; omega) (by decide)
   | (with_reducible refine Keeps.ite (fun _ => ?_) (fun _ => ?_))
   | (with_reducible apply State.setFlag_keeps)
   | (with_reducible apply State.setFld_keeps)
   | (with_reducible apply State.setBatt_keeps)
   | (with_reducible refine Keeps.foldl_range _ _ (fun s x hx h => ?_) ?_)
   | (with_reducible refine Keeps.foldl _ _ (fun s x h => ?_) ?_)
   | (with_reducible refine Keeps.foldl_fst _ _ (fun s x h => ?_) ?_)
   | (with_reducible refine Keeps.of_eq (by with_reducible assumption) ?_)
   | split
   | (extract_lets)
   | (dsimp only))

theorem State.packPresent_keeps {K : Nat} {s₀ s : State} (stack : Nat) (hK : K &&& 1099511644160 = 0) (h : Keeps K s₀ s) :
    Keeps K s₀ (State.packPresent s stack) := by
  unfold State.packPresent
  (try extract_lets)
  repeat' (first
   | (with_reducible assumption)
   | (with_reducible exact keeps_sub hK (by decide))
   | (with_reducible rfl)
   | exact keeps_block hK 8 (by decide) (by decide)
   | (with_reducible refine Keeps.ite (fun _ => ?_) (fun _ => ?_))
   | (with_reducible apply State.setFlag_keeps)
   | (with_reducible apply State.setBatt_keeps)
   | (with_reducible refine Keeps.of_eq (by with_reducible assumption) ?_)
   | split
   | (extract_lets)
   | (dsimp only))

theorem State.coldSweep_keeps {K : Nat} {s₀ s : State} (cells : List Nat) (hK : K &&& 16384 = 0) (h : Keeps K s₀ s) :
    Keeps K s₀ (State.coldSweep s cells) := by
  unfold State.coldSweep
  (try extract_lets)
  repeat' (first
   | (with_reducible assumption)
   | (with_reducible exact keeps_sub hK (by decide))
   | (with_reducible rfl)
   | (with_reducible refine Keeps.ite (fun _ => ?_) (fun _ => ?_))
   | (with_reducible apply State.setBatt_keeps)
   | (with_reducible refine Keeps.of_eq (by with_reducible assumption) ?_)
   | split
   | (extract_lets)
   | (dsimp only))

theorem State.sweepValues_keeps {K : Nat} {s₀ s : State} (x : Sweep) (cells : List Nat) (coarse : Bool) (hK : K &&& 1099511627778 = 0) (h : Keeps K s₀ s) :
    Keeps K s₀ (State.sweepValues s x cells coarse) := by
  unfold State.sweepValues
  (try extract_lets)
  repeat' (first
   | (with_reducible assumption)
   | (with_reducible exact keeps_sub hK (by decide))
   | (with_reducible rfl)
   | exact keeps_block hK 8 (by decide) (by decide)
   | exact keeps_block hK 8 (by simp only [Reg.BATT_CELL]; omega) (by decide)
   | (with_reducible refine Keeps.ite (fun _ => ?_) (fun _ => ?_))
   | (with_reducible apply State.setReg_keeps)
   | (with_reducible apply State.setFlag_keeps)
   | (with_reducible apply State.roundFrac_keeps)
   | (with_reducible apply State.setFld_keeps)
   | (with_reducible refine Keeps.foldl_range _ _ (fun s x hx h => ?_) ?_)
   | (with_reducible refine Keeps.foldl _ _ (fun s x h => ?_) ?_)
   | (with_reducible refine Keeps.foldl_fst _ _ (fun s x h => ?_) ?_)
   | (with_reducible refine Keeps.of_eq (by with_reducible assumption) ?_)
   | split
   | (extract_lets)
   | (dsimp only))

theorem State.battRef_keeps {K : Nat} {s₀ s : State} (x : Sweep) (hK : K &&& 94570886889626 = 0) (h : Keeps K s₀ s) :
    Keeps K s₀ (State.battRef s x) := by
  unfold State.battRef
  (try extract_lets)
  repeat' (first
   | (with_reducible assumption)
   | (with_reducible exact keeps_sub hK (by decide))
   | (with_reducible rfl)
   | (with_reducible refine Keeps.ite (fun _ => ?_) (fun _ => ?_))
   | (with_reducible apply State.classS_keeps)
   | (with_reducible refine Keeps.of_eq (by with_reducible assumption) ?_)
   | split
   | (extract_lets)
   | (with_reducible apply Keeps.set_bist)
   | (dsimp only))

theorem State.cellSweep_keeps {K : Nat} {s₀ s : State} (x : Sweep) (hK : K &&& 95670398535834 = 0) (h : Keeps K s₀ s) :
    Keeps K s₀ (State.cellSweep s x) := by
  unfold State.cellSweep
  (try extract_lets)
  repeat' (first
   | (with_reducible assumption)
   | (with_reducible exact keeps_sub hK (by decide))
   | (with_reducible rfl)
   | exact keeps_block hK 8 (by decide) (by decide)
   | exact keeps_block hK 8 (by simp only [Reg.BATT_CELL]; omega) (by decide)
   | (with_reducible refine Keeps.ite (fun _ => ?_) (fun _ => ?_))
   | (with_reducible apply State.protSweep_keeps)
   | (with_reducible apply State.setFlag_keeps)
   | (with_reducible apply State.sweepValues_keeps)
   | (with_reducible apply State.battRef_keeps)
   | (with_reducible apply State.coldSweep_keeps)
   | (with_reducible apply State.packPresent_keeps)
   | (with_reducible apply State.balance_keeps)
   | (with_reducible apply State.sweepGauge_keeps)
   | (with_reducible refine Keeps.foldl_range _ _ (fun s x hx h => ?_) ?_)
   | (with_reducible refine Keeps.foldl _ _ (fun s x h => ?_) ?_)
   | (with_reducible refine Keeps.foldl_fst _ _ (fun s x h => ?_) ?_)
   | (with_reducible refine Keeps.of_eq (by with_reducible assumption) ?_)
   | split
   | (extract_lets)
   | (dsimp only))

theorem execCellSweep_keeps {K : Nat} (x : Sweep) {s t : State} (hK : K &&& 95670398535834 = 0) (h : s.Stored)
    (e : execCellSweep x s = .next t) : Keeps K s t := by
  unfold execCellSweep at e
  have e := Host.Outcome.next.inj e
  subst e
  have h := Keeps.refl (K := K) h
  repeat' (first
   | (with_reducible assumption)
   | (with_reducible exact keeps_sub hK (by decide))
   | (with_reducible rfl)
   | (with_reducible refine Keeps.ite (fun _ => ?_) (fun _ => ?_))
   | (with_reducible apply State.cellSweep_keeps)
   | (with_reducible refine Keeps.of_eq (by with_reducible assumption) ?_)
   | split
   | (extract_lets)
   | (dsimp only))

theorem State.countWindow_keeps {K : Nat} {s₀ s : State} (q : ChgQ) (hK : K &&& 16384 = 0) (h : Keeps K s₀ s) :
    Keeps K s₀ (State.countWindow s q) := by
  unfold State.countWindow
  (try extract_lets)
  repeat' (first
   | (with_reducible assumption)
   | (with_reducible exact keeps_sub hK (by decide))
   | (with_reducible rfl)
   | (with_reducible refine Keeps.ite (fun _ => ?_) (fun _ => ?_))
   | (with_reducible apply State.setBatt_keeps)
   | (with_reducible apply State.count_keeps)
   | (with_reducible refine Keeps.of_eq (by with_reducible assumption) ?_)
   | split
   | (extract_lets)
   | (dsimp only))

theorem State.relief_keeps {K : Nat} {s₀ s : State} (hK : K &&& 16384 = 0) (h : Keeps K s₀ s) :
    Keeps K s₀ (State.relief s) := by
  unfold State.relief
  (try extract_lets)
  repeat' (first
   | (with_reducible assumption)
   | (with_reducible exact keeps_sub hK (by decide))
   | (with_reducible rfl)
   | (with_reducible refine Keeps.ite (fun _ => ?_) (fun _ => ?_))
   | (with_reducible apply State.setBatt_keeps)
   | (with_reducible refine Keeps.of_eq (by with_reducible assumption) ?_)
   | split
   | (extract_lets)
   | (dsimp only))

theorem State.leaks_keeps {K : Nat} {s₀ s : State} (hK : K &&& 7696581574784 = 0) (h : Keeps K s₀ s) :
    Keeps K s₀ (State.leaks s) := by
  unfold State.leaks
  (try extract_lets)
  repeat' (first
   | (with_reducible assumption)
   | (with_reducible exact keeps_sub hK (by decide))
   | (with_reducible rfl)
   | (with_reducible refine Keeps.ite (fun _ => ?_) (fun _ => ?_))
   | (with_reducible apply State.setBatt_keeps)
   | (with_reducible apply State.fetFault_keeps)
   | (with_reducible refine Keeps.of_eq (by with_reducible assumption) ?_)
   | split
   | (extract_lets)
   | (dsimp only))

theorem State.window_keeps {K : Nat} {s₀ s : State} (nv : Int) (hK : K &&& 7696581574786 = 0) (h : Keeps K s₀ s) :
    Keeps K s₀ (State.window s nv) := by
  unfold State.window
  (try extract_lets)
  repeat' (first
   | (with_reducible assumption)
   | (with_reducible exact keeps_sub hK (by decide))
   | (with_reducible rfl)
   | exact keeps_block hK 8 (by decide) (by decide)
   | (with_reducible refine Keeps.ite (fun _ => ?_) (fun _ => ?_))
   | (with_reducible apply State.setReg_keeps)
   | (with_reducible apply State.draw_keeps)
   | (with_reducible apply State.roundFrac_keeps)
   | (with_reducible apply State.countWindow_keeps)
   | (with_reducible apply State.leaks_keeps)
   | (with_reducible apply State.setBatt_keeps)
   | (with_reducible apply State.relief_keeps)
   | (with_reducible refine Keeps.of_eq (by with_reducible assumption) ?_)
   | split
   | (extract_lets)
   | (dsimp only))

theorem execCurrentWindow_keeps {K : Nat} (nv : Word) {s t : State} (hK : K &&& 7696581574786 = 0) (h : s.Stored)
    (e : execCurrentWindow nv s = .next t) : Keeps K s t := by
  unfold execCurrentWindow at e
  have e := Host.Outcome.next.inj e
  subst e
  have h := Keeps.refl (K := K) h
  repeat' (first
   | (with_reducible assumption)
   | (with_reducible exact keeps_sub hK (by decide))
   | (with_reducible rfl)
   | (with_reducible refine Keeps.ite (fun _ => ?_) (fun _ => ?_))
   | (with_reducible apply State.window_keeps)
   | (with_reducible refine Keeps.of_eq (by with_reducible assumption) ?_)
   | split
   | (extract_lets)
   | (dsimp only))

theorem execOcdTrip_keeps {K : Nat} (uv : BitVec 24) {s t : State} (hK : K &&& 25301654358154 = 0) (h : s.Stored)
    (e : execOcdTrip uv s = .next t) : Keeps K s t := by
  unfold execOcdTrip at e
  have e := Host.Outcome.next.inj e
  subst e
  have h := Keeps.refl (K := K) h
  repeat' (first
   | (with_reducible assumption)
   | (with_reducible exact keeps_sub hK (by decide))
   | (with_reducible rfl)
   | (with_reducible refine Keeps.ite (fun _ => ?_) (fun _ => ?_))
   | (with_reducible apply State.trip_keeps)
   | (with_reducible refine Keeps.of_eq (by with_reducible assumption) ?_)
   | split
   | (extract_lets)
   | (dsimp only))

theorem execScdTrip_keeps {K : Nat} (uv : BitVec 24) {s t : State} (hK : K &&& 25301654358154 = 0) (h : s.Stored)
    (e : execScdTrip uv s = .next t) : Keeps K s t := by
  unfold execScdTrip at e
  have e := Host.Outcome.next.inj e
  subst e
  have h := Keeps.refl (K := K) h
  repeat' (first
   | (with_reducible assumption)
   | (with_reducible exact keeps_sub hK (by decide))
   | (with_reducible rfl)
   | (with_reducible refine Keeps.ite (fun _ => ?_) (fun _ => ?_))
   | (with_reducible apply State.trip_keeps)
   | (with_reducible refine Keeps.of_eq (by with_reducible assumption) ?_)
   | split
   | (extract_lets)
   | (dsimp only))

theorem execProtRetryExpiry_keeps {K : Nat} (scd : Bool) {s t : State} (hK : K &&& 7696581558400 = 0) (h : s.Stored)
    (e : execProtRetryExpiry scd s = .next t) : Keeps K s t := by
  unfold execProtRetryExpiry at e
  have e := Host.Outcome.next.inj e
  subst e
  have h := Keeps.refl (K := K) h
  repeat' (first
   | (with_reducible assumption)
   | (with_reducible exact keeps_sub hK (by decide))
   | (with_reducible rfl)
   | (with_reducible refine Keeps.ite (fun _ => ?_) (fun _ => ?_))
   | (with_reducible apply State.protClear_keeps)
   | (with_reducible refine Keeps.of_eq (by with_reducible assumption) ?_)
   | split
   | (extract_lets)
   | (dsimp only))

theorem execChargerDetect_keeps {K : Nat} {s t : State} (hK : K &&& 7696581574784 = 0) (h : s.Stored)
    (e : execChargerDetect s = .next t) : Keeps K s t := by
  unfold execChargerDetect at e
  have e := Host.Outcome.next.inj e
  subst e
  have h := Keeps.refl (K := K) h
  repeat' (first
   | (with_reducible assumption)
   | (with_reducible exact keeps_sub hK (by decide))
   | (with_reducible rfl)
   | exact keeps_block hK 8 (by decide) (by decide)
   | (with_reducible refine Keeps.ite (fun _ => ?_) (fun _ => ?_))
   | (with_reducible apply State.setFlag_keeps)
   | (with_reducible apply State.clearTrips_keeps)
   | (with_reducible refine Keeps.of_eq (by with_reducible assumption) ?_)
   | split
   | (extract_lets)
   | (dsimp only))

theorem execFetFaultDetect_keeps {K : Nat} (k : FetFault) {s t : State} (hK : K &&& 7696581558400 = 0) (h : s.Stored)
    (e : execFetFaultDetect k s = .next t) : Keeps K s t := by
  unfold execFetFaultDetect at e
  have e := Host.Outcome.next.inj e
  subst e
  have h := Keeps.refl (K := K) h
  repeat' (first
   | (with_reducible assumption)
   | (with_reducible exact keeps_sub hK (by decide))
   | (with_reducible rfl)
   | (with_reducible refine Keeps.ite (fun _ => ?_) (fun _ => ?_))
   | (with_reducible apply State.fetFault_keeps)
   | (with_reducible refine Keeps.of_eq (by with_reducible assumption) ?_)
   | split
   | (extract_lets)
   | (dsimp only))

theorem State.oneSecond_keeps {K : Nat} {s₀ s : State} (hK : K &&& 1099511644162 = 0) (h : Keeps K s₀ s) :
    Keeps K s₀ (State.oneSecond s) := by
  unfold State.oneSecond
  (try extract_lets)
  repeat' (first
   | (with_reducible assumption)
   | (with_reducible exact keeps_sub hK (by decide))
   | (with_reducible rfl)
   | exact keeps_block hK 8 (by decide) (by decide)
   | (with_reducible refine Keeps.ite (fun _ => ?_) (fun _ => ?_))
   | (with_reducible apply State.setReg_keeps)
   | (with_reducible apply State.roundFrac_keeps)
   | (with_reducible apply State.setBatt_keeps)
   | (with_reducible refine Keeps.of_eq (by with_reducible assumption) ?_)
   | split
   | (extract_lets)
   | (dsimp only))

theorem State.restSecond_keeps {K : Nat} {s₀ s : State} (hK : K &&& 1099511644160 = 0) (h : Keeps K s₀ s) :
    Keeps K s₀ (State.restSecond s) := by
  unfold State.restSecond
  (try extract_lets)
  repeat' (first
   | (with_reducible assumption)
   | (with_reducible exact keeps_sub hK (by decide))
   | (with_reducible rfl)
   | exact keeps_block hK 8 (by decide) (by decide)
   | (with_reducible refine Keeps.ite (fun _ => ?_) (fun _ => ?_))
   | (with_reducible apply State.setFlag_keeps)
   | (with_reducible apply State.setFld_keeps)
   | (with_reducible apply State.setBatt_keeps)
   | (with_reducible refine Keeps.of_eq (by with_reducible assumption) ?_)
   | split
   | (extract_lets)
   | (dsimp only))

theorem State.average_keeps {K : Nat} {s₀ s : State} (hK : K &&& 16384 = 0) (h : Keeps K s₀ s) :
    Keeps K s₀ (State.average s) := by
  unfold State.average
  (try extract_lets)
  repeat' (first
   | (with_reducible assumption)
   | (with_reducible exact keeps_sub hK (by decide))
   | (with_reducible rfl)
   | (with_reducible refine Keeps.ite (fun _ => ?_) (fun _ => ?_))
   | (with_reducible apply State.setBatt_keeps)
   | (with_reducible refine Keeps.of_eq (by with_reducible assumption) ?_)
   | split
   | (extract_lets)
   | (dsimp only))

theorem State.socSteps_keeps {K : Nat} {s₀ s : State} (hK : K &&& 16512 = 0) (h : Keeps K s₀ s) :
    Keeps K s₀ (State.socSteps s) := by
  unfold State.socSteps
  (try extract_lets)
  repeat' (first
   | (with_reducible assumption)
   | (with_reducible exact keeps_sub hK (by decide))
   | (with_reducible rfl)
   | (with_reducible refine Keeps.ite (fun _ => ?_) (fun _ => ?_))
   | (with_reducible apply State.gaugeSnap_keeps)
   | (with_reducible apply State.setBatt_keeps)
   | (with_reducible apply State.postBatt_keeps)
   | (with_reducible refine Keeps.of_eq (by with_reducible assumption) ?_)
   | split
   | (extract_lets)
   | (dsimp only))

theorem State.gaugeReport_keeps {K : Nat} {s₀ s : State} (hK : K &&& 1099511644290 = 0) (h : Keeps K s₀ s) :
    Keeps K s₀ (State.gaugeReport s) := by
  unfold State.gaugeReport
  (try extract_lets)
  repeat' (first
   | (with_reducible assumption)
   | (with_reducible exact keeps_sub hK (by decide))
   | (with_reducible rfl)
   | (with_reducible refine Keeps.ite (fun _ => ?_) (fun _ => ?_))
   | (with_reducible apply State.showRest_keeps)
   | (with_reducible apply State.socSteps_keeps)
   | (with_reducible apply State.applyWindow_keeps)
   | (with_reducible refine Keeps.of_eq (by with_reducible assumption) ?_)
   | split
   | (extract_lets)
   | (dsimp only))

theorem State.gaugeRefresh_keeps {K : Nat} {s₀ s : State} (hK : K &&& 1099511644290 = 0) (h : Keeps K s₀ s) :
    Keeps K s₀ (State.gaugeRefresh s) := by
  unfold State.gaugeRefresh
  (try extract_lets)
  repeat' (first
   | (with_reducible assumption)
   | (with_reducible exact keeps_sub hK (by decide))
   | (with_reducible rfl)
   | (with_reducible refine Keeps.ite (fun _ => ?_) (fun _ => ?_))
   | (with_reducible apply State.gaugeReport_keeps)
   | (with_reducible refine Keeps.of_eq (by with_reducible assumption) ?_)
   | split
   | (extract_lets)
   | (dsimp only))

theorem State.addSince_keeps {K : Nat} {s₀ s : State} (hK : K &&& 1099511644162 = 0) (h : Keeps K s₀ s) :
    Keeps K s₀ (State.addSince s) := by
  unfold State.addSince
  (try extract_lets)
  repeat' (first
   | (with_reducible assumption)
   | (with_reducible exact keeps_sub hK (by decide))
   | (with_reducible rfl)
   | (with_reducible refine Keeps.ite (fun _ => ?_) (fun _ => ?_))
   | (with_reducible apply State.applyWindow_keeps)
   | (with_reducible apply State.setBatt_keeps)
   | (with_reducible refine Keeps.of_eq (by with_reducible assumption) ?_)
   | split
   | (extract_lets)
   | (dsimp only))

theorem State.scaleQ_keeps {K : Nat} {s₀ s : State} (q : ChgQ) (n : Int) (d : Int) (hK : K &&& 2 = 0) (h : Keeps K s₀ s) :
    Keeps K s₀ (State.scaleQ s q n d).1 := by
  unfold State.scaleQ
  (try extract_lets)
  repeat' (first
   | (with_reducible assumption)
   | (with_reducible exact keeps_sub hK (by decide))
   | (with_reducible rfl)
   | (with_reducible refine Keeps.ite (fun _ => ?_) (fun _ => ?_))
   | (with_reducible apply State.roundFrac_keeps)
   | (with_reducible refine Keeps.of_eq (by with_reducible assumption) ?_)
   | split
   | (extract_lets)
   | (dsimp only))

theorem State.applyRaw_keeps {K : Nat} {s₀ s : State} (ppm : Int) (hK : K &&& 16386 = 0) (h : Keeps K s₀ s) :
    Keeps K s₀ (State.applyRaw s ppm) := by
  unfold State.applyRaw
  (try extract_lets)
  repeat' (first
   | (with_reducible assumption)
   | (with_reducible exact keeps_sub hK (by decide))
   | (with_reducible rfl)
   | (with_reducible refine Keeps.ite (fun _ => ?_) (fun _ => ?_))
   | (with_reducible apply State.setBatt_keeps)
   | (with_reducible apply State.scaleQ_keeps)
   | (with_reducible apply State.count_keeps)
   | (with_reducible refine Keeps.of_eq (by with_reducible assumption) ?_)
   | split
   | (extract_lets)
   | (dsimp only))

theorem State.rawSecond_keeps {K : Nat} {s₀ s : State} (hK : K &&& 1099511644290 = 0) (h : Keeps K s₀ s) :
    Keeps K s₀ (State.rawSecond s) := by
  unfold State.rawSecond
  (try extract_lets)
  repeat' (first
   | (with_reducible assumption)
   | (with_reducible exact keeps_sub hK (by decide))
   | (with_reducible rfl)
   | (with_reducible refine Keeps.ite (fun _ => ?_) (fun _ => ?_))
   | (with_reducible apply State.setEstimated_keeps)
   | (with_reducible apply State.gaugeReport_keeps)
   | (with_reducible apply State.setBatt_keeps)
   | (with_reducible apply State.applyRaw_keeps)
   | (with_reducible refine Keeps.of_eq (by with_reducible assumption) ?_)
   | split
   | (extract_lets)
   | (dsimp only))

theorem State.gaugeSecond_keeps {K : Nat} {s₀ s : State} (hK : K &&& 1099511644290 = 0) (h : Keeps K s₀ s) :
    Keeps K s₀ (State.gaugeSecond s) := by
  unfold State.gaugeSecond
  (try extract_lets)
  repeat' (first
   | (with_reducible assumption)
   | (with_reducible exact keeps_sub hK (by decide))
   | (with_reducible rfl)
   | (with_reducible refine Keeps.ite (fun _ => ?_) (fun _ => ?_))
   | (with_reducible apply State.average_keeps)
   | (with_reducible apply State.oneSecond_keeps)
   | (with_reducible apply State.gaugeReport_keeps)
   | (with_reducible apply State.rawSecond_keeps)
   | (with_reducible apply State.restSecond_keeps)
   | (with_reducible refine Keeps.of_eq (by with_reducible assumption) ?_)
   | split
   | (extract_lets)
   | (dsimp only))

theorem execGaugeUpdate_keeps {K : Nat} {s t : State} (hK : K &&& 1099511644290 = 0) (h : s.Stored)
    (e : execGaugeUpdate s = .next t) : Keeps K s t := by
  unfold execGaugeUpdate at e
  have e := Host.Outcome.next.inj e
  subst e
  have h := Keeps.refl (K := K) h
  repeat' (first
   | (with_reducible assumption)
   | (with_reducible exact keeps_sub hK (by decide))
   | (with_reducible rfl)
   | (with_reducible refine Keeps.ite (fun _ => ?_) (fun _ => ?_))
   | (with_reducible apply State.gaugeSecond_keeps)
   | (with_reducible refine Keeps.of_eq (by with_reducible assumption) ?_)
   | split
   | (extract_lets)
   | (dsimp only))

theorem execGaugeSnapshot_keeps {K : Nat} {s t : State} (hK : K &&& 16512 = 0) (h : s.Stored)
    (e : execGaugeSnapshot s = .next t) : Keeps K s t := by
  unfold execGaugeSnapshot at e
  have e := Host.Outcome.next.inj e
  subst e
  have h := Keeps.refl (K := K) h
  repeat' (first
   | (with_reducible assumption)
   | (with_reducible exact keeps_sub hK (by decide))
   | (with_reducible rfl)
   | (with_reducible refine Keeps.ite (fun _ => ?_) (fun _ => ?_))
   | (with_reducible apply State.gaugeSnap_keeps)
   | (with_reducible refine Keeps.of_eq (by with_reducible assumption) ?_)
   | split
   | (extract_lets)
   | (dsimp only))

theorem execColdStartRestWindow_keeps {K : Nat} {s t : State} (hK : K &&& 1099511644288 = 0) (h : s.Stored)
    (e : execColdStartRestWindow s = .next t) : Keeps K s t := by
  unfold execColdStartRestWindow at e
  have e := Host.Outcome.next.inj e
  subst e
  have h := Keeps.refl (K := K) h
  repeat' (first
   | (with_reducible assumption)
   | (with_reducible exact keeps_sub hK (by decide))
   | (with_reducible rfl)
   | (with_reducible refine Keeps.ite (fun _ => ?_) (fun _ => ?_))
   | (with_reducible apply State.setEstimated_keeps)
   | (with_reducible apply State.setBatt_keeps)
   | (with_reducible refine Keeps.of_eq (by with_reducible assumption) ?_)
   | split
   | (extract_lets)
   | (dsimp only))

theorem execBatteryLpWake_keeps {K : Nat} (c : LpCond) {s t : State} (hK : K &&& 17605072783498 = 0) (h : s.Stored)
    (e : execBatteryLpWake c s = .next t) : Keeps K s t := by
  unfold execBatteryLpWake at e
  have e := Host.Outcome.next.inj e
  subst e
  have h := Keeps.refl (K := K) h
  repeat' (first
   | (with_reducible assumption)
   | (with_reducible exact keeps_sub hK (by decide))
   | (with_reducible rfl)
   | (with_reducible refine Keeps.ite (fun _ => ?_) (fun _ => ?_))
   | (with_reducible apply State.battWake_keeps)
   | (with_reducible refine Keeps.of_eq (by with_reducible assumption) ?_)
   | split
   | (extract_lets)
   | (dsimp only))

theorem State.applyLp_keeps {K : Nat} {s₀ s : State} (lpoPpm : Int) (hK : K &&& 16386 = 0) (h : Keeps K s₀ s) :
    Keeps K s₀ (State.applyLp s lpoPpm) := by
  unfold State.applyLp
  (try extract_lets)
  repeat' (first
   | (with_reducible assumption)
   | (with_reducible exact keeps_sub hK (by decide))
   | (with_reducible rfl)
   | (with_reducible refine Keeps.ite (fun _ => ?_) (fun _ => ?_))
   | (with_reducible apply State.setBatt_keeps)
   | (with_reducible apply State.scaleQ_keeps)
   | (with_reducible apply State.count_keeps)
   | (with_reducible refine Keeps.of_eq (by with_reducible assumption) ?_)
   | split
   | (extract_lets)
   | (dsimp only))

theorem State.postPack_keeps {K : Nat} {s₀ s : State} (kind : Nat) (new : Nat) (old : Nat) (hK : K &&& 128 = 0) (h : Keeps K s₀ s) :
    Keeps K s₀ (State.postPack s kind new old) := by
  unfold State.postPack
  (try extract_lets)
  repeat' (first
   | (with_reducible assumption)
   | (with_reducible exact keeps_sub hK (by decide))
   | (with_reducible rfl)
   | (with_reducible refine Keeps.ite (fun _ => ?_) (fun _ => ?_))
   | (with_reducible apply State.post_keeps)
   | (with_reducible refine Keeps.of_eq (by with_reducible assumption) ?_)
   | split
   | (extract_lets)
   | (dsimp only))

theorem State.newPack_keeps {K : Nat} {s₀ s : State} (hK : K &&& 1099511644290 = 0) (h : Keeps K s₀ s) :
    Keeps K s₀ (State.newPack s) := by
  unfold State.newPack
  (try extract_lets)
  repeat' (first
   | (with_reducible assumption)
   | (with_reducible exact keeps_sub hK (by decide))
   | (with_reducible rfl)
   | exact keeps_block hK 8 (by decide) (by decide)
   | (with_reducible refine Keeps.ite (fun _ => ?_) (fun _ => ?_))
   | (with_reducible apply State.setReg_keeps)
   | (with_reducible apply State.setFlag_keeps)
   | (with_reducible apply State.setEstimated_keeps)
   | (with_reducible apply State.setFld_keeps)
   | (with_reducible apply State.setBatt_keeps)
   | (with_reducible apply State.setFcc_keeps)
   | (with_reducible refine Keeps.of_eq (by with_reducible assumption) ?_)
   | split
   | (extract_lets)
   | (dsimp only))

theorem State.retainId_keeps {K : Nat} {s₀ s : State} (id : Nat) (kind : Nat) (hK : K &&& 1099511644290 = 0) (h : Keeps K s₀ s) :
    Keeps K s₀ (State.retainId s id kind) := by
  unfold State.retainId
  (try extract_lets)
  repeat' (first
   | (with_reducible assumption)
   | (with_reducible exact keeps_sub hK (by decide))
   | (with_reducible rfl)
   | exact keeps_block hK 8 (by decide) (by decide)
   | (with_reducible refine Keeps.ite (fun _ => ?_) (fun _ => ?_))
   | (with_reducible apply State.setReg_keeps)
   | (with_reducible apply State.gaugeSnap_keeps)
   | (with_reducible apply State.postPack_keeps)
   | (with_reducible apply State.setBatt_keeps)
   | (with_reducible apply State.newPack_keeps)
   | (with_reducible refine Keeps.of_eq (by with_reducible assumption) ?_)
   | split
   | (extract_lets)
   | (dsimp only))

theorem State.idRead_keeps {K : Nat} {s₀ s : State} (id : Option (BitVec 64)) (hK : K &&& 1099511644290 = 0) (h : Keeps K s₀ s) :
    Keeps K s₀ (State.idRead s id) := by
  unfold State.idRead
  (try extract_lets)
  repeat' (first
   | (with_reducible assumption)
   | (with_reducible exact keeps_sub hK (by decide))
   | (with_reducible rfl)
   | (with_reducible refine Keeps.ite (fun _ => ?_) (fun _ => ?_))
   | (with_reducible apply State.setEstimated_keeps)
   | (with_reducible apply State.postPack_keeps)
   | (with_reducible apply State.retainId_keeps)
   | (with_reducible refine Keeps.of_eq (by with_reducible assumption) ?_)
   | split
   | (extract_lets)
   | (dsimp only))

theorem execPackIdRead_keeps {K : Nat} (id : Option (BitVec 64)) {s t : State} (hK : K &&& 1099511644290 = 0) (h : s.Stored)
    (e : execPackIdRead id s = .next t) : Keeps K s t := by
  unfold execPackIdRead at e
  have e := Host.Outcome.next.inj e
  subst e
  have h := Keeps.refl (K := K) h
  repeat' (first
   | (with_reducible assumption)
   | (with_reducible exact keeps_sub hK (by decide))
   | (with_reducible rfl)
   | (with_reducible refine Keeps.ite (fun _ => ?_) (fun _ => ?_))
   | (with_reducible apply State.idRead_keeps)
   | (with_reducible refine Keeps.of_eq (by with_reducible assumption) ?_)
   | split
   | (extract_lets)
   | (dsimp only))

theorem State.readAccLo_keeps {K : Nat} {s₀ s : State} (hK : K &&& 1099511627776 = 0) (h : Keeps K s₀ s) :
    Keeps K s₀ (State.readAccLo s).1 := by
  unfold State.readAccLo
  (try extract_lets)
  repeat' (first
   | (with_reducible assumption)
   | (with_reducible exact keeps_sub hK (by decide))
   | (with_reducible rfl)
   | exact keeps_block hK 8 (by decide) (by decide)
   | (with_reducible refine Keeps.ite (fun _ => ?_) (fun _ => ?_))
   | (with_reducible apply State.setReg_keeps)
   | (with_reducible refine Keeps.of_eq (by with_reducible assumption) ?_)
   | split
   | (extract_lets)
   | (dsimp only))

theorem State.battCntClr_keeps {K : Nat} {s₀ s : State} (v : Word) (hK : K &&& 1099511627776 = 0) (h : Keeps K s₀ s) :
    Keeps K s₀ (State.battCntClr s v) := by
  unfold State.battCntClr
  (try extract_lets)
  repeat' (first
   | (with_reducible assumption)
   | (with_reducible exact keeps_sub hK (by decide))
   | (with_reducible rfl)
   | (with_reducible refine Keeps.ite (fun _ => ?_) (fun _ => ?_))
   | (with_reducible refine State.clearBy_keeps _ _ 8 (by decide) (keeps_bit hK (by decide)) ?_)
   | (with_reducible refine Keeps.of_eq (by with_reducible assumption) ?_)
   | split
   | (extract_lets)
   | (dsimp only))

theorem State.battCommand_keeps {K : Nat} {s₀ s : State} (r : Req) (bad : Bool) (k : State → State × Option Reply) (hk : ∀ s : State, Keeps K s₀ s → Keeps K s₀ (k s).1) (hK : K &&& 26388282212616 = 0) (h : Keeps K s₀ s) :
    Keeps K s₀ (State.battCommand s r bad k) := by
  unfold State.battCommand
  (try extract_lets)
  repeat' (first
   | (with_reducible assumption)
   | (with_reducible exact keeps_sub hK (by decide))
   | (with_reducible rfl)
   | (with_reducible refine Keeps.ite (fun _ => ?_) (fun _ => ?_))
   | (with_reducible apply State.command_keeps)
   | (with_reducible refine Keeps.of_eq (by with_reducible assumption) ?_)
   | (intro s h)
   | (with_reducible apply hk)
   | split
   | (extract_lets)
   | (dsimp only))

theorem State.fetTake_keeps {K : Nat} {s₀ s : State} (mask : Byte) (value : Byte) (force : Bool) (hK : K &&& 1099511627776 = 0) (h : Keeps K s₀ s) :
    Keeps K s₀ (State.fetTake s mask value force).1 := by
  unfold State.fetTake
  (try extract_lets)
  repeat' (first
   | (with_reducible assumption)
   | (with_reducible exact keeps_sub hK (by decide))
   | (with_reducible rfl)
   | exact keeps_block hK 8 (by decide) (by decide)
   | (with_reducible refine Keeps.ite (fun _ => ?_) (fun _ => ?_))
   | (with_reducible apply State.setFlag_keeps)
   | (with_reducible refine Keeps.of_eq (by with_reducible assumption) ?_)
   | split
   | (extract_lets)
   | (dsimp only))

theorem execBatteryControlFet_keeps {K : Nat} (r : Req) (mask : Byte) (value : Byte) (flags : Byte) {s t : State} (hK : K &&& 27487793840392 = 0) (h : s.Stored)
    (e : execBatteryControlFet r mask value flags s = .next t) : Keeps K s t := by
  unfold execBatteryControlFet at e
  have e := Host.Outcome.next.inj e
  subst e
  have h := Keeps.refl (K := K) h
  repeat' (first
   | (with_reducible assumption)
   | (with_reducible exact keeps_sub hK (by decide))
   | (with_reducible rfl)
   | (with_reducible refine Keeps.ite (fun _ => ?_) (fun _ => ?_))
   | (with_reducible apply State.fetTake_keeps)
   | (with_reducible apply State.battCommand_keeps)
   | (with_reducible refine Keeps.of_eq (by with_reducible assumption) ?_)
   | (intro s h)
   | split
   | (extract_lets)
   | (dsimp only))

theorem execBatteryControlClearProt_keeps {K : Nat} (r : Req) {s t : State} (hK : K &&& 34084863787400 = 0) (h : s.Stored)
    (e : execBatteryControlClearProt r s = .next t) : Keeps K s t := by
  unfold execBatteryControlClearProt at e
  have e := Host.Outcome.next.inj e
  subst e
  have h := Keeps.refl (K := K) h
  repeat' (first
   | (with_reducible assumption)
   | (with_reducible exact keeps_sub hK (by decide))
   | (with_reducible rfl)
   | (with_reducible refine Keeps.ite (fun _ => ?_) (fun _ => ?_))
   | (with_reducible apply State.clearTrips_keeps)
   | (with_reducible apply State.battCommand_keeps)
   | (with_reducible refine Keeps.of_eq (by with_reducible assumption) ?_)
   | (intro s h)
   | split
   | (extract_lets)
   | (dsimp only))

theorem State.clearFet_keeps {K : Nat} {s₀ s : State} (still : Nat) (hK : K &&& 7696581558400 = 0) (h : Keeps K s₀ s) :
    Keeps K s₀ (State.clearFet s still).1 := by
  unfold State.clearFet
  (try extract_lets)
  repeat' (first
   | (with_reducible assumption)
   | (with_reducible exact keeps_sub hK (by decide))
   | (with_reducible rfl)
   | exact keeps_block hK 8 (by decide) (by decide)
   | (with_reducible refine Keeps.ite (fun _ => ?_) (fun _ => ?_))
   | (with_reducible apply State.setReg_keeps)
   | (with_reducible apply State.setFlag_keeps)
   | (with_reducible apply State.postBatt_keeps)
   | (with_reducible apply State.setNode_keeps)
   | (with_reducible refine Keeps.of_eq (by with_reducible assumption) ?_)
   | split
   | (extract_lets)
   | (dsimp only))

theorem execBatteryControlClearFet_keeps {K : Nat} (r : Req) (still : BitVec 5) {s t : State} (hK : K &&& 34084863771016 = 0) (h : s.Stored)
    (e : execBatteryControlClearFet r still s = .next t) : Keeps K s t := by
  unfold execBatteryControlClearFet at e
  have e := Host.Outcome.next.inj e
  subst e
  have h := Keeps.refl (K := K) h
  repeat' (first
   | (with_reducible assumption)
   | (with_reducible exact keeps_sub hK (by decide))
   | (with_reducible rfl)
   | (with_reducible refine Keeps.ite (fun _ => ?_) (fun _ => ?_))
   | (with_reducible apply State.clearFet_keeps)
   | (with_reducible apply State.battCommand_keeps)
   | (with_reducible refine Keeps.of_eq (by with_reducible assumption) ?_)
   | (intro s h)
   | split
   | (extract_lets)
   | (dsimp only))

theorem execBatteryControlBalance_keeps {K : Nat} (r : Req) (enable : Byte) {s t : State} (hK : K &&& 26388282229000 = 0) (h : s.Stored)
    (e : execBatteryControlBalance r enable s = .next t) : Keeps K s t := by
  unfold execBatteryControlBalance at e
  have e := Host.Outcome.next.inj e
  subst e
  have h := Keeps.refl (K := K) h
  repeat' (first
   | (with_reducible assumption)
   | (with_reducible exact keeps_sub hK (by decide))
   | (with_reducible rfl)
   | (with_reducible refine Keeps.ite (fun _ => ?_) (fun _ => ?_))
   | (with_reducible apply State.setBatt_keeps)
   | (with_reducible apply State.battCommand_keeps)
   | (with_reducible refine Keeps.of_eq (by with_reducible assumption) ?_)
   | (intro s h)
   | split
   | (extract_lets)
   | (dsimp only))

theorem execBatteryControlRelearn_keeps {K : Nat} (r : Req) {s t : State} (hK : K &&& 27487793856906 = 0) (h : s.Stored)
    (e : execBatteryControlRelearn r s = .next t) : Keeps K s t := by
  unfold execBatteryControlRelearn at e
  have e := Host.Outcome.next.inj e
  subst e
  have h := Keeps.refl (K := K) h
  repeat' (first
   | (with_reducible assumption)
   | (with_reducible exact keeps_sub hK (by decide))
   | (with_reducible rfl)
   | (with_reducible refine Keeps.ite (fun _ => ?_) (fun _ => ?_))
   | (with_reducible apply State.gaugeSnap_keeps)
   | (with_reducible apply State.postPack_keeps)
   | (with_reducible apply State.newPack_keeps)
   | (with_reducible apply State.battCommand_keeps)
   | (with_reducible refine Keeps.of_eq (by with_reducible assumption) ?_)
   | (intro s h)
   | split
   | (extract_lets)
   | (dsimp only))

theorem execBatteryControlSnapshot_keeps {K : Nat} (r : Req) {s t : State} (hK : K &&& 26388282229128 = 0) (h : s.Stored)
    (e : execBatteryControlSnapshot r s = .next t) : Keeps K s t := by
  unfold execBatteryControlSnapshot at e
  have e := Host.Outcome.next.inj e
  subst e
  have h := Keeps.refl (K := K) h
  repeat' (first
   | (with_reducible assumption)
   | (with_reducible exact keeps_sub hK (by decide))
   | (with_reducible rfl)
   | (with_reducible refine Keeps.ite (fun _ => ?_) (fun _ => ?_))
   | (with_reducible apply State.gaugeSnap_keeps)
   | (with_reducible apply State.setBatt_keeps)
   | (with_reducible apply State.battCommand_keeps)
   | (with_reducible refine Keeps.of_eq (by with_reducible assumption) ?_)
   | (intro s h)
   | split
   | (extract_lets)
   | (dsimp only))

end Sys2Proof.Machine
end

