-- ==== Sys2Proof/Laws/KeepsDriveOps.lean ====
section
/-! SUPPORT. What the operations and commands of Machine/DriveOps.lean leave unchanged: one lemma for each, its mask the parts it
may write. -/

set_option linter.all false

namespace Sys2Proof.Machine

theorem State.setM0_keeps {K : Nat} {s₀ s : State} (m : M0) (hK : K &&& 32768 = 0) (h : Keeps K s₀ s) :
    Keeps K s₀ (State.setM0 s m) := by
  unfold State.setM0
  (try extract_lets)
  repeat' (first
   | (with_reducible assumption)
   | (with_reducible exact keeps_sub hK (by decide))
   | (with_reducible rfl)
   | (with_reducible refine Keeps.ite (fun _ => ?_) (fun _ => ?_))
   | (with_reducible refine Keeps.of_eq (by with_reducible assumption) ?_)
   | split
   | (extract_lets)
   | (with_reducible apply Keeps.set_drive)
   | (dsimp only))

theorem State.postMotorAt_keeps {K : Nat} {s₀ s : State} (p' : Time) (kind : Nat) (src : M0State) (cause : Nat) (hK : K &&& 128 = 0) (h : Keeps K s₀ s) :
    Keeps K s₀ (State.postMotorAt s p' kind src cause) := by
  unfold State.postMotorAt
  (try extract_lets)
  repeat' (first
   | (with_reducible assumption)
   | (with_reducible exact keeps_sub hK (by decide))
   | (with_reducible rfl)
   | (with_reducible refine Keeps.ite (fun _ => ?_) (fun _ => ?_))
   | (with_reducible apply State.postAt_keeps)
   | (with_reducible refine Keeps.of_eq (by with_reducible assumption) ?_)
   | split
   | (extract_lets)
   | (dsimp only))

theorem State.postMotor_keeps {K : Nat} {s₀ s : State} (kind : Nat) (cause : Nat) (hK : K &&& 128 = 0) (h : Keeps K s₀ s) :
    Keeps K s₀ (State.postMotor s kind cause) := by
  unfold State.postMotor
  (try extract_lets)
  repeat' (first
   | (with_reducible assumption)
   | (with_reducible exact keeps_sub hK (by decide))
   | (with_reducible rfl)
   | (with_reducible refine Keeps.ite (fun _ => ?_) (fun _ => ?_))
   | (with_reducible apply State.postMotorAt_keeps)
   | (with_reducible refine Keeps.of_eq (by with_reducible assumption) ?_)
   | split
   | (extract_lets)
   | (dsimp only))

theorem State.endStart_keeps {K : Nat} {s₀ s : State} (status : Nat) (hK : K &&& 26388282245384 = 0) (h : Keeps K s₀ s) :
    Keeps K s₀ (State.endStart s status) := by
  unfold State.endStart
  (try extract_lets)
  repeat' (first
   | (with_reducible assumption)
   | (with_reducible exact keeps_sub hK (by decide))
   | (with_reducible rfl)
   | (with_reducible refine Keeps.ite (fun _ => ?_) (fun _ => ?_))
   | (with_reducible apply State.setM0_keeps)
   | (with_reducible apply State.complete_keeps)
   | (with_reducible refine Keeps.of_eq (by with_reducible assumption) ?_)
   | split
   | (extract_lets)
   | (dsimp only))

theorem State.cancelQueued_keeps {K : Nat} {s₀ s : State} (cause : Nat) (hK : K &&& 32896 = 0) (h : Keeps K s₀ s) :
    Keeps K s₀ (State.cancelQueued s cause) := by
  unfold State.cancelQueued
  (try extract_lets)
  repeat' (first
   | (with_reducible assumption)
   | (with_reducible exact keeps_sub hK (by decide))
   | (with_reducible rfl)
   | (with_reducible refine Keeps.ite (fun _ => ?_) (fun _ => ?_))
   | (with_reducible apply State.setM0_keeps)
   | (with_reducible apply State.postMotor_keeps)
   | (with_reducible refine Keeps.of_eq (by with_reducible assumption) ?_)
   | split
   | (extract_lets)
   | (dsimp only))

theorem State.endStops_keeps {K : Nat} {s₀ s : State} (status : Nat) (hK : K &&& 26388282245384 = 0) (h : Keeps K s₀ s) :
    Keeps K s₀ (State.endStops s status) := by
  unfold State.endStops
  (try extract_lets)
  repeat' (first
   | (with_reducible assumption)
   | (with_reducible exact keeps_sub hK (by decide))
   | (with_reducible rfl)
   | (with_reducible refine Keeps.ite (fun _ => ?_) (fun _ => ?_))
   | (with_reducible apply State.setM0_keeps)
   | (with_reducible apply State.complete_keeps)
   | (with_reducible refine Keeps.foldl _ _ (fun s x h => ?_) ?_)
   | (with_reducible refine Keeps.foldl_fst _ _ (fun s x h => ?_) ?_)
   | (with_reducible refine Keeps.of_eq (by with_reducible assumption) ?_)
   | split
   | (extract_lets)
   | (dsimp only))

theorem State.m0Seen_keeps {K : Nat} {s₀ s : State} (kind : Nat) (phase : Nat) (side : Nat) (hK : K &&& 2199023255552 = 0) (h : Keeps K s₀ s) :
    Keeps K s₀ (State.m0Seen s kind phase side) := by
  unfold State.m0Seen
  (try extract_lets)
  repeat' (first
   | (with_reducible assumption)
   | (with_reducible exact keeps_sub hK (by decide))
   | (with_reducible rfl)
   | exact keeps_block hK 9 (by decide) (by decide)
   | (with_reducible refine Keeps.ite (fun _ => ?_) (fun _ => ?_))
   | (with_reducible apply State.setFlag_keeps)
   | (with_reducible apply State.setFld_keeps)
   | (with_reducible refine Keeps.of_eq (by with_reducible assumption) ?_)
   | split
   | (extract_lets)
   | (dsimp only))

theorem State.m0To_keeps {K : Nat} {s₀ s : State} (st : M0State) (cause : Nat) (hK : K &&& 32985352143240 = 0) (h : Keeps K s₀ s) :
    Keeps K s₀ (State.m0To s st cause) := by
  unfold State.m0To
  (try extract_lets)
  repeat' (first
   | (with_reducible assumption)
   | (with_reducible exact keeps_sub hK (by decide))
   | (with_reducible rfl)
   | (with_reducible refine Keeps.ite (fun _ => ?_) (fun _ => ?_))
   | (with_reducible apply State.setM0_keeps)
   | (with_reducible apply State.postMotorAt_keeps)
   | (with_reducible apply State.endStops_keeps)
   | (with_reducible apply State.setNode_keeps)
   | (with_reducible refine Keeps.of_eq (by with_reducible assumption) ?_)
   | split
   | (extract_lets)
   | (dsimp only))

theorem State.m0FaultAt_keeps {K : Nat} {s₀ s : State} (p' : Time) (kind : Nat) (hK : K &&& 32985352143240 = 0) (h : Keeps K s₀ s) :
    Keeps K s₀ (State.m0FaultAt s p' kind) := by
  unfold State.m0FaultAt
  (try extract_lets)
  repeat' (first
   | (with_reducible assumption)
   | (with_reducible exact keeps_sub hK (by decide))
   | (with_reducible rfl)
   | exact keeps_block hK 9 (by decide) (by decide)
   | (with_reducible refine Keeps.ite (fun _ => ?_) (fun _ => ?_))
   | (with_reducible apply State.setM0_keeps)
   | (with_reducible apply State.endStart_keeps)
   | (with_reducible apply State.postMotorAt_keeps)
   | (with_reducible apply State.cancelQueued_keeps)
   | (with_reducible apply State.endStops_keeps)
   | (with_reducible apply State.inc_keeps)
   | (with_reducible apply State.setNode_keeps)
   | (with_reducible refine Keeps.of_eq (by with_reducible assumption) ?_)
   | split
   | (extract_lets)
   | (dsimp only))

theorem State.m0Fault_keeps {K : Nat} {s₀ s : State} (kind : Nat) (hK : K &&& 32985352143240 = 0) (h : Keeps K s₀ s) :
    Keeps K s₀ (State.m0Fault s kind) := by
  unfold State.m0Fault
  (try extract_lets)
  repeat' (first
   | (with_reducible assumption)
   | (with_reducible exact keeps_sub hK (by decide))
   | (with_reducible rfl)
   | (with_reducible refine Keeps.ite (fun _ => ?_) (fun _ => ?_))
   | (with_reducible apply State.m0FaultAt_keeps)
   | (with_reducible apply State.m0Seen_keeps)
   | (with_reducible refine Keeps.of_eq (by with_reducible assumption) ?_)
   | split
   | (extract_lets)
   | (dsimp only))

theorem State.m0Follow_keeps {K : Nat} {s₀ s : State} (a0 : Bool) (a1 : Bool) (hK : K &&& 32985352143240 = 0) (h : Keeps K s₀ s) :
    Keeps K s₀ (State.m0Follow s a0 a1) := by
  unfold State.m0Follow
  (try extract_lets)
  repeat' (first
   | (with_reducible assumption)
   | (with_reducible exact keeps_sub hK (by decide))
   | (with_reducible rfl)
   | (with_reducible refine Keeps.ite (fun _ => ?_) (fun _ => ?_))
   | (with_reducible apply State.endStart_keeps)
   | (with_reducible apply State.m0To_keeps)
   | (with_reducible refine Keeps.of_eq (by with_reducible assumption) ?_)
   | split
   | (extract_lets)
   | (dsimp only))

theorem State.m0Faults_keeps {K : Nat} {s₀ s : State} (hK : K &&& 32985352143240 = 0) (h : Keeps K s₀ s) :
    Keeps K s₀ (State.m0Faults s) := by
  unfold State.m0Faults
  (try extract_lets)
  repeat' (first
   | (with_reducible assumption)
   | (with_reducible exact keeps_sub hK (by decide))
   | (with_reducible rfl)
   | (with_reducible refine Keeps.ite (fun _ => ?_) (fun _ => ?_))
   | (with_reducible apply State.m0Fault_keeps)
   | (with_reducible refine Keeps.of_eq (by with_reducible assumption) ?_)
   | split
   | (extract_lets)
   | (dsimp only))

theorem State.m0Sample_keeps {K : Nat} {s₀ s : State} (hK : K &&& 32985352143240 = 0) (h : Keeps K s₀ s) :
    Keeps K s₀ (State.m0Sample s) := by
  unfold State.m0Sample
  (try extract_lets)
  repeat' (first
   | (with_reducible assumption)
   | (with_reducible exact keeps_sub hK (by decide))
   | (with_reducible rfl)
   | (with_reducible refine Keeps.ite (fun _ => ?_) (fun _ => ?_))
   | (with_reducible apply State.setM0_keeps)
   | (with_reducible apply State.m0FaultAt_keeps)
   | (with_reducible apply State.postMotor_keeps)
   | (with_reducible apply State.m0Faults_keeps)
   | (with_reducible apply State.m0Follow_keeps)
   | (with_reducible refine Keeps.of_eq (by with_reducible assumption) ?_)
   | split
   | (extract_lets)
   | (dsimp only))

theorem State.useRun_keeps {K : Nat} {s₀ s : State} (run : M0Run) (hK : K &&& 32768 = 0) (h : Keeps K s₀ s) :
    Keeps K s₀ (State.useRun s run) := by
  unfold State.useRun
  (try extract_lets)
  repeat' (first
   | (with_reducible assumption)
   | (with_reducible exact keeps_sub hK (by decide))
   | (with_reducible rfl)
   | (with_reducible refine Keeps.ite (fun _ => ?_) (fun _ => ?_))
   | (with_reducible apply State.setM0_keeps)
   | (with_reducible refine Keeps.of_eq (by with_reducible assumption) ?_)
   | split
   | (extract_lets)
   | (dsimp only))

theorem State.beginRun_keeps {K : Nat} {s₀ s : State} (run : M0Run) (r : Option Req) (hK : K &&& 32768 = 0) (h : Keeps K s₀ s) :
    Keeps K s₀ (State.beginRun s run r) := by
  unfold State.beginRun
  (try extract_lets)
  repeat' (first
   | (with_reducible assumption)
   | (with_reducible exact keeps_sub hK (by decide))
   | (with_reducible rfl)
   | (with_reducible refine Keeps.ite (fun _ => ?_) (fun _ => ?_))
   | (with_reducible apply State.setM0_keeps)
   | (with_reducible apply State.useRun_keeps)
   | (with_reducible refine Keeps.of_eq (by with_reducible assumption) ?_)
   | split
   | (extract_lets)
   | (dsimp only))

theorem State.m0Stop_keeps {K : Nat} {s₀ s : State} (mode : Nat) (hK : K &&& 32985352143240 = 0) (h : Keeps K s₀ s) :
    Keeps K s₀ (State.m0Stop s mode) := by
  unfold State.m0Stop
  (try extract_lets)
  repeat' (first
   | (with_reducible assumption)
   | (with_reducible exact keeps_sub hK (by decide))
   | (with_reducible rfl)
   | (with_reducible refine Keeps.ite (fun _ => ?_) (fun _ => ?_))
   | (with_reducible apply State.setM0_keeps)
   | (with_reducible apply State.m0To_keeps)
   | (with_reducible refine Keeps.of_eq (by with_reducible assumption) ?_)
   | split
   | (extract_lets)
   | (dsimp only))

theorem State.runTake_keeps {K : Nat} {s₀ s : State} (r : Req) (run : M0Run) (hK : K &&& 32985352143240 = 0) (h : Keeps K s₀ s) :
    Keeps K s₀ (State.runTake s r run).1 := by
  unfold State.runTake
  (try extract_lets)
  repeat' (first
   | (with_reducible assumption)
   | (with_reducible exact keeps_sub hK (by decide))
   | (with_reducible rfl)
   | (with_reducible refine Keeps.ite (fun _ => ?_) (fun _ => ?_))
   | (with_reducible apply State.setM0_keeps)
   | (with_reducible apply State.beginRun_keeps)
   | (with_reducible apply State.useRun_keeps)
   | (with_reducible apply State.postMotor_keeps)
   | (with_reducible apply State.m0Stop_keeps)
   | (with_reducible refine Keeps.of_eq (by with_reducible assumption) ?_)
   | split
   | (extract_lets)
   | (dsimp only))

theorem State.takeQueued_keeps {K : Nat} {s₀ s : State} (hK : K &&& 32896 = 0) (h : Keeps K s₀ s) :
    Keeps K s₀ (State.takeQueued s) := by
  unfold State.takeQueued
  (try extract_lets)
  repeat' (first
   | (with_reducible assumption)
   | (with_reducible exact keeps_sub hK (by decide))
   | (with_reducible rfl)
   | (with_reducible refine Keeps.ite (fun _ => ?_) (fun _ => ?_))
   | (with_reducible apply State.setM0_keeps)
   | (with_reducible apply State.beginRun_keeps)
   | (with_reducible apply State.postMotor_keeps)
   | (with_reducible refine Keeps.of_eq (by with_reducible assumption) ?_)
   | split
   | (extract_lets)
   | (dsimp only))

theorem State.m0Arrive_keeps {K : Nat} {s₀ s : State} (hK : K &&& 32985352143240 = 0) (h : Keeps K s₀ s) :
    Keeps K s₀ (State.m0Arrive s) := by
  unfold State.m0Arrive
  (try extract_lets)
  repeat' (first
   | (with_reducible assumption)
   | (with_reducible exact keeps_sub hK (by decide))
   | (with_reducible rfl)
   | (with_reducible refine Keeps.ite (fun _ => ?_) (fun _ => ?_))
   | (with_reducible apply State.m0Sample_keeps)
   | (with_reducible apply State.takeQueued_keeps)
   | (with_reducible refine Keeps.of_eq (by with_reducible assumption) ?_)
   | split
   | (extract_lets)
   | (dsimp only))

theorem State.stopInFault_keeps {K : Nat} {s₀ s : State} (clear : Bool) (causePresent : Bool) (hK : K &&& 32985352143240 = 0) (h : Keeps K s₀ s) :
    Keeps K s₀ (State.stopInFault s clear causePresent).1 := by
  unfold State.stopInFault
  (try extract_lets)
  repeat' (first
   | (with_reducible assumption)
   | (with_reducible exact keeps_sub hK (by decide))
   | (with_reducible rfl)
   | exact keeps_block hK 9 (by decide) (by decide)
   | (with_reducible refine Keeps.ite (fun _ => ?_) (fun _ => ?_))
   | (with_reducible apply State.setFld_keeps)
   | (with_reducible apply State.m0To_keeps)
   | (with_reducible refine Keeps.of_eq (by with_reducible assumption) ?_)
   | split
   | (extract_lets)
   | (dsimp only))

theorem State.stopTake_keeps {K : Nat} {s₀ s : State} (r : Req) (mode : Nat) (clear : Bool) (causePresent : Bool) (hK : K &&& 32985352143240 = 0) (h : Keeps K s₀ s) :
    Keeps K s₀ (State.stopTake s r mode clear causePresent).1 := by
  unfold State.stopTake
  (try extract_lets)
  repeat' (first
   | (with_reducible assumption)
   | (with_reducible exact keeps_sub hK (by decide))
   | (with_reducible rfl)
   | (with_reducible refine Keeps.ite (fun _ => ?_) (fun _ => ?_))
   | (with_reducible apply State.setM0_keeps)
   | (with_reducible apply State.stopInFault_keeps)
   | (with_reducible apply State.endStart_keeps)
   | (with_reducible apply State.cancelQueued_keeps)
   | (with_reducible apply State.m0Stop_keeps)
   | (with_reducible refine Keeps.of_eq (by with_reducible assumption) ?_)
   | split
   | (extract_lets)
   | (dsimp only))

end Sys2Proof.Machine
end

