-- ==== Sys2Proof/Laws/KeepsDrive.lean ====
section
/-! SUPPORT. What the operations and commands of Machine/Drive.lean leave unchanged: one lemma for each, its mask the parts it
may write. -/

set_option linter.all false

namespace Sys2Proof.Machine

theorem State.m0Show_keeps {K : Nat} {s₀ s : State} (hK : K &&& 32768 = 0) (h : Keeps K s₀ s) :
    Keeps K s₀ (State.m0Show s) := by
  unfold State.m0Show
  (try extract_lets)
  repeat' (first
   | (with_reducible assumption)
   | (with_reducible exact keeps_sub hK (by decide))
   | (with_reducible rfl)
   | (with_reducible refine Keeps.ite (fun _ => ?_) (fun _ => ?_))
   | (with_reducible apply State.setM0_keeps)
   | (with_reducible refine Keeps.of_eq (by with_reducible assumption) ?_)
   | split
   | (extract_lets)
   | (dsimp only))

theorem State.m0Ramp_keeps {K : Nat} {s₀ s : State} (hK : K &&& 32768 = 0) (h : Keeps K s₀ s) :
    Keeps K s₀ (State.m0Ramp s) := by
  unfold State.m0Ramp
  (try extract_lets)
  repeat' (first
   | (with_reducible assumption)
   | (with_reducible exact keeps_sub hK (by decide))
   | (with_reducible rfl)
   | (with_reducible refine Keeps.ite (fun _ => ?_) (fun _ => ?_))
   | (with_reducible apply State.setM0_keeps)
   | (with_reducible refine Keeps.of_eq (by with_reducible assumption) ?_)
   | split
   | (extract_lets)
   | (dsimp only))

theorem State.speedLoop_keeps {K : Nat} {s₀ s : State} (hK : K &&& 32770 = 0) (h : Keeps K s₀ s) :
    Keeps K s₀ (State.speedLoop s) := by
  unfold State.speedLoop
  (try extract_lets)
  repeat' (first
   | (with_reducible assumption)
   | (with_reducible exact keeps_sub hK (by decide))
   | (with_reducible rfl)
   | (with_reducible refine Keeps.ite (fun _ => ?_) (fun _ => ?_))
   | (with_reducible apply State.setM0_keeps)
   | (with_reducible apply State.draw_keeps)
   | (with_reducible refine Keeps.of_eq (by with_reducible assumption) ?_)
   | split
   | (extract_lets)
   | (dsimp only))

theorem State.m0AtSpeed_keeps {K : Nat} {s₀ s : State} (hK : K &&& 32896 = 0) (h : Keeps K s₀ s) :
    Keeps K s₀ (State.m0AtSpeed s) := by
  unfold State.m0AtSpeed
  (try extract_lets)
  repeat' (first
   | (with_reducible assumption)
   | (with_reducible exact keeps_sub hK (by decide))
   | (with_reducible rfl)
   | (with_reducible refine Keeps.ite (fun _ => ?_) (fun _ => ?_))
   | (with_reducible apply State.setM0_keeps)
   | (with_reducible apply State.postMotor_keeps)
   | (with_reducible refine Keeps.of_eq (by with_reducible assumption) ?_)
   | split
   | (extract_lets)
   | (dsimp only))

theorem State.m0Timers_keeps {K : Nat} {s₀ s : State} (x : M0Meas) (hK : K &&& 32768 = 0) (h : Keeps K s₀ s) :
    Keeps K s₀ (State.m0Timers s x) := by
  unfold State.m0Timers
  (try extract_lets)
  repeat' (first
   | (with_reducible assumption)
   | (with_reducible exact keeps_sub hK (by decide))
   | (with_reducible rfl)
   | (with_reducible refine Keeps.ite (fun _ => ?_) (fun _ => ?_))
   | (with_reducible apply State.setM0_keeps)
   | (with_reducible refine Keeps.of_eq (by with_reducible assumption) ?_)
   | split
   | (extract_lets)
   | (dsimp only))

theorem State.m0Judge_keeps {K : Nat} {s₀ s : State} (hK : K &&& 32985352143242 = 0) (h : Keeps K s₀ s) :
    Keeps K s₀ (State.m0Judge s) := by
  unfold State.m0Judge
  (try extract_lets)
  repeat' (first
   | (with_reducible assumption)
   | (with_reducible exact keeps_sub hK (by decide))
   | (with_reducible rfl)
   | (with_reducible refine Keeps.ite (fun _ => ?_) (fun _ => ?_))
   | (with_reducible apply State.m0AtSpeed_keeps)
   | (with_reducible apply State.speedLoop_keeps)
   | (with_reducible apply State.m0Ramp_keeps)
   | (with_reducible apply State.m0To_keeps)
   | (with_reducible refine Keeps.of_eq (by with_reducible assumption) ?_)
   | split
   | (extract_lets)
   | (dsimp only))

theorem State.m0Point_keeps {K : Nat} {s₀ s : State} (x : M0Meas) (hK : K &&& 32985352143242 = 0) (h : Keeps K s₀ s) :
    Keeps K s₀ (State.m0Point s x) := by
  unfold State.m0Point
  (try extract_lets)
  repeat' (first
   | (with_reducible assumption)
   | (with_reducible exact keeps_sub hK (by decide))
   | (with_reducible rfl)
   | exact keeps_block hK 9 (by decide) (by decide)
   | (with_reducible refine Keeps.ite (fun _ => ?_) (fun _ => ?_))
   | (with_reducible apply State.setReg_keeps)
   | (with_reducible apply State.m0Show_keeps)
   | (with_reducible apply State.setFld_keeps)
   | (with_reducible apply State.m0Timers_keeps)
   | (with_reducible apply State.m0Arrive_keeps)
   | (with_reducible apply State.m0Judge_keeps)
   | (with_reducible refine Keeps.of_eq (by with_reducible assumption) ?_)
   | split
   | (extract_lets)
   | (dsimp only))

theorem execM0DecisionPoint_keeps {K : Nat} (x : M0Meas) {s t : State} (hK : K &&& 32985352143242 = 0) (h : s.Stored)
    (e : execM0DecisionPoint x s = .next t) : Keeps K s t := by
  unfold execM0DecisionPoint at e
  have e := Host.Outcome.next.inj e
  subst e
  have h := Keeps.refl (K := K) h
  repeat' (first
   | (with_reducible assumption)
   | (with_reducible exact keeps_sub hK (by decide))
   | (with_reducible rfl)
   | (with_reducible refine Keeps.ite (fun _ => ?_) (fun _ => ?_))
   | (with_reducible apply State.m0Point_keeps)
   | (with_reducible refine Keeps.of_eq (by with_reducible assumption) ?_)
   | split
   | (extract_lets)
   | (dsimp only))

theorem State.m0Timer_keeps {K : Nat} {s₀ s : State} (st : M0State) (k : State → State) (hk : ∀ s : State, Keeps K s₀ s → Keeps K s₀ (k s)) (hK : K &&& 32985352143240 = 0) (h : Keeps K s₀ s) :
    Keeps K s₀ (State.m0Timer s st k) := by
  unfold State.m0Timer
  (try extract_lets)
  repeat' (first
   | (with_reducible assumption)
   | (with_reducible exact keeps_sub hK (by decide))
   | (with_reducible rfl)
   | (with_reducible refine Keeps.ite (fun _ => ?_) (fun _ => ?_))
   | (with_reducible apply State.m0Sample_keeps)
   | (with_reducible apply State.m0Show_keeps)
   | (with_reducible refine Keeps.of_eq (by with_reducible assumption) ?_)
   | (with_reducible apply hk)
   | split
   | (extract_lets)
   | (dsimp only))

theorem execStandstillHoldEnd_keeps {K : Nat} {s t : State} (hK : K &&& 32985352143240 = 0) (h : s.Stored)
    (e : execStandstillHoldEnd s = .next t) : Keeps K s t := by
  unfold execStandstillHoldEnd at e
  have e := Host.Outcome.next.inj e
  subst e
  have h := Keeps.refl (K := K) h
  repeat' (first
   | (with_reducible assumption)
   | (with_reducible exact keeps_sub hK (by decide))
   | (with_reducible rfl)
   | (with_reducible refine Keeps.ite (fun _ => ?_) (fun _ => ?_))
   | (with_reducible apply State.setM0_keeps)
   | (with_reducible apply State.m0Timer_keeps)
   | (with_reducible apply State.m0To_keeps)
   | (with_reducible refine Keeps.of_eq (by with_reducible assumption) ?_)
   | (intro s h)
   | split
   | (extract_lets)
   | (dsimp only))

theorem execAlignEnd_keeps {K : Nat} {s t : State} (hK : K &&& 32985352143240 = 0) (h : s.Stored)
    (e : execAlignEnd s = .next t) : Keeps K s t := by
  unfold execAlignEnd at e
  have e := Host.Outcome.next.inj e
  subst e
  have h := Keeps.refl (K := K) h
  repeat' (first
   | (with_reducible assumption)
   | (with_reducible exact keeps_sub hK (by decide))
   | (with_reducible rfl)
   | (with_reducible refine Keeps.ite (fun _ => ?_) (fun _ => ?_))
   | (with_reducible apply State.m0Timer_keeps)
   | (with_reducible apply State.m0Fault_keeps)
   | (with_reducible apply State.m0To_keeps)
   | (with_reducible refine Keeps.of_eq (by with_reducible assumption) ?_)
   | (intro s h)
   | split
   | (extract_lets)
   | (dsimp only))

theorem execObserverLock_keeps {K : Nat} {s t : State} (hK : K &&& 32985352143240 = 0) (h : s.Stored)
    (e : execObserverLock s = .next t) : Keeps K s t := by
  unfold execObserverLock at e
  have e := Host.Outcome.next.inj e
  subst e
  have h := Keeps.refl (K := K) h
  repeat' (first
   | (with_reducible assumption)
   | (with_reducible exact keeps_sub hK (by decide))
   | (with_reducible rfl)
   | (with_reducible refine Keeps.ite (fun _ => ?_) (fun _ => ?_))
   | (with_reducible apply State.m0Timer_keeps)
   | (with_reducible apply State.m0To_keeps)
   | (with_reducible refine Keeps.of_eq (by with_reducible assumption) ?_)
   | (intro s h)
   | split
   | (extract_lets)
   | (dsimp only))

theorem execOpenRampTimeout_keeps {K : Nat} {s t : State} (hK : K &&& 32985352143240 = 0) (h : s.Stored)
    (e : execOpenRampTimeout s = .next t) : Keeps K s t := by
  unfold execOpenRampTimeout at e
  have e := Host.Outcome.next.inj e
  subst e
  have h := Keeps.refl (K := K) h
  repeat' (first
   | (with_reducible assumption)
   | (with_reducible exact keeps_sub hK (by decide))
   | (with_reducible rfl)
   | (with_reducible refine Keeps.ite (fun _ => ?_) (fun _ => ?_))
   | (with_reducible apply State.m0Timer_keeps)
   | (with_reducible apply State.m0Fault_keeps)
   | (with_reducible refine Keeps.of_eq (by with_reducible assumption) ?_)
   | (intro s h)
   | split
   | (extract_lets)
   | (dsimp only))

theorem execBrakeTimeout_keeps {K : Nat} {s t : State} (hK : K &&& 32985352143240 = 0) (h : s.Stored)
    (e : execBrakeTimeout s = .next t) : Keeps K s t := by
  unfold execBrakeTimeout at e
  have e := Host.Outcome.next.inj e
  subst e
  have h := Keeps.refl (K := K) h
  repeat' (first
   | (with_reducible assumption)
   | (with_reducible exact keeps_sub hK (by decide))
   | (with_reducible rfl)
   | (with_reducible refine Keeps.ite (fun _ => ?_) (fun _ => ?_))
   | (with_reducible apply State.m0Timer_keeps)
   | (with_reducible apply State.m0To_keeps)
   | (with_reducible refine Keeps.of_eq (by with_reducible assumption) ?_)
   | (intro s h)
   | split
   | (extract_lets)
   | (dsimp only))

theorem execCoastStop_keeps {K : Nat} {s t : State} (hK : K &&& 32985352143240 = 0) (h : s.Stored)
    (e : execCoastStop s = .next t) : Keeps K s t := by
  unfold execCoastStop at e
  have e := Host.Outcome.next.inj e
  subst e
  have h := Keeps.refl (K := K) h
  repeat' (first
   | (with_reducible assumption)
   | (with_reducible exact keeps_sub hK (by decide))
   | (with_reducible rfl)
   | (with_reducible refine Keeps.ite (fun _ => ?_) (fun _ => ?_))
   | (with_reducible apply State.m0Timer_keeps)
   | (with_reducible apply State.m0To_keeps)
   | (with_reducible refine Keeps.of_eq (by with_reducible assumption) ?_)
   | (intro s h)
   | split
   | (extract_lets)
   | (dsimp only))

theorem execCoastTimeout_keeps {K : Nat} {s t : State} (hK : K &&& 32985352143240 = 0) (h : s.Stored)
    (e : execCoastTimeout s = .next t) : Keeps K s t := by
  unfold execCoastTimeout at e
  have e := Host.Outcome.next.inj e
  subst e
  have h := Keeps.refl (K := K) h
  repeat' (first
   | (with_reducible assumption)
   | (with_reducible exact keeps_sub hK (by decide))
   | (with_reducible rfl)
   | (with_reducible refine Keeps.ite (fun _ => ?_) (fun _ => ?_))
   | (with_reducible apply State.m0Timer_keeps)
   | (with_reducible apply State.m0Fault_keeps)
   | (with_reducible refine Keeps.of_eq (by with_reducible assumption) ?_)
   | (intro s h)
   | split
   | (extract_lets)
   | (dsimp only))

theorem State.gateTestEnd_keeps {K : Nat} {s₀ s : State} (pass : Bool) (hK : K &&& 103354096320904 = 0) (h : Keeps K s₀ s) :
    Keeps K s₀ (State.gateTestEnd s pass) := by
  unfold State.gateTestEnd
  (try extract_lets)
  repeat' (first
   | (with_reducible assumption)
   | (with_reducible exact keeps_sub hK (by decide))
   | (with_reducible rfl)
   | exact keeps_block hK 9 (by decide) (by decide)
   | exact keeps_block hK 14 (by decide) (by decide)
   | (with_reducible refine Keeps.ite (fun _ => ?_) (fun _ => ?_))
   | (with_reducible apply State.setFlag_keeps)
   | (with_reducible apply State.endStart_keeps)
   | (with_reducible apply State.classD_keeps)
   | (with_reducible apply State.m0Fault_keeps)
   | (with_reducible apply State.inc_keeps)
   | (with_reducible apply State.m0To_keeps)
   | (with_reducible refine Keeps.of_eq (by with_reducible assumption) ?_)
   | split
   | (extract_lets)
   | (dsimp only))

theorem execGateTestEnd_keeps {K : Nat} (pass : Bool) {s t : State} (hK : K &&& 103354096320904 = 0) (h : s.Stored)
    (e : execGateTestEnd pass s = .next t) : Keeps K s t := by
  unfold execGateTestEnd at e
  have e := Host.Outcome.next.inj e
  subst e
  have h := Keeps.refl (K := K) h
  repeat' (first
   | (with_reducible assumption)
   | (with_reducible exact keeps_sub hK (by decide))
   | (with_reducible rfl)
   | (with_reducible refine Keeps.ite (fun _ => ?_) (fun _ => ?_))
   | (with_reducible apply State.gateTestEnd_keeps)
   | (with_reducible apply State.m0Timer_keeps)
   | (with_reducible refine Keeps.of_eq (by with_reducible assumption) ?_)
   | (intro s h)
   | split
   | (extract_lets)
   | (dsimp only))

theorem State.m0Detect_keeps {K : Nat} {s₀ s : State} (kind : Nat) (phase : Nat) (side : Nat) (hK : K &&& 2199023288320 = 0) (h : Keeps K s₀ s) :
    Keeps K s₀ (State.m0Detect s kind phase side) := by
  unfold State.m0Detect
  (try extract_lets)
  repeat' (first
   | (with_reducible assumption)
   | (with_reducible exact keeps_sub hK (by decide))
   | (with_reducible rfl)
   | (with_reducible refine Keeps.ite (fun _ => ?_) (fun _ => ?_))
   | (with_reducible apply State.setM0_keeps)
   | (with_reducible apply State.m0Seen_keeps)
   | (with_reducible refine Keeps.of_eq (by with_reducible assumption) ?_)
   | split
   | (extract_lets)
   | (dsimp only))

theorem State.m0HwFault_keeps {K : Nat} {s₀ s : State} (f : M0HwFault) (hK : K &&& 2199023288320 = 0) (h : Keeps K s₀ s) :
    Keeps K s₀ (State.m0HwFault s f) := by
  unfold State.m0HwFault
  (try extract_lets)
  repeat' (first
   | (with_reducible assumption)
   | (with_reducible exact keeps_sub hK (by decide))
   | (with_reducible rfl)
   | (with_reducible refine Keeps.ite (fun _ => ?_) (fun _ => ?_))
   | (with_reducible apply State.m0Detect_keeps)
   | (with_reducible refine Keeps.of_eq (by with_reducible assumption) ?_)
   | split
   | (extract_lets)
   | (dsimp only))

theorem execM0HwFault_keeps {K : Nat} (f : M0HwFault) {s t : State} (hK : K &&& 2199023288320 = 0) (h : s.Stored)
    (e : execM0HwFault f s = .next t) : Keeps K s t := by
  unfold execM0HwFault at e
  have e := Host.Outcome.next.inj e
  subst e
  have h := Keeps.refl (K := K) h
  repeat' (first
   | (with_reducible assumption)
   | (with_reducible exact keeps_sub hK (by decide))
   | (with_reducible rfl)
   | (with_reducible refine Keeps.ite (fun _ => ?_) (fun _ => ?_))
   | (with_reducible apply State.m0HwFault_keeps)
   | (with_reducible refine Keeps.of_eq (by with_reducible assumption) ?_)
   | split
   | (extract_lets)
   | (dsimp only))

theorem State.nextDuties_keeps {K : Nat} {s₀ s : State} (hK : K &&& 32770 = 0) (h : Keeps K s₀ s) :
    Keeps K s₀ (State.nextDuties s) := by
  unfold State.nextDuties
  (try extract_lets)
  repeat' (first
   | (with_reducible assumption)
   | (with_reducible exact keeps_sub hK (by decide))
   | (with_reducible rfl)
   | (with_reducible refine Keeps.ite (fun _ => ?_) (fun _ => ?_))
   | (with_reducible apply State.setM0_keeps)
   | (with_reducible refine Keeps.of_eq (by with_reducible assumption) ?_)
   | split
   | (extract_lets)
   | (with_reducible apply Keeps.set_free)
   | (dsimp only))

theorem State.shuntCheck_keeps {K : Nat} {s₀ s : State} (left : Fin 3) (a : Int) (b : Int) (hK : K &&& 2199023288320 = 0) (h : Keeps K s₀ s) :
    Keeps K s₀ (State.shuntCheck s left a b) := by
  unfold State.shuntCheck
  (try extract_lets)
  repeat' (first
   | (with_reducible assumption)
   | (with_reducible exact keeps_sub hK (by decide))
   | (with_reducible rfl)
   | (with_reducible refine Keeps.ite (fun _ => ?_) (fun _ => ?_))
   | (with_reducible apply State.m0HwFault_keeps)
   | (with_reducible refine Keeps.of_eq (by with_reducible assumption) ?_)
   | split
   | (extract_lets)
   | (dsimp only))

theorem State.pwmTick_keeps {K : Nat} {s₀ s : State} (x : M0Pwm) (hK : K &&& 2199023288322 = 0) (h : Keeps K s₀ s) :
    Keeps K s₀ (State.pwmTick s x) := by
  unfold State.pwmTick
  (try extract_lets)
  repeat' (first
   | (with_reducible assumption)
   | (with_reducible exact keeps_sub hK (by decide))
   | (with_reducible rfl)
   | (with_reducible refine Keeps.ite (fun _ => ?_) (fun _ => ?_))
   | (with_reducible apply State.setM0_keeps)
   | (with_reducible apply State.shuntCheck_keeps)
   | (with_reducible apply State.nextDuties_keeps)
   | (with_reducible refine Keeps.of_eq (by with_reducible assumption) ?_)
   | split
   | (extract_lets)
   | (dsimp only))

theorem execM0PwmPeriod_keeps {K : Nat} (x : M0Pwm) {s t : State} (hK : K &&& 2199023288322 = 0) (h : s.Stored)
    (e : execM0PwmPeriod x s = .next t) : Keeps K s t := by
  unfold execM0PwmPeriod at e
  have e := Host.Outcome.next.inj e
  subst e
  have h := Keeps.refl (K := K) h
  repeat' (first
   | (with_reducible assumption)
   | (with_reducible exact keeps_sub hK (by decide))
   | (with_reducible rfl)
   | (with_reducible refine Keeps.ite (fun _ => ?_) (fun _ => ?_))
   | (with_reducible apply State.pwmTick_keeps)
   | (with_reducible refine Keeps.of_eq (by with_reducible assumption) ?_)
   | split
   | (extract_lets)
   | (dsimp only))

theorem State.m0Request_keeps {K : Nat} {s₀ s : State} (r : Req) (op : Nat) (bad : State → Bool) (k : State → State × Option Reply) (hk : ∀ s : State, Keeps K s₀ s → Keeps K s₀ (k s).1) (hK : K &&& 32985352143240 = 0) (h : Keeps K s₀ s) :
    Keeps K s₀ (State.m0Request s r op bad k) := by
  unfold State.m0Request
  (try extract_lets)
  repeat' (first
   | (with_reducible assumption)
   | (with_reducible exact keeps_sub hK (by decide))
   | (with_reducible rfl)
   | (with_reducible refine Keeps.ite (fun _ => ?_) (fun _ => ?_))
   | (with_reducible apply State.awaitTurn_keeps)
   | (with_reducible apply State.command_keeps)
   | (with_reducible apply State.m0Show_keeps)
   | (with_reducible apply State.m0Arrive_keeps)
   | (with_reducible refine Keeps.of_eq (by with_reducible assumption) ?_)
   | (intro s h)
   | (with_reducible apply hk)
   | split
   | (extract_lets)
   | (dsimp only))

theorem execMotorRun_keeps {K : Nat} (r : Req) (dir : Byte) (flags : Byte) (setpoint : Word) (accel : BitVec 16) (decel : BitVec 16) {s t : State} (hK : K &&& 32985352143240 = 0) (h : s.Stored)
    (e : execMotorRun r dir flags setpoint accel decel s = .next t) : Keeps K s t := by
  unfold execMotorRun at e
  have e := Host.Outcome.next.inj e
  subst e
  have h := Keeps.refl (K := K) h
  repeat' (first
   | (with_reducible assumption)
   | (with_reducible exact keeps_sub hK (by decide))
   | (with_reducible rfl)
   | (with_reducible refine Keeps.ite (fun _ => ?_) (fun _ => ?_))
   | (with_reducible apply State.runTake_keeps)
   | (with_reducible apply State.m0Request_keeps)
   | (with_reducible refine Keeps.of_eq (by with_reducible assumption) ?_)
   | (intro s h)
   | split
   | (extract_lets)
   | (dsimp only))

theorem execMotorStop_keeps {K : Nat} (r : Req) (mode : Byte) (flags : Byte) (causePresent : Bool) {s t : State} (hK : K &&& 32985352143240 = 0) (h : s.Stored)
    (e : execMotorStop r mode flags causePresent s = .next t) : Keeps K s t := by
  unfold execMotorStop at e
  have e := Host.Outcome.next.inj e
  subst e
  have h := Keeps.refl (K := K) h
  repeat' (first
   | (with_reducible assumption)
   | (with_reducible exact keeps_sub hK (by decide))
   | (with_reducible rfl)
   | (with_reducible refine Keeps.ite (fun _ => ?_) (fun _ => ?_))
   | (with_reducible apply State.stopTake_keeps)
   | (with_reducible apply State.m0Request_keeps)
   | (with_reducible refine Keeps.of_eq (by with_reducible assumption) ?_)
   | (intro s h)
   | split
   | (extract_lets)
   | (dsimp only))

theorem State.driveCntClr_keeps {K : Nat} {s₀ s : State} (v : Word) (hK : K &&& 2199023255552 = 0) (h : Keeps K s₀ s) :
    Keeps K s₀ (State.driveCntClr s v) := by
  unfold State.driveCntClr
  (try extract_lets)
  repeat' (first
   | (with_reducible assumption)
   | (with_reducible exact keeps_sub hK (by decide))
   | (with_reducible rfl)
   | (with_reducible refine Keeps.ite (fun _ => ?_) (fun _ => ?_))
   | (with_reducible refine State.clearBy_keeps _ _ 9 (by decide) (keeps_bit hK (by decide)) ?_)
   | (with_reducible refine Keeps.of_eq (by with_reducible assumption) ?_)
   | split
   | (extract_lets)
   | (dsimp only))

theorem State.fanMeas_keeps {K : Nat} {s₀ s : State} (n : Fin 3) (x : FanMeas) (hK : K &&& 2199023255552 = 0) (h : Keeps K s₀ s) :
    Keeps K s₀ (State.fanMeas s n x) := by
  unfold State.fanMeas
  (try extract_lets)
  repeat' (first
   | (with_reducible assumption)
   | (with_reducible exact keeps_sub hK (by decide))
   | (with_reducible rfl)
   | exact keeps_block hK 9 (by decide) (by decide)
   | exact keeps_block hK 9 (by simp only [Reg.DRIVE_FAN_MEAS, Reg.DRIVE_FAN_STATUS, Reg.DRIVE_FAN_SUPPLY]; omega) (by decide)
   | (with_reducible refine Keeps.ite (fun _ => ?_) (fun _ => ?_))
   | (with_reducible apply State.setReg_keeps)
   | (with_reducible apply State.setFlag_keeps)
   | (with_reducible apply State.setFld_keeps)
   | (with_reducible refine Keeps.of_eq (by with_reducible assumption) ?_)
   | split
   | (extract_lets)
   | (dsimp only))

theorem State.vfanLow_keeps {K : Nat} {s₀ s : State} (n : Fin 3) (hK : K &&& 6597069799552 = 0) (h : Keeps K s₀ s) :
    Keeps K s₀ (State.vfanLow s n) := by
  unfold State.vfanLow
  (try extract_lets)
  repeat' (first
   | (with_reducible assumption)
   | (with_reducible exact keeps_sub hK (by decide))
   | (with_reducible rfl)
   | exact keeps_block hK 9 (by decide) (by decide)
   | exact keeps_block hK 9 (by simp only [Reg.DRIVE_FAN_STATUS]; omega) (by decide)
   | (with_reducible refine Keeps.ite (fun _ => ?_) (fun _ => ?_))
   | (with_reducible apply State.setFlag_keeps)
   | (with_reducible apply State.fanTo_keeps)
   | (with_reducible apply State.fanSeqEnd_keeps)
   | (with_reducible refine Keeps.of_eq (by with_reducible assumption) ?_)
   | split
   | (extract_lets)
   | (dsimp only))

theorem State.fanEvent_keeps {K : Nat} {s₀ s : State} (n : Fin 3) (x : FanMeas) (k : State → State) (hk : ∀ s : State, Keeps K s₀ s → Keeps K s₀ (k s)) (hK : K &&& 6597069799552 = 0) (h : Keeps K s₀ s) :
    Keeps K s₀ (State.fanEvent s n x k) := by
  unfold State.fanEvent
  (try extract_lets)
  repeat' (first
   | (with_reducible assumption)
   | (with_reducible exact keeps_sub hK (by decide))
   | (with_reducible rfl)
   | (with_reducible refine Keeps.ite (fun _ => ?_) (fun _ => ?_))
   | (with_reducible apply State.fanMeas_keeps)
   | (with_reducible apply State.vfanLow_keeps)
   | (with_reducible refine Keeps.of_eq (by with_reducible assumption) ?_)
   | (with_reducible apply hk)
   | split
   | (extract_lets)
   | (dsimp only))

theorem State.fanStart_keeps {K : Nat} {s₀ s : State} (n : Fin 3) (hK : K &&& 6597069799552 = 0) (h : Keeps K s₀ s) :
    Keeps K s₀ (State.fanStart s n) := by
  unfold State.fanStart
  (try extract_lets)
  repeat' (first
   | (with_reducible assumption)
   | (with_reducible exact keeps_sub hK (by decide))
   | (with_reducible rfl)
   | exact keeps_block hK 9 (by decide) (by decide)
   | exact keeps_block hK 9 (by simp only [Reg.DRIVE_FAN_STATUS]; omega) (by decide)
   | (with_reducible refine Keeps.ite (fun _ => ?_) (fun _ => ?_))
   | (with_reducible apply State.setFlag_keeps)
   | (with_reducible apply State.fanTo_keeps)
   | (with_reducible refine Keeps.of_eq (by with_reducible assumption) ?_)
   | split
   | (extract_lets)
   | (dsimp only))

theorem execFanStart_keeps {K : Nat} (n : Fin 3) (x : FanMeas) {s t : State} (hK : K &&& 6597069799552 = 0) (h : s.Stored)
    (e : execFanStart n x s = .next t) : Keeps K s t := by
  unfold execFanStart at e
  have e := Host.Outcome.next.inj e
  subst e
  have h := Keeps.refl (K := K) h
  repeat' (first
   | (with_reducible assumption)
   | (with_reducible exact keeps_sub hK (by decide))
   | (with_reducible rfl)
   | (with_reducible refine Keeps.ite (fun _ => ?_) (fun _ => ?_))
   | (with_reducible apply State.fanStart_keeps)
   | (with_reducible apply State.fanEvent_keeps)
   | (with_reducible refine Keeps.of_eq (by with_reducible assumption) ?_)
   | (intro s h)
   | split
   | (extract_lets)
   | (dsimp only))

theorem State.fanLocked_keeps {K : Nat} {s₀ s : State} (n : Fin 3) (hK : K &&& 6597069799552 = 0) (h : Keeps K s₀ s) :
    Keeps K s₀ (State.fanLocked s n) := by
  unfold State.fanLocked
  (try extract_lets)
  repeat' (first
   | (with_reducible assumption)
   | (with_reducible exact keeps_sub hK (by decide))
   | (with_reducible rfl)
   | exact keeps_block hK 9 (by decide) (by decide)
   | exact keeps_block hK 9 (by simp only [Reg.DRIVE_FAN_STATUS]; omega) (by decide)
   | (with_reducible refine Keeps.ite (fun _ => ?_) (fun _ => ?_))
   | (with_reducible apply State.setFlag_keeps)
   | (with_reducible apply State.fanTo_keeps)
   | (with_reducible apply State.fanSeqEnd_keeps)
   | (with_reducible apply State.fanFollow_keeps)
   | (with_reducible refine Keeps.of_eq (by with_reducible assumption) ?_)
   | split
   | (extract_lets)
   | (dsimp only))

theorem execFanLock_keeps {K : Nat} (n : Fin 3) (x : FanMeas) {s t : State} (hK : K &&& 6597069799552 = 0) (h : s.Stored)
    (e : execFanLock n x s = .next t) : Keeps K s t := by
  unfold execFanLock at e
  have e := Host.Outcome.next.inj e
  subst e
  have h := Keeps.refl (K := K) h
  repeat' (first
   | (with_reducible assumption)
   | (with_reducible exact keeps_sub hK (by decide))
   | (with_reducible rfl)
   | (with_reducible refine Keeps.ite (fun _ => ?_) (fun _ => ?_))
   | (with_reducible apply State.fanLocked_keeps)
   | (with_reducible apply State.fanEvent_keeps)
   | (with_reducible refine Keeps.of_eq (by with_reducible assumption) ?_)
   | (intro s h)
   | split
   | (extract_lets)
   | (dsimp only))

theorem State.fanNode_keeps {K : Nat} {s₀ s : State} (n : Fin 3) (hK : K &&& 6597069930624 = 0) (h : Keeps K s₀ s) :
    Keeps K s₀ (State.fanNode s n) := by
  unfold State.fanNode
  (try extract_lets)
  repeat' (first
   | (with_reducible assumption)
   | (with_reducible exact keeps_sub hK (by decide))
   | (with_reducible rfl)
   | (with_reducible refine Keeps.ite (fun _ => ?_) (fun _ => ?_))
   | (with_reducible apply State.setNode_keeps)
   | (with_reducible refine Keeps.of_eq (by with_reducible assumption) ?_)
   | split
   | (extract_lets)
   | (dsimp only))

theorem State.fanGiveUp_keeps {K : Nat} {s₀ s : State} (n : Fin 3) (b : Nat) (kind : Nat) (hK : K &&& 6597069930624 = 0) (h : Keeps K s₀ s) :
    Keeps K s₀ (State.fanGiveUp s n b kind) := by
  unfold State.fanGiveUp
  (try extract_lets)
  repeat' (first
   | (with_reducible assumption)
   | (with_reducible exact keeps_sub hK (by decide))
   | (with_reducible rfl)
   | exact keeps_block hK 10 (by decide) (by decide)
   | exact keeps_block hK 10 (by simp only [Reg.THERM_FAN_FSTATUS]; omega) (by decide)
   | (with_reducible refine Keeps.ite (fun _ => ?_) (fun _ => ?_))
   | (with_reducible apply State.setFlag_keeps)
   | (with_reducible apply State.fanNode_keeps)
   | (with_reducible apply State.postFan_keeps)
   | (with_reducible apply State.fanSeqEnd_keeps)
   | (with_reducible refine Keeps.of_eq (by with_reducible assumption) ?_)
   | split
   | (extract_lets)
   | (dsimp only))

theorem State.fanFail_keeps {K : Nat} {s₀ s : State} (n : Fin 3) (hK : K &&& 6597069930624 = 0) (h : Keeps K s₀ s) :
    Keeps K s₀ (State.fanFail s n) := by
  unfold State.fanFail
  (try extract_lets)
  repeat' (first
   | (with_reducible assumption)
   | (with_reducible exact keeps_sub hK (by decide))
   | (with_reducible rfl)
   | exact keeps_block hK 10 (by decide) (by decide)
   | exact keeps_block hK 10 (by simp only [Reg.THERM_FAN_FCNT]; omega) (by decide)
   | (with_reducible refine Keeps.ite (fun _ => ?_) (fun _ => ?_))
   | (with_reducible apply State.setFan_keeps)
   | (with_reducible apply State.fanGiveUp_keeps)
   | (with_reducible apply State.postFan_keeps)
   | (with_reducible apply State.fanTo_keeps)
   | (with_reducible apply State.inc_keeps)
   | (with_reducible apply State.fanFollow_keeps)
   | (with_reducible refine Keeps.of_eq (by with_reducible assumption) ?_)
   | split
   | (extract_lets)
   | (dsimp only))

theorem execFanStartTimeout_keeps {K : Nat} (n : Fin 3) (x : FanMeas) {s t : State} (hK : K &&& 6597069930624 = 0) (h : s.Stored)
    (e : execFanStartTimeout n x s = .next t) : Keeps K s t := by
  unfold execFanStartTimeout at e
  have e := Host.Outcome.next.inj e
  subst e
  have h := Keeps.refl (K := K) h
  repeat' (first
   | (with_reducible assumption)
   | (with_reducible exact keeps_sub hK (by decide))
   | (with_reducible rfl)
   | (with_reducible refine Keeps.ite (fun _ => ?_) (fun _ => ?_))
   | (with_reducible apply State.fanFail_keeps)
   | (with_reducible apply State.fanEvent_keeps)
   | (with_reducible refine Keeps.of_eq (by with_reducible assumption) ?_)
   | (intro s h)
   | split
   | (extract_lets)
   | (dsimp only))

theorem State.fanLost_keeps {K : Nat} {s₀ s : State} (n : Fin 3) (hK : K &&& 6597069799552 = 0) (h : Keeps K s₀ s) :
    Keeps K s₀ (State.fanLost s n) := by
  unfold State.fanLost
  (try extract_lets)
  repeat' (first
   | (with_reducible assumption)
   | (with_reducible exact keeps_sub hK (by decide))
   | (with_reducible rfl)
   | exact keeps_block hK 9 (by decide) (by decide)
   | exact keeps_block hK 10 (by decide) (by decide)
   | exact keeps_block hK 9 (by simp only [Reg.DRIVE_FAN_STATUS]; omega) (by decide)
   | exact keeps_block hK 10 (by simp only [Reg.THERM_FAN_FCNT]; omega) (by decide)
   | (with_reducible refine Keeps.ite (fun _ => ?_) (fun _ => ?_))
   | (with_reducible apply State.setFlag_keeps)
   | (with_reducible apply State.setFan_keeps)
   | (with_reducible apply State.postFan_keeps)
   | (with_reducible apply State.fanTo_keeps)
   | (with_reducible apply State.inc_keeps)
   | (with_reducible refine Keeps.of_eq (by with_reducible assumption) ?_)
   | split
   | (extract_lets)
   | (dsimp only))

theorem execFanLockLost_keeps {K : Nat} (n : Fin 3) (x : FanMeas) {s t : State} (hK : K &&& 6597069799552 = 0) (h : s.Stored)
    (e : execFanLockLost n x s = .next t) : Keeps K s t := by
  unfold execFanLockLost at e
  have e := Host.Outcome.next.inj e
  subst e
  have h := Keeps.refl (K := K) h
  repeat' (first
   | (with_reducible assumption)
   | (with_reducible exact keeps_sub hK (by decide))
   | (with_reducible rfl)
   | (with_reducible refine Keeps.ite (fun _ => ?_) (fun _ => ?_))
   | (with_reducible apply State.fanLost_keeps)
   | (with_reducible apply State.fanEvent_keeps)
   | (with_reducible refine Keeps.of_eq (by with_reducible assumption) ?_)
   | (intro s h)
   | split
   | (extract_lets)
   | (dsimp only))

theorem execVfanUndervoltage_keeps {K : Nat} (n : Fin 3) (x : FanMeas) {s t : State} (hK : K &&& 6597069799552 = 0) (h : s.Stored)
    (e : execVfanUndervoltage n x s = .next t) : Keeps K s t := by
  unfold execVfanUndervoltage at e
  have e := Host.Outcome.next.inj e
  subst e
  have h := Keeps.refl (K := K) h
  repeat' (first
   | (with_reducible assumption)
   | (with_reducible exact keeps_sub hK (by decide))
   | (with_reducible rfl)
   | (with_reducible refine Keeps.ite (fun _ => ?_) (fun _ => ?_))
   | (with_reducible apply State.vfanLow_keeps)
   | (with_reducible apply State.fanEvent_keeps)
   | (with_reducible refine Keeps.of_eq (by with_reducible assumption) ?_)
   | (intro s h)
   | split
   | (extract_lets)
   | (dsimp only))

theorem State.bridgeTrip_keeps {K : Nat} {s₀ s : State} (n : Fin 3) (overTemp : Bool) (hK : K &&& 6597069930624 = 0) (h : Keeps K s₀ s) :
    Keeps K s₀ (State.bridgeTrip s n overTemp) := by
  unfold State.bridgeTrip
  (try extract_lets)
  repeat' (first
   | (with_reducible assumption)
   | (with_reducible exact keeps_sub hK (by decide))
   | (with_reducible rfl)
   | exact keeps_block hK 9 (by decide) (by decide)
   | exact keeps_block hK 10 (by decide) (by decide)
   | exact keeps_block hK 9 (by simp only [Reg.DRIVE_FAN_STATUS]; omega) (by decide)
   | exact keeps_block hK 10 (by simp only [Reg.THERM_FAN_FSTATUS]; omega) (by decide)
   | (with_reducible refine Keeps.ite (fun _ => ?_) (fun _ => ?_))
   | (with_reducible apply State.setFlag_keeps)
   | (with_reducible apply State.fanNode_keeps)
   | (with_reducible apply State.setFld_keeps)
   | (with_reducible apply State.postFan_keeps)
   | (with_reducible apply State.fanTo_keeps)
   | (with_reducible apply State.fanSeqEnd_keeps)
   | (with_reducible refine Keeps.of_eq (by with_reducible assumption) ?_)
   | split
   | (extract_lets)
   | (dsimp only))

theorem execBridgeTrip_keeps {K : Nat} (n : Fin 3) (overTemp : Bool) (x : FanMeas) {s t : State} (hK : K &&& 6597069930624 = 0) (h : s.Stored)
    (e : execBridgeTrip n overTemp x s = .next t) : Keeps K s t := by
  unfold execBridgeTrip at e
  have e := Host.Outcome.next.inj e
  subst e
  have h := Keeps.refl (K := K) h
  repeat' (first
   | (with_reducible assumption)
   | (with_reducible exact keeps_sub hK (by decide))
   | (with_reducible rfl)
   | (with_reducible refine Keeps.ite (fun _ => ?_) (fun _ => ?_))
   | (with_reducible apply State.bridgeTrip_keeps)
   | (with_reducible apply State.fanEvent_keeps)
   | (with_reducible refine Keeps.of_eq (by with_reducible assumption) ?_)
   | (intro s h)
   | split
   | (extract_lets)
   | (dsimp only))

theorem State.fanAttempt_keeps {K : Nat} {s₀ s : State} (n : Fin 3) (hK : K &&& 6597069799552 = 0) (h : Keeps K s₀ s) :
    Keeps K s₀ (State.fanAttempt s n) := by
  unfold State.fanAttempt
  (try extract_lets)
  repeat' (first
   | (with_reducible assumption)
   | (with_reducible exact keeps_sub hK (by decide))
   | (with_reducible rfl)
   | (with_reducible refine Keeps.ite (fun _ => ?_) (fun _ => ?_))
   | (with_reducible apply State.setFan_keeps)
   | (with_reducible apply State.fanTo_keeps)
   | (with_reducible refine Keeps.of_eq (by with_reducible assumption) ?_)
   | split
   | (extract_lets)
   | (dsimp only))

theorem State.fanRetry_keeps {K : Nat} {s₀ s : State} (n : Fin 3) (hK : K &&& 6597069799552 = 0) (h : Keeps K s₀ s) :
    Keeps K s₀ (State.fanRetry s n) := by
  unfold State.fanRetry
  (try extract_lets)
  repeat' (first
   | (with_reducible assumption)
   | (with_reducible exact keeps_sub hK (by decide))
   | (with_reducible rfl)
   | (with_reducible refine Keeps.ite (fun _ => ?_) (fun _ => ?_))
   | (with_reducible apply State.setFan_keeps)
   | (with_reducible apply State.fanAttempt_keeps)
   | (with_reducible refine Keeps.of_eq (by with_reducible assumption) ?_)
   | split
   | (extract_lets)
   | (dsimp only))

theorem State.fanCoastEnd_keeps {K : Nat} {s₀ s : State} (n : Fin 3) (hK : K &&& 6597069799552 = 0) (h : Keeps K s₀ s) :
    Keeps K s₀ (State.fanCoastEnd s n) := by
  unfold State.fanCoastEnd
  (try extract_lets)
  repeat' (first
   | (with_reducible assumption)
   | (with_reducible exact keeps_sub hK (by decide))
   | (with_reducible rfl)
   | exact keeps_block hK 9 (by decide) (by decide)
   | exact keeps_block hK 9 (by simp only [Reg.DRIVE_FAN_STATUS]; omega) (by decide)
   | (with_reducible refine Keeps.ite (fun _ => ?_) (fun _ => ?_))
   | (with_reducible apply State.setFlag_keeps)
   | (with_reducible apply State.fanAttempt_keeps)
   | (with_reducible apply State.fanTo_keeps)
   | (with_reducible refine Keeps.of_eq (by with_reducible assumption) ?_)
   | split
   | (extract_lets)
   | (dsimp only))

theorem execFanCoastEnd_keeps {K : Nat} (n : Fin 3) (x : FanMeas) {s t : State} (hK : K &&& 6597069799552 = 0) (h : s.Stored)
    (e : execFanCoastEnd n x s = .next t) : Keeps K s t := by
  unfold execFanCoastEnd at e
  have e := Host.Outcome.next.inj e
  subst e
  have h := Keeps.refl (K := K) h
  repeat' (first
   | (with_reducible assumption)
   | (with_reducible exact keeps_sub hK (by decide))
   | (with_reducible rfl)
   | (with_reducible refine Keeps.ite (fun _ => ?_) (fun _ => ?_))
   | (with_reducible apply State.fanEvent_keeps)
   | (with_reducible apply State.fanCoastEnd_keeps)
   | (with_reducible refine Keeps.of_eq (by with_reducible assumption) ?_)
   | (intro s h)
   | split
   | (extract_lets)
   | (dsimp only))

theorem execFanRetryAttempt_keeps {K : Nat} (n : Fin 3) (x : FanMeas) {s t : State} (hK : K &&& 6597069799552 = 0) (h : s.Stored)
    (e : execFanRetryAttempt n x s = .next t) : Keeps K s t := by
  unfold execFanRetryAttempt at e
  have e := Host.Outcome.next.inj e
  subst e
  have h := Keeps.refl (K := K) h
  repeat' (first
   | (with_reducible assumption)
   | (with_reducible exact keeps_sub hK (by decide))
   | (with_reducible rfl)
   | (with_reducible refine Keeps.ite (fun _ => ?_) (fun _ => ?_))
   | (with_reducible apply State.fanRetry_keeps)
   | (with_reducible apply State.fanEvent_keeps)
   | (with_reducible refine Keeps.of_eq (by with_reducible assumption) ?_)
   | (intro s h)
   | split
   | (extract_lets)
   | (dsimp only))

theorem State.fanSlow_keeps {K : Nat} {s₀ s : State} (n : Fin 3) (cmd : Nat) (hK : K &&& 4398046511232 = 0) (h : Keeps K s₀ s) :
    Keeps K s₀ (State.fanSlow s n cmd) := by
  unfold State.fanSlow
  (try extract_lets)
  repeat' (first
   | (with_reducible assumption)
   | (with_reducible exact keeps_sub hK (by decide))
   | (with_reducible rfl)
   | exact keeps_block hK 10 (by decide) (by decide)
   | exact keeps_block hK 10 (by simp only [Reg.THERM_FAN_FSTATUS]; omega) (by decide)
   | (with_reducible refine Keeps.ite (fun _ => ?_) (fun _ => ?_))
   | (with_reducible apply State.setFlag_keeps)
   | (with_reducible apply State.fanWarnClear_keeps)
   | (with_reducible apply State.postFan_keeps)
   | (with_reducible refine Keeps.of_eq (by with_reducible assumption) ?_)
   | split
   | (extract_lets)
   | (dsimp only))

theorem execFanSlowTimer_keeps {K : Nat} (n : Fin 3) (cmd : BitVec 16) (x : FanMeas) {s t : State} (hK : K &&& 6597069799552 = 0) (h : s.Stored)
    (e : execFanSlowTimer n cmd x s = .next t) : Keeps K s t := by
  unfold execFanSlowTimer at e
  have e := Host.Outcome.next.inj e
  subst e
  have h := Keeps.refl (K := K) h
  repeat' (first
   | (with_reducible assumption)
   | (with_reducible exact keeps_sub hK (by decide))
   | (with_reducible rfl)
   | (with_reducible refine Keeps.ite (fun _ => ?_) (fun _ => ?_))
   | (with_reducible apply State.fanSlow_keeps)
   | (with_reducible apply State.fanEvent_keeps)
   | (with_reducible refine Keeps.of_eq (by with_reducible assumption) ?_)
   | (intro s h)
   | split
   | (extract_lets)
   | (dsimp only))

theorem State.tachLost_keeps {K : Nat} {s₀ s : State} (n : Fin 3) (hK : K &&& 4398046544000 = 0) (h : Keeps K s₀ s) :
    Keeps K s₀ (State.tachLost s n) := by
  unfold State.tachLost
  (try extract_lets)
  repeat' (first
   | (with_reducible assumption)
   | (with_reducible exact keeps_sub hK (by decide))
   | (with_reducible rfl)
   | exact keeps_block hK 10 (by decide) (by decide)
   | exact keeps_block hK 10 (by simp only [Reg.THERM_FAN_FSTATUS]; omega) (by decide)
   | (with_reducible refine Keeps.ite (fun _ => ?_) (fun _ => ?_))
   | (with_reducible apply State.setFlag_keeps)
   | (with_reducible apply State.setFan_keeps)
   | (with_reducible apply State.postFan_keeps)
   | (with_reducible refine Keeps.of_eq (by with_reducible assumption) ?_)
   | split
   | (extract_lets)
   | (dsimp only))

theorem execTachLostTimer_keeps {K : Nat} (n : Fin 3) (x : FanMeas) {s t : State} (hK : K &&& 6597069799552 = 0) (h : s.Stored)
    (e : execTachLostTimer n x s = .next t) : Keeps K s t := by
  unfold execTachLostTimer at e
  have e := Host.Outcome.next.inj e
  subst e
  have h := Keeps.refl (K := K) h
  repeat' (first
   | (with_reducible assumption)
   | (with_reducible exact keeps_sub hK (by decide))
   | (with_reducible rfl)
   | (with_reducible refine Keeps.ite (fun _ => ?_) (fun _ => ?_))
   | (with_reducible apply State.tachLost_keeps)
   | (with_reducible apply State.fanEvent_keeps)
   | (with_reducible refine Keeps.of_eq (by with_reducible assumption) ?_)
   | (intro s h)
   | split
   | (extract_lets)
   | (dsimp only))

theorem State.tachEdge_keeps {K : Nat} {s₀ s : State} (n : Fin 3) (hK : K &&& 6597069799552 = 0) (h : Keeps K s₀ s) :
    Keeps K s₀ (State.tachEdge s n) := by
  unfold State.tachEdge
  (try extract_lets)
  repeat' (first
   | (with_reducible assumption)
   | (with_reducible exact keeps_sub hK (by decide))
   | (with_reducible rfl)
   | exact keeps_block hK 9 (by decide) (by decide)
   | exact keeps_block hK 9 (by simp only [Reg.DRIVE_FAN_MEAS]; omega) (by decide)
   | (with_reducible refine Keeps.ite (fun _ => ?_) (fun _ => ?_))
   | (with_reducible apply State.setFan_keeps)
   | (with_reducible apply State.setFld_keeps)
   | (with_reducible apply State.fanWarnClear_keeps)
   | (with_reducible refine Keeps.of_eq (by with_reducible assumption) ?_)
   | split
   | (extract_lets)
   | (dsimp only))

theorem execTachEdge_keeps {K : Nat} (n : Fin 3) (x : FanMeas) {s t : State} (hK : K &&& 6597069799552 = 0) (h : s.Stored)
    (e : execTachEdge n x s = .next t) : Keeps K s t := by
  unfold execTachEdge at e
  have e := Host.Outcome.next.inj e
  subst e
  have h := Keeps.refl (K := K) h
  repeat' (first
   | (with_reducible assumption)
   | (with_reducible exact keeps_sub hK (by decide))
   | (with_reducible rfl)
   | (with_reducible refine Keeps.ite (fun _ => ?_) (fun _ => ?_))
   | (with_reducible apply State.tachEdge_keeps)
   | (with_reducible apply State.fanEvent_keeps)
   | (with_reducible refine Keeps.of_eq (by with_reducible assumption) ?_)
   | (intro s h)
   | split
   | (extract_lets)
   | (dsimp only))

theorem State.fansSleep_keeps {K : Nat} {s₀ s : State} (hK : K &&& 6597069799552 = 0) (h : Keeps K s₀ s) :
    Keeps K s₀ (State.fansSleep s) := by
  unfold State.fansSleep
  (try extract_lets)
  repeat' (first
   | (with_reducible assumption)
   | (with_reducible exact keeps_sub hK (by decide))
   | (with_reducible rfl)
   | exact keeps_block hK 9 (by decide) (by decide)
   | exact keeps_block hK 9 (by simp only [Reg.DRIVE_FAN_STATUS]; omega) (by decide)
   | (with_reducible refine Keeps.ite (fun _ => ?_) (fun _ => ?_))
   | (with_reducible apply State.setFlag_keeps)
   | (with_reducible apply State.setFan_keeps)
   | (with_reducible apply State.fanTo_keeps)
   | (with_reducible apply State.fanSeqEnd_keeps)
   | (with_reducible refine Keeps.foldl _ _ (fun s x h => ?_) ?_)
   | (with_reducible refine Keeps.foldl_fst _ _ (fun s x h => ?_) ?_)
   | (with_reducible refine Keeps.of_eq (by with_reducible assumption) ?_)
   | split
   | (extract_lets)
   | (dsimp only))

end Sys2Proof.Machine
end

