-- ==== Sys2Proof/Laws/KeepsHedge.lean ====
section
/-! SUPPORT. What the operations and commands of Machine/Hedge.lean leave unchanged: one lemma for each, its mask the parts it
may write. -/

set_option linter.all false

namespace Sys2Proof.Machine

theorem State.sstopNode_keeps {K : Nat} {s₀ s : State} (n : Fin 4) (hK : K &&& 6597069930624 = 0) (h : Keeps K s₀ s) :
    Keeps K s₀ (State.sstopNode s n) := by
  unfold State.sstopNode
  (try extract_lets)
  repeat' (first
   | (with_reducible assumption)
   | (with_reducible exact keeps_sub hK (by decide))
   | (with_reducible rfl)
   | (with_reducible refine Keeps.ite (fun _ => ?_) (fun _ => ?_))
   | (with_reducible apply State.setNode_keeps)
   | (with_reducible refine Keeps.of_eq (by with_reducible assumption) ?_)
   | split
   | (extract_lets)
   | (dsimp only))

theorem State.sstopEval_keeps {K : Nat} {s₀ s : State} (n : Fin 4) (high : Bool) (hK : K &&& 6734508884096 = 0) (h : Keeps K s₀ s) :
    Keeps K s₀ (State.sstopEval s n high) := by
  unfold State.sstopEval
  (try extract_lets)
  repeat' (first
   | (with_reducible assumption)
   | (with_reducible exact keeps_sub hK (by decide))
   | (with_reducible rfl)
   | exact keeps_block hK 5 (by decide) (by decide)
   | (with_reducible refine Keeps.ite (fun _ => ?_) (fun _ => ?_))
   | (with_reducible apply State.setFlag_keeps)
   | (with_reducible apply State.inc_keeps)
   | (with_reducible apply State.sstopNode_keeps)
   | (with_reducible refine Keeps.of_eq (by with_reducible assumption) ?_)
   | split
   | (extract_lets)
   | (with_reducible apply Keeps.set_hedge)
   | (dsimp only))

theorem State.armsSample_keeps {K : Nat} {s₀ s : State} (nodes : BitVec 128) (cond : BitVec 32) (hK : K &&& 131072 = 0) (h : Keeps K s₀ s) :
    Keeps K s₀ (State.armsSample s nodes cond) := by
  unfold State.armsSample
  (try extract_lets)
  repeat' (first
   | (with_reducible assumption)
   | (with_reducible exact keeps_sub hK (by decide))
   | (with_reducible rfl)
   | (with_reducible refine Keeps.ite (fun _ => ?_) (fun _ => ?_))
   | (with_reducible refine Keeps.of_eq (by with_reducible assumption) ?_)
   | split
   | (extract_lets)
   | (with_reducible apply Keeps.set_hedge)
   | (dsimp only))

theorem State.unlatch_keeps {K : Nat} {s₀ s : State} (n : Fin 32) (hK : K &&& 137439084672 = 0) (h : Keeps K s₀ s) :
    Keeps K s₀ (State.unlatch s n) := by
  unfold State.unlatch
  (try extract_lets)
  repeat' (first
   | (with_reducible assumption)
   | (with_reducible exact keeps_sub hK (by decide))
   | (with_reducible rfl)
   | (with_reducible refine Keeps.ite (fun _ => ?_) (fun _ => ?_))
   | (with_reducible apply State.persistRec_keeps)
   | (with_reducible apply State.reportRules_keeps)
   | (with_reducible refine Keeps.of_eq (by with_reducible assumption) ?_)
   | split
   | (extract_lets)
   | (with_reducible apply Keeps.set_hedge)
   | (dsimp only))

theorem State.setArm_keeps {K : Nat} {s₀ s : State} (n : Fin 32) (a : Option HArm) (hK : K &&& 131072 = 0) (h : Keeps K s₀ s) :
    Keeps K s₀ (State.setArm s n a) := by
  unfold State.setArm
  (try extract_lets)
  repeat' (first
   | (with_reducible assumption)
   | (with_reducible exact keeps_sub hK (by decide))
   | (with_reducible rfl)
   | (with_reducible refine Keeps.ite (fun _ => ?_) (fun _ => ?_))
   | (with_reducible refine Keeps.of_eq (by with_reducible assumption) ?_)
   | split
   | (extract_lets)
   | (with_reducible apply Keeps.set_hedge)
   | (dsimp only))

theorem State.hwRelease_keeps {K : Nat} {s₀ s : State} (hK : K &&& 26525721297288 = 0) (h : Keeps K s₀ s) :
    Keeps K s₀ (State.hwRelease s) := by
  unfold State.hwRelease
  (try extract_lets)
  repeat' (first
   | (with_reducible assumption)
   | (with_reducible exact keeps_sub hK (by decide))
   | (with_reducible rfl)
   | (with_reducible refine Keeps.ite (fun _ => ?_) (fun _ => ?_))
   | (with_reducible apply State.complete_keeps)
   | (with_reducible apply State.setArm_keeps)
   | (with_reducible apply State.unlatch_keeps)
   | (with_reducible refine Keeps.of_eq (by with_reducible assumption) ?_)
   | split
   | (extract_lets)
   | (with_reducible apply Keeps.set_hedge)
   | (dsimp only))

theorem State.hwEval_keeps {K : Nat} {s₀ s : State} (err : HedgeErr) (hK : K &&& 26525721297288 = 0) (h : Keeps K s₀ s) :
    Keeps K s₀ (State.hwEval s err) := by
  unfold State.hwEval
  (try extract_lets)
  repeat' (first
   | (with_reducible assumption)
   | (with_reducible exact keeps_sub hK (by decide))
   | (with_reducible rfl)
   | (with_reducible refine Keeps.ite (fun _ => ?_) (fun _ => ?_))
   | (with_reducible apply State.hwRelease_keeps)
   | (with_reducible apply State.reportBuiltins_keeps)
   | (with_reducible apply State.reportRules_keeps)
   | (with_reducible apply State.armsSample_keeps)
   | (with_reducible apply State.addCauses_keeps)
   | (with_reducible refine Keeps.of_eq (by with_reducible assumption) ?_)
   | split
   | (extract_lets)
   | (with_reducible apply Keeps.set_hedge)
   | (dsimp only))

theorem execHedgeHwEval_keeps {K : Nat} (readback : BitVec 4) (err : HedgeErr) {s t : State} (hK : K &&& 33122791100808 = 0) (h : s.Stored)
    (e : execHedgeHwEval readback err s = .next t) : Keeps K s t := by
  unfold execHedgeHwEval at e
  have e := Host.Outcome.next.inj e
  subst e
  have h := Keeps.refl (K := K) h
  repeat' (first
   | (with_reducible assumption)
   | (with_reducible exact keeps_sub hK (by decide))
   | (with_reducible rfl)
   | (with_reducible refine Keeps.ite (fun _ => ?_) (fun _ => ?_))
   | (with_reducible apply State.sstopEval_keeps)
   | (with_reducible apply State.cutAlarm_keeps)
   | (with_reducible apply State.applyActions_keeps)
   | (with_reducible apply State.hwEval_keeps)
   | (with_reducible refine Keeps.foldl _ _ (fun s x h => ?_) ?_)
   | (with_reducible refine Keeps.foldl_fst _ _ (fun s x h => ?_) ?_)
   | (with_reducible refine Keeps.of_eq (by with_reducible assumption) ?_)
   | split
   | (extract_lets)
   | (dsimp only))

theorem State.heartbeatCheck_keeps {K : Nat} {s₀ s : State} (hK : K &&& 6734508884096 = 0) (h : Keeps K s₀ s) :
    Keeps K s₀ (State.heartbeatCheck s) := by
  unfold State.heartbeatCheck
  (try extract_lets)
  repeat' (first
   | (with_reducible assumption)
   | (with_reducible exact keeps_sub hK (by decide))
   | (with_reducible rfl)
   | exact keeps_block hK 5 (by decide) (by decide)
   | (with_reducible refine Keeps.ite (fun _ => ?_) (fun _ => ?_))
   | (with_reducible apply State.inc_keeps)
   | (with_reducible apply State.setNode_keeps)
   | (with_reducible refine Keeps.of_eq (by with_reducible assumption) ?_)
   | split
   | (extract_lets)
   | (dsimp only))

theorem State.comparePaths_keeps {K : Nat} {s₀ s : State} (snap : HSnap) (actRules : BitVec 21) (hK : K &&& 94708325843098 = 0) (h : Keeps K s₀ s) :
    Keeps K s₀ (State.comparePaths s snap actRules) := by
  unfold State.comparePaths
  (try extract_lets)
  repeat' (first
   | (with_reducible assumption)
   | (with_reducible exact keeps_sub hK (by decide))
   | (with_reducible rfl)
   | exact keeps_block hK 5 (by decide) (by decide)
   | (with_reducible refine Keeps.ite (fun _ => ?_) (fun _ => ?_))
   | (with_reducible apply State.setFlag_keeps)
   | (with_reducible apply State.inc_keeps)
   | (with_reducible apply State.classS_keeps)
   | (with_reducible apply State.setNode_keeps)
   | (with_reducible refine Keeps.of_eq (by with_reducible assumption) ?_)
   | split
   | (extract_lets)
   | (with_reducible apply Keeps.set_hedge)
   | (dsimp only))

theorem State.sdEval_keeps {K : Nat} {s₀ s : State} (hK : K &&& 94708325843098 = 0) (h : Keeps K s₀ s) :
    Keeps K s₀ (State.sdEval s) := by
  unfold State.sdEval
  (try extract_lets)
  repeat' (first
   | (with_reducible assumption)
   | (with_reducible exact keeps_sub hK (by decide))
   | (with_reducible rfl)
   | (with_reducible refine Keeps.ite (fun _ => ?_) (fun _ => ?_))
   | (with_reducible apply State.heartbeatCheck_keeps)
   | (with_reducible apply State.reportBuiltins_keeps)
   | (with_reducible apply State.reportRules_keeps)
   | (with_reducible apply State.comparePaths_keeps)
   | (with_reducible apply State.addCauses_keeps)
   | (with_reducible refine Keeps.of_eq (by with_reducible assumption) ?_)
   | split
   | (extract_lets)
   | (with_reducible apply Keeps.set_hedge)
   | (dsimp only))

theorem execHedgeSdEval_keeps {K : Nat} {s t : State} (hK : K &&& 94708325847194 = 0) (h : s.Stored)
    (e : execHedgeSdEval s = .next t) : Keeps K s t := by
  unfold execHedgeSdEval at e
  have e := Host.Outcome.next.inj e
  subst e
  have h := Keeps.refl (K := K) h
  repeat' (first
   | (with_reducible assumption)
   | (with_reducible exact keeps_sub hK (by decide))
   | (with_reducible rfl)
   | (with_reducible refine Keeps.ite (fun _ => ?_) (fun _ => ?_))
   | (with_reducible apply State.cutAlarm_keeps)
   | (with_reducible apply State.sdEval_keeps)
   | (with_reducible apply State.applyActions_keeps)
   | (with_reducible refine Keeps.of_eq (by with_reducible assumption) ?_)
   | split
   | (extract_lets)
   | (dsimp only))

theorem execOrderlyOffOverrun_keeps {K : Nat} (group : Fin 8) {s t : State} (hK : K &&& 6597069930624 = 0) (h : s.Stored)
    (e : execOrderlyOffOverrun group s = .next t) : Keeps K s t := by
  unfold execOrderlyOffOverrun at e
  have e := Host.Outcome.next.inj e
  subst e
  have h := Keeps.refl (K := K) h
  repeat' (first
   | (with_reducible assumption)
   | (with_reducible exact keeps_sub hK (by decide))
   | (with_reducible rfl)
   | (with_reducible refine Keeps.ite (fun _ => ?_) (fun _ => ?_))
   | (with_reducible apply State.builtins_keeps)
   | (with_reducible apply State.applyActions_keeps)
   | (with_reducible refine Keeps.of_eq (by with_reducible assumption) ?_)
   | split
   | (extract_lets)
   | (with_reducible apply Keeps.set_hedge)
   | (dsimp only))

theorem execDockAccept_keeps {K : Nat} (level : Bool) {s t : State} (hK : K &&& 6597069930624 = 0) (h : s.Stored)
    (e : execDockAccept level s = .next t) : Keeps K s t := by
  unfold execDockAccept at e
  have e := Host.Outcome.next.inj e
  subst e
  have h := Keeps.refl (K := K) h
  repeat' (first
   | (with_reducible assumption)
   | (with_reducible exact keeps_sub hK (by decide))
   | (with_reducible rfl)
   | (with_reducible refine Keeps.ite (fun _ => ?_) (fun _ => ?_))
   | (with_reducible apply State.setNode_keeps)
   | (with_reducible refine Keeps.of_eq (by with_reducible assumption) ?_)
   | split
   | (extract_lets)
   | (with_reducible apply Keeps.set_hedge)
   | (dsimp only))

theorem State.dockWritten_keeps {K : Nat} {s₀ s : State} (hK : K &&& 6597069930624 = 0) (h : Keeps K s₀ s) :
    Keeps K s₀ (State.dockWritten s) := by
  unfold State.dockWritten
  (try extract_lets)
  repeat' (first
   | (with_reducible assumption)
   | (with_reducible exact keeps_sub hK (by decide))
   | (with_reducible rfl)
   | (with_reducible refine Keeps.ite (fun _ => ?_) (fun _ => ?_))
   | (with_reducible apply State.setNode_keeps)
   | (with_reducible refine Keeps.of_eq (by with_reducible assumption) ?_)
   | split
   | (extract_lets)
   | (dsimp only))

theorem execArmExpiry_keeps {K : Nat} (rule : Fin 32) {s t : State} (hK : K &&& 131072 = 0) (h : s.Stored)
    (e : execArmExpiry rule s = .next t) : Keeps K s t := by
  unfold execArmExpiry at e
  have e := Host.Outcome.next.inj e
  subst e
  have h := Keeps.refl (K := K) h
  repeat' (first
   | (with_reducible assumption)
   | (with_reducible exact keeps_sub hK (by decide))
   | (with_reducible rfl)
   | (with_reducible refine Keeps.ite (fun _ => ?_) (fun _ => ?_))
   | (with_reducible apply State.setArm_keeps)
   | (with_reducible refine Keeps.of_eq (by with_reducible assumption) ?_)
   | split
   | (extract_lets)
   | (dsimp only))

theorem State.armRelease_keeps {K : Nat} {s₀ s : State} (n : Fin 32) (hK : K &&& 131074 = 0) (h : Keeps K s₀ s) :
    Keeps K s₀ (State.armRelease s n).1 := by
  unfold State.armRelease
  (try extract_lets)
  repeat' (first
   | (with_reducible assumption)
   | (with_reducible exact keeps_sub hK (by decide))
   | (with_reducible rfl)
   | (with_reducible refine Keeps.ite (fun _ => ?_) (fun _ => ?_))
   | (with_reducible apply State.draw_keeps)
   | (with_reducible apply State.setArm_keeps)
   | (with_reducible refine Keeps.of_eq (by with_reducible assumption) ?_)
   | split
   | (extract_lets)
   | (dsimp only))

theorem execHedgeArmRelease_keeps {K : Nat} (r : Req) (rule : Byte) {s t : State} (hK : K &&& 26388282343690 = 0) (h : s.Stored)
    (e : execHedgeArmRelease r rule s = .next t) : Keeps K s t := by
  unfold execHedgeArmRelease at e
  have e := Host.Outcome.next.inj e
  subst e
  have h := Keeps.refl (K := K) h
  repeat' (first
   | (with_reducible assumption)
   | (with_reducible exact keeps_sub hK (by decide))
   | (with_reducible rfl)
   | (with_reducible refine Keeps.ite (fun _ => ?_) (fun _ => ?_))
   | (with_reducible apply State.armRelease_keeps)
   | (with_reducible apply State.awaitTurn_keeps)
   | (with_reducible apply State.command_keeps)
   | (with_reducible refine Keeps.of_eq (by with_reducible assumption) ?_)
   | (intro s h)
   | split
   | (extract_lets)
   | (dsimp only))

theorem State.releaseRule_keeps {K : Nat} {s₀ s : State} (r : Req) (n : Fin 32) (token : BitVec 16) (hK : K &&& 131072 = 0) (h : Keeps K s₀ s) :
    Keeps K s₀ (State.releaseRule s r n token).1 := by
  unfold State.releaseRule
  (try extract_lets)
  repeat' (first
   | (with_reducible assumption)
   | (with_reducible exact keeps_sub hK (by decide))
   | (with_reducible rfl)
   | (with_reducible refine Keeps.ite (fun _ => ?_) (fun _ => ?_))
   | (with_reducible apply State.setArm_keeps)
   | (with_reducible refine Keeps.of_eq (by with_reducible assumption) ?_)
   | split
   | (extract_lets)
   | (with_reducible apply Keeps.set_hedge)
   | (dsimp only))

theorem execHedgeRelease_keeps {K : Nat} (r : Req) (rule : Byte) (token : BitVec 16) {s t : State} (hK : K &&& 26388282343688 = 0) (h : s.Stored)
    (e : execHedgeRelease r rule token s = .next t) : Keeps K s t := by
  unfold execHedgeRelease at e
  have e := Host.Outcome.next.inj e
  subst e
  have h := Keeps.refl (K := K) h
  repeat' (first
   | (with_reducible assumption)
   | (with_reducible exact keeps_sub hK (by decide))
   | (with_reducible rfl)
   | (with_reducible refine Keeps.ite (fun _ => ?_) (fun _ => ?_))
   | (with_reducible apply State.awaitTurn_keeps)
   | (with_reducible apply State.command_keeps)
   | (with_reducible apply State.releaseRule_keeps)
   | (with_reducible refine Keeps.of_eq (by with_reducible assumption) ?_)
   | (intro s h)
   | split
   | (extract_lets)
   | (dsimp only))

theorem State.hbAccept_keeps {K : Nat} {s₀ s : State} (count : BitVec 16) (hK : K &&& 6734508884096 = 0) (h : Keeps K s₀ s) :
    Keeps K s₀ (State.hbAccept s count) := by
  unfold State.hbAccept
  (try extract_lets)
  repeat' (first
   | (with_reducible assumption)
   | (with_reducible exact keeps_sub hK (by decide))
   | (with_reducible rfl)
   | exact keeps_block hK 5 (by decide) (by decide)
   | (with_reducible refine Keeps.ite (fun _ => ?_) (fun _ => ?_))
   | (with_reducible apply State.setReg_keeps)
   | (with_reducible apply State.setNode_keeps)
   | (with_reducible refine Keeps.of_eq (by with_reducible assumption) ?_)
   | split
   | (extract_lets)
   | (with_reducible apply Keeps.set_hedge)
   | (dsimp only))

theorem execHeartbeat_keeps {K : Nat} (r : Req) (count : BitVec 16) {s t : State} (hK : K &&& 33122791096712 = 0) (h : s.Stored)
    (e : execHeartbeat r count s = .next t) : Keeps K s t := by
  unfold execHeartbeat at e
  have e := Host.Outcome.next.inj e
  subst e
  have h := Keeps.refl (K := K) h
  repeat' (first
   | (with_reducible assumption)
   | (with_reducible exact keeps_sub hK (by decide))
   | (with_reducible rfl)
   | (with_reducible refine Keeps.ite (fun _ => ?_) (fun _ => ?_))
   | (with_reducible apply State.command_keeps)
   | (with_reducible apply State.hbAccept_keeps)
   | (with_reducible refine Keeps.of_eq (by with_reducible assumption) ?_)
   | (intro s h)
   | split
   | (extract_lets)
   | (dsimp only))

theorem State.setSoft_keeps {K : Nat} {s₀ s : State} (v : BitVec 16) (hK : K &&& 6597069930624 = 0) (h : Keeps K s₀ s) :
    Keeps K s₀ (State.setSoft s v) := by
  unfold State.setSoft
  (try extract_lets)
  repeat' (first
   | (with_reducible assumption)
   | (with_reducible exact keeps_sub hK (by decide))
   | (with_reducible rfl)
   | (with_reducible refine Keeps.ite (fun _ => ?_) (fun _ => ?_))
   | (with_reducible apply State.setNode_keeps)
   | (with_reducible refine Keeps.foldl_range _ _ (fun s x hx h => ?_) ?_)
   | (with_reducible refine Keeps.foldl _ _ (fun s x h => ?_) ?_)
   | (with_reducible refine Keeps.foldl_fst _ _ (fun s x h => ?_) ?_)
   | (with_reducible refine Keeps.of_eq (by with_reducible assumption) ?_)
   | split
   | (extract_lets)
   | (dsimp only))

theorem execSoftNodeSet_keeps {K : Nat} (r : Req) (mask : BitVec 16) (values : BitVec 16) {s t : State} (hK : K &&& 32985352143240 = 0) (h : s.Stored)
    (e : execSoftNodeSet r mask values s = .next t) : Keeps K s t := by
  unfold execSoftNodeSet at e
  have e := Host.Outcome.next.inj e
  subst e
  have h := Keeps.refl (K := K) h
  repeat' (first
   | (with_reducible assumption)
   | (with_reducible exact keeps_sub hK (by decide))
   | (with_reducible rfl)
   | (with_reducible refine Keeps.ite (fun _ => ?_) (fun _ => ?_))
   | (with_reducible apply State.setSoft_keeps)
   | (with_reducible apply State.command_keeps)
   | (with_reducible refine Keeps.of_eq (by with_reducible assumption) ?_)
   | (intro s h)
   | split
   | (extract_lets)
   | (dsimp only))

theorem execSstopMismatchClear_keeps {K : Nat} (n : Fin 4) {s t : State} (hK : K &&& 6734508884096 = 0) (h : s.Stored)
    (e : execSstopMismatchClear n s = .next t) : Keeps K s t := by
  unfold execSstopMismatchClear at e
  have e := Host.Outcome.next.inj e
  subst e
  have h := Keeps.refl (K := K) h
  repeat' (first
   | (with_reducible assumption)
   | (with_reducible exact keeps_sub hK (by decide))
   | (with_reducible rfl)
   | exact keeps_block hK 5 (by decide) (by decide)
   | (with_reducible refine Keeps.ite (fun _ => ?_) (fun _ => ?_))
   | (with_reducible apply State.setFlag_keeps)
   | (with_reducible apply State.sstopNode_keeps)
   | (with_reducible refine Keeps.of_eq (by with_reducible assumption) ?_)
   | split
   | (extract_lets)
   | (with_reducible apply Keeps.set_hedge)
   | (dsimp only))

theorem execSafeStopPulseTest_keeps {K : Nat} (n : Fin 4) (readsLow : Bool) (taken : Bool) {s t : State} (hK : K &&& 6734508884096 = 0) (h : s.Stored)
    (e : execSafeStopPulseTest n readsLow taken s = .next t) : Keeps K s t := by
  unfold execSafeStopPulseTest at e
  have e := Host.Outcome.next.inj e
  subst e
  have h := Keeps.refl (K := K) h
  repeat' (first
   | (with_reducible assumption)
   | (with_reducible exact keeps_sub hK (by decide))
   | (with_reducible rfl)
   | exact keeps_block hK 5 (by decide) (by decide)
   | (with_reducible refine Keeps.ite (fun _ => ?_) (fun _ => ?_))
   | (with_reducible apply State.setFlag_keeps)
   | (with_reducible apply State.sstopNode_keeps)
   | (with_reducible refine Keeps.of_eq (by with_reducible assumption) ?_)
   | split
   | (extract_lets)
   | (dsimp only))

theorem State.sensorFault_keeps {K : Nat} {s₀ s : State} (b : Bool) (hK : K &&& 6734508884096 = 0) (h : Keeps K s₀ s) :
    Keeps K s₀ (State.sensorFault s b) := by
  unfold State.sensorFault
  (try extract_lets)
  repeat' (first
   | (with_reducible assumption)
   | (with_reducible exact keeps_sub hK (by decide))
   | (with_reducible rfl)
   | exact keeps_block hK 5 (by decide) (by decide)
   | (with_reducible refine Keeps.ite (fun _ => ?_) (fun _ => ?_))
   | (with_reducible apply State.setFlag_keeps)
   | (with_reducible apply State.setNode_keeps)
   | (with_reducible refine Keeps.of_eq (by with_reducible assumption) ?_)
   | split
   | (extract_lets)
   | (dsimp only))

theorem State.ssClear_keeps {K : Nat} {s₀ s : State} (hK : K &&& 6734508884096 = 0) (h : Keeps K s₀ s) :
    Keeps K s₀ (State.ssClear s) := by
  unfold State.ssClear
  (try extract_lets)
  repeat' (first
   | (with_reducible assumption)
   | (with_reducible exact keeps_sub hK (by decide))
   | (with_reducible rfl)
   | (with_reducible refine Keeps.ite (fun _ => ?_) (fun _ => ?_))
   | (with_reducible apply State.sensorFault_keeps)
   | (with_reducible refine Keeps.of_eq (by with_reducible assumption) ?_)
   | split
   | (extract_lets)
   | (dsimp only))

theorem State.ssPoll_keeps {K : Nat} {s₀ s : State} (rx : List Byte) (hK : K &&& 6734508884096 = 0) (h : Keeps K s₀ s) :
    Keeps K s₀ (State.ssPoll s rx) := by
  unfold State.ssPoll
  (try extract_lets)
  repeat' (first
   | (with_reducible assumption)
   | (with_reducible exact keeps_sub hK (by decide))
   | (with_reducible rfl)
   | exact keeps_block hK 5 (by decide) (by decide)
   | (with_reducible refine Keeps.ite (fun _ => ?_) (fun _ => ?_))
   | (with_reducible apply State.setFlag_keeps)
   | (with_reducible apply State.ssClear_keeps)
   | (with_reducible apply State.inc_keeps)
   | (with_reducible apply State.sensorFault_keeps)
   | (with_reducible refine Keeps.of_eq (by with_reducible assumption) ?_)
   | split
   | (extract_lets)
   | (with_reducible apply Keeps.set_hedge)
   | (dsimp only))

theorem execSsPoll_keeps {K : Nat} (rx : Vector Byte 16) {s t : State} (hK : K &&& 6734508884096 = 0) (h : s.Stored)
    (e : execSsPoll rx s = .next t) : Keeps K s t := by
  unfold execSsPoll at e
  have e := Host.Outcome.next.inj e
  subst e
  have h := Keeps.refl (K := K) h
  repeat' (first
   | (with_reducible assumption)
   | (with_reducible exact keeps_sub hK (by decide))
   | (with_reducible rfl)
   | (with_reducible refine Keeps.ite (fun _ => ?_) (fun _ => ?_))
   | (with_reducible apply State.ssPoll_keeps)
   | (with_reducible refine Keeps.of_eq (by with_reducible assumption) ?_)
   | split
   | (extract_lets)
   | (dsimp only))

theorem State.ssIdentity_keeps {K : Nat} {s₀ s : State} (id : Byte) (hK : K &&& 6734508884096 = 0) (h : Keeps K s₀ s) :
    Keeps K s₀ (State.ssIdentity s id) := by
  unfold State.ssIdentity
  (try extract_lets)
  repeat' (first
   | (with_reducible assumption)
   | (with_reducible exact keeps_sub hK (by decide))
   | (with_reducible rfl)
   | exact keeps_block hK 5 (by decide) (by decide)
   | (with_reducible refine Keeps.ite (fun _ => ?_) (fun _ => ?_))
   | (with_reducible apply State.setFlag_keeps)
   | (with_reducible apply State.ssClear_keeps)
   | (with_reducible apply State.inc_keeps)
   | (with_reducible apply State.sensorFault_keeps)
   | (with_reducible refine Keeps.of_eq (by with_reducible assumption) ?_)
   | split
   | (extract_lets)
   | (with_reducible apply Keeps.set_hedge)
   | (dsimp only))

theorem execSsIdentityCheck_keeps {K : Nat} (id : Byte) {s t : State} (hK : K &&& 6734508884096 = 0) (h : s.Stored)
    (e : execSsIdentityCheck id s = .next t) : Keeps K s t := by
  unfold execSsIdentityCheck at e
  have e := Host.Outcome.next.inj e
  subst e
  have h := Keeps.refl (K := K) h
  repeat' (first
   | (with_reducible assumption)
   | (with_reducible exact keeps_sub hK (by decide))
   | (with_reducible rfl)
   | (with_reducible refine Keeps.ite (fun _ => ?_) (fun _ => ?_))
   | (with_reducible apply State.ssIdentity_keeps)
   | (with_reducible refine Keeps.of_eq (by with_reducible assumption) ?_)
   | split
   | (extract_lets)
   | (dsimp only))

theorem State.storeRef_keeps {K : Nat} {s₀ s : State} (r : Int × Int × Int) (hK : K &&& 137439084544 = 0) (h : Keeps K s₀ s) :
    Keeps K s₀ (State.storeRef s r) := by
  unfold State.storeRef
  (try extract_lets)
  repeat' (first
   | (with_reducible assumption)
   | (with_reducible exact keeps_sub hK (by decide))
   | (with_reducible rfl)
   | exact keeps_block hK 5 (by decide) (by decide)
   | (with_reducible refine Keeps.ite (fun _ => ?_) (fun _ => ?_))
   | (with_reducible apply State.setReg_keeps)
   | (with_reducible apply State.setFlag_keeps)
   | (with_reducible apply State.setFld_keeps)
   | (with_reducible refine Keeps.of_eq (by with_reducible assumption) ?_)
   | split
   | (extract_lets)
   | (with_reducible apply Keeps.set_hedge)
   | (dsimp only))

theorem State.planRef_keeps {K : Nat} {s₀ s : State} (hK : K &&& 137439084544 = 0) (h : Keeps K s₀ s) :
    Keeps K s₀ (State.planRef s) := by
  unfold State.planRef
  (try extract_lets)
  repeat' (first
   | (with_reducible assumption)
   | (with_reducible exact keeps_sub hK (by decide))
   | (with_reducible rfl)
   | (with_reducible refine Keeps.ite (fun _ => ?_) (fun _ => ?_))
   | (with_reducible apply State.storeRef_keeps)
   | (with_reducible refine Keeps.of_eq (by with_reducible assumption) ?_)
   | split
   | (extract_lets)
   | (dsimp only))

theorem State.ssReference_keeps {K : Nat} {s₀ s : State} (a : Int × Int × Int) (hK : K &&& 137439084546 = 0) (h : Keeps K s₀ s) :
    Keeps K s₀ (State.ssReference s a) := by
  unfold State.ssReference
  (try extract_lets)
  repeat' (first
   | (with_reducible assumption)
   | (with_reducible exact keeps_sub hK (by decide))
   | (with_reducible rfl)
   | (with_reducible refine Keeps.ite (fun _ => ?_) (fun _ => ?_))
   | (with_reducible apply State.draw_keeps)
   | (with_reducible apply State.storeRef_keeps)
   | (with_reducible refine Keeps.of_eq (by with_reducible assumption) ?_)
   | split
   | (extract_lets)
   | (with_reducible apply Keeps.set_hedge)
   | (dsimp only))

theorem State.setTilt_keeps {K : Nat} {s₀ s : State} (b : Bool) (hK : K &&& 6734508884096 = 0) (h : Keeps K s₀ s) :
    Keeps K s₀ (State.setTilt s b) := by
  unfold State.setTilt
  (try extract_lets)
  repeat' (first
   | (with_reducible assumption)
   | (with_reducible exact keeps_sub hK (by decide))
   | (with_reducible rfl)
   | exact keeps_block hK 5 (by decide) (by decide)
   | (with_reducible refine Keeps.ite (fun _ => ?_) (fun _ => ?_))
   | (with_reducible apply State.setFlag_keeps)
   | (with_reducible apply State.setNode_keeps)
   | (with_reducible refine Keeps.of_eq (by with_reducible assumption) ?_)
   | split
   | (extract_lets)
   | (dsimp only))

theorem State.sampleAngle_keeps {K : Nat} {s₀ s : State} (a : Int × Int × Int) (r : Int × Int × Int) (hK : K &&& 2 = 0) (h : Keeps K s₀ s) :
    Keeps K s₀ (State.sampleAngle s a r).1 := by
  unfold State.sampleAngle
  (try extract_lets)
  repeat' (first
   | (with_reducible assumption)
   | (with_reducible exact keeps_sub hK (by decide))
   | (with_reducible rfl)
   | (with_reducible refine Keeps.ite (fun _ => ?_) (fun _ => ?_))
   | (with_reducible apply State.draw_keeps)
   | (with_reducible refine Keeps.of_eq (by with_reducible assumption) ?_)
   | split
   | (extract_lets)
   | (dsimp only))

theorem State.ssTilt_keeps {K : Nat} {s₀ s : State} (a : Int × Int × Int) (r : Int × Int × Int) (hK : K &&& 6734508884098 = 0) (h : Keeps K s₀ s) :
    Keeps K s₀ (State.ssTilt s a r) := by
  unfold State.ssTilt
  (try extract_lets)
  repeat' (first
   | (with_reducible assumption)
   | (with_reducible exact keeps_sub hK (by decide))
   | (with_reducible rfl)
   | exact keeps_block hK 5 (by decide) (by decide)
   | (with_reducible refine Keeps.ite (fun _ => ?_) (fun _ => ?_))
   | (with_reducible apply State.setFld_keeps)
   | (with_reducible apply State.sampleAngle_keeps)
   | (with_reducible apply State.setTilt_keeps)
   | (with_reducible refine Keeps.of_eq (by with_reducible assumption) ?_)
   | split
   | (extract_lets)
   | (with_reducible apply Keeps.set_hedge)
   | (dsimp only))

theorem State.ssProcess_keeps {K : Nat} {s₀ s : State} (hK : K &&& 6734508884098 = 0) (h : Keeps K s₀ s) :
    Keeps K s₀ (State.ssProcess s) := by
  unfold State.ssProcess
  (try extract_lets)
  repeat' (first
   | (with_reducible assumption)
   | (with_reducible exact keeps_sub hK (by decide))
   | (with_reducible rfl)
   | exact keeps_block hK 5 (by decide) (by decide)
   | (with_reducible refine Keeps.ite (fun _ => ?_) (fun _ => ?_))
   | (with_reducible apply State.setReg_keeps)
   | (with_reducible apply State.ssTilt_keeps)
   | (with_reducible apply State.setFld_keeps)
   | (with_reducible apply State.ssReference_keeps)
   | (with_reducible refine Keeps.of_eq (by with_reducible assumption) ?_)
   | split
   | (extract_lets)
   | (with_reducible apply Keeps.set_hedge)
   | (dsimp only))

theorem execSsSampleProcess_keeps {K : Nat} {s t : State} (hK : K &&& 6734508884098 = 0) (h : s.Stored)
    (e : execSsSampleProcess s = .next t) : Keeps K s t := by
  unfold execSsSampleProcess at e
  have e := Host.Outcome.next.inj e
  subst e
  have h := Keeps.refl (K := K) h
  repeat' (first
   | (with_reducible assumption)
   | (with_reducible exact keeps_sub hK (by decide))
   | (with_reducible rfl)
   | (with_reducible refine Keeps.ite (fun _ => ?_) (fun _ => ?_))
   | (with_reducible apply State.ssProcess_keeps)
   | (with_reducible refine Keeps.of_eq (by with_reducible assumption) ?_)
   | split
   | (extract_lets)
   | (dsimp only))

theorem State.hedgeCntClr_keeps {K : Nat} {s₀ s : State} (v : Word) (hK : K &&& 137438953472 = 0) (h : Keeps K s₀ s) :
    Keeps K s₀ (State.hedgeCntClr s v) := by
  unfold State.hedgeCntClr
  (try extract_lets)
  repeat' (first
   | (with_reducible assumption)
   | (with_reducible exact keeps_sub hK (by decide))
   | (with_reducible rfl)
   | (with_reducible refine Keeps.ite (fun _ => ?_) (fun _ => ?_))
   | (with_reducible refine State.clearBy_keeps _ _ 5 (by decide) (keeps_bit hK (by decide)) ?_)
   | (with_reducible refine Keeps.of_eq (by with_reducible assumption) ?_)
   | split
   | (extract_lets)
   | (dsimp only))

end Sys2Proof.Machine
end

