-- ==== Sys2Proof/Laws/KeepsSequencer.lean ====
section
/-! SUPPORT. What the operations and commands of Machine/Sequencer.lean leave unchanged: one lemma for each, its mask the parts it
may write. -/

set_option linter.all false

namespace Sys2Proof.Machine

theorem State.riseWait_keeps {K : Nat} {s₀ s : State} (n : Fin 24) (hK : K &&& 824633723008 = 0) (h : Keeps K s₀ s) :
    Keeps K s₀ (State.riseWait s n) := by
  unfold State.riseWait
  (try extract_lets)
  repeat' (first
   | (with_reducible assumption)
   | (with_reducible exact keeps_sub hK (by decide))
   | (with_reducible rfl)
   | (with_reducible refine Keeps.ite (fun _ => ?_) (fun _ => ?_))
   | (with_reducible apply State.setRail_keeps)
   | (with_reducible refine Keeps.of_eq (by with_reducible assumption) ?_)
   | split
   | (extract_lets)
   | (with_reducible apply Keeps.set_seq)
   | (dsimp only))

theorem State.riseStep_keeps {K : Nat} {s₀ s : State} (hK : K &&& 824633723008 = 0) (h : Keeps K s₀ s) :
    Keeps K s₀ (State.riseStep s) := by
  unfold State.riseStep
  (try extract_lets)
  repeat' (first
   | (with_reducible assumption)
   | (with_reducible exact keeps_sub hK (by decide))
   | (with_reducible rfl)
   | (with_reducible refine Keeps.ite (fun _ => ?_) (fun _ => ?_))
   | (with_reducible apply State.setRail_keeps)
   | (with_reducible apply State.riseWait_keeps)
   | (with_reducible refine Keeps.foldl _ _ (fun s x h => ?_) ?_)
   | (with_reducible refine Keeps.foldl_fst _ _ (fun s x h => ?_) ?_)
   | (with_reducible refine Keeps.of_eq (by with_reducible assumption) ?_)
   | split
   | (extract_lets)
   | (dsimp only))

theorem State.downRail_keeps {K : Nat} {s₀ s : State} (n : Fin 24) (hK : K &&& 824633723008 = 0) (h : Keeps K s₀ s) :
    Keeps K s₀ (State.downRail s n) := by
  unfold State.downRail
  (try extract_lets)
  repeat' (first
   | (with_reducible assumption)
   | (with_reducible exact keeps_sub hK (by decide))
   | (with_reducible rfl)
   | (with_reducible refine Keeps.ite (fun _ => ?_) (fun _ => ?_))
   | (with_reducible apply State.setRail_keeps)
   | (with_reducible refine Keeps.of_eq (by with_reducible assumption) ?_)
   | split
   | (extract_lets)
   | (dsimp only))

theorem State.downStep_keeps {K : Nat} {s₀ s : State} (hK : K &&& 824633723008 = 0) (h : Keeps K s₀ s) :
    Keeps K s₀ (State.downStep s) := by
  unfold State.downStep
  (try extract_lets)
  repeat' (first
   | (with_reducible assumption)
   | (with_reducible exact keeps_sub hK (by decide))
   | (with_reducible rfl)
   | (with_reducible refine Keeps.ite (fun _ => ?_) (fun _ => ?_))
   | (with_reducible apply State.downRail_keeps)
   | (with_reducible apply State.setRail_keeps)
   | (with_reducible refine Keeps.foldl_range _ _ (fun s x hx h => ?_) ?_)
   | (with_reducible refine Keeps.foldl _ _ (fun s x h => ?_) ?_)
   | (with_reducible refine Keeps.foldl_fst _ _ (fun s x h => ?_) ?_)
   | (with_reducible refine Keeps.of_eq (by with_reducible assumption) ?_)
   | split
   | (extract_lets)
   | (dsimp only))

theorem State.offStep_keeps {K : Nat} {s₀ s : State} (hK : K &&& 824633723008 = 0) (h : Keeps K s₀ s) :
    Keeps K s₀ (State.offStep s) := by
  unfold State.offStep
  (try extract_lets)
  repeat' (first
   | (with_reducible assumption)
   | (with_reducible exact keeps_sub hK (by decide))
   | (with_reducible rfl)
   | exact keeps_block hK 6 (by decide) (by decide)
   | exact keeps_block hK 6 (by simp only [Reg.SEQ_RAIL_STATUS]; omega) (by decide)
   | (with_reducible refine Keeps.ite (fun _ => ?_) (fun _ => ?_))
   | (with_reducible apply State.setFlag_keeps)
   | (with_reducible apply State.setRail_keeps)
   | (with_reducible refine Keeps.foldl _ _ (fun s x h => ?_) ?_)
   | (with_reducible refine Keeps.foldl_fst _ _ (fun s x h => ?_) ?_)
   | (with_reducible refine Keeps.of_eq (by with_reducible assumption) ?_)
   | split
   | (extract_lets)
   | (dsimp only))

theorem State.railSteps_keeps {K : Nat} {s₀ s : State} (hK : K &&& 824633723008 = 0) (h : Keeps K s₀ s) :
    Keeps K s₀ (State.railSteps s) := by
  unfold State.railSteps
  (try extract_lets)
  repeat' (first
   | (with_reducible assumption)
   | (with_reducible exact keeps_sub hK (by decide))
   | (with_reducible rfl)
   | (with_reducible refine Keeps.ite (fun _ => ?_) (fun _ => ?_))
   | (with_reducible apply State.offStep_keeps)
   | (with_reducible apply State.riseStep_keeps)
   | (with_reducible apply State.downStep_keeps)
   | (with_reducible refine Keeps.of_eq (by with_reducible assumption) ?_)
   | split
   | (extract_lets)
   | (dsimp only))

theorem State.joinGroups_keeps {K : Nat} {s₀ s : State} (g : BitVec 8) (hK : K &&& 2048 = 0) (h : Keeps K s₀ s) :
    Keeps K s₀ (State.joinGroups s g) := by
  unfold State.joinGroups
  (try extract_lets)
  repeat' (first
   | (with_reducible assumption)
   | (with_reducible exact keeps_sub hK (by decide))
   | (with_reducible rfl)
   | (with_reducible refine Keeps.ite (fun _ => ?_) (fun _ => ?_))
   | (with_reducible refine Keeps.of_eq (by with_reducible assumption) ?_)
   | split
   | (extract_lets)
   | (with_reducible apply Keeps.set_seq)
   | (dsimp only))

theorem State.enterWaits_keeps {K : Nat} {s₀ s : State} (hK : K &&& 824633723008 = 0) (h : Keeps K s₀ s) :
    Keeps K s₀ (State.enterWaits s) := by
  unfold State.enterWaits
  (try extract_lets)
  repeat' (first
   | (with_reducible assumption)
   | (with_reducible exact keeps_sub hK (by decide))
   | (with_reducible rfl)
   | (with_reducible refine Keeps.ite (fun _ => ?_) (fun _ => ?_))
   | (with_reducible apply State.setRails_keeps)
   | (with_reducible refine Keeps.of_eq (by with_reducible assumption) ?_)
   | split
   | (extract_lets)
   | (dsimp only))

theorem State.startUp_keeps {K : Nat} {s₀ s : State} (g : BitVec 8) (hK : K &&& 824633723008 = 0) (h : Keeps K s₀ s) :
    Keeps K s₀ (State.startUp s g) := by
  unfold State.startUp
  (try extract_lets)
  repeat' (first
   | (with_reducible assumption)
   | (with_reducible exact keeps_sub hK (by decide))
   | (with_reducible rfl)
   | (with_reducible refine Keeps.ite (fun _ => ?_) (fun _ => ?_))
   | (with_reducible apply State.enterWaits_keeps)
   | (with_reducible apply State.joinGroups_keeps)
   | (with_reducible refine Keeps.of_eq (by with_reducible assumption) ?_)
   | split
   | (extract_lets)
   | (dsimp only))

theorem State.requestGroups_keeps {K : Nat} {s₀ s : State} (g : BitVec 8) (hK : K &&& 6144 = 0) (h : Keeps K s₀ s) :
    Keeps K s₀ (State.requestGroups s g) := by
  unfold State.requestGroups
  (try extract_lets)
  repeat' (first
   | (with_reducible assumption)
   | (with_reducible exact keeps_sub hK (by decide))
   | (with_reducible rfl)
   | (with_reducible refine Keeps.ite (fun _ => ?_) (fun _ => ?_))
   | (with_reducible apply State.joinGroups_keeps)
   | (with_reducible refine Keeps.of_eq (by with_reducible assumption) ?_)
   | split
   | (extract_lets)
   | (with_reducible apply Keeps.set_herd)
   | (dsimp only))

theorem State.startGroups_keeps {K : Nat} {s₀ s : State} (g : BitVec 8) (hK : K &&& 824633727104 = 0) (h : Keeps K s₀ s) :
    Keeps K s₀ (State.startGroups s g) := by
  unfold State.startGroups
  (try extract_lets)
  repeat' (first
   | (with_reducible assumption)
   | (with_reducible exact keeps_sub hK (by decide))
   | (with_reducible rfl)
   | (with_reducible refine Keeps.ite (fun _ => ?_) (fun _ => ?_))
   | (with_reducible apply State.enterWaits_keeps)
   | (with_reducible apply State.requestGroups_keeps)
   | (with_reducible refine Keeps.of_eq (by with_reducible assumption) ?_)
   | split
   | (extract_lets)
   | (dsimp only))

theorem State.markRemoved_keeps {K : Nat} {s₀ s : State} (cause : Nat) (hK : K &&& 2048 = 0) (h : Keeps K s₀ s) :
    Keeps K s₀ (State.markRemoved s cause) := by
  unfold State.markRemoved
  (try extract_lets)
  repeat' (first
   | (with_reducible assumption)
   | (with_reducible exact keeps_sub hK (by decide))
   | (with_reducible rfl)
   | (with_reducible refine Keeps.ite (fun _ => ?_) (fun _ => ?_))
   | (with_reducible refine Keeps.of_eq (by with_reducible assumption) ?_)
   | split
   | (extract_lets)
   | (with_reducible apply Keeps.set_seq)
   | (dsimp only))

theorem State.startDown_keeps {K : Nat} {s₀ s : State} (g : BitVec 8) (cause : Nat) (hK : K &&& 2048 = 0) (h : Keeps K s₀ s) :
    Keeps K s₀ (State.startDown s g cause) := by
  unfold State.startDown
  (try extract_lets)
  repeat' (first
   | (with_reducible assumption)
   | (with_reducible exact keeps_sub hK (by decide))
   | (with_reducible rfl)
   | (with_reducible refine Keeps.ite (fun _ => ?_) (fun _ => ?_))
   | (with_reducible apply State.markRemoved_keeps)
   | (with_reducible refine Keeps.of_eq (by with_reducible assumption) ?_)
   | split
   | (extract_lets)
   | (with_reducible apply Keeps.set_seq)
   | (dsimp only))

theorem State.enterStartFail_keeps {K : Nat} {s₀ s : State} (hK : K &&& 2176 = 0) (h : Keeps K s₀ s) :
    Keeps K s₀ (State.enterStartFail s) := by
  unfold State.enterStartFail
  (try extract_lets)
  repeat' (first
   | (with_reducible assumption)
   | (with_reducible exact keeps_sub hK (by decide))
   | (with_reducible rfl)
   | (with_reducible refine Keeps.ite (fun _ => ?_) (fun _ => ?_))
   | (with_reducible apply State.postSeqDone_keeps)
   | (with_reducible refine Keeps.of_eq (by with_reducible assumption) ?_)
   | split
   | (extract_lets)
   | (with_reducible apply Keeps.set_seq)
   | (dsimp only))

theorem State.afterShutdown_keeps {K : Nat} {s₀ s : State} (kind : Nat) (rest : Bool) (cut : Bool) (p' : Time) (hK : K &&& 2176 = 0) (h : Keeps K s₀ s) :
    Keeps K s₀ (State.afterShutdown s kind rest cut p') := by
  unfold State.afterShutdown
  (try extract_lets)
  repeat' (first
   | (with_reducible assumption)
   | (with_reducible exact keeps_sub hK (by decide))
   | (with_reducible rfl)
   | (with_reducible refine Keeps.ite (fun _ => ?_) (fun _ => ?_))
   | (with_reducible apply State.postSeqDone_keeps)
   | (with_reducible apply State.enterStartFail_keeps)
   | (with_reducible refine Keeps.of_eq (by with_reducible assumption) ?_)
   | split
   | (extract_lets)
   | (with_reducible apply Keeps.set_seq)
   | (dsimp only))

theorem State.endDown_keeps {K : Nat} {s₀ s : State} (hK : K &&& 27212915947912 = 0) (h : Keeps K s₀ s) :
    Keeps K s₀ (State.endDown s) := by
  unfold State.endDown
  (try extract_lets)
  repeat' (first
   | (with_reducible assumption)
   | (with_reducible exact keeps_sub hK (by decide))
   | (with_reducible rfl)
   | (with_reducible refine Keeps.ite (fun _ => ?_) (fun _ => ?_))
   | (with_reducible apply State.postSeqDoneOf_keeps)
   | (with_reducible apply State.enterWaits_keeps)
   | (with_reducible apply State.snapshot_keeps)
   | (with_reducible apply State.requestGroups_keeps)
   | (with_reducible apply State.finishOffs_keeps)
   | (with_reducible refine Keeps.of_eq (by with_reducible assumption) ?_)
   | split
   | (extract_lets)
   | (with_reducible apply Keeps.set_seq)
   | (dsimp only))

theorem State.startPending_keeps {K : Nat} {s₀ s : State} (hK : K &&& 824633727104 = 0) (h : Keeps K s₀ s) :
    Keeps K s₀ (State.startPending s) := by
  unfold State.startPending
  (try extract_lets)
  repeat' (first
   | (with_reducible assumption)
   | (with_reducible exact keeps_sub hK (by decide))
   | (with_reducible rfl)
   | (with_reducible refine Keeps.ite (fun _ => ?_) (fun _ => ?_))
   | (with_reducible apply State.startGroups_keeps)
   | (with_reducible apply State.startUp_keeps)
   | (with_reducible refine Keeps.of_eq (by with_reducible assumption) ?_)
   | split
   | (extract_lets)
   | (with_reducible apply Keeps.set_seq)
   | (dsimp only))

theorem State.seqEnds_keeps {K : Nat} {s₀ s : State} (hK : K &&& 27212915947912 = 0) (h : Keeps K s₀ s) :
    Keeps K s₀ (State.seqEnds s) := by
  unfold State.seqEnds
  (try extract_lets)
  repeat' (first
   | (with_reducible assumption)
   | (with_reducible exact keeps_sub hK (by decide))
   | (with_reducible rfl)
   | (with_reducible refine Keeps.ite (fun _ => ?_) (fun _ => ?_))
   | (with_reducible apply State.startPending_keeps)
   | (with_reducible apply State.postSeqDone_keeps)
   | (with_reducible apply State.endDown_keeps)
   | (with_reducible apply State.enterStartFail_keeps)
   | (with_reducible apply State.snapshot_keeps)
   | (with_reducible apply State.afterShutdown_keeps)
   | (with_reducible apply State.finishOffs_keeps)
   | (with_reducible refine Keeps.of_eq (by with_reducible assumption) ?_)
   | split
   | (extract_lets)
   | (with_reducible apply Keeps.set_seq)
   | (with_reducible apply Keeps.set_herd)
   | (with_reducible apply Keeps.set_sup)
   | (dsimp only))

theorem State.finishOns_keeps {K : Nat} {s₀ s : State} (hK : K &&& 26388282214664 = 0) (h : Keeps K s₀ s) :
    Keeps K s₀ (State.finishOns s) := by
  unfold State.finishOns
  (try extract_lets)
  repeat' (first
   | (with_reducible assumption)
   | (with_reducible exact keeps_sub hK (by decide))
   | (with_reducible rfl)
   | (with_reducible refine Keeps.ite (fun _ => ?_) (fun _ => ?_))
   | (with_reducible apply State.complete_keeps)
   | (with_reducible refine Keeps.foldl _ _ (fun s x h => ?_) ?_)
   | (with_reducible refine Keeps.foldl_fst _ _ (fun s x h => ?_) ?_)
   | (with_reducible refine Keeps.of_eq (by with_reducible assumption) ?_)
   | split
   | (extract_lets)
   | (with_reducible apply Keeps.set_seq)
   | (dsimp only))

theorem State.advance_keeps {K : Nat} {s₀ s : State} (hK : K &&& 27212915947912 = 0) (h : Keeps K s₀ s) :
    Keeps K s₀ (State.advance s) := by
  unfold State.advance
  (try extract_lets)
  repeat' (first
   | (with_reducible assumption)
   | (with_reducible exact keeps_sub hK (by decide))
   | (with_reducible rfl)
   | (with_reducible refine Keeps.ite (fun _ => ?_) (fun _ => ?_))
   | (with_reducible apply State.railSteps_keeps)
   | (with_reducible apply State.seqEnds_keeps)
   | (with_reducible apply State.finishOns_keeps)
   | (with_reducible refine Keeps.of_eq (by with_reducible assumption) ?_)
   | split
   | (extract_lets)
   | (dsimp only))

theorem State.offLocal_keeps {K : Nat} {s₀ s : State} (g : BitVec 8) (cause : Nat) (hK : K &&& 26388282214792 = 0) (h : Keeps K s₀ s) :
    Keeps K s₀ (State.offLocal s g cause) := by
  unfold State.offLocal
  (try extract_lets)
  repeat' (first
   | (with_reducible assumption)
   | (with_reducible exact keeps_sub hK (by decide))
   | (with_reducible rfl)
   | (with_reducible refine Keeps.ite (fun _ => ?_) (fun _ => ?_))
   | (with_reducible apply State.postSeqDone_keeps)
   | (with_reducible apply State.startDown_keeps)
   | (with_reducible apply State.abortOns_keeps)
   | (with_reducible refine Keeps.of_eq (by with_reducible assumption) ?_)
   | split
   | (extract_lets)
   | (with_reducible apply Keeps.set_seq)
   | (dsimp only))

theorem State.issueCall_keeps {K : Nat} {s₀ s : State} (hK : K &&& 4096 = 0) (h : Keeps K s₀ s) :
    Keeps K s₀ (State.issueCall s) := by
  unfold State.issueCall
  (try extract_lets)
  repeat' (first
   | (with_reducible assumption)
   | (with_reducible exact keeps_sub hK (by decide))
   | (with_reducible rfl)
   | (with_reducible refine Keeps.ite (fun _ => ?_) (fun _ => ?_))
   | (with_reducible apply State.herdLow_keeps)
   | (with_reducible refine Keeps.of_eq (by with_reducible assumption) ?_)
   | split
   | (extract_lets)
   | (with_reducible apply Keeps.set_herd)
   | (dsimp only))

theorem State.offTake_keeps {K : Nat} {s₀ s : State} (g : BitVec 8) (cause : Nat) (hK : K &&& 26663160125832 = 0) (h : Keeps K s₀ s) :
    Keeps K s₀ (State.offTake s g cause).1 := by
  unfold State.offTake
  (try extract_lets)
  repeat' (first
   | (with_reducible assumption)
   | (with_reducible exact keeps_sub hK (by decide))
   | (with_reducible rfl)
   | (with_reducible refine Keeps.ite (fun _ => ?_) (fun _ => ?_))
   | (with_reducible apply State.offLocal_keeps)
   | (with_reducible apply State.herdAbort_keeps)
   | (with_reducible apply State.issueCall_keeps)
   | (with_reducible refine Keeps.of_eq (by with_reducible assumption) ?_)
   | split
   | (extract_lets)
   | (with_reducible apply Keeps.set_seq)
   | (dsimp only))

theorem State.orderlyOff_keeps {K : Nat} {s₀ s : State} (hK : K &&& 26663160125832 = 0) (h : Keeps K s₀ s) :
    Keeps K s₀ (State.orderlyOff s) := by
  unfold State.orderlyOff
  (try extract_lets)
  repeat' (first
   | (with_reducible assumption)
   | (with_reducible exact keeps_sub hK (by decide))
   | (with_reducible rfl)
   | (with_reducible refine Keeps.ite (fun _ => ?_) (fun _ => ?_))
   | (with_reducible apply State.offTake_keeps)
   | (with_reducible refine Keeps.foldl_range _ _ (fun s x hx h => ?_) ?_)
   | (with_reducible refine Keeps.foldl _ _ (fun s x h => ?_) ?_)
   | (with_reducible refine Keeps.foldl_fst _ _ (fun s x h => ?_) ?_)
   | (with_reducible refine Keeps.of_eq (by with_reducible assumption) ?_)
   | split
   | (extract_lets)
   | (with_reducible apply Keeps.set_seq)
   | (dsimp only))

theorem State.planStart_keeps {K : Nat} {s₀ s : State} (hK : K &&& 824633727104 = 0) (h : Keeps K s₀ s) :
    Keeps K s₀ (State.planStart s) := by
  unfold State.planStart
  (try extract_lets)
  repeat' (first
   | (with_reducible assumption)
   | (with_reducible exact keeps_sub hK (by decide))
   | (with_reducible rfl)
   | (with_reducible refine Keeps.ite (fun _ => ?_) (fun _ => ?_))
   | (with_reducible apply State.postSeqDone_keeps)
   | (with_reducible apply State.startGroups_keeps)
   | (with_reducible refine Keeps.of_eq (by with_reducible assumption) ?_)
   | split
   | (extract_lets)
   | (with_reducible apply Keeps.set_seq)
   | (dsimp only))

theorem State.planPoint_keeps {K : Nat} {s₀ s : State} (hK : K &&& 824633727104 = 0) (h : Keeps K s₀ s) :
    Keeps K s₀ (State.planPoint s) := by
  unfold State.planPoint
  (try extract_lets)
  repeat' (first
   | (with_reducible assumption)
   | (with_reducible exact keeps_sub hK (by decide))
   | (with_reducible rfl)
   | (with_reducible refine Keeps.ite (fun _ => ?_) (fun _ => ?_))
   | (with_reducible apply State.planStart_keeps)
   | (with_reducible refine Keeps.of_eq (by with_reducible assumption) ?_)
   | split
   | (extract_lets)
   | (dsimp only))

theorem State.enterFaultOff_keeps {K : Nat} {s₀ s : State} (hK : K &&& 27212915947912 = 0) (h : Keeps K s₀ s) :
    Keeps K s₀ (State.enterFaultOff s) := by
  unfold State.enterFaultOff
  (try extract_lets)
  repeat' (first
   | (with_reducible assumption)
   | (with_reducible exact keeps_sub hK (by decide))
   | (with_reducible rfl)
   | (with_reducible refine Keeps.ite (fun _ => ?_) (fun _ => ?_))
   | (with_reducible apply State.enterShutdown_keeps)
   | (with_reducible apply State.setRails_keeps)
   | (with_reducible apply State.cutRails_keeps)
   | (with_reducible refine Keeps.of_eq (by with_reducible assumption) ?_)
   | split
   | (extract_lets)
   | (with_reducible apply Keeps.set_sup)
   | (dsimp only))

theorem State.enterVinDown_keeps {K : Nat} {s₀ s : State} (hK : K &&& 27212915939720 = 0) (h : Keeps K s₀ s) :
    Keeps K s₀ (State.enterVinDown s) := by
  unfold State.enterVinDown
  (try extract_lets)
  repeat' (first
   | (with_reducible assumption)
   | (with_reducible exact keeps_sub hK (by decide))
   | (with_reducible rfl)
   | (with_reducible refine Keeps.ite (fun _ => ?_) (fun _ => ?_))
   | (with_reducible apply State.herdAlarm_keeps)
   | (with_reducible apply State.enterShutdown_keeps)
   | (with_reducible apply State.herdAbort_keeps)
   | (with_reducible apply State.cutRails_keeps)
   | (with_reducible refine Keeps.of_eq (by with_reducible assumption) ?_)
   | split
   | (extract_lets)
   | (dsimp only))

theorem State.enterCut_keeps {K : Nat} {s₀ s : State} (hK : K &&& 27212915939720 = 0) (h : Keeps K s₀ s) :
    Keeps K s₀ (State.enterCut s) := by
  unfold State.enterCut
  (try extract_lets)
  repeat' (first
   | (with_reducible assumption)
   | (with_reducible exact keeps_sub hK (by decide))
   | (with_reducible rfl)
   | (with_reducible refine Keeps.ite (fun _ => ?_) (fun _ => ?_))
   | (with_reducible apply State.enterShutdown_keeps)
   | (with_reducible apply State.herdAbort_keeps)
   | (with_reducible apply State.cutRails_keeps)
   | (with_reducible refine Keeps.of_eq (by with_reducible assumption) ?_)
   | split
   | (extract_lets)
   | (dsimp only))

theorem State.startFailures_keeps {K : Nat} {s₀ s : State} (timed : BitVec 24) (hK : K &&& 27212915939720 = 0) (h : Keeps K s₀ s) :
    Keeps K s₀ (State.startFailures s timed) := by
  unfold State.startFailures
  (try extract_lets)
  repeat' (first
   | (with_reducible assumption)
   | (with_reducible exact keeps_sub hK (by decide))
   | (with_reducible rfl)
   | (with_reducible refine Keeps.ite (fun _ => ?_) (fun _ => ?_))
   | (with_reducible apply State.startFailure_keeps)
   | (with_reducible refine Keeps.of_eq (by with_reducible assumption) ?_)
   | split
   | (extract_lets)
   | (with_reducible apply Keeps.set_seq)
   | (dsimp only))

theorem State.sample_keeps {K : Nat} {s₀ s : State} (timed : BitVec 24) (hK : K &&& 27212915947912 = 0) (h : Keeps K s₀ s) :
    Keeps K s₀ (State.sample s timed) := by
  unfold State.sample
  (try extract_lets)
  repeat' (first
   | (with_reducible assumption)
   | (with_reducible exact keeps_sub hK (by decide))
   | (with_reducible rfl)
   | (with_reducible refine Keeps.ite (fun _ => ?_) (fun _ => ?_))
   | (with_reducible apply State.startFailures_keeps)
   | (with_reducible apply State.enterFaultOff_keeps)
   | (with_reducible apply State.enterCut_keeps)
   | (with_reducible apply State.orderlyOff_keeps)
   | (with_reducible apply State.enterVinDown_keeps)
   | (with_reducible apply State.planPoint_keeps)
   | (with_reducible refine Keeps.of_eq (by with_reducible assumption) ?_)
   | split
   | (extract_lets)
   | (dsimp only))

theorem State.overrunEnds_keeps {K : Nat} {s₀ s : State} (hK : K &&& 6597069930624 = 0) (h : Keeps K s₀ s) :
    Keeps K s₀ (State.overrunEnds s) := by
  unfold State.overrunEnds
  (try extract_lets)
  repeat' (first
   | (with_reducible assumption)
   | (with_reducible exact keeps_sub hK (by decide))
   | (with_reducible rfl)
   | (with_reducible refine Keeps.ite (fun _ => ?_) (fun _ => ?_))
   | (with_reducible apply State.builtins_keeps)
   | (with_reducible refine Keeps.of_eq (by with_reducible assumption) ?_)
   | split
   | (extract_lets)
   | (with_reducible apply Keeps.set_hedge)
   | (dsimp only))

theorem State.atPoint_keeps {K : Nat} {s₀ s : State} (timed : BitVec 24) (k : State → State) (hk : ∀ s : State, Keeps K s₀ s → Keeps K s₀ (k s)) (hK : K &&& 104183025285530 = 0) (h : Keeps K s₀ s) :
    Keeps K s₀ (State.atPoint s timed k) := by
  unfold State.atPoint
  (try extract_lets)
  repeat' (first
   | (with_reducible assumption)
   | (with_reducible exact keeps_sub hK (by decide))
   | (with_reducible rfl)
   | (with_reducible refine Keeps.ite (fun _ => ?_) (fun _ => ?_))
   | (with_reducible apply State.sample_keeps)
   | (with_reducible apply State.safeCheck_keeps)
   | (with_reducible apply State.overrunEnds_keeps)
   | (with_reducible apply State.advance_keeps)
   | (with_reducible refine Keeps.of_eq (by with_reducible assumption) ?_)
   | (with_reducible apply hk)
   | split
   | (extract_lets)
   | (dsimp only))

theorem State.seqSample_keeps {K : Nat} {s₀ s : State} (x : SeqInputs) (hK : K &&& 549755820032 = 0) (h : Keeps K s₀ s) :
    Keeps K s₀ (State.seqSample s x) := by
  unfold State.seqSample
  (try extract_lets)
  repeat' (first
   | (with_reducible assumption)
   | (with_reducible exact keeps_sub hK (by decide))
   | (with_reducible rfl)
   | exact keeps_block hK 7 (by decide) (by decide)
   | exact keeps_block hK 7 (by simp only [Reg.SUP_RAIL_VALUE]; omega) (by decide)
   | (with_reducible refine Keeps.ite (fun _ => ?_) (fun _ => ?_))
   | (with_reducible apply State.setFlag_keeps)
   | (with_reducible refine Keeps.foldl _ _ (fun s x h => ?_) ?_)
   | (with_reducible refine Keeps.foldl_fst _ _ (fun s x h => ?_) ?_)
   | (with_reducible refine Keeps.of_eq (by with_reducible assumption) ?_)
   | split
   | (extract_lets)
   | (with_reducible apply Keeps.set_seq_herd)
   | (dsimp only))

theorem execSeqDecisionPoint_keeps {K : Nat} (x : SeqInputs) {s t : State} (hK : K &&& 104183025285530 = 0) (h : s.Stored)
    (e : execSeqDecisionPoint x s = .next t) : Keeps K s t := by
  unfold execSeqDecisionPoint at e
  have e := Host.Outcome.next.inj e
  subst e
  have h := Keeps.refl (K := K) h
  repeat' (first
   | (with_reducible assumption)
   | (with_reducible exact keeps_sub hK (by decide))
   | (with_reducible rfl)
   | (with_reducible refine Keeps.ite (fun _ => ?_) (fun _ => ?_))
   | (with_reducible apply State.atPoint_keeps)
   | (with_reducible apply State.seqSample_keeps)
   | (with_reducible refine Keeps.of_eq (by with_reducible assumption) ?_)
   | (intro s h)
   | split
   | (extract_lets)
   | (dsimp only))

theorem execRampTimeout_keeps {K : Nat} (rails : BitVec 24) {s t : State} (hK : K &&& 104183025285530 = 0) (h : s.Stored)
    (e : execRampTimeout rails s = .next t) : Keeps K s t := by
  unfold execRampTimeout at e
  have e := Host.Outcome.next.inj e
  subst e
  have h := Keeps.refl (K := K) h
  repeat' (first
   | (with_reducible assumption)
   | (with_reducible exact keeps_sub hK (by decide))
   | (with_reducible rfl)
   | (with_reducible refine Keeps.ite (fun _ => ?_) (fun _ => ?_))
   | (with_reducible apply State.atPoint_keeps)
   | (with_reducible refine Keeps.of_eq (by with_reducible assumption) ?_)
   | (intro s h)
   | split
   | (extract_lets)
   | (dsimp only))

theorem State.settleDone_keeps {K : Nat} {s₀ s : State} (rails : BitVec 24) (hK : K &&& 824633723008 = 0) (h : Keeps K s₀ s) :
    Keeps K s₀ (State.settleDone s rails) := by
  unfold State.settleDone
  (try extract_lets)
  repeat' (first
   | (with_reducible assumption)
   | (with_reducible exact keeps_sub hK (by decide))
   | (with_reducible rfl)
   | (with_reducible refine Keeps.ite (fun _ => ?_) (fun _ => ?_))
   | (with_reducible apply State.setRails_keeps)
   | (with_reducible refine Keeps.of_eq (by with_reducible assumption) ?_)
   | split
   | (extract_lets)
   | (dsimp only))

theorem execSettleDone_keeps {K : Nat} (rails : BitVec 24) {s t : State} (hK : K &&& 104183025285530 = 0) (h : s.Stored)
    (e : execSettleDone rails s = .next t) : Keeps K s t := by
  unfold execSettleDone at e
  have e := Host.Outcome.next.inj e
  subst e
  have h := Keeps.refl (K := K) h
  repeat' (first
   | (with_reducible assumption)
   | (with_reducible exact keeps_sub hK (by decide))
   | (with_reducible rfl)
   | (with_reducible refine Keeps.ite (fun _ => ?_) (fun _ => ?_))
   | (with_reducible apply State.atPoint_keeps)
   | (with_reducible apply State.settleDone_keeps)
   | (with_reducible refine Keeps.of_eq (by with_reducible assumption) ?_)
   | (intro s h)
   | split
   | (extract_lets)
   | (dsimp only))

theorem State.dischargeTimeout_keeps {K : Nat} {s₀ s : State} (n : Fin 24) (hK : K &&& 824633723008 = 0) (h : Keeps K s₀ s) :
    Keeps K s₀ (State.dischargeTimeout s n) := by
  unfold State.dischargeTimeout
  (try extract_lets)
  repeat' (first
   | (with_reducible assumption)
   | (with_reducible exact keeps_sub hK (by decide))
   | (with_reducible rfl)
   | exact keeps_block hK 6 (by decide) (by decide)
   | exact keeps_block hK 7 (by decide) (by decide)
   | exact keeps_block hK 6 (by simp only [Reg.SEQ_RAIL_STATUS]; omega) (by decide)
   | exact keeps_block hK 7 (by simp only [Reg.SUP_RAIL_CNT_S]; omega) (by decide)
   | (with_reducible refine Keeps.ite (fun _ => ?_) (fun _ => ?_))
   | (with_reducible apply State.setFlag_keeps)
   | (with_reducible apply State.setRail_keeps)
   | (with_reducible apply State.railCnt_keeps)
   | (with_reducible refine Keeps.of_eq (by with_reducible assumption) ?_)
   | split
   | (extract_lets)
   | (with_reducible apply Keeps.set_seq)
   | (dsimp only))

theorem State.dischargeTimeouts_keeps {K : Nat} {s₀ s : State} (rails : BitVec 24) (hK : K &&& 824633723008 = 0) (h : Keeps K s₀ s) :
    Keeps K s₀ (State.dischargeTimeouts s rails) := by
  unfold State.dischargeTimeouts
  (try extract_lets)
  repeat' (first
   | (with_reducible assumption)
   | (with_reducible exact keeps_sub hK (by decide))
   | (with_reducible rfl)
   | (with_reducible refine Keeps.ite (fun _ => ?_) (fun _ => ?_))
   | (with_reducible apply State.dischargeTimeout_keeps)
   | (with_reducible refine Keeps.foldl _ _ (fun s x h => ?_) ?_)
   | (with_reducible refine Keeps.foldl_fst _ _ (fun s x h => ?_) ?_)
   | (with_reducible refine Keeps.of_eq (by with_reducible assumption) ?_)
   | split
   | (extract_lets)
   | (dsimp only))

theorem execDischargeTimeout_keeps {K : Nat} (rails : BitVec 24) {s t : State} (hK : K &&& 104183025285530 = 0) (h : s.Stored)
    (e : execDischargeTimeout rails s = .next t) : Keeps K s t := by
  unfold execDischargeTimeout at e
  have e := Host.Outcome.next.inj e
  subst e
  have h := Keeps.refl (K := K) h
  repeat' (first
   | (with_reducible assumption)
   | (with_reducible exact keeps_sub hK (by decide))
   | (with_reducible rfl)
   | (with_reducible refine Keeps.ite (fun _ => ?_) (fun _ => ?_))
   | (with_reducible apply State.atPoint_keeps)
   | (with_reducible apply State.dischargeTimeouts_keeps)
   | (with_reducible refine Keeps.of_eq (by with_reducible assumption) ?_)
   | (intro s h)
   | split
   | (extract_lets)
   | (dsimp only))

theorem execPlanStart_keeps {K : Nat} {s t : State} (hK : K &&& 104183025285530 = 0) (h : s.Stored)
    (e : execPlanStart s = .next t) : Keeps K s t := by
  unfold execPlanStart at e
  have e := Host.Outcome.next.inj e
  subst e
  have h := Keeps.refl (K := K) h
  repeat' (first
   | (with_reducible assumption)
   | (with_reducible exact keeps_sub hK (by decide))
   | (with_reducible rfl)
   | (with_reducible refine Keeps.ite (fun _ => ?_) (fun _ => ?_))
   | (with_reducible apply State.atPoint_keeps)
   | (with_reducible refine Keeps.of_eq (by with_reducible assumption) ?_)
   | (intro s h)
   | split
   | (extract_lets)
   | (dsimp only))

theorem State.restEnds_keeps {K : Nat} {s₀ s : State} (hK : K &&& 824633727104 = 0) (h : Keeps K s₀ s) :
    Keeps K s₀ (State.restEnds s) := by
  unfold State.restEnds
  (try extract_lets)
  repeat' (first
   | (with_reducible assumption)
   | (with_reducible exact keeps_sub hK (by decide))
   | (with_reducible rfl)
   | (with_reducible refine Keeps.ite (fun _ => ?_) (fun _ => ?_))
   | (with_reducible apply State.planPoint_keeps)
   | (with_reducible refine Keeps.of_eq (by with_reducible assumption) ?_)
   | split
   | (extract_lets)
   | (with_reducible apply Keeps.set_seq)
   | (dsimp only))

theorem execRestExpiry_keeps {K : Nat} {s t : State} (hK : K &&& 104183025285530 = 0) (h : s.Stored)
    (e : execRestExpiry s = .next t) : Keeps K s t := by
  unfold execRestExpiry at e
  have e := Host.Outcome.next.inj e
  subst e
  have h := Keeps.refl (K := K) h
  repeat' (first
   | (with_reducible assumption)
   | (with_reducible exact keeps_sub hK (by decide))
   | (with_reducible rfl)
   | (with_reducible refine Keeps.ite (fun _ => ?_) (fun _ => ?_))
   | (with_reducible apply State.atPoint_keeps)
   | (with_reducible apply State.restEnds_keeps)
   | (with_reducible refine Keeps.of_eq (by with_reducible assumption) ?_)
   | (intro s h)
   | split
   | (extract_lets)
   | (dsimp only))

theorem State.seqRequest_keeps {K : Nat} {s₀ s : State} (r : Req) (op : Nat) (bad : Bool) (k : State → State × Option Reply) (hk : ∀ s : State, Keeps K s₀ s → Keeps K s₀ (k s).1) (hK : K &&& 104183025285530 = 0) (h : Keeps K s₀ s) :
    Keeps K s₀ (State.seqRequest s r op bad k) := by
  unfold State.seqRequest
  (try extract_lets)
  repeat' (first
   | (with_reducible assumption)
   | (with_reducible exact keeps_sub hK (by decide))
   | (with_reducible rfl)
   | (with_reducible refine Keeps.ite (fun _ => ?_) (fun _ => ?_))
   | (with_reducible apply State.awaitTurn_keeps)
   | (with_reducible apply State.atPoint_keeps)
   | (with_reducible apply State.command_keeps)
   | (with_reducible refine Keeps.of_eq (by with_reducible assumption) ?_)
   | (intro s h)
   | (with_reducible apply hk)
   | split
   | (extract_lets)
   | (dsimp only))

theorem State.groupOn_keeps {K : Nat} {s₀ s : State} (r : Req) (g : BitVec 8) (hK : K &&& 824633727104 = 0) (h : Keeps K s₀ s) :
    Keeps K s₀ (State.groupOn s r g).1 := by
  unfold State.groupOn
  (try extract_lets)
  repeat' (first
   | (with_reducible assumption)
   | (with_reducible exact keeps_sub hK (by decide))
   | (with_reducible rfl)
   | (with_reducible refine Keeps.ite (fun _ => ?_) (fun _ => ?_))
   | (with_reducible apply State.startGroups_keeps)
   | (with_reducible refine Keeps.of_eq (by with_reducible assumption) ?_)
   | split
   | (extract_lets)
   | (with_reducible apply Keeps.set_seq)
   | (dsimp only))

theorem execRailGroupOn_keeps {K : Nat} (r : Req) (g : BitVec 8) {s t : State} (hK : K &&& 104183025285530 = 0) (h : s.Stored)
    (e : execRailGroupOn r g s = .next t) : Keeps K s t := by
  unfold execRailGroupOn at e
  have e := Host.Outcome.next.inj e
  subst e
  have h := Keeps.refl (K := K) h
  repeat' (first
   | (with_reducible assumption)
   | (with_reducible exact keeps_sub hK (by decide))
   | (with_reducible rfl)
   | (with_reducible refine Keeps.ite (fun _ => ?_) (fun _ => ?_))
   | (with_reducible apply State.seqRequest_keeps)
   | (with_reducible apply State.groupOn_keeps)
   | (with_reducible refine Keeps.of_eq (by with_reducible assumption) ?_)
   | (intro s h)
   | split
   | (extract_lets)
   | (dsimp only))

theorem State.groupOff_keeps {K : Nat} {s₀ s : State} (r : Req) (g : BitVec 8) (hK : K &&& 26663160125832 = 0) (h : Keeps K s₀ s) :
    Keeps K s₀ (State.groupOff s r g).1 := by
  unfold State.groupOff
  (try extract_lets)
  repeat' (first
   | (with_reducible assumption)
   | (with_reducible exact keeps_sub hK (by decide))
   | (with_reducible rfl)
   | (with_reducible refine Keeps.ite (fun _ => ?_) (fun _ => ?_))
   | (with_reducible apply State.offTake_keeps)
   | (with_reducible refine Keeps.of_eq (by with_reducible assumption) ?_)
   | split
   | (extract_lets)
   | (with_reducible apply Keeps.set_seq)
   | (dsimp only))

theorem execRailGroupOff_keeps {K : Nat} (r : Req) (g : BitVec 8) {s t : State} (hK : K &&& 104183025285530 = 0) (h : s.Stored)
    (e : execRailGroupOff r g s = .next t) : Keeps K s t := by
  unfold execRailGroupOff at e
  have e := Host.Outcome.next.inj e
  subst e
  have h := Keeps.refl (K := K) h
  repeat' (first
   | (with_reducible assumption)
   | (with_reducible exact keeps_sub hK (by decide))
   | (with_reducible rfl)
   | (with_reducible refine Keeps.ite (fun _ => ?_) (fun _ => ?_))
   | (with_reducible apply State.seqRequest_keeps)
   | (with_reducible apply State.groupOff_keeps)
   | (with_reducible refine Keeps.of_eq (by with_reducible assumption) ?_)
   | (intro s h)
   | split
   | (extract_lets)
   | (dsimp only))

theorem State.clearFaultOff_keeps {K : Nat} {s₀ s : State} (hK : K &&& 7421703653504 = 0) (h : Keeps K s₀ s) :
    Keeps K s₀ (State.clearFaultOff s).1 := by
  unfold State.clearFaultOff
  (try extract_lets)
  repeat' (first
   | (with_reducible assumption)
   | (with_reducible exact keeps_sub hK (by decide))
   | (with_reducible rfl)
   | exact keeps_block hK 7 (by decide) (by decide)
   | (with_reducible refine Keeps.ite (fun _ => ?_) (fun _ => ?_))
   | (with_reducible apply State.post_keeps)
   | (with_reducible apply State.setFlag_keeps)
   | (with_reducible apply State.setRails_keeps)
   | (with_reducible apply State.enterStartFail_keeps)
   | (with_reducible apply State.setNode_keeps)
   | (with_reducible refine Keeps.of_eq (by with_reducible assumption) ?_)
   | split
   | (extract_lets)
   | (with_reducible apply Keeps.set_seq)
   | (dsimp only))

theorem State.clearStartFail_keeps {K : Nat} {s₀ s : State} (hK : K &&& 824633723008 = 0) (h : Keeps K s₀ s) :
    Keeps K s₀ (State.clearStartFail s).1 := by
  unfold State.clearStartFail
  (try extract_lets)
  repeat' (first
   | (with_reducible assumption)
   | (with_reducible exact keeps_sub hK (by decide))
   | (with_reducible rfl)
   | exact keeps_block hK 6 (by decide) (by decide)
   | (with_reducible refine Keeps.ite (fun _ => ?_) (fun _ => ?_))
   | (with_reducible apply State.setReg_keeps)
   | (with_reducible apply State.postSeqDone_keeps)
   | (with_reducible apply State.setRails_keeps)
   | (with_reducible refine Keeps.of_eq (by with_reducible assumption) ?_)
   | split
   | (extract_lets)
   | (with_reducible apply Keeps.set_seq)
   | (dsimp only))

theorem State.faultClear_keeps {K : Nat} {s₀ s : State} (hK : K &&& 7421703653504 = 0) (h : Keeps K s₀ s) :
    Keeps K s₀ (State.faultClear s).1 := by
  unfold State.faultClear
  (try extract_lets)
  repeat' (first
   | (with_reducible assumption)
   | (with_reducible exact keeps_sub hK (by decide))
   | (with_reducible rfl)
   | (with_reducible refine Keeps.ite (fun _ => ?_) (fun _ => ?_))
   | (with_reducible apply State.clearStartFail_keeps)
   | (with_reducible apply State.clearFaultOff_keeps)
   | (with_reducible refine Keeps.of_eq (by with_reducible assumption) ?_)
   | split
   | (extract_lets)
   | (dsimp only))

theorem execFaultClear_keeps {K : Nat} (r : Req) {s t : State} (hK : K &&& 104183025285530 = 0) (h : s.Stored)
    (e : execFaultClear r s = .next t) : Keeps K s t := by
  unfold execFaultClear at e
  have e := Host.Outcome.next.inj e
  subst e
  have h := Keeps.refl (K := K) h
  repeat' (first
   | (with_reducible assumption)
   | (with_reducible exact keeps_sub hK (by decide))
   | (with_reducible rfl)
   | (with_reducible refine Keeps.ite (fun _ => ?_) (fun _ => ?_))
   | (with_reducible apply State.seqRequest_keeps)
   | (with_reducible apply State.faultClear_keeps)
   | (with_reducible refine Keeps.of_eq (by with_reducible assumption) ?_)
   | (intro s h)
   | split
   | (extract_lets)
   | (dsimp only))

end Sys2Proof.Machine
end

