-- ==== Sys2Proof/Laws/KeepsHerdLine.lean ====
section
/-! SUPPORT. What the operations and commands of Machine/HerdLine.lean leave unchanged: one lemma for each, its mask the parts it
may write. -/

set_option linter.all false

namespace Sys2Proof.Machine

theorem State.herdPulse_keeps {K : Nat} {s₀ s : State} (cls : Nat) (w : Nat) (hK : K &&& 274877906944 = 0) (h : Keeps K s₀ s) :
    Keeps K s₀ (State.herdPulse s cls w) := by
  unfold State.herdPulse
  (try extract_lets)
  repeat' (first
   | (with_reducible assumption)
   | (with_reducible exact keeps_sub hK (by decide))
   | (with_reducible rfl)
   | exact keeps_block hK 6 (by decide) (by decide)
   | (with_reducible refine Keeps.ite (fun _ => ?_) (fun _ => ?_))
   | (with_reducible apply State.setReg_keeps)
   | (with_reducible refine Keeps.of_eq (by with_reducible assumption) ?_)
   | split
   | (extract_lets)
   | (dsimp only))

theorem State.followerClear_keeps {K : Nat} {s₀ s : State} (hK : K &&& 824633723008 = 0) (h : Keeps K s₀ s) :
    Keeps K s₀ (State.followerClear s) := by
  unfold State.followerClear
  (try extract_lets)
  repeat' (first
   | (with_reducible assumption)
   | (with_reducible exact keeps_sub hK (by decide))
   | (with_reducible rfl)
   | (with_reducible refine Keeps.ite (fun _ => ?_) (fun _ => ?_))
   | (with_reducible apply State.clearStartFail_keeps)
   | (with_reducible refine Keeps.of_eq (by with_reducible assumption) ?_)
   | split
   | (extract_lets)
   | (dsimp only))

theorem State.herdJoin_keeps {K : Nat} {s₀ s : State} (hK : K &&& 824633723008 = 0) (h : Keeps K s₀ s) :
    Keeps K s₀ (State.herdJoin s) := by
  unfold State.herdJoin
  (try extract_lets)
  repeat' (first
   | (with_reducible assumption)
   | (with_reducible exact keeps_sub hK (by decide))
   | (with_reducible rfl)
   | (with_reducible refine Keeps.ite (fun _ => ?_) (fun _ => ?_))
   | (with_reducible apply State.startUp_keeps)
   | (with_reducible refine Keeps.of_eq (by with_reducible assumption) ?_)
   | split
   | (extract_lets)
   | (with_reducible apply Keeps.set_seq)
   | (dsimp only))

theorem State.muster_keeps {K : Nat} {s₀ s : State} (width : Nat) (hK : K &&& 824633727104 = 0) (h : Keeps K s₀ s) :
    Keeps K s₀ (State.muster s width) := by
  unfold State.muster
  (try extract_lets)
  repeat' (first
   | (with_reducible assumption)
   | (with_reducible exact keeps_sub hK (by decide))
   | (with_reducible rfl)
   | (with_reducible refine Keeps.ite (fun _ => ?_) (fun _ => ?_))
   | (with_reducible apply State.postHerd_keeps)
   | (with_reducible apply State.herdAbort_keeps)
   | (with_reducible apply State.herdJoin_keeps)
   | (with_reducible apply State.followerClear_keeps)
   | (with_reducible refine Keeps.of_eq (by with_reducible assumption) ?_)
   | split
   | (extract_lets)
   | (with_reducible apply Keeps.set_herd)
   | (dsimp only))

theorem execHerdMusterStart_keeps {K : Nat} {s t : State} (hK : K &&& 4096 = 0) (h : s.Stored)
    (e : execHerdMusterStart s = .next t) : Keeps K s t := by
  unfold execHerdMusterStart at e
  have e := Host.Outcome.next.inj e
  subst e
  have h := Keeps.refl (K := K) h
  repeat' (first
   | (with_reducible assumption)
   | (with_reducible exact keeps_sub hK (by decide))
   | (with_reducible rfl)
   | (with_reducible refine Keeps.ite (fun _ => ?_) (fun _ => ?_))
   | (with_reducible apply State.herdLow_keeps)
   | (with_reducible refine Keeps.of_eq (by with_reducible assumption) ?_)
   | split
   | (extract_lets)
   | (dsimp only))

theorem State.herdFail_keeps {K : Nat} {s₀ s : State} (reason : Nat) (hK : K &&& 26663160125832 = 0) (h : Keeps K s₀ s) :
    Keeps K s₀ (State.herdFail s reason) := by
  unfold State.herdFail
  (try extract_lets)
  repeat' (first
   | (with_reducible assumption)
   | (with_reducible exact keeps_sub hK (by decide))
   | (with_reducible rfl)
   | (with_reducible refine Keeps.ite (fun _ => ?_) (fun _ => ?_))
   | (with_reducible apply State.enterShutdown_keeps)
   | (with_reducible apply State.latchFail_keeps)
   | (with_reducible apply State.journalFail_keeps)
   | (with_reducible refine Keeps.of_eq (by with_reducible assumption) ?_)
   | split
   | (extract_lets)
   | (with_reducible apply Keeps.set_seq_herd)
   | (dsimp only))

theorem State.musterBlocked_keeps {K : Nat} {s₀ s : State} (hK : K &&& 26663160125832 = 0) (h : Keeps K s₀ s) :
    Keeps K s₀ (State.musterBlocked s) := by
  unfold State.musterBlocked
  (try extract_lets)
  repeat' (first
   | (with_reducible assumption)
   | (with_reducible exact keeps_sub hK (by decide))
   | (with_reducible rfl)
   | exact keeps_block hK 6 (by decide) (by decide)
   | (with_reducible refine Keeps.ite (fun _ => ?_) (fun _ => ?_))
   | (with_reducible apply State.postHerd_keeps)
   | (with_reducible apply State.setReg_keeps)
   | (with_reducible apply State.herdFail_keeps)
   | (with_reducible refine Keeps.of_eq (by with_reducible assumption) ?_)
   | split
   | (extract_lets)
   | (dsimp only))

theorem execHerdMusterBlocked_keeps {K : Nat} {s t : State} (hK : K &&& 104183025285530 = 0) (h : s.Stored)
    (e : execHerdMusterBlocked s = .next t) : Keeps K s t := by
  unfold execHerdMusterBlocked at e
  have e := Host.Outcome.next.inj e
  subst e
  have h := Keeps.refl (K := K) h
  repeat' (first
   | (with_reducible assumption)
   | (with_reducible exact keeps_sub hK (by decide))
   | (with_reducible rfl)
   | (with_reducible refine Keeps.ite (fun _ => ?_) (fun _ => ?_))
   | (with_reducible apply State.atPoint_keeps)
   | (with_reducible apply State.musterBlocked_keeps)
   | (with_reducible refine Keeps.of_eq (by with_reducible assumption) ?_)
   | (intro s h)
   | split
   | (extract_lets)
   | (dsimp only))

theorem execHerdMusterHoldExpiry_keeps {K : Nat} {s t : State} (hK : K &&& 4096 = 0) (h : s.Stored)
    (e : execHerdMusterHoldExpiry s = .next t) : Keeps K s t := by
  unfold execHerdMusterHoldExpiry at e
  have e := Host.Outcome.next.inj e
  subst e
  have h := Keeps.refl (K := K) h
  repeat' (first
   | (with_reducible assumption)
   | (with_reducible exact keeps_sub hK (by decide))
   | (with_reducible rfl)
   | (with_reducible refine Keeps.ite (fun _ => ?_) (fun _ => ?_))
   | (with_reducible refine Keeps.of_eq (by with_reducible assumption) ?_)
   | split
   | (extract_lets)
   | (with_reducible apply Keeps.set_herd)
   | (dsimp only))

theorem State.stepEdge_keeps {K : Nat} {s₀ s : State} (hK : K &&& 26388282218888 = 0) (h : Keeps K s₀ s) :
    Keeps K s₀ (State.stepEdge s) := by
  unfold State.stepEdge
  (try extract_lets)
  repeat' (first
   | (with_reducible assumption)
   | (with_reducible exact keeps_sub hK (by decide))
   | (with_reducible rfl)
   | (with_reducible refine Keeps.ite (fun _ => ?_) (fun _ => ?_))
   | (with_reducible apply State.postHerd_keeps)
   | (with_reducible apply State.finishOffs_keeps)
   | (with_reducible refine Keeps.of_eq (by with_reducible assumption) ?_)
   | split
   | (extract_lets)
   | (with_reducible apply Keeps.set_herd)
   | (dsimp only))

theorem execHerdStepEdge_keeps {K : Nat} {s t : State} (hK : K &&& 104183025285530 = 0) (h : s.Stored)
    (e : execHerdStepEdge s = .next t) : Keeps K s t := by
  unfold execHerdStepEdge at e
  have e := Host.Outcome.next.inj e
  subst e
  have h := Keeps.refl (K := K) h
  repeat' (first
   | (with_reducible assumption)
   | (with_reducible exact keeps_sub hK (by decide))
   | (with_reducible rfl)
   | (with_reducible refine Keeps.ite (fun _ => ?_) (fun _ => ?_))
   | (with_reducible apply State.atPoint_keeps)
   | (with_reducible apply State.stepEdge_keeps)
   | (with_reducible refine Keeps.of_eq (by with_reducible assumption) ?_)
   | (intro s h)
   | split
   | (extract_lets)
   | (dsimp only))

theorem execHerdEmptyStep_keeps {K : Nat} {s t : State} (hK : K &&& 104183025285530 = 0) (h : s.Stored)
    (e : execHerdEmptyStep s = .next t) : Keeps K s t := by
  unfold execHerdEmptyStep at e
  have e := Host.Outcome.next.inj e
  subst e
  have h := Keeps.refl (K := K) h
  repeat' (first
   | (with_reducible assumption)
   | (with_reducible exact keeps_sub hK (by decide))
   | (with_reducible rfl)
   | (with_reducible refine Keeps.ite (fun _ => ?_) (fun _ => ?_))
   | (with_reducible apply State.atPoint_keeps)
   | (with_reducible apply State.stepEdge_keeps)
   | (with_reducible refine Keeps.of_eq (by with_reducible assumption) ?_)
   | (intro s h)
   | split
   | (extract_lets)
   | (dsimp only))

theorem State.stepTimeout_keeps {K : Nat} {s₀ s : State} (hK : K &&& 26663160125832 = 0) (h : Keeps K s₀ s) :
    Keeps K s₀ (State.stepTimeout s) := by
  unfold State.stepTimeout
  (try extract_lets)
  repeat' (first
   | (with_reducible assumption)
   | (with_reducible exact keeps_sub hK (by decide))
   | (with_reducible rfl)
   | exact keeps_block hK 6 (by decide) (by decide)
   | (with_reducible refine Keeps.ite (fun _ => ?_) (fun _ => ?_))
   | (with_reducible apply State.postHerd_keeps)
   | (with_reducible apply State.setReg_keeps)
   | (with_reducible apply State.herdFail_keeps)
   | (with_reducible apply State.herdAbort_keeps)
   | (with_reducible apply State.inc_keeps)
   | (with_reducible refine Keeps.of_eq (by with_reducible assumption) ?_)
   | split
   | (extract_lets)
   | (with_reducible apply Keeps.set_herd)
   | (dsimp only))

theorem execHerdStepTimeout_keeps {K : Nat} {s t : State} (hK : K &&& 104183025285530 = 0) (h : s.Stored)
    (e : execHerdStepTimeout s = .next t) : Keeps K s t := by
  unfold execHerdStepTimeout at e
  have e := Host.Outcome.next.inj e
  subst e
  have h := Keeps.refl (K := K) h
  repeat' (first
   | (with_reducible assumption)
   | (with_reducible exact keeps_sub hK (by decide))
   | (with_reducible rfl)
   | (with_reducible refine Keeps.ite (fun _ => ?_) (fun _ => ?_))
   | (with_reducible apply State.atPoint_keeps)
   | (with_reducible apply State.stepTimeout_keeps)
   | (with_reducible refine Keeps.of_eq (by with_reducible assumption) ?_)
   | (intro s h)
   | split
   | (extract_lets)
   | (dsimp only))

theorem State.downTimeout_keeps {K : Nat} {s₀ s : State} (hK : K &&& 26663160125832 = 0) (h : Keeps K s₀ s) :
    Keeps K s₀ (State.downTimeout s) := by
  unfold State.downTimeout
  (try extract_lets)
  repeat' (first
   | (with_reducible assumption)
   | (with_reducible exact keeps_sub hK (by decide))
   | (with_reducible rfl)
   | exact keeps_block hK 6 (by decide) (by decide)
   | (with_reducible refine Keeps.ite (fun _ => ?_) (fun _ => ?_))
   | (with_reducible apply State.postHerd_keeps)
   | (with_reducible apply State.setFlag_keeps)
   | (with_reducible apply State.inc_keeps)
   | (with_reducible apply State.finishOffs_keeps)
   | (with_reducible refine Keeps.of_eq (by with_reducible assumption) ?_)
   | split
   | (extract_lets)
   | (with_reducible apply Keeps.set_herd)
   | (dsimp only))

theorem execHerdDownTimeout_keeps {K : Nat} {s t : State} (hK : K &&& 104183025285530 = 0) (h : s.Stored)
    (e : execHerdDownTimeout s = .next t) : Keeps K s t := by
  unfold execHerdDownTimeout at e
  have e := Host.Outcome.next.inj e
  subst e
  have h := Keeps.refl (K := K) h
  repeat' (first
   | (with_reducible assumption)
   | (with_reducible exact keeps_sub hK (by decide))
   | (with_reducible rfl)
   | (with_reducible refine Keeps.ite (fun _ => ?_) (fun _ => ?_))
   | (with_reducible apply State.atPoint_keeps)
   | (with_reducible apply State.downTimeout_keeps)
   | (with_reducible refine Keeps.of_eq (by with_reducible assumption) ?_)
   | (intro s h)
   | split
   | (extract_lets)
   | (dsimp only))

theorem State.invalidPulse_keeps {K : Nat} {s₀ s : State} (w : Nat) (hK : K &&& 274877911168 = 0) (h : Keeps K s₀ s) :
    Keeps K s₀ (State.invalidPulse s w) := by
  unfold State.invalidPulse
  (try extract_lets)
  repeat' (first
   | (with_reducible assumption)
   | (with_reducible exact keeps_sub hK (by decide))
   | (with_reducible rfl)
   | exact keeps_block hK 6 (by decide) (by decide)
   | (with_reducible refine Keeps.ite (fun _ => ?_) (fun _ => ?_))
   | (with_reducible apply State.postHerd_keeps)
   | (with_reducible apply State.herdPulse_keeps)
   | (with_reducible apply State.inc_keeps)
   | (with_reducible refine Keeps.of_eq (by with_reducible assumption) ?_)
   | split
   | (extract_lets)
   | (with_reducible apply Keeps.set_herd)
   | (dsimp only))

theorem State.herdCall_keeps {K : Nat} {s₀ s : State} (w : Nat) (hK : K &&& 26663160125832 = 0) (h : Keeps K s₀ s) :
    Keeps K s₀ (State.herdCall s w) := by
  unfold State.herdCall
  (try extract_lets)
  repeat' (first
   | (with_reducible assumption)
   | (with_reducible exact keeps_sub hK (by decide))
   | (with_reducible rfl)
   | exact keeps_block hK 6 (by decide) (by decide)
   | (with_reducible refine Keeps.ite (fun _ => ?_) (fun _ => ?_))
   | (with_reducible apply State.postHerd_keeps)
   | (with_reducible apply State.offLocal_keeps)
   | (with_reducible apply State.herdPulse_keeps)
   | (with_reducible apply State.inc_keeps)
   | (with_reducible refine Keeps.of_eq (by with_reducible assumption) ?_)
   | split
   | (extract_lets)
   | (with_reducible apply Keeps.set_herd)
   | (dsimp only))

theorem State.classify_keeps {K : Nat} {s₀ s : State} (w : Nat) (hK : K &&& 27212915939720 = 0) (h : Keeps K s₀ s) :
    Keeps K s₀ (State.classify s w) := by
  unfold State.classify
  (try extract_lets)
  repeat' (first
   | (with_reducible assumption)
   | (with_reducible exact keeps_sub hK (by decide))
   | (with_reducible rfl)
   | (with_reducible refine Keeps.ite (fun _ => ?_) (fun _ => ?_))
   | (with_reducible apply State.muster_keeps)
   | (with_reducible apply State.herdPulse_keeps)
   | (with_reducible apply State.herdCall_keeps)
   | (with_reducible apply State.invalidPulse_keeps)
   | (with_reducible refine Keeps.of_eq (by with_reducible assumption) ?_)
   | split
   | (extract_lets)
   | (dsimp only))

theorem execHerdPulseClassify_keeps {K : Nat} (w : BitVec 24) {s t : State} (hK : K &&& 104183025285530 = 0) (h : s.Stored)
    (e : execHerdPulseClassify w s = .next t) : Keeps K s t := by
  unfold execHerdPulseClassify at e
  have e := Host.Outcome.next.inj e
  subst e
  have h := Keeps.refl (K := K) h
  repeat' (first
   | (with_reducible assumption)
   | (with_reducible exact keeps_sub hK (by decide))
   | (with_reducible rfl)
   | (with_reducible refine Keeps.ite (fun _ => ?_) (fun _ => ?_))
   | (with_reducible apply State.atPoint_keeps)
   | (with_reducible apply State.classify_keeps)
   | (with_reducible refine Keeps.of_eq (by with_reducible assumption) ?_)
   | (intro s h)
   | split
   | (extract_lets)
   | (with_reducible apply Keeps.set_herd)
   | (dsimp only))

theorem State.herdAlarmed_keeps {K : Nat} {s₀ s : State} (hK : K &&& 6871947841664 = 0) (h : Keeps K s₀ s) :
    Keeps K s₀ (State.herdAlarmed s) := by
  unfold State.herdAlarmed
  (try extract_lets)
  repeat' (first
   | (with_reducible assumption)
   | (with_reducible exact keeps_sub hK (by decide))
   | (with_reducible rfl)
   | exact keeps_block hK 6 (by decide) (by decide)
   | (with_reducible refine Keeps.ite (fun _ => ?_) (fun _ => ?_))
   | (with_reducible apply State.postHerd_keeps)
   | (with_reducible apply State.herdPulse_keeps)
   | (with_reducible apply State.applyActions_keeps)
   | (with_reducible apply State.inc_keeps)
   | (with_reducible apply State.setNode_keeps)
   | (with_reducible refine Keeps.of_eq (by with_reducible assumption) ?_)
   | split
   | (extract_lets)
   | (with_reducible apply Keeps.set_herd)
   | (dsimp only))

theorem execHerdAlarmClassify_keeps {K : Nat} {s t : State} (hK : K &&& 6871947841664 = 0) (h : s.Stored)
    (e : execHerdAlarmClassify s = .next t) : Keeps K s t := by
  unfold execHerdAlarmClassify at e
  have e := Host.Outcome.next.inj e
  subst e
  have h := Keeps.refl (K := K) h
  repeat' (first
   | (with_reducible assumption)
   | (with_reducible exact keeps_sub hK (by decide))
   | (with_reducible rfl)
   | (with_reducible refine Keeps.ite (fun _ => ?_) (fun _ => ?_))
   | (with_reducible apply State.herdAlarmed_keeps)
   | (with_reducible refine Keeps.of_eq (by with_reducible assumption) ?_)
   | split
   | (extract_lets)
   | (dsimp only))

theorem execHerdAlarmQuiet_keeps {K : Nat} {s t : State} (hK : K &&& 6597069934720 = 0) (h : s.Stored)
    (e : execHerdAlarmQuiet s = .next t) : Keeps K s t := by
  unfold execHerdAlarmQuiet at e
  have e := Host.Outcome.next.inj e
  subst e
  have h := Keeps.refl (K := K) h
  repeat' (first
   | (with_reducible assumption)
   | (with_reducible exact keeps_sub hK (by decide))
   | (with_reducible rfl)
   | (with_reducible refine Keeps.ite (fun _ => ?_) (fun _ => ?_))
   | (with_reducible apply State.applyActions_keeps)
   | (with_reducible apply State.setNode_keeps)
   | (with_reducible refine Keeps.of_eq (by with_reducible assumption) ?_)
   | split
   | (extract_lets)
   | (with_reducible apply Keeps.set_herd)
   | (dsimp only))

theorem execHerdKennelWake_keeps {K : Nat} {s t : State} (hK : K &&& 17605072787592 = 0) (h : s.Stored)
    (e : execHerdKennelWake s = .next t) : Keeps K s t := by
  unfold execHerdKennelWake at e
  have e := Host.Outcome.next.inj e
  subst e
  have h := Keeps.refl (K := K) h
  repeat' (first
   | (with_reducible assumption)
   | (with_reducible exact keeps_sub hK (by decide))
   | (with_reducible rfl)
   | (with_reducible refine Keeps.ite (fun _ => ?_) (fun _ => ?_))
   | (with_reducible apply State.wakeDetect_keeps)
   | (with_reducible refine Keeps.of_eq (by with_reducible assumption) ?_)
   | split
   | (extract_lets)
   | (with_reducible apply Keeps.set_herd)
   | (dsimp only))

theorem State.herdResume_keeps {K : Nat} {s₀ s : State} (lineLow : Bool) (hK : K &&& 824633727104 = 0) (h : Keeps K s₀ s) :
    Keeps K s₀ (State.herdResume s lineLow) := by
  unfold State.herdResume
  (try extract_lets)
  repeat' (first
   | (with_reducible assumption)
   | (with_reducible exact keeps_sub hK (by decide))
   | (with_reducible rfl)
   | (with_reducible refine Keeps.ite (fun _ => ?_) (fun _ => ?_))
   | (with_reducible apply State.muster_keeps)
   | (with_reducible refine Keeps.of_eq (by with_reducible assumption) ?_)
   | split
   | (extract_lets)
   | (with_reducible apply Keeps.set_herd)
   | (dsimp only))

theorem State.herdCntClr_keeps {K : Nat} {s₀ s : State} (v : Word) (hK : K &&& 274877906944 = 0) (h : Keeps K s₀ s) :
    Keeps K s₀ (State.herdCntClr s v) := by
  unfold State.herdCntClr
  (try extract_lets)
  repeat' (first
   | (with_reducible assumption)
   | (with_reducible exact keeps_sub hK (by decide))
   | (with_reducible rfl)
   | (with_reducible refine Keeps.ite (fun _ => ?_) (fun _ => ?_))
   | (with_reducible refine State.clearBy_keeps _ _ 6 (by decide) (keeps_bit hK (by decide)) ?_)
   | (with_reducible refine Keeps.of_eq (by with_reducible assumption) ?_)
   | split
   | (extract_lets)
   | (dsimp only))

end Sys2Proof.Machine
end

