-- ==== Sys2Proof/Laws/KeepsKeys.lean ====
section
/-! SUPPORT. What the operations and commands of Machine/Keys.lean leave unchanged: one lemma for each, its mask the parts it
may write. -/

set_option linter.all false

namespace Sys2Proof.Machine

theorem State.setKey_keeps {K : Nat} {s₀ s : State} (n : Nat) (x : KeyNode) (hK : K &&& 512 = 0) (h : Keeps K s₀ s) :
    Keeps K s₀ (State.setKey s n x) := by
  unfold State.setKey
  (try extract_lets)
  repeat' (first
   | (with_reducible assumption)
   | (with_reducible exact keeps_sub hK (by decide))
   | (with_reducible rfl)
   | (with_reducible refine Keeps.ite (fun _ => ?_) (fun _ => ?_))
   | (with_reducible refine Keeps.of_eq (by with_reducible assumption) ?_)
   | split
   | (extract_lets)
   | (with_reducible apply Keeps.set_keys)
   | (dsimp only))

theorem State.postKey_keeps {K : Nat} {s₀ s : State} (n : Nat) (st : Bool) (resolved : Bool) (woke : Bool) (p' : Time) (dec : Time) (hK : K &&& 128 = 0) (h : Keeps K s₀ s) :
    Keeps K s₀ (State.postKey s n st resolved woke p' dec) := by
  unfold State.postKey
  (try extract_lets)
  repeat' (first
   | (with_reducible assumption)
   | (with_reducible exact keeps_sub hK (by decide))
   | (with_reducible rfl)
   | (with_reducible refine Keeps.ite (fun _ => ?_) (fun _ => ?_))
   | (with_reducible apply State.postAt_keeps)
   | (with_reducible refine Keeps.of_eq (by with_reducible assumption) ?_)
   | split
   | (extract_lets)
   | (dsimp only))

theorem State.postGhost_keeps {K : Nat} {s₀ s : State} (p' : Time) (reason : Nat) (r : Rect) (corners : Nat) (hK : K &&& 128 = 0) (h : Keeps K s₀ s) :
    Keeps K s₀ (State.postGhost s p' reason r corners) := by
  unfold State.postGhost
  (try extract_lets)
  repeat' (first
   | (with_reducible assumption)
   | (with_reducible exact keeps_sub hK (by decide))
   | (with_reducible rfl)
   | (with_reducible refine Keeps.ite (fun _ => ?_) (fun _ => ?_))
   | (with_reducible apply State.postAt_keeps)
   | (with_reducible refine Keeps.of_eq (by with_reducible assumption) ?_)
   | split
   | (extract_lets)
   | (dsimp only))

theorem State.postStuck_keeps {K : Nat} {s₀ s : State} (kind : Nat) (n : Nat) (hK : K &&& 128 = 0) (h : Keeps K s₀ s) :
    Keeps K s₀ (State.postStuck s kind n) := by
  unfold State.postStuck
  (try extract_lets)
  repeat' (first
   | (with_reducible assumption)
   | (with_reducible exact keeps_sub hK (by decide))
   | (with_reducible rfl)
   | (with_reducible refine Keeps.ite (fun _ => ?_) (fun _ => ?_))
   | (with_reducible apply State.post_keeps)
   | (with_reducible refine Keeps.of_eq (by with_reducible assumption) ?_)
   | split
   | (extract_lets)
   | (dsimp only))

theorem State.unstick_keeps {K : Nat} {s₀ s : State} (n : Fin 256) (hK : K &&& 34359738496 = 0) (h : Keeps K s₀ s) :
    Keeps K s₀ (State.unstick s n) := by
  unfold State.unstick
  (try extract_lets)
  repeat' (first
   | (with_reducible assumption)
   | (with_reducible exact keeps_sub hK (by decide))
   | (with_reducible rfl)
   | exact keeps_block hK 3 (by decide) (by decide)
   | exact keeps_block hK 3 (by simp only [Reg.KEYS_STUCK]; omega) (by decide)
   | (with_reducible refine Keeps.ite (fun _ => ?_) (fun _ => ?_))
   | (with_reducible apply State.setFlag_keeps)
   | (with_reducible apply State.postStuck_keeps)
   | (with_reducible refine Keeps.of_eq (by with_reducible assumption) ?_)
   | split
   | (extract_lets)
   | (dsimp only))

theorem State.failLine_keeps {K : Nat} {s₀ s : State} (l : Nat) (hK : K &&& 94605246627994 = 0) (h : Keeps K s₀ s) :
    Keeps K s₀ (State.failLine s l) := by
  unfold State.failLine
  (try extract_lets)
  repeat' (first
   | (with_reducible assumption)
   | (with_reducible exact keeps_sub hK (by decide))
   | (with_reducible rfl)
   | exact keeps_block hK 3 (by decide) (by decide)
   | exact keeps_block hK 14 (by decide) (by decide)
   | (with_reducible refine Keeps.ite (fun _ => ?_) (fun _ => ?_))
   | (with_reducible apply State.setFlag_keeps)
   | (with_reducible apply State.classD_keeps)
   | (with_reducible apply State.classS_keeps)
   | (with_reducible refine Keeps.of_eq (by with_reducible assumption) ?_)
   | split
   | (extract_lets)
   | (dsimp only))

theorem State.rectFull_keeps {K : Nat} {s₀ s : State} (dec : Nat → Time) (q : Nat × Nat × Nat × Nat) (hK : K &&& 34359739008 = 0) (h : Keeps K s₀ s) :
    Keeps K s₀ (State.rectFull s dec q) := by
  unfold State.rectFull
  (try extract_lets)
  repeat' (first
   | (with_reducible assumption)
   | (with_reducible exact keeps_sub hK (by decide))
   | (with_reducible rfl)
   | exact keeps_block hK 3 (by decide) (by decide)
   | (with_reducible refine Keeps.ite (fun _ => ?_) (fun _ => ?_))
   | (with_reducible apply State.postGhost_keeps)
   | (with_reducible apply State.inc_keeps)
   | (with_reducible refine Keeps.of_eq (by with_reducible assumption) ?_)
   | split
   | (extract_lets)
   | (with_reducible apply Keeps.set_keys)
   | (dsimp only))

theorem State.discardKey_keeps {K : Nat} {s₀ s : State} (n : Nat) (hK : K &&& 512 = 0) (h : Keeps K s₀ s) :
    Keeps K s₀ (State.discardKey s n) := by
  unfold State.discardKey
  (try extract_lets)
  repeat' (first
   | (with_reducible assumption)
   | (with_reducible exact keeps_sub hK (by decide))
   | (with_reducible rfl)
   | (with_reducible refine Keeps.ite (fun _ => ?_) (fun _ => ?_))
   | (with_reducible apply State.setKey_keeps)
   | (with_reducible refine Keeps.of_eq (by with_reducible assumption) ?_)
   | split
   | (extract_lets)
   | (dsimp only))

theorem State.keySource_keeps {K : Nat} {s₀ s : State} (n : Nat) (closed : Bool) (woke : Bool) (hK : K &&& 17605072783496 = 0) (h : Keeps K s₀ s) :
    Keeps K s₀ (State.keySource s n closed woke) := by
  unfold State.keySource
  (try extract_lets)
  repeat' (first
   | (with_reducible assumption)
   | (with_reducible exact keeps_sub hK (by decide))
   | (with_reducible rfl)
   | (with_reducible refine Keeps.ite (fun _ => ?_) (fun _ => ?_))
   | (with_reducible apply State.wakeDetect_keeps)
   | (with_reducible refine Keeps.of_eq (by with_reducible assumption) ?_)
   | split
   | (extract_lets)
   | (dsimp only))

theorem State.judgeCorner_keeps {K : Nat} {s₀ s : State} (x : ScanData) (first : Bool) (dec : Nat → Time) (r : Rect) (i : Nat) (hK : K &&& 17605072784008 = 0) (h : Keeps K s₀ s) :
    Keeps K s₀ (State.judgeCorner s x first dec r i).1 := by
  unfold State.judgeCorner
  (try extract_lets)
  repeat' (first
   | (with_reducible assumption)
   | (with_reducible exact keeps_sub hK (by decide))
   | (with_reducible rfl)
   | (with_reducible refine Keeps.ite (fun _ => ?_) (fun _ => ?_))
   | (with_reducible apply State.discardKey_keeps)
   | (with_reducible apply State.setKey_keeps)
   | (with_reducible apply State.postKey_keeps)
   | (with_reducible apply State.keySource_keeps)
   | (with_reducible refine Keeps.of_eq (by with_reducible assumption) ?_)
   | split
   | (extract_lets)
   | (dsimp only))

theorem State.rectStep_keeps {K : Nat} {s₀ s : State} (x : ScanData) (full : List (Nat × Nat × Nat × Nat)) (dec : Nat → Time) (r : Rect) (hK : K &&& 17605072784008 = 0) (h : Keeps K s₀ s) :
    Keeps K s₀ (State.rectStep s x full dec r) := by
  unfold State.rectStep
  (try extract_lets)
  repeat' (first
   | (with_reducible assumption)
   | (with_reducible exact keeps_sub hK (by decide))
   | (with_reducible rfl)
   | (with_reducible refine Keeps.ite (fun _ => ?_) (fun _ => ?_))
   | (with_reducible apply State.postGhost_keeps)
   | (with_reducible apply State.judgeCorner_keeps)
   | (with_reducible refine Keeps.foldl_range _ _ (fun s x hx h => ?_) ?_)
   | (with_reducible refine Keeps.foldl _ _ (fun s x h => ?_) ?_)
   | (with_reducible refine Keeps.foldl_fst _ _ (fun s x h => ?_) ?_)
   | (with_reducible refine Keeps.of_eq (by with_reducible assumption) ?_)
   | split
   | (extract_lets)
   | (with_reducible apply Keeps.set_keys)
   | (dsimp only))

theorem State.ghosts_keeps {K : Nat} {s₀ s : State} (x : ScanData) (dec : Nat → Time) (hK : K &&& 17639432522376 = 0) (h : Keeps K s₀ s) :
    Keeps K s₀ (State.ghosts s x dec) := by
  unfold State.ghosts
  (try extract_lets)
  repeat' (first
   | (with_reducible assumption)
   | (with_reducible exact keeps_sub hK (by decide))
   | (with_reducible rfl)
   | (with_reducible refine Keeps.ite (fun _ => ?_) (fun _ => ?_))
   | (with_reducible apply State.rectStep_keeps)
   | (with_reducible apply State.rectFull_keeps)
   | (with_reducible refine Keeps.foldl _ _ (fun s x h => ?_) ?_)
   | (with_reducible refine Keeps.foldl_fst _ _ (fun s x h => ?_) ?_)
   | (with_reducible refine Keeps.of_eq (by with_reducible assumption) ?_)
   | split
   | (extract_lets)
   | (with_reducible apply Keeps.set_keys)
   | (dsimp only))

theorem State.debounce_keeps {K : Nat} {s₀ s : State} (n : Nat) (closed : Bool) (sample : Time) (hK : K &&& 17605072784008 = 0) (h : Keeps K s₀ s) :
    Keeps K s₀ (State.debounce s n closed sample) := by
  unfold State.debounce
  (try extract_lets)
  repeat' (first
   | (with_reducible assumption)
   | (with_reducible exact keeps_sub hK (by decide))
   | (with_reducible rfl)
   | (with_reducible refine Keeps.ite (fun _ => ?_) (fun _ => ?_))
   | (with_reducible apply State.setKey_keeps)
   | (with_reducible apply State.postKey_keeps)
   | (with_reducible apply State.keySource_keeps)
   | (with_reducible refine Keeps.of_eq (by with_reducible assumption) ?_)
   | split
   | (extract_lets)
   | (dsimp only))

theorem State.unstickScan_keeps {K : Nat} {s₀ s : State} (n : Fin 256) (hK : K &&& 34359738496 = 0) (h : Keeps K s₀ s) :
    Keeps K s₀ (State.unstickScan s n) := by
  unfold State.unstickScan
  (try extract_lets)
  repeat' (first
   | (with_reducible assumption)
   | (with_reducible exact keeps_sub hK (by decide))
   | (with_reducible rfl)
   | (with_reducible refine Keeps.ite (fun _ => ?_) (fun _ => ?_))
   | (with_reducible apply State.unstick_keeps)
   | (with_reducible refine Keeps.of_eq (by with_reducible assumption) ?_)
   | split
   | (extract_lets)
   | (dsimp only))

theorem State.slotEval_keeps {K : Nat} {s₀ s : State} (k : Nat) (hK : K &&& 6597069930624 = 0) (h : Keeps K s₀ s) :
    Keeps K s₀ (State.slotEval s k) := by
  unfold State.slotEval
  (try extract_lets)
  repeat' (first
   | (with_reducible assumption)
   | (with_reducible exact keeps_sub hK (by decide))
   | (with_reducible rfl)
   | (with_reducible refine Keeps.ite (fun _ => ?_) (fun _ => ?_))
   | (with_reducible apply State.setNode_keeps)
   | (with_reducible refine Keeps.of_eq (by with_reducible assumption) ?_)
   | split
   | (extract_lets)
   | (dsimp only))

theorem State.keyImages_keeps {K : Nat} {s₀ s : State} (hK : K &&& 34359738368 = 0) (h : Keeps K s₀ s) :
    Keeps K s₀ (State.keyImages s) := by
  unfold State.keyImages
  (try extract_lets)
  repeat' (first
   | (with_reducible assumption)
   | (with_reducible exact keeps_sub hK (by decide))
   | (with_reducible rfl)
   | exact keeps_block hK 3 (by decide) (by decide)
   | exact keeps_block hK 3 (by simp only [Reg.KEYS_STATE, Reg.KEYS_WITHHELD]; omega) (by decide)
   | (with_reducible refine Keeps.ite (fun _ => ?_) (fun _ => ?_))
   | (with_reducible apply State.setReg_keeps)
   | (with_reducible refine Keeps.foldl_range _ _ (fun s x hx h => ?_) ?_)
   | (with_reducible refine Keeps.foldl _ _ (fun s x h => ?_) ?_)
   | (with_reducible refine Keeps.foldl_fst _ _ (fun s x h => ?_) ?_)
   | (with_reducible refine Keeps.of_eq (by with_reducible assumption) ?_)
   | split
   | (extract_lets)
   | (dsimp only))

theorem State.nameWake_keeps {K : Nat} {s₀ s : State} (x : ScanData) (hK : K &&& 34359738880 = 0) (h : Keeps K s₀ s) :
    Keeps K s₀ (State.nameWake s x) := by
  unfold State.nameWake
  dsimp only
  repeat' (first
   | (with_reducible assumption)
   | (with_reducible exact keeps_sub hK (by decide))
   | (with_reducible rfl)
   | exact keeps_block hK 3 (by decide) (by decide)
   | (with_reducible refine Keeps.ite (fun _ => ?_) (fun _ => ?_))
   | (with_reducible apply State.setFld_keeps)
   | (with_reducible apply State.setKey_keeps)
   | (with_reducible refine Keeps.of_eq (by with_reducible assumption) ?_)
   | split
   | (extract_lets)
   | (with_reducible apply Keeps.set_keys)
   | (dsimp only))

theorem State.keyStatus_keeps {K : Nat} {s₀ s : State} (hK : K &&& 34359738368 = 0) (h : Keeps K s₀ s) :
    Keeps K s₀ (State.keyStatus s) := by
  unfold State.keyStatus
  (try extract_lets)
  repeat' (first
   | (with_reducible assumption)
   | (with_reducible exact keeps_sub hK (by decide))
   | (with_reducible rfl)
   | exact keeps_block hK 3 (by decide) (by decide)
   | (with_reducible refine Keeps.ite (fun _ => ?_) (fun _ => ?_))
   | (with_reducible apply State.setReg_keeps)
   | (with_reducible refine Keeps.of_eq (by with_reducible assumption) ?_)
   | split
   | (extract_lets)
   | (dsimp only))

theorem State.scan_keeps {K : Nat} {s₀ s : State} (x : ScanData) (hK : K &&& 94605246630554 = 0) (h : Keeps K s₀ s) :
    Keeps K s₀ (State.scan s x) := by
  unfold State.scan
  dsimp only
  repeat' (first
   | (with_reducible assumption)
   | (with_reducible exact keeps_sub hK (by decide))
   | (with_reducible rfl)
   | (with_reducible refine Keeps.ite (fun _ => ?_) (fun _ => ?_))
   | (with_reducible apply State.keyStatus_keeps)
   | (with_reducible apply State.ghosts_keeps)
   | (with_reducible apply State.slotEval_keeps)
   | (with_reducible apply State.keyImages_keeps)
   | (with_reducible apply State.nameWake_keeps)
   | (with_reducible apply State.debounce_keeps)
   | (with_reducible apply State.failLine_keeps)
   | (with_reducible apply State.unstickScan_keeps)
   | (with_reducible refine Keeps.foldl_range _ _ (fun s x hx h => ?_) ?_)
   | (with_reducible refine Keeps.foldl _ _ (fun s x h => ?_) ?_)
   | (with_reducible refine Keeps.foldl_fst _ _ (fun s x h => ?_) ?_)
   | (with_reducible refine Keeps.of_eq (by with_reducible assumption) ?_)
   | split
   | (extract_lets)
   | (with_reducible apply Keeps.set_keys)
   | (dsimp only))

theorem execMatrixScan_keeps {K : Nat} (scan : ScanData) {s t : State} (hK : K &&& 94605246630554 = 0) (h : s.Stored)
    (e : execMatrixScan scan s = .next t) : Keeps K s t := by
  unfold execMatrixScan at e
  have e := Host.Outcome.next.inj e
  subst e
  have h := Keeps.refl (K := K) h
  repeat' (first
   | (with_reducible assumption)
   | (with_reducible exact keeps_sub hK (by decide))
   | (with_reducible rfl)
   | (with_reducible refine Keeps.ite (fun _ => ?_) (fun _ => ?_))
   | (with_reducible apply State.scan_keeps)
   | (with_reducible refine Keeps.of_eq (by with_reducible assumption) ?_)
   | split
   | (extract_lets)
   | (dsimp only))

theorem execStuckTimeout_keeps {K : Nat} (node : Fin 256) {s t : State} (hK : K &&& 34359738496 = 0) (h : s.Stored)
    (e : execStuckTimeout node s = .next t) : Keeps K s t := by
  unfold execStuckTimeout at e
  have e := Host.Outcome.next.inj e
  subst e
  have h := Keeps.refl (K := K) h
  repeat' (first
   | (with_reducible assumption)
   | (with_reducible exact keeps_sub hK (by decide))
   | (with_reducible rfl)
   | exact keeps_block hK 3 (by decide) (by decide)
   | exact keeps_block hK 3 (by simp only [Reg.KEYS_STUCK]; omega) (by decide)
   | (with_reducible refine Keeps.ite (fun _ => ?_) (fun _ => ?_))
   | (with_reducible apply State.setFlag_keeps)
   | (with_reducible apply State.postStuck_keeps)
   | (with_reducible apply State.inc_keeps)
   | (with_reducible refine Keeps.of_eq (by with_reducible assumption) ?_)
   | split
   | (extract_lets)
   | (dsimp only))

theorem State.matrixWake_keeps {K : Nat} {s₀ s : State} (hK : K &&& 17605072784008 = 0) (h : Keeps K s₀ s) :
    Keeps K s₀ (State.matrixWake s) := by
  unfold State.matrixWake
  (try extract_lets)
  repeat' (first
   | (with_reducible assumption)
   | (with_reducible exact keeps_sub hK (by decide))
   | (with_reducible rfl)
   | (with_reducible refine Keeps.ite (fun _ => ?_) (fun _ => ?_))
   | (with_reducible apply State.wakeDetect_keeps)
   | (with_reducible refine Keeps.of_eq (by with_reducible assumption) ?_)
   | split
   | (extract_lets)
   | (with_reducible apply Keeps.set_keys)
   | (dsimp only))

theorem State.kennelNode_keeps {K : Nat} {s₀ s : State} (n : Fin 256) (closed : Bool) (hK : K &&& 17639432522376 = 0) (h : Keeps K s₀ s) :
    Keeps K s₀ (State.kennelNode s n closed) := by
  unfold State.kennelNode
  (try extract_lets)
  repeat' (first
   | (with_reducible assumption)
   | (with_reducible exact keeps_sub hK (by decide))
   | (with_reducible rfl)
   | (with_reducible refine Keeps.ite (fun _ => ?_) (fun _ => ?_))
   | (with_reducible apply State.matrixWake_keeps)
   | (with_reducible apply State.setKey_keeps)
   | (with_reducible apply State.unstick_keeps)
   | (with_reducible refine Keeps.of_eq (by with_reducible assumption) ?_)
   | split
   | (extract_lets)
   | (dsimp only))

theorem execKennelScan_keeps {K : Nat} (closed : Vector (BitVec 16) 16) {s t : State} (hK : K &&& 17639432522376 = 0) (h : s.Stored)
    (e : execKennelScan closed s = .next t) : Keeps K s t := by
  unfold execKennelScan at e
  have e := Host.Outcome.next.inj e
  subst e
  have h := Keeps.refl (K := K) h
  repeat' (first
   | (with_reducible assumption)
   | (with_reducible exact keeps_sub hK (by decide))
   | (with_reducible rfl)
   | (with_reducible refine Keeps.ite (fun _ => ?_) (fun _ => ?_))
   | (with_reducible apply State.kennelNode_keeps)
   | (with_reducible refine Keeps.foldl _ _ (fun s x h => ?_) ?_)
   | (with_reducible refine Keeps.foldl_fst _ _ (fun s x h => ?_) ?_)
   | (with_reducible refine Keeps.of_eq (by with_reducible assumption) ?_)
   | split
   | (extract_lets)
   | (dsimp only))

theorem execAnyKeyDetect_keeps {K : Nat} (line : Fin 16) {s t : State} (hK : K &&& 17605072784008 = 0) (h : s.Stored)
    (e : execAnyKeyDetect line s = .next t) : Keeps K s t := by
  unfold execAnyKeyDetect at e
  have e := Host.Outcome.next.inj e
  subst e
  have h := Keeps.refl (K := K) h
  repeat' (first
   | (with_reducible assumption)
   | (with_reducible exact keeps_sub hK (by decide))
   | (with_reducible rfl)
   | (with_reducible refine Keeps.ite (fun _ => ?_) (fun _ => ?_))
   | (with_reducible apply State.matrixWake_keeps)
   | (with_reducible refine Keeps.of_eq (by with_reducible assumption) ?_)
   | split
   | (extract_lets)
   | (dsimp only))

theorem State.setDi_keeps {K : Nat} {s₀ s : State} (n : Fin 16) (x : DirectIn) (hK : K &&& 512 = 0) (h : Keeps K s₀ s) :
    Keeps K s₀ (State.setDi s n x) := by
  unfold State.setDi
  (try extract_lets)
  repeat' (first
   | (with_reducible assumption)
   | (with_reducible exact keeps_sub hK (by decide))
   | (with_reducible rfl)
   | (with_reducible refine Keeps.ite (fun _ => ?_) (fun _ => ?_))
   | (with_reducible refine Keeps.of_eq (by with_reducible assumption) ?_)
   | split
   | (extract_lets)
   | (with_reducible apply Keeps.set_keys)
   | (dsimp only))

theorem State.pairNodes_keeps {K : Nat} {s₀ s : State} (k : Nat) (hK : K &&& 6631429668992 = 0) (h : Keeps K s₀ s) :
    Keeps K s₀ (State.pairNodes s k) := by
  unfold State.pairNodes
  (try extract_lets)
  repeat' (first
   | (with_reducible assumption)
   | (with_reducible exact keeps_sub hK (by decide))
   | (with_reducible rfl)
   | exact keeps_block hK 3 (by decide) (by decide)
   | (with_reducible refine Keeps.ite (fun _ => ?_) (fun _ => ?_))
   | (with_reducible apply State.setFlag_keeps)
   | (with_reducible apply State.setNode_keeps)
   | (with_reducible refine Keeps.foldl _ _ (fun s x h => ?_) ?_)
   | (with_reducible refine Keeps.foldl_fst _ _ (fun s x h => ?_) ?_)
   | (with_reducible refine Keeps.of_eq (by with_reducible assumption) ?_)
   | split
   | (extract_lets)
   | (dsimp only))

theorem State.postDi_keeps {K : Nat} {s₀ s : State} (source : Nat) (index : Nat) (st : Bool) (woke : Bool) (role : Nat) (p' : Time) (hK : K &&& 128 = 0) (h : Keeps K s₀ s) :
    Keeps K s₀ (State.postDi s source index st woke role p') := by
  unfold State.postDi
  (try extract_lets)
  repeat' (first
   | (with_reducible assumption)
   | (with_reducible exact keeps_sub hK (by decide))
   | (with_reducible rfl)
   | (with_reducible refine Keeps.ite (fun _ => ?_) (fun _ => ?_))
   | (with_reducible apply State.postAt_keeps)
   | (with_reducible refine Keeps.of_eq (by with_reducible assumption) ?_)
   | split
   | (extract_lets)
   | (dsimp only))

theorem State.diEdge_keeps {K : Nat} {s₀ s : State} (n : Fin 16) (high : Bool) (hK : K &&& 34359738880 = 0) (h : Keeps K s₀ s) :
    Keeps K s₀ (State.diEdge s n high) := by
  unfold State.diEdge
  (try extract_lets)
  repeat' (first
   | (with_reducible assumption)
   | (with_reducible exact keeps_sub hK (by decide))
   | (with_reducible rfl)
   | exact keeps_block hK 3 (by decide) (by decide)
   | (with_reducible refine Keeps.ite (fun _ => ?_) (fun _ => ?_))
   | (with_reducible apply State.setFlag_keeps)
   | (with_reducible apply State.setDi_keeps)
   | (with_reducible refine Keeps.of_eq (by with_reducible assumption) ?_)
   | split
   | (extract_lets)
   | (dsimp only))

theorem State.diLevel_keeps {K : Nat} {s₀ s : State} (n : Fin 16) (l : Bool) (hK : K &&& 34359738880 = 0) (h : Keeps K s₀ s) :
    Keeps K s₀ (State.diLevel s n l) := by
  unfold State.diLevel
  (try extract_lets)
  repeat' (first
   | (with_reducible assumption)
   | (with_reducible exact keeps_sub hK (by decide))
   | (with_reducible rfl)
   | exact keeps_block hK 3 (by decide) (by decide)
   | (with_reducible refine Keeps.ite (fun _ => ?_) (fun _ => ?_))
   | (with_reducible apply State.setFlag_keeps)
   | (with_reducible apply State.setDi_keeps)
   | (with_reducible refine Keeps.of_eq (by with_reducible assumption) ?_)
   | split
   | (extract_lets)
   | (dsimp only))

theorem execDiEdge_keeps {K : Nat} (n : Fin 16) (high : Bool) {s t : State} (hK : K &&& 34359738880 = 0) (h : s.Stored)
    (e : execDiEdge n high s = .next t) : Keeps K s t := by
  unfold execDiEdge at e
  have e := Host.Outcome.next.inj e
  subst e
  have h := Keeps.refl (K := K) h
  repeat' (first
   | (with_reducible assumption)
   | (with_reducible exact keeps_sub hK (by decide))
   | (with_reducible rfl)
   | (with_reducible refine Keeps.ite (fun _ => ?_) (fun _ => ?_))
   | (with_reducible apply State.diEdge_keeps)
   | (with_reducible apply State.diLevel_keeps)
   | (with_reducible refine Keeps.of_eq (by with_reducible assumption) ?_)
   | split
   | (extract_lets)
   | (dsimp only))

theorem State.pairTimer_keeps {K : Nat} {s₀ s : State} (k : Nat) (hK : K &&& 512 = 0) (h : Keeps K s₀ s) :
    Keeps K s₀ (State.pairTimer s k) := by
  unfold State.pairTimer
  (try extract_lets)
  repeat' (first
   | (with_reducible assumption)
   | (with_reducible exact keeps_sub hK (by decide))
   | (with_reducible rfl)
   | (with_reducible refine Keeps.ite (fun _ => ?_) (fun _ => ?_))
   | (with_reducible refine Keeps.of_eq (by with_reducible assumption) ?_)
   | split
   | (extract_lets)
   | (with_reducible apply Keeps.set_keys)
   | (dsimp only))

theorem State.pairClear_keeps {K : Nat} {s₀ s : State} (k : Nat) (hK : K &&& 34359738496 = 0) (h : Keeps K s₀ s) :
    Keeps K s₀ (State.pairClear s k) := by
  unfold State.pairClear
  (try extract_lets)
  repeat' (first
   | (with_reducible assumption)
   | (with_reducible exact keeps_sub hK (by decide))
   | (with_reducible rfl)
   | exact keeps_block hK 3 (by decide) (by decide)
   | (with_reducible refine Keeps.ite (fun _ => ?_) (fun _ => ?_))
   | (with_reducible apply State.postDi_keeps)
   | (with_reducible apply State.setFlag_keeps)
   | (with_reducible refine Keeps.of_eq (by with_reducible assumption) ?_)
   | split
   | (extract_lets)
   | (dsimp only))

theorem State.diAccept_keeps {K : Nat} {s₀ s : State} (n : Fin 16) (hK : K &&& 24236502452872 = 0) (h : Keeps K s₀ s) :
    Keeps K s₀ (State.diAccept s n) := by
  unfold State.diAccept
  (try extract_lets)
  repeat' (first
   | (with_reducible assumption)
   | (with_reducible exact keeps_sub hK (by decide))
   | (with_reducible rfl)
   | (with_reducible refine Keeps.ite (fun _ => ?_) (fun _ => ?_))
   | (with_reducible apply State.postDi_keeps)
   | (with_reducible apply State.pairNodes_keeps)
   | (with_reducible apply State.wakeDetect_keeps)
   | (with_reducible apply State.pairTimer_keeps)
   | (with_reducible apply State.setDi_keeps)
   | (with_reducible apply State.pairClear_keeps)
   | (with_reducible refine Keeps.of_eq (by with_reducible assumption) ?_)
   | split
   | (extract_lets)
   | (dsimp only))

theorem execDiDebounceExpiry_keeps {K : Nat} (n : Fin 16) {s t : State} (hK : K &&& 24236502452872 = 0) (h : s.Stored)
    (e : execDiDebounceExpiry n s = .next t) : Keeps K s t := by
  unfold execDiDebounceExpiry at e
  have e := Host.Outcome.next.inj e
  subst e
  have h := Keeps.refl (K := K) h
  repeat' (first
   | (with_reducible assumption)
   | (with_reducible exact keeps_sub hK (by decide))
   | (with_reducible rfl)
   | (with_reducible refine Keeps.ite (fun _ => ?_) (fun _ => ?_))
   | (with_reducible apply State.diAccept_keeps)
   | (with_reducible refine Keeps.of_eq (by with_reducible assumption) ?_)
   | split
   | (extract_lets)
   | (dsimp only))

theorem execPairDiscrepancyTimeout_keeps {K : Nat} (k : Fin 8) {s t : State} (hK : K &&& 6631429668992 = 0) (h : s.Stored)
    (e : execPairDiscrepancyTimeout k s = .next t) : Keeps K s t := by
  unfold execPairDiscrepancyTimeout at e
  have e := Host.Outcome.next.inj e
  subst e
  have h := Keeps.refl (K := K) h
  repeat' (first
   | (with_reducible assumption)
   | (with_reducible exact keeps_sub hK (by decide))
   | (with_reducible rfl)
   | exact keeps_block hK 3 (by decide) (by decide)
   | (with_reducible refine Keeps.ite (fun _ => ?_) (fun _ => ?_))
   | (with_reducible apply State.postDi_keeps)
   | (with_reducible apply State.setFlag_keeps)
   | (with_reducible apply State.pairNodes_keeps)
   | (with_reducible apply State.inc_keeps)
   | (with_reducible refine Keeps.of_eq (by with_reducible assumption) ?_)
   | split
   | (extract_lets)
   | (dsimp only))

theorem State.diWake_keeps {K : Nat} {s₀ s : State} (n : Fin 16) (hK : K &&& 17639432522376 = 0) (h : Keeps K s₀ s) :
    Keeps K s₀ (State.diWake s n) := by
  unfold State.diWake
  (try extract_lets)
  repeat' (first
   | (with_reducible assumption)
   | (with_reducible exact keeps_sub hK (by decide))
   | (with_reducible rfl)
   | (with_reducible refine Keeps.ite (fun _ => ?_) (fun _ => ?_))
   | (with_reducible apply State.diLevel_keeps)
   | (with_reducible apply State.wakeDetect_keeps)
   | (with_reducible apply State.setDi_keeps)
   | (with_reducible refine Keeps.of_eq (by with_reducible assumption) ?_)
   | split
   | (extract_lets)
   | (dsimp only))

theorem execDiKennelWake_keeps {K : Nat} (n : Fin 16) {s t : State} (hK : K &&& 17639432522376 = 0) (h : s.Stored)
    (e : execDiKennelWake n s = .next t) : Keeps K s t := by
  unfold execDiKennelWake at e
  have e := Host.Outcome.next.inj e
  subst e
  have h := Keeps.refl (K := K) h
  repeat' (first
   | (with_reducible assumption)
   | (with_reducible exact keeps_sub hK (by decide))
   | (with_reducible rfl)
   | (with_reducible refine Keeps.ite (fun _ => ?_) (fun _ => ?_))
   | (with_reducible apply State.diWake_keeps)
   | (with_reducible refine Keeps.of_eq (by with_reducible assumption) ?_)
   | split
   | (extract_lets)
   | (dsimp only))

theorem State.diInit_keeps {K : Nat} {s₀ s : State} (hK : K &&& 6631429669504 = 0) (h : Keeps K s₀ s) :
    Keeps K s₀ (State.diInit s) := by
  unfold State.diInit
  (try extract_lets)
  repeat' (first
   | (with_reducible assumption)
   | (with_reducible exact keeps_sub hK (by decide))
   | (with_reducible rfl)
   | (with_reducible refine Keeps.ite (fun _ => ?_) (fun _ => ?_))
   | (with_reducible apply State.pairNodes_keeps)
   | (with_reducible apply State.pairTimer_keeps)
   | (with_reducible apply State.setDi_keeps)
   | (with_reducible refine Keeps.foldl_range _ _ (fun s x hx h => ?_) ?_)
   | (with_reducible refine Keeps.foldl _ _ (fun s x h => ?_) ?_)
   | (with_reducible refine Keeps.foldl_fst _ _ (fun s x h => ?_) ?_)
   | (with_reducible refine Keeps.of_eq (by with_reducible assumption) ?_)
   | split
   | (extract_lets)
   | (dsimp only))

theorem State.keysResume_keeps {K : Nat} {s₀ s : State} (hK : K &&& 512 = 0) (h : Keeps K s₀ s) :
    Keeps K s₀ (State.keysResume s) := by
  unfold State.keysResume
  (try extract_lets)
  repeat' (first
   | (with_reducible assumption)
   | (with_reducible exact keeps_sub hK (by decide))
   | (with_reducible rfl)
   | (with_reducible refine Keeps.ite (fun _ => ?_) (fun _ => ?_))
   | (with_reducible apply State.pairTimer_keeps)
   | (with_reducible apply State.setDi_keeps)
   | (with_reducible refine Keeps.foldl_range _ _ (fun s x hx h => ?_) ?_)
   | (with_reducible refine Keeps.foldl _ _ (fun s x h => ?_) ?_)
   | (with_reducible refine Keeps.foldl_fst _ _ (fun s x h => ?_) ?_)
   | (with_reducible refine Keeps.of_eq (by with_reducible assumption) ?_)
   | split
   | (extract_lets)
   | (with_reducible apply Keeps.set_keys)
   | (dsimp only))

theorem State.keysSleep_keeps {K : Nat} {s₀ s : State} (hK : K &&& 512 = 0) (h : Keeps K s₀ s) :
    Keeps K s₀ (State.keysSleep s) := by
  unfold State.keysSleep
  (try extract_lets)
  repeat' (first
   | (with_reducible assumption)
   | (with_reducible exact keeps_sub hK (by decide))
   | (with_reducible rfl)
   | (with_reducible refine Keeps.ite (fun _ => ?_) (fun _ => ?_))
   | (with_reducible apply State.setKey_keeps)
   | (with_reducible refine Keeps.foldl_range _ _ (fun s x hx h => ?_) ?_)
   | (with_reducible refine Keeps.foldl _ _ (fun s x h => ?_) ?_)
   | (with_reducible refine Keeps.foldl_fst _ _ (fun s x h => ?_) ?_)
   | (with_reducible refine Keeps.of_eq (by with_reducible assumption) ?_)
   | split
   | (extract_lets)
   | (dsimp only))

theorem State.keysCntClr_keeps {K : Nat} {s₀ s : State} (v : Word) (hK : K &&& 34359738368 = 0) (h : Keeps K s₀ s) :
    Keeps K s₀ (State.keysCntClr s v) := by
  unfold State.keysCntClr
  (try extract_lets)
  repeat' (first
   | (with_reducible assumption)
   | (with_reducible exact keeps_sub hK (by decide))
   | (with_reducible rfl)
   | (with_reducible refine Keeps.ite (fun _ => ?_) (fun _ => ?_))
   | (with_reducible refine State.clearBy_keeps _ _ 3 (by decide) (keeps_bit hK (by decide)) ?_)
   | (with_reducible refine Keeps.of_eq (by with_reducible assumption) ?_)
   | split
   | (extract_lets)
   | (dsimp only))

end Sys2Proof.Machine
end

