-- ==== Sys2Proof/Laws/KeepsMotion.lean ====
section
/-! SUPPORT. What the operations and commands of Machine/Motion.lean leave unchanged: one lemma for each, its mask the parts it
may write. -/

set_option linter.all false

namespace Sys2Proof.Machine

theorem State.setEnc_keeps {K : Nat} {s₀ s : State} (n : Fin 4) (x : Enc) (hK : K &&& 1024 = 0) (h : Keeps K s₀ s) :
    Keeps K s₀ (State.setEnc s n x) := by
  unfold State.setEnc
  (try extract_lets)
  repeat' (first
   | (with_reducible assumption)
   | (with_reducible exact keeps_sub hK (by decide))
   | (with_reducible rfl)
   | (with_reducible refine Keeps.ite (fun _ => ?_) (fun _ => ?_))
   | (with_reducible refine Keeps.of_eq (by with_reducible assumption) ?_)
   | split
   | (extract_lets)
   | (with_reducible apply Keeps.set_motion)
   | (dsimp only))

theorem State.postEnc_keeps {K : Nat} {s₀ s : State} (n : Fin 4) (kind : Nat) (pos : Nat) (interval : Nat) (p' : Time) (hK : K &&& 128 = 0) (h : Keeps K s₀ s) :
    Keeps K s₀ (State.postEnc s n kind pos interval p') := by
  unfold State.postEnc
  (try extract_lets)
  repeat' (first
   | (with_reducible assumption)
   | (with_reducible exact keeps_sub hK (by decide))
   | (with_reducible rfl)
   | (with_reducible refine Keeps.ite (fun _ => ?_) (fun _ => ?_))
   | (with_reducible apply State.postAt_keeps)
   | (with_reducible refine Keeps.of_eq (by with_reducible assumption) ?_)
   | split
   | (extract_lets)
   | (dsimp only))

theorem State.setOverspeed_keeps {K : Nat} {s₀ s : State} (n : Fin 4) (b : Bool) (hK : K &&& 6665789407360 = 0) (h : Keeps K s₀ s) :
    Keeps K s₀ (State.setOverspeed s n b) := by
  unfold State.setOverspeed
  (try extract_lets)
  repeat' (first
   | (with_reducible assumption)
   | (with_reducible exact keeps_sub hK (by decide))
   | (with_reducible rfl)
   | exact keeps_block hK 4 (by decide) (by decide)
   | exact keeps_block hK 4 (by simp only [Reg.MOTION_ENC_STATUS]; omega) (by decide)
   | (with_reducible refine Keeps.ite (fun _ => ?_) (fun _ => ?_))
   | (with_reducible apply State.setFlag_keeps)
   | (with_reducible apply State.setNode_keeps)
   | (with_reducible refine Keeps.of_eq (by with_reducible assumption) ?_)
   | split
   | (extract_lets)
   | (dsimp only))

theorem State.setEncFault_keeps {K : Nat} {s₀ s : State} (n : Fin 4) (b : Bool) (hK : K &&& 6665789407360 = 0) (h : Keeps K s₀ s) :
    Keeps K s₀ (State.setEncFault s n b) := by
  unfold State.setEncFault
  (try extract_lets)
  repeat' (first
   | (with_reducible assumption)
   | (with_reducible exact keeps_sub hK (by decide))
   | (with_reducible rfl)
   | exact keeps_block hK 4 (by decide) (by decide)
   | exact keeps_block hK 4 (by simp only [Reg.MOTION_ENC_STATUS]; omega) (by decide)
   | (with_reducible refine Keeps.ite (fun _ => ?_) (fun _ => ?_))
   | (with_reducible apply State.setFlag_keeps)
   | (with_reducible apply State.setNode_keeps)
   | (with_reducible refine Keeps.of_eq (by with_reducible assumption) ?_)
   | split
   | (extract_lets)
   | (dsimp only))

theorem State.ovsClear_keeps {K : Nat} {s₀ s : State} (n : Fin 4) (hK : K &&& 6665789407360 = 0) (h : Keeps K s₀ s) :
    Keeps K s₀ (State.ovsClear s n) := by
  unfold State.ovsClear
  (try extract_lets)
  repeat' (first
   | (with_reducible assumption)
   | (with_reducible exact keeps_sub hK (by decide))
   | (with_reducible rfl)
   | (with_reducible refine Keeps.ite (fun _ => ?_) (fun _ => ?_))
   | (with_reducible apply State.setOverspeed_keeps)
   | (with_reducible apply State.postEnc_keeps)
   | (with_reducible refine Keeps.of_eq (by with_reducible assumption) ?_)
   | split
   | (extract_lets)
   | (dsimp only))

theorem State.ovsJudge_keeps {K : Nat} {s₀ s : State} (n : Fin 4) (hK : K &&& 6665789408384 = 0) (h : Keeps K s₀ s) :
    Keeps K s₀ (State.ovsJudge s n) := by
  unfold State.ovsJudge
  (try extract_lets)
  repeat' (first
   | (with_reducible assumption)
   | (with_reducible exact keeps_sub hK (by decide))
   | (with_reducible rfl)
   | (with_reducible refine Keeps.ite (fun _ => ?_) (fun _ => ?_))
   | (with_reducible apply State.setOverspeed_keeps)
   | (with_reducible apply State.setEnc_keeps)
   | (with_reducible apply State.ovsClear_keeps)
   | (with_reducible apply State.postEnc_keeps)
   | (with_reducible refine Keeps.of_eq (by with_reducible assumption) ?_)
   | split
   | (extract_lets)
   | (dsimp only))

theorem State.encEdge_keeps {K : Nat} {s₀ s : State} (n : Fin 4) (up : Bool) (hK : K &&& 6665789408384 = 0) (h : Keeps K s₀ s) :
    Keeps K s₀ (State.encEdge s n up) := by
  unfold State.encEdge
  (try extract_lets)
  repeat' (first
   | (with_reducible assumption)
   | (with_reducible exact keeps_sub hK (by decide))
   | (with_reducible rfl)
   | exact keeps_block hK 4 (by decide) (by decide)
   | exact keeps_block hK 4 (by simp only [Reg.MOTION_ENC_POS, Reg.MOTION_ENC_STATUS]; omega) (by decide)
   | (with_reducible refine Keeps.ite (fun _ => ?_) (fun _ => ?_))
   | (with_reducible apply State.setReg_keeps)
   | (with_reducible apply State.setFlag_keeps)
   | (with_reducible apply State.ovsJudge_keeps)
   | (with_reducible apply State.setEnc_keeps)
   | (with_reducible refine Keeps.of_eq (by with_reducible assumption) ?_)
   | split
   | (extract_lets)
   | (dsimp only))

theorem State.kennelCount_keeps {K : Nat} {s₀ s : State} (n : Fin 4) (k : Nat) (hK : K &&& 17605072784520 = 0) (h : Keeps K s₀ s) :
    Keeps K s₀ (State.kennelCount s n k) := by
  unfold State.kennelCount
  (try extract_lets)
  repeat' (first
   | (with_reducible assumption)
   | (with_reducible exact keeps_sub hK (by decide))
   | (with_reducible rfl)
   | (with_reducible refine Keeps.ite (fun _ => ?_) (fun _ => ?_))
   | (with_reducible apply State.wakeDetect_keeps)
   | (with_reducible apply State.setEnc_keeps)
   | (with_reducible refine Keeps.of_eq (by with_reducible assumption) ?_)
   | split
   | (extract_lets)
   | (dsimp only))

theorem execEncoderEdge_keeps {K : Nat} (n : Fin 4) (onB : Bool) (a : Bool) (b : Bool) {s t : State} (hK : K &&& 24270862191752 = 0) (h : s.Stored)
    (e : execEncoderEdge n onB a b s = .next t) : Keeps K s t := by
  unfold execEncoderEdge at e
  have e := Host.Outcome.next.inj e
  subst e
  have h := Keeps.refl (K := K) h
  repeat' (first
   | (with_reducible assumption)
   | (with_reducible exact keeps_sub hK (by decide))
   | (with_reducible rfl)
   | (with_reducible refine Keeps.ite (fun _ => ?_) (fun _ => ?_))
   | (with_reducible apply State.kennelCount_keeps)
   | (with_reducible apply State.encEdge_keeps)
   | (with_reducible refine Keeps.of_eq (by with_reducible assumption) ?_)
   | split
   | (extract_lets)
   | (dsimp only))

theorem execOverspeedRelease_keeps {K : Nat} (n : Fin 4) {s t : State} (hK : K &&& 6665789407360 = 0) (h : s.Stored)
    (e : execOverspeedRelease n s = .next t) : Keeps K s t := by
  unfold execOverspeedRelease at e
  have e := Host.Outcome.next.inj e
  subst e
  have h := Keeps.refl (K := K) h
  repeat' (first
   | (with_reducible assumption)
   | (with_reducible exact keeps_sub hK (by decide))
   | (with_reducible rfl)
   | (with_reducible refine Keeps.ite (fun _ => ?_) (fun _ => ?_))
   | (with_reducible apply State.ovsClear_keeps)
   | (with_reducible refine Keeps.of_eq (by with_reducible assumption) ?_)
   | split
   | (extract_lets)
   | (dsimp only))

theorem State.encIllegal_keeps {K : Nat} {s₀ s : State} (n : Fin 4) (hK : K &&& 6665789408384 = 0) (h : Keeps K s₀ s) :
    Keeps K s₀ (State.encIllegal s n) := by
  unfold State.encIllegal
  (try extract_lets)
  repeat' (first
   | (with_reducible assumption)
   | (with_reducible exact keeps_sub hK (by decide))
   | (with_reducible rfl)
   | exact keeps_block hK 4 (by decide) (by decide)
   | exact keeps_block hK 4 (by simp only [Reg.MOTION_ENC_STATUS]; omega) (by decide)
   | (with_reducible refine Keeps.ite (fun _ => ?_) (fun _ => ?_))
   | (with_reducible apply State.setFlag_keeps)
   | (with_reducible apply State.inc_keeps)
   | (with_reducible apply State.setEnc_keeps)
   | (with_reducible apply State.ovsClear_keeps)
   | (with_reducible apply State.postEnc_keeps)
   | (with_reducible apply State.setEncFault_keeps)
   | (with_reducible refine Keeps.of_eq (by with_reducible assumption) ?_)
   | split
   | (extract_lets)
   | (dsimp only))

theorem execIllegalTransition_keeps {K : Nat} (n : Fin 4) {s t : State} (hK : K &&& 24270862191752 = 0) (h : s.Stored)
    (e : execIllegalTransition n s = .next t) : Keeps K s t := by
  unfold execIllegalTransition at e
  have e := Host.Outcome.next.inj e
  subst e
  have h := Keeps.refl (K := K) h
  repeat' (first
   | (with_reducible assumption)
   | (with_reducible exact keeps_sub hK (by decide))
   | (with_reducible rfl)
   | (with_reducible refine Keeps.ite (fun _ => ?_) (fun _ => ?_))
   | (with_reducible apply State.kennelCount_keeps)
   | (with_reducible apply State.encIllegal_keeps)
   | (with_reducible refine Keeps.of_eq (by with_reducible assumption) ?_)
   | split
   | (extract_lets)
   | (dsimp only))

theorem execFaultHoldExpiry_keeps {K : Nat} (n : Fin 4) {s t : State} (hK : K &&& 6665789407360 = 0) (h : s.Stored)
    (e : execFaultHoldExpiry n s = .next t) : Keeps K s t := by
  unfold execFaultHoldExpiry at e
  have e := Host.Outcome.next.inj e
  subst e
  have h := Keeps.refl (K := K) h
  repeat' (first
   | (with_reducible assumption)
   | (with_reducible exact keeps_sub hK (by decide))
   | (with_reducible rfl)
   | (with_reducible refine Keeps.ite (fun _ => ?_) (fun _ => ?_))
   | (with_reducible apply State.setEncFault_keeps)
   | (with_reducible refine Keeps.of_eq (by with_reducible assumption) ?_)
   | split
   | (extract_lets)
   | (dsimp only))

theorem execEncoderReport_keeps {K : Nat} (n : Fin 4) {s t : State} (hK : K &&& 1152 = 0) (h : s.Stored)
    (e : execEncoderReport n s = .next t) : Keeps K s t := by
  unfold execEncoderReport at e
  have e := Host.Outcome.next.inj e
  subst e
  have h := Keeps.refl (K := K) h
  repeat' (first
   | (with_reducible assumption)
   | (with_reducible exact keeps_sub hK (by decide))
   | (with_reducible rfl)
   | (with_reducible refine Keeps.ite (fun _ => ?_) (fun _ => ?_))
   | (with_reducible apply State.setEnc_keeps)
   | (with_reducible apply State.postEnc_keeps)
   | (with_reducible refine Keeps.of_eq (by with_reducible assumption) ?_)
   | split
   | (extract_lets)
   | (dsimp only))

theorem State.latchEnc_keeps {K : Nat} {s₀ s : State} (n : Fin 4) (hK : K &&& 68719476736 = 0) (h : Keeps K s₀ s) :
    Keeps K s₀ (State.latchEnc s n) := by
  unfold State.latchEnc
  (try extract_lets)
  repeat' (first
   | (with_reducible assumption)
   | (with_reducible exact keeps_sub hK (by decide))
   | (with_reducible rfl)
   | exact keeps_block hK 4 (by decide) (by decide)
   | exact keeps_block hK 4 (by simp only [Reg.MOTION_ENC_EDGE_PT_HI, Reg.MOTION_ENC_EDGE_PT_LO, Reg.MOTION_ENC_INTERVAL]; omega) (by decide)
   | (with_reducible refine Keeps.ite (fun _ => ?_) (fun _ => ?_))
   | (with_reducible apply State.setReg_keeps)
   | (with_reducible refine Keeps.of_eq (by with_reducible assumption) ?_)
   | split
   | (extract_lets)
   | (dsimp only))

theorem execMotionWake_keeps {K : Nat} (n : Fin 4) {s t : State} (hK : K &&& 17605072784520 = 0) (h : s.Stored)
    (e : execMotionWake n s = .next t) : Keeps K s t := by
  unfold execMotionWake at e
  have e := Host.Outcome.next.inj e
  subst e
  have h := Keeps.refl (K := K) h
  repeat' (first
   | (with_reducible assumption)
   | (with_reducible exact keeps_sub hK (by decide))
   | (with_reducible rfl)
   | (with_reducible refine Keeps.ite (fun _ => ?_) (fun _ => ?_))
   | (with_reducible apply State.kennelCount_keeps)
   | (with_reducible refine Keeps.of_eq (by with_reducible assumption) ?_)
   | split
   | (extract_lets)
   | (dsimp only))

theorem State.encEnable_keeps {K : Nat} {s₀ s : State} (n : Fin 4) (hK : K &&& 6665789408384 = 0) (h : Keeps K s₀ s) :
    Keeps K s₀ (State.encEnable s n) := by
  unfold State.encEnable
  (try extract_lets)
  repeat' (first
   | (with_reducible assumption)
   | (with_reducible exact keeps_sub hK (by decide))
   | (with_reducible rfl)
   | (with_reducible refine Keeps.ite (fun _ => ?_) (fun _ => ?_))
   | (with_reducible apply State.setOverspeed_keeps)
   | (with_reducible apply State.setEnc_keeps)
   | (with_reducible apply State.setEncFault_keeps)
   | (with_reducible refine Keeps.of_eq (by with_reducible assumption) ?_)
   | split
   | (extract_lets)
   | (dsimp only))

theorem State.motionSleep_keeps {K : Nat} {s₀ s : State} (hK : K &&& 1024 = 0) (h : Keeps K s₀ s) :
    Keeps K s₀ (State.motionSleep s) := by
  unfold State.motionSleep
  (try extract_lets)
  repeat' (first
   | (with_reducible assumption)
   | (with_reducible exact keeps_sub hK (by decide))
   | (with_reducible rfl)
   | (with_reducible refine Keeps.ite (fun _ => ?_) (fun _ => ?_))
   | (with_reducible refine Keeps.of_eq (by with_reducible assumption) ?_)
   | split
   | (extract_lets)
   | (with_reducible apply Keeps.set_motion)
   | (dsimp only))

theorem State.lateEdges_keeps {K : Nat} {s₀ s : State} (k : Vector (BitVec 16) 4) (hK : K &&& 1024 = 0) (h : Keeps K s₀ s) :
    Keeps K s₀ (State.lateEdges s k) := by
  unfold State.lateEdges
  (try extract_lets)
  repeat' (first
   | (with_reducible assumption)
   | (with_reducible exact keeps_sub hK (by decide))
   | (with_reducible rfl)
   | (with_reducible refine Keeps.ite (fun _ => ?_) (fun _ => ?_))
   | (with_reducible refine Keeps.of_eq (by with_reducible assumption) ?_)
   | split
   | (extract_lets)
   | (with_reducible apply Keeps.set_motion)
   | (dsimp only))

theorem State.encResume_keeps {K : Nat} {s₀ s : State} (hK : K &&& 6665789408384 = 0) (h : Keeps K s₀ s) :
    Keeps K s₀ (State.encResume s) := by
  unfold State.encResume
  (try extract_lets)
  repeat' (first
   | (with_reducible assumption)
   | (with_reducible exact keeps_sub hK (by decide))
   | (with_reducible rfl)
   | exact keeps_block hK 4 (by decide) (by decide)
   | exact keeps_block hK 4 (by simp only [Reg.MOTION_ENC_STATUS, Reg.MOTION_KEDGES]; omega) (by decide)
   | (with_reducible refine Keeps.ite (fun _ => ?_) (fun _ => ?_))
   | (with_reducible apply State.setFlag_keeps)
   | (with_reducible apply State.setFld_keeps)
   | (with_reducible apply State.setEnc_keeps)
   | (with_reducible apply State.ovsClear_keeps)
   | (with_reducible apply State.postEnc_keeps)
   | (with_reducible refine Keeps.foldl _ _ (fun s x h => ?_) ?_)
   | (with_reducible refine Keeps.foldl_fst _ _ (fun s x h => ?_) ?_)
   | (with_reducible refine Keeps.of_eq (by with_reducible assumption) ?_)
   | split
   | (extract_lets)
   | (dsimp only))

theorem State.setFmod_keeps {K : Nat} {s₀ s : State} (hK : K &&& 68719476736 = 0) (h : Keeps K s₀ s) :
    Keeps K s₀ (State.setFmod s) := by
  unfold State.setFmod
  (try extract_lets)
  repeat' (first
   | (with_reducible assumption)
   | (with_reducible exact keeps_sub hK (by decide))
   | (with_reducible rfl)
   | exact keeps_block hK 4 (by decide) (by decide)
   | (with_reducible refine Keeps.ite (fun _ => ?_) (fun _ => ?_))
   | (with_reducible apply State.setReg_keeps)
   | (with_reducible refine Keeps.of_eq (by with_reducible assumption) ?_)
   | split
   | (extract_lets)
   | (dsimp only))

theorem State.startFmod_keeps {K : Nat} {s₀ s : State} (hK : K &&& 68719477760 = 0) (h : Keeps K s₀ s) :
    Keeps K s₀ (State.startFmod s) := by
  unfold State.startFmod
  (try extract_lets)
  repeat' (first
   | (with_reducible assumption)
   | (with_reducible exact keeps_sub hK (by decide))
   | (with_reducible rfl)
   | (with_reducible refine Keeps.ite (fun _ => ?_) (fun _ => ?_))
   | (with_reducible apply State.setFmod_keeps)
   | (with_reducible refine Keeps.of_eq (by with_reducible assumption) ?_)
   | split
   | (extract_lets)
   | (with_reducible apply Keeps.set_motion)
   | (dsimp only))

theorem State.modTimer_keeps {K : Nat} {s₀ s : State} (hK : K &&& 68719477760 = 0) (h : Keeps K s₀ s) :
    Keeps K s₀ (State.modTimer s) := by
  unfold State.modTimer
  (try extract_lets)
  repeat' (first
   | (with_reducible assumption)
   | (with_reducible exact keeps_sub hK (by decide))
   | (with_reducible rfl)
   | (with_reducible refine Keeps.ite (fun _ => ?_) (fun _ => ?_))
   | (with_reducible apply State.setFmod_keeps)
   | (with_reducible refine Keeps.of_eq (by with_reducible assumption) ?_)
   | split
   | (extract_lets)
   | (with_reducible apply Keeps.set_motion)
   | (dsimp only))

theorem State.motionResume_keeps {K : Nat} {s₀ s : State} (hK : K &&& 6665789408384 = 0) (h : Keeps K s₀ s) :
    Keeps K s₀ (State.motionResume s) := by
  unfold State.motionResume
  (try extract_lets)
  repeat' (first
   | (with_reducible assumption)
   | (with_reducible exact keeps_sub hK (by decide))
   | (with_reducible rfl)
   | (with_reducible refine Keeps.ite (fun _ => ?_) (fun _ => ?_))
   | (with_reducible apply State.encResume_keeps)
   | (with_reducible apply State.startFmod_keeps)
   | (with_reducible refine Keeps.of_eq (by with_reducible assumption) ?_)
   | split
   | (extract_lets)
   | (dsimp only))

theorem State.photoShare_keeps {K : Nat} {s₀ s : State} (n : Fin 8) (i : Int) (hK : K &&& 2 = 0) (h : Keeps K s₀ s) :
    Keeps K s₀ (State.photoShare s n i).1 := by
  unfold State.photoShare
  (try extract_lets)
  repeat' (first
   | (with_reducible assumption)
   | (with_reducible exact keeps_sub hK (by decide))
   | (with_reducible rfl)
   | (with_reducible refine Keeps.ite (fun _ => ?_) (fun _ => ?_))
   | (with_reducible apply State.draw_keeps)
   | (with_reducible apply State.roundFrac_keeps)
   | (with_reducible refine Keeps.of_eq (by with_reducible assumption) ?_)
   | split
   | (extract_lets)
   | (dsimp only))

theorem State.cliffShares_keeps {K : Nat} {s₀ s : State} (n : Fin 8) (x : CliffData) (hK : K &&& 2 = 0) (h : Keeps K s₀ s) :
    Keeps K s₀ (State.cliffShares s n x).1 := by
  unfold State.cliffShares
  (try extract_lets)
  repeat' (first
   | (with_reducible assumption)
   | (with_reducible exact keeps_sub hK (by decide))
   | (with_reducible rfl)
   | (with_reducible refine Keeps.ite (fun _ => ?_) (fun _ => ?_))
   | (with_reducible apply State.photoShare_keeps)
   | (with_reducible refine Keeps.of_eq (by with_reducible assumption) ?_)
   | split
   | (extract_lets)
   | (dsimp only))

theorem State.postCliff_keeps {K : Nat} {s₀ s : State} (n : Fin 8) (kind : Nat) (x : CliffData) (hK : K &&& 128 = 0) (h : Keeps K s₀ s) :
    Keeps K s₀ (State.postCliff s n kind x) := by
  unfold State.postCliff
  (try extract_lets)
  repeat' (first
   | (with_reducible assumption)
   | (with_reducible exact keeps_sub hK (by decide))
   | (with_reducible rfl)
   | (with_reducible refine Keeps.ite (fun _ => ?_) (fun _ => ?_))
   | (with_reducible apply State.postAt_keeps)
   | (with_reducible refine Keeps.of_eq (by with_reducible assumption) ?_)
   | split
   | (extract_lets)
   | (dsimp only))

theorem State.cliffResult_keeps {K : Nat} {s₀ s : State} (n : Fin 8) (x : CliffData) (hK : K &&& 6665789408386 = 0) (h : Keeps K s₀ s) :
    Keeps K s₀ (State.cliffResult s n x) := by
  unfold State.cliffResult
  dsimp only
  repeat' (first
   | (with_reducible assumption)
   | (with_reducible exact keeps_sub hK (by decide))
   | (with_reducible rfl)
   | exact keeps_block hK 4 (by decide) (by decide)
   | exact keeps_block hK 4 (by simp only [Reg.MOTION_CLF_CFG, Reg.MOTION_CLF_EMIT, Reg.MOTION_CLF_RESULT, Reg.MOTION_CLF_STATUS, Reg.MOTION_CLF_TH]; omega) (by decide)
   | (with_reducible refine Keeps.ite (fun _ => ?_) (fun _ => ?_))
   | (with_reducible apply State.setReg_keeps)
   | (with_reducible apply State.cliffShares_keeps)
   | (with_reducible apply State.setFld_keeps)
   | (with_reducible apply State.inc_keeps)
   | (with_reducible apply State.postCliff_keeps)
   | (with_reducible apply State.setNode_keeps)
   | (with_reducible refine Keeps.foldl _ _ (fun s x h => ?_) ?_)
   | (with_reducible refine Keeps.foldl_fst _ _ (fun s x h => ?_) ?_)
   | (with_reducible refine Keeps.of_eq (by with_reducible assumption) ?_)
   | split
   | (extract_lets)
   | (with_reducible apply Keeps.set_motion)
   | (dsimp only))

theorem execCliffResult_keeps {K : Nat} (n : Fin 8) (x : CliffData) {s t : State} (hK : K &&& 6665789408386 = 0) (h : s.Stored)
    (e : execCliffResult n x s = .next t) : Keeps K s t := by
  unfold execCliffResult at e
  have e := Host.Outcome.next.inj e
  subst e
  have h := Keeps.refl (K := K) h
  repeat' (first
   | (with_reducible assumption)
   | (with_reducible exact keeps_sub hK (by decide))
   | (with_reducible rfl)
   | (with_reducible refine Keeps.ite (fun _ => ?_) (fun _ => ?_))
   | (with_reducible apply State.cliffResult_keeps)
   | (with_reducible refine Keeps.of_eq (by with_reducible assumption) ?_)
   | split
   | (extract_lets)
   | (dsimp only))

theorem State.motionCntClr_keeps {K : Nat} {s₀ s : State} (v : Word) (hK : K &&& 68719476736 = 0) (h : Keeps K s₀ s) :
    Keeps K s₀ (State.motionCntClr s v) := by
  unfold State.motionCntClr
  (try extract_lets)
  repeat' (first
   | (with_reducible assumption)
   | (with_reducible exact keeps_sub hK (by decide))
   | (with_reducible rfl)
   | (with_reducible refine Keeps.ite (fun _ => ?_) (fun _ => ?_))
   | (with_reducible refine State.clearBy_keeps _ _ 4 (by decide) (keeps_bit hK (by decide)) ?_)
   | (with_reducible refine Keeps.of_eq (by with_reducible assumption) ?_)
   | split
   | (extract_lets)
   | (dsimp only))

end Sys2Proof.Machine
end

