-- ==== Sys2Proof/Laws/KeepsFlashOps.lean ====
section
/-! SUPPORT. What the operations and commands of Machine/FlashOps.lean leave unchanged: one lemma for each, its mask the parts it
may write. -/

set_option linter.all false

namespace Sys2Proof.Machine

theorem State.modBank_keeps {K : Nat} {s₀ s : State} (b : Fin 2) (f : Bank → Bank) (hK : K &&& 4194304 = 0) (h : Keeps K s₀ s) :
    Keeps K s₀ (State.modBank s b f) := by
  unfold State.modBank
  (try extract_lets)
  repeat' (first
   | (with_reducible assumption)
   | (with_reducible exact keeps_sub hK (by decide))
   | (with_reducible rfl)
   | (with_reducible refine Keeps.ite (fun _ => ?_) (fun _ => ?_))
   | (with_reducible refine Keeps.of_eq (by with_reducible assumption) ?_)
   | split
   | (extract_lets)
   | (with_reducible apply Keeps.set_flash)
   | (dsimp only))

theorem State.modJrn_keeps {K : Nat} {s₀ s : State} (f : Journal → Journal) (hK : K &&& 4194304 = 0) (h : Keeps K s₀ s) :
    Keeps K s₀ (State.modJrn s f) := by
  unfold State.modJrn
  (try extract_lets)
  repeat' (first
   | (with_reducible assumption)
   | (with_reducible exact keeps_sub hK (by decide))
   | (with_reducible rfl)
   | (with_reducible refine Keeps.ite (fun _ => ?_) (fun _ => ?_))
   | (with_reducible refine Keeps.of_eq (by with_reducible assumption) ?_)
   | split
   | (extract_lets)
   | (with_reducible apply Keeps.set_flash)
   | (dsimp only))

theorem State.scrambleSector_keeps {K : Nat} {s₀ s : State} (g : Nat) (hK : K &&& 4194306 = 0) (h : Keeps K s₀ s) :
    Keeps K s₀ (State.scrambleSector s g) := by
  unfold State.scrambleSector
  (try extract_lets)
  repeat' (first
   | (with_reducible assumption)
   | (with_reducible exact keeps_sub hK (by decide))
   | (with_reducible rfl)
   | (with_reducible refine Keeps.ite (fun _ => ?_) (fun _ => ?_))
   | (with_reducible apply State.setLine_keeps)
   | (with_reducible refine Keeps.foldl_range _ _ (fun s x hx h => ?_) ?_)
   | (with_reducible refine Keeps.foldl _ _ (fun s x h => ?_) ?_)
   | (with_reducible refine Keeps.foldl_fst _ _ (fun s x h => ?_) ?_)
   | (with_reducible refine Keeps.of_eq (by with_reducible assumption) ?_)
   | split
   | (extract_lets)
   | (with_reducible apply Keeps.set_free)
   | (dsimp only))

theorem State.lineRead_keeps {K : Nat} {s₀ s : State} (agent : Nat) (l : Nat) (ecc : Nat × Bool) (hK : K &&& 35184376283264 = 0) (h : Keeps K s₀ s) :
    Keeps K s₀ (State.lineRead s agent l ecc) := by
  unfold State.lineRead
  (try extract_lets)
  repeat' (first
   | (with_reducible assumption)
   | (with_reducible exact keeps_sub hK (by decide))
   | (with_reducible rfl)
   | exact keeps_block hK 13 (by decide) (by decide)
   | (with_reducible refine Keeps.ite (fun _ => ?_) (fun _ => ?_))
   | (with_reducible apply State.post_keeps)
   | (with_reducible apply State.setFlag_keeps)
   | (with_reducible apply State.inc_keeps)
   | (with_reducible refine Keeps.of_eq (by with_reducible assumption) ?_)
   | split
   | (extract_lets)
   | (with_reducible apply Keeps.set_flash)
   | (dsimp only))

theorem State.linesRead_keeps {K : Nat} {s₀ s : State} (agent : Nat) (errs : List LineErr) (a : Nat) (n : Nat) (hK : K &&& 35184376283264 = 0) (h : Keeps K s₀ s) :
    Keeps K s₀ (State.linesRead s agent errs a n) := by
  unfold State.linesRead
  (try extract_lets)
  repeat' (first
   | (with_reducible assumption)
   | (with_reducible exact keeps_sub hK (by decide))
   | (with_reducible rfl)
   | (with_reducible refine Keeps.ite (fun _ => ?_) (fun _ => ?_))
   | (with_reducible apply State.lineRead_keeps)
   | (with_reducible refine Keeps.foldl_range _ _ (fun s x hx h => ?_) ?_)
   | (with_reducible refine Keeps.foldl _ _ (fun s x h => ?_) ?_)
   | (with_reducible refine Keeps.foldl_fst _ _ (fun s x h => ?_) ?_)
   | (with_reducible refine Keeps.of_eq (by with_reducible assumption) ?_)
   | split
   | (extract_lets)
   | (dsimp only))

theorem State.postSuspect_keeps {K : Nat} {s₀ s : State} (kind : Nat) (b : Fin 2) (k : Nat) (hK : K &&& 128 = 0) (h : Keeps K s₀ s) :
    Keeps K s₀ (State.postSuspect s kind b k) := by
  unfold State.postSuspect
  (try extract_lets)
  repeat' (first
   | (with_reducible assumption)
   | (with_reducible exact keeps_sub hK (by decide))
   | (with_reducible rfl)
   | (with_reducible refine Keeps.ite (fun _ => ?_) (fun _ => ?_))
   | (with_reducible apply State.post_keeps)
   | (with_reducible refine Keeps.of_eq (by with_reducible assumption) ?_)
   | split
   | (extract_lets)
   | (dsimp only))

theorem State.refusedSuspect_keeps {K : Nat} {s₀ s : State} (b : Fin 2) (k : Nat) (hK : K &&& 4194432 = 0) (h : Keeps K s₀ s) :
    Keeps K s₀ (State.refusedSuspect s b k) := by
  unfold State.refusedSuspect
  (try extract_lets)
  repeat' (first
   | (with_reducible assumption)
   | (with_reducible exact keeps_sub hK (by decide))
   | (with_reducible rfl)
   | (with_reducible refine Keeps.ite (fun _ => ?_) (fun _ => ?_))
   | (with_reducible apply State.postSuspect_keeps)
   | (with_reducible refine Keeps.of_eq (by with_reducible assumption) ?_)
   | split
   | (extract_lets)
   | (with_reducible apply Keeps.set_flash)
   | (dsimp only))

theorem State.mark_keeps {K : Nat} {s₀ s : State} (b : Fin 2) (done : Bool) (k : Nat) (hK : K &&& 4194304 = 0) (h : Keeps K s₀ s) :
    Keeps K s₀ (State.mark s b done k) := by
  unfold State.mark
  (try extract_lets)
  repeat' (first
   | (with_reducible assumption)
   | (with_reducible exact keeps_sub hK (by decide))
   | (with_reducible rfl)
   | (with_reducible refine Keeps.ite (fun _ => ?_) (fun _ => ?_))
   | (with_reducible apply State.modBank_keeps)
   | (with_reducible refine Keeps.of_eq (by with_reducible assumption) ?_)
   | split
   | (extract_lets)
   | (dsimp only))

theorem State.startErase_keeps {K : Nat} {s₀ s : State} (b : Fin 2) (k : Nat) (use : EraseFor) (hK : K &&& 4194304 = 0) (h : Keeps K s₀ s) :
    Keeps K s₀ (State.startErase s b k use) := by
  unfold State.startErase
  (try extract_lets)
  repeat' (first
   | (with_reducible assumption)
   | (with_reducible exact keeps_sub hK (by decide))
   | (with_reducible rfl)
   | (with_reducible refine Keeps.ite (fun _ => ?_) (fun _ => ?_))
   | (with_reducible apply State.modBank_keeps)
   | (with_reducible apply State.mark_keeps)
   | (with_reducible refine Keeps.of_eq (by with_reducible assumption) ?_)
   | split
   | (extract_lets)
   | (dsimp only))

theorem State.abandonErase_keeps {K : Nat} {s₀ s : State} (b : Fin 2) (record : Bool) (hK : K &&& 4194434 = 0) (h : Keeps K s₀ s) :
    Keeps K s₀ (State.abandonErase s b record) := by
  unfold State.abandonErase
  (try extract_lets)
  repeat' (first
   | (with_reducible assumption)
   | (with_reducible exact keeps_sub hK (by decide))
   | (with_reducible rfl)
   | (with_reducible refine Keeps.ite (fun _ => ?_) (fun _ => ?_))
   | (with_reducible apply State.postSuspect_keeps)
   | (with_reducible apply State.modBank_keeps)
   | (with_reducible apply State.scrambleSector_keeps)
   | (with_reducible refine Keeps.of_eq (by with_reducible assumption) ?_)
   | split
   | (extract_lets)
   | (dsimp only))

theorem State.endProgram_keeps {K : Nat} {s₀ s : State} (b : Fin 2) (hK : K &&& 4194304 = 0) (h : Keeps K s₀ s) :
    Keeps K s₀ (State.endProgram s b) := by
  unfold State.endProgram
  (try extract_lets)
  repeat' (first
   | (with_reducible assumption)
   | (with_reducible exact keeps_sub hK (by decide))
   | (with_reducible rfl)
   | (with_reducible refine Keeps.ite (fun _ => ?_) (fun _ => ?_))
   | (with_reducible apply State.setLine_keeps)
   | (with_reducible apply State.modBank_keeps)
   | (with_reducible refine Keeps.of_eq (by with_reducible assumption) ?_)
   | split
   | (extract_lets)
   | (dsimp only))

theorem State.programLine_keeps {K : Nat} {s₀ s : State} (l : Nat) (d : List Byte) (hK : K &&& 4194432 = 0) (h : Keeps K s₀ s) :
    Keeps K s₀ (State.programLine s l d) := by
  unfold State.programLine
  (try extract_lets)
  repeat' (first
   | (with_reducible assumption)
   | (with_reducible exact keeps_sub hK (by decide))
   | (with_reducible rfl)
   | (with_reducible refine Keeps.ite (fun _ => ?_) (fun _ => ?_))
   | (with_reducible apply State.setLine_keeps)
   | (with_reducible apply State.refusedSuspect_keeps)
   | (with_reducible refine Keeps.of_eq (by with_reducible assumption) ?_)
   | split
   | (extract_lets)
   | (dsimp only))

theorem State.eraseFailed_keeps {K : Nat} {s₀ s : State} (b : Fin 2) (k : Nat) (hK : K &&& 94570891083930 = 0) (h : Keeps K s₀ s) :
    Keeps K s₀ (State.eraseFailed s b k) := by
  unfold State.eraseFailed
  (try extract_lets)
  repeat' (first
   | (with_reducible assumption)
   | (with_reducible exact keeps_sub hK (by decide))
   | (with_reducible rfl)
   | exact keeps_block hK 14 (by decide) (by decide)
   | (with_reducible refine Keeps.ite (fun _ => ?_) (fun _ => ?_))
   | (with_reducible apply State.classD_keeps)
   | (with_reducible apply State.inc_keeps)
   | (with_reducible apply State.classS_keeps)
   | (with_reducible refine Keeps.of_eq (by with_reducible assumption) ?_)
   | split
   | (extract_lets)
   | (with_reducible apply Keeps.set_flash)
   | (dsimp only))

end Sys2Proof.Machine
end

