-- ==== Sys2Proof/Laws/KeepsJournalOps.lean ====
section
/-! SUPPORT. What the operations and commands of Machine/JournalOps.lean leave unchanged: one lemma for each, its mask the parts it
may write. -/

set_option linter.all false

namespace Sys2Proof.Machine

theorem State.eraseAhead_keeps {K : Nat} {s₀ s : State} (hK : K &&& 4194304 = 0) (h : Keeps K s₀ s) :
    Keeps K s₀ (State.eraseAhead s) := by
  unfold State.eraseAhead
  (try extract_lets)
  repeat' (first
   | (with_reducible assumption)
   | (with_reducible exact keeps_sub hK (by decide))
   | (with_reducible rfl)
   | (with_reducible refine Keeps.ite (fun _ => ?_) (fun _ => ?_))
   | (with_reducible apply State.startErase_keeps)
   | (with_reducible apply State.modJrn_keeps)
   | (with_reducible refine Keeps.of_eq (by with_reducible assumption) ?_)
   | split
   | (extract_lets)
   | (dsimp only))

theorem State.erasePlan_keeps {K : Nat} {s₀ s : State} (b : Fin 2) (hK : K &&& 4194304 = 0) (h : Keeps K s₀ s) :
    Keeps K s₀ (State.erasePlan s b) := by
  unfold State.erasePlan
  (try extract_lets)
  repeat' (first
   | (with_reducible assumption)
   | (with_reducible exact keeps_sub hK (by decide))
   | (with_reducible rfl)
   | (with_reducible refine Keeps.ite (fun _ => ?_) (fun _ => ?_))
   | (with_reducible apply State.startErase_keeps)
   | (with_reducible refine Keeps.of_eq (by with_reducible assumption) ?_)
   | split
   | (extract_lets)
   | (dsimp only))

theorem State.eraseStage_keeps {K : Nat} {s₀ s : State} (b : Fin 2) (hK : K &&& 4194304 = 0) (h : Keeps K s₀ s) :
    Keeps K s₀ (State.eraseStage s b) := by
  unfold State.eraseStage
  (try extract_lets)
  repeat' (first
   | (with_reducible assumption)
   | (with_reducible exact keeps_sub hK (by decide))
   | (with_reducible rfl)
   | (with_reducible refine Keeps.ite (fun _ => ?_) (fun _ => ?_))
   | (with_reducible apply State.startErase_keeps)
   | (with_reducible refine Keeps.of_eq (by with_reducible assumption) ?_)
   | split
   | (extract_lets)
   | (dsimp only))

theorem State.kickErases_keeps {K : Nat} {s₀ s : State} (hK : K &&& 4194304 = 0) (h : Keeps K s₀ s) :
    Keeps K s₀ (State.kickErases s) := by
  unfold State.kickErases
  (try extract_lets)
  repeat' (first
   | (with_reducible assumption)
   | (with_reducible exact keeps_sub hK (by decide))
   | (with_reducible rfl)
   | (with_reducible refine Keeps.ite (fun _ => ?_) (fun _ => ?_))
   | (with_reducible apply State.erasePlan_keeps)
   | (with_reducible apply State.eraseAhead_keeps)
   | (with_reducible apply State.eraseStage_keeps)
   | (with_reducible refine Keeps.of_eq (by with_reducible assumption) ?_)
   | split
   | (extract_lets)
   | (dsimp only))

theorem State.jrnWrite_keeps {K : Nat} {s₀ s : State} (typ : Nat) (est : Bool) (p' : Time) (payload : List Byte) (hK : K &&& 4194304 = 0) (h : Keeps K s₀ s) :
    Keeps K s₀ (State.jrnWrite s typ est p' payload) := by
  unfold State.jrnWrite
  (try extract_lets)
  repeat' (first
   | (with_reducible assumption)
   | (with_reducible exact keeps_sub hK (by decide))
   | (with_reducible rfl)
   | (with_reducible refine Keeps.ite (fun _ => ?_) (fun _ => ?_))
   | (with_reducible apply State.setLine_keeps)
   | (with_reducible apply State.eraseAhead_keeps)
   | (with_reducible apply State.modJrn_keeps)
   | (with_reducible refine Keeps.of_eq (by with_reducible assumption) ?_)
   | split
   | (extract_lets)
   | (dsimp only))

theorem State.snapshotDone_keeps {K : Nat} {s₀ s : State} (no : BitVec 16) (hK : K &&& 26388282220808 = 0) (h : Keeps K s₀ s) :
    Keeps K s₀ (State.snapshotDone s no) := by
  unfold State.snapshotDone
  (try extract_lets)
  repeat' (first
   | (with_reducible assumption)
   | (with_reducible exact keeps_sub hK (by decide))
   | (with_reducible rfl)
   | (with_reducible refine Keeps.ite (fun _ => ?_) (fun _ => ?_))
   | (with_reducible apply State.complete_keeps)
   | (with_reducible refine Keeps.foldl _ _ (fun s x h => ?_) ?_)
   | (with_reducible refine Keeps.foldl_fst _ _ (fun s x h => ?_) ?_)
   | (with_reducible refine Keeps.of_eq (by with_reducible assumption) ?_)
   | split
   | (extract_lets)
   | (with_reducible apply Keeps.set_sup)
   | (dsimp only))

theorem State.jrnWritten_keeps {K : Nat} {s₀ s : State} (e' : EvRec) (seq : Nat) (hK : K &&& 26388286431496 = 0) (h : Keeps K s₀ s) :
    Keeps K s₀ (State.jrnWritten s e' seq) := by
  unfold State.jrnWritten
  (try extract_lets)
  repeat' (first
   | (with_reducible assumption)
   | (with_reducible exact keeps_sub hK (by decide))
   | (with_reducible rfl)
   | (with_reducible refine Keeps.ite (fun _ => ?_) (fun _ => ?_))
   | (with_reducible apply State.snapshotDone_keeps)
   | (with_reducible apply State.gaugeWritten_keeps)
   | (with_reducible apply State.modJrn_keeps)
   | (with_reducible refine Keeps.of_eq (by with_reducible assumption) ?_)
   | split
   | (extract_lets)
   | (dsimp only))

theorem State.jrnAppend_keeps {K : Nat} {s₀ s : State} (hK : K &&& 26388286431624 = 0) (h : Keeps K s₀ s) :
    Keeps K s₀ (State.jrnAppend s) := by
  unfold State.jrnAppend
  (try extract_lets)
  repeat' (first
   | (with_reducible assumption)
   | (with_reducible exact keeps_sub hK (by decide))
   | (with_reducible rfl)
   | (with_reducible refine Keeps.ite (fun _ => ?_) (fun _ => ?_))
   | (with_reducible apply State.jrnWritten_keeps)
   | (with_reducible apply State.served_keeps)
   | (with_reducible apply State.jrnWrite_keeps)
   | (with_reducible apply State.modJrn_keeps)
   | (with_reducible refine Keeps.of_eq (by with_reducible assumption) ?_)
   | split
   | (extract_lets)
   | (dsimp only))

theorem State.findHead_keeps {K : Nat} {s₀ s : State} (hK : K &&& 4194304 = 0) (h : Keeps K s₀ s) :
    Keeps K s₀ (State.findHead s) := by
  unfold State.findHead
  (try extract_lets)
  repeat' (first
   | (with_reducible assumption)
   | (with_reducible exact keeps_sub hK (by decide))
   | (with_reducible rfl)
   | (with_reducible refine Keeps.ite (fun _ => ?_) (fun _ => ?_))
   | (with_reducible apply State.modJrn_keeps)
   | (with_reducible refine Keeps.of_eq (by with_reducible assumption) ?_)
   | split
   | (extract_lets)
   | (dsimp only))

end Sys2Proof.Machine
end

