-- ==== Sys2Proof/Laws/KeepsPlanCheck.lean ====
section
/-! SUPPORT. What the operations and commands of Machine/PlanCheck.lean leave unchanged: one lemma for each, its mask the parts it
may write. -/

set_option linter.all false

namespace Sys2Proof.Machine

theorem State.setSetupReg_keeps {K : Nat} {s₀ s : State} (a : Nat) (x : Word) (hK : K &&& 281470681874432 = 0) (h : Keeps K s₀ s) :
    Keeps K s₀ (State.setSetupReg s a x) := by
  unfold State.setSetupReg
  (try extract_lets)
  repeat' (first
   | (with_reducible assumption)
   | (with_reducible exact keeps_sub hK (by decide))
   | (with_reducible rfl)
   | exact keeps_any hK (by decide) _
   | (with_reducible refine Keeps.ite (fun _ => ?_) (fun _ => ?_))
   | (with_reducible apply State.setReg_keeps)
   | (with_reducible refine Keeps.of_eq (by with_reducible assumption) ?_)
   | split
   | (extract_lets)
   | (with_reducible apply Keeps.set_hedge)
   | (dsimp only))

theorem State.maskWrite_keeps {K : Nat} {s₀ s : State} (a : Nat) (v : Word) (m : Word) (hK : K &&& 281470681874432 = 0) (h : Keeps K s₀ s) :
    Keeps K s₀ (State.maskWrite s a v m) := by
  unfold State.maskWrite
  (try extract_lets)
  repeat' (first
   | (with_reducible assumption)
   | (with_reducible exact keeps_sub hK (by decide))
   | (with_reducible rfl)
   | (with_reducible refine Keeps.ite (fun _ => ?_) (fun _ => ?_))
   | (with_reducible apply State.setSetupReg_keeps)
   | (with_reducible refine Keeps.of_eq (by with_reducible assumption) ?_)
   | split
   | (extract_lets)
   | (dsimp only))

theorem State.applyRec_keeps {K : Nat} {s₀ s : State} (b : Nat) (r : SetupRec) (hK : K &&& 281470681874432 = 0) (h : Keeps K s₀ s) :
    Keeps K s₀ (State.applyRec s b r) := by
  unfold State.applyRec
  (try extract_lets)
  repeat' (first
   | (with_reducible assumption)
   | (with_reducible exact keeps_sub hK (by decide))
   | (with_reducible rfl)
   | (with_reducible refine Keeps.ite (fun _ => ?_) (fun _ => ?_))
   | (with_reducible apply State.maskWrite_keeps)
   | (with_reducible refine Keeps.of_eq (by with_reducible assumption) ?_)
   | split
   | (extract_lets)
   | (dsimp only))

end Sys2Proof.Machine
end

