-- ==== Sys2Proof/Laws/KeepsPlanOps.lean ====
section
/-! SUPPORT. What the operations and commands of Machine/PlanOps.lean leave unchanged: one lemma for each, its mask the parts it
may write. -/

set_option linter.all false

namespace Sys2Proof.Machine

theorem State.applySections_keeps {K : Nat} {s₀ s : State} (l : List Section) (hK : K &&& 281470681874432 = 0) (h : Keeps K s₀ s) :
    Keeps K s₀ (State.applySections s l) := by
  unfold State.applySections
  (try extract_lets)
  repeat' (first
   | (with_reducible assumption)
   | (with_reducible exact keeps_sub hK (by decide))
   | (with_reducible rfl)
   | (with_reducible refine Keeps.ite (fun _ => ?_) (fun _ => ?_))
   | (with_reducible apply State.applyRec_keeps)
   | (with_reducible refine Keeps.foldl _ _ (fun s x h => ?_) ?_)
   | (with_reducible refine Keeps.foldl_fst _ _ (fun s x h => ?_) ?_)
   | (with_reducible refine Keeps.of_eq (by with_reducible assumption) ?_)
   | split
   | (extract_lets)
   | (dsimp only))

theorem State.shadow_keeps {K : Nat} {s₀ s : State} (l : List Section) (hK : K &&& 281470681874432 = 0) (h : Keeps K s₀ s) :
    Keeps K s₀ (State.shadow s l) := by
  unfold State.shadow
  refine State.applySections_keeps _ (keeps_sub hK (by decide)) ⟨⟨rfl, h.stored.host, h.stored.lines⟩, h.pending, fun p hk => ?_⟩
  refine State.samePart_trans (h.part p hk) ?_
  cases p <;> first | exact keeps_no hK (by decide) hk | exact keeps_noBlock hK (by decide) hk | exact rfl

theorem State.setOutcome_keeps {K : Nat} {s₀ s : State} (k : Fin 2) (c : Nat) (hK : K &&& 4294967296 = 0) (h : Keeps K s₀ s) :
    Keeps K s₀ (State.setOutcome s k c) := by
  unfold State.setOutcome
  (try extract_lets)
  repeat' (first
   | (with_reducible assumption)
   | (with_reducible exact keeps_sub hK (by decide))
   | (with_reducible rfl)
   | exact keeps_block hK 0 (by decide) (by decide)
   | (with_reducible refine Keeps.ite (fun _ => ?_) (fun _ => ?_))
   | (with_reducible apply State.setFld_keeps)
   | (with_reducible refine Keeps.of_eq (by with_reducible assumption) ?_)
   | split
   | (extract_lets)
   | (dsimp only))

theorem State.readHeaders_keeps {K : Nat} {s₀ s : State} (hK : K &&& 4294967312 = 0) (h : Keeps K s₀ s) :
    Keeps K s₀ (State.readHeaders s) := by
  unfold State.readHeaders
  (try extract_lets)
  repeat' (first
   | (with_reducible assumption)
   | (with_reducible exact keeps_sub hK (by decide))
   | (with_reducible rfl)
   | (with_reducible refine Keeps.ite (fun _ => ?_) (fun _ => ?_))
   | (with_reducible apply State.setOutcome_keeps)
   | (with_reducible refine Keeps.foldl _ _ (fun s x h => ?_) ?_)
   | (with_reducible refine Keeps.foldl_fst _ _ (fun s x h => ?_) ?_)
   | (with_reducible refine Keeps.of_eq (by with_reducible assumption) ?_)
   | split
   | (extract_lets)
   | (with_reducible apply Keeps.set_dev)
   | (dsimp only))

theorem State.planRecord_keeps {K : Nat} {s₀ s : State} (kind : Nat) (slot : Fin 2) (version : Nat) (hash : Nat) (len : Nat) (hK : K &&& 128 = 0) (h : Keeps K s₀ s) :
    Keeps K s₀ (State.planRecord s kind slot version hash len) := by
  unfold State.planRecord
  (try extract_lets)
  repeat' (first
   | (with_reducible assumption)
   | (with_reducible exact keeps_sub hK (by decide))
   | (with_reducible rfl)
   | (with_reducible refine Keeps.ite (fun _ => ?_) (fun _ => ?_))
   | (with_reducible apply State.journal_keeps)
   | (with_reducible refine Keeps.of_eq (by with_reducible assumption) ?_)
   | split
   | (extract_lets)
   | (dsimp only))

theorem State.programBytes_keeps {K : Nat} {s₀ s : State} (n a : Nat) (d : List Byte) (hK : K &&& 4194432 = 0)
    (h : Keeps K s₀ s) : Keeps K s₀ (s.programBytes n a d) := by
  induction n generalizing s a d with
  | zero => exact h
  | succ n ih =>
    unfold State.programBytes
    with_reducible exact Keeps.ite (fun _ => h) (fun _ => ih _ _ (State.programLine_keeps _ _ (keeps_sub hK (by decide)) h))

theorem State.stageWrite_keeps {K : Nat} {s₀ s : State} (base : Nat) (t' : Staging) (d : List Byte) (final : Bool) (hK : K &&& 4194432 = 0) (h : Keeps K s₀ s) :
    Keeps K s₀ (State.stageWrite s base t' d final).1 := by
  unfold State.stageWrite
  dsimp only
  repeat' (first
   | (with_reducible assumption)
   | (with_reducible exact keeps_sub hK (by decide))
   | (with_reducible rfl)
   | (with_reducible refine Keeps.ite (fun _ => ?_) (fun _ => ?_))
   | (with_reducible apply State.programBytes_keeps)
   | (with_reducible refine Keeps.of_eq (by with_reducible assumption) ?_)
   | split
   | (extract_lets)
   | (dsimp only))

theorem State.planChunk_keeps {K : Nat} {s₀ s : State} (r : Req) (d : List Byte) (final : Bool) (hK : K &&& 26388294795656 = 0) (h : Keeps K s₀ s) :
    Keeps K s₀ (State.planChunk s r d final) := by
  unfold State.planChunk
  (try extract_lets)
  repeat' (first
   | (with_reducible assumption)
   | (with_reducible exact keeps_sub hK (by decide))
   | (with_reducible rfl)
   | (with_reducible refine Keeps.ite (fun _ => ?_) (fun _ => ?_))
   | (with_reducible apply State.complete_keeps)
   | (with_reducible apply State.planRecord_keeps)
   | (with_reducible apply State.stageWrite_keeps)
   | (with_reducible refine Keeps.of_eq (by with_reducible assumption) ?_)
   | split
   | (extract_lets)
   | (with_reducible apply Keeps.set_plans)
   | (dsimp only))

theorem State.firmwareChunk_keeps {K : Nat} {s₀ s : State} (r : Req) (d : List Byte) (final : Bool) (check : Nat) (version : Word) (hK : K &&& 26388294795656 = 0) (h : Keeps K s₀ s) :
    Keeps K s₀ (State.firmwareChunk s r d final check version) := by
  unfold State.firmwareChunk
  (try extract_lets)
  repeat' (first
   | (with_reducible assumption)
   | (with_reducible exact keeps_sub hK (by decide))
   | (with_reducible rfl)
   | (with_reducible refine Keeps.ite (fun _ => ?_) (fun _ => ?_))
   | (with_reducible apply State.complete_keeps)
   | (with_reducible apply State.planRecord_keeps)
   | (with_reducible apply State.stageWrite_keeps)
   | (with_reducible refine Keeps.of_eq (by with_reducible assumption) ?_)
   | split
   | (extract_lets)
   | (with_reducible apply Keeps.set_plans)
   | (dsimp only))

theorem State.stageReady_keeps {K : Nat} {s₀ s : State} (hK : K &&& 26388294795656 = 0) (h : Keeps K s₀ s) :
    Keeps K s₀ (State.stageReady s) := by
  unfold State.stageReady
  dsimp only
  repeat' (first
   | (with_reducible assumption)
   | (with_reducible exact keeps_sub hK (by decide))
   | (with_reducible rfl)
   | (with_reducible refine Keeps.ite (fun _ => ?_) (fun _ => ?_))
   | (with_reducible apply State.planChunk_keeps)
   | (with_reducible apply State.firmwareChunk_keeps)
   | (with_reducible refine Keeps.of_eq (by with_reducible assumption) ?_)
   | split
   | (extract_lets)
   | (dsimp only))

theorem State.stageErased_keeps {K : Nat} {s₀ s : State} (g : Nat) (use : EraseFor) (ok : Bool) (hK : K &&& 26388294795656 = 0) (h : Keeps K s₀ s) :
    Keeps K s₀ (State.stageErased s g use ok) := by
  unfold State.stageErased
  (try extract_lets)
  repeat' (first
   | (with_reducible assumption)
   | (with_reducible exact keeps_sub hK (by decide))
   | (with_reducible rfl)
   | (with_reducible refine Keeps.ite (fun _ => ?_) (fun _ => ?_))
   | (with_reducible apply State.complete_keeps)
   | (with_reducible apply State.stageReady_keeps)
   | (with_reducible refine Keeps.of_eq (by with_reducible assumption) ?_)
   | split
   | (extract_lets)
   | (with_reducible apply Keeps.set_plans)
   | (dsimp only))

end Sys2Proof.Machine
end

