-- ==== Sys2Proof/Laws/KeepsResetOps.lean ====
section
/-! SUPPORT. What the operations and commands of Machine/ResetOps.lean leave unchanged: one lemma for each, its mask the parts it
may write. -/

set_option linter.all false

namespace Sys2Proof.Machine

theorem State.flashReset_keeps {K : Nat} {s₀ s : State} (hK : K &&& 4194434 = 0) (h : Keeps K s₀ s) :
    Keeps K s₀ (State.flashReset s) := by
  unfold State.flashReset
  (try extract_lets)
  repeat' (first
   | (with_reducible assumption)
   | (with_reducible exact keeps_sub hK (by decide))
   | (with_reducible rfl)
   | (with_reducible refine Keeps.ite (fun _ => ?_) (fun _ => ?_))
   | (with_reducible apply State.abandonErase_keeps)
   | (with_reducible apply State.modBank_keeps)
   | (with_reducible apply State.endProgram_keeps)
   | (with_reducible refine Keeps.of_eq (by with_reducible assumption) ?_)
   | split
   | (extract_lets)
   | (with_reducible apply Keeps.set_flash)
   | (dsimp only))

theorem State.battNodes_keeps {K : Nat} {s₀ s : State} (hK : K &&& 7696581558400 = 0) (h : Keeps K s₀ s) :
    Keeps K s₀ (State.battNodes s) := by
  unfold State.battNodes
  (try extract_lets)
  repeat' (first
   | (with_reducible assumption)
   | (with_reducible exact keeps_sub hK (by decide))
   | (with_reducible rfl)
   | (with_reducible refine Keeps.ite (fun _ => ?_) (fun _ => ?_))
   | (with_reducible apply State.battAlarm_keeps)
   | (with_reducible apply State.setNode_keeps)
   | (with_reducible refine Keeps.of_eq (by with_reducible assumption) ?_)
   | split
   | (extract_lets)
   | (dsimp only))

theorem State.cleared_keeps {K : Nat} {s₀ s : State} (c : Nat) (hK : K &&& 281470698520562 = 0) (h : Keeps K s₀ s) :
    Keeps K s₀ (State.cleared s c) := by
  have hf := State.flashReset_keeps (keeps_sub hK (by decide)) h
  revert hf
  unfold State.cleared
  generalize s.flashReset = t
  intro hf
  have hr : ∀ (u : State) (a : Nat) (w : Word), Keeps K s₀ u → Keeps K s₀ (u.setReg a w) := fun u a w hu =>
    State.setReg_keeps _ (keeps_any hK (by decide) _) hu
  dsimp only
  with_reducible refine hr _ _ _ (hr _ _ _ (hr _ _ _ (hr _ _ _ (hr _ _ _ (hr _ _ _ (State.battNodes_keeps ?_ (Keeps.foldl _ _ (fun s e h => hr _ _ _ h) ?_)))))))
  · exact keeps_sub hK (by decide)
  · refine ⟨⟨rfl, hf.stored.host, hf.stored.lines⟩, hf.pending, fun p hk => ?_⟩
    refine State.samePart_trans (hf.part p hk) ?_
    cases p <;> first | exact keeps_no hK (by decide) hk | exact keeps_noBlock hK (by decide) hk | exact rfl

theorem State.joinCause_keeps {K : Nat} {s₀ s : State} (c : Nat) (hK : K &&& 4294967296 = 0) (h : Keeps K s₀ s) :
    Keeps K s₀ (State.joinCause s c) := by
  unfold State.joinCause
  (try extract_lets)
  repeat' (first
   | (with_reducible assumption)
   | (with_reducible exact keeps_sub hK (by decide))
   | (with_reducible rfl)
   | exact keeps_block hK 0 (by decide) (by decide)
   | (with_reducible refine Keeps.ite (fun _ => ?_) (fun _ => ?_))
   | (with_reducible apply State.setFlag_keeps)
   | (with_reducible apply State.setFld_keeps)
   | (with_reducible refine Keeps.of_eq (by with_reducible assumption) ?_)
   | split
   | (extract_lets)
   | (dsimp only))

theorem State.assertReset_keeps {K : Nat} {s₀ s : State} (c : Nat) (hK : K &&& 281470698520562 = 0) (h : Keeps K s₀ s) :
    Keeps K s₀ (State.assertReset s c) := by
  unfold State.assertReset
  (try extract_lets)
  repeat' (first
   | (with_reducible assumption)
   | (with_reducible exact keeps_sub hK (by decide))
   | (with_reducible rfl)
   | (with_reducible refine Keeps.ite (fun _ => ?_) (fun _ => ?_))
   | (with_reducible apply State.joinCause_keeps)
   | (with_reducible apply State.cleared_keeps)
   | (with_reducible refine Keeps.of_eq (by with_reducible assumption) ?_)
   | split
   | (extract_lets)
   | (dsimp only))

theorem State.coldStart_keeps {K : Nat} {s₀ s : State} (c : Nat) (hvsel : Bool) (hK : K &&& 281470698520562 = 0) (h : Keeps K s₀ s) :
    Keeps K s₀ (State.coldStart s c hvsel) := by
  unfold State.coldStart
  (try extract_lets)
  repeat' (first
   | (with_reducible assumption)
   | (with_reducible exact keeps_sub hK (by decide))
   | (with_reducible rfl)
   | exact keeps_block hK 0 (by decide) (by decide)
   | (with_reducible refine Keeps.ite (fun _ => ?_) (fun _ => ?_))
   | (with_reducible apply State.setFlag_keeps)
   | (with_reducible apply State.cleared_keeps)
   | (with_reducible refine Keeps.of_eq (by with_reducible assumption) ?_)
   | split
   | (extract_lets)
   | (with_reducible apply Keeps.set_dev)
   | (dsimp only))

theorem State.powerDown_keeps {K : Nat} {s₀ s : State} (hK : K &&& 281470698520562 = 0) (h : Keeps K s₀ s) :
    Keeps K s₀ (State.powerDown s) := by
  unfold State.powerDown
  (try extract_lets)
  repeat' (first
   | (with_reducible assumption)
   | (with_reducible exact keeps_sub hK (by decide))
   | (with_reducible rfl)
   | (with_reducible refine Keeps.ite (fun _ => ?_) (fun _ => ?_))
   | (with_reducible apply State.cleared_keeps)
   | (with_reducible refine Keeps.of_eq (by with_reducible assumption) ?_)
   | split
   | (extract_lets)
   | (with_reducible apply Keeps.set_dev_pmc)
   | (with_reducible apply Keeps.set_pmc)
   | (dsimp only))

end Sys2Proof.Machine
end

