-- ==== Sys2Proof/Laws/KeepsSupervision.lean ====
section
/-! SUPPORT. What the operations and commands of Machine/Supervision.lean leave unchanged: one lemma for each, its mask the parts it
may write. -/

set_option linter.all false

namespace Sys2Proof.Machine

theorem State.setMon_keeps {K : Nat} {s₀ s : State} (n : Fin 24) (m : RailMon) (hK : K &&& 8192 = 0) (h : Keeps K s₀ s) :
    Keeps K s₀ (State.setMon s n m) := by
  unfold State.setMon
  (try extract_lets)
  repeat' (first
   | (with_reducible assumption)
   | (with_reducible exact keeps_sub hK (by decide))
   | (with_reducible rfl)
   | (with_reducible refine Keeps.ite (fun _ => ?_) (fun _ => ?_))
   | (with_reducible refine Keeps.of_eq (by with_reducible assumption) ?_)
   | split
   | (extract_lets)
   | (with_reducible apply Keeps.set_sup)
   | (dsimp only))

theorem State.postWarn_keeps {K : Nat} {s₀ s : State} (n : Fin 24) (kind : Nat) (level : Nat) (count : Nat) (clears : Option (Nat × Time)) (hK : K &&& 128 = 0) (h : Keeps K s₀ s) :
    Keeps K s₀ (State.postWarn s n kind level count clears) := by
  unfold State.postWarn
  (try extract_lets)
  repeat' (first
   | (with_reducible assumption)
   | (with_reducible exact keeps_sub hK (by decide))
   | (with_reducible rfl)
   | (with_reducible refine Keeps.ite (fun _ => ?_) (fun _ => ?_))
   | (with_reducible apply State.post_keeps)
   | (with_reducible refine Keeps.of_eq (by with_reducible assumption) ?_)
   | split
   | (extract_lets)
   | (dsimp only))

theorem State.judgeUv_keeps {K : Nat} {s₀ s : State} (n : Fin 24) (hK : K &&& 549755822208 = 0) (h : Keeps K s₀ s) :
    Keeps K s₀ (State.judgeUv s n) := by
  unfold State.judgeUv
  (try extract_lets)
  repeat' (first
   | (with_reducible assumption)
   | (with_reducible exact keeps_sub hK (by decide))
   | (with_reducible rfl)
   | exact keeps_block hK 7 (by decide) (by decide)
   | exact keeps_block hK 7 (by simp only [Reg.SUP_RAIL_CNT_W, Reg.SUP_RAIL_VALUE]; omega) (by decide)
   | (with_reducible refine Keeps.ite (fun _ => ?_) (fun _ => ?_))
   | (with_reducible apply State.setFlag_keeps)
   | (with_reducible apply State.postWarn_keeps)
   | (with_reducible apply State.railCnt_keeps)
   | (with_reducible apply State.setMon_keeps)
   | (with_reducible refine Keeps.of_eq (by with_reducible assumption) ?_)
   | split
   | (extract_lets)
   | (dsimp only))

theorem State.judgeOv_keeps {K : Nat} {s₀ s : State} (n : Fin 24) (hK : K &&& 549755822208 = 0) (h : Keeps K s₀ s) :
    Keeps K s₀ (State.judgeOv s n) := by
  unfold State.judgeOv
  (try extract_lets)
  repeat' (first
   | (with_reducible assumption)
   | (with_reducible exact keeps_sub hK (by decide))
   | (with_reducible rfl)
   | exact keeps_block hK 7 (by decide) (by decide)
   | exact keeps_block hK 7 (by simp only [Reg.SUP_RAIL_CNT_W, Reg.SUP_RAIL_VALUE]; omega) (by decide)
   | (with_reducible refine Keeps.ite (fun _ => ?_) (fun _ => ?_))
   | (with_reducible apply State.setFlag_keeps)
   | (with_reducible apply State.postWarn_keeps)
   | (with_reducible apply State.railCnt_keeps)
   | (with_reducible apply State.setMon_keeps)
   | (with_reducible refine Keeps.of_eq (by with_reducible assumption) ?_)
   | split
   | (extract_lets)
   | (dsimp only))

theorem State.minMax_keeps {K : Nat} {s₀ s : State} (n : Fin 24) (hK : K &&& 549755813888 = 0) (h : Keeps K s₀ s) :
    Keeps K s₀ (State.minMax s n) := by
  unfold State.minMax
  (try extract_lets)
  repeat' (first
   | (with_reducible assumption)
   | (with_reducible exact keeps_sub hK (by decide))
   | (with_reducible rfl)
   | exact keeps_block hK 7 (by decide) (by decide)
   | exact keeps_block hK 7 (by simp only [Reg.SUP_RAIL_MINMAX]; omega) (by decide)
   | (with_reducible refine Keeps.ite (fun _ => ?_) (fun _ => ?_))
   | (with_reducible apply State.setReg_keeps)
   | (with_reducible refine Keeps.of_eq (by with_reducible assumption) ?_)
   | split
   | (extract_lets)
   | (dsimp only))

theorem State.railSample_keeps {K : Nat} {s₀ s : State} (n : Fin 24) (v : Nat) (hK : K &&& 549755822210 = 0) (h : Keeps K s₀ s) :
    Keeps K s₀ (State.railSample s n v) := by
  unfold State.railSample
  (try extract_lets)
  repeat' (first
   | (with_reducible assumption)
   | (with_reducible exact keeps_sub hK (by decide))
   | (with_reducible rfl)
   | exact keeps_block hK 7 (by decide) (by decide)
   | exact keeps_block hK 7 (by simp only [Reg.SUP_RAIL_VALUE]; omega) (by decide)
   | (with_reducible refine Keeps.ite (fun _ => ?_) (fun _ => ?_))
   | (with_reducible apply State.setReg_keeps)
   | (with_reducible apply State.minMax_keeps)
   | (with_reducible apply State.roundFrac_keeps)
   | (with_reducible apply State.judgeUv_keeps)
   | (with_reducible apply State.judgeOv_keeps)
   | (with_reducible apply State.setMon_keeps)
   | (with_reducible refine Keeps.foldl _ _ (fun s x h => ?_) ?_)
   | (with_reducible refine Keeps.foldl_fst _ _ (fun s x h => ?_) ?_)
   | (with_reducible refine Keeps.of_eq (by with_reducible assumption) ?_)
   | split
   | (extract_lets)
   | (dsimp only))

theorem State.emptyFilters_keeps {K : Nat} {s₀ s : State} (hK : K &&& 549755822080 = 0) (h : Keeps K s₀ s) :
    Keeps K s₀ (State.emptyFilters s) := by
  unfold State.emptyFilters
  (try extract_lets)
  repeat' (first
   | (with_reducible assumption)
   | (with_reducible exact keeps_sub hK (by decide))
   | (with_reducible rfl)
   | exact keeps_block hK 7 (by decide) (by decide)
   | exact keeps_block hK 7 (by simp only [Reg.SUP_RAIL_VALUE]; omega) (by decide)
   | (with_reducible refine Keeps.ite (fun _ => ?_) (fun _ => ?_))
   | (with_reducible apply State.setFlag_keeps)
   | (with_reducible apply State.setMon_keeps)
   | (with_reducible refine Keeps.foldl _ _ (fun s x h => ?_) ?_)
   | (with_reducible refine Keeps.foldl_fst _ _ (fun s x h => ?_) ?_)
   | (with_reducible refine Keeps.of_eq (by with_reducible assumption) ?_)
   | split
   | (extract_lets)
   | (dsimp only))

theorem State.railSlots_keeps {K : Nat} {s₀ s : State} (x : AdcCycle) (hK : K &&& 549755822210 = 0) (h : Keeps K s₀ s) :
    Keeps K s₀ (State.railSlots s x) := by
  unfold State.railSlots
  (try extract_lets)
  repeat' (first
   | (with_reducible assumption)
   | (with_reducible exact keeps_sub hK (by decide))
   | (with_reducible rfl)
   | (with_reducible refine Keeps.ite (fun _ => ?_) (fun _ => ?_))
   | (with_reducible apply State.railSample_keeps)
   | (with_reducible refine Keeps.foldl _ _ (fun s x h => ?_) ?_)
   | (with_reducible refine Keeps.foldl_fst _ _ (fun s x h => ?_) ?_)
   | (with_reducible refine Keeps.of_eq (by with_reducible assumption) ?_)
   | split
   | (extract_lets)
   | (dsimp only))

theorem State.refSlots_keeps {K : Nat} {s₀ s : State} (x : AdcCycle) (hK : K &&& 94570886889626 = 0) (h : Keeps K s₀ s) :
    Keeps K s₀ (State.refSlots s x) := by
  unfold State.refSlots
  (try extract_lets)
  repeat' (first
   | (with_reducible assumption)
   | (with_reducible exact keeps_sub hK (by decide))
   | (with_reducible rfl)
   | exact keeps_block hK 14 (by decide) (by decide)
   | (with_reducible refine Keeps.ite (fun _ => ?_) (fun _ => ?_))
   | (with_reducible apply State.setReg_keeps)
   | (with_reducible apply State.classS_keeps)
   | (with_reducible refine Keeps.of_eq (by with_reducible assumption) ?_)
   | split
   | (extract_lets)
   | (with_reducible apply Keeps.set_bist)
   | (dsimp only))

theorem State.zoneSlots_keeps {K : Nat} {s₀ s : State} (x : AdcCycle) (hK : K &&& 65536 = 0) (h : Keeps K s₀ s) :
    Keeps K s₀ (State.zoneSlots s x) := by
  unfold State.zoneSlots
  (try extract_lets)
  repeat' (first
   | (with_reducible assumption)
   | (with_reducible exact keeps_sub hK (by decide))
   | (with_reducible rfl)
   | (with_reducible refine Keeps.ite (fun _ => ?_) (fun _ => ?_))
   | (with_reducible refine Keeps.foldl _ _ (fun s x h => ?_) ?_)
   | (with_reducible refine Keeps.foldl_fst _ _ (fun s x h => ?_) ?_)
   | (with_reducible refine Keeps.of_eq (by with_reducible assumption) ?_)
   | split
   | (extract_lets)
   | (with_reducible apply Keeps.set_therm)
   | (dsimp only))

theorem State.adcCycle_keeps {K : Nat} {s₀ s : State} (x : AdcCycle) (hK : K &&& 95120642777242 = 0) (h : Keeps K s₀ s) :
    Keeps K s₀ (State.adcCycle s x) := by
  unfold State.adcCycle
  (try extract_lets)
  repeat' (first
   | (with_reducible assumption)
   | (with_reducible exact keeps_sub hK (by decide))
   | (with_reducible rfl)
   | exact keeps_block hK 0 (by decide) (by decide)
   | exact keeps_block hK 7 (by decide) (by decide)
   | (with_reducible refine Keeps.ite (fun _ => ?_) (fun _ => ?_))
   | (with_reducible apply State.setReg_keeps)
   | (with_reducible apply State.setFlag_keeps)
   | (with_reducible apply State.railSlots_keeps)
   | (with_reducible apply State.zoneSlots_keeps)
   | (with_reducible apply State.refSlots_keeps)
   | (with_reducible refine Keeps.of_eq (by with_reducible assumption) ?_)
   | split
   | (extract_lets)
   | (with_reducible apply Keeps.set_sup)
   | (dsimp only))

theorem execAdcMCycle_keeps {K : Nat} (x : AdcCycle) {s t : State} (hK : K &&& 95120642777242 = 0) (h : s.Stored)
    (e : execAdcMCycle x s = .next t) : Keeps K s t := by
  unfold execAdcMCycle at e
  have e := Host.Outcome.next.inj e
  subst e
  have h := Keeps.refl (K := K) h
  repeat' (first
   | (with_reducible assumption)
   | (with_reducible exact keeps_sub hK (by decide))
   | (with_reducible rfl)
   | (with_reducible refine Keeps.ite (fun _ => ?_) (fun _ => ?_))
   | (with_reducible apply State.adcCycle_keeps)
   | (with_reducible refine Keeps.of_eq (by with_reducible assumption) ?_)
   | split
   | (extract_lets)
   | (dsimp only))

theorem State.postCrossing_keeps {K : Nat} {s₀ s : State} (n : Fin 24) (ov : Bool) (action : Nat) (hK : K &&& 128 = 0) (h : Keeps K s₀ s) :
    Keeps K s₀ (State.postCrossing s n ov action) := by
  unfold State.postCrossing
  (try extract_lets)
  repeat' (first
   | (with_reducible assumption)
   | (with_reducible exact keeps_sub hK (by decide))
   | (with_reducible rfl)
   | (with_reducible refine Keeps.ite (fun _ => ?_) (fun _ => ?_))
   | (with_reducible apply State.post_keeps)
   | (with_reducible refine Keeps.of_eq (by with_reducible assumption) ?_)
   | split
   | (extract_lets)
   | (dsimp only))

theorem State.crossing_keeps {K : Nat} {s₀ s : State} (latched : Bool) (n : Fin 24) (ov : Bool) (hK : K &&& 549755824256 = 0) (h : Keeps K s₀ s) :
    Keeps K s₀ (State.crossing s latched n ov) := by
  unfold State.crossing
  (try extract_lets)
  repeat' (first
   | (with_reducible assumption)
   | (with_reducible exact keeps_sub hK (by decide))
   | (with_reducible rfl)
   | exact keeps_block hK 7 (by decide) (by decide)
   | exact keeps_block hK 7 (by simp only [Reg.SUP_RAIL_CNT_F]; omega) (by decide)
   | (with_reducible refine Keeps.ite (fun _ => ?_) (fun _ => ?_))
   | (with_reducible apply State.railCnt_keeps)
   | (with_reducible apply State.postCrossing_keeps)
   | (with_reducible refine Keeps.of_eq (by with_reducible assumption) ?_)
   | split
   | (extract_lets)
   | (with_reducible apply Keeps.set_seq)
   | (with_reducible apply Keeps.set_sup)
   | (dsimp only))

theorem State.journalFaultOff_keeps {K : Nat} {s₀ s : State} (n : Fin 24) (ov : Bool) (hK : K &&& 128 = 0) (h : Keeps K s₀ s) :
    Keeps K s₀ (State.journalFaultOff s n ov) := by
  unfold State.journalFaultOff
  (try extract_lets)
  repeat' (first
   | (with_reducible assumption)
   | (with_reducible exact keeps_sub hK (by decide))
   | (with_reducible rfl)
   | (with_reducible refine Keeps.ite (fun _ => ?_) (fun _ => ?_))
   | (with_reducible apply State.journal_keeps)
   | (with_reducible refine Keeps.of_eq (by with_reducible assumption) ?_)
   | split
   | (extract_lets)
   | (dsimp only))

theorem State.latchFaultOff_keeps {K : Nat} {s₀ s : State} (m : BitVec 24) (n : Fin 24) (ov : Bool) (hK : K &&& 7421703655552 = 0) (h : Keeps K s₀ s) :
    Keeps K s₀ (State.latchFaultOff s m n ov) := by
  unfold State.latchFaultOff
  (try extract_lets)
  repeat' (first
   | (with_reducible assumption)
   | (with_reducible exact keeps_sub hK (by decide))
   | (with_reducible rfl)
   | exact keeps_block hK 7 (by decide) (by decide)
   | (with_reducible refine Keeps.ite (fun _ => ?_) (fun _ => ?_))
   | (with_reducible apply State.setReg_keeps)
   | (with_reducible apply State.setFlag_keeps)
   | (with_reducible apply State.herdAlarm_keeps)
   | (with_reducible apply State.herdAbort_keeps)
   | (with_reducible apply State.setNode_keeps)
   | (with_reducible refine Keeps.of_eq (by with_reducible assumption) ?_)
   | split
   | (extract_lets)
   | (dsimp only))

theorem State.crossings_keeps {K : Nat} {s₀ s : State} (uv : BitVec 24) (ov : BitVec 24) (hK : K &&& 25026776447112 = 0) (h : Keeps K s₀ s) :
    Keeps K s₀ (State.crossings s uv ov) := by
  unfold State.crossings
  dsimp only
  repeat' (first
   | (with_reducible assumption)
   | (with_reducible exact keeps_sub hK (by decide))
   | (with_reducible rfl)
   | (with_reducible refine Keeps.ite (fun _ => ?_) (fun _ => ?_))
   | (with_reducible apply State.journalFaultOff_keeps)
   | (with_reducible apply State.crossing_keeps)
   | (with_reducible apply State.latchFaultOff_keeps)
   | (with_reducible apply State.wakeDetect_keeps)
   | (with_reducible refine Keeps.foldl _ _ (fun s x h => ?_) ?_)
   | (with_reducible refine Keeps.foldl_fst _ _ (fun s x h => ?_) ?_)
   | (with_reducible refine Keeps.of_eq (by with_reducible assumption) ?_)
   | split
   | (extract_lets)
   | (with_reducible apply Keeps.set_seq)
   | (dsimp only))

theorem execComparatorCrossing_keeps {K : Nat} (uv : BitVec 24) (ov : BitVec 24) {s t : State} (hK : K &&& 25026776447112 = 0) (h : s.Stored)
    (e : execComparatorCrossing uv ov s = .next t) : Keeps K s t := by
  unfold execComparatorCrossing at e
  have e := Host.Outcome.next.inj e
  subst e
  have h := Keeps.refl (K := K) h
  repeat' (first
   | (with_reducible assumption)
   | (with_reducible exact keeps_sub hK (by decide))
   | (with_reducible rfl)
   | (with_reducible refine Keeps.ite (fun _ => ?_) (fun _ => ?_))
   | (with_reducible apply State.crossings_keeps)
   | (with_reducible refine Keeps.of_eq (by with_reducible assumption) ?_)
   | split
   | (extract_lets)
   | (dsimp only))

theorem execCounterSnapshot_keeps {K : Nat} {s t : State} (hK : K &&& 549755822208 = 0) (h : s.Stored)
    (e : execCounterSnapshot s = .next t) : Keeps K s t := by
  unfold execCounterSnapshot at e
  have e := Host.Outcome.next.inj e
  subst e
  have h := Keeps.refl (K := K) h
  repeat' (first
   | (with_reducible assumption)
   | (with_reducible exact keeps_sub hK (by decide))
   | (with_reducible rfl)
   | (with_reducible refine Keeps.ite (fun _ => ?_) (fun _ => ?_))
   | (with_reducible apply State.snapshot_keeps)
   | (with_reducible refine Keeps.of_eq (by with_reducible assumption) ?_)
   | split
   | (extract_lets)
   | (dsimp only))

theorem execCountersRead_keeps {K : Nat} (r : Req) (b : BufBlock) (rails : BitVec 24) (flags : Byte) {s t : State} (hK : K &&& 26938038034824 = 0) (h : s.Stored)
    (e : execCountersRead r b rails flags s = .next t) : Keeps K s t := by
  unfold execCountersRead at e
  have e := Host.Outcome.next.inj e
  subst e
  have h := Keeps.refl (K := K) h
  repeat' (first
   | (with_reducible assumption)
   | (with_reducible exact keeps_sub hK (by decide))
   | (with_reducible rfl)
   | (with_reducible refine Keeps.ite (fun _ => ?_) (fun _ => ?_))
   | (with_reducible apply State.command_keeps)
   | (with_reducible apply State.snapshot_keeps)
   | (with_reducible refine Keeps.of_eq (by with_reducible assumption) ?_)
   | (intro s h)
   | split
   | (extract_lets)
   | (with_reducible apply Keeps.set_sup)
   | (dsimp only))

theorem State.clearCounters_keeps {K : Nat} {s₀ s : State} (rails : BitVec 24) (c : Byte) (hK : K &&& 549755813888 = 0) (h : Keeps K s₀ s) :
    Keeps K s₀ (State.clearCounters s rails c) := by
  unfold State.clearCounters
  (try extract_lets)
  repeat' (first
   | (with_reducible assumption)
   | (with_reducible exact keeps_sub hK (by decide))
   | (with_reducible rfl)
   | exact keeps_block hK 7 (by decide) (by decide)
   | exact keeps_block hK 7 (by simp only [Reg.SUP_ON_CYCLES, Reg.SUP_RAIL_CNT_F, Reg.SUP_RAIL_CNT_S, Reg.SUP_RAIL_CNT_W, Reg.SUP_RAIL_MINMAX]; omega) (by decide)
   | (with_reducible refine Keeps.ite (fun _ => ?_) (fun _ => ?_))
   | (with_reducible apply State.setReg_keeps)
   | (with_reducible apply State.setFld_keeps)
   | (with_reducible refine Keeps.foldl _ _ (fun s x h => ?_) ?_)
   | (with_reducible refine Keeps.foldl_fst _ _ (fun s x h => ?_) ?_)
   | (with_reducible refine Keeps.of_eq (by with_reducible assumption) ?_)
   | split
   | (extract_lets)
   | (dsimp only))

theorem execCountersClear_keeps {K : Nat} (r : Req) (rails : BitVec 24) (counters : Byte) {s t : State} (hK : K &&& 26938038034824 = 0) (h : s.Stored)
    (e : execCountersClear r rails counters s = .next t) : Keeps K s t := by
  unfold execCountersClear at e
  have e := Host.Outcome.next.inj e
  subst e
  have h := Keeps.refl (K := K) h
  repeat' (first
   | (with_reducible assumption)
   | (with_reducible exact keeps_sub hK (by decide))
   | (with_reducible rfl)
   | (with_reducible refine Keeps.ite (fun _ => ?_) (fun _ => ?_))
   | (with_reducible apply State.command_keeps)
   | (with_reducible apply State.snapshot_keeps)
   | (with_reducible apply State.clearCounters_keeps)
   | (with_reducible refine Keeps.of_eq (by with_reducible assumption) ?_)
   | (intro s h)
   | split
   | (extract_lets)
   | (with_reducible apply Keeps.set_sup)
   | (dsimp only))

theorem State.postVin_keeps {K : Nat} {s₀ s : State} (kind : Nat) (action : Nat) (hK : K &&& 128 = 0) (h : Keeps K s₀ s) :
    Keeps K s₀ (State.postVin s kind action) := by
  unfold State.postVin
  (try extract_lets)
  repeat' (first
   | (with_reducible assumption)
   | (with_reducible exact keeps_sub hK (by decide))
   | (with_reducible rfl)
   | (with_reducible refine Keeps.ite (fun _ => ?_) (fun _ => ?_))
   | (with_reducible apply State.post_keeps)
   | (with_reducible refine Keeps.of_eq (by with_reducible assumption) ?_)
   | split
   | (extract_lets)
   | (dsimp only))

theorem State.stageRecord_keeps {K : Nat} {s₀ s : State} (hK : K &&& 8192 = 0) (h : Keeps K s₀ s) :
    Keeps K s₀ (State.stageRecord s) := by
  unfold State.stageRecord
  (try extract_lets)
  repeat' (first
   | (with_reducible assumption)
   | (with_reducible exact keeps_sub hK (by decide))
   | (with_reducible rfl)
   | (with_reducible refine Keeps.ite (fun _ => ?_) (fun _ => ?_))
   | (with_reducible refine Keeps.of_eq (by with_reducible assumption) ?_)
   | split
   | (extract_lets)
   | (with_reducible apply Keeps.set_sup)
   | (dsimp only))

theorem State.flashHoldUp_keeps {K : Nat} {s₀ s : State} (hK : K &&& 4194434 = 0) (h : Keeps K s₀ s) :
    Keeps K s₀ (State.flashHoldUp s) := by
  unfold State.flashHoldUp
  (try extract_lets)
  repeat' (first
   | (with_reducible assumption)
   | (with_reducible exact keeps_sub hK (by decide))
   | (with_reducible rfl)
   | (with_reducible refine Keeps.ite (fun _ => ?_) (fun _ => ?_))
   | (with_reducible apply State.abandonErase_keeps)
   | (with_reducible apply State.modBank_keeps)
   | (with_reducible refine Keeps.of_eq (by with_reducible assumption) ?_)
   | split
   | (extract_lets)
   | (dsimp only))

theorem State.vinFail_keeps {K : Nat} {s₀ s : State} (hK : K &&& 7146829815938 = 0) (h : Keeps K s₀ s) :
    Keeps K s₀ (State.vinFail s) := by
  unfold State.vinFail
  (try extract_lets)
  repeat' (first
   | (with_reducible assumption)
   | (with_reducible exact keeps_sub hK (by decide))
   | (with_reducible rfl)
   | exact keeps_block hK 7 (by decide) (by decide)
   | (with_reducible refine Keeps.ite (fun _ => ?_) (fun _ => ?_))
   | (with_reducible apply State.setFlag_keeps)
   | (with_reducible apply State.postVin_keeps)
   | (with_reducible apply State.flashHoldUp_keeps)
   | (with_reducible apply State.railCnt_keeps)
   | (with_reducible apply State.applyActions_keeps)
   | (with_reducible refine Keeps.of_eq (by with_reducible assumption) ?_)
   | split
   | (extract_lets)
   | (with_reducible apply Keeps.set_sup)
   | (dsimp only))

theorem execVinFailDecision_keeps {K : Nat} {s t : State} (hK : K &&& 7146829815938 = 0) (h : s.Stored)
    (e : execVinFailDecision s = .next t) : Keeps K s t := by
  unfold execVinFailDecision at e
  have e := Host.Outcome.next.inj e
  subst e
  have h := Keeps.refl (K := K) h
  repeat' (first
   | (with_reducible assumption)
   | (with_reducible exact keeps_sub hK (by decide))
   | (with_reducible rfl)
   | (with_reducible refine Keeps.ite (fun _ => ?_) (fun _ => ?_))
   | (with_reducible apply State.vinFail_keeps)
   | (with_reducible refine Keeps.of_eq (by with_reducible assumption) ?_)
   | split
   | (extract_lets)
   | (dsimp only))

theorem State.recordComplete_keeps {K : Nat} {s₀ s : State} (vinAbove : Bool) (hK : K &&& 281470698520570 = 0) (h : Keeps K s₀ s) :
    Keeps K s₀ (State.recordComplete s vinAbove) := by
  unfold State.recordComplete
  (try extract_lets)
  repeat' (first
   | (with_reducible assumption)
   | (with_reducible exact keeps_sub hK (by decide))
   | (with_reducible rfl)
   | exact keeps_block hK 7 (by decide) (by decide)
   | (with_reducible refine Keeps.ite (fun _ => ?_) (fun _ => ?_))
   | (with_reducible apply State.setFlag_keeps)
   | (with_reducible apply State.wakeHoldUp_keeps)
   | (with_reducible apply State.kickErases_keeps)
   | (with_reducible apply State.powerDown_keeps)
   | (with_reducible apply State.jrnWrite_keeps)
   | (with_reducible refine Keeps.of_eq (by with_reducible assumption) ?_)
   | split
   | (extract_lets)
   | (with_reducible apply Keeps.set_sup)
   | (dsimp only))

theorem execHoldUpRecordComplete_keeps {K : Nat} (vinAbove : Bool) {s t : State} (hK : K &&& 281470698520570 = 0) (h : s.Stored)
    (e : execHoldUpRecordComplete vinAbove s = .next t) : Keeps K s t := by
  unfold execHoldUpRecordComplete at e
  have e := Host.Outcome.next.inj e
  subst e
  have h := Keeps.refl (K := K) h
  repeat' (first
   | (with_reducible assumption)
   | (with_reducible exact keeps_sub hK (by decide))
   | (with_reducible rfl)
   | (with_reducible refine Keeps.ite (fun _ => ?_) (fun _ => ?_))
   | (with_reducible apply State.recordComplete_keeps)
   | (with_reducible refine Keeps.of_eq (by with_reducible assumption) ?_)
   | split
   | (extract_lets)
   | (dsimp only))

theorem State.cutRecord_keeps {K : Nat} {s₀ s : State} (p' : Time) (payload : List Byte) (hK : K &&& 4194306 = 0) (h : Keeps K s₀ s) :
    Keeps K s₀ (State.cutRecord s p' payload) := by
  unfold State.cutRecord
  (try extract_lets)
  repeat' (first
   | (with_reducible assumption)
   | (with_reducible exact keeps_sub hK (by decide))
   | (with_reducible rfl)
   | (with_reducible refine Keeps.ite (fun _ => ?_) (fun _ => ?_))
   | (with_reducible apply State.draw_keeps)
   | (with_reducible apply State.setLine_keeps)
   | (with_reducible refine Keeps.of_eq (by with_reducible assumption) ?_)
   | split
   | (extract_lets)
   | (dsimp only))

theorem State.vholdCollapse_keeps {K : Nat} {s₀ s : State} (vinAbove : Bool) (hvsel : Bool) (hK : K &&& 281470698520562 = 0) (h : Keeps K s₀ s) :
    Keeps K s₀ (State.vholdCollapse s vinAbove hvsel) := by
  unfold State.vholdCollapse
  (try extract_lets)
  repeat' (first
   | (with_reducible assumption)
   | (with_reducible exact keeps_sub hK (by decide))
   | (with_reducible rfl)
   | (with_reducible refine Keeps.ite (fun _ => ?_) (fun _ => ?_))
   | (with_reducible apply State.powerDown_keeps)
   | (with_reducible apply State.coldStart_keeps)
   | (with_reducible apply State.cutRecord_keeps)
   | (with_reducible refine Keeps.of_eq (by with_reducible assumption) ?_)
   | split
   | (extract_lets)
   | (dsimp only))

theorem execVholdCollapse_keeps {K : Nat} (vinAbove : Bool) (hvsel : Bool) {s t : State} (hK : K &&& 281470698520562 = 0) (h : s.Stored)
    (e : execVholdCollapse vinAbove hvsel s = .next t) : Keeps K s t := by
  unfold execVholdCollapse at e
  have e := Host.Outcome.next.inj e
  subst e
  have h := Keeps.refl (K := K) h
  repeat' (first
   | (with_reducible assumption)
   | (with_reducible exact keeps_sub hK (by decide))
   | (with_reducible rfl)
   | (with_reducible refine Keeps.ite (fun _ => ?_) (fun _ => ?_))
   | (with_reducible apply State.vholdCollapse_keeps)
   | (with_reducible refine Keeps.of_eq (by with_reducible assumption) ?_)
   | split
   | (extract_lets)
   | (dsimp only))

theorem State.vinGood_keeps {K : Nat} {s₀ s : State} (hK : K &&& 549755824256 = 0) (h : Keeps K s₀ s) :
    Keeps K s₀ (State.vinGood s) := by
  unfold State.vinGood
  (try extract_lets)
  repeat' (first
   | (with_reducible assumption)
   | (with_reducible exact keeps_sub hK (by decide))
   | (with_reducible rfl)
   | exact keeps_block hK 7 (by decide) (by decide)
   | (with_reducible refine Keeps.ite (fun _ => ?_) (fun _ => ?_))
   | (with_reducible apply State.setFlag_keeps)
   | (with_reducible apply State.postVin_keeps)
   | (with_reducible refine Keeps.of_eq (by with_reducible assumption) ?_)
   | split
   | (extract_lets)
   | (with_reducible apply Keeps.set_seq_sup)
   | (with_reducible apply Keeps.set_sup)
   | (dsimp only))

theorem execVinGood_keeps {K : Nat} {s t : State} (hK : K &&& 549755824256 = 0) (h : s.Stored)
    (e : execVinGood s = .next t) : Keeps K s t := by
  unfold execVinGood at e
  have e := Host.Outcome.next.inj e
  subst e
  have h := Keeps.refl (K := K) h
  repeat' (first
   | (with_reducible assumption)
   | (with_reducible exact keeps_sub hK (by decide))
   | (with_reducible rfl)
   | (with_reducible refine Keeps.ite (fun _ => ?_) (fun _ => ?_))
   | (with_reducible apply State.vinGood_keeps)
   | (with_reducible refine Keeps.of_eq (by with_reducible assumption) ?_)
   | split
   | (extract_lets)
   | (dsimp only))

end Sys2Proof.Machine
end

