-- ==== Sys2Proof/Laws/KeepsThermal.lean ====
section
/-! SUPPORT. What the operations and commands of Machine/Thermal.lean leave unchanged: one lemma for each, its mask the parts it
may write. -/

set_option linter.all false

namespace Sys2Proof.Machine

theorem State.zoneTemp_keeps {K : Nat} {s₀ s : State} (z : Fin 8) (hK : K &&& 65538 = 0) (h : Keeps K s₀ s) :
    Keeps K s₀ (State.zoneTemp s z).1 := by
  unfold State.zoneTemp
  dsimp only
  repeat' (first
   | (with_reducible assumption)
   | (with_reducible exact keeps_sub hK (by decide))
   | (with_reducible rfl)
   | (with_reducible refine Keeps.ite (fun _ => ?_) (fun _ => ?_))
   | (with_reducible apply State.roundFrac_keeps)
   | (with_reducible refine Keeps.of_eq (by with_reducible assumption) ?_)
   | split
   | (extract_lets)
   | (with_reducible apply Keeps.set_therm)
   | (dsimp only))

theorem State.postThermal_keeps {K : Nat} {s₀ s : State} (z : Nat) (kind : Nat) (level : Int) (hK : K &&& 128 = 0) (h : Keeps K s₀ s) :
    Keeps K s₀ (State.postThermal s z kind level) := by
  unfold State.postThermal
  (try extract_lets)
  repeat' (first
   | (with_reducible assumption)
   | (with_reducible exact keeps_sub hK (by decide))
   | (with_reducible rfl)
   | (with_reducible refine Keeps.ite (fun _ => ?_) (fun _ => ?_))
   | (with_reducible apply State.post_keeps)
   | (with_reducible refine Keeps.of_eq (by with_reducible assumption) ?_)
   | split
   | (extract_lets)
   | (dsimp only))

theorem State.zoneFlag_keeps {K : Nat} {s₀ s : State} (z : Fin 8) (b : Nat) (on : Bool) (hK : K &&& 6597069930624 = 0) (h : Keeps K s₀ s) :
    Keeps K s₀ (State.zoneFlag s z b on) := by
  unfold State.zoneFlag
  (try extract_lets)
  repeat' (first
   | (with_reducible assumption)
   | (with_reducible exact keeps_sub hK (by decide))
   | (with_reducible rfl)
   | exact keeps_block hK 10 (by decide) (by decide)
   | exact keeps_block hK 10 (by simp only [Reg.THERM_ZONE_CNT, Reg.THERM_ZONE_STATUS]; omega) (by decide)
   | (with_reducible refine Keeps.ite (fun _ => ?_) (fun _ => ?_))
   | (with_reducible apply State.setFlag_keeps)
   | (with_reducible apply State.postThermal_keeps)
   | (with_reducible apply State.inc_keeps)
   | (with_reducible apply State.setNode_keeps)
   | (with_reducible refine Keeps.of_eq (by with_reducible assumption) ?_)
   | split
   | (extract_lets)
   | (dsimp only))

theorem State.zoneJudge_keeps {K : Nat} {s₀ s : State} (z : Fin 8) (b : Nat) (fresh : Bool) (t' : Int) (hK : K &&& 6597069930624 = 0) (h : Keeps K s₀ s) :
    Keeps K s₀ (State.zoneJudge s z b fresh t') := by
  unfold State.zoneJudge
  (try extract_lets)
  repeat' (first
   | (with_reducible assumption)
   | (with_reducible exact keeps_sub hK (by decide))
   | (with_reducible rfl)
   | (with_reducible refine Keeps.ite (fun _ => ?_) (fun _ => ?_))
   | (with_reducible apply State.zoneFlag_keeps)
   | (with_reducible refine Keeps.of_eq (by with_reducible assumption) ?_)
   | split
   | (extract_lets)
   | (dsimp only))

theorem State.setZone_keeps {K : Nat} {s₀ s : State} (z : Fin 8) (x : Zone) (hK : K &&& 65536 = 0) (h : Keeps K s₀ s) :
    Keeps K s₀ (State.setZone s z x) := by
  unfold State.setZone
  (try extract_lets)
  repeat' (first
   | (with_reducible assumption)
   | (with_reducible exact keeps_sub hK (by decide))
   | (with_reducible rfl)
   | (with_reducible refine Keeps.ite (fun _ => ?_) (fun _ => ?_))
   | (with_reducible refine Keeps.of_eq (by with_reducible assumption) ?_)
   | split
   | (extract_lets)
   | (with_reducible apply Keeps.set_therm)
   | (dsimp only))

theorem State.setZoneDemand_keeps {K : Nat} {s₀ s : State} (z : Fin 8) (d : Nat) (hK : K &&& 4398046511104 = 0) (h : Keeps K s₀ s) :
    Keeps K s₀ (State.setZoneDemand s z d) := by
  unfold State.setZoneDemand
  (try extract_lets)
  repeat' (first
   | (with_reducible assumption)
   | (with_reducible exact keeps_sub hK (by decide))
   | (with_reducible rfl)
   | exact keeps_block hK 10 (by decide) (by decide)
   | exact keeps_block hK 10 (by simp only [Reg.THERM_ZONE_STATUS]; omega) (by decide)
   | (with_reducible refine Keeps.ite (fun _ => ?_) (fun _ => ?_))
   | (with_reducible apply State.setFld_keeps)
   | (with_reducible refine Keeps.of_eq (by with_reducible assumption) ?_)
   | split
   | (extract_lets)
   | (dsimp only))

theorem State.zoneInvalid_keeps {K : Nat} {s₀ s : State} (z : Fin 8) (hK : K &&& 6597069930624 = 0) (h : Keeps K s₀ s) :
    Keeps K s₀ (State.zoneInvalid s z) := by
  unfold State.zoneInvalid
  (try extract_lets)
  repeat' (first
   | (with_reducible assumption)
   | (with_reducible exact keeps_sub hK (by decide))
   | (with_reducible rfl)
   | (with_reducible refine Keeps.ite (fun _ => ?_) (fun _ => ?_))
   | (with_reducible apply State.setZoneDemand_keeps)
   | (with_reducible apply State.zoneFlag_keeps)
   | (with_reducible refine Keeps.of_eq (by with_reducible assumption) ?_)
   | split
   | (extract_lets)
   | (dsimp only))

theorem State.zoneTake_keeps {K : Nat} {s₀ s : State} (z : Fin 8) (t' : Int) (hK : K &&& 4398046576640 = 0) (h : Keeps K s₀ s) :
    Keeps K s₀ (State.zoneTake s z t') := by
  unfold State.zoneTake
  (try extract_lets)
  repeat' (first
   | (with_reducible assumption)
   | (with_reducible exact keeps_sub hK (by decide))
   | (with_reducible rfl)
   | exact keeps_block hK 10 (by decide) (by decide)
   | exact keeps_block hK 10 (by simp only [Reg.THERM_ZONE_STATUS]; omega) (by decide)
   | (with_reducible refine Keeps.ite (fun _ => ?_) (fun _ => ?_))
   | (with_reducible apply State.setZone_keeps)
   | (with_reducible apply State.setFlag_keeps)
   | (with_reducible apply State.setFld_keeps)
   | (with_reducible apply State.setZoneDemand_keeps)
   | (with_reducible refine Keeps.of_eq (by with_reducible assumption) ?_)
   | split
   | (extract_lets)
   | (dsimp only))

theorem State.zoneFails_keeps {K : Nat} {s₀ s : State} (z : Fin 8) (kind : Nat) (hK : K &&& 6597069996160 = 0) (h : Keeps K s₀ s) :
    Keeps K s₀ (State.zoneFails s z kind) := by
  unfold State.zoneFails
  (try extract_lets)
  repeat' (first
   | (with_reducible assumption)
   | (with_reducible exact keeps_sub hK (by decide))
   | (with_reducible rfl)
   | exact keeps_block hK 10 (by decide) (by decide)
   | exact keeps_block hK 10 (by simp only [Reg.THERM_ZONE_STATUS]; omega) (by decide)
   | (with_reducible refine Keeps.ite (fun _ => ?_) (fun _ => ?_))
   | (with_reducible apply State.setZone_keeps)
   | (with_reducible apply State.setFlag_keeps)
   | (with_reducible apply State.zoneInvalid_keeps)
   | (with_reducible apply State.postThermal_keeps)
   | (with_reducible apply State.setZoneDemand_keeps)
   | (with_reducible refine Keeps.of_eq (by with_reducible assumption) ?_)
   | split
   | (extract_lets)
   | (dsimp only))

theorem State.zoneUpdate_keeps {K : Nat} {s₀ s : State} (z : Fin 8) (hK : K &&& 6597069996162 = 0) (h : Keeps K s₀ s) :
    Keeps K s₀ (State.zoneUpdate s z) := by
  unfold State.zoneUpdate
  dsimp only
  repeat' (first
   | (with_reducible assumption)
   | (with_reducible exact keeps_sub hK (by decide))
   | (with_reducible rfl)
   | exact keeps_block hK 10 (by decide) (by decide)
   | exact keeps_block hK 10 (by simp only [Reg.THERM_ZONE_STATUS]; omega) (by decide)
   | (with_reducible refine Keeps.ite (fun _ => ?_) (fun _ => ?_))
   | (with_reducible apply State.setZone_keeps)
   | (with_reducible apply State.setFlag_keeps)
   | (with_reducible apply State.zoneTake_keeps)
   | (with_reducible apply State.zoneFails_keeps)
   | (with_reducible apply State.zoneInvalid_keeps)
   | (with_reducible apply State.postThermal_keeps)
   | (with_reducible apply State.zoneTemp_keeps)
   | (with_reducible apply State.zoneJudge_keeps)
   | (with_reducible refine Keeps.of_eq (by with_reducible assumption) ?_)
   | split
   | (extract_lets)
   | (dsimp only))

theorem State.zoneReplies_keeps {K : Nat} {s₀ s : State} (hK : K &&& 26388282278152 = 0) (h : Keeps K s₀ s) :
    Keeps K s₀ (State.zoneReplies s) := by
  unfold State.zoneReplies
  (try extract_lets)
  repeat' (first
   | (with_reducible assumption)
   | (with_reducible exact keeps_sub hK (by decide))
   | (with_reducible rfl)
   | (with_reducible refine Keeps.ite (fun _ => ?_) (fun _ => ?_))
   | (with_reducible apply State.complete_keeps)
   | (with_reducible refine Keeps.foldl _ _ (fun s x h => ?_) ?_)
   | (with_reducible refine Keeps.foldl_fst _ _ (fun s x h => ?_) ?_)
   | (with_reducible refine Keeps.of_eq (by with_reducible assumption) ?_)
   | split
   | (extract_lets)
   | (with_reducible apply Keeps.set_therm)
   | (dsimp only))

theorem State.zonesUpdate_keeps {K : Nat} {s₀ s : State} (hK : K &&& 32985352208778 = 0) (h : Keeps K s₀ s) :
    Keeps K s₀ (State.zonesUpdate s) := by
  unfold State.zonesUpdate
  (try extract_lets)
  repeat' (first
   | (with_reducible assumption)
   | (with_reducible exact keeps_sub hK (by decide))
   | (with_reducible rfl)
   | (with_reducible refine Keeps.ite (fun _ => ?_) (fun _ => ?_))
   | (with_reducible apply State.zoneUpdate_keeps)
   | (with_reducible apply State.zoneReplies_keeps)
   | (with_reducible apply State.fansFollow_keeps)
   | (with_reducible refine Keeps.foldl _ _ (fun s x h => ?_) ?_)
   | (with_reducible refine Keeps.foldl_fst _ _ (fun s x h => ?_) ?_)
   | (with_reducible refine Keeps.of_eq (by with_reducible assumption) ?_)
   | split
   | (extract_lets)
   | (dsimp only))

theorem execZoneUpdate_keeps {K : Nat} {s t : State} (hK : K &&& 32985352208778 = 0) (h : s.Stored)
    (e : execZoneUpdate s = .next t) : Keeps K s t := by
  unfold execZoneUpdate at e
  have e := Host.Outcome.next.inj e
  subst e
  have h := Keeps.refl (K := K) h
  repeat' (first
   | (with_reducible assumption)
   | (with_reducible exact keeps_sub hK (by decide))
   | (with_reducible rfl)
   | (with_reducible refine Keeps.ite (fun _ => ?_) (fun _ => ?_))
   | (with_reducible apply State.zonesUpdate_keeps)
   | (with_reducible refine Keeps.of_eq (by with_reducible assumption) ?_)
   | split
   | (extract_lets)
   | (dsimp only))

theorem execHostZoneTimeout_keeps {K : Nat} {s t : State} (hK : K &&& 6597069996160 = 0) (h : s.Stored)
    (e : execHostZoneTimeout s = .next t) : Keeps K s t := by
  unfold execHostZoneTimeout at e
  have e := Host.Outcome.next.inj e
  subst e
  have h := Keeps.refl (K := K) h
  repeat' (first
   | (with_reducible assumption)
   | (with_reducible exact keeps_sub hK (by decide))
   | (with_reducible rfl)
   | (with_reducible refine Keeps.ite (fun _ => ?_) (fun _ => ?_))
   | (with_reducible apply State.zoneFails_keeps)
   | (with_reducible apply State.fansFollow_keeps)
   | (with_reducible refine Keeps.of_eq (by with_reducible assumption) ?_)
   | split
   | (extract_lets)
   | (dsimp only))

theorem State.hostWriteTemp_keeps {K : Nat} {s₀ s : State} (r : Req) (v : Int) (hK : K &&& 4398046576768 = 0) (h : Keeps K s₀ s) :
    Keeps K s₀ (State.hostWriteTemp s r v) := by
  unfold State.hostWriteTemp
  (try extract_lets)
  repeat' (first
   | (with_reducible assumption)
   | (with_reducible exact keeps_sub hK (by decide))
   | (with_reducible rfl)
   | exact keeps_block hK 10 (by decide) (by decide)
   | exact keeps_block hK 10 (by simp only [Reg.THERM_ZONE_STATUS]; omega) (by decide)
   | (with_reducible refine Keeps.ite (fun _ => ?_) (fun _ => ?_))
   | (with_reducible apply State.setZone_keeps)
   | (with_reducible apply State.setFlag_keeps)
   | (with_reducible apply State.postThermal_keeps)
   | (with_reducible refine Keeps.of_eq (by with_reducible assumption) ?_)
   | split
   | (extract_lets)
   | (with_reducible apply Keeps.set_therm)
   | (dsimp only))

theorem execZoneTempWrite_keeps {K : Nat} (r : Req) (value : BitVec 16) {s t : State} (hK : K &&& 30786328789384 = 0) (h : s.Stored)
    (e : execZoneTempWrite r value s = .next t) : Keeps K s t := by
  unfold execZoneTempWrite at e
  have e := Host.Outcome.next.inj e
  subst e
  have h := Keeps.refl (K := K) h
  repeat' (first
   | (with_reducible assumption)
   | (with_reducible exact keeps_sub hK (by decide))
   | (with_reducible rfl)
   | (with_reducible refine Keeps.ite (fun _ => ?_) (fun _ => ?_))
   | (with_reducible apply State.command_keeps)
   | (with_reducible apply State.hostWriteTemp_keeps)
   | (with_reducible refine Keeps.of_eq (by with_reducible assumption) ?_)
   | (intro s h)
   | split
   | (extract_lets)
   | (dsimp only))

theorem State.fanClear_keeps {K : Nat} {s₀ s : State} (n : Fin 3) (hK : K &&& 6597069930624 = 0) (h : Keeps K s₀ s) :
    Keeps K s₀ (State.fanClear s n) := by
  unfold State.fanClear
  (try extract_lets)
  repeat' (first
   | (with_reducible assumption)
   | (with_reducible exact keeps_sub hK (by decide))
   | (with_reducible rfl)
   | exact keeps_block hK 9 (by decide) (by decide)
   | exact keeps_block hK 10 (by decide) (by decide)
   | exact keeps_block hK 9 (by simp only [Reg.DRIVE_FAN_STATUS]; omega) (by decide)
   | exact keeps_block hK 10 (by simp only [Reg.THERM_FAN_FSTATUS]; omega) (by decide)
   | (with_reducible refine Keeps.ite (fun _ => ?_) (fun _ => ?_))
   | (with_reducible apply State.setFlag_keeps)
   | (with_reducible apply State.fanNode_keeps)
   | (with_reducible apply State.setFld_keeps)
   | (with_reducible apply State.postFan_keeps)
   | (with_reducible apply State.fanTo_keeps)
   | (with_reducible refine Keeps.of_eq (by with_reducible assumption) ?_)
   | split
   | (extract_lets)
   | (dsimp only))

theorem State.setOverride_keeps {K : Nat} {s₀ s : State} (mask : Byte) (demand : Nat) (dur : Nat) (hK : K &&& 6597069799552 = 0) (h : Keeps K s₀ s) :
    Keeps K s₀ (State.setOverride s mask demand dur) := by
  unfold State.setOverride
  (try extract_lets)
  repeat' (first
   | (with_reducible assumption)
   | (with_reducible exact keeps_sub hK (by decide))
   | (with_reducible rfl)
   | (with_reducible refine Keeps.ite (fun _ => ?_) (fun _ => ?_))
   | (with_reducible apply State.setFan_keeps)
   | (with_reducible apply State.fansFollow_keeps)
   | (with_reducible refine Keeps.foldl _ _ (fun s x h => ?_) ?_)
   | (with_reducible refine Keeps.foldl_fst _ _ (fun s x h => ?_) ?_)
   | (with_reducible refine Keeps.of_eq (by with_reducible assumption) ?_)
   | split
   | (extract_lets)
   | (dsimp only))

theorem State.overrideTake_keeps {K : Nat} {s₀ s : State} (mask : Byte) (demand : Byte) (clear : Bool) (dur : Nat) (hot : BitVec 3) (hK : K &&& 6597069930624 = 0) (h : Keeps K s₀ s) :
    Keeps K s₀ (State.overrideTake s mask demand clear dur hot).1 := by
  unfold State.overrideTake
  (try extract_lets)
  repeat' (first
   | (with_reducible assumption)
   | (with_reducible exact keeps_sub hK (by decide))
   | (with_reducible rfl)
   | (with_reducible refine Keeps.ite (fun _ => ?_) (fun _ => ?_))
   | (with_reducible apply State.fanClear_keeps)
   | (with_reducible apply State.setOverride_keeps)
   | (with_reducible refine Keeps.foldl _ _ (fun s x h => ?_) ?_)
   | (with_reducible refine Keeps.foldl_fst _ _ (fun s x h => ?_) ?_)
   | (with_reducible refine Keeps.of_eq (by with_reducible assumption) ?_)
   | split
   | (extract_lets)
   | (dsimp only))

theorem execFanOverride_keeps {K : Nat} (r : Req) (mask : Byte) (demand : Byte) (flags : Byte) (duration : BitVec 16) (hot : BitVec 3) {s t : State} (hK : K &&& 32985352143240 = 0) (h : s.Stored)
    (e : execFanOverride r mask demand flags duration hot s = .next t) : Keeps K s t := by
  unfold execFanOverride at e
  have e := Host.Outcome.next.inj e
  subst e
  have h := Keeps.refl (K := K) h
  repeat' (first
   | (with_reducible assumption)
   | (with_reducible exact keeps_sub hK (by decide))
   | (with_reducible rfl)
   | (with_reducible refine Keeps.ite (fun _ => ?_) (fun _ => ?_))
   | (with_reducible apply State.awaitTurn_keeps)
   | (with_reducible apply State.command_keeps)
   | (with_reducible apply State.overrideTake_keeps)
   | (with_reducible refine Keeps.of_eq (by with_reducible assumption) ?_)
   | (intro s h)
   | split
   | (extract_lets)
   | (dsimp only))

theorem execFanOverrideExpiry_keeps {K : Nat} (n : Fin 3) {s t : State} (hK : K &&& 6597069799552 = 0) (h : s.Stored)
    (e : execFanOverrideExpiry n s = .next t) : Keeps K s t := by
  unfold execFanOverrideExpiry at e
  have e := Host.Outcome.next.inj e
  subst e
  have h := Keeps.refl (K := K) h
  repeat' (first
   | (with_reducible assumption)
   | (with_reducible exact keeps_sub hK (by decide))
   | (with_reducible rfl)
   | (with_reducible refine Keeps.ite (fun _ => ?_) (fun _ => ?_))
   | (with_reducible apply State.setFan_keeps)
   | (with_reducible apply State.fansFollow_keeps)
   | (with_reducible refine Keeps.of_eq (by with_reducible assumption) ?_)
   | split
   | (extract_lets)
   | (dsimp only))

theorem execDieTempWake_keeps {K : Nat} {s t : State} (hK : K &&& 17605072783496 = 0) (h : s.Stored)
    (e : execDieTempWake s = .next t) : Keeps K s t := by
  unfold execDieTempWake at e
  have e := Host.Outcome.next.inj e
  subst e
  have h := Keeps.refl (K := K) h
  repeat' (first
   | (with_reducible assumption)
   | (with_reducible exact keeps_sub hK (by decide))
   | (with_reducible rfl)
   | (with_reducible refine Keeps.ite (fun _ => ?_) (fun _ => ?_))
   | (with_reducible apply State.wakeDetect_keeps)
   | (with_reducible refine Keeps.of_eq (by with_reducible assumption) ?_)
   | split
   | (extract_lets)
   | (dsimp only))

theorem State.thermResume_keeps {K : Nat} {s₀ s : State} (hK : K &&& 6597069996160 = 0) (h : Keeps K s₀ s) :
    Keeps K s₀ (State.thermResume s) := by
  unfold State.thermResume
  (try extract_lets)
  repeat' (first
   | (with_reducible assumption)
   | (with_reducible exact keeps_sub hK (by decide))
   | (with_reducible rfl)
   | exact keeps_block hK 10 (by decide) (by decide)
   | exact keeps_block hK 10 (by simp only [Reg.THERM_ZONE_STATUS]; omega) (by decide)
   | (with_reducible refine Keeps.ite (fun _ => ?_) (fun _ => ?_))
   | (with_reducible apply State.setZone_keeps)
   | (with_reducible apply State.setFlag_keeps)
   | (with_reducible apply State.setZoneDemand_keeps)
   | (with_reducible apply State.zoneFlag_keeps)
   | (with_reducible refine Keeps.of_eq (by with_reducible assumption) ?_)
   | split
   | (extract_lets)
   | (with_reducible apply Keeps.set_therm)
   | (dsimp only))

theorem State.thermCntClr_keeps {K : Nat} {s₀ s : State} (v : Word) (hK : K &&& 4398046511104 = 0) (h : Keeps K s₀ s) :
    Keeps K s₀ (State.thermCntClr s v) := by
  unfold State.thermCntClr
  (try extract_lets)
  repeat' (first
   | (with_reducible assumption)
   | (with_reducible exact keeps_sub hK (by decide))
   | (with_reducible rfl)
   | (with_reducible refine Keeps.ite (fun _ => ?_) (fun _ => ?_))
   | (with_reducible refine State.clearBy_keeps _ _ 10 (by decide) (keeps_bit hK (by decide)) ?_)
   | (with_reducible refine Keeps.of_eq (by with_reducible assumption) ?_)
   | split
   | (extract_lets)
   | (dsimp only))

end Sys2Proof.Machine
end

