-- ==== Sys2Proof/Laws/KeepsStartUp.lean ====
section
/-! SUPPORT. What the operations and commands of Machine/StartUp.lean leave unchanged: one lemma for each, its mask the parts it
may write. -/

set_option linter.all false

namespace Sys2Proof.Machine

theorem State.coldJoin_keeps {K : Nat} {s₀ s : State} (c : Nat) (hK : K &&& 281470698520562 = 0) (h : Keeps K s₀ s) :
    Keeps K s₀ (State.coldJoin s c) := by
  unfold State.coldJoin
  (try extract_lets)
  repeat' (first
   | (with_reducible assumption)
   | (with_reducible exact keeps_sub hK (by decide))
   | (with_reducible rfl)
   | exact keeps_block hK 0 (by decide) (by decide)
   | (with_reducible refine Keeps.ite (fun _ => ?_) (fun _ => ?_))
   | (with_reducible apply State.setReg_keeps)
   | (with_reducible apply State.joinCause_keeps)
   | (with_reducible apply State.cleared_keeps)
   | (with_reducible refine Keeps.of_eq (by with_reducible assumption) ?_)
   | split
   | (extract_lets)
   | (with_reducible apply Keeps.set_dev)
   | (dsimp only))

theorem State.releaseReset_keeps {K : Nat} {s₀ s : State} (testEn : Bool) (hK : K &&& 4296015888 = 0) (h : Keeps K s₀ s) :
    Keeps K s₀ (State.releaseReset s testEn) := by
  unfold State.releaseReset
  (try extract_lets)
  repeat' (first
   | (with_reducible assumption)
   | (with_reducible exact keeps_sub hK (by decide))
   | (with_reducible rfl)
   | exact keeps_block hK 0 (by decide) (by decide)
   | (with_reducible refine Keeps.ite (fun _ => ?_) (fun _ => ?_))
   | (with_reducible apply State.setFlag_keeps)
   | (with_reducible refine Keeps.of_eq (by with_reducible assumption) ?_)
   | split
   | (extract_lets)
   | (with_reducible apply Keeps.set_dev_ring)
   | (dsimp only))

theorem execPowerOn_keeps {K : Nat} (hvsel : Bool) {s t : State} (hK : K &&& 281470698520562 = 0) (h : s.Stored)
    (e : execPowerOn hvsel s = .next t) : Keeps K s t := by
  unfold execPowerOn at e
  have e := Host.Outcome.next.inj e
  subst e
  have h := Keeps.refl (K := K) h
  repeat' (first
   | (with_reducible assumption)
   | (with_reducible exact keeps_sub hK (by decide))
   | (with_reducible rfl)
   | (with_reducible refine Keeps.ite (fun _ => ?_) (fun _ => ?_))
   | (with_reducible apply State.coldStart_keeps)
   | (with_reducible refine Keeps.of_eq (by with_reducible assumption) ?_)
   | split
   | (extract_lets)
   | (dsimp only))

theorem execPowerLoss_keeps {K : Nat} {s t : State} (hK : K &&& 281470698520562 = 0) (h : s.Stored)
    (e : execPowerLoss s = .next t) : Keeps K s t := by
  unfold execPowerLoss at e
  have e := Host.Outcome.next.inj e
  subst e
  have h := Keeps.refl (K := K) h
  repeat' (first
   | (with_reducible assumption)
   | (with_reducible exact keeps_sub hK (by decide))
   | (with_reducible rfl)
   | (with_reducible refine Keeps.ite (fun _ => ?_) (fun _ => ?_))
   | (with_reducible apply State.powerDown_keeps)
   | (with_reducible refine Keeps.of_eq (by with_reducible assumption) ?_)
   | split
   | (extract_lets)
   | (dsimp only))

theorem execBrownOut_keeps {K : Nat} (hvsel : Bool) {s t : State} (hK : K &&& 281470698520562 = 0) (h : s.Stored)
    (e : execBrownOut hvsel s = .next t) : Keeps K s t := by
  unfold execBrownOut at e
  have e := Host.Outcome.next.inj e
  subst e
  have h := Keeps.refl (K := K) h
  repeat' (first
   | (with_reducible assumption)
   | (with_reducible exact keeps_sub hK (by decide))
   | (with_reducible rfl)
   | exact keeps_block hK 0 (by decide) (by decide)
   | (with_reducible refine Keeps.ite (fun _ => ?_) (fun _ => ?_))
   | (with_reducible apply State.setFlag_keeps)
   | (with_reducible apply State.coldJoin_keeps)
   | (with_reducible apply State.coldStart_keeps)
   | (with_reducible refine Keeps.of_eq (by with_reducible assumption) ?_)
   | split
   | (extract_lets)
   | (dsimp only))

theorem execLpBor_keeps {K : Nat} {s t : State} (hK : K &&& 281470698520562 = 0) (h : s.Stored)
    (e : execLpBor s = .next t) : Keeps K s t := by
  unfold execLpBor at e
  have e := Host.Outcome.next.inj e
  subst e
  have h := Keeps.refl (K := K) h
  repeat' (first
   | (with_reducible assumption)
   | (with_reducible exact keeps_sub hK (by decide))
   | (with_reducible rfl)
   | (with_reducible refine Keeps.ite (fun _ => ?_) (fun _ => ?_))
   | (with_reducible apply State.assertReset_keeps)
   | (with_reducible refine Keeps.of_eq (by with_reducible assumption) ?_)
   | split
   | (extract_lets)
   | (dsimp only))

theorem execRstNAssert_keeps {K : Nat} {s t : State} (hK : K &&& 281470698520562 = 0) (h : s.Stored)
    (e : execRstNAssert s = .next t) : Keeps K s t := by
  unfold execRstNAssert at e
  have e := Host.Outcome.next.inj e
  subst e
  have h := Keeps.refl (K := K) h
  repeat' (first
   | (with_reducible assumption)
   | (with_reducible exact keeps_sub hK (by decide))
   | (with_reducible rfl)
   | (with_reducible refine Keeps.ite (fun _ => ?_) (fun _ => ?_))
   | (with_reducible apply State.assertReset_keeps)
   | (with_reducible refine Keeps.of_eq (by with_reducible assumption) ?_)
   | split
   | (extract_lets)
   | (with_reducible apply Keeps.set_dev)
   | (dsimp only))

theorem execRstNRelease_keeps {K : Nat} (testEn : Bool) {s t : State} (hK : K &&& 4296015888 = 0) (h : s.Stored)
    (e : execRstNRelease testEn s = .next t) : Keeps K s t := by
  unfold execRstNRelease at e
  have e := Host.Outcome.next.inj e
  subst e
  have h := Keeps.refl (K := K) h
  repeat' (first
   | (with_reducible assumption)
   | (with_reducible exact keeps_sub hK (by decide))
   | (with_reducible rfl)
   | (with_reducible refine Keeps.ite (fun _ => ?_) (fun _ => ?_))
   | (with_reducible apply State.releaseReset_keeps)
   | (with_reducible refine Keeps.of_eq (by with_reducible assumption) ?_)
   | split
   | (extract_lets)
   | (with_reducible apply Keeps.set_dev)
   | (dsimp only))

theorem State.runReset_keeps {K : Nat} {s₀ s : State} (c : Nat) (hK : K &&& 281470698520562 = 0) (h : Keeps K s₀ s) :
    Keeps K s₀ (State.runReset s c) := by
  unfold State.runReset
  (try extract_lets)
  repeat' (first
   | (with_reducible assumption)
   | (with_reducible exact keeps_sub hK (by decide))
   | (with_reducible rfl)
   | (with_reducible refine Keeps.ite (fun _ => ?_) (fun _ => ?_))
   | (with_reducible apply State.assertReset_keeps)
   | (with_reducible refine Keeps.of_eq (by with_reducible assumption) ?_)
   | split
   | (extract_lets)
   | (dsimp only))

theorem State.mgmtNodes_keeps {K : Nat} {s₀ s : State} (hK : K &&& 6597069930624 = 0) (h : Keeps K s₀ s) :
    Keeps K s₀ (State.mgmtNodes s) := by
  unfold State.mgmtNodes
  (try extract_lets)
  repeat' (first
   | (with_reducible assumption)
   | (with_reducible exact keeps_sub hK (by decide))
   | (with_reducible rfl)
   | (with_reducible refine Keeps.ite (fun _ => ?_) (fun _ => ?_))
   | (with_reducible apply State.setNode_keeps)
   | (with_reducible refine Keeps.foldl _ _ (fun s x h => ?_) ?_)
   | (with_reducible refine Keeps.foldl_fst _ _ (fun s x h => ?_) ?_)
   | (with_reducible refine Keeps.of_eq (by with_reducible assumption) ?_)
   | split
   | (extract_lets)
   | (dsimp only))

theorem State.mgmtReset_keeps {K : Nat} {s₀ s : State} (hK : K &&& 281470698520562 = 0) (h : Keeps K s₀ s) :
    Keeps K s₀ (State.mgmtReset s) := by
  unfold State.mgmtReset
  (try extract_lets)
  repeat' (first
   | (with_reducible assumption)
   | (with_reducible exact keeps_sub hK (by decide))
   | (with_reducible rfl)
   | (with_reducible refine Keeps.ite (fun _ => ?_) (fun _ => ?_))
   | (with_reducible apply State.mgmtNodes_keeps)
   | (with_reducible apply State.runReset_keeps)
   | (with_reducible refine Keeps.of_eq (by with_reducible assumption) ?_)
   | split
   | (extract_lets)
   | (dsimp only))

theorem execSheepdogWdtExpiry_keeps {K : Nat} {s t : State} (hK : K &&& 281470698520562 = 0) (h : s.Stored)
    (e : execSheepdogWdtExpiry s = .next t) : Keeps K s t := by
  unfold execSheepdogWdtExpiry at e
  have e := Host.Outcome.next.inj e
  subst e
  have h := Keeps.refl (K := K) h
  repeat' (first
   | (with_reducible assumption)
   | (with_reducible exact keeps_sub hK (by decide))
   | (with_reducible rfl)
   | (with_reducible refine Keeps.ite (fun _ => ?_) (fun _ => ?_))
   | (with_reducible apply State.runReset_keeps)
   | (with_reducible refine Keeps.of_eq (by with_reducible assumption) ?_)
   | split
   | (extract_lets)
   | (dsimp only))

theorem execMgmtWdtExpiry_keeps {K : Nat} {s t : State} (hK : K &&& 281470698520562 = 0) (h : s.Stored)
    (e : execMgmtWdtExpiry s = .next t) : Keeps K s t := by
  unfold execMgmtWdtExpiry at e
  have e := Host.Outcome.next.inj e
  subst e
  have h := Keeps.refl (K := K) h
  repeat' (first
   | (with_reducible assumption)
   | (with_reducible exact keeps_sub hK (by decide))
   | (with_reducible rfl)
   | (with_reducible refine Keeps.ite (fun _ => ?_) (fun _ => ?_))
   | (with_reducible apply State.mgmtReset_keeps)
   | (with_reducible refine Keeps.of_eq (by with_reducible assumption) ?_)
   | split
   | (extract_lets)
   | (dsimp only))

theorem execLockstepMismatch_keeps {K : Nat} {s t : State} (hK : K &&& 281470698520562 = 0) (h : s.Stored)
    (e : execLockstepMismatch s = .next t) : Keeps K s t := by
  unfold execLockstepMismatch at e
  have e := Host.Outcome.next.inj e
  subst e
  have h := Keeps.refl (K := K) h
  repeat' (first
   | (with_reducible assumption)
   | (with_reducible exact keeps_sub hK (by decide))
   | (with_reducible rfl)
   | (with_reducible refine Keeps.ite (fun _ => ?_) (fun _ => ?_))
   | (with_reducible apply State.runReset_keeps)
   | (with_reducible refine Keeps.of_eq (by with_reducible assumption) ?_)
   | split
   | (extract_lets)
   | (dsimp only))

theorem execBlockedWrite_keeps {K : Nat} (bySheepdog : Bool) {s t : State} (hK : K &&& 281470698520562 = 0) (h : s.Stored)
    (e : execBlockedWrite bySheepdog s = .next t) : Keeps K s t := by
  unfold execBlockedWrite at e
  have e := Host.Outcome.next.inj e
  subst e
  have h := Keeps.refl (K := K) h
  repeat' (first
   | (with_reducible assumption)
   | (with_reducible exact keeps_sub hK (by decide))
   | (with_reducible rfl)
   | (with_reducible refine Keeps.ite (fun _ => ?_) (fun _ => ?_))
   | (with_reducible apply State.mgmtReset_keeps)
   | (with_reducible apply State.runReset_keeps)
   | (with_reducible refine Keeps.of_eq (by with_reducible assumption) ?_)
   | split
   | (extract_lets)
   | (dsimp only))

theorem execRegulatorsGood_keeps {K : Nat} (testEn : Bool) {s t : State} (hK : K &&& 4296015888 = 0) (h : s.Stored)
    (e : execRegulatorsGood testEn s = .next t) : Keeps K s t := by
  unfold execRegulatorsGood at e
  have e := Host.Outcome.next.inj e
  subst e
  have h := Keeps.refl (K := K) h
  repeat' (first
   | (with_reducible assumption)
   | (with_reducible exact keeps_sub hK (by decide))
   | (with_reducible rfl)
   | (with_reducible refine Keeps.ite (fun _ => ?_) (fun _ => ?_))
   | (with_reducible apply State.releaseReset_keeps)
   | (with_reducible refine Keeps.of_eq (by with_reducible assumption) ?_)
   | split
   | (extract_lets)
   | (with_reducible apply Keeps.set_dev)
   | (dsimp only))

theorem State.swReset_keeps {K : Nat} {s₀ s : State} (v : Word) (hK : K &&& 281470698520562 = 0) (h : Keeps K s₀ s) :
    Keeps K s₀ (State.swReset s v) := by
  unfold State.swReset
  (try extract_lets)
  repeat' (first
   | (with_reducible assumption)
   | (with_reducible exact keeps_sub hK (by decide))
   | (with_reducible rfl)
   | exact keeps_block hK 0 (by decide) (by decide)
   | (with_reducible refine Keeps.ite (fun _ => ?_) (fun _ => ?_))
   | (with_reducible apply State.setFlag_keeps)
   | (with_reducible apply State.assertReset_keeps)
   | (with_reducible refine Keeps.of_eq (by with_reducible assumption) ?_)
   | split
   | (extract_lets)
   | (dsimp only))

theorem State.bootFail_keeps {K : Nat} {s₀ s : State} (code : Nat) (hK : K &&& 281470698520562 = 0) (h : Keeps K s₀ s) :
    Keeps K s₀ (State.bootFail s code) := by
  unfold State.bootFail
  (try extract_lets)
  repeat' (first
   | (with_reducible assumption)
   | (with_reducible exact keeps_sub hK (by decide))
   | (with_reducible rfl)
   | exact keeps_block hK 0 (by decide) (by decide)
   | exact keeps_block hK 15 (by decide) (by decide)
   | (with_reducible refine Keeps.ite (fun _ => ?_) (fun _ => ?_))
   | (with_reducible apply State.setFlag_keeps)
   | (with_reducible apply State.enterStage_keeps)
   | (with_reducible apply State.setFld_keeps)
   | (with_reducible apply State.assertReset_keeps)
   | (with_reducible apply State.findHead_keeps)
   | (with_reducible refine Keeps.of_eq (by with_reducible assumption) ?_)
   | split
   | (extract_lets)
   | (dsimp only))

theorem execBootTestFail_keeps {K : Nat} (code : Byte) {s t : State} (hK : K &&& 281470698520562 = 0) (h : s.Stored)
    (e : execBootTestFail code s = .next t) : Keeps K s t := by
  unfold execBootTestFail at e
  have e := Host.Outcome.next.inj e
  subst e
  have h := Keeps.refl (K := K) h
  repeat' (first
   | (with_reducible assumption)
   | (with_reducible exact keeps_sub hK (by decide))
   | (with_reducible rfl)
   | (with_reducible refine Keeps.ite (fun _ => ?_) (fun _ => ?_))
   | (with_reducible apply State.recordFail_keeps)
   | (with_reducible apply State.bootFail_keeps)
   | (with_reducible refine Keeps.of_eq (by with_reducible assumption) ?_)
   | split
   | (extract_lets)
   | (dsimp only))

theorem State.bootRecord_keeps {K : Nat} {s₀ s : State} (hK : K &&& 128 = 0) (h : Keeps K s₀ s) :
    Keeps K s₀ (State.bootRecord s) := by
  unfold State.bootRecord
  (try extract_lets)
  repeat' (first
   | (with_reducible assumption)
   | (with_reducible exact keeps_sub hK (by decide))
   | (with_reducible rfl)
   | (with_reducible refine Keeps.ite (fun _ => ?_) (fun _ => ?_))
   | (with_reducible apply State.journal_keeps)
   | (with_reducible refine Keeps.of_eq (by with_reducible assumption) ?_)
   | split
   | (extract_lets)
   | (dsimp only))

theorem State.loadRailCounters_keeps {K : Nat} {s₀ s : State} (n : Nat) (b : List Byte) (hK : K &&& 549755813888 = 0) (h : Keeps K s₀ s) :
    Keeps K s₀ (State.loadRailCounters s n b) := by
  unfold State.loadRailCounters
  (try extract_lets)
  repeat' (first
   | (with_reducible assumption)
   | (with_reducible exact keeps_sub hK (by decide))
   | (with_reducible rfl)
   | exact keeps_block hK 7 (by decide) (by decide)
   | exact keeps_block hK 7 (by simp only [Reg.SUP_ON_CYCLES, Reg.SUP_RAIL_CNT_F, Reg.SUP_RAIL_CNT_S, Reg.SUP_RAIL_CNT_W]; omega) (by decide)
   | (with_reducible refine Keeps.ite (fun _ => ?_) (fun _ => ?_))
   | (with_reducible apply State.setReg_keeps)
   | (with_reducible refine Keeps.of_eq (by with_reducible assumption) ?_)
   | split
   | (extract_lets)
   | (dsimp only))

theorem State.loadCounters_keeps {K : Nat} {s₀ s : State} (hK : K &&& 549760016384 = 0) (h : Keeps K s₀ s) :
    Keeps K s₀ (State.loadCounters s) := by
  unfold State.loadCounters
  (try extract_lets)
  repeat' (first
   | (with_reducible assumption)
   | (with_reducible exact keeps_sub hK (by decide))
   | (with_reducible rfl)
   | exact keeps_block hK 7 (by decide) (by decide)
   | (with_reducible refine Keeps.ite (fun _ => ?_) (fun _ => ?_))
   | (with_reducible apply State.setFlag_keeps)
   | (with_reducible apply State.loadRailCounters_keeps)
   | (with_reducible apply State.setFld_keeps)
   | (with_reducible apply State.modJrn_keeps)
   | (with_reducible refine Keeps.foldl _ _ (fun s x h => ?_) ?_)
   | (with_reducible refine Keeps.foldl_fst _ _ (fun s x h => ?_) ?_)
   | (with_reducible refine Keeps.of_eq (by with_reducible assumption) ?_)
   | split
   | (extract_lets)
   | (with_reducible apply Keeps.set_sup)
   | (dsimp only))

theorem State.loadSnapshot_keeps {K : Nat} {s₀ s : State} (p' : List Byte) (cold : Bool) (hK : K &&& 1099511644162 = 0) (h : Keeps K s₀ s) :
    Keeps K s₀ (State.loadSnapshot s p' cold) := by
  unfold State.loadSnapshot
  (try extract_lets)
  repeat' (first
   | (with_reducible assumption)
   | (with_reducible exact keeps_sub hK (by decide))
   | (with_reducible rfl)
   | exact keeps_block hK 8 (by decide) (by decide)
   | (with_reducible refine Keeps.ite (fun _ => ?_) (fun _ => ?_))
   | (with_reducible apply State.setReg_keeps)
   | (with_reducible apply State.setFlag_keeps)
   | (with_reducible apply State.setFld_keeps)
   | (with_reducible apply State.setBatt_keeps)
   | (with_reducible apply State.setFcc_keeps)
   | (with_reducible refine Keeps.of_eq (by with_reducible assumption) ?_)
   | split
   | (extract_lets)
   | (dsimp only))

theorem State.loadGauge_keeps {K : Nat} {s₀ s : State} (hK : K &&& 1099511644162 = 0) (h : Keeps K s₀ s) :
    Keeps K s₀ (State.loadGauge s) := by
  unfold State.loadGauge
  dsimp only
  repeat' (first
   | (with_reducible assumption)
   | (with_reducible exact keeps_sub hK (by decide))
   | (with_reducible rfl)
   | (with_reducible refine Keeps.ite (fun _ => ?_) (fun _ => ?_))
   | (with_reducible apply State.addSince_keeps)
   | (with_reducible apply State.setBatt_keeps)
   | (with_reducible apply State.setSoc_keeps)
   | (with_reducible apply State.loadSnapshot_keeps)
   | (with_reducible refine Keeps.of_eq (by with_reducible assumption) ?_)
   | split
   | (extract_lets)
   | (dsimp only))

theorem State.stepSeven_keeps {K : Nat} {s₀ s : State} (hK : K &&& 1649271660690 = 0) (h : Keeps K s₀ s) :
    Keeps K s₀ (State.stepSeven s) := by
  unfold State.stepSeven
  (try extract_lets)
  repeat' (first
   | (with_reducible assumption)
   | (with_reducible exact keeps_sub hK (by decide))
   | (with_reducible rfl)
   | (with_reducible refine Keeps.ite (fun _ => ?_) (fun _ => ?_))
   | (with_reducible apply State.bootRecord_keeps)
   | (with_reducible apply State.loadGauge_keeps)
   | (with_reducible apply State.loadCounters_keeps)
   | (with_reducible refine Keeps.of_eq (by with_reducible assumption) ?_)
   | split
   | (extract_lets)
   | (with_reducible apply Keeps.set_dev)
   | (dsimp only))

theorem State.withoutPlan_keeps {K : Nat} {s₀ s : State} (hK : K &&& 219356869353618 = 0) (h : Keeps K s₀ s) :
    Keeps K s₀ (State.withoutPlan s) := by
  unfold State.withoutPlan
  (try extract_lets)
  repeat' (first
   | (with_reducible assumption)
   | (with_reducible exact keeps_sub hK (by decide))
   | (with_reducible rfl)
   | exact keeps_block hK 14 (by decide) (by decide)
   | exact keeps_block hK 15 (by decide) (by decide)
   | (with_reducible refine Keeps.ite (fun _ => ?_) (fun _ => ?_))
   | (with_reducible apply State.setFlag_keeps)
   | (with_reducible apply State.stepSeven_keeps)
   | (with_reducible apply State.enterSafe_keeps)
   | (with_reducible apply State.applyActions_keeps)
   | (with_reducible apply State.setNode_keeps)
   | (with_reducible refine Keeps.of_eq (by with_reducible assumption) ?_)
   | split
   | (extract_lets)
   | (with_reducible apply Keeps.set_hedge)
   | (dsimp only))

theorem State.restoreLatches_keeps {K : Nat} {s₀ s : State} (hK : K &&& 131072 = 0) (h : Keeps K s₀ s) :
    Keeps K s₀ (State.restoreLatches s) := by
  unfold State.restoreLatches
  (try extract_lets)
  repeat' (first
   | (with_reducible assumption)
   | (with_reducible exact keeps_sub hK (by decide))
   | (with_reducible rfl)
   | (with_reducible refine Keeps.ite (fun _ => ?_) (fun _ => ?_))
   | (with_reducible refine Keeps.foldl _ _ (fun s x h => ?_) ?_)
   | (with_reducible refine Keeps.foldl_fst _ _ (fun s x h => ?_) ?_)
   | (with_reducible refine Keeps.of_eq (by with_reducible assumption) ?_)
   | split
   | (extract_lets)
   | (with_reducible apply Keeps.set_hedge)
   | (dsimp only))

theorem State.armHedge_keeps {K : Nat} {s₀ s : State} (hK : K &&& 103491535274376 = 0) (h : Keeps K s₀ s) :
    Keeps K s₀ (State.armHedge s) := by
  unfold State.armHedge
  (try extract_lets)
  repeat' (first
   | (with_reducible assumption)
   | (with_reducible exact keeps_sub hK (by decide))
   | (with_reducible rfl)
   | exact keeps_block hK 14 (by decide) (by decide)
   | (with_reducible refine Keeps.ite (fun _ => ?_) (fun _ => ?_))
   | (with_reducible apply State.setFlag_keeps)
   | (with_reducible apply State.planRef_keeps)
   | (with_reducible apply State.restoreLatches_keeps)
   | (with_reducible apply State.applyActions_keeps)
   | (with_reducible apply State.hwEval_keeps)
   | (with_reducible apply State.setNode_keeps)
   | (with_reducible refine Keeps.foldl_range _ _ (fun s x hx h => ?_) ?_)
   | (with_reducible refine Keeps.foldl _ _ (fun s x h => ?_) ?_)
   | (with_reducible refine Keeps.foldl_fst _ _ (fun s x h => ?_) ?_)
   | (with_reducible refine Keeps.of_eq (by with_reducible assumption) ?_)
   | split
   | (extract_lets)
   | (with_reducible apply Keeps.set_hedge)
   | (dsimp only))

theorem State.latchedRail_keeps {K : Nat} {s₀ s : State} (n : Nat) (cause : Nat) (hK : K &&& 824633723008 = 0) (h : Keeps K s₀ s) :
    Keeps K s₀ (State.latchedRail s n cause) := by
  unfold State.latchedRail
  (try extract_lets)
  repeat' (first
   | (with_reducible assumption)
   | (with_reducible exact keeps_sub hK (by decide))
   | (with_reducible rfl)
   | (with_reducible refine Keeps.ite (fun _ => ?_) (fun _ => ?_))
   | (with_reducible apply State.setRail_keeps)
   | (with_reducible refine Keeps.of_eq (by with_reducible assumption) ?_)
   | split
   | (extract_lets)
   | (dsimp only))

theorem State.seqLoad_keeps {K : Nat} {s₀ s : State} (vinGood : Bool) (hK : K &&& 824633731200 = 0) (h : Keeps K s₀ s) :
    Keeps K s₀ (State.seqLoad s vinGood) := by
  unfold State.seqLoad
  (try extract_lets)
  repeat' (first
   | (with_reducible assumption)
   | (with_reducible exact keeps_sub hK (by decide))
   | (with_reducible rfl)
   | (with_reducible refine Keeps.ite (fun _ => ?_) (fun _ => ?_))
   | (with_reducible apply State.enterStartFail_keeps)
   | (with_reducible apply State.latchedRail_keeps)
   | (with_reducible refine Keeps.of_eq (by with_reducible assumption) ?_)
   | split
   | (extract_lets)
   | (with_reducible apply Keeps.set_seq_sup)
   | (with_reducible apply Keeps.set_seq)
   | (dsimp only))

theorem State.planRegs_keeps {K : Nat} {s₀ s : State} (k : Fin 2) (i : List Byte) (hK : K &&& 4294967296 = 0) (h : Keeps K s₀ s) :
    Keeps K s₀ (State.planRegs s k i) := by
  unfold State.planRegs
  (try extract_lets)
  repeat' (first
   | (with_reducible assumption)
   | (with_reducible exact keeps_sub hK (by decide))
   | (with_reducible rfl)
   | exact keeps_block hK 0 (by decide) (by decide)
   | exact keeps_block hK 0 (by simp only [Reg.DEV_PLAN_HASH]; omega) (by decide)
   | (with_reducible refine Keeps.ite (fun _ => ?_) (fun _ => ?_))
   | (with_reducible apply State.setReg_keeps)
   | (with_reducible apply State.setFlag_keeps)
   | (with_reducible apply State.setFld_keeps)
   | (with_reducible refine Keeps.foldl_range _ _ (fun s x hx h => ?_) ?_)
   | (with_reducible refine Keeps.foldl _ _ (fun s x h => ?_) ?_)
   | (with_reducible refine Keeps.foldl_fst _ _ (fun s x h => ?_) ?_)
   | (with_reducible refine Keeps.of_eq (by with_reducible assumption) ?_)
   | split
   | (extract_lets)
   | (dsimp only))

theorem State.loadPlan_keeps {K : Nat} {s₀ s : State} (k : Fin 2) (i : List Byte) (vinGood : Bool) (hK : K &&& 281470697930650 = 0) (h : Keeps K s₀ s) :
    Keeps K s₀ (State.loadPlan s k i vinGood) := by
  unfold State.loadPlan
  (try extract_lets)
  repeat' (first
   | (with_reducible assumption)
   | (with_reducible exact keeps_sub hK (by decide))
   | (with_reducible rfl)
   | exact keeps_block hK 7 (by decide) (by decide)
   | exact keeps_block hK 8 (by decide) (by decide)
   | exact keeps_block hK 15 (by decide) (by decide)
   | (with_reducible refine Keeps.ite (fun _ => ?_) (fun _ => ?_))
   | (with_reducible apply State.setFlag_keeps)
   | (with_reducible apply State.armHedge_keeps)
   | (with_reducible apply State.planRegs_keeps)
   | (with_reducible apply State.applySections_keeps)
   | (with_reducible apply State.emptyFilters_keeps)
   | (with_reducible apply State.startFmod_keeps)
   | (with_reducible apply State.stepSeven_keeps)
   | (with_reducible apply State.setFld_keeps)
   | (with_reducible apply State.enterSafe_keeps)
   | (with_reducible apply State.diInit_keeps)
   | (with_reducible apply State.seqLoad_keeps)
   | (with_reducible apply State.battAlarm_keeps)
   | (with_reducible refine Keeps.of_eq (by with_reducible assumption) ?_)
   | split
   | (extract_lets)
   | (with_reducible apply Keeps.set_dev_plans)
   | (with_reducible apply Keeps.set_dev)
   | (with_reducible apply Keeps.set_herd)
   | (with_reducible apply Keeps.set_plans)
   | (dsimp only))

theorem State.scanBank_keeps {K : Nat} {s₀ s : State} (b : Fin 2) (hK : K &&& 4194432 = 0) (h : Keeps K s₀ s) :
    Keeps K s₀ (State.scanBank s b) := by
  unfold State.scanBank
  (try extract_lets)
  repeat' (first
   | (with_reducible assumption)
   | (with_reducible exact keeps_sub hK (by decide))
   | (with_reducible rfl)
   | (with_reducible refine Keeps.ite (fun _ => ?_) (fun _ => ?_))
   | (with_reducible apply State.postSuspect_keeps)
   | (with_reducible apply State.modBank_keeps)
   | (with_reducible refine Keeps.foldl_range _ _ (fun s x hx h => ?_) ?_)
   | (with_reducible refine Keeps.foldl _ _ (fun s x h => ?_) ?_)
   | (with_reducible refine Keeps.foldl_fst _ _ (fun s x h => ?_) ?_)
   | (with_reducible refine Keeps.of_eq (by with_reducible assumption) ?_)
   | split
   | (extract_lets)
   | (dsimp only))

theorem State.bootScan_keeps {K : Nat} {s₀ s : State} (heads : Vector (Option Word) 2) (hK : K &&& 281470698520562 = 0) (h : Keeps K s₀ s) :
    Keeps K s₀ (State.bootScan s heads) := by
  unfold State.bootScan
  (try extract_lets)
  repeat' (first
   | (with_reducible assumption)
   | (with_reducible exact keeps_sub hK (by decide))
   | (with_reducible rfl)
   | exact keeps_block hK 0 (by decide) (by decide)
   | (with_reducible refine Keeps.ite (fun _ => ?_) (fun _ => ?_))
   | (with_reducible apply State.setReg_keeps)
   | (with_reducible apply State.readHeaders_keeps)
   | (with_reducible apply State.scanBank_keeps)
   | (with_reducible apply State.setFld_keeps)
   | (with_reducible apply State.findHead_keeps)
   | (with_reducible apply State.bootFail_keeps)
   | (with_reducible refine Keeps.of_eq (by with_reducible assumption) ?_)
   | split
   | (extract_lets)
   | (with_reducible apply Keeps.set_dev)
   | (dsimp only))

theorem execBootScanDone_keeps {K : Nat} (heads : Vector (Option Word) 2) {s t : State} (hK : K &&& 281470698520562 = 0) (h : s.Stored)
    (e : execBootScanDone heads s = .next t) : Keeps K s t := by
  unfold execBootScanDone at e
  have e := Host.Outcome.next.inj e
  subst e
  have h := Keeps.refl (K := K) h
  repeat' (first
   | (with_reducible assumption)
   | (with_reducible exact keeps_sub hK (by decide))
   | (with_reducible rfl)
   | (with_reducible refine Keeps.ite (fun _ => ?_) (fun _ => ?_))
   | (with_reducible apply State.bootScan_keeps)
   | (with_reducible refine Keeps.of_eq (by with_reducible assumption) ?_)
   | split
   | (extract_lets)
   | (dsimp only))

theorem State.planVerified_keeps {K : Nat} {s₀ s : State} (errs : List LineErr) (vinGood : Bool) (hK : K &&& 281470697930650 = 0) (h : Keeps K s₀ s) :
    Keeps K s₀ (State.planVerified s errs vinGood) := by
  unfold State.planVerified
  (try extract_lets)
  repeat' (first
   | (with_reducible assumption)
   | (with_reducible exact keeps_sub hK (by decide))
   | (with_reducible rfl)
   | (with_reducible refine Keeps.ite (fun _ => ?_) (fun _ => ?_))
   | (with_reducible apply State.setOutcome_keeps)
   | (with_reducible apply State.loadPlan_keeps)
   | (with_reducible apply State.withoutPlan_keeps)
   | (with_reducible refine Keeps.of_eq (by with_reducible assumption) ?_)
   | split
   | (extract_lets)
   | (with_reducible apply Keeps.set_dev)
   | (dsimp only))

theorem execPlanVerifyDone_keeps {K : Nat} (errs : List LineErr) (vinGood : Bool) {s t : State} (hK : K &&& 281470697930650 = 0) (h : s.Stored)
    (e : execPlanVerifyDone errs vinGood s = .next t) : Keeps K s t := by
  unfold execPlanVerifyDone at e
  have e := Host.Outcome.next.inj e
  subst e
  have h := Keeps.refl (K := K) h
  repeat' (first
   | (with_reducible assumption)
   | (with_reducible exact keeps_sub hK (by decide))
   | (with_reducible rfl)
   | (with_reducible refine Keeps.ite (fun _ => ?_) (fun _ => ?_))
   | (with_reducible apply State.planVerified_keeps)
   | (with_reducible refine Keeps.of_eq (by with_reducible assumption) ?_)
   | split
   | (extract_lets)
   | (dsimp only))

theorem State.releaseRstOut_keeps {K : Nat} {s₀ s : State} (stage : Nat) (hK : K &&& 16 = 0) (h : Keeps K s₀ s) :
    Keeps K s₀ (State.releaseRstOut s stage) := by
  unfold State.releaseRstOut
  (try extract_lets)
  repeat' (first
   | (with_reducible assumption)
   | (with_reducible exact keeps_sub hK (by decide))
   | (with_reducible rfl)
   | (with_reducible refine Keeps.ite (fun _ => ?_) (fun _ => ?_))
   | (with_reducible refine Keeps.of_eq (by with_reducible assumption) ?_)
   | split
   | (extract_lets)
   | (with_reducible apply Keeps.set_dev)
   | (dsimp only))

theorem State.reducedRstOut_keeps {K : Nat} {s₀ s : State} (hK : K &&& 16 = 0) (h : Keeps K s₀ s) :
    Keeps K s₀ (State.reducedRstOut s) := by
  unfold State.reducedRstOut
  (try extract_lets)
  repeat' (first
   | (with_reducible assumption)
   | (with_reducible exact keeps_sub hK (by decide))
   | (with_reducible rfl)
   | (with_reducible refine Keeps.ite (fun _ => ?_) (fun _ => ?_))
   | (with_reducible apply State.releaseRstOut_keeps)
   | (with_reducible refine Keeps.of_eq (by with_reducible assumption) ?_)
   | split
   | (extract_lets)
   | (dsimp only))

theorem State.reducedEntry_keeps {K : Nat} {s₀ s : State} (us : Word) (hK : K &&& 219356869353618 = 0) (h : Keeps K s₀ s) :
    Keeps K s₀ (State.reducedEntry s us) := by
  unfold State.reducedEntry
  (try extract_lets)
  repeat' (first
   | (with_reducible assumption)
   | (with_reducible exact keeps_sub hK (by decide))
   | (with_reducible rfl)
   | exact keeps_block hK 0 (by decide) (by decide)
   | exact keeps_block hK 8 (by decide) (by decide)
   | exact keeps_block hK 15 (by decide) (by decide)
   | (with_reducible refine Keeps.ite (fun _ => ?_) (fun _ => ?_))
   | (with_reducible apply State.setReg_keeps)
   | (with_reducible apply State.setFlag_keeps)
   | (with_reducible apply State.kickErases_keeps)
   | (with_reducible apply State.enterStage_keeps)
   | (with_reducible apply State.withoutPlan_keeps)
   | (with_reducible apply State.fansFollow_keeps)
   | (with_reducible apply State.reducedRstOut_keeps)
   | (with_reducible refine Keeps.of_eq (by with_reducible assumption) ?_)
   | split
   | (extract_lets)
   | (with_reducible apply Keeps.set_dev)
   | (dsimp only))

theorem execReducedServiceEntry_keeps {K : Nat} (us : Word) {s t : State} (hK : K &&& 219356869353618 = 0) (h : s.Stored)
    (e : execReducedServiceEntry us s = .next t) : Keeps K s t := by
  unfold execReducedServiceEntry at e
  have e := Host.Outcome.next.inj e
  subst e
  have h := Keeps.refl (K := K) h
  repeat' (first
   | (with_reducible assumption)
   | (with_reducible exact keeps_sub hK (by decide))
   | (with_reducible rfl)
   | (with_reducible refine Keeps.ite (fun _ => ?_) (fun _ => ?_))
   | (with_reducible apply State.reducedEntry_keeps)
   | (with_reducible refine Keeps.of_eq (by with_reducible assumption) ?_)
   | split
   | (extract_lets)
   | (dsimp only))

theorem execXoGood_keeps {K : Nat} {s t : State} (hK : K &&& 16 = 0) (h : s.Stored)
    (e : execXoGood s = .next t) : Keeps K s t := by
  unfold execXoGood at e
  have e := Host.Outcome.next.inj e
  subst e
  have h := Keeps.refl (K := K) h
  repeat' (first
   | (with_reducible assumption)
   | (with_reducible exact keeps_sub hK (by decide))
   | (with_reducible rfl)
   | (with_reducible refine Keeps.ite (fun _ => ?_) (fun _ => ?_))
   | (with_reducible refine Keeps.of_eq (by with_reducible assumption) ?_)
   | split
   | (extract_lets)
   | (with_reducible apply Keeps.set_dev)
   | (dsimp only))

theorem State.xoFail_keeps {K : Nat} {s₀ s : State} (b : Nat) (hK : K &&& 4294967442 = 0) (h : Keeps K s₀ s) :
    Keeps K s₀ (State.xoFail s b) := by
  unfold State.xoFail
  (try extract_lets)
  repeat' (first
   | (with_reducible assumption)
   | (with_reducible exact keeps_sub hK (by decide))
   | (with_reducible rfl)
   | exact keeps_block hK 0 (by decide) (by decide)
   | (with_reducible refine Keeps.ite (fun _ => ?_) (fun _ => ?_))
   | (with_reducible apply State.setFlag_keeps)
   | (with_reducible apply State.elapsed_keeps)
   | (with_reducible apply State.postService_keeps)
   | (with_reducible apply State.releaseRstOut_keeps)
   | (with_reducible refine Keeps.of_eq (by with_reducible assumption) ?_)
   | split
   | (extract_lets)
   | (with_reducible apply Keeps.set_dev)
   | (dsimp only))

theorem execXoFailTimeout_keeps {K : Nat} {s t : State} (hK : K &&& 4294967442 = 0) (h : s.Stored)
    (e : execXoFailTimeout s = .next t) : Keeps K s t := by
  unfold execXoFailTimeout at e
  have e := Host.Outcome.next.inj e
  subst e
  have h := Keeps.refl (K := K) h
  repeat' (first
   | (with_reducible assumption)
   | (with_reducible exact keeps_sub hK (by decide))
   | (with_reducible rfl)
   | (with_reducible refine Keeps.ite (fun _ => ?_) (fun _ => ?_))
   | (with_reducible apply State.xoFail_keeps)
   | (with_reducible refine Keeps.of_eq (by with_reducible assumption) ?_)
   | split
   | (extract_lets)
   | (dsimp only))

theorem execXt32Good_keeps {K : Nat} {s t : State} (hK : K &&& 17179869184 = 0) (h : s.Stored)
    (e : execXt32Good s = .next t) : Keeps K s t := by
  unfold execXt32Good at e
  have e := Host.Outcome.next.inj e
  subst e
  have h := Keeps.refl (K := K) h
  repeat' (first
   | (with_reducible assumption)
   | (with_reducible exact keeps_sub hK (by decide))
   | (with_reducible rfl)
   | exact keeps_block hK 2 (by decide) (by decide)
   | (with_reducible refine Keeps.ite (fun _ => ?_) (fun _ => ?_))
   | (with_reducible apply State.setFlag_keeps)
   | (with_reducible refine Keeps.of_eq (by with_reducible assumption) ?_)
   | split
   | (extract_lets)
   | (dsimp only))

theorem execPllLock_keeps {K : Nat} {s t : State} (hK : K &&& 16 = 0) (h : s.Stored)
    (e : execPllLock s = .next t) : Keeps K s t := by
  unfold execPllLock at e
  have e := Host.Outcome.next.inj e
  subst e
  have h := Keeps.refl (K := K) h
  repeat' (first
   | (with_reducible assumption)
   | (with_reducible exact keeps_sub hK (by decide))
   | (with_reducible rfl)
   | (with_reducible refine Keeps.ite (fun _ => ?_) (fun _ => ?_))
   | (with_reducible refine Keeps.of_eq (by with_reducible assumption) ?_)
   | split
   | (extract_lets)
   | (with_reducible apply Keeps.set_dev)
   | (dsimp only))

theorem execPllLockTimeout_keeps {K : Nat} {s t : State} (hK : K &&& 4294967442 = 0) (h : s.Stored)
    (e : execPllLockTimeout s = .next t) : Keeps K s t := by
  unfold execPllLockTimeout at e
  have e := Host.Outcome.next.inj e
  subst e
  have h := Keeps.refl (K := K) h
  repeat' (first
   | (with_reducible assumption)
   | (with_reducible exact keeps_sub hK (by decide))
   | (with_reducible rfl)
   | (with_reducible refine Keeps.ite (fun _ => ?_) (fun _ => ?_))
   | (with_reducible apply State.xoFail_keeps)
   | (with_reducible refine Keeps.of_eq (by with_reducible assumption) ?_)
   | split
   | (extract_lets)
   | (with_reducible apply Keeps.set_dev)
   | (dsimp only))

theorem State.calDone_keeps {K : Nat} {s₀ s : State} (ok : Bool) (gain : Int) (hK : K &&& 94570886906010 = 0) (h : Keeps K s₀ s) :
    Keeps K s₀ (State.calDone s ok gain) := by
  unfold State.calDone
  (try extract_lets)
  repeat' (first
   | (with_reducible assumption)
   | (with_reducible exact keeps_sub hK (by decide))
   | (with_reducible rfl)
   | exact keeps_block hK 0 (by decide) (by decide)
   | (with_reducible refine Keeps.ite (fun _ => ?_) (fun _ => ?_))
   | (with_reducible apply State.setFlag_keeps)
   | (with_reducible apply State.classS_keeps)
   | (with_reducible refine Keeps.of_eq (by with_reducible assumption) ?_)
   | split
   | (extract_lets)
   | (with_reducible apply Keeps.set_dev_batt)
   | (with_reducible apply Keeps.set_dev)
   | (dsimp only))

theorem execCalComplete_keeps {K : Nat} (ok : Bool) (gain : Word) {s t : State} (hK : K &&& 94570886906010 = 0) (h : s.Stored)
    (e : execCalComplete ok gain s = .next t) : Keeps K s t := by
  unfold execCalComplete at e
  have e := Host.Outcome.next.inj e
  subst e
  have h := Keeps.refl (K := K) h
  repeat' (first
   | (with_reducible assumption)
   | (with_reducible exact keeps_sub hK (by decide))
   | (with_reducible rfl)
   | (with_reducible refine Keeps.ite (fun _ => ?_) (fun _ => ?_))
   | (with_reducible apply State.calDone_keeps)
   | (with_reducible refine Keeps.of_eq (by with_reducible assumption) ?_)
   | split
   | (extract_lets)
   | (dsimp only))

theorem State.toXo_keeps {K : Nat} {s₀ s : State} (ppm : Word) (hK : K &&& 17179869216 = 0) (h : Keeps K s₀ s) :
    Keeps K s₀ (State.toXo s ppm) := by
  unfold State.toXo
  (try extract_lets)
  repeat' (first
   | (with_reducible assumption)
   | (with_reducible exact keeps_sub hK (by decide))
   | (with_reducible rfl)
   | exact keeps_block hK 2 (by decide) (by decide)
   | (with_reducible refine Keeps.ite (fun _ => ?_) (fun _ => ?_))
   | (with_reducible apply State.setReg_keeps)
   | (with_reducible apply State.setFlag_keeps)
   | (with_reducible refine Keeps.of_eq (by with_reducible assumption) ?_)
   | split
   | (extract_lets)
   | (with_reducible apply Keeps.set_time)
   | (dsimp only))

theorem State.ptmRestart_keeps {K : Nat} {s₀ s : State} (hK : K &&& 17179869216 = 0) (h : Keeps K s₀ s) :
    Keeps K s₀ (State.ptmRestart s) := by
  unfold State.ptmRestart
  (try extract_lets)
  repeat' (first
   | (with_reducible assumption)
   | (with_reducible exact keeps_sub hK (by decide))
   | (with_reducible rfl)
   | exact keeps_block hK 2 (by decide) (by decide)
   | (with_reducible refine Keeps.ite (fun _ => ?_) (fun _ => ?_))
   | (with_reducible apply State.setFlag_keeps)
   | (with_reducible refine Keeps.of_eq (by with_reducible assumption) ?_)
   | split
   | (extract_lets)
   | (with_reducible apply Keeps.set_time)
   | (dsimp only))

theorem State.fullSwitch_keeps {K : Nat} {s₀ s : State} (ppm : Word) (hK : K &&& 8267820491954 = 0) (h : Keeps K s₀ s) :
    Keeps K s₀ (State.fullSwitch s ppm) := by
  unfold State.fullSwitch
  (try extract_lets)
  repeat' (first
   | (with_reducible assumption)
   | (with_reducible exact keeps_sub hK (by decide))
   | (with_reducible rfl)
   | exact keeps_block hK 0 (by decide) (by decide)
   | exact keeps_block hK 8 (by decide) (by decide)
   | (with_reducible refine Keeps.ite (fun _ => ?_) (fun _ => ?_))
   | (with_reducible apply State.setReg_keeps)
   | (with_reducible apply State.setFlag_keeps)
   | (with_reducible apply State.elapsed_keeps)
   | (with_reducible apply State.postService_keeps)
   | (with_reducible apply State.emptyFilters_keeps)
   | (with_reducible apply State.ptmRestart_keeps)
   | (with_reducible apply State.setBatt_keeps)
   | (with_reducible apply State.releaseRstOut_keeps)
   | (with_reducible apply State.gaugeRefresh_keeps)
   | (with_reducible apply State.toXo_keeps)
   | (with_reducible apply State.fansFollow_keeps)
   | (with_reducible apply State.applyRaw_keeps)
   | (with_reducible refine Keeps.of_eq (by with_reducible assumption) ?_)
   | split
   | (extract_lets)
   | (with_reducible apply Keeps.set_dev_plans)
   | (with_reducible apply Keeps.set_motion)
   | (dsimp only))

theorem execFullServiceSwitch_keeps {K : Nat} (ppm : Word) {s t : State} (hK : K &&& 8267820491954 = 0) (h : s.Stored)
    (e : execFullServiceSwitch ppm s = .next t) : Keeps K s t := by
  unfold execFullServiceSwitch at e
  have e := Host.Outcome.next.inj e
  subst e
  have h := Keeps.refl (K := K) h
  repeat' (first
   | (with_reducible assumption)
   | (with_reducible exact keeps_sub hK (by decide))
   | (with_reducible rfl)
   | (with_reducible refine Keeps.ite (fun _ => ?_) (fun _ => ?_))
   | (with_reducible apply State.fullSwitch_keeps)
   | (with_reducible refine Keeps.of_eq (by with_reducible assumption) ?_)
   | split
   | (extract_lets)
   | (dsimp only))

end Sys2Proof.Machine
end

