-- ==== Sys2Proof/Laws/KeepsBist.lean ====
section
/-! SUPPORT. What the operations and commands of Machine/Bist.lean leave unchanged: one lemma for each, its mask the parts it
may write. -/

set_option linter.all false

namespace Sys2Proof.Machine

theorem State.loseCliff_keeps {K : Nat} {s₀ s : State} (i : Nat) (hK : K &&& 77034533585024 = 0) (h : Keeps K s₀ s) :
    Keeps K s₀ (State.loseCliff s i) := by
  unfold State.loseCliff
  (try extract_lets)
  repeat' (first
   | (with_reducible assumption)
   | (with_reducible exact keeps_sub hK (by decide))
   | (with_reducible rfl)
   | exact keeps_block hK 4 (by decide) (by decide)
   | exact keeps_block hK 14 (by decide) (by decide)
   | exact keeps_block hK 4 (by simp only [Reg.MOTION_CLF_STATUS]; omega) (by decide)
   | (with_reducible refine Keeps.ite (fun _ => ?_) (fun _ => ?_))
   | (with_reducible apply State.setFlag_keeps)
   | (with_reducible apply State.setFmod_keeps)
   | (with_reducible apply State.setNode_keeps)
   | (with_reducible refine Keeps.of_eq (by with_reducible assumption) ?_)
   | split
   | (extract_lets)
   | (dsimp only))

theorem State.loseEncoder_keeps {K : Nat} {s₀ s : State} (i : Nat) (hK : K &&& 77034533585024 = 0) (h : Keeps K s₀ s) :
    Keeps K s₀ (State.loseEncoder s i) := by
  unfold State.loseEncoder
  (try extract_lets)
  repeat' (first
   | (with_reducible assumption)
   | (with_reducible exact keeps_sub hK (by decide))
   | (with_reducible rfl)
   | exact keeps_block hK 4 (by decide) (by decide)
   | exact keeps_block hK 14 (by decide) (by decide)
   | exact keeps_block hK 4 (by simp only [Reg.MOTION_ENC_STATUS]; omega) (by decide)
   | (with_reducible refine Keeps.ite (fun _ => ?_) (fun _ => ?_))
   | (with_reducible apply State.setFlag_keeps)
   | (with_reducible apply State.setOverspeed_keeps)
   | (with_reducible apply State.setEncFault_keeps)
   | (with_reducible refine Keeps.of_eq (by with_reducible assumption) ?_)
   | split
   | (extract_lets)
   | (dsimp only))

theorem State.loseFan_keeps {K : Nat} {s₀ s : State} (i : Nat) (hK : K &&& 76965814108288 = 0) (h : Keeps K s₀ s) :
    Keeps K s₀ (State.loseFan s i) := by
  unfold State.loseFan
  (try extract_lets)
  repeat' (first
   | (with_reducible assumption)
   | (with_reducible exact keeps_sub hK (by decide))
   | (with_reducible rfl)
   | exact keeps_block hK 14 (by decide) (by decide)
   | (with_reducible refine Keeps.ite (fun _ => ?_) (fun _ => ?_))
   | (with_reducible apply State.setFlag_keeps)
   | (with_reducible apply State.fanTo_keeps)
   | (with_reducible apply State.fanSeqEnd_keeps)
   | (with_reducible apply State.setNode_keeps)
   | (with_reducible refine Keeps.of_eq (by with_reducible assumption) ?_)
   | split
   | (extract_lets)
   | (dsimp only))

theorem State.loseSubject_keeps {K : Nat} {s₀ s : State} (t' : Nat) (i : Nat) (hK : K &&& 77034533585024 = 0) (h : Keeps K s₀ s) :
    Keeps K s₀ (State.loseSubject s t' i) := by
  unfold State.loseSubject
  (try extract_lets)
  repeat' (first
   | (with_reducible assumption)
   | (with_reducible exact keeps_sub hK (by decide))
   | (with_reducible rfl)
   | exact keeps_block hK 14 (by decide) (by decide)
   | (with_reducible refine Keeps.ite (fun _ => ?_) (fun _ => ?_))
   | (with_reducible apply State.setFlag_keeps)
   | (with_reducible apply State.loseCliff_keeps)
   | (with_reducible apply State.loseEncoder_keeps)
   | (with_reducible apply State.loseFan_keeps)
   | (with_reducible refine Keeps.of_eq (by with_reducible assumption) ?_)
   | split
   | (extract_lets)
   | (dsimp only))

theorem State.testFails_keeps {K : Nat} {s₀ s : State} (t' : Nat) (f : BistFail) (hK : K &&& 94639606366362 = 0) (h : Keeps K s₀ s) :
    Keeps K s₀ (State.testFails s t' f) := by
  unfold State.testFails
  (try extract_lets)
  repeat' (first
   | (with_reducible assumption)
   | (with_reducible exact keeps_sub hK (by decide))
   | (with_reducible rfl)
   | (with_reducible refine Keeps.ite (fun _ => ?_) (fun _ => ?_))
   | (with_reducible apply State.classD_keeps)
   | (with_reducible apply State.loseSubject_keeps)
   | (with_reducible apply State.classS_keeps)
   | (with_reducible refine Keeps.of_eq (by with_reducible assumption) ?_)
   | split
   | (extract_lets)
   | (with_reducible apply Keeps.set_bist)
   | (dsimp only))

theorem State.countTest_keeps {K : Nat} {s₀ s : State} (t' : Fin 15) (failed : Bool) (hK : K &&& 70368744177664 = 0) (h : Keeps K s₀ s) :
    Keeps K s₀ (State.countTest s t' failed) := by
  unfold State.countTest
  (try extract_lets)
  repeat' (first
   | (with_reducible assumption)
   | (with_reducible exact keeps_sub hK (by decide))
   | (with_reducible rfl)
   | exact keeps_block hK 14 (by decide) (by decide)
   | exact keeps_block hK 14 (by simp only [Reg.BIST_TEST_CNT]; omega) (by decide)
   | (with_reducible refine Keeps.ite (fun _ => ?_) (fun _ => ?_))
   | (with_reducible apply State.inc_keeps)
   | (with_reducible refine Keeps.of_eq (by with_reducible assumption) ?_)
   | split
   | (extract_lets)
   | (dsimp only))

theorem State.endCycle_keeps {K : Nat} {s₀ s : State} (hK : K &&& 70368744439936 = 0) (h : Keeps K s₀ s) :
    Keeps K s₀ (State.endCycle s) := by
  unfold State.endCycle
  (try extract_lets)
  repeat' (first
   | (with_reducible assumption)
   | (with_reducible exact keeps_sub hK (by decide))
   | (with_reducible rfl)
   | exact keeps_block hK 14 (by decide) (by decide)
   | (with_reducible refine Keeps.ite (fun _ => ?_) (fun _ => ?_))
   | (with_reducible apply State.setReg_keeps)
   | (with_reducible apply State.postBist_keeps)
   | (with_reducible apply State.inc_keeps)
   | (with_reducible apply State.countTest_keeps)
   | (with_reducible refine Keeps.of_eq (by with_reducible assumption) ?_)
   | split
   | (extract_lets)
   | (with_reducible apply Keeps.set_bist)
   | (dsimp only))

theorem State.cycleCheck_keeps {K : Nat} {s₀ s : State} (only : Option (Fin 15)) (hK : K &&& 70368744439936 = 0) (h : Keeps K s₀ s) :
    Keeps K s₀ (State.cycleCheck s only) := by
  unfold State.cycleCheck
  (try extract_lets)
  repeat' (first
   | (with_reducible assumption)
   | (with_reducible exact keeps_sub hK (by decide))
   | (with_reducible rfl)
   | (with_reducible refine Keeps.ite (fun _ => ?_) (fun _ => ?_))
   | (with_reducible apply State.endCycle_keeps)
   | (with_reducible refine Keeps.of_eq (by with_reducible assumption) ?_)
   | split
   | (extract_lets)
   | (dsimp only))

theorem State.rotationSlice_keeps {K : Nat} {s₀ s : State} (t' : Fin 15) (cycles : Nat) (fails : List BistFail) (hK : K &&& 94639606366362 = 0) (h : Keeps K s₀ s) :
    Keeps K s₀ (State.rotationSlice s t' cycles fails) := by
  unfold State.rotationSlice
  (try extract_lets)
  repeat' (first
   | (with_reducible assumption)
   | (with_reducible exact keeps_sub hK (by decide))
   | (with_reducible rfl)
   | (with_reducible refine Keeps.ite (fun _ => ?_) (fun _ => ?_))
   | (with_reducible apply State.testFails_keeps)
   | (with_reducible apply State.countTest_keeps)
   | (with_reducible apply State.cycleCheck_keeps)
   | (with_reducible refine Keeps.foldl _ _ (fun s x h => ?_) ?_)
   | (with_reducible refine Keeps.foldl_fst _ _ (fun s x h => ?_) ?_)
   | (with_reducible refine Keeps.of_eq (by with_reducible assumption) ?_)
   | split
   | (extract_lets)
   | (with_reducible apply Keeps.set_bist)
   | (dsimp only))

theorem State.requestCheck_keeps {K : Nat} {s₀ s : State} (hK : K &&& 96757026652552 = 0) (h : Keeps K s₀ s) :
    Keeps K s₀ (State.requestCheck s) := by
  unfold State.requestCheck
  (try extract_lets)
  repeat' (first
   | (with_reducible assumption)
   | (with_reducible exact keeps_sub hK (by decide))
   | (with_reducible rfl)
   | exact keeps_block hK 14 (by decide) (by decide)
   | (with_reducible refine Keeps.ite (fun _ => ?_) (fun _ => ?_))
   | (with_reducible apply State.setFlag_keeps)
   | (with_reducible apply State.postBist_keeps)
   | (with_reducible apply State.complete_keeps)
   | (with_reducible refine Keeps.of_eq (by with_reducible assumption) ?_)
   | split
   | (extract_lets)
   | (with_reducible apply Keeps.set_bist)
   | (dsimp only))

theorem State.requestSlice_keeps {K : Nat} {s₀ s : State} (t' : Fin 15) (cycles : Nat) (fails : List BistFail) (hK : K &&& 103435701485978 = 0) (h : Keeps K s₀ s) :
    Keeps K s₀ (State.requestSlice s t' cycles fails) := by
  unfold State.requestSlice
  (try extract_lets)
  repeat' (first
   | (with_reducible assumption)
   | (with_reducible exact keeps_sub hK (by decide))
   | (with_reducible rfl)
   | exact keeps_block hK 14 (by decide) (by decide)
   | (with_reducible refine Keeps.ite (fun _ => ?_) (fun _ => ?_))
   | (with_reducible apply State.setFlag_keeps)
   | (with_reducible apply State.testFails_keeps)
   | (with_reducible apply State.countTest_keeps)
   | (with_reducible apply State.requestCheck_keeps)
   | (with_reducible refine Keeps.foldl _ _ (fun s x h => ?_) ?_)
   | (with_reducible refine Keeps.foldl_fst _ _ (fun s x h => ?_) ?_)
   | (with_reducible refine Keeps.of_eq (by with_reducible assumption) ?_)
   | split
   | (extract_lets)
   | (with_reducible apply Keeps.set_bist)
   | (dsimp only))

theorem State.requestSkip_keeps {K : Nat} {s₀ s : State} (t' : Fin 15) (hK : K &&& 96757026652552 = 0) (h : Keeps K s₀ s) :
    Keeps K s₀ (State.requestSkip s t') := by
  unfold State.requestSkip
  (try extract_lets)
  repeat' (first
   | (with_reducible assumption)
   | (with_reducible exact keeps_sub hK (by decide))
   | (with_reducible rfl)
   | exact keeps_block hK 14 (by decide) (by decide)
   | (with_reducible refine Keeps.ite (fun _ => ?_) (fun _ => ?_))
   | (with_reducible apply State.setFlag_keeps)
   | (with_reducible apply State.requestCheck_keeps)
   | (with_reducible refine Keeps.of_eq (by with_reducible assumption) ?_)
   | split
   | (extract_lets)
   | (dsimp only))

theorem State.bistSlice_keeps {K : Nat} {s₀ s : State} (cycles : Nat) (deferred : Bool) (fails : List BistFail) (hK : K &&& 103435701485978 = 0) (h : Keeps K s₀ s) :
    Keeps K s₀ (State.bistSlice s cycles deferred fails) := by
  unfold State.bistSlice
  (try extract_lets)
  repeat' (first
   | (with_reducible assumption)
   | (with_reducible exact keeps_sub hK (by decide))
   | (with_reducible rfl)
   | (with_reducible refine Keeps.ite (fun _ => ?_) (fun _ => ?_))
   | (with_reducible apply State.requestSlice_keeps)
   | (with_reducible apply State.rotationSlice_keeps)
   | (with_reducible apply State.endCycle_keeps)
   | (with_reducible apply State.cycleCheck_keeps)
   | (with_reducible apply State.requestSkip_keeps)
   | (with_reducible refine Keeps.of_eq (by with_reducible assumption) ?_)
   | split
   | (extract_lets)
   | (with_reducible apply Keeps.set_bist)
   | (dsimp only))

theorem execBistSlice_keeps {K : Nat} (cycles : Fin 481) (deferred : Bool) (fails : List BistFail) {s t : State} (hK : K &&& 103435701485978 = 0) (h : s.Stored)
    (e : execBistSlice cycles deferred fails s = .next t) : Keeps K s t := by
  unfold execBistSlice at e
  have e := Host.Outcome.next.inj e
  subst e
  have h := Keeps.refl (K := K) h
  repeat' (first
   | (with_reducible assumption)
   | (with_reducible exact keeps_sub hK (by decide))
   | (with_reducible rfl)
   | (with_reducible refine Keeps.ite (fun _ => ?_) (fun _ => ?_))
   | (with_reducible apply State.bistSlice_keeps)
   | (with_reducible refine Keeps.of_eq (by with_reducible assumption) ?_)
   | split
   | (extract_lets)
   | (dsimp only))

theorem State.selftestTake_keeps {K : Nat} {s₀ s : State} (r : Req) (tests : Nat) (hK : K &&& 96757026652552 = 0) (h : Keeps K s₀ s) :
    Keeps K s₀ (State.selftestTake s r tests).1 := by
  unfold State.selftestTake
  (try extract_lets)
  repeat' (first
   | (with_reducible assumption)
   | (with_reducible exact keeps_sub hK (by decide))
   | (with_reducible rfl)
   | exact keeps_block hK 14 (by decide) (by decide)
   | (with_reducible refine Keeps.ite (fun _ => ?_) (fun _ => ?_))
   | (with_reducible apply State.setReg_keeps)
   | (with_reducible apply State.setFlag_keeps)
   | (with_reducible apply State.requestCheck_keeps)
   | (with_reducible refine Keeps.of_eq (by with_reducible assumption) ?_)
   | split
   | (extract_lets)
   | (with_reducible apply Keeps.set_bist)
   | (dsimp only))

theorem execSelftestRun_keeps {K : Nat} (r : Req) (tests : Word) {s t : State} (hK : K &&& 96757026652552 = 0) (h : s.Stored)
    (e : execSelftestRun r tests s = .next t) : Keeps K s t := by
  unfold execSelftestRun at e
  have e := Host.Outcome.next.inj e
  subst e
  have h := Keeps.refl (K := K) h
  repeat' (first
   | (with_reducible assumption)
   | (with_reducible exact keeps_sub hK (by decide))
   | (with_reducible rfl)
   | (with_reducible refine Keeps.ite (fun _ => ?_) (fun _ => ?_))
   | (with_reducible apply State.command_keeps)
   | (with_reducible apply State.selftestTake_keeps)
   | (with_reducible refine Keeps.of_eq (by with_reducible assumption) ?_)
   | (intro s h)
   | split
   | (extract_lets)
   | (dsimp only))

theorem State.enPin_keeps {K : Nat} {s₀ s : State} (n : Fin 24) (high : Bool) (hK : K &&& 94570886889626 = 0) (h : Keeps K s₀ s) :
    Keeps K s₀ (State.enPin s n high) := by
  unfold State.enPin
  (try extract_lets)
  repeat' (first
   | (with_reducible assumption)
   | (with_reducible exact keeps_sub hK (by decide))
   | (with_reducible rfl)
   | exact keeps_block hK 14 (by decide) (by decide)
   | (with_reducible refine Keeps.ite (fun _ => ?_) (fun _ => ?_))
   | (with_reducible apply State.setFlag_keeps)
   | (with_reducible apply State.classS_keeps)
   | (with_reducible refine Keeps.of_eq (by with_reducible assumption) ?_)
   | split
   | (extract_lets)
   | (with_reducible apply Keeps.set_bist)
   | (dsimp only))

theorem State.enCheck_keeps {K : Nat} {s₀ s : State} (high : BitVec 24) (hK : K &&& 94570886889626 = 0) (h : Keeps K s₀ s) :
    Keeps K s₀ (State.enCheck s high) := by
  unfold State.enCheck
  (try extract_lets)
  repeat' (first
   | (with_reducible assumption)
   | (with_reducible exact keeps_sub hK (by decide))
   | (with_reducible rfl)
   | (with_reducible refine Keeps.ite (fun _ => ?_) (fun _ => ?_))
   | (with_reducible apply State.enPin_keeps)
   | (with_reducible refine Keeps.foldl _ _ (fun s x h => ?_) ?_)
   | (with_reducible refine Keeps.foldl_fst _ _ (fun s x h => ?_) ?_)
   | (with_reducible refine Keeps.of_eq (by with_reducible assumption) ?_)
   | split
   | (extract_lets)
   | (with_reducible apply Keeps.set_bist)
   | (dsimp only))

theorem execEnReadbackCheck_keeps {K : Nat} (high : BitVec 24) {s t : State} (hK : K &&& 94570886889626 = 0) (h : s.Stored)
    (e : execEnReadbackCheck high s = .next t) : Keeps K s t := by
  unfold execEnReadbackCheck at e
  have e := Host.Outcome.next.inj e
  subst e
  have h := Keeps.refl (K := K) h
  repeat' (first
   | (with_reducible assumption)
   | (with_reducible exact keeps_sub hK (by decide))
   | (with_reducible rfl)
   | (with_reducible refine Keeps.ite (fun _ => ?_) (fun _ => ?_))
   | (with_reducible apply State.enCheck_keeps)
   | (with_reducible refine Keeps.of_eq (by with_reducible assumption) ?_)
   | split
   | (extract_lets)
   | (dsimp only))

theorem State.toFirc_keeps {K : Nat} {s₀ s : State} (hK : K &&& 17179869232 = 0) (h : Keeps K s₀ s) :
    Keeps K s₀ (State.toFirc s) := by
  unfold State.toFirc
  (try extract_lets)
  repeat' (first
   | (with_reducible assumption)
   | (with_reducible exact keeps_sub hK (by decide))
   | (with_reducible rfl)
   | exact keeps_block hK 2 (by decide) (by decide)
   | (with_reducible refine Keeps.ite (fun _ => ?_) (fun _ => ?_))
   | (with_reducible apply State.setFlag_keeps)
   | (with_reducible refine Keeps.of_eq (by with_reducible assumption) ?_)
   | split
   | (extract_lets)
   | (with_reducible apply Keeps.set_dev_time)
   | (dsimp only))

theorem State.clockWindow_keeps {K : Nat} {s₀ s : State} (bad : Option (Fin 3)) (pllLost : Bool) (lpo : BitVec 16) (firc : BitVec 16) (hK : K &&& 94588066758842 = 0) (h : Keeps K s₀ s) :
    Keeps K s₀ (State.clockWindow s bad pllLost lpo firc) := by
  unfold State.clockWindow
  (try extract_lets)
  repeat' (first
   | (with_reducible assumption)
   | (with_reducible exact keeps_sub hK (by decide))
   | (with_reducible rfl)
   | exact keeps_block hK 14 (by decide) (by decide)
   | (with_reducible refine Keeps.ite (fun _ => ?_) (fun _ => ?_))
   | (with_reducible apply State.setReg_keeps)
   | (with_reducible apply State.toFirc_keeps)
   | (with_reducible apply State.classS_keeps)
   | (with_reducible refine Keeps.of_eq (by with_reducible assumption) ?_)
   | split
   | (extract_lets)
   | (with_reducible apply Keeps.set_bist)
   | (dsimp only))

theorem execClockMonitorWindow_keeps {K : Nat} (bad : Option (Fin 3)) (pllLost : Bool) (lpo : BitVec 16) (firc : BitVec 16) {s t : State} (hK : K &&& 94588066758842 = 0) (h : s.Stored)
    (e : execClockMonitorWindow bad pllLost lpo firc s = .next t) : Keeps K s t := by
  unfold execClockMonitorWindow at e
  have e := Host.Outcome.next.inj e
  subst e
  have h := Keeps.refl (K := K) h
  repeat' (first
   | (with_reducible assumption)
   | (with_reducible exact keeps_sub hK (by decide))
   | (with_reducible rfl)
   | (with_reducible refine Keeps.ite (fun _ => ?_) (fun _ => ?_))
   | (with_reducible apply State.clockWindow_keeps)
   | (with_reducible refine Keeps.of_eq (by with_reducible assumption) ?_)
   | split
   | (extract_lets)
   | (dsimp only))

theorem execSramEccError_keeps {K : Nat} (sheepdog : Bool) (multi : Bool) {s t : State} (hK : K &&& 94570886889626 = 0) (h : s.Stored)
    (e : execSramEccError sheepdog multi s = .next t) : Keeps K s t := by
  unfold execSramEccError at e
  have e := Host.Outcome.next.inj e
  subst e
  have h := Keeps.refl (K := K) h
  repeat' (first
   | (with_reducible assumption)
   | (with_reducible exact keeps_sub hK (by decide))
   | (with_reducible rfl)
   | exact keeps_block hK 14 (by decide) (by decide)
   | (with_reducible refine Keeps.ite (fun _ => ?_) (fun _ => ?_))
   | (with_reducible apply State.inc_keeps)
   | (with_reducible apply State.classS_keeps)
   | (with_reducible refine Keeps.of_eq (by with_reducible assumption) ?_)
   | split
   | (extract_lets)
   | (dsimp only))

theorem State.bistCntClr_keeps {K : Nat} {s₀ s : State} (v : Word) (hK : K &&& 70368744177664 = 0) (h : Keeps K s₀ s) :
    Keeps K s₀ (State.bistCntClr s v) := by
  unfold State.bistCntClr
  (try extract_lets)
  repeat' (first
   | (with_reducible assumption)
   | (with_reducible exact keeps_sub hK (by decide))
   | (with_reducible rfl)
   | (with_reducible refine Keeps.ite (fun _ => ?_) (fun _ => ?_))
   | (with_reducible refine State.clearBy_keeps _ _ 14 (by decide) (keeps_bit hK (by decide)) ?_)
   | (with_reducible refine Keeps.of_eq (by with_reducible assumption) ?_)
   | split
   | (extract_lets)
   | (dsimp only))

end Sys2Proof.Machine
end

