-- ==== Sys2Proof/Laws/KeepsRings.lean ====
section
/-! SUPPORT. What the operations and commands of Machine/Rings.lean leave unchanged: one lemma for each, its mask the parts it
may write. -/

set_option linter.all false

namespace Sys2Proof.Machine

theorem linkResetReg_block {a b : Nat} (hb : a / 4096 = b) (h0 : b ≠ 0) (h1 : b ≠ 11) (h2 : b ≠ 12) : linkResetReg a = false := by
  subst hb
  unfold linkResetReg
  simp only [Bool.or_eq_false_iff, Bool.and_eq_false_iff, decide_eq_false_iff_not, beq_eq_false_iff_ne, ne_eq]
  simp only [Reg.DEV_RRP_OFFER, Reg.DEV_RRP_ACCEPT, Reg.DEV_FEAT1, Reg.DEV_DB_BASE_LO, Reg.DEV_DB_BASE_HI, Reg.DEV_DB_CTRL]
  omega

theorem execFreeze_keeps {K : Nat} (cause : FreezeCause) {s t : State} (hK : K &&& 1048576 = 0) (h : s.Stored)
    (e : execFreeze cause s = .next t) : Keeps K s t := by
  unfold execFreeze at e
  have e := Host.Outcome.next.inj e
  subst e
  have h := Keeps.refl (K := K) h
  repeat' (first
   | (with_reducible assumption)
   | (with_reducible exact keeps_sub hK (by decide))
   | (with_reducible rfl)
   | (with_reducible refine Keeps.ite (fun _ => ?_) (fun _ => ?_))
   | (with_reducible refine Keeps.of_eq (by with_reducible assumption) ?_)
   | split
   | (extract_lets)
   | (with_reducible apply Keeps.set_ring)
   | (dsimp only))

theorem State.ctxClose_keeps {K : Nat} {s₀ s : State} (c : Fin 32) (hK : K &&& 26388280115592 = 0) (h : Keeps K s₀ s) :
    Keeps K s₀ (State.ctxClose s c) := by
  unfold State.ctxClose
  (try extract_lets)
  repeat' (first
   | (with_reducible assumption)
   | (with_reducible exact keeps_sub hK (by decide))
   | (with_reducible rfl)
   | (with_reducible refine Keeps.ite (fun _ => ?_) (fun _ => ?_))
   | (with_reducible apply State.dropDest_keeps)
   | (with_reducible apply State.idleCheck_keeps)
   | (with_reducible apply State.abortAll_keeps)
   | (with_reducible apply State.modCtx_keeps)
   | (with_reducible refine Keeps.of_eq (by with_reducible assumption) ?_)
   | split
   | (extract_lets)
   | (dsimp only))

theorem State.deliver_keeps {K : Nat} {s₀ s : State} (v : Fin 34) (hK : K &&& 26388279066632 = 0) (h : Keeps K s₀ s) :
    Keeps K s₀ (State.deliver s v) := by
  unfold State.deliver
  refine Keeps.ite (fun _ => State.message_keeps _ (keeps_sub hK (by decide)) (State.countIrq_keeps _ v.isLt
    (keeps_sub hK (by decide)) (Keeps.ite (fun _ => ?_) (fun _ => ?_)))) (fun _ => h)
  · exact State.setFlag_keeps _ _ (keeps_block hK 12 (by decide) (by decide)) h
  · exact State.setFlag_keeps _ _ (keeps_block hK 12 (by decide) (by decide)) h

theorem State.closeLate_keeps {K : Nat} {s₀ s : State} (c : Fin 32) (hK : K &&& 26392575082888 = 0) (h : Keeps K s₀ s) :
    Keeps K s₀ (State.closeLate s c) := by
  unfold State.closeLate
  (try extract_lets)
  repeat' (first
   | (with_reducible assumption)
   | (with_reducible exact keeps_sub hK (by decide))
   | (with_reducible rfl)
   | (with_reducible refine Keeps.ite (fun _ => ?_) (fun _ => ?_))
   | (with_reducible apply State.ctxClose_keeps)
   | (with_reducible apply State.ctxFail_keeps)
   | (with_reducible refine Keeps.of_eq (by with_reducible assumption) ?_)
   | split
   | (extract_lets)
   | (dsimp only))

theorem State.thaw_keeps {K : Nat} {s₀ s : State} (hK : K &&& 26392575082888 = 0) (h : Keeps K s₀ s) :
    Keeps K s₀ (State.thaw s) := by
  unfold State.thaw
  (try extract_lets)
  repeat' (first
   | (with_reducible assumption)
   | (with_reducible exact keeps_sub hK (by decide))
   | (with_reducible rfl)
   | (with_reducible refine Keeps.ite (fun _ => ?_) (fun _ => ?_))
   | (with_reducible apply State.writeStateWord_keeps)
   | (with_reducible apply State.closeLate_keeps)
   | (with_reducible apply State.flushWaiting_keeps)
   | (with_reducible apply State.deliver_keeps)
   | (with_reducible refine Keeps.foldl _ _ (fun s x h => ?_) ?_)
   | (with_reducible refine Keeps.foldl_fst _ _ (fun s x h => ?_) ?_)
   | (with_reducible refine Keeps.of_eq (by with_reducible assumption) ?_)
   | split
   | (extract_lets)
   | (with_reducible apply Keeps.set_ring)
   | (dsimp only))

theorem execFreezeEnd_keeps {K : Nat} (cause : FreezeCause) (cfg : PcieCfg) {s t : State} (hK : K &&& 26409755476360 = 0) (h : s.Stored)
    (e : execFreezeEnd cause cfg s = .next t) : Keeps K s t := by
  unfold execFreezeEnd at e
  have e := Host.Outcome.next.inj e
  subst e
  have h := Keeps.refl (K := K) h
  repeat' (first
   | (with_reducible assumption)
   | (with_reducible exact keeps_sub hK (by decide))
   | (with_reducible rfl)
   | exact keeps_block hK 2 (by decide) (by decide)
   | (with_reducible refine Keeps.ite (fun _ => ?_) (fun _ => ?_))
   | (with_reducible apply State.setFlag_keeps)
   | (with_reducible apply State.thaw_keeps)
   | (with_reducible refine Keeps.of_eq (by with_reducible assumption) ?_)
   | split
   | (extract_lets)
   | (with_reducible apply Keeps.set_pmc_ring)
   | (with_reducible apply Keeps.set_ring)
   | (dsimp only))

theorem State.writeOffer_keeps {K : Nat} {s₀ s : State} (v : Word) (hK : K &&& 17596481011720 = 0) (h : Keeps K s₀ s) :
    Keeps K s₀ (State.writeOffer s v) := by
  unfold State.writeOffer
  (try extract_lets)
  repeat' (first
   | (with_reducible assumption)
   | (with_reducible exact keeps_sub hK (by decide))
   | (with_reducible rfl)
   | exact keeps_block hK 0 (by decide) (by decide)
   | (with_reducible refine Keeps.ite (fun _ => ?_) (fun _ => ?_))
   | (with_reducible apply State.setReg_keeps)
   | (with_reducible apply State.setFlag_keeps)
   | (with_reducible apply State.setFld_keeps)
   | (with_reducible apply State.ringErr_keeps)
   | (with_reducible refine Keeps.of_eq (by with_reducible assumption) ?_)
   | split
   | (extract_lets)
   | (dsimp only))

theorem State.writeFeat1_keeps {K : Nat} {s₀ s : State} (v : Word) (hK : K &&& 4294967296 = 0) (h : Keeps K s₀ s) :
    Keeps K s₀ (State.writeFeat1 s v) := by
  unfold State.writeFeat1
  (try extract_lets)
  repeat' (first
   | (with_reducible assumption)
   | (with_reducible exact keeps_sub hK (by decide))
   | (with_reducible rfl)
   | exact keeps_block hK 0 (by decide) (by decide)
   | (with_reducible refine Keeps.ite (fun _ => ?_) (fun _ => ?_))
   | (with_reducible apply State.setReg_keeps)
   | (with_reducible refine Keeps.of_eq (by with_reducible assumption) ?_)
   | split
   | (extract_lets)
   | (dsimp only))

theorem State.enableCtx_keeps {K : Nat} {s₀ s : State} (c : Fin 32) (hK : K &&& 8800389038088 = 0) (h : Keeps K s₀ s) :
    Keeps K s₀ (State.enableCtx s c) := by
  unfold State.enableCtx
  (try extract_lets)
  repeat' (first
   | (with_reducible assumption)
   | (with_reducible exact keeps_sub hK (by decide))
   | (with_reducible rfl)
   | exact keeps_block hK 0 (by decide) (by decide)
   | exact keeps_block hK 11 (by decide) (by decide)
   | exact keeps_block hK 11 (by simp only [Reg.RING_CTX_CFG]; omega) (by decide)
   | (with_reducible refine Keeps.ite (fun _ => ?_) (fun _ => ?_))
   | (with_reducible apply State.enterPolling_keeps)
   | (with_reducible apply State.setFlag_keeps)
   | (with_reducible apply State.inc_keeps)
   | (with_reducible apply State.modCtx_keeps)
   | (with_reducible refine Keeps.of_eq (by with_reducible assumption) ?_)
   | split
   | (extract_lets)
   | (dsimp only))

theorem execContextChecksDone_keeps {K : Nat} (c : Fin 32) (slotTail : BitVec 16) (slotHead : BitVec 16) {s t : State} (hK : K &&& 26392575082888 = 0) (h : s.Stored)
    (e : execContextChecksDone c slotTail slotHead s = .next t) : Keeps K s t := by
  unfold execContextChecksDone at e
  have e := Host.Outcome.next.inj e
  subst e
  have h := Keeps.refl (K := K) h
  repeat' (first
   | (with_reducible assumption)
   | (with_reducible exact keeps_sub hK (by decide))
   | (with_reducible rfl)
   | exact keeps_block hK 11 (by decide) (by decide)
   | exact keeps_block hK 11 (by simp only [Reg.RING_CTX_LOST]; omega) (by decide)
   | (with_reducible refine Keeps.ite (fun _ => ?_) (fun _ => ?_))
   | (with_reducible apply State.enterPolling_keeps)
   | (with_reducible apply State.setReg_keeps)
   | (with_reducible apply State.ctxFail_keeps)
   | (with_reducible apply State.modCtx_keeps)
   | (with_reducible refine Keeps.of_eq (by with_reducible assumption) ?_)
   | split
   | (extract_lets)
   | (dsimp only))

theorem State.disableCtx_keeps {K : Nat} {s₀ s : State} (c : Fin 32) (hK : K &&& 26388280115592 = 0) (h : Keeps K s₀ s) :
    Keeps K s₀ (State.disableCtx s c) := by
  unfold State.disableCtx
  (try extract_lets)
  repeat' (first
   | (with_reducible assumption)
   | (with_reducible exact keeps_sub hK (by decide))
   | (with_reducible rfl)
   | exact keeps_block hK 11 (by decide) (by decide)
   | exact keeps_block hK 11 (by simp only [Reg.RING_CTX_CFG]; omega) (by decide)
   | (with_reducible refine Keeps.ite (fun _ => ?_) (fun _ => ?_))
   | (with_reducible apply State.setFlag_keeps)
   | (with_reducible apply State.ctxClose_keeps)
   | (with_reducible apply State.modCtx_keeps)
   | (with_reducible refine Keeps.of_eq (by with_reducible assumption) ?_)
   | split
   | (extract_lets)
   | (dsimp only))

theorem State.writeEpoch_keeps {K : Nat} {s₀ s : State} (c : Fin 32) (v : Word) (hK : K &&& 8796094070784 = 0) (h : Keeps K s₀ s) :
    Keeps K s₀ (State.writeEpoch s c v) := by
  unfold State.writeEpoch
  (try extract_lets)
  repeat' (first
   | (with_reducible assumption)
   | (with_reducible exact keeps_sub hK (by decide))
   | (with_reducible rfl)
   | exact keeps_block hK 11 (by decide) (by decide)
   | exact keeps_block hK 11 (by simp only [Reg.RING_CTX_EPOCH]; omega) (by decide)
   | (with_reducible refine Keeps.ite (fun _ => ?_) (fun _ => ?_))
   | (with_reducible apply State.setFld_keeps)
   | (with_reducible apply State.modCtx_keeps)
   | (with_reducible refine Keeps.of_eq (by with_reducible assumption) ?_)
   | split
   | (extract_lets)
   | (dsimp only))

theorem State.writeDbLo_keeps {K : Nat} {s₀ s : State} (v : Word) (hK : K &&& 17596481011720 = 0) (h : Keeps K s₀ s) :
    Keeps K s₀ (State.writeDbLo s v) := by
  unfold State.writeDbLo
  (try extract_lets)
  repeat' (first
   | (with_reducible assumption)
   | (with_reducible exact keeps_sub hK (by decide))
   | (with_reducible rfl)
   | exact keeps_block hK 0 (by decide) (by decide)
   | (with_reducible refine Keeps.ite (fun _ => ?_) (fun _ => ?_))
   | (with_reducible apply State.setReg_keeps)
   | (with_reducible apply State.ringErr_keeps)
   | (with_reducible refine Keeps.of_eq (by with_reducible assumption) ?_)
   | split
   | (extract_lets)
   | (dsimp only))

theorem State.writeDbHi_keeps {K : Nat} {s₀ s : State} (v : Word) (hK : K &&& 17596482060296 = 0) (h : Keeps K s₀ s) :
    Keeps K s₀ (State.writeDbHi s v) := by
  unfold State.writeDbHi
  (try extract_lets)
  repeat' (first
   | (with_reducible assumption)
   | (with_reducible exact keeps_sub hK (by decide))
   | (with_reducible rfl)
   | exact keeps_block hK 0 (by decide) (by decide)
   | (with_reducible refine Keeps.ite (fun _ => ?_) (fun _ => ?_))
   | (with_reducible apply State.enterPolling_keeps)
   | (with_reducible apply State.setReg_keeps)
   | (with_reducible apply State.ringErr_keeps)
   | (with_reducible apply State.writeStateWord_keeps)
   | (with_reducible refine Keeps.of_eq (by with_reducible assumption) ?_)
   | split
   | (extract_lets)
   | (with_reducible apply Keeps.set_ring)
   | (dsimp only))

theorem State.writeDbCtrl_keeps {K : Nat} {s₀ s : State} (v : Word) (hK : K &&& 4294967296 = 0) (h : Keeps K s₀ s) :
    Keeps K s₀ (State.writeDbCtrl s v) := by
  unfold State.writeDbCtrl
  (try extract_lets)
  repeat' (first
   | (with_reducible assumption)
   | (with_reducible exact keeps_sub hK (by decide))
   | (with_reducible rfl)
   | exact keeps_block hK 0 (by decide) (by decide)
   | (with_reducible refine Keeps.ite (fun _ => ?_) (fun _ => ?_))
   | (with_reducible apply State.setReg_keeps)
   | (with_reducible apply State.setFld_keeps)
   | (with_reducible refine Keeps.of_eq (by with_reducible assumption) ?_)
   | split
   | (extract_lets)
   | (dsimp only))

theorem State.endTurn_keeps {K : Nat} {s₀ s : State} (hK : K &&& 1048576 = 0) (h : Keeps K s₀ s) :
    Keeps K s₀ (State.endTurn s) := by
  unfold State.endTurn
  (try extract_lets)
  repeat' (first
   | (with_reducible assumption)
   | (with_reducible exact keeps_sub hK (by decide))
   | (with_reducible rfl)
   | (with_reducible refine Keeps.ite (fun _ => ?_) (fun _ => ?_))
   | (with_reducible refine Keeps.of_eq (by with_reducible assumption) ?_)
   | split
   | (extract_lets)
   | (with_reducible apply Keeps.set_ring)
   | (dsimp only))

theorem State.updateStall_keeps {K : Nat} {s₀ s : State} (c : Fin 32) (hK : K &&& 1048576 = 0) (h : Keeps K s₀ s) :
    Keeps K s₀ (State.updateStall s c) := by
  unfold State.updateStall
  (try extract_lets)
  repeat' (first
   | (with_reducible assumption)
   | (with_reducible exact keeps_sub hK (by decide))
   | (with_reducible rfl)
   | (with_reducible refine Keeps.ite (fun _ => ?_) (fun _ => ?_))
   | (with_reducible apply State.modCtx_keeps)
   | (with_reducible refine Keeps.of_eq (by with_reducible assumption) ?_)
   | split
   | (extract_lets)
   | (dsimp only))

theorem State.readSlot_keeps {K : Nat} {s₀ s : State} (c : Fin 32) (sl : Slot) (hK : K &&& 26392575082888 = 0) (h : Keeps K s₀ s) :
    Keeps K s₀ (State.readSlot s c sl).1 := by
  unfold State.readSlot
  (try extract_lets)
  repeat' (first
   | (with_reducible assumption)
   | (with_reducible exact keeps_sub hK (by decide))
   | (with_reducible rfl)
   | (with_reducible refine Keeps.ite (fun _ => ?_) (fun _ => ?_))
   | (with_reducible apply State.updateStall_keeps)
   | (with_reducible apply State.ringFlushLost_keeps)
   | (with_reducible apply State.ctxFail_keeps)
   | (with_reducible apply State.modCtx_keeps)
   | (with_reducible refine Keeps.of_eq (by with_reducible assumption) ?_)
   | split
   | (extract_lets)
   | (dsimp only))

theorem State.readSlots_keeps {K : Nat} {s₀ s : State} (slots : Vector Slot 32) (hK : K &&& 26392575082888 = 0) (h : Keeps K s₀ s) :
    Keeps K s₀ (State.readSlots s slots).1 := by
  unfold State.readSlots
  (try extract_lets)
  repeat' (first
   | (with_reducible assumption)
   | (with_reducible exact keeps_sub hK (by decide))
   | (with_reducible rfl)
   | (with_reducible refine Keeps.ite (fun _ => ?_) (fun _ => ?_))
   | (with_reducible apply State.readSlot_keeps)
   | (with_reducible refine Keeps.foldl _ _ (fun s x h => ?_) ?_)
   | (with_reducible refine Keeps.foldl_fst _ _ (fun s x h => ?_) ?_)
   | (with_reducible refine Keeps.of_eq (by with_reducible assumption) ?_)
   | split
   | (extract_lets)
   | (dsimp only))

theorem State.readLost_keeps {K : Nat} {s₀ s : State} (slots : Vector Slot 32) (hK : K &&& 26392575082888 = 0) (h : Keeps K s₀ s) :
    Keeps K s₀ (State.readLost s slots) := by
  unfold State.readLost
  (try extract_lets)
  repeat' (first
   | (with_reducible assumption)
   | (with_reducible exact keeps_sub hK (by decide))
   | (with_reducible rfl)
   | (with_reducible refine Keeps.ite (fun _ => ?_) (fun _ => ?_))
   | (with_reducible apply State.readSlot_keeps)
   | (with_reducible refine Keeps.foldl _ _ (fun s x h => ?_) ?_)
   | (with_reducible refine Keeps.foldl_fst _ _ (fun s x h => ?_) ?_)
   | (with_reducible refine Keeps.of_eq (by with_reducible assumption) ?_)
   | split
   | (extract_lets)
   | (dsimp only))

theorem execDoorbellPoll_keeps {K : Nat} (slots : Vector Slot 32) {s t : State} (hK : K &&& 26392575082888 = 0) (h : s.Stored)
    (e : execDoorbellPoll slots s = .next t) : Keeps K s t := by
  unfold execDoorbellPoll at e
  have e := Host.Outcome.next.inj e
  subst e
  have h := Keeps.refl (K := K) h
  repeat' (first
   | (with_reducible assumption)
   | (with_reducible exact keeps_sub hK (by decide))
   | (with_reducible rfl)
   | (with_reducible refine Keeps.ite (fun _ => ?_) (fun _ => ?_))
   | (with_reducible apply State.endTurn_keeps)
   | (with_reducible apply State.readLost_keeps)
   | (with_reducible apply State.readSlots_keeps)
   | (with_reducible apply State.setInterval_keeps)
   | (with_reducible refine Keeps.of_eq (by with_reducible assumption) ?_)
   | split
   | (extract_lets)
   | (with_reducible apply Keeps.set_ring)
   | (dsimp only))

theorem State.advanceSq_keeps {K : Nat} {s₀ s : State} (c : Fin 32) (hK : K &&& 1048584 = 0) (h : Keeps K s₀ s) :
    Keeps K s₀ (State.advanceSq s c) := by
  unfold State.advanceSq
  (try extract_lets)
  repeat' (first
   | (with_reducible assumption)
   | (with_reducible exact keeps_sub hK (by decide))
   | (with_reducible rfl)
   | (with_reducible refine Keeps.ite (fun _ => ?_) (fun _ => ?_))
   | (with_reducible apply State.hostWrite_keeps)
   | (with_reducible apply State.modCtx_keeps)
   | (with_reducible refine Keeps.of_eq (by with_reducible assumption) ?_)
   | split
   | (extract_lets)
   | (dsimp only))

theorem State.fetch_keeps {K : Nat} {s₀ s : State} (c : Fin 32) (b : List Byte) (hK : K &&& 26388280115464 = 0) (h : Keeps K s₀ s) :
    Keeps K s₀ (State.fetch s c b) := by
  unfold State.fetch
  (try extract_lets)
  repeat' (first
   | (with_reducible assumption)
   | (with_reducible exact keeps_sub hK (by decide))
   | (with_reducible rfl)
   | exact keeps_block hK 11 (by decide) (by decide)
   | exact keeps_block hK 11 (by simp only [Reg.RING_CTX_CNT]; omega) (by decide)
   | (with_reducible refine Keeps.ite (fun _ => ?_) (fun _ => ?_))
   | (with_reducible apply State.updateStall_keeps)
   | (with_reducible apply State.cqPut_keeps)
   | (with_reducible apply State.advanceSq_keeps)
   | (with_reducible apply State.inc_keeps)
   | (with_reducible refine Keeps.of_eq (by with_reducible assumption) ?_)
   | split
   | (extract_lets)
   | (with_reducible apply Keeps.set_reqs)
   | (with_reducible apply Keeps.set_ring)
   | (dsimp only))

theorem execDescriptorFetch_keeps {K : Nat} (c : Fin 32) (bytes : Vector Byte 64) {s t : State} (hK : K &&& 26388280115464 = 0) (h : s.Stored)
    (e : execDescriptorFetch c bytes s = .next t) : Keeps K s t := by
  unfold execDescriptorFetch at e
  have e := Host.Outcome.next.inj e
  subst e
  have h := Keeps.refl (K := K) h
  repeat' (first
   | (with_reducible assumption)
   | (with_reducible exact keeps_sub hK (by decide))
   | (with_reducible rfl)
   | (with_reducible refine Keeps.ite (fun _ => ?_) (fun _ => ?_))
   | (with_reducible apply State.fetch_keeps)
   | (with_reducible refine Keeps.of_eq (by with_reducible assumption) ?_)
   | split
   | (extract_lets)
   | (dsimp only))

theorem State.stopEngine_keeps {K : Nat} {s₀ s : State} (hK : K &&& 17596482060296 = 0) (h : Keeps K s₀ s) :
    Keeps K s₀ (State.stopEngine s) := by
  unfold State.stopEngine
  (try extract_lets)
  repeat' (first
   | (with_reducible assumption)
   | (with_reducible exact keeps_sub hK (by decide))
   | (with_reducible rfl)
   | (with_reducible refine Keeps.ite (fun _ => ?_) (fun _ => ?_))
   | (with_reducible apply State.ringErr_keeps)
   | (with_reducible refine Keeps.of_eq (by with_reducible assumption) ?_)
   | split
   | (extract_lets)
   | (with_reducible apply Keeps.set_ring)
   | (dsimp only))

theorem execMemoryReadFail_keeps {K : Nat} (what : FailedRead) {s t : State} (hK : K &&& 26392575082888 = 0) (h : s.Stored)
    (e : execMemoryReadFail what s = .next t) : Keeps K s t := by
  unfold execMemoryReadFail at e
  have e := Host.Outcome.next.inj e
  subst e
  have h := Keeps.refl (K := K) h
  repeat' (first
   | (with_reducible assumption)
   | (with_reducible exact keeps_sub hK (by decide))
   | (with_reducible rfl)
   | (with_reducible refine Keeps.ite (fun _ => ?_) (fun _ => ?_))
   | (with_reducible apply State.ctxFail_keeps)
   | (with_reducible apply State.stopEngine_keeps)
   | (with_reducible apply State.modCtx_keeps)
   | (with_reducible refine Keeps.of_eq (by with_reducible assumption) ?_)
   | split
   | (extract_lets)
   | (dsimp only))

theorem State.dozeStep1_keeps {K : Nat} {s₀ s : State} (hK : K &&& 1048584 = 0) (h : Keeps K s₀ s) :
    Keeps K s₀ (State.dozeStep1 s) := by
  unfold State.dozeStep1
  (try extract_lets)
  repeat' (first
   | (with_reducible assumption)
   | (with_reducible exact keeps_sub hK (by decide))
   | (with_reducible rfl)
   | (with_reducible refine Keeps.ite (fun _ => ?_) (fun _ => ?_))
   | (with_reducible apply State.sendLtr_keeps)
   | (with_reducible apply State.writeStateWord_keeps)
   | (with_reducible refine Keeps.of_eq (by with_reducible assumption) ?_)
   | split
   | (extract_lets)
   | (with_reducible apply Keeps.set_ring)
   | (dsimp only))

theorem execDozeEntry_keeps {K : Nat} {s t : State} (hK : K &&& 1048584 = 0) (h : s.Stored)
    (e : execDozeEntry s = .next t) : Keeps K s t := by
  unfold execDozeEntry at e
  have e := Host.Outcome.next.inj e
  subst e
  have h := Keeps.refl (K := K) h
  repeat' (first
   | (with_reducible assumption)
   | (with_reducible exact keeps_sub hK (by decide))
   | (with_reducible rfl)
   | (with_reducible refine Keeps.ite (fun _ => ?_) (fun _ => ?_))
   | (with_reducible apply State.dozeStep1_keeps)
   | (with_reducible refine Keeps.of_eq (by with_reducible assumption) ?_)
   | split
   | (extract_lets)
   | (dsimp only))

theorem execDozeReadback_keeps {K : Nat} (slots : Vector Slot 32) {s t : State} (hK : K &&& 26392575082888 = 0) (h : s.Stored)
    (e : execDozeReadback slots s = .next t) : Keeps K s t := by
  unfold execDozeReadback at e
  have e := Host.Outcome.next.inj e
  subst e
  have h := Keeps.refl (K := K) h
  repeat' (first
   | (with_reducible assumption)
   | (with_reducible exact keeps_sub hK (by decide))
   | (with_reducible rfl)
   | exact keeps_block hK 0 (by decide) (by decide)
   | (with_reducible refine Keeps.ite (fun _ => ?_) (fun _ => ?_))
   | (with_reducible apply State.enterPolling_keeps)
   | (with_reducible apply State.sendLtr_keeps)
   | (with_reducible apply State.readSlots_keeps)
   | (with_reducible apply State.inc_keeps)
   | (with_reducible refine Keeps.of_eq (by with_reducible assumption) ?_)
   | split
   | (extract_lets)
   | (with_reducible apply Keeps.set_ring)
   | (dsimp only))

theorem State.nudge_keeps {K : Nat} {s₀ s : State} (hK : K &&& 4296015880 = 0) (h : Keeps K s₀ s) :
    Keeps K s₀ (State.nudge s) := by
  unfold State.nudge
  (try extract_lets)
  repeat' (first
   | (with_reducible assumption)
   | (with_reducible exact keeps_sub hK (by decide))
   | (with_reducible rfl)
   | exact keeps_block hK 0 (by decide) (by decide)
   | (with_reducible refine Keeps.ite (fun _ => ?_) (fun _ => ?_))
   | (with_reducible apply State.enterPolling_keeps)
   | (with_reducible apply State.inc_keeps)
   | (with_reducible apply State.setInterval_keeps)
   | (with_reducible refine Keeps.of_eq (by with_reducible assumption) ?_)
   | split
   | (extract_lets)
   | (dsimp only))

theorem State.offerCtx_keeps {K : Nat} {s₀ s : State} (c : Fin 32) (head : Nat) (hK : K &&& 26392575082888 = 0) (h : Keeps K s₀ s) :
    Keeps K s₀ (State.offerCtx s c head) := by
  unfold State.offerCtx
  (try extract_lets)
  repeat' (first
   | (with_reducible assumption)
   | (with_reducible exact keeps_sub hK (by decide))
   | (with_reducible rfl)
   | (with_reducible refine Keeps.ite (fun _ => ?_) (fun _ => ?_))
   | (with_reducible apply State.served_keeps)
   | (with_reducible apply State.ctxFail_keeps)
   | (with_reducible apply State.modCtx_keeps)
   | (with_reducible apply State.ringOffer_keeps)
   | (with_reducible refine Keeps.of_eq (by with_reducible assumption) ?_)
   | split
   | (extract_lets)
   | (dsimp only))

theorem State.offerPort_keeps {K : Nat} {s₀ s : State} (p' : Fin 4) (hK : K &&& 2097280 = 0) (h : Keeps K s₀ s) :
    Keeps K s₀ (State.offerPort s p') := by
  unfold State.offerPort
  (try extract_lets)
  repeat' (first
   | (with_reducible assumption)
   | (with_reducible exact keeps_sub hK (by decide))
   | (with_reducible rfl)
   | (with_reducible refine Keeps.ite (fun _ => ?_) (fun _ => ?_))
   | (with_reducible apply State.modPort_keeps)
   | (with_reducible apply State.served_keeps)
   | (with_reducible refine Keeps.of_eq (by with_reducible assumption) ?_)
   | split
   | (extract_lets)
   | (dsimp only))

theorem execStreamRecordOffer_keeps {K : Nat} (d : Dest) (rereadHead : BitVec 16) {s t : State} (hK : K &&& 26392577180040 = 0) (h : s.Stored)
    (e : execStreamRecordOffer d rereadHead s = .next t) : Keeps K s t := by
  unfold execStreamRecordOffer at e
  have e := Host.Outcome.next.inj e
  subst e
  have h := Keeps.refl (K := K) h
  repeat' (first
   | (with_reducible assumption)
   | (with_reducible exact keeps_sub hK (by decide))
   | (with_reducible rfl)
   | (with_reducible refine Keeps.ite (fun _ => ?_) (fun _ => ?_))
   | (with_reducible apply State.offerCtx_keeps)
   | (with_reducible apply State.offerPort_keeps)
   | (with_reducible refine Keeps.of_eq (by with_reducible assumption) ?_)
   | split
   | (extract_lets)
   | (dsimp only))

theorem State.holdTimeout_keeps {K : Nat} {s₀ s : State} (hK : K &&& 8796096168064 = 0) (h : Keeps K s₀ s) :
    Keeps K s₀ (State.holdTimeout s) := by
  unfold State.holdTimeout
  (try extract_lets)
  repeat' (first
   | (with_reducible assumption)
   | (with_reducible exact keeps_sub hK (by decide))
   | (with_reducible rfl)
   | (with_reducible refine Keeps.ite (fun _ => ?_) (fun _ => ?_))
   | (with_reducible apply State.dropRecord_keeps)
   | (with_reducible refine Keeps.of_eq (by with_reducible assumption) ?_)
   | split
   | (extract_lets)
   | (with_reducible apply Keeps.set_fabric)
   | (dsimp only))

theorem execFabricHoldTimeout_keeps {K : Nat} {s t : State} (hK : K &&& 8796096168064 = 0) (h : s.Stored)
    (e : execFabricHoldTimeout s = .next t) : Keeps K s t := by
  unfold execFabricHoldTimeout at e
  have e := Host.Outcome.next.inj e
  subst e
  have h := Keeps.refl (K := K) h
  repeat' (first
   | (with_reducible assumption)
   | (with_reducible exact keeps_sub hK (by decide))
   | (with_reducible rfl)
   | (with_reducible refine Keeps.ite (fun _ => ?_) (fun _ => ?_))
   | (with_reducible apply State.holdTimeout_keeps)
   | (with_reducible refine Keeps.of_eq (by with_reducible assumption) ?_)
   | split
   | (extract_lets)
   | (dsimp only))

theorem execCoalesceTimeout_keeps {K : Nat} (c : Fin 32) {s t : State} (hK : K &&& 26388280115208 = 0) (h : s.Stored)
    (e : execCoalesceTimeout c s = .next t) : Keeps K s t := by
  unfold execCoalesceTimeout at e
  have e := Host.Outcome.next.inj e
  subst e
  have h := Keeps.refl (K := K) h
  repeat' (first
   | (with_reducible assumption)
   | (with_reducible exact keeps_sub hK (by decide))
   | (with_reducible rfl)
   | (with_reducible refine Keeps.ite (fun _ => ?_) (fun _ => ?_))
   | (with_reducible apply State.ctxMessage_keeps)
   | (with_reducible refine Keeps.of_eq (by with_reducible assumption) ?_)
   | split
   | (extract_lets)
   | (dsimp only))

theorem State.unmask_keeps {K : Nat} {s₀ s : State} (v : Fin 34) (hK : K &&& 26388279066632 = 0) (h : Keeps K s₀ s) :
    Keeps K s₀ (State.unmask s v) :=
  State.deliver_keeps v (keeps_sub hK (by decide)) (State.setFlag_keeps _ _ (keeps_block hK 12
    (by simp only [Reg.MSIX_VCTRL]; omega) (by decide)) h)

theorem State.linkReset_keeps {K : Nat} {s₀ s : State} (hK : K &&& 26409754952064 = 0) (h : Keeps K s₀ s) :
    Keeps K s₀ (State.linkReset s) := by
  unfold State.linkReset
  refine State.setFlag_keeps _ _ (keeps_block hK 2 (by decide) (by decide)) ?_
  refine Keeps.foldl _ _ (fun s c h => State.dropDest_keeps _ (keeps_sub hK (by decide)) h) ?_
  refine ⟨⟨sparseFilter_wf _ h.stored.regs, h.stored.host, h.stored.lines⟩, h.pending, fun p hk => ?_⟩
  refine State.samePart_trans (h.part p hk) ?_
  cases p
  case block b =>
    intro a ha
    refine sparseGet_filter (p := fun a => !linkResetReg a) ?_ h.stored.regs
    have no (i : Nat) (hi : i = 0 ∨ i = 11 ∨ i = 12) : b.val ≠ i := by
      intro e
      have hk' : K.testBit (32 + b.val) = true := hk
      rw [e] at hk'
      rcases hi with rfl | rfl | rfl <;> exact keeps_no hK (by decide) hk'
    show (!linkResetReg a) = true
    rw [linkResetReg_block ha (no 0 (by omega)) (no 11 (by omega)) (no 12 (by omega))]
    rfl
  all_goals first | exact keeps_no hK (by decide) hk | exact rfl

theorem State.perstReset_keeps {K : Nat} {s₀ s : State} (hK : K &&& 26409754952096 = 0) (h : Keeps K s₀ s) :
    Keeps K s₀ (State.perstReset s) := by
  unfold State.perstReset
  (try extract_lets)
  repeat' (first
   | (with_reducible assumption)
   | (with_reducible exact keeps_sub hK (by decide))
   | (with_reducible rfl)
   | exact keeps_block hK 2 (by decide) (by decide)
   | (with_reducible refine Keeps.ite (fun _ => ?_) (fun _ => ?_))
   | (with_reducible apply State.setFlag_keeps)
   | (with_reducible apply State.linkReset_keeps)
   | (with_reducible refine Keeps.of_eq (by with_reducible assumption) ?_)
   | split
   | (extract_lets)
   | (with_reducible apply Keeps.set_time)
   | (dsimp only))

theorem State.ringCntClr_keeps {K : Nat} {s₀ s : State} (v : Word) (hK : K &&& 4294967296 = 0) (h : Keeps K s₀ s) :
    Keeps K s₀ (State.ringCntClr s v) := by
  unfold State.ringCntClr
  (try extract_lets)
  repeat' (first
   | (with_reducible assumption)
   | (with_reducible exact keeps_sub hK (by decide))
   | (with_reducible rfl)
   | (with_reducible refine Keeps.ite (fun _ => ?_) (fun _ => ?_))
   | (with_reducible refine State.clearBy_keeps _ _ 0 (by decide) (keeps_bit hK (by decide)) ?_)
   | (with_reducible refine Keeps.of_eq (by with_reducible assumption) ?_)
   | split
   | (extract_lets)
   | (dsimp only))

end Sys2Proof.Machine
end

