-- ==== Sys2Proof/Laws/KeepsMailbox.lean ====
section
/-! SUPPORT. What the operations and commands of Machine/Mailbox.lean leave unchanged: one lemma for each, its mask the parts it
may write. -/

set_option linter.all false

namespace Sys2Proof.Machine

theorem State.portGo_keeps {K : Nat} {s₀ s : State} (p' : Fin 4) (hK : K &&& 2097408 = 0) (h : Keeps K s₀ s) :
    Keeps K s₀ (State.portGo s p') := by
  unfold State.portGo
  (try extract_lets)
  repeat' (first
   | (with_reducible assumption)
   | (with_reducible exact keeps_sub hK (by decide))
   | (with_reducible rfl)
   | (with_reducible refine Keeps.ite (fun _ => ?_) (fun _ => ?_))
   | (with_reducible apply State.modPort_keeps)
   | (with_reducible refine Keeps.of_eq (by with_reducible assumption) ?_)
   | split
   | (extract_lets)
   | (with_reducible apply Keeps.set_reqs)
   | (dsimp only))

theorem State.portDone_keeps {K : Nat} {s₀ s : State} (p' : Fin 4) (hK : K &&& 2097152 = 0) (h : Keeps K s₀ s) :
    Keeps K s₀ (State.portDone s p') := by
  unfold State.portDone
  (try extract_lets)
  repeat' (first
   | (with_reducible assumption)
   | (with_reducible exact keeps_sub hK (by decide))
   | (with_reducible rfl)
   | (with_reducible refine Keeps.ite (fun _ => ?_) (fun _ => ?_))
   | (with_reducible apply State.modPort_keeps)
   | (with_reducible refine Keeps.of_eq (by with_reducible assumption) ?_)
   | split
   | (extract_lets)
   | (dsimp only))

theorem State.portPop_keeps {K : Nat} {s₀ s : State} (p' : Fin 4) (hK : K &&& 2097152 = 0) (h : Keeps K s₀ s) :
    Keeps K s₀ (State.portPop s p') := by
  unfold State.portPop
  (try extract_lets)
  repeat' (first
   | (with_reducible assumption)
   | (with_reducible exact keeps_sub hK (by decide))
   | (with_reducible rfl)
   | (with_reducible refine Keeps.ite (fun _ => ?_) (fun _ => ?_))
   | (with_reducible apply State.modPort_keeps)
   | (with_reducible refine Keeps.of_eq (by with_reducible assumption) ?_)
   | split
   | (extract_lets)
   | (dsimp only))

theorem State.controlWrite_keeps {K : Nat} {s₀ s : State} (p' : Fin 4) (b : Byte) (hK : K &&& 2097408 = 0) (h : Keeps K s₀ s) :
    Keeps K s₀ (State.controlWrite s p' b) := by
  unfold State.controlWrite
  (try extract_lets)
  repeat' (first
   | (with_reducible assumption)
   | (with_reducible exact keeps_sub hK (by decide))
   | (with_reducible rfl)
   | (with_reducible refine Keeps.ite (fun _ => ?_) (fun _ => ?_))
   | (with_reducible apply State.modPort_keeps)
   | (with_reducible apply State.portDone_keeps)
   | (with_reducible apply State.portGo_keeps)
   | (with_reducible apply State.portPop_keeps)
   | (with_reducible refine Keeps.of_eq (by with_reducible assumption) ?_)
   | split
   | (extract_lets)
   | (dsimp only))

theorem State.linkWrite_keeps {K : Nat} {s₀ s : State} (v : Nat) (hK : K &&& 140737488355328 = 0) (h : Keeps K s₀ s) :
    Keeps K s₀ (State.linkWrite s v) := by
  unfold State.linkWrite
  (try extract_lets)
  repeat' (first
   | (with_reducible assumption)
   | (with_reducible exact keeps_sub hK (by decide))
   | (with_reducible rfl)
   | exact keeps_block hK 15 (by decide) (by decide)
   | (with_reducible refine Keeps.ite (fun _ => ?_) (fun _ => ?_))
   | (with_reducible apply State.setReg_keeps)
   | (with_reducible refine Keeps.of_eq (by with_reducible assumption) ?_)
   | split
   | (extract_lets)
   | (dsimp only))

theorem State.commit_keeps {K : Nat} {s₀ s : State} (r : Region) (o : Nat) (bs : List Byte) (hK : K &&& 140737490452736 = 0) (h : Keeps K s₀ s) :
    Keeps K s₀ (State.commit s r o bs) := by
  unfold State.commit
  (try extract_lets)
  repeat' (first
   | (with_reducible assumption)
   | (with_reducible exact keeps_sub hK (by decide))
   | (with_reducible rfl)
   | (with_reducible refine Keeps.ite (fun _ => ?_) (fun _ => ?_))
   | (with_reducible apply State.modPort_keeps)
   | (with_reducible apply State.controlWrite_keeps)
   | (with_reducible apply State.linkWrite_keeps)
   | (with_reducible refine Keeps.of_eq (by with_reducible assumption) ?_)
   | split
   | (extract_lets)
   | (dsimp only))

theorem State.linkErr_keeps {K : Nat} {s₀ s : State} (b : Nat) (hK : K &&& 140737488355328 = 0) (h : Keeps K s₀ s) :
    Keeps K s₀ (State.linkErr s b) := by
  unfold State.linkErr
  (try extract_lets)
  repeat' (first
   | (with_reducible assumption)
   | (with_reducible exact keeps_sub hK (by decide))
   | (with_reducible rfl)
   | exact keeps_block hK 15 (by decide) (by decide)
   | (with_reducible refine Keeps.ite (fun _ => ?_) (fun _ => ?_))
   | (with_reducible apply State.setFlag_keeps)
   | (with_reducible apply State.inc_keeps)
   | (with_reducible refine Keeps.of_eq (by with_reducible assumption) ?_)
   | split
   | (extract_lets)
   | (dsimp only))

theorem State.writeFrame_keeps {K : Nat} {s₀ s : State} (crcGood : Bool) (a : Nat) (n : Nat) (data : List Byte) (hK : K &&& 140737490452736 = 0) (h : Keeps K s₀ s) :
    Keeps K s₀ (State.writeFrame s crcGood a n data) := by
  unfold State.writeFrame
  (try extract_lets)
  repeat' (first
   | (with_reducible assumption)
   | (with_reducible exact keeps_sub hK (by decide))
   | (with_reducible rfl)
   | (with_reducible refine Keeps.ite (fun _ => ?_) (fun _ => ?_))
   | (with_reducible apply State.commit_keeps)
   | (with_reducible apply State.linkErr_keeps)
   | (with_reducible refine Keeps.of_eq (by with_reducible assumption) ?_)
   | split
   | (extract_lets)
   | (dsimp only))

theorem State.readFrame_keeps {K : Nat} {s₀ s : State} (a : Nat) (n : Nat) (hK : K &&& 140737488355328 = 0) (h : Keeps K s₀ s) :
    Keeps K s₀ (State.readFrame s a n).1 := by
  unfold State.readFrame
  (try extract_lets)
  repeat' (first
   | (with_reducible assumption)
   | (with_reducible exact keeps_sub hK (by decide))
   | (with_reducible rfl)
   | (with_reducible refine Keeps.ite (fun _ => ?_) (fun _ => ?_))
   | (with_reducible apply State.linkErr_keeps)
   | (with_reducible refine Keeps.of_eq (by with_reducible assumption) ?_)
   | split
   | (extract_lets)
   | (dsimp only))

theorem State.spiWrite_keeps {K : Nat} {s₀ s : State} (bytes : List Byte) (hK : K &&& 140737490452736 = 0) (h : Keeps K s₀ s) :
    Keeps K s₀ (State.spiWrite s bytes) := by
  unfold State.spiWrite
  (try extract_lets)
  repeat' (first
   | (with_reducible assumption)
   | (with_reducible exact keeps_sub hK (by decide))
   | (with_reducible rfl)
   | (with_reducible refine Keeps.ite (fun _ => ?_) (fun _ => ?_))
   | (with_reducible apply State.writeFrame_keeps)
   | (with_reducible apply State.linkErr_keeps)
   | (with_reducible refine Keeps.of_eq (by with_reducible assumption) ?_)
   | split
   | (extract_lets)
   | (dsimp only))

theorem State.endFrame_keeps {K : Nat} {s₀ s : State} (hK : K &&& 2097152 = 0) (h : Keeps K s₀ s) :
    Keeps K s₀ (State.endFrame s) := by
  unfold State.endFrame
  (try extract_lets)
  repeat' (first
   | (with_reducible assumption)
   | (with_reducible exact keeps_sub hK (by decide))
   | (with_reducible rfl)
   | (with_reducible refine Keeps.ite (fun _ => ?_) (fun _ => ?_))
   | (with_reducible refine Keeps.of_eq (by with_reducible assumption) ?_)
   | split
   | (extract_lets)
   | (with_reducible apply Keeps.set_mbox)
   | (dsimp only))

theorem execSpiWriteFrame_keeps {K : Nat} (bytes : List Byte) {s t : State} (hK : K &&& 140737490452736 = 0) (h : s.Stored)
    (e : execSpiWriteFrame bytes s = .next t) : Keeps K s t := by
  unfold execSpiWriteFrame at e
  have e := Host.Outcome.next.inj e
  subst e
  have h := Keeps.refl (K := K) h
  repeat' (first
   | (with_reducible assumption)
   | (with_reducible exact keeps_sub hK (by decide))
   | (with_reducible rfl)
   | (with_reducible refine Keeps.ite (fun _ => ?_) (fun _ => ?_))
   | (with_reducible apply State.spiWrite_keeps)
   | (with_reducible apply State.endFrame_keeps)
   | (with_reducible refine Keeps.of_eq (by with_reducible assumption) ?_)
   | split
   | (extract_lets)
   | (dsimp only))

theorem execSpiReadFrame_keeps {K : Nat} (op : Byte) (lo : Byte) (hi : Byte) {s t : State} (hK : K &&& 140737490452480 = 0) (h : s.Stored)
    (e : execSpiReadFrame op lo hi s = .next t) : Keeps K s t := by
  unfold execSpiReadFrame at e
  have e := Host.Outcome.next.inj e
  subst e
  have h := Keeps.refl (K := K) h
  repeat' (first
   | (with_reducible assumption)
   | (with_reducible exact keeps_sub hK (by decide))
   | (with_reducible rfl)
   | (with_reducible refine Keeps.ite (fun _ => ?_) (fun _ => ?_))
   | (with_reducible apply State.endFrame_keeps)
   | (with_reducible apply State.readFrame_keeps)
   | (with_reducible refine Keeps.of_eq (by with_reducible assumption) ?_)
   | split
   | (extract_lets)
   | (with_reducible apply Keeps.set_mbox)
   | (dsimp only))

theorem execI2cWrite_keeps {K : Nat} (addr : BitVec 7) (bytes : List Byte) {s t : State} (hK : K &&& 140737490452736 = 0) (h : s.Stored)
    (e : execI2cWrite addr bytes s = .next t) : Keeps K s t := by
  unfold execI2cWrite at e
  have e := Host.Outcome.next.inj e
  subst e
  have h := Keeps.refl (K := K) h
  repeat' (first
   | (with_reducible assumption)
   | (with_reducible exact keeps_sub hK (by decide))
   | (with_reducible rfl)
   | (with_reducible refine Keeps.ite (fun _ => ?_) (fun _ => ?_))
   | (with_reducible apply State.writeFrame_keeps)
   | (with_reducible apply State.linkErr_keeps)
   | (with_reducible refine Keeps.of_eq (by with_reducible assumption) ?_)
   | split
   | (extract_lets)
   | (dsimp only))

theorem execI2cRead_keeps {K : Nat} (addr : BitVec 7) (lo : Byte) (hi : Byte) (pec : Bool) {s t : State} (hK : K &&& 140737490452480 = 0) (h : s.Stored)
    (e : execI2cRead addr lo hi pec s = .next t) : Keeps K s t := by
  unfold execI2cRead at e
  have e := Host.Outcome.next.inj e
  subst e
  have h := Keeps.refl (K := K) h
  repeat' (first
   | (with_reducible assumption)
   | (with_reducible exact keeps_sub hK (by decide))
   | (with_reducible rfl)
   | (with_reducible refine Keeps.ite (fun _ => ?_) (fun _ => ?_))
   | (with_reducible apply State.readFrame_keeps)
   | (with_reducible refine Keeps.of_eq (by with_reducible assumption) ?_)
   | split
   | (extract_lets)
   | (with_reducible apply Keeps.set_mbox)
   | (dsimp only))

theorem State.whenReady_keeps {K : Nat} {s u t : State} (h : s.Stored) (hu : Keeps K s u) (e : s.whenReady u = .next t) : Keeps K s t := by
  have e := Host.Outcome.next.inj e
  subst e
  exact Keeps.ite (fun _ => hu) (fun _ => Keeps.refl h)

theorem execMailboxGo_keeps {K : Nat} (p' : Fin 4) {s t : State} (hK : K &&& 2097408 = 0) (h : s.Stored)
    (e : execMailboxGo p' s = .next t) : Keeps K s t := by
  unfold execMailboxGo at e
  have e := Host.Outcome.next.inj e
  subst e
  have h := Keeps.refl (K := K) h
  repeat' (first
   | (with_reducible assumption)
   | (with_reducible exact keeps_sub hK (by decide))
   | (with_reducible rfl)
   | (with_reducible refine Keeps.ite (fun _ => ?_) (fun _ => ?_))
   | (with_reducible apply State.portGo_keeps)
   | (with_reducible refine Keeps.of_eq (by with_reducible assumption) ?_)
   | split
   | (extract_lets)
   | (dsimp only))

theorem execMailboxDoneClear_keeps {K : Nat} (p' : Fin 4) {s t : State} (hK : K &&& 2097152 = 0) (h : s.Stored)
    (e : execMailboxDoneClear p' s = .next t) : Keeps K s t := by
  unfold execMailboxDoneClear at e
  have e := Host.Outcome.next.inj e
  subst e
  have h := Keeps.refl (K := K) h
  repeat' (first
   | (with_reducible assumption)
   | (with_reducible exact keeps_sub hK (by decide))
   | (with_reducible rfl)
   | (with_reducible refine Keeps.ite (fun _ => ?_) (fun _ => ?_))
   | (with_reducible apply State.portDone_keeps)
   | (with_reducible refine Keeps.of_eq (by with_reducible assumption) ?_)
   | split
   | (extract_lets)
   | (dsimp only))

theorem execEvtPop_keeps {K : Nat} (p' : Fin 4) {s t : State} (hK : K &&& 2097152 = 0) (h : s.Stored)
    (e : execEvtPop p' s = .next t) : Keeps K s t := by
  unfold execEvtPop at e
  have e := Host.Outcome.next.inj e
  subst e
  have h := Keeps.refl (K := K) h
  repeat' (first
   | (with_reducible assumption)
   | (with_reducible exact keeps_sub hK (by decide))
   | (with_reducible rfl)
   | (with_reducible refine Keeps.ite (fun _ => ?_) (fun _ => ?_))
   | (with_reducible apply State.portPop_keeps)
   | (with_reducible refine Keeps.of_eq (by with_reducible assumption) ?_)
   | split
   | (extract_lets)
   | (dsimp only))

theorem execMailboxErrClear_keeps {K : Nat} (p' : Fin 4) {s t : State} (hK : K &&& 2097152 = 0) (h : s.Stored)
    (e : execMailboxErrClear p' s = .next t) : Keeps K s t := by
  unfold execMailboxErrClear at e
  have e := Host.Outcome.next.inj e
  subst e
  have h := Keeps.refl (K := K) h
  repeat' (first
   | (with_reducible assumption)
   | (with_reducible exact keeps_sub hK (by decide))
   | (with_reducible rfl)
   | (with_reducible refine Keeps.ite (fun _ => ?_) (fun _ => ?_))
   | (with_reducible apply State.modPort_keeps)
   | (with_reducible refine Keeps.of_eq (by with_reducible assumption) ?_)
   | split
   | (extract_lets)
   | (dsimp only))

theorem execLinkErrClear_keeps {K : Nat} (value : Word) {s t : State} (hK : K &&& 140737488355328 = 0) (h : s.Stored)
    (e : execLinkErrClear value s = .next t) : Keeps K s t := by
  unfold execLinkErrClear at e
  have e := Host.Outcome.next.inj e
  subst e
  have h := Keeps.refl (K := K) h
  repeat' (first
   | (with_reducible assumption)
   | (with_reducible exact keeps_sub hK (by decide))
   | (with_reducible rfl)
   | (with_reducible refine Keeps.ite (fun _ => ?_) (fun _ => ?_))
   | (with_reducible apply State.linkWrite_keeps)
   | (with_reducible refine Keeps.of_eq (by with_reducible assumption) ?_)
   | split
   | (extract_lets)
   | (dsimp only))

theorem State.releasePort_keeps {K : Nat} {s₀ s : State} (p' : Fin 4) (hK : K &&& 256 = 0) (h : Keeps K s₀ s) :
    Keeps K s₀ (State.releasePort s p') := by
  unfold State.releasePort
  (try extract_lets)
  repeat' (first
   | (with_reducible assumption)
   | (with_reducible exact keeps_sub hK (by decide))
   | (with_reducible rfl)
   | (with_reducible refine Keeps.ite (fun _ => ?_) (fun _ => ?_))
   | (with_reducible refine Keeps.of_eq (by with_reducible assumption) ?_)
   | split
   | (extract_lets)
   | (with_reducible apply Keeps.set_reqs)
   | (dsimp only))

theorem execMailboxReply_keeps {K : Nat} (p' : Fin 4) {s t : State} (hK : K &&& 2097408 = 0) (h : s.Stored)
    (e : execMailboxReply p' s = .next t) : Keeps K s t := by
  unfold execMailboxReply at e
  have e := Host.Outcome.next.inj e
  subst e
  have h := Keeps.refl (K := K) h
  repeat' (first
   | (with_reducible assumption)
   | (with_reducible exact keeps_sub hK (by decide))
   | (with_reducible rfl)
   | (with_reducible refine Keeps.ite (fun _ => ?_) (fun _ => ?_))
   | (with_reducible apply State.modPort_keeps)
   | (with_reducible apply State.releasePort_keeps)
   | (with_reducible refine Keeps.of_eq (by with_reducible assumption) ?_)
   | split
   | (extract_lets)
   | (dsimp only))

theorem State.mboxCntClr_keeps {K : Nat} {s₀ s : State} (v : Word) (hK : K &&& 140737488355328 = 0) (h : Keeps K s₀ s) :
    Keeps K s₀ (State.mboxCntClr s v) := by
  unfold State.mboxCntClr
  (try extract_lets)
  repeat' (first
   | (with_reducible assumption)
   | (with_reducible exact keeps_sub hK (by decide))
   | (with_reducible rfl)
   | (with_reducible refine Keeps.ite (fun _ => ?_) (fun _ => ?_))
   | (with_reducible refine State.clearBy_keeps _ _ 15 (by decide) (keeps_bit hK (by decide)) ?_)
   | (with_reducible refine Keeps.of_eq (by with_reducible assumption) ?_)
   | split
   | (extract_lets)
   | (dsimp only))

end Sys2Proof.Machine
end

