-- ==== Sys2Proof/Laws/KeepsPlan.lean ====
section
/-! SUPPORT. What the operations and commands of Machine/Plan.lean leave unchanged: one lemma for each, its mask the parts it
may write. -/

set_option linter.all false

namespace Sys2Proof.Machine

theorem State.planStageTake_keeps {K : Nat} {s₀ s : State} (r : Req) (d : List Byte) (offset : Nat) (final : Bool) (readFails : Bool) (hK : K &&& 26388294795656 = 0) (h : Keeps K s₀ s) :
    Keeps K s₀ (State.planStageTake s r d offset final readFails).1 := by
  unfold State.planStageTake
  (try extract_lets)
  repeat' (first
   | (with_reducible assumption)
   | (with_reducible exact keeps_sub hK (by decide))
   | (with_reducible rfl)
   | (with_reducible refine Keeps.ite (fun _ => ?_) (fun _ => ?_))
   | (with_reducible apply State.kickErases_keeps)
   | (with_reducible apply State.planChunk_keeps)
   | (with_reducible apply State.stageReady_keeps)
   | (with_reducible refine Keeps.of_eq (by with_reducible assumption) ?_)
   | split
   | (extract_lets)
   | (with_reducible apply Keeps.set_plans)
   | (dsimp only))

theorem execPlanStage_keeps {K : Nat} (r : Req) (addr : BitVec 64) (length : BitVec 16) (offset : Word) (flags : Byte) (data : List Byte) (readFails : Bool) {s t : State} (hK : K &&& 26388294795656 = 0) (h : s.Stored)
    (e : execPlanStage r addr length offset flags data readFails s = .next t) : Keeps K s t := by
  unfold execPlanStage at e
  have e := Host.Outcome.next.inj e
  subst e
  have h := Keeps.refl (K := K) h
  repeat' (first
   | (with_reducible assumption)
   | (with_reducible exact keeps_sub hK (by decide))
   | (with_reducible rfl)
   | (with_reducible refine Keeps.ite (fun _ => ?_) (fun _ => ?_))
   | (with_reducible apply State.planStageTake_keeps)
   | (with_reducible apply State.awaitTurn_keeps)
   | (with_reducible apply State.command_keeps)
   | (with_reducible refine Keeps.of_eq (by with_reducible assumption) ?_)
   | (intro s h)
   | split
   | (extract_lets)
   | (dsimp only))

theorem State.activate_keeps {K : Nat} {s₀ s : State} (g : Nat) (hK : K &&& 12583040 = 0) (h : Keeps K s₀ s) :
    Keeps K s₀ (State.activate s g) := by
  unfold State.activate
  (try extract_lets)
  repeat' (first
   | (with_reducible assumption)
   | (with_reducible exact keeps_sub hK (by decide))
   | (with_reducible rfl)
   | (with_reducible refine Keeps.ite (fun _ => ?_) (fun _ => ?_))
   | (with_reducible apply State.planRecord_keeps)
   | (with_reducible apply State.programLine_keeps)
   | (with_reducible refine Keeps.of_eq (by with_reducible assumption) ?_)
   | split
   | (extract_lets)
   | (with_reducible apply Keeps.set_plans)
   | (dsimp only))

theorem execPlanActivate_keeps {K : Nat} (r : Req) (gen : Word) {s t : State} (hK : K &&& 26388294795656 = 0) (h : s.Stored)
    (e : execPlanActivate r gen s = .next t) : Keeps K s t := by
  unfold execPlanActivate at e
  have e := Host.Outcome.next.inj e
  subst e
  have h := Keeps.refl (K := K) h
  repeat' (first
   | (with_reducible assumption)
   | (with_reducible exact keeps_sub hK (by decide))
   | (with_reducible rfl)
   | (with_reducible refine Keeps.ite (fun _ => ?_) (fun _ => ?_))
   | (with_reducible apply State.awaitTurn_keeps)
   | (with_reducible apply State.command_keeps)
   | (with_reducible apply State.activate_keeps)
   | (with_reducible refine Keeps.of_eq (by with_reducible assumption) ?_)
   | (intro s h)
   | split
   | (extract_lets)
   | (dsimp only))

theorem State.firmwareTake_keeps {K : Nat} {s₀ s : State} (r : Req) (d : List Byte) (offset : Nat) (final : Bool) (readFails : Bool) (check : Nat) (v : Word) (hK : K &&& 26388294795656 = 0) (h : Keeps K s₀ s) :
    Keeps K s₀ (State.firmwareTake s r d offset final readFails check v).1 := by
  unfold State.firmwareTake
  (try extract_lets)
  repeat' (first
   | (with_reducible assumption)
   | (with_reducible exact keeps_sub hK (by decide))
   | (with_reducible rfl)
   | (with_reducible refine Keeps.ite (fun _ => ?_) (fun _ => ?_))
   | (with_reducible apply State.kickErases_keeps)
   | (with_reducible apply State.firmwareChunk_keeps)
   | (with_reducible apply State.stageReady_keeps)
   | (with_reducible refine Keeps.of_eq (by with_reducible assumption) ?_)
   | split
   | (extract_lets)
   | (with_reducible apply Keeps.set_plans)
   | (dsimp only))

theorem execFirmwareStage_keeps {K : Nat} (r : Req) (addr : BitVec 64) (length : BitVec 16) (offset : Word) (flags : Byte) (data : List Byte) (readFails : Bool) (check : Byte) (version : Word) {s t : State} (hK : K &&& 26388294795656 = 0) (h : s.Stored)
    (e : execFirmwareStage r addr length offset flags data readFails check version s = .next t) : Keeps K s t := by
  unfold execFirmwareStage at e
  have e := Host.Outcome.next.inj e
  subst e
  have h := Keeps.refl (K := K) h
  repeat' (first
   | (with_reducible assumption)
   | (with_reducible exact keeps_sub hK (by decide))
   | (with_reducible rfl)
   | (with_reducible refine Keeps.ite (fun _ => ?_) (fun _ => ?_))
   | (with_reducible apply State.awaitTurn_keeps)
   | (with_reducible apply State.command_keeps)
   | (with_reducible apply State.firmwareTake_keeps)
   | (with_reducible refine Keeps.of_eq (by with_reducible assumption) ?_)
   | (intro s h)
   | split
   | (extract_lets)
   | (dsimp only))

theorem State.backgroundVerify_keeps {K : Nat} {s₀ s : State} (errs : List LineErr) (hK : K &&& 4303355904 = 0) (h : Keeps K s₀ s) :
    Keeps K s₀ (State.backgroundVerify s errs) := by
  unfold State.backgroundVerify
  (try extract_lets)
  repeat' (first
   | (with_reducible assumption)
   | (with_reducible exact keeps_sub hK (by decide))
   | (with_reducible rfl)
   | (with_reducible refine Keeps.ite (fun _ => ?_) (fun _ => ?_))
   | (with_reducible apply State.setOutcome_keeps)
   | (with_reducible refine Keeps.of_eq (by with_reducible assumption) ?_)
   | split
   | (extract_lets)
   | (with_reducible apply Keeps.set_plans)
   | (dsimp only))

theorem execPlanBackgroundVerify_keeps {K : Nat} (errs : List LineErr) {s t : State} (hK : K &&& 4303355904 = 0) (h : s.Stored)
    (e : execPlanBackgroundVerify errs s = .next t) : Keeps K s t := by
  unfold execPlanBackgroundVerify at e
  have e := Host.Outcome.next.inj e
  subst e
  have h := Keeps.refl (K := K) h
  repeat' (first
   | (with_reducible assumption)
   | (with_reducible exact keeps_sub hK (by decide))
   | (with_reducible rfl)
   | (with_reducible refine Keeps.ite (fun _ => ?_) (fun _ => ?_))
   | (with_reducible apply State.backgroundVerify_keeps)
   | (with_reducible refine Keeps.of_eq (by with_reducible assumption) ?_)
   | split
   | (extract_lets)
   | (dsimp only))

end Sys2Proof.Machine
end

