-- ==== Sys2Proof/Laws/KeepsFlash.lean ====
section
/-! SUPPORT. What the operations and commands of Machine/Flash.lean leave unchanged: one lemma for each, its mask the parts it
may write. -/

set_option linter.all false

namespace Sys2Proof.Machine

theorem State.statusBit_keeps {K : Nat} {s₀ s : State} (b : Fin 2) (i : Nat) (hK : K &&& 35184372088832 = 0) (h : Keeps K s₀ s) :
    Keeps K s₀ ((State.statusBit s b i)) := by
  have hb : K.testBit (32 + flashStatus b / 4096 % 16) = false := by
    unfold flashStatus
    split <;> exact keeps_block hK 13 (by decide) (by decide)
  exact State.setFlag_keeps _ _ hb h

theorem State.accepted_keeps {K : Nat} {s₀ s : State} (b : Fin 2) (hK : K &&& 35184372088832 = 0) (h : Keeps K s₀ s) :
    Keeps K s₀ ((State.accepted s b)) := by
  have hb : K.testBit (32 + flashStatus b / 4096 % 16) = false := by
    unfold flashStatus
    split <;> exact keeps_block hK 13 (by decide) (by decide)
  exact State.setFld_keeps _ _ _ hb h

theorem State.seqFail_keeps {K : Nat} {s₀ s : State} (b : Fin 2) (hK : K &&& 35184376283136 = 0) (h : Keeps K s₀ s) :
    Keeps K s₀ (State.seqFail s b) := by
  unfold State.seqFail
  (try extract_lets)
  repeat' (first
   | (with_reducible assumption)
   | (with_reducible exact keeps_sub hK (by decide))
   | (with_reducible rfl)
   | (with_reducible refine Keeps.ite (fun _ => ?_) (fun _ => ?_))
   | (with_reducible apply State.modBank_keeps)
   | (with_reducible apply State.statusBit_keeps)
   | (with_reducible refine Keeps.of_eq (by with_reducible assumption) ?_)
   | split
   | (extract_lets)
   | (dsimp only))

theorem State.hostErase_keeps {K : Nat} {s₀ s : State} (b : Fin 2) (k : Nat) (hK : K &&& 35184376283136 = 0) (h : Keeps K s₀ s) :
    Keeps K s₀ (State.hostErase s b k) := by
  unfold State.hostErase
  (try extract_lets)
  repeat' (first
   | (with_reducible assumption)
   | (with_reducible exact keeps_sub hK (by decide))
   | (with_reducible rfl)
   | (with_reducible refine Keeps.ite (fun _ => ?_) (fun _ => ?_))
   | (with_reducible apply State.accepted_keeps)
   | (with_reducible apply State.startErase_keeps)
   | (with_reducible apply State.statusBit_keeps)
   | (with_reducible refine Keeps.of_eq (by with_reducible assumption) ?_)
   | split
   | (extract_lets)
   | (dsimp only))

theorem State.hostProgram_keeps {K : Nat} {s₀ s : State} (b : Fin 2) (o : Nat) (d : List Byte) (hK : K &&& 35184376283264 = 0) (h : Keeps K s₀ s) :
    Keeps K s₀ (State.hostProgram s b o d) := by
  unfold State.hostProgram
  (try extract_lets)
  repeat' (first
   | (with_reducible assumption)
   | (with_reducible exact keeps_sub hK (by decide))
   | (with_reducible rfl)
   | (with_reducible refine Keeps.ite (fun _ => ?_) (fun _ => ?_))
   | (with_reducible apply State.modBank_keeps)
   | (with_reducible apply State.accepted_keeps)
   | (with_reducible apply State.refusedSuspect_keeps)
   | (with_reducible apply State.statusBit_keeps)
   | (with_reducible refine Keeps.of_eq (by with_reducible assumption) ?_)
   | split
   | (extract_lets)
   | (dsimp only))

theorem State.hostAbort_keeps {K : Nat} {s₀ s : State} (b : Fin 2) (hK : K &&& 35184376283266 = 0) (h : Keeps K s₀ s) :
    Keeps K s₀ (State.hostAbort s b) := by
  unfold State.hostAbort
  (try extract_lets)
  repeat' (first
   | (with_reducible assumption)
   | (with_reducible exact keeps_sub hK (by decide))
   | (with_reducible rfl)
   | (with_reducible refine Keeps.ite (fun _ => ?_) (fun _ => ?_))
   | (with_reducible apply State.abandonErase_keeps)
   | (with_reducible apply State.kickErases_keeps)
   | (with_reducible apply State.modBank_keeps)
   | (with_reducible apply State.accepted_keeps)
   | (with_reducible refine Keeps.of_eq (by with_reducible assumption) ?_)
   | split
   | (extract_lets)
   | (dsimp only))

theorem State.hostSuspend_keeps {K : Nat} {s₀ s : State} (b : Fin 2) (hK : K &&& 35184376283136 = 0) (h : Keeps K s₀ s) :
    Keeps K s₀ (State.hostSuspend s b) := by
  unfold State.hostSuspend
  (try extract_lets)
  repeat' (first
   | (with_reducible assumption)
   | (with_reducible exact keeps_sub hK (by decide))
   | (with_reducible rfl)
   | (with_reducible refine Keeps.ite (fun _ => ?_) (fun _ => ?_))
   | (with_reducible apply State.modBank_keeps)
   | (with_reducible apply State.accepted_keeps)
   | (with_reducible apply State.statusBit_keeps)
   | (with_reducible refine Keeps.of_eq (by with_reducible assumption) ?_)
   | split
   | (extract_lets)
   | (dsimp only))

theorem State.hostResume_keeps {K : Nat} {s₀ s : State} (b : Fin 2) (hK : K &&& 35184376283136 = 0) (h : Keeps K s₀ s) :
    Keeps K s₀ (State.hostResume s b) := by
  unfold State.hostResume
  (try extract_lets)
  repeat' (first
   | (with_reducible assumption)
   | (with_reducible exact keeps_sub hK (by decide))
   | (with_reducible rfl)
   | (with_reducible refine Keeps.ite (fun _ => ?_) (fun _ => ?_))
   | (with_reducible apply State.modBank_keeps)
   | (with_reducible apply State.accepted_keeps)
   | (with_reducible apply State.statusBit_keeps)
   | (with_reducible refine Keeps.of_eq (by with_reducible assumption) ?_)
   | split
   | (extract_lets)
   | (dsimp only))

theorem State.lineWrite_keeps {K : Nat} {s₀ s : State} (b : Fin 2) (base : Option Nat) (words : List Word) (o : Nat) (v : Word) (hK : K &&& 35184376283264 = 0) (h : Keeps K s₀ s) :
    Keeps K s₀ (State.lineWrite s b base words o v) := by
  unfold State.lineWrite
  (try extract_lets)
  repeat' (first
   | (with_reducible assumption)
   | (with_reducible exact keeps_sub hK (by decide))
   | (with_reducible rfl)
   | (with_reducible refine Keeps.ite (fun _ => ?_) (fun _ => ?_))
   | (with_reducible apply State.modBank_keeps)
   | (with_reducible apply State.hostProgram_keeps)
   | (with_reducible refine Keeps.of_eq (by with_reducible assumption) ?_)
   | split
   | (extract_lets)
   | (dsimp only))

theorem State.bar2Write_keeps {K : Nat} {s₀ s : State} (w : BarWrite) (hK : K &&& 35184376283266 = 0) (h : Keeps K s₀ s) :
    Keeps K s₀ (State.bar2Write s w) := by
  unfold State.bar2Write
  (try extract_lets)
  repeat' (first
   | (with_reducible assumption)
   | (with_reducible exact keeps_sub hK (by decide))
   | (with_reducible rfl)
   | (with_reducible refine Keeps.ite (fun _ => ?_) (fun _ => ?_))
   | (with_reducible apply State.modBank_keeps)
   | (with_reducible apply State.hostResume_keeps)
   | (with_reducible apply State.hostAbort_keeps)
   | (with_reducible apply State.accepted_keeps)
   | (with_reducible apply State.hostErase_keeps)
   | (with_reducible apply State.statusBit_keeps)
   | (with_reducible apply State.hostSuspend_keeps)
   | (with_reducible apply State.seqFail_keeps)
   | (with_reducible apply State.lineWrite_keeps)
   | (with_reducible refine Keeps.of_eq (by with_reducible assumption) ?_)
   | split
   | (extract_lets)
   | (dsimp only))

theorem State.bar2Writes_keeps {K : Nat} {s₀ s : State} (l : List BarWrite) (hK : K &&& 35184376283266 = 0) (h : Keeps K s₀ s) :
    Keeps K s₀ (State.bar2Writes s l) := by
  unfold State.bar2Writes
  (try extract_lets)
  repeat' (first
   | (with_reducible assumption)
   | (with_reducible exact keeps_sub hK (by decide))
   | (with_reducible rfl)
   | (with_reducible refine Keeps.ite (fun _ => ?_) (fun _ => ?_))
   | (with_reducible apply State.bar2Write_keeps)
   | (with_reducible refine Keeps.foldl _ _ (fun s x h => ?_) ?_)
   | (with_reducible refine Keeps.foldl_fst _ _ (fun s x h => ?_) ?_)
   | (with_reducible refine Keeps.of_eq (by with_reducible assumption) ?_)
   | split
   | (extract_lets)
   | (dsimp only))

theorem execSectorErase_keeps {K : Nat} (bank : Fin 2) (more : List BarWrite) {s t : State} (hK : K &&& 35184376283266 = 0) (h : s.Stored)
    (e : execSectorErase bank more s = .next t) : Keeps K s t := by
  unfold execSectorErase at e
  have e := Host.Outcome.next.inj e
  subst e
  have h := Keeps.refl (K := K) h
  repeat' (first
   | (with_reducible assumption)
   | (with_reducible exact keeps_sub hK (by decide))
   | (with_reducible rfl)
   | (with_reducible refine Keeps.ite (fun _ => ?_) (fun _ => ?_))
   | (with_reducible apply State.bar2Writes_keeps)
   | (with_reducible refine Keeps.of_eq (by with_reducible assumption) ?_)
   | split
   | (extract_lets)
   | (dsimp only))

theorem execProgramLine_keeps {K : Nat} (bank : Fin 2) (more : List BarWrite) {s t : State} (hK : K &&& 35184376283266 = 0) (h : s.Stored)
    (e : execProgramLine bank more s = .next t) : Keeps K s t := by
  unfold execProgramLine at e
  have e := Host.Outcome.next.inj e
  subst e
  have h := Keeps.refl (K := K) h
  repeat' (first
   | (with_reducible assumption)
   | (with_reducible exact keeps_sub hK (by decide))
   | (with_reducible rfl)
   | (with_reducible refine Keeps.ite (fun _ => ?_) (fun _ => ?_))
   | (with_reducible apply State.bar2Writes_keeps)
   | (with_reducible refine Keeps.of_eq (by with_reducible assumption) ?_)
   | split
   | (extract_lets)
   | (dsimp only))

theorem execStatusMode_keeps {K : Nat} (bank : Fin 2) {s t : State} (hK : K &&& 35184376283266 = 0) (h : s.Stored)
    (e : execStatusMode bank s = .next t) : Keeps K s t := by
  unfold execStatusMode at e
  have e := Host.Outcome.next.inj e
  subst e
  have h := Keeps.refl (K := K) h
  repeat' (first
   | (with_reducible assumption)
   | (with_reducible exact keeps_sub hK (by decide))
   | (with_reducible rfl)
   | (with_reducible refine Keeps.ite (fun _ => ?_) (fun _ => ?_))
   | (with_reducible apply State.bar2Writes_keeps)
   | (with_reducible refine Keeps.of_eq (by with_reducible assumption) ?_)
   | split
   | (extract_lets)
   | (dsimp only))

theorem execEraseSuspend_keeps {K : Nat} (addr : BitVec 22) {s t : State} (hK : K &&& 35184376283266 = 0) (h : s.Stored)
    (e : execEraseSuspend addr s = .next t) : Keeps K s t := by
  unfold execEraseSuspend at e
  have e := Host.Outcome.next.inj e
  subst e
  have h := Keeps.refl (K := K) h
  repeat' (first
   | (with_reducible assumption)
   | (with_reducible exact keeps_sub hK (by decide))
   | (with_reducible rfl)
   | (with_reducible refine Keeps.ite (fun _ => ?_) (fun _ => ?_))
   | (with_reducible apply State.bar2Writes_keeps)
   | (with_reducible refine Keeps.of_eq (by with_reducible assumption) ?_)
   | split
   | (extract_lets)
   | (dsimp only))

theorem execEraseResume_keeps {K : Nat} (addr : BitVec 22) {s t : State} (hK : K &&& 35184376283266 = 0) (h : s.Stored)
    (e : execEraseResume addr s = .next t) : Keeps K s t := by
  unfold execEraseResume at e
  have e := Host.Outcome.next.inj e
  subst e
  have h := Keeps.refl (K := K) h
  repeat' (first
   | (with_reducible assumption)
   | (with_reducible exact keeps_sub hK (by decide))
   | (with_reducible rfl)
   | (with_reducible refine Keeps.ite (fun _ => ?_) (fun _ => ?_))
   | (with_reducible apply State.bar2Writes_keeps)
   | (with_reducible refine Keeps.of_eq (by with_reducible assumption) ?_)
   | split
   | (extract_lets)
   | (dsimp only))

theorem execAbortReset_keeps {K : Nat} (addr : BitVec 22) {s t : State} (hK : K &&& 35184376283266 = 0) (h : s.Stored)
    (e : execAbortReset addr s = .next t) : Keeps K s t := by
  unfold execAbortReset at e
  have e := Host.Outcome.next.inj e
  subst e
  have h := Keeps.refl (K := K) h
  repeat' (first
   | (with_reducible assumption)
   | (with_reducible exact keeps_sub hK (by decide))
   | (with_reducible rfl)
   | (with_reducible refine Keeps.ite (fun _ => ?_) (fun _ => ?_))
   | (with_reducible apply State.bar2Writes_keeps)
   | (with_reducible refine Keeps.of_eq (by with_reducible assumption) ?_)
   | split
   | (extract_lets)
   | (dsimp only))

theorem execSequenceTimeout_keeps {K : Nat} (bank : Fin 2) {s t : State} (hK : K &&& 35184376283136 = 0) (h : s.Stored)
    (e : execSequenceTimeout bank s = .next t) : Keeps K s t := by
  unfold execSequenceTimeout at e
  have e := Host.Outcome.next.inj e
  subst e
  have h := Keeps.refl (K := K) h
  repeat' (first
   | (with_reducible assumption)
   | (with_reducible exact keeps_sub hK (by decide))
   | (with_reducible rfl)
   | (with_reducible refine Keeps.ite (fun _ => ?_) (fun _ => ?_))
   | (with_reducible apply State.seqFail_keeps)
   | (with_reducible refine Keeps.of_eq (by with_reducible assumption) ?_)
   | split
   | (extract_lets)
   | (dsimp only))

theorem State.hostLine_keeps {K : Nat} {s₀ s : State} (b : Fin 2) (l : Nat) (ecc : Nat × Bool) (hK : K &&& 35184372088832 = 0) (h : Keeps K s₀ s) :
    Keeps K s₀ ((State.hostLine s b l ecc)) := by
  have hb : K.testBit (32 + flashStatus b / 4096 % 16) = false := by
    unfold flashStatus
    split <;> exact keeps_block hK 13 (by decide) (by decide)
  have h1 := State.setFld_keeps 19 19 (b2n ecc.2) hb (State.setFld_keeps 23 20 ecc.1 hb
    (State.setReg_keeps (a := Reg.FLASH_LASTREAD) (s.lineWord l ecc) (keeps_block hK 13 (by decide) (by decide)) h))
  unfold State.hostLine
  exact Keeps.ite (fun _ => State.statusBit_keeps _ _ (keeps_sub hK (by decide)) h1) (fun _ => h1)

theorem execBar2Read_keeps {K : Nat} (addr : BitVec 22) (len : BitVec 13) (errs : List LineErr) {s t : State}
    (hK : K &&& 35184393060480 = 0) (h : s.Stored) (e : execBar2Read addr len errs s = .next t) : Keeps K s t := by
  unfold execBar2Read at e
  dsimp only at e
  have h := Keeps.refl (K := K) h
  split at e
  · cases e; exact h
  · split at e
    · cases e; exact Keeps.set_rdata (keeps_sub hK (by decide)) h
    · cases e
      exact Keeps.set_rdata (keeps_sub hK (by decide)) (State.hostLine_keeps _ _ _ (keeps_sub hK (by decide))
        (State.linesRead_keeps _ _ _ _ (keeps_sub hK (by decide)) h))

theorem execProgramDone_keeps {K : Nat} (bank : Fin 2) {s t : State} (hK : K &&& 4194304 = 0) (h : s.Stored)
    (e : execProgramDone bank s = .next t) : Keeps K s t := by
  unfold execProgramDone at e
  have e := Host.Outcome.next.inj e
  subst e
  have h := Keeps.refl (K := K) h
  repeat' (first
   | (with_reducible assumption)
   | (with_reducible exact keeps_sub hK (by decide))
   | (with_reducible rfl)
   | (with_reducible refine Keeps.ite (fun _ => ?_) (fun _ => ?_))
   | (with_reducible apply State.kickErases_keeps)
   | (with_reducible apply State.endProgram_keeps)
   | (with_reducible refine Keeps.of_eq (by with_reducible assumption) ?_)
   | split
   | (extract_lets)
   | (dsimp only))

theorem execEraseDone_keeps {K : Nat} (bank : Fin 2) (ok : Bool) {s : State} {t : State} (hK : K &&& 138551366680986 = 0) (h : s.Stored)
    (e : execEraseDone bank ok s = .next t) : Keeps K s t := by
  unfold execEraseDone at e
  have h := Keeps.refl (K := K) h
  have post : ∀ (c : Prop) [Decidable c] (u : State) (w : Nat) (g : Nat), Keeps K s u →
      Keeps K s (if c then u.postSuspect w bank g else u) := fun c _ u w g hu =>
    Keeps.ite (fun _ => State.postSuspect_keeps _ _ _ (keeps_sub hK (by decide)) hu) (fun _ => hu)
  by_cases hc : s.flash.bank[bank].st ≠ .erase
  · rw [if_pos hc] at e
    cases e
    exact h
  · rw [if_neg hc] at e
    have e := Host.Outcome.next.inj e
    subst e
    refine State.kickErases_keeps (keeps_sub hK (by decide)) (State.stageErased_keeps _ _ _ (keeps_sub hK (by decide))
      (Keeps.ite (fun _ => ?_) (fun _ => ?_)))
    · have hm := post (s.isSuspect bank s.flash.bank[bank].sector = true) _ 4 s.flash.bank[bank].sector
        (State.mark_keeps bank true s.flash.bank[bank].sector (keeps_sub hK (by decide))
          (State.clearSector_keeps (bank.val * 512 + s.flash.bank[bank].sector) (keeps_sub hK (by decide))
          (State.modBank_keeps bank (fun x => { x with st := .idle, suspect := setBit512 x.suspect s.flash.bank[bank].sector (!ok) })
            (keeps_sub hK (by decide)) h)))
      exact Keeps.ite (fun _ => State.modJrn_keeps _ (keeps_sub hK (by decide)) hm) (fun _ => hm)
    · refine State.eraseFailed_keeps _ _ (keeps_sub hK (by decide)) (State.postSuspect_keeps _ _ _ (keeps_sub hK (by decide))
        (Keeps.ite (fun _ => State.statusBit_keeps _ _ (keeps_sub hK (by decide)) ?_) (fun _ => ?_))) <;>
        exact State.scrambleSector_keeps _ (keeps_sub hK (by decide)) (State.modBank_keeps _ _ (keeps_sub hK (by decide)) h)

theorem execSuspendDone_keeps {K : Nat} (bank : Fin 2) {s t : State} (hK : K &&& 4194304 = 0) (h : s.Stored)
    (e : execSuspendDone bank s = .next t) : Keeps K s t := by
  unfold execSuspendDone at e
  have e := Host.Outcome.next.inj e
  subst e
  have h := Keeps.refl (K := K) h
  repeat' (first
   | (with_reducible assumption)
   | (with_reducible exact keeps_sub hK (by decide))
   | (with_reducible rfl)
   | (with_reducible refine Keeps.ite (fun _ => ?_) (fun _ => ?_))
   | (with_reducible apply State.modBank_keeps)
   | (with_reducible refine Keeps.of_eq (by with_reducible assumption) ?_)
   | split
   | (extract_lets)
   | (dsimp only))

theorem execAutoResume_keeps {K : Nat} (bank : Fin 2) {s t : State} (hK : K &&& 4194304 = 0) (h : s.Stored)
    (e : execAutoResume bank s = .next t) : Keeps K s t := by
  unfold execAutoResume at e
  have e := Host.Outcome.next.inj e
  subst e
  have h := Keeps.refl (K := K) h
  repeat' (first
   | (with_reducible assumption)
   | (with_reducible exact keeps_sub hK (by decide))
   | (with_reducible rfl)
   | (with_reducible refine Keeps.ite (fun _ => ?_) (fun _ => ?_))
   | (with_reducible apply State.modBank_keeps)
   | (with_reducible refine Keeps.of_eq (by with_reducible assumption) ?_)
   | split
   | (extract_lets)
   | (dsimp only))

theorem execJournalAppend_keeps {K : Nat} {s t : State} (hK : K &&& 26388286431624 = 0) (h : s.Stored)
    (e : execJournalAppend s = .next t) : Keeps K s t := by
  unfold execJournalAppend at e
  have e := Host.Outcome.next.inj e
  subst e
  have h := Keeps.refl (K := K) h
  repeat' (first
   | (with_reducible assumption)
   | (with_reducible exact keeps_sub hK (by decide))
   | (with_reducible rfl)
   | (with_reducible refine Keeps.ite (fun _ => ?_) (fun _ => ?_))
   | (with_reducible apply State.jrnAppend_keeps)
   | (with_reducible refine Keeps.of_eq (by with_reducible assumption) ?_)
   | split
   | (extract_lets)
   | (dsimp only))

theorem execUncorrectableFetch_keeps {K : Nat} (line : BitVec 17) {s t : State} (hK : K &&& 129755263172762 = 0) (h : s.Stored)
    (e : execUncorrectableFetch line s = .next t) : Keeps K s t := by
  unfold execUncorrectableFetch at e
  have e := Host.Outcome.next.inj e
  subst e
  have h := Keeps.refl (K := K) h
  repeat' (first
   | (with_reducible assumption)
   | (with_reducible exact keeps_sub hK (by decide))
   | (with_reducible rfl)
   | (with_reducible refine Keeps.ite (fun _ => ?_) (fun _ => ?_))
   | (with_reducible apply State.classS_keeps)
   | (with_reducible apply State.lineRead_keeps)
   | (with_reducible refine Keeps.of_eq (by with_reducible assumption) ?_)
   | split
   | (extract_lets)
   | (dsimp only))

theorem State.readWeakFifo_keeps {K : Nat} {s₀ s : State} (hK : K &&& 4194304 = 0) (h : Keeps K s₀ s) :
    Keeps K s₀ (State.readWeakFifo s).1 := by
  unfold State.readWeakFifo
  (try extract_lets)
  repeat' (first
   | (with_reducible assumption)
   | (with_reducible exact keeps_sub hK (by decide))
   | (with_reducible rfl)
   | (with_reducible refine Keeps.ite (fun _ => ?_) (fun _ => ?_))
   | (with_reducible refine Keeps.of_eq (by with_reducible assumption) ?_)
   | split
   | (extract_lets)
   | (with_reducible apply Keeps.set_flash)
   | (dsimp only))

theorem State.flashCntClr_keeps {K : Nat} {s₀ s : State} (v : Word) (hK : K &&& 35184372088832 = 0) (h : Keeps K s₀ s) :
    Keeps K s₀ (State.flashCntClr s v) := by
  unfold State.flashCntClr
  (try extract_lets)
  repeat' (first
   | (with_reducible assumption)
   | (with_reducible exact keeps_sub hK (by decide))
   | (with_reducible rfl)
   | (with_reducible refine Keeps.ite (fun _ => ?_) (fun _ => ?_))
   | (with_reducible refine State.clearBy_keeps _ _ 13 (by decide) (keeps_bit hK (by decide)) ?_)
   | (with_reducible refine Keeps.of_eq (by with_reducible assumption) ?_)
   | split
   | (extract_lets)
   | (dsimp only))

end Sys2Proof.Machine
end

