-- ==== Sys2Proof/Laws/KeepsTimeLeash.lean ====
section
/-! SUPPORT. What the operations and commands of Machine/TimeLeash.lean leave unchanged: one lemma for each, its mask the parts it
may write. -/

set_option linter.all false

namespace Sys2Proof.Machine

theorem State.readPtLo_keeps {K : Nat} {s₀ s : State} (hK : K &&& 32 = 0) (h : Keeps K s₀ s) :
    Keeps K s₀ (State.readPtLo s).1 := by
  unfold State.readPtLo
  (try extract_lets)
  repeat' (first
   | (with_reducible assumption)
   | (with_reducible exact keeps_sub hK (by decide))
   | (with_reducible rfl)
   | (with_reducible refine Keeps.ite (fun _ => ?_) (fun _ => ?_))
   | (with_reducible refine Keeps.of_eq (by with_reducible assumption) ?_)
   | split
   | (extract_lets)
   | (with_reducible apply Keeps.set_time)
   | (dsimp only))

theorem State.readKtickLo_keeps {K : Nat} {s₀ s : State} (hK : K &&& 32 = 0) (h : Keeps K s₀ s) :
    Keeps K s₀ (State.readKtickLo s).1 := by
  unfold State.readKtickLo
  (try extract_lets)
  repeat' (first
   | (with_reducible assumption)
   | (with_reducible exact keeps_sub hK (by decide))
   | (with_reducible rfl)
   | (with_reducible refine Keeps.ite (fun _ => ?_) (fun _ => ?_))
   | (with_reducible refine Keeps.of_eq (by with_reducible assumption) ?_)
   | split
   | (extract_lets)
   | (with_reducible apply Keeps.set_time)
   | (dsimp only))

theorem State.countUnit_keeps {K : Nat} {s₀ s : State} (hK : K &&& 32 = 0) (h : Keeps K s₀ s) :
    Keeps K s₀ (State.countUnit s) := by
  unfold State.countUnit
  (try extract_lets)
  repeat' (first
   | (with_reducible assumption)
   | (with_reducible exact keeps_sub hK (by decide))
   | (with_reducible rfl)
   | (with_reducible refine Keeps.ite (fun _ => ?_) (fun _ => ?_))
   | (with_reducible refine Keeps.of_eq (by with_reducible assumption) ?_)
   | split
   | (extract_lets)
   | (with_reducible apply Keeps.set_time)
   | (dsimp only))

theorem State.rstOutTimer_keeps {K : Nat} {s₀ s : State} (hK : K &&& 16 = 0) (h : Keeps K s₀ s) :
    Keeps K s₀ (State.rstOutTimer s) := by
  unfold State.rstOutTimer
  (try extract_lets)
  repeat' (first
   | (with_reducible assumption)
   | (with_reducible exact keeps_sub hK (by decide))
   | (with_reducible rfl)
   | (with_reducible refine Keeps.ite (fun _ => ?_) (fun _ => ?_))
   | (with_reducible refine Keeps.of_eq (by with_reducible assumption) ?_)
   | split
   | (extract_lets)
   | (with_reducible apply Keeps.set_dev)
   | (dsimp only))

theorem State.tick_keeps {K : Nat} {s₀ s : State} (hK : K &&& 68719477808 = 0) (h : Keeps K s₀ s) :
    Keeps K s₀ (State.tick s) := by
  unfold State.tick
  (try extract_lets)
  repeat' (first
   | (with_reducible assumption)
   | (with_reducible exact keeps_sub hK (by decide))
   | (with_reducible rfl)
   | (with_reducible refine Keeps.ite (fun _ => ?_) (fun _ => ?_))
   | (with_reducible apply State.modTimer_keeps)
   | (with_reducible apply State.countUnit_keeps)
   | (with_reducible apply State.rstOutTimer_keeps)
   | (with_reducible refine Keeps.of_eq (by with_reducible assumption) ?_)
   | split
   | (extract_lets)
   | (with_reducible apply Keeps.set_dev)
   | (with_reducible apply Keeps.set_time)
   | (dsimp only))

theorem State.ptmRate_keeps {K : Nat} {s₀ s : State} (x : PtmSample) (hK : K &&& 2 = 0) (h : Keeps K s₀ s) :
    Keeps K s₀ (State.ptmRate s x).1 := by
  unfold State.ptmRate
  (try extract_lets)
  repeat' (first
   | (with_reducible assumption)
   | (with_reducible exact keeps_sub hK (by decide))
   | (with_reducible rfl)
   | (with_reducible refine Keeps.ite (fun _ => ?_) (fun _ => ?_))
   | (with_reducible apply State.draw_keeps)
   | (with_reducible apply State.roundFrac_keeps)
   | (with_reducible refine Keeps.of_eq (by with_reducible assumption) ?_)
   | split
   | (extract_lets)
   | (dsimp only))

theorem State.ptmWrite_keeps {K : Nat} {s₀ s : State} (x : PtmSample) (hK : K &&& 17179869218 = 0) (h : Keeps K s₀ s) :
    Keeps K s₀ (State.ptmWrite s x) := by
  unfold State.ptmWrite
  (try extract_lets)
  repeat' (first
   | (with_reducible assumption)
   | (with_reducible exact keeps_sub hK (by decide))
   | (with_reducible rfl)
   | exact keeps_block hK 2 (by decide) (by decide)
   | (with_reducible refine Keeps.ite (fun _ => ?_) (fun _ => ?_))
   | (with_reducible apply State.setReg_keeps)
   | (with_reducible apply State.setFlag_keeps)
   | (with_reducible apply State.ptmRate_keeps)
   | (with_reducible refine Keeps.of_eq (by with_reducible assumption) ?_)
   | split
   | (extract_lets)
   | (with_reducible apply Keeps.set_time)
   | (dsimp only))

theorem execPtmDialogue_keeps {K : Nat} (inL0 : Bool) (sample : PtmSample) {s t : State} (hK : K &&& 17179869218 = 0) (h : s.Stored)
    (e : execPtmDialogue inL0 sample s = .next t) : Keeps K s t := by
  unfold execPtmDialogue at e
  have e := Host.Outcome.next.inj e
  subst e
  have h := Keeps.refl (K := K) h
  repeat' (first
   | (with_reducible assumption)
   | (with_reducible exact keeps_sub hK (by decide))
   | (with_reducible rfl)
   | (with_reducible refine Keeps.ite (fun _ => ?_) (fun _ => ?_))
   | (with_reducible apply State.ptmWrite_keeps)
   | (with_reducible refine Keeps.of_eq (by with_reducible assumption) ?_)
   | split
   | (extract_lets)
   | (with_reducible apply Keeps.set_time)
   | (dsimp only))

theorem State.setHeld_keeps {K : Nat} {s₀ s : State} (a : Fin 10) (hK : K &&& 17179869184 = 0) (h : Keeps K s₀ s) :
    Keeps K s₀ (State.setHeld s a) := by
  unfold State.setHeld
  (try extract_lets)
  repeat' (first
   | (with_reducible assumption)
   | (with_reducible exact keeps_sub hK (by decide))
   | (with_reducible rfl)
   | exact keeps_block hK 2 (by decide) (by decide)
   | (with_reducible refine Keeps.ite (fun _ => ?_) (fun _ => ?_))
   | (with_reducible apply State.setFlag_keeps)
   | (with_reducible refine Keeps.of_eq (by with_reducible assumption) ?_)
   | split
   | (extract_lets)
   | (dsimp only))

theorem execLeashCeilingReached_keeps {K : Nat} (a : Fin 10) (requestPending : Bool) {s t : State} (hK : K &&& 17179869248 = 0) (h : s.Stored)
    (e : execLeashCeilingReached a requestPending s = .next t) : Keeps K s t := by
  unfold execLeashCeilingReached at e
  have e := Host.Outcome.next.inj e
  subst e
  have h := Keeps.refl (K := K) h
  repeat' (first
   | (with_reducible assumption)
   | (with_reducible exact keeps_sub hK (by decide))
   | (with_reducible rfl)
   | (with_reducible refine Keeps.ite (fun _ => ?_) (fun _ => ?_))
   | (with_reducible apply State.setHeld_keeps)
   | (with_reducible refine Keeps.of_eq (by with_reducible assumption) ?_)
   | split
   | (extract_lets)
   | (with_reducible apply Keeps.set_leash)
   | (dsimp only))

theorem State.postOverrun_keeps {K : Nat} {s₀ s : State} (a : Fin 10) (hK : K &&& 128 = 0) (h : Keeps K s₀ s) :
    Keeps K s₀ (State.postOverrun s a) := by
  unfold State.postOverrun
  (try extract_lets)
  repeat' (first
   | (with_reducible assumption)
   | (with_reducible exact keeps_sub hK (by decide))
   | (with_reducible rfl)
   | (with_reducible refine Keeps.ite (fun _ => ?_) (fun _ => ?_))
   | (with_reducible apply State.post_keeps)
   | (with_reducible refine Keeps.of_eq (by with_reducible assumption) ?_)
   | split
   | (extract_lets)
   | (dsimp only))

theorem State.overrun_keeps {K : Nat} {s₀ s : State} (a : Fin 10) (hK : K &&& 17179869376 = 0) (h : Keeps K s₀ s) :
    Keeps K s₀ (State.overrun s a) := by
  unfold State.overrun
  (try extract_lets)
  repeat' (first
   | (with_reducible assumption)
   | (with_reducible exact keeps_sub hK (by decide))
   | (with_reducible rfl)
   | exact keeps_block hK 2 (by decide) (by decide)
   | exact keeps_block hK 2 (by simp only [Reg.TIME_LEASH_OVR]; omega) (by decide)
   | (with_reducible refine Keeps.ite (fun _ => ?_) (fun _ => ?_))
   | (with_reducible apply State.postOverrun_keeps)
   | (with_reducible apply State.inc_keeps)
   | (with_reducible refine Keeps.of_eq (by with_reducible assumption) ?_)
   | split
   | (extract_lets)
   | (with_reducible apply Keeps.set_leash)
   | (dsimp only))

theorem State.closeOverruns_keeps {K : Nat} {s₀ s : State} (hK : K &&& 17179869376 = 0) (h : Keeps K s₀ s) :
    Keeps K s₀ (State.closeOverruns s) := by
  unfold State.closeOverruns
  (try extract_lets)
  repeat' (first
   | (with_reducible assumption)
   | (with_reducible exact keeps_sub hK (by decide))
   | (with_reducible rfl)
   | (with_reducible refine Keeps.ite (fun _ => ?_) (fun _ => ?_))
   | (with_reducible apply State.overrun_keeps)
   | (with_reducible refine Keeps.foldl _ _ (fun s x h => ?_) ?_)
   | (with_reducible refine Keeps.foldl_fst _ _ (fun s x h => ?_) ?_)
   | (with_reducible refine Keeps.of_eq (by with_reducible assumption) ?_)
   | split
   | (extract_lets)
   | (with_reducible apply Keeps.set_leash)
   | (dsimp only))

theorem State.frameEnd_keeps {K : Nat} {s₀ s : State} (used : Vector (BitVec 17) 10) (hK : K &&& 17180008640 = 0) (h : Keeps K s₀ s) :
    Keeps K s₀ (State.frameEnd s used) := by
  unfold State.frameEnd
  (try extract_lets)
  repeat' (first
   | (with_reducible assumption)
   | (with_reducible exact keeps_sub hK (by decide))
   | (with_reducible rfl)
   | exact keeps_block hK 2 (by decide) (by decide)
   | exact keeps_block hK 2 (by simp only [Reg.TIME_LEASH_USED]; omega) (by decide)
   | (with_reducible refine Keeps.ite (fun _ => ?_) (fun _ => ?_))
   | (with_reducible apply State.setReg_keeps)
   | (with_reducible apply State.closeOverruns_keeps)
   | (with_reducible apply State.stageRecord_keeps)
   | (with_reducible refine Keeps.foldl _ _ (fun s x h => ?_) ?_)
   | (with_reducible refine Keeps.foldl_fst _ _ (fun s x h => ?_) ?_)
   | (with_reducible refine Keeps.of_eq (by with_reducible assumption) ?_)
   | split
   | (extract_lets)
   | (with_reducible apply Keeps.set_leash_hedge)
   | (dsimp only))

theorem State.shadowCheck_keeps {K : Nat} {s₀ s : State} (shadow : BitVec 4) (hK : K &&& 94639606366362 = 0) (h : Keeps K s₀ s) :
    Keeps K s₀ (State.shadowCheck s shadow) := by
  unfold State.shadowCheck
  (try extract_lets)
  repeat' (first
   | (with_reducible assumption)
   | (with_reducible exact keeps_sub hK (by decide))
   | (with_reducible rfl)
   | (with_reducible refine Keeps.ite (fun _ => ?_) (fun _ => ?_))
   | (with_reducible apply State.testFails_keeps)
   | (with_reducible refine Keeps.foldl_range _ _ (fun s x hx h => ?_) ?_)
   | (with_reducible refine Keeps.foldl _ _ (fun s x h => ?_) ?_)
   | (with_reducible refine Keeps.foldl_fst _ _ (fun s x h => ?_) ?_)
   | (with_reducible refine Keeps.of_eq (by with_reducible assumption) ?_)
   | split
   | (extract_lets)
   | (dsimp only))

theorem execLeashFrameBoundary_keeps {K : Nat} (x : FrameUse) {s t : State} (hK : K &&& 94656786243802 = 0) (h : s.Stored)
    (e : execLeashFrameBoundary x s = .next t) : Keeps K s t := by
  unfold execLeashFrameBoundary at e
  have e := Host.Outcome.next.inj e
  subst e
  have h := Keeps.refl (K := K) h
  repeat' (first
   | (with_reducible assumption)
   | (with_reducible exact keeps_sub hK (by decide))
   | (with_reducible rfl)
   | (with_reducible refine Keeps.ite (fun _ => ?_) (fun _ => ?_))
   | (with_reducible apply State.shadowCheck_keeps)
   | (with_reducible apply State.frameEnd_keeps)
   | (with_reducible refine Keeps.of_eq (by with_reducible assumption) ?_)
   | split
   | (extract_lets)
   | (dsimp only))

theorem State.leashClr_keeps {K : Nat} {s₀ s : State} (v : Word) (hK : K &&& 17179869184 = 0) (h : Keeps K s₀ s) :
    Keeps K s₀ (State.leashClr s v) := by
  unfold State.leashClr
  (try extract_lets)
  repeat' (first
   | (with_reducible assumption)
   | (with_reducible exact keeps_sub hK (by decide))
   | (with_reducible rfl)
   | (with_reducible refine Keeps.ite (fun _ => ?_) (fun _ => ?_))
   | (with_reducible refine State.clearBy_keeps _ _ 2 (by decide) (keeps_bit hK (by decide)) ?_)
   | (with_reducible refine Keeps.of_eq (by with_reducible assumption) ?_)
   | split
   | (extract_lets)
   | (dsimp only))

end Sys2Proof.Machine
end

