-- ==== Sys2Proof/Laws/KeepsPower.lean ====
section
/-! SUPPORT. What the operations and commands of Machine/Power.lean leave unchanged: one lemma for each, its mask the parts it
may write. -/

set_option linter.all false

namespace Sys2Proof.Machine

theorem State.postPowerNow_keeps {K : Nat} {s₀ s : State} (kind : Nat) (target : Nat) (src : Nat) (noChange : Bool) (hK : K &&& 128 = 0) (h : Keeps K s₀ s) :
    Keeps K s₀ (State.postPowerNow s kind target src noChange) := by
  unfold State.postPowerNow
  (try extract_lets)
  repeat' (first
   | (with_reducible assumption)
   | (with_reducible exact keeps_sub hK (by decide))
   | (with_reducible rfl)
   | (with_reducible refine Keeps.ite (fun _ => ?_) (fun _ => ?_))
   | (with_reducible apply State.postPower_keeps)
   | (with_reducible refine Keeps.of_eq (by with_reducible assumption) ?_)
   | split
   | (extract_lets)
   | (dsimp only))

theorem State.armAlarm_keeps {K : Nat} {s₀ s : State} (alarm : Word) (hK : K &&& 8589934592 = 0) (h : Keeps K s₀ s) :
    Keeps K s₀ (State.armAlarm s alarm) := by
  unfold State.armAlarm
  (try extract_lets)
  repeat' (first
   | (with_reducible assumption)
   | (with_reducible exact keeps_sub hK (by decide))
   | (with_reducible rfl)
   | exact keeps_block hK 1 (by decide) (by decide)
   | (with_reducible refine Keeps.ite (fun _ => ?_) (fun _ => ?_))
   | (with_reducible apply State.setReg_keeps)
   | (with_reducible apply State.setFlag_keeps)
   | (with_reducible refine Keeps.of_eq (by with_reducible assumption) ?_)
   | split
   | (extract_lets)
   | (dsimp only))

theorem State.beginHandshake_keeps {K : Nat} {s₀ s : State} (target : Nat) (hK : K &&& 8590721024 = 0) (h : Keeps K s₀ s) :
    Keeps K s₀ (State.beginHandshake s target) := by
  unfold State.beginHandshake
  (try extract_lets)
  repeat' (first
   | (with_reducible assumption)
   | (with_reducible exact keeps_sub hK (by decide))
   | (with_reducible rfl)
   | exact keeps_block hK 1 (by decide) (by decide)
   | (with_reducible refine Keeps.ite (fun _ => ?_) (fun _ => ?_))
   | (with_reducible apply State.setFld_keeps)
   | (with_reducible refine Keeps.of_eq (by with_reducible assumption) ?_)
   | split
   | (extract_lets)
   | (with_reducible apply Keeps.set_bist_pmc)
   | (dsimp only))

theorem State.requestPower_keeps {K : Nat} {s₀ s : State} (target : Nat) (alarm : Word) (hK : K &&& 17605072781448 = 0) (h : Keeps K s₀ s) :
    Keeps K s₀ (State.requestPower s target alarm).1 := by
  unfold State.requestPower
  (try extract_lets)
  repeat' (first
   | (with_reducible assumption)
   | (with_reducible exact keeps_sub hK (by decide))
   | (with_reducible rfl)
   | (with_reducible refine Keeps.ite (fun _ => ?_) (fun _ => ?_))
   | (with_reducible apply State.postPowerNow_keeps)
   | (with_reducible apply State.armAlarm_keeps)
   | (with_reducible apply State.abortEntry_keeps)
   | (with_reducible apply State.beginHandshake_keeps)
   | (with_reducible refine Keeps.of_eq (by with_reducible assumption) ?_)
   | split
   | (extract_lets)
   | (with_reducible apply Keeps.set_pmc)
   | (dsimp only))

theorem execPowerStateRequest_keeps {K : Nat} (r : Req) (target : Byte) (alarm : Word) {s t : State} (hK : K &&& 26401167901064 = 0) (h : s.Stored)
    (e : execPowerStateRequest r target alarm s = .next t) : Keeps K s t := by
  unfold execPowerStateRequest at e
  have e := Host.Outcome.next.inj e
  subst e
  have h := Keeps.refl (K := K) h
  repeat' (first
   | (with_reducible assumption)
   | (with_reducible exact keeps_sub hK (by decide))
   | (with_reducible rfl)
   | (with_reducible refine Keeps.ite (fun _ => ?_) (fun _ => ?_))
   | (with_reducible apply State.awaitTurn_keeps)
   | (with_reducible apply State.command_keeps)
   | (with_reducible apply State.requestPower_keeps)
   | (with_reducible refine Keeps.of_eq (by with_reducible assumption) ?_)
   | (intro s h)
   | split
   | (extract_lets)
   | (dsimp only))

theorem State.enterOff_keeps {K : Nat} {s₀ s : State} (hK : K &&& 281470698520562 = 0) (h : Keeps K s₀ s) :
    Keeps K s₀ (State.enterOff s) := by
  unfold State.enterOff
  (try extract_lets)
  repeat' (first
   | (with_reducible assumption)
   | (with_reducible exact keeps_sub hK (by decide))
   | (with_reducible rfl)
   | (with_reducible refine Keeps.ite (fun _ => ?_) (fun _ => ?_))
   | (with_reducible apply State.cleared_keeps)
   | (with_reducible refine Keeps.of_eq (by with_reducible assumption) ?_)
   | split
   | (extract_lets)
   | (with_reducible apply Keeps.set_dev_pmc)
   | (dsimp only))

theorem State.commitEntry_keeps {K : Nat} {s₀ s : State} (hK : K &&& 281470698520562 = 0) (h : Keeps K s₀ s) :
    Keeps K s₀ (State.commitEntry s) := by
  unfold State.commitEntry
  (try extract_lets)
  repeat' (first
   | (with_reducible assumption)
   | (with_reducible exact keeps_sub hK (by decide))
   | (with_reducible rfl)
   | exact keeps_block hK 1 (by decide) (by decide)
   | exact keeps_block hK 15 (by decide) (by decide)
   | (with_reducible refine Keeps.ite (fun _ => ?_) (fun _ => ?_))
   | (with_reducible apply State.setFlag_keeps)
   | (with_reducible apply State.setFld_keeps)
   | (with_reducible apply State.applyActions_keeps)
   | (with_reducible apply State.inc_keeps)
   | (with_reducible apply State.enterOff_keeps)
   | (with_reducible refine Keeps.of_eq (by with_reducible assumption) ?_)
   | split
   | (extract_lets)
   | (with_reducible apply Keeps.set_hedge_pmc)
   | (dsimp only))

theorem State.checkCommit_keeps {K : Nat} {s₀ s : State} (hK : K &&& 281470698520570 = 0) (h : Keeps K s₀ s) :
    Keeps K s₀ (State.checkCommit s) := by
  unfold State.checkCommit
  (try extract_lets)
  repeat' (first
   | (with_reducible assumption)
   | (with_reducible exact keeps_sub hK (by decide))
   | (with_reducible rfl)
   | (with_reducible refine Keeps.ite (fun _ => ?_) (fun _ => ?_))
   | (with_reducible apply State.postPowerNow_keeps)
   | (with_reducible apply State.abortEntry_keeps)
   | (with_reducible apply State.commitEntry_keeps)
   | (with_reducible refine Keeps.of_eq (by with_reducible assumption) ?_)
   | split
   | (extract_lets)
   | (with_reducible apply Keeps.set_pmc)
   | (dsimp only))

theorem State.setAnswer_keeps {K : Nat} {s₀ s : State} (b : Fin 16) (a : QAnswer) (hK : K &&& 524288 = 0) (h : Keeps K s₀ s) :
    Keeps K s₀ (State.setAnswer s b a) := by
  unfold State.setAnswer
  (try extract_lets)
  repeat' (first
   | (with_reducible assumption)
   | (with_reducible exact keeps_sub hK (by decide))
   | (with_reducible rfl)
   | (with_reducible refine Keeps.ite (fun _ => ?_) (fun _ => ?_))
   | (with_reducible refine Keeps.of_eq (by with_reducible assumption) ?_)
   | split
   | (extract_lets)
   | (with_reducible apply Keeps.set_pmc)
   | (dsimp only))

theorem State.prepareBlock_keeps {K : Nat} {s₀ s : State} (b : Fin 16) (hK : K &&& 549757411464 = 0) (h : Keeps K s₀ s) :
    Keeps K s₀ (State.prepareBlock s b) := by
  unfold State.prepareBlock
  (try extract_lets)
  repeat' (first
   | (with_reducible assumption)
   | (with_reducible exact keeps_sub hK (by decide))
   | (with_reducible rfl)
   | (with_reducible refine Keeps.ite (fun _ => ?_) (fun _ => ?_))
   | (with_reducible apply State.gaugeSnap_keeps)
   | (with_reducible apply State.dozeStep1_keeps)
   | (with_reducible apply State.setAnswer_keeps)
   | (with_reducible apply State.snapshot_keeps)
   | (with_reducible refine Keeps.of_eq (by with_reducible assumption) ?_)
   | split
   | (extract_lets)
   | (dsimp only))

theorem State.answerNow_keeps {K : Nat} {s₀ s : State} (b : Fin 16) (hK : K &&& 281470698520570 = 0) (h : Keeps K s₀ s) :
    Keeps K s₀ (State.answerNow s b) := by
  unfold State.answerNow
  (try extract_lets)
  repeat' (first
   | (with_reducible assumption)
   | (with_reducible exact keeps_sub hK (by decide))
   | (with_reducible rfl)
   | (with_reducible refine Keeps.ite (fun _ => ?_) (fun _ => ?_))
   | (with_reducible apply State.prepareBlock_keeps)
   | (with_reducible apply State.abortEntry_keeps)
   | (with_reducible apply State.setAnswer_keeps)
   | (with_reducible apply State.checkCommit_keeps)
   | (with_reducible refine Keeps.of_eq (by with_reducible assumption) ?_)
   | split
   | (extract_lets)
   | (dsimp only))

theorem State.answerLate_keeps {K : Nat} {s₀ s : State} (b : Fin 16) (hK : K &&& 8589934592 = 0) (h : Keeps K s₀ s) :
    Keeps K s₀ (State.answerLate s b) := by
  unfold State.answerLate
  (try extract_lets)
  repeat' (first
   | (with_reducible assumption)
   | (with_reducible exact keeps_sub hK (by decide))
   | (with_reducible rfl)
   | (with_reducible refine Keeps.ite (fun _ => ?_) (fun _ => ?_))
   | (with_reducible apply State.logRefusal_keeps)
   | (with_reducible refine Keeps.of_eq (by with_reducible assumption) ?_)
   | split
   | (extract_lets)
   | (dsimp only))

theorem State.quiesceAnswer_keeps {K : Nat} {s₀ s : State} (b : Fin 16) (hK : K &&& 281470698520570 = 0) (h : Keeps K s₀ s) :
    Keeps K s₀ (State.quiesceAnswer s b) := by
  unfold State.quiesceAnswer
  (try extract_lets)
  repeat' (first
   | (with_reducible assumption)
   | (with_reducible exact keeps_sub hK (by decide))
   | (with_reducible rfl)
   | (with_reducible refine Keeps.ite (fun _ => ?_) (fun _ => ?_))
   | (with_reducible apply State.answerLate_keeps)
   | (with_reducible apply State.answerNow_keeps)
   | (with_reducible refine Keeps.of_eq (by with_reducible assumption) ?_)
   | split
   | (extract_lets)
   | (dsimp only))

theorem execQuiesceAnswer_keeps {K : Nat} (block : Fin 16) {s t : State} (hK : K &&& 281470698520570 = 0) (h : s.Stored)
    (e : execQuiesceAnswer block s = .next t) : Keeps K s t := by
  unfold execQuiesceAnswer at e
  have e := Host.Outcome.next.inj e
  subst e
  have h := Keeps.refl (K := K) h
  repeat' (first
   | (with_reducible assumption)
   | (with_reducible exact keeps_sub hK (by decide))
   | (with_reducible rfl)
   | (with_reducible refine Keeps.ite (fun _ => ?_) (fun _ => ?_))
   | (with_reducible apply State.quiesceAnswer_keeps)
   | (with_reducible refine Keeps.of_eq (by with_reducible assumption) ?_)
   | split
   | (extract_lets)
   | (dsimp only))

theorem execQuiesceNoAnswer_keeps {K : Nat} (block : Fin 16) {s t : State} (hK : K &&& 17605072781448 = 0) (h : s.Stored)
    (e : execQuiesceNoAnswer block s = .next t) : Keeps K s t := by
  unfold execQuiesceNoAnswer at e
  have e := Host.Outcome.next.inj e
  subst e
  have h := Keeps.refl (K := K) h
  repeat' (first
   | (with_reducible assumption)
   | (with_reducible exact keeps_sub hK (by decide))
   | (with_reducible rfl)
   | (with_reducible refine Keeps.ite (fun _ => ?_) (fun _ => ?_))
   | (with_reducible apply State.abortEntry_keeps)
   | (with_reducible refine Keeps.of_eq (by with_reducible assumption) ?_)
   | split
   | (extract_lets)
   | (dsimp only))

theorem execHandshakeLimit_keeps {K : Nat} {s t : State} (hK : K &&& 17605072781448 = 0) (h : s.Stored)
    (e : execHandshakeLimit s = .next t) : Keeps K s t := by
  unfold execHandshakeLimit at e
  have e := Host.Outcome.next.inj e
  subst e
  have h := Keeps.refl (K := K) h
  repeat' (first
   | (with_reducible assumption)
   | (with_reducible exact keeps_sub hK (by decide))
   | (with_reducible rfl)
   | (with_reducible refine Keeps.ite (fun _ => ?_) (fun _ => ?_))
   | (with_reducible apply State.abortEntry_keeps)
   | (with_reducible refine Keeps.of_eq (by with_reducible assumption) ?_)
   | split
   | (extract_lets)
   | (dsimp only))

theorem State.drainOne_keeps {K : Nat} {s₀ s : State} (d : Nat) (hK : K &&& 26392581398920 = 0) (h : Keeps K s₀ s) :
    Keeps K s₀ (State.drainOne s d) := by
  unfold State.drainOne
  (try extract_lets)
  repeat' (first
   | (with_reducible assumption)
   | (with_reducible exact keeps_sub hK (by decide))
   | (with_reducible rfl)
   | (with_reducible refine Keeps.ite (fun _ => ?_) (fun _ => ?_))
   | (with_reducible apply State.ringLose_keeps)
   | (with_reducible apply State.offerCtx_keeps)
   | (with_reducible apply State.served_keeps)
   | (with_reducible apply State.offerPort_keeps)
   | (with_reducible apply State.jrnAppend_keeps)
   | (with_reducible refine Keeps.of_eq (by with_reducible assumption) ?_)
   | split
   | (extract_lets)
   | (dsimp only))

theorem State.drainFabric_keeps {K : Nat} {s₀ s : State} (hK : K &&& 26392581398920 = 0) (h : Keeps K s₀ s) :
    Keeps K s₀ (State.drainFabric s) := by
  unfold State.drainFabric
  (try extract_lets)
  repeat' (first
   | (with_reducible assumption)
   | (with_reducible exact keeps_sub hK (by decide))
   | (with_reducible rfl)
   | (with_reducible refine Keeps.ite (fun _ => ?_) (fun _ => ?_))
   | (with_reducible apply State.drainOne_keeps)
   | (with_reducible refine Keeps.foldl_range _ _ (fun s x hx h => ?_) ?_)
   | (with_reducible refine Keeps.foldl _ _ (fun s x h => ?_) ?_)
   | (with_reducible refine Keeps.foldl_fst _ _ (fun s x h => ?_) ?_)
   | (with_reducible refine Keeps.of_eq (by with_reducible assumption) ?_)
   | split
   | (extract_lets)
   | (with_reducible apply Keeps.set_fabric)
   | (dsimp only))

theorem State.entryEdge_keeps {K : Nat} {s₀ s : State} (lpoPpm : Int) (hK : K &&& 33212990023672 = 0) (h : Keeps K s₀ s) :
    Keeps K s₀ (State.entryEdge s lpoPpm) := by
  unfold State.entryEdge
  (try extract_lets)
  repeat' (first
   | (with_reducible assumption)
   | (with_reducible exact keeps_sub hK (by decide))
   | (with_reducible rfl)
   | exact keeps_block hK 5 (by decide) (by decide)
   | (with_reducible refine Keeps.ite (fun _ => ?_) (fun _ => ?_))
   | (with_reducible apply State.fansSleep_keeps)
   | (with_reducible apply State.keysSleep_keeps)
   | (with_reducible apply State.setFlag_keeps)
   | (with_reducible apply State.drainFabric_keeps)
   | (with_reducible apply State.closeOverruns_keeps)
   | (with_reducible apply State.motionSleep_keeps)
   | (with_reducible apply State.setFmod_keeps)
   | (with_reducible refine Keeps.of_eq (by with_reducible assumption) ?_)
   | split
   | (extract_lets)
   | (with_reducible apply Keeps.set_dev_time_fabric_batt_pmc_ring)
   | (dsimp only))

theorem execEntryEdge_keeps {K : Nat} (lpoPpm : Word) {s t : State} (hK : K &&& 33212990023672 = 0) (h : s.Stored)
    (e : execEntryEdge lpoPpm s = .next t) : Keeps K s t := by
  unfold execEntryEdge at e
  have e := Host.Outcome.next.inj e
  subst e
  have h := Keeps.refl (K := K) h
  repeat' (first
   | (with_reducible assumption)
   | (with_reducible exact keeps_sub hK (by decide))
   | (with_reducible rfl)
   | (with_reducible refine Keeps.ite (fun _ => ?_) (fun _ => ?_))
   | (with_reducible apply State.entryEdge_keeps)
   | (with_reducible refine Keeps.of_eq (by with_reducible assumption) ?_)
   | split
   | (extract_lets)
   | (dsimp only))

theorem execLinkL23Ready_keeps {K : Nat} {s t : State} (hK : K &&& 281470698520570 = 0) (h : s.Stored)
    (e : execLinkL23Ready s = .next t) : Keeps K s t := by
  unfold execLinkL23Ready at e
  have e := Host.Outcome.next.inj e
  subst e
  have h := Keeps.refl (K := K) h
  repeat' (first
   | (with_reducible assumption)
   | (with_reducible exact keeps_sub hK (by decide))
   | (with_reducible rfl)
   | (with_reducible refine Keeps.ite (fun _ => ?_) (fun _ => ?_))
   | (with_reducible apply State.quiesceAnswer_keeps)
   | (with_reducible refine Keeps.of_eq (by with_reducible assumption) ?_)
   | split
   | (extract_lets)
   | (with_reducible apply Keeps.set_pmc)
   | (dsimp only))

theorem execWakePinAssert_keeps {K : Nat} {s t : State} (hK : K &&& 17605072783496 = 0) (h : s.Stored)
    (e : execWakePinAssert s = .next t) : Keeps K s t := by
  unfold execWakePinAssert at e
  have e := Host.Outcome.next.inj e
  subst e
  have h := Keeps.refl (K := K) h
  repeat' (first
   | (with_reducible assumption)
   | (with_reducible exact keeps_sub hK (by decide))
   | (with_reducible rfl)
   | (with_reducible refine Keeps.ite (fun _ => ?_) (fun _ => ?_))
   | (with_reducible apply State.wakeDetect_keeps)
   | (with_reducible refine Keeps.of_eq (by with_reducible assumption) ?_)
   | split
   | (extract_lets)
   | (dsimp only))

theorem execDockWake_keeps {K : Nat} (level : Bool) {s t : State} (hK : K &&& 17605072783496 = 0) (h : s.Stored)
    (e : execDockWake level s = .next t) : Keeps K s t := by
  unfold execDockWake at e
  have e := Host.Outcome.next.inj e
  subst e
  have h := Keeps.refl (K := K) h
  repeat' (first
   | (with_reducible assumption)
   | (with_reducible exact keeps_sub hK (by decide))
   | (with_reducible rfl)
   | (with_reducible refine Keeps.ite (fun _ => ?_) (fun _ => ?_))
   | (with_reducible apply State.wakeDetect_keeps)
   | (with_reducible refine Keeps.of_eq (by with_reducible assumption) ?_)
   | split
   | (extract_lets)
   | (dsimp only))

theorem execAlarmMatch_keeps {K : Nat} {s t : State} (hK : K &&& 17605072783496 = 0) (h : s.Stored)
    (e : execAlarmMatch s = .next t) : Keeps K s t := by
  unfold execAlarmMatch at e
  have e := Host.Outcome.next.inj e
  subst e
  have h := Keeps.refl (K := K) h
  repeat' (first
   | (with_reducible assumption)
   | (with_reducible exact keeps_sub hK (by decide))
   | (with_reducible rfl)
   | (with_reducible refine Keeps.ite (fun _ => ?_) (fun _ => ?_))
   | (with_reducible apply State.wakeFire_keeps)
   | (with_reducible apply State.armAlarm_keeps)
   | (with_reducible refine Keeps.of_eq (by with_reducible assumption) ?_)
   | split
   | (extract_lets)
   | (dsimp only))

theorem execLinkActivityWake_keeps {K : Nat} {s t : State} (hK : K &&& 17605072783496 = 0) (h : s.Stored)
    (e : execLinkActivityWake s = .next t) : Keeps K s t := by
  unfold execLinkActivityWake at e
  have e := Host.Outcome.next.inj e
  subst e
  have h := Keeps.refl (K := K) h
  repeat' (first
   | (with_reducible assumption)
   | (with_reducible exact keeps_sub hK (by decide))
   | (with_reducible rfl)
   | (with_reducible refine Keeps.ite (fun _ => ?_) (fun _ => ?_))
   | (with_reducible apply State.wakeDetect_keeps)
   | (with_reducible refine Keeps.of_eq (by with_reducible assumption) ?_)
   | split
   | (extract_lets)
   | (dsimp only))

theorem execMailboxWake_keeps {K : Nat} (byCs : Bool) {s t : State} (hK : K &&& 17605074880648 = 0) (h : s.Stored)
    (e : execMailboxWake byCs s = .next t) : Keeps K s t := by
  unfold execMailboxWake at e
  have e := Host.Outcome.next.inj e
  subst e
  have h := Keeps.refl (K := K) h
  repeat' (first
   | (with_reducible assumption)
   | (with_reducible exact keeps_sub hK (by decide))
   | (with_reducible rfl)
   | (with_reducible refine Keeps.ite (fun _ => ?_) (fun _ => ?_))
   | (with_reducible apply State.wakeDetect_keeps)
   | (with_reducible refine Keeps.of_eq (by with_reducible assumption) ?_)
   | split
   | (extract_lets)
   | (with_reducible apply Keeps.set_mbox)
   | (dsimp only))

theorem execMailboxReady_keeps {K : Nat} {s t : State} (hK : K &&& 140737488355328 = 0) (h : s.Stored)
    (e : execMailboxReady s = .next t) : Keeps K s t := by
  unfold execMailboxReady at e
  have e := Host.Outcome.next.inj e
  subst e
  have h := Keeps.refl (K := K) h
  repeat' (first
   | (with_reducible assumption)
   | (with_reducible exact keeps_sub hK (by decide))
   | (with_reducible rfl)
   | exact keeps_block hK 15 (by decide) (by decide)
   | (with_reducible refine Keeps.ite (fun _ => ?_) (fun _ => ?_))
   | (with_reducible apply State.setFlag_keeps)
   | (with_reducible refine Keeps.of_eq (by with_reducible assumption) ?_)
   | split
   | (extract_lets)
   | (dsimp only))

theorem State.wakeEvent_keeps {K : Nat} {s₀ s : State} (hK : K &&& 8590458880 = 0) (h : Keeps K s₀ s) :
    Keeps K s₀ (State.wakeEvent s) := by
  unfold State.wakeEvent
  (try extract_lets)
  repeat' (first
   | (with_reducible assumption)
   | (with_reducible exact keeps_sub hK (by decide))
   | (with_reducible rfl)
   | exact keeps_block hK 1 (by decide) (by decide)
   | (with_reducible refine Keeps.ite (fun _ => ?_) (fun _ => ?_))
   | (with_reducible apply State.setReg_keeps)
   | (with_reducible apply State.setFld_keeps)
   | (with_reducible refine Keeps.foldl _ _ (fun s x h => ?_) ?_)
   | (with_reducible refine Keeps.foldl_fst _ _ (fun s x h => ?_) ?_)
   | (with_reducible refine Keeps.of_eq (by with_reducible assumption) ?_)
   | split
   | (extract_lets)
   | (with_reducible apply Keeps.set_pmc)
   | (dsimp only))

theorem execWakeEvent_keeps {K : Nat} {s t : State} (hK : K &&& 8590458880 = 0) (h : s.Stored)
    (e : execWakeEvent s = .next t) : Keeps K s t := by
  unfold execWakeEvent at e
  have e := Host.Outcome.next.inj e
  subst e
  have h := Keeps.refl (K := K) h
  repeat' (first
   | (with_reducible assumption)
   | (with_reducible exact keeps_sub hK (by decide))
   | (with_reducible rfl)
   | (with_reducible refine Keeps.ite (fun _ => ?_) (fun _ => ?_))
   | (with_reducible apply State.wakeEvent_keeps)
   | (with_reducible refine Keeps.of_eq (by with_reducible assumption) ?_)
   | split
   | (extract_lets)
   | (dsimp only))

theorem State.wakeLink_keeps {K : Nat} {s₀ s : State} (hK : K &&& 26409755476384 = 0) (h : Keeps K s₀ s) :
    Keeps K s₀ (State.wakeLink s) := by
  unfold State.wakeLink
  (try extract_lets)
  repeat' (first
   | (with_reducible assumption)
   | (with_reducible exact keeps_sub hK (by decide))
   | (with_reducible rfl)
   | (with_reducible refine Keeps.ite (fun _ => ?_) (fun _ => ?_))
   | (with_reducible apply State.perstReset_keeps)
   | (with_reducible refine Keeps.of_eq (by with_reducible assumption) ?_)
   | split
   | (extract_lets)
   | (with_reducible apply Keeps.set_pmc_ring)
   | (with_reducible apply Keeps.set_pmc)
   | (dsimp only))

theorem State.restartEdge_keeps {K : Nat} {s₀ s : State} (herdLow : Bool) (hK : K &&& 34999690575856 = 0) (h : Keeps K s₀ s) :
    Keeps K s₀ (State.restartEdge s herdLow) := by
  unfold State.restartEdge
  (try extract_lets)
  repeat' (first
   | (with_reducible assumption)
   | (with_reducible exact keeps_sub hK (by decide))
   | (with_reducible rfl)
   | exact keeps_block hK 2 (by decide) (by decide)
   | exact keeps_block hK 8 (by decide) (by decide)
   | (with_reducible refine Keeps.ite (fun _ => ?_) (fun _ => ?_))
   | (with_reducible apply State.setReg_keeps)
   | (with_reducible apply State.setFlag_keeps)
   | (with_reducible apply State.thermResume_keeps)
   | (with_reducible apply State.wakeLink_keeps)
   | (with_reducible apply State.emptyFilters_keeps)
   | (with_reducible apply State.setFld_keeps)
   | (with_reducible apply State.motionResume_keeps)
   | (with_reducible apply State.keysResume_keeps)
   | (with_reducible apply State.herdResume_keeps)
   | (with_reducible refine Keeps.of_eq (by with_reducible assumption) ?_)
   | split
   | (extract_lets)
   | (with_reducible apply Keeps.set_dev_time_leash_bist_pmc)
   | (dsimp only))

theorem execRestartEdge_keeps {K : Nat} (kedges : Vector (BitVec 16) 4) (herdLow : Bool) {s t : State} (hK : K &&& 34999690575856 = 0) (h : s.Stored)
    (e : execRestartEdge kedges herdLow s = .next t) : Keeps K s t := by
  unfold execRestartEdge at e
  have e := Host.Outcome.next.inj e
  subst e
  have h := Keeps.refl (K := K) h
  repeat' (first
   | (with_reducible assumption)
   | (with_reducible exact keeps_sub hK (by decide))
   | (with_reducible rfl)
   | (with_reducible refine Keeps.ite (fun _ => ?_) (fun _ => ?_))
   | (with_reducible apply State.restartEdge_keeps)
   | (with_reducible apply State.lateEdges_keeps)
   | (with_reducible refine Keeps.of_eq (by with_reducible assumption) ?_)
   | split
   | (extract_lets)
   | (dsimp only))

theorem State.markWake_keeps {K : Nat} {s₀ s : State} (hK : K &&& 3145728 = 0) (h : Keeps K s₀ s) :
    Keeps K s₀ (State.markWake s) := by
  unfold State.markWake
  (try extract_lets)
  repeat' (first
   | (with_reducible assumption)
   | (with_reducible exact keeps_sub hK (by decide))
   | (with_reducible rfl)
   | (with_reducible refine Keeps.ite (fun _ => ?_) (fun _ => ?_))
   | (with_reducible refine Keeps.of_eq (by with_reducible assumption) ?_)
   | split
   | (extract_lets)
   | (with_reducible apply Keeps.set_ring_mbox)
   | (dsimp only))

theorem State.releaseRecords_keeps {K : Nat} {s₀ s : State} (hK : K &&& 128 = 0) (h : Keeps K s₀ s) :
    Keeps K s₀ (State.releaseRecords s) := by
  unfold State.releaseRecords
  (try extract_lets)
  repeat' (first
   | (with_reducible assumption)
   | (with_reducible exact keeps_sub hK (by decide))
   | (with_reducible rfl)
   | (with_reducible refine Keeps.ite (fun _ => ?_) (fun _ => ?_))
   | (with_reducible apply State.offer_keeps)
   | (with_reducible refine Keeps.foldl _ _ (fun s x h => ?_) ?_)
   | (with_reducible refine Keeps.foldl_fst _ _ (fun s x h => ?_) ?_)
   | (with_reducible refine Keeps.of_eq (by with_reducible assumption) ?_)
   | split
   | (extract_lets)
   | (with_reducible apply Keeps.set_fabric)
   | (dsimp only))

theorem State.postWake_keeps {K : Nat} {s₀ s : State} (hK : K &&& 128 = 0) (h : Keeps K s₀ s) :
    Keeps K s₀ (State.postWake s) := by
  unfold State.postWake
  (try extract_lets)
  repeat' (first
   | (with_reducible assumption)
   | (with_reducible exact keeps_sub hK (by decide))
   | (with_reducible rfl)
   | (with_reducible refine Keeps.ite (fun _ => ?_) (fun _ => ?_))
   | (with_reducible apply State.postRec_keeps)
   | (with_reducible refine Keeps.of_eq (by with_reducible assumption) ?_)
   | split
   | (extract_lets)
   | (dsimp only))

theorem State.postGated_keeps {K : Nat} {s₀ s : State} (b : Fin 16) (hK : K &&& 524416 = 0) (h : Keeps K s₀ s) :
    Keeps K s₀ (State.postGated s b) := by
  unfold State.postGated
  (try extract_lets)
  repeat' (first
   | (with_reducible assumption)
   | (with_reducible exact keeps_sub hK (by decide))
   | (with_reducible rfl)
   | (with_reducible refine Keeps.ite (fun _ => ?_) (fun _ => ?_))
   | (with_reducible apply State.postAt_keeps)
   | (with_reducible refine Keeps.of_eq (by with_reducible assumption) ?_)
   | split
   | (extract_lets)
   | (with_reducible apply Keeps.set_pmc)
   | (dsimp only))

theorem State.gatedAccess_keeps {K : Nat} {s₀ s : State} (b : Fin 16) (off : Nat) (write : Bool) (viaCmd : Bool) (bar2 : Bool) (hK : K &&& 17605071470728 = 0) (h : Keeps K s₀ s) :
    Keeps K s₀ (State.gatedAccess s b off write viaCmd bar2) := by
  unfold State.gatedAccess
  (try extract_lets)
  repeat' (first
   | (with_reducible assumption)
   | (with_reducible exact keeps_sub hK (by decide))
   | (with_reducible rfl)
   | exact keeps_block hK 0 (by decide) (by decide)
   | (with_reducible refine Keeps.ite (fun _ => ?_) (fun _ => ?_))
   | (with_reducible apply State.postGated_keeps)
   | (with_reducible apply State.setReg_keeps)
   | (with_reducible apply State.inc_keeps)
   | (with_reducible apply State.pmcIrq_keeps)
   | (with_reducible refine Keeps.of_eq (by with_reducible assumption) ?_)
   | split
   | (extract_lets)
   | (with_reducible apply Keeps.set_pmc)
   | (dsimp only))

theorem execGatedRegisterAccess_keeps {K : Nat} (write : Bool) (viaCmd : Bool) (bar2 : Bool) (addr : BitVec 32) {s t : State} (hK : K &&& 17605088247944 = 0) (h : s.Stored)
    (e : execGatedRegisterAccess write viaCmd bar2 addr s = .next t) : Keeps K s t := by
  unfold execGatedRegisterAccess at e
  have e := Host.Outcome.next.inj e
  subst e
  have h := Keeps.refl (K := K) h
  repeat' (first
   | (with_reducible assumption)
   | (with_reducible exact keeps_sub hK (by decide))
   | (with_reducible rfl)
   | (with_reducible refine Keeps.ite (fun _ => ?_) (fun _ => ?_))
   | (with_reducible apply State.gatedAccess_keeps)
   | (with_reducible refine Keeps.of_eq (by with_reducible assumption) ?_)
   | split
   | (extract_lets)
   | (with_reducible apply Keeps.set_rdata)
   | (dsimp only))

theorem execGatedAccessReport_keeps {K : Nat} (block : Fin 16) {s t : State} (hK : K &&& 524416 = 0) (h : s.Stored)
    (e : execGatedAccessReport block s = .next t) : Keeps K s t := by
  unfold execGatedAccessReport at e
  have e := Host.Outcome.next.inj e
  subst e
  have h := Keeps.refl (K := K) h
  repeat' (first
   | (with_reducible assumption)
   | (with_reducible exact keeps_sub hK (by decide))
   | (with_reducible rfl)
   | (with_reducible refine Keeps.ite (fun _ => ?_) (fun _ => ?_))
   | (with_reducible apply State.postGated_keeps)
   | (with_reducible refine Keeps.of_eq (by with_reducible assumption) ?_)
   | split
   | (extract_lets)
   | (dsimp only))

theorem State.gatedClr_keeps {K : Nat} {s₀ s : State} (v : Word) (hK : K &&& 4294967296 = 0) (h : Keeps K s₀ s) :
    Keeps K s₀ (State.gatedClr s v) := by
  unfold State.gatedClr
  (try extract_lets)
  repeat' (first
   | (with_reducible assumption)
   | (with_reducible exact keeps_sub hK (by decide))
   | (with_reducible rfl)
   | (with_reducible refine Keeps.ite (fun _ => ?_) (fun _ => ?_))
   | (with_reducible refine State.clearBy_keeps _ _ 0 (by decide) (keeps_bit hK (by decide)) ?_)
   | (with_reducible refine Keeps.of_eq (by with_reducible assumption) ?_)
   | split
   | (extract_lets)
   | (dsimp only))

theorem State.pmcCntClr_keeps {K : Nat} {s₀ s : State} (v : Word) (hK : K &&& 8589934592 = 0) (h : Keeps K s₀ s) :
    Keeps K s₀ (State.pmcCntClr s v) := by
  unfold State.pmcCntClr
  (try extract_lets)
  repeat' (first
   | (with_reducible assumption)
   | (with_reducible exact keeps_sub hK (by decide))
   | (with_reducible rfl)
   | (with_reducible refine Keeps.ite (fun _ => ?_) (fun _ => ?_))
   | (with_reducible refine State.clearBy_keeps _ _ 1 (by decide) (keeps_bit hK (by decide)) ?_)
   | (with_reducible refine Keeps.of_eq (by with_reducible assumption) ?_)
   | split
   | (extract_lets)
   | (dsimp only))

theorem State.wakeClocks_keeps {K : Nat} {s₀ s : State} (ppm : Int) (ppmWord : Word) (hK : K &&& 1116691514402 = 0) (h : Keeps K s₀ s) :
    Keeps K s₀ (State.wakeClocks s ppm ppmWord) := by
  unfold State.wakeClocks
  (try extract_lets)
  repeat' (first
   | (with_reducible assumption)
   | (with_reducible exact keeps_sub hK (by decide))
   | (with_reducible rfl)
   | exact keeps_block hK 8 (by decide) (by decide)
   | (with_reducible refine Keeps.ite (fun _ => ?_) (fun _ => ?_))
   | (with_reducible apply State.setFlag_keeps)
   | (with_reducible apply State.toXo_keeps)
   | (with_reducible apply State.applyRaw_keeps)
   | (with_reducible refine Keeps.of_eq (by with_reducible assumption) ?_)
   | split
   | (extract_lets)
   | (with_reducible apply Keeps.set_motion)
   | (dsimp only))

theorem State.afterWake_keeps {K : Nat} {s₀ s : State} (hK : K &&& 6601370534024 = 0) (h : Keeps K s₀ s) :
    Keeps K s₀ (State.afterWake s) := by
  unfold State.afterWake
  (try extract_lets)
  repeat' (first
   | (with_reducible assumption)
   | (with_reducible exact keeps_sub hK (by decide))
   | (with_reducible rfl)
   | (with_reducible refine Keeps.ite (fun _ => ?_) (fun _ => ?_))
   | (with_reducible apply State.postGated_keeps)
   | (with_reducible apply State.enterPolling_keeps)
   | (with_reducible apply State.nudge_keeps)
   | (with_reducible apply State.kickErases_keeps)
   | (with_reducible apply State.fansFollow_keeps)
   | (with_reducible refine Keeps.foldl _ _ (fun s x h => ?_) ?_)
   | (with_reducible refine Keeps.foldl_fst _ _ (fun s x h => ?_) ?_)
   | (with_reducible refine Keeps.of_eq (by with_reducible assumption) ?_)
   | split
   | (extract_lets)
   | (with_reducible apply Keeps.set_pmc)
   | (dsimp only))

theorem State.wakeDone_keeps {K : Nat} {s₀ s : State} (hK : K &&& 25318840123562 = 0) (h : Keeps K s₀ s) :
    Keeps K s₀ (State.wakeDone s) := by
  unfold State.wakeDone
  (try extract_lets)
  repeat' (first
   | (with_reducible assumption)
   | (with_reducible exact keeps_sub hK (by decide))
   | (with_reducible rfl)
   | (with_reducible refine Keeps.ite (fun _ => ?_) (fun _ => ?_))
   | (with_reducible apply State.postPower_keeps)
   | (with_reducible apply State.postWake_keeps)
   | (with_reducible apply State.message_keeps)
   | (with_reducible apply State.releaseRecords_keeps)
   | (with_reducible apply State.ptmRestart_keeps)
   | (with_reducible apply State.afterWake_keeps)
   | (with_reducible apply State.gaugeRefresh_keeps)
   | (with_reducible apply State.markWake_keeps)
   | (with_reducible apply State.pmcIrq_keeps)
   | (with_reducible refine Keeps.foldl_range _ _ (fun s x hx h => ?_) ?_)
   | (with_reducible refine Keeps.foldl _ _ (fun s x h => ?_) ?_)
   | (with_reducible refine Keeps.foldl_fst _ _ (fun s x h => ?_) ?_)
   | (with_reducible refine Keeps.of_eq (by with_reducible assumption) ?_)
   | split
   | (extract_lets)
   | (with_reducible apply Keeps.set_pmc)
   | (dsimp only))

theorem execWakeClockSwitch_keeps {K : Nat} (ppm : Word) (lpoPpm : Word) {s t : State} (hK : K &&& 25318840124586 = 0) (h : s.Stored)
    (e : execWakeClockSwitch ppm lpoPpm s = .next t) : Keeps K s t := by
  unfold execWakeClockSwitch at e
  have e := Host.Outcome.next.inj e
  subst e
  have h := Keeps.refl (K := K) h
  repeat' (first
   | (with_reducible assumption)
   | (with_reducible exact keeps_sub hK (by decide))
   | (with_reducible rfl)
   | (with_reducible refine Keeps.ite (fun _ => ?_) (fun _ => ?_))
   | (with_reducible apply State.applyLp_keeps)
   | (with_reducible apply State.wakeDone_keeps)
   | (with_reducible apply State.wakeClocks_keeps)
   | (with_reducible refine Keeps.of_eq (by with_reducible assumption) ?_)
   | split
   | (extract_lets)
   | (dsimp only))

theorem execOffExit_keeps {K : Nat} (hvsel : Bool) {s t : State} (hK : K &&& 281470698520562 = 0) (h : s.Stored)
    (e : execOffExit hvsel s = .next t) : Keeps K s t := by
  unfold execOffExit at e
  have e := Host.Outcome.next.inj e
  subst e
  have h := Keeps.refl (K := K) h
  repeat' (first
   | (with_reducible assumption)
   | (with_reducible exact keeps_sub hK (by decide))
   | (with_reducible rfl)
   | (with_reducible refine Keeps.ite (fun _ => ?_) (fun _ => ?_))
   | (with_reducible apply State.coldStart_keeps)
   | (with_reducible refine Keeps.of_eq (by with_reducible assumption) ?_)
   | split
   | (extract_lets)
   | (with_reducible apply Keeps.set_pmc)
   | (dsimp only))

theorem execLinkReset_keeps {K : Nat} (cause : LinkResetCause) {s t : State} (hK : K &&& 26409755476384 = 0) (h : s.Stored)
    (e : execLinkReset cause s = .next t) : Keeps K s t := by
  unfold execLinkReset at e
  have e := Host.Outcome.next.inj e
  subst e
  have h := Keeps.refl (K := K) h
  repeat' (first
   | (with_reducible assumption)
   | (with_reducible exact keeps_sub hK (by decide))
   | (with_reducible rfl)
   | (with_reducible refine Keeps.ite (fun _ => ?_) (fun _ => ?_))
   | (with_reducible apply State.perstReset_keeps)
   | (with_reducible apply State.linkReset_keeps)
   | (with_reducible refine Keeps.of_eq (by with_reducible assumption) ?_)
   | split
   | (extract_lets)
   | (with_reducible apply Keeps.set_pmc)
   | (with_reducible apply Keeps.set_ring)
   | (dsimp only))

theorem execPerstNRise_keeps {K : Nat} {s t : State} (hK : K &&& 1572864 = 0) (h : s.Stored)
    (e : execPerstNRise s = .next t) : Keeps K s t := by
  unfold execPerstNRise at e
  have e := Host.Outcome.next.inj e
  subst e
  have h := Keeps.refl (K := K) h
  repeat' (first
   | (with_reducible assumption)
   | (with_reducible exact keeps_sub hK (by decide))
   | (with_reducible rfl)
   | (with_reducible refine Keeps.ite (fun _ => ?_) (fun _ => ?_))
   | (with_reducible refine Keeps.of_eq (by with_reducible assumption) ?_)
   | split
   | (extract_lets)
   | (with_reducible apply Keeps.set_pmc_ring)
   | (dsimp only))

theorem State.writeNudge_keeps {K : Nat} {s₀ s : State} (hK : K &&& 4296540168 = 0) (h : Keeps K s₀ s) :
    Keeps K s₀ (State.writeNudge s) := by
  unfold State.writeNudge
  (try extract_lets)
  repeat' (first
   | (with_reducible assumption)
   | (with_reducible exact keeps_sub hK (by decide))
   | (with_reducible rfl)
   | exact keeps_block hK 0 (by decide) (by decide)
   | (with_reducible refine Keeps.ite (fun _ => ?_) (fun _ => ?_))
   | (with_reducible apply State.nudge_keeps)
   | (with_reducible apply State.inc_keeps)
   | (with_reducible refine Keeps.of_eq (by with_reducible assumption) ?_)
   | split
   | (extract_lets)
   | (with_reducible apply Keeps.set_pmc)
   | (dsimp only))

end Sys2Proof.Machine
end

