-- ==== Sys2Proof/Laws/KeepsRegs.lean ====
section
/-! SUPPORT. What the operations and commands of Machine/Regs.lean leave unchanged: one lemma for each, its mask the parts it
may write. -/

set_option linter.all false

namespace Sys2Proof.Machine

theorem State.busWrite_leashClr (s : State) (v : Word) : s.busWrite Reg.TIME_LEASH_CLR v = s.leashClr v := rfl

theorem State.busWrite_keysCntClr (s : State) (v : Word) : s.busWrite Reg.KEYS_CNT_CLR v = s.keysCntClr v := rfl

theorem State.busWrite_motionCntClr (s : State) (v : Word) : s.busWrite Reg.MOTION_CNT_CLR v = s.motionCntClr v := rfl

theorem State.busWrite_hedgeCntClr (s : State) (v : Word) : s.busWrite Reg.HEDGE_CNT_CLR v = s.hedgeCntClr v := rfl

theorem State.busWrite_herdCntClr (s : State) (v : Word) : s.busWrite Reg.SEQ_HERD_CNT_CLR v = s.herdCntClr v := rfl

theorem State.busWrite_battCntClr (s : State) (v : Word) : s.busWrite Reg.BATT_CNT_CLR v = s.battCntClr v := rfl

theorem State.busWrite_driveCntClr (s : State) (v : Word) : s.busWrite Reg.DRIVE_CNT_CLR v = s.driveCntClr v := rfl

theorem State.busWrite_thermCntClr (s : State) (v : Word) : s.busWrite Reg.THERM_CNT_CLR v = s.thermCntClr v := rfl

theorem State.busWrite_ringCntClr (s : State) (v : Word) : s.busWrite Reg.DEV_RING_CNT_CLR v = s.ringCntClr v := rfl

theorem State.busWrite_mboxCntClr (s : State) (v : Word) : s.busWrite Reg.MBOX_CNT_CLR v = s.mboxCntClr v := rfl

theorem State.busWrite_flashCntClr (s : State) (v : Word) : s.busWrite Reg.FLASH_CNT_CLR v = s.flashCntClr v := rfl

theorem State.busWrite_gatedClr (s : State) (v : Word) : s.busWrite Reg.DEV_GATED_CLR v = s.gatedClr v := rfl

theorem State.busWrite_pmcCntClr (s : State) (v : Word) : s.busWrite Reg.PMC_CNT_CLR v = s.pmcCntClr v := rfl

theorem State.busWrite_bistCntClr (s : State) (v : Word) : s.busWrite Reg.BIST_CNT_CLR v = s.bistCntClr v := rfl

theorem State.busWrite_writeNudge (s : State) (v : Word) : s.busWrite Reg.DEV_NUDGE v = s.writeNudge := rfl

theorem State.busWrite_writeOffer (s : State) (v : Word) : s.busWrite Reg.DEV_RRP_OFFER v = s.writeOffer v := rfl

theorem State.busWrite_writeDbHi (s : State) (v : Word) : s.busWrite Reg.DEV_DB_BASE_HI v = s.writeDbHi v := rfl

theorem State.busWrite_swReset (s : State) (v : Word) : s.busWrite Reg.DEV_SW_RESET v = s.swReset v := rfl

theorem State.busWrite_writeEpoch (s : State) (c : Fin 32) (v : Word) : s.busWrite (Reg.RING_CTX_EPOCH c) v = s.writeEpoch c v := by
  fin_cases c <;> rfl

theorem State.busWrite_writeCtxCfg (s : State) (c : Fin 32) (v : Word) : s.busWrite (Reg.RING_CTX_CFG c) v = s.writeCtxCfg c v := by
  fin_cases c <;> rfl

theorem State.busWrite_unmask (s : State) (v : Fin 34) : s.busWrite (Reg.MSIX_VCTRL v) 0 = s.unmask v := by
  fin_cases v <;> rfl

theorem State.busRead_readPtLo (s : State) : s.busRead Reg.TIME_PT_LO = s.readPtLo := rfl

theorem State.busRead_readKtickLo (s : State) : s.busRead Reg.TIME_KTICK_LO = s.readKtickLo := rfl

theorem State.busRead_readAccLo (s : State) : s.busRead Reg.BATT_ACC_LO = s.readAccLo := rfl

theorem State.busRead_readWeakFifo (s : State) : s.busRead Reg.FLASH_WEAK_FIFO = s.readWeakFifo := rfl

theorem State.busRead_latchEnc (s : State) (n : Fin 4) :
    s.busRead (Reg.MOTION_ENC_POS n) = (s.latchEnc n, s.readWord (Reg.MOTION_ENC_POS n)) := by
  fin_cases n <;> rfl

theorem State.busRead_keeps {K : Nat} {s₀ s : State} (a : Nat) (hK : K &&& 1168235298850 = 0) (h : Keeps K s₀ s) :
    Keeps K s₀ (State.busRead s a).1 := by
  unfold State.busRead
  (try extract_lets)
  repeat' (first
   | (with_reducible assumption)
   | (with_reducible exact keeps_sub hK (by decide))
   | (with_reducible rfl)
   | (with_reducible refine Keeps.ite (fun _ => ?_) (fun _ => ?_))
   | (with_reducible apply State.draw_keeps)
   | (with_reducible apply State.latchEnc_keeps)
   | (with_reducible apply State.readPtLo_keeps)
   | (with_reducible apply State.readKtickLo_keeps)
   | (with_reducible apply State.readWeakFifo_keeps)
   | (with_reducible apply State.readAccLo_keeps)
   | (with_reducible refine Keeps.of_eq (by with_reducible assumption) ?_)
   | split
   | (extract_lets)
   | (dsimp only))

theorem State.bar0Read_keeps {K : Nat} {s₀ s : State} (a : Nat) (viaCmd : Bool) (hK : K &&& 18773306769578 = 0) (h : Keeps K s₀ s) :
    Keeps K s₀ (State.bar0Read s a viaCmd).1 := by
  unfold State.bar0Read
  (try extract_lets)
  repeat' (first
   | (with_reducible assumption)
   | (with_reducible exact keeps_sub hK (by decide))
   | (with_reducible rfl)
   | (with_reducible refine Keeps.ite (fun _ => ?_) (fun _ => ?_))
   | (with_reducible apply State.gatedAccess_keeps)
   | (with_reducible apply State.busRead_keeps)
   | (with_reducible refine Keeps.of_eq (by with_reducible assumption) ?_)
   | split
   | (extract_lets)
   | (dsimp only))

theorem State.writeCtxCfg_keeps {K : Nat} {s₀ s : State} (c : Fin 32) (v : Word) (hK : K &&& 281470682792328 = 0) (h : Keeps K s₀ s) :
    Keeps K s₀ (State.writeCtxCfg s c v) := by
  unfold State.writeCtxCfg
  (try extract_lets)
  repeat' (first
   | (with_reducible assumption)
   | (with_reducible exact keeps_sub hK (by decide))
   | (with_reducible rfl)
   | exact keeps_any hK (by decide) _
   | (with_reducible refine Keeps.ite (fun _ => ?_) (fun _ => ?_))
   | (with_reducible apply State.disableCtx_keeps)
   | (with_reducible apply State.enableCtx_keeps)
   | (with_reducible apply State.writeStored_keeps)
   | (with_reducible refine Keeps.of_eq (by with_reducible assumption) ?_)
   | split
   | (extract_lets)
   | (dsimp only))

theorem State.writeDev_keeps {K : Nat} {s₀ s : State} (a : Nat) (v : Word) (hK : K &&& 281470698520570 = 0) (h : Keeps K s₀ s) :
    Keeps K s₀ (State.writeDev s a v) := by
  unfold State.writeDev
  (try extract_lets)
  repeat' (first
   | (with_reducible assumption)
   | (with_reducible exact keeps_sub hK (by decide))
   | (with_reducible rfl)
   | exact keeps_any hK (by decide) _
   | (with_reducible refine Keeps.ite (fun _ => ?_) (fun _ => ?_))
   | (with_reducible apply State.writeDbHi_keeps)
   | (with_reducible apply State.swReset_keeps)
   | (with_reducible apply State.writeDbCtrl_keeps)
   | (with_reducible apply State.gatedClr_keeps)
   | (with_reducible apply State.writeNudge_keeps)
   | (with_reducible apply State.writeOffer_keeps)
   | (with_reducible apply State.ringCntClr_keeps)
   | (with_reducible apply State.writeFeat1_keeps)
   | (with_reducible apply State.writeDbLo_keeps)
   | (with_reducible apply State.writeStored_keeps)
   | (with_reducible refine Keeps.of_eq (by with_reducible assumption) ?_)
   | split
   | (extract_lets)
   | (dsimp only))

theorem State.writeRing_keeps {K : Nat} {s₀ s : State} (a : Nat) (v : Word) (hK : K &&& 281470682792328 = 0) (h : Keeps K s₀ s) :
    Keeps K s₀ (State.writeRing s a v) := by
  unfold State.writeRing
  (try extract_lets)
  repeat' (first
   | (with_reducible assumption)
   | (with_reducible exact keeps_sub hK (by decide))
   | (with_reducible rfl)
   | exact keeps_any hK (by decide) _
   | (with_reducible refine Keeps.ite (fun _ => ?_) (fun _ => ?_))
   | (with_reducible apply State.writeEpoch_keeps)
   | (with_reducible apply State.writeCtxCfg_keeps)
   | (with_reducible apply State.writeStored_keeps)
   | (with_reducible refine Keeps.of_eq (by with_reducible assumption) ?_)
   | split
   | (extract_lets)
   | (dsimp only))

theorem State.writeMsix_keeps {K : Nat} {s₀ s : State} (a : Nat) (v : Word) (hK : K &&& 281470681743368 = 0) (h : Keeps K s₀ s) :
    Keeps K s₀ (State.writeMsix s a v) := by
  unfold State.writeMsix
  (try extract_lets)
  repeat' (first
   | (with_reducible assumption)
   | (with_reducible exact keeps_sub hK (by decide))
   | (with_reducible rfl)
   | exact keeps_any hK (by decide) _
   | (with_reducible refine Keeps.ite (fun _ => ?_) (fun _ => ?_))
   | (with_reducible apply State.unmask_keeps)
   | (with_reducible apply State.writeStored_keeps)
   | (with_reducible refine Keeps.of_eq (by with_reducible assumption) ?_)
   | split
   | (extract_lets)
   | (dsimp only))

theorem State.writeMotion_keeps {K : Nat} {s₀ s : State} (a : Nat) (v : Word) (hK : K &&& 281470681908352 = 0) (h : Keeps K s₀ s) :
    Keeps K s₀ (State.writeMotion s a v) := by
  unfold State.writeMotion
  (try extract_lets)
  repeat' (first
   | (with_reducible assumption)
   | (with_reducible exact keeps_sub hK (by decide))
   | (with_reducible rfl)
   | exact keeps_any hK (by decide) _
   | (with_reducible refine Keeps.ite (fun _ => ?_) (fun _ => ?_))
   | (with_reducible apply State.setFmod_keeps)
   | (with_reducible apply State.motionCntClr_keeps)
   | (with_reducible apply State.encEnable_keeps)
   | (with_reducible apply State.writeStored_keeps)
   | (with_reducible refine Keeps.of_eq (by with_reducible assumption) ?_)
   | split
   | (extract_lets)
   | (dsimp only))

theorem State.writeHedge_keeps {K : Nat} {s₀ s : State} (a : Nat) (v : Word) (hK : K &&& 281470681907328 = 0) (h : Keeps K s₀ s) :
    Keeps K s₀ (State.writeHedge s a v) := by
  unfold State.writeHedge
  (try extract_lets)
  repeat' (first
   | (with_reducible assumption)
   | (with_reducible exact keeps_sub hK (by decide))
   | (with_reducible rfl)
   | (with_reducible refine Keeps.ite (fun _ => ?_) (fun _ => ?_))
   | (with_reducible apply State.hedgeCntClr_keeps)
   | (with_reducible apply State.setSetupReg_keeps)
   | (with_reducible apply State.dockWritten_keeps)
   | (with_reducible refine Keeps.of_eq (by with_reducible assumption) ?_)
   | split
   | (extract_lets)
   | (dsimp only))

theorem State.busWrite_keeps {K : Nat} {s₀ s : State} (a : Nat) (v : Word) (hK : K &&& 281470698520570 = 0) (h : Keeps K s₀ s) :
    Keeps K s₀ (State.busWrite s a v) := by
  unfold State.busWrite
  (try extract_lets)
  repeat' (first
   | (with_reducible assumption)
   | (with_reducible exact keeps_sub hK (by decide))
   | (with_reducible rfl)
   | exact keeps_any hK (by decide) _
   | (with_reducible refine Keeps.ite (fun _ => ?_) (fun _ => ?_))
   | (with_reducible apply State.writeMotion_keeps)
   | (with_reducible apply State.battCntClr_keeps)
   | (with_reducible apply State.writeDev_keeps)
   | (with_reducible apply State.keysCntClr_keeps)
   | (with_reducible apply State.flashCntClr_keeps)
   | (with_reducible apply State.writeMsix_keeps)
   | (with_reducible apply State.pmcCntClr_keeps)
   | (with_reducible apply State.mboxCntClr_keeps)
   | (with_reducible apply State.writeRing_keeps)
   | (with_reducible apply State.bistCntClr_keeps)
   | (with_reducible apply State.driveCntClr_keeps)
   | (with_reducible apply State.writeHedge_keeps)
   | (with_reducible apply State.herdCntClr_keeps)
   | (with_reducible apply State.thermCntClr_keeps)
   | (with_reducible apply State.writeStored_keeps)
   | (with_reducible apply State.leashClr_keeps)
   | (with_reducible refine Keeps.of_eq (by with_reducible assumption) ?_)
   | split
   | (extract_lets)
   | (dsimp only))

theorem State.bar0Write_keeps {K : Nat} {s₀ s : State} (a : Nat) (v : Word) (viaCmd : Bool) (hK : K &&& 281470698520570 = 0) (h : Keeps K s₀ s) :
    Keeps K s₀ (State.bar0Write s a v viaCmd) := by
  unfold State.bar0Write
  (try extract_lets)
  repeat' (first
   | (with_reducible assumption)
   | (with_reducible exact keeps_sub hK (by decide))
   | (with_reducible rfl)
   | (with_reducible refine Keeps.ite (fun _ => ?_) (fun _ => ?_))
   | (with_reducible apply State.busWrite_keeps)
   | (with_reducible apply State.gatedAccess_keeps)
   | (with_reducible refine Keeps.of_eq (by with_reducible assumption) ?_)
   | split
   | (extract_lets)
   | (dsimp only))

theorem State.hostStore_keeps {K : Nat} {s : State} {a : Nat} {v : Word} {t u : State} (hg : K &&& 17605071470728 = 0) (h : s.Stored)
    (hf : s.busWrite a v = u) (hu : Keeps K s u) (e : s.hostStore a v = .next t) : Keeps K s t := by
  unfold State.hostStore at e
  have e := Host.Outcome.next.inj e
  subst e
  unfold State.bar0Write
  rw [hf]
  exact Keeps.ite (fun _ => Keeps.ite (fun _ => State.gatedAccess_keeps _ _ _ _ _ hg (Keeps.refl h)) (fun _ => hu)) (fun _ => Keeps.refl h)

theorem State.hostLoad_keeps {K : Nat} {s : State} {a : Nat} {t u : State} (hg : K &&& 17605088247944 = 0) (h : s.Stored)
    (hf : (s.busRead a).1 = u) (hu : Keeps K s u) (e : s.hostLoad a = .next t) : Keeps K s t := by
  unfold State.hostLoad at e
  have e := Host.Outcome.next.inj e
  subst e
  refine Keeps.ite (fun _ => Keeps.set_rdata (keeps_sub hg (by decide)) ?_) (fun _ => Keeps.refl h)
  unfold State.bar0Read
  by_cases hc : s.blockGated (a / 4096) = true
  · rw [if_pos hc]
    exact State.gatedAccess_keeps _ _ _ _ _ (keeps_sub hg (by decide)) (Keeps.refl h)
  · rw [if_neg hc, hf]
    exact hu

theorem execRegisterWrite_keeps {K : Nat} (off : BitVec 16) (value : Word) {s : State} {t : State} (hK : K &&& 281470698520570 = 0) (h : s.Stored)
    (e : execRegisterWrite off value s = .next t) : Keeps K s t := by
  exact State.hostStore_keeps (keeps_sub hK (by decide)) h rfl (State.busWrite_keeps _ _ (keeps_sub hK (by decide)) (Keeps.refl h)) e

theorem execSwReset_keeps {K : Nat} (value : Word) {s : State} {t : State} (hK : K &&& 281470698520570 = 0) (h : s.Stored)
    (e : execSwReset value s = .next t) : Keeps K s t := by
  exact State.hostStore_keeps (keeps_sub hK (by decide)) h (State.busWrite_swReset s _) (State.swReset_keeps _ (keeps_sub hK (by decide)) (Keeps.refl h)) e

theorem execPtLoRead_keeps {K : Nat} {s : State} {t : State} (hK : K &&& 17605088247976 = 0) (h : s.Stored)
    (e : execPtLoRead s = .next t) : Keeps K s t := by
  exact State.hostLoad_keeps (keeps_sub hK (by decide)) h (congrArg Prod.fst (State.busRead_readPtLo s)) (State.readPtLo_keeps (keeps_sub hK (by decide)) (Keeps.refl h)) e

theorem execKtickLoRead_keeps {K : Nat} {s : State} {t : State} (hK : K &&& 17605088247976 = 0) (h : s.Stored)
    (e : execKtickLoRead s = .next t) : Keeps K s t := by
  exact State.hostLoad_keeps (keeps_sub hK (by decide)) h (congrArg Prod.fst (State.busRead_readKtickLo s)) (State.readKtickLo_keeps (keeps_sub hK (by decide)) (Keeps.refl h)) e

theorem execEncPosRead_keeps {K : Nat} (n : Fin 4) {s : State} {t : State} (hK : K &&& 17673807724680 = 0) (h : s.Stored)
    (e : execEncPosRead n s = .next t) : Keeps K s t := by
  exact State.hostLoad_keeps (keeps_sub hK (by decide)) h (congrArg Prod.fst (State.busRead_latchEnc s n)) (State.latchEnc_keeps _ (keeps_sub hK (by decide)) (Keeps.refl h)) e

theorem execAccLoRead_keeps {K : Nat} {s : State} {t : State} (hK : K &&& 18704599875720 = 0) (h : s.Stored)
    (e : execAccLoRead s = .next t) : Keeps K s t := by
  exact State.hostLoad_keeps (keeps_sub hK (by decide)) h (congrArg Prod.fst (State.busRead_readAccLo s)) (State.readAccLo_keeps (keeps_sub hK (by decide)) (Keeps.refl h)) e

theorem execWeakFifoRead_keeps {K : Nat} {s : State} {t : State} (hK : K &&& 17605092442248 = 0) (h : s.Stored)
    (e : execWeakFifoRead s = .next t) : Keeps K s t := by
  exact State.hostLoad_keeps (keeps_sub hK (by decide)) h (congrArg Prod.fst (State.busRead_readWeakFifo s)) (State.readWeakFifo_keeps (keeps_sub hK (by decide)) (Keeps.refl h)) e

theorem execLeashClr_keeps {K : Nat} (value : Word) {s : State} {t : State} (hK : K &&& 17622251339912 = 0) (h : s.Stored)
    (e : execLeashClr value s = .next t) : Keeps K s t := by
  exact State.hostStore_keeps (keeps_sub hK (by decide)) h (State.busWrite_leashClr s _) (State.leashClr_keeps _ (keeps_sub hK (by decide)) (Keeps.refl h)) e

theorem execKeysCntClr_keeps {K : Nat} (value : Word) {s : State} {t : State} (hK : K &&& 17639431209096 = 0) (h : s.Stored)
    (e : execKeysCntClr value s = .next t) : Keeps K s t := by
  exact State.hostStore_keeps (keeps_sub hK (by decide)) h (State.busWrite_keysCntClr s _) (State.keysCntClr_keeps _ (keeps_sub hK (by decide)) (Keeps.refl h)) e

theorem execMotionCntClr_keeps {K : Nat} (value : Word) {s : State} {t : State} (hK : K &&& 17673790947464 = 0) (h : s.Stored)
    (e : execMotionCntClr value s = .next t) : Keeps K s t := by
  exact State.hostStore_keeps (keeps_sub hK (by decide)) h (State.busWrite_motionCntClr s _) (State.motionCntClr_keeps _ (keeps_sub hK (by decide)) (Keeps.refl h)) e

theorem execHedgeCntClr_keeps {K : Nat} (value : Word) {s : State} {t : State} (hK : K &&& 17742510424200 = 0) (h : s.Stored)
    (e : execHedgeCntClr value s = .next t) : Keeps K s t := by
  exact State.hostStore_keeps (keeps_sub hK (by decide)) h (State.busWrite_hedgeCntClr s _) (State.hedgeCntClr_keeps _ (keeps_sub hK (by decide)) (Keeps.refl h)) e

theorem execHerdCntClr_keeps {K : Nat} (value : Word) {s : State} {t : State} (hK : K &&& 17879949377672 = 0) (h : s.Stored)
    (e : execHerdCntClr value s = .next t) : Keeps K s t := by
  exact State.hostStore_keeps (keeps_sub hK (by decide)) h (State.busWrite_herdCntClr s _) (State.herdCntClr_keeps _ (keeps_sub hK (by decide)) (Keeps.refl h)) e

theorem execBattCntClr_keeps {K : Nat} (value : Word) {s : State} {t : State} (hK : K &&& 18704583098504 = 0) (h : s.Stored)
    (e : execBattCntClr value s = .next t) : Keeps K s t := by
  exact State.hostStore_keeps (keeps_sub hK (by decide)) h (State.busWrite_battCntClr s _) (State.battCntClr_keeps _ (keeps_sub hK (by decide)) (Keeps.refl h)) e

theorem execDriveCntClr_keeps {K : Nat} (value : Word) {s : State} {t : State} (hK : K &&& 19804094726280 = 0) (h : s.Stored)
    (e : execDriveCntClr value s = .next t) : Keeps K s t := by
  exact State.hostStore_keeps (keeps_sub hK (by decide)) h (State.busWrite_driveCntClr s _) (State.driveCntClr_keeps _ (keeps_sub hK (by decide)) (Keeps.refl h)) e

theorem execThermCntClr_keeps {K : Nat} (value : Word) {s : State} {t : State} (hK : K &&& 22003117981832 = 0) (h : s.Stored)
    (e : execThermCntClr value s = .next t) : Keeps K s t := by
  exact State.hostStore_keeps (keeps_sub hK (by decide)) h (State.busWrite_thermCntClr s _) (State.thermCntClr_keeps _ (keeps_sub hK (by decide)) (Keeps.refl h)) e

theorem execRingCntClr_keeps {K : Nat} (value : Word) {s : State} {t : State} (hK : K &&& 17605071470728 = 0) (h : s.Stored)
    (e : execRingCntClr value s = .next t) : Keeps K s t := by
  exact State.hostStore_keeps (keeps_sub hK (by decide)) h (State.busWrite_ringCntClr s _) (State.ringCntClr_keeps _ (keeps_sub hK (by decide)) (Keeps.refl h)) e

theorem execMboxCntClr_keeps {K : Nat} (value : Word) {s : State} {t : State} (hK : K &&& 158342559826056 = 0) (h : s.Stored)
    (e : execMboxCntClr value s = .next t) : Keeps K s t := by
  exact State.hostStore_keeps (keeps_sub hK (by decide)) h (State.busWrite_mboxCntClr s _) (State.mboxCntClr_keeps _ (keeps_sub hK (by decide)) (Keeps.refl h)) e

theorem execFlashCntClr_keeps {K : Nat} (value : Word) {s : State} {t : State} (hK : K &&& 52789443559560 = 0) (h : s.Stored)
    (e : execFlashCntClr value s = .next t) : Keeps K s t := by
  exact State.hostStore_keeps (keeps_sub hK (by decide)) h (State.busWrite_flashCntClr s _) (State.flashCntClr_keeps _ (keeps_sub hK (by decide)) (Keeps.refl h)) e

theorem execGatedClr_keeps {K : Nat} (value : Word) {s : State} {t : State} (hK : K &&& 17605071470728 = 0) (h : s.Stored)
    (e : execGatedClr value s = .next t) : Keeps K s t := by
  exact State.hostStore_keeps (keeps_sub hK (by decide)) h (State.busWrite_gatedClr s _) (State.gatedClr_keeps _ (keeps_sub hK (by decide)) (Keeps.refl h)) e

theorem execPmcCntClr_keeps {K : Nat} (value : Word) {s : State} {t : State} (hK : K &&& 17605071470728 = 0) (h : s.Stored)
    (e : execPmcCntClr value s = .next t) : Keeps K s t := by
  exact State.hostStore_keeps (keeps_sub hK (by decide)) h (State.busWrite_pmcCntClr s _) (State.pmcCntClr_keeps _ (keeps_sub hK (by decide)) (Keeps.refl h)) e

theorem execBistCntClr_keeps {K : Nat} (value : Word) {s : State} {t : State} (hK : K &&& 87973815648392 = 0) (h : s.Stored)
    (e : execBistCntClr value s = .next t) : Keeps K s t := by
  exact State.hostStore_keeps (keeps_sub hK (by decide)) h (State.busWrite_bistCntClr s _) (State.bistCntClr_keeps _ (keeps_sub hK (by decide)) (Keeps.refl h)) e

theorem execNudge_keeps {K : Nat} (value : Word) {s : State} {t : State} (hK : K &&& 17605072519304 = 0) (h : s.Stored)
    (e : execNudge value s = .next t) : Keeps K s t := by
  exact State.hostStore_keeps (keeps_sub hK (by decide)) h (State.busWrite_writeNudge s value) (State.writeNudge_keeps (keeps_sub hK (by decide)) (Keeps.refl h)) e

theorem execRrpOfferWrite_keeps {K : Nat} (value : Word) {s : State} {t : State} (hK : K &&& 17605071470728 = 0) (h : s.Stored)
    (e : execRrpOfferWrite value s = .next t) : Keeps K s t := by
  exact State.hostStore_keeps (keeps_sub hK (by decide)) h (State.busWrite_writeOffer s _) (State.writeOffer_keeps _ (keeps_sub hK (by decide)) (Keeps.refl h)) e

theorem execCtxEpochWrite_keeps {K : Nat} (c : Fin 32) (value : Word) {s : State} {t : State} (hK : K &&& 26401165541512 = 0) (h : s.Stored)
    (e : execCtxEpochWrite c value s = .next t) : Keeps K s t := by
  exact State.hostStore_keeps (keeps_sub hK (by decide)) h (State.busWrite_writeEpoch s c _) (State.writeEpoch_keeps _ _ (keeps_sub hK (by decide)) (Keeps.refl h)) e

theorem execDbBaseHiWrite_keeps {K : Nat} (value : Word) {s : State} {t : State} (hK : K &&& 17605072519304 = 0) (h : s.Stored)
    (e : execDbBaseHiWrite value s = .next t) : Keeps K s t := by
  exact State.hostStore_keeps (keeps_sub hK (by decide)) h (State.busWrite_writeDbHi s _) (State.writeDbHi_keeps _ (keeps_sub hK (by decide)) (Keeps.refl h)) e

theorem execContextEnable_keeps {K : Nat} (c : Fin 32) {s : State} {t : State} (hK : K &&& 281470683316616 = 0) (h : s.Stored)
    (e : execContextEnable c s = .next t) : Keeps K s t := by
  exact State.hostStore_keeps (keeps_sub hK (by decide)) h (State.busWrite_writeCtxCfg s c _) (State.writeCtxCfg_keeps _ _ (keeps_sub hK (by decide)) (Keeps.refl h)) e

theorem execContextDisable_keeps {K : Nat} (c : Fin 32) {s : State} {t : State} (hK : K &&& 281470683316616 = 0) (h : s.Stored)
    (e : execContextDisable c s = .next t) : Keeps K s t := by
  exact State.hostStore_keeps (keeps_sub hK (by decide)) h (State.busWrite_writeCtxCfg s c _) (State.writeCtxCfg_keeps _ _ (keeps_sub hK (by decide)) (Keeps.refl h)) e

theorem execMsixUnmask_keeps {K : Nat} (v : Fin 34) {s : State} {t : State} (hK : K &&& 26401164492936 = 0) (h : s.Stored)
    (e : execMsixUnmask v s = .next t) : Keeps K s t := by
  exact State.hostStore_keeps (keeps_sub hK (by decide)) h (State.busWrite_unmask s v) (State.unmask_keeps _ (keeps_sub hK (by decide)) (Keeps.refl h)) e

end Sys2Proof.Machine
end

