-- ==== Sys2Proof/Laws/KeepsCommands.lean ====
section
/-! SUPPORT. What the operations and commands of Machine/Commands.lean leave unchanged: one lemma for each, its mask the parts it
may write. -/

set_option linter.all false

namespace Sys2Proof.Machine

theorem State.readCommand_keeps {K : Nat} {s : State} (r : Req) (op total : Nat) (b : BufBlock) (f : State → List Byte) {t : State}
    (hK : K &&& 26388282212616 = 0) (h : s.Stored) (e : s.readCommand r op total b f = .next t) : Keeps K s t := by
  have e := Host.Outcome.next.inj e
  subst e
  exact State.structRead_keeps _ _ _ _ _ hK (Keeps.refl h)

theorem execIdentify_keeps {K : Nat} (r : Req) (b : BufBlock) {s : State} {t : State} (hK : K &&& 26388282212616 = 0) (h : s.Stored)
    (e : execIdentify r b s = .next t) : Keeps K s t := by
  unfold execIdentify at e
  exact State.readCommand_keeps _ _ _ _ _ hK h e

theorem execGetStatus_keeps {K : Nat} (r : Req) (b : BufBlock) {s : State} {t : State} (hK : K &&& 26388282212616 = 0) (h : s.Stored)
    (e : execGetStatus r b s = .next t) : Keeps K s t := by
  unfold execGetStatus at e
  exact State.readCommand_keeps _ _ _ _ _ hK h e

theorem execTimeRead_keeps {K : Nat} (r : Req) (b : BufBlock) {s : State} {t : State} (hK : K &&& 26388282212616 = 0) (h : s.Stored)
    (e : execTimeRead r b s = .next t) : Keeps K s t := by
  unfold execTimeRead at e
  exact State.readCommand_keeps _ _ _ _ _ hK h e

theorem execRailRead_keeps {K : Nat} (r : Req) (b : BufBlock) {s : State} {t : State} (hK : K &&& 26388282212616 = 0) (h : s.Stored)
    (e : execRailRead r b s = .next t) : Keeps K s t := by
  unfold execRailRead at e
  exact State.readCommand_keeps _ _ _ _ _ hK h e

theorem execBatteryRead_keeps {K : Nat} (r : Req) (b : BufBlock) {s : State} {t : State} (hK : K &&& 26388282212616 = 0) (h : s.Stored)
    (e : execBatteryRead r b s = .next t) : Keeps K s t := by
  unfold execBatteryRead at e
  exact State.readCommand_keeps _ _ _ _ _ hK h e

theorem execMotorRead_keeps {K : Nat} (r : Req) (b : BufBlock) {s : State} {t : State} (hK : K &&& 26388282212616 = 0) (h : s.Stored)
    (e : execMotorRead r b s = .next t) : Keeps K s t := by
  unfold execMotorRead at e
  exact State.readCommand_keeps _ _ _ _ _ hK h e

theorem execHedgeRead_keeps {K : Nat} (r : Req) (b : BufBlock) (rule : Byte) {s t : State} (hK : K &&& 26388282212616 = 0) (h : s.Stored)
    (e : execHedgeRead r b rule s = .next t) : Keeps K s t := by
  unfold execHedgeRead at e
  split at e
  · exact State.readCommand_keeps _ _ _ _ _ hK h e
  · have e := Host.Outcome.next.inj e
    subst e
    exact State.command_keeps _ _ _ _ (fun s h => h) (keeps_sub hK (by decide)) (Keeps.refl h)

theorem execInputRead_keeps {K : Nat} (r : Req) (b : BufBlock) {s : State} {t : State} (hK : K &&& 26388282212616 = 0) (h : s.Stored)
    (e : execInputRead r b s = .next t) : Keeps K s t := by
  unfold execInputRead at e
  exact State.readCommand_keeps _ _ _ _ _ hK h e

theorem execEncoderRead_keeps {K : Nat} (r : Req) (b : BufBlock) {s : State} {t : State} (hK : K &&& 26388282212616 = 0) (h : s.Stored)
    (e : execEncoderRead r b s = .next t) : Keeps K s t := by
  unfold execEncoderRead at e
  exact State.readCommand_keeps _ _ _ _ _ hK h e

theorem execCliffRead_keeps {K : Nat} (r : Req) (b : BufBlock) {s : State} {t : State} (hK : K &&& 26388282212616 = 0) (h : s.Stored)
    (e : execCliffRead r b s = .next t) : Keeps K s t := by
  unfold execCliffRead at e
  exact State.readCommand_keeps _ _ _ _ _ hK h e

theorem execWakeRead_keeps {K : Nat} (r : Req) (b : BufBlock) {s : State} {t : State} (hK : K &&& 26388282212616 = 0) (h : s.Stored)
    (e : execWakeRead r b s = .next t) : Keeps K s t := by
  unfold execWakeRead at e
  exact State.readCommand_keeps _ _ _ _ _ hK h e

theorem execSelftestRead_keeps {K : Nat} (r : Req) (b : BufBlock) {s : State} {t : State} (hK : K &&& 26388282212616 = 0) (h : s.Stored)
    (e : execSelftestRead r b s = .next t) : Keeps K s t := by
  unfold execSelftestRead at e
  exact State.readCommand_keeps _ _ _ _ _ hK h e

theorem State.regReadTake_keeps {K : Nat} {s₀ s : State} (off : Nat) (two : Bool) (hK : K &&& 18773306769578 = 0) (h : Keeps K s₀ s) :
    Keeps K s₀ (State.regReadTake s off two).1 := by
  unfold State.regReadTake
  (try extract_lets)
  repeat' (first
   | (with_reducible assumption)
   | (with_reducible exact keeps_sub hK (by decide))
   | (with_reducible rfl)
   | (with_reducible refine Keeps.ite (fun _ => ?_) (fun _ => ?_))
   | (with_reducible apply State.bar0Read_keeps)
   | (with_reducible refine Keeps.of_eq (by with_reducible assumption) ?_)
   | split
   | (extract_lets)
   | (dsimp only))

theorem execRegRead_keeps {K : Nat} (r : Req) (off : BitVec 32) (count : Byte) {s t : State} (hK : K &&& 27569402937770 = 0) (h : s.Stored)
    (e : execRegRead r off count s = .next t) : Keeps K s t := by
  unfold execRegRead at e
  have e := Host.Outcome.next.inj e
  subst e
  have h := Keeps.refl (K := K) h
  repeat' (first
   | (with_reducible assumption)
   | (with_reducible exact keeps_sub hK (by decide))
   | (with_reducible rfl)
   | (with_reducible refine Keeps.ite (fun _ => ?_) (fun _ => ?_))
   | (with_reducible apply State.command_keeps)
   | (with_reducible apply State.regReadTake_keeps)
   | (with_reducible refine Keeps.of_eq (by with_reducible assumption) ?_)
   | (intro s h)
   | split
   | (extract_lets)
   | (dsimp only))

theorem State.regWriteTake_keeps {K : Nat} {s₀ s : State} (a : Nat) (v : Word) (m : Word) (hK : K &&& 281470698520570 = 0) (h : Keeps K s₀ s) :
    Keeps K s₀ (State.regWriteTake s a v m).1 := by
  unfold State.regWriteTake
  (try extract_lets)
  repeat' (first
   | (with_reducible assumption)
   | (with_reducible exact keeps_sub hK (by decide))
   | (with_reducible rfl)
   | (with_reducible refine Keeps.ite (fun _ => ?_) (fun _ => ?_))
   | (with_reducible apply State.bar0Write_keeps)
   | (with_reducible apply State.busWrite_keeps)
   | (with_reducible refine Keeps.of_eq (by with_reducible assumption) ?_)
   | split
   | (extract_lets)
   | (dsimp only))

theorem execRegWrite_keeps {K : Nat} (r : Req) (off : BitVec 32) (value : BitVec 32) (mask : BitVec 32) {s t : State} (hK : K &&& 281470698520570 = 0) (h : s.Stored)
    (e : execRegWrite r off value mask s = .next t) : Keeps K s t := by
  unfold execRegWrite at e
  have e := Host.Outcome.next.inj e
  subst e
  have h := Keeps.refl (K := K) h
  repeat' (first
   | (with_reducible assumption)
   | (with_reducible exact keeps_sub hK (by decide))
   | (with_reducible rfl)
   | (with_reducible refine Keeps.ite (fun _ => ?_) (fun _ => ?_))
   | (with_reducible apply State.command_keeps)
   | (with_reducible apply State.regWriteTake_keeps)
   | (with_reducible refine Keeps.of_eq (by with_reducible assumption) ?_)
   | (intro s h)
   | split
   | (extract_lets)
   | (dsimp only))

theorem State.subscribeTake_keeps {K : Nat} {s₀ s : State} (target : Byte) (mode : Byte) (m : BitVec 64) (hK : K &&& 8796095119360 = 0) (h : Keeps K s₀ s) :
    Keeps K s₀ (State.subscribeTake s target mode m).1 := by
  unfold State.subscribeTake
  (try extract_lets)
  repeat' (first
   | (with_reducible assumption)
   | (with_reducible exact keeps_sub hK (by decide))
   | (with_reducible rfl)
   | exact keeps_block hK 11 (by decide) (by decide)
   | exact keeps_block hK 11 (by simp only [Reg.RING_SUB_HI, Reg.RING_SUB_LO]; omega) (by decide)
   | (with_reducible refine Keeps.ite (fun _ => ?_) (fun _ => ?_))
   | (with_reducible apply State.modPort_keeps)
   | (with_reducible apply State.setReg_keeps)
   | (with_reducible refine Keeps.of_eq (by with_reducible assumption) ?_)
   | split
   | (extract_lets)
   | (dsimp only))

theorem execSubscribe_keeps {K : Nat} (r : Req) (target : Byte) (mode : Byte) (mask : BitVec 64) {s t : State} (hK : K &&& 26388282212616 = 0) (h : s.Stored)
    (e : execSubscribe r target mode mask s = .next t) : Keeps K s t := by
  unfold execSubscribe at e
  have e := Host.Outcome.next.inj e
  subst e
  have h := Keeps.refl (K := K) h
  repeat' (first
   | (with_reducible assumption)
   | (with_reducible exact keeps_sub hK (by decide))
   | (with_reducible rfl)
   | (with_reducible refine Keeps.ite (fun _ => ?_) (fun _ => ?_))
   | (with_reducible apply State.command_keeps)
   | (with_reducible apply State.subscribeTake_keeps)
   | (with_reducible refine Keeps.of_eq (by with_reducible assumption) ?_)
   | (intro s h)
   | split
   | (extract_lets)
   | (dsimp only))

theorem execJournalRead_keeps {K : Nat} (r : Req) (b : BufBlock) (start : BitVec 32) (count : Byte) (errs : List LineErr) {s t : State} (hK : K &&& 61572658495880 = 0) (h : s.Stored)
    (e : execJournalRead r b start count errs s = .next t) : Keeps K s t := by
  unfold execJournalRead at e
  have e := Host.Outcome.next.inj e
  subst e
  have h := Keeps.refl (K := K) h
  repeat' (first
   | (with_reducible assumption)
   | (with_reducible exact keeps_sub hK (by decide))
   | (with_reducible rfl)
   | (with_reducible refine Keeps.ite (fun _ => ?_) (fun _ => ?_))
   | (with_reducible apply State.command_keeps)
   | (with_reducible apply State.linesRead_keeps)
   | (with_reducible refine Keeps.foldl _ _ (fun s x h => ?_) ?_)
   | (with_reducible refine Keeps.foldl_fst _ _ (fun s x h => ?_) ?_)
   | (with_reducible refine Keeps.of_eq (by with_reducible assumption) ?_)
   | (intro s h)
   | split
   | (extract_lets)
   | (dsimp only))

end Sys2Proof.Machine
end

