-- ==== Sys2Proof/Laws/Reset.lean ====
section
/-! SUPPORT. What a reset leaves: the cause registers, and the state every cause clears. -/

namespace Sys2Proof.Machine

/-- Sequential register writes of a list of pairs keep the other fields and the canonical form. -/
theorem foldl_setReg_fields (l : List (Nat × Word)) (s : State) :
    (l.foldl (fun s e => s.setReg e.1 e.2) s).dev = s.dev ∧ (l.foldl (fun s e => s.setReg e.1 e.2) s).time = s.time ∧
    (l.foldl (fun s e => s.setReg e.1 e.2) s).pmc = s.pmc ∧
    (s.Stored → (l.foldl (fun s e => s.setReg e.1 e.2) s).Stored) := by
  induction l generalizing s with
  | nil => exact ⟨rfl, rfl, rfl, id⟩
  | cons e t ih =>
    obtain ⟨h1, h2, h3, h4⟩ := ih (s.setReg e.1 e.2)
    exact ⟨h1, h2, h3, fun h => h4 (h.setReg _ _)⟩

theorem resetCause_pack : ∀ c, c ≤ 10 → wfld (pack [(c, 0), (1, 15 + c)]) 7 0 = c ∧ bit (pack [(c, 0), (1, 15 + c)]) (15 + c) = true := by
  decide

/-- What `cleared` leaves in the fields that say a reset has begun, and in RESET_CAUSE. -/
theorem State.cleared_resetTo {s : State} (h : s.Stored) {c : Nat} (hc : c ≤ 10) :
    (s.cleared c).Stored ∧ (s.cleared c).ResetTo c ∧ (s.cleared c).dev.powered = s.flashReset.dev.powered ∧
    (s.cleared c).dev.rstnLow = s.flashReset.dev.rstnLow ∧ (s.cleared c).pmc.state = .run := by
  have hu : s.flashReset.Stored := (State.flashReset_keeps (K := 0) (Nat.zero_and _) (Keeps.refl h)).stored
  revert hu
  unfold State.cleared
  generalize s.flashReset = u
  intro hu
  dsimp only
  generalize (if coldCause c = true then [] else u.latchRegs) = keep
  generalize hv : State.mk _ _ _ _ _ _ _ _ _ _ _ _ _ _ _ _ _ _ _ _ _ _ _ _ _ = v
  have hvs : v.Stored := by rw [← hv]; exact ⟨rfl, hu.host, hu.lines⟩
  have hvd : v.dev.inReset = true ∧ v.dev.stage = .boot ∧ v.dev.planLoaded = false ∧ v.time.pt = 0 ∧
      v.dev.powered = u.dev.powered ∧ v.dev.rstnLow = u.dev.rstnLow ∧ v.pmc.state = .run := by
    rw [← hv]; exact ⟨rfl, rfl, rfl, rfl, rfl, rfl, rfl⟩
  clear hv
  obtain ⟨hd, ht, hp, hst⟩ := foldl_setReg_fields keep v
  generalize keep.foldl (fun s e => s.setReg e.1 e.2) v = f at hd ht hp hst ⊢
  have kb := State.battNodes_keeps (K := 524336) (by decide) (Keeps.refl (hst hvs))
  replace hd := (kb.part .dev (by decide)).trans hd
  replace ht := (kb.part .time (by decide)).trans ht
  replace hp := (kb.part .pmc (by decide)).trans hp
  have hw := kb.stored
  generalize f.battNodes = w at hd ht hp hw ⊢
  obtain ⟨p1, p2⟩ := resetCause_pack c hc
  generalize (if c = Cause.safeHold then _ else (0 : Word)) = sc
  generalize (if coldCause c = true then (0 : Nat) else _) = cnt
  have w1 := hw.setReg Reg.DEV_RESET_COUNT (BitVec.ofNat 32 cnt)
  have w2 := w1.setReg Reg.DEV_STRAP (u.reg Reg.DEV_STRAP)
  generalize hx : ((w.setReg Reg.DEV_RESET_COUNT (BitVec.ofNat 32 cnt)).setReg Reg.DEV_STRAP (u.reg Reg.DEV_STRAP)) = x at w2 ⊢
  have x1 : x.dev = w.dev ∧ x.time = w.time ∧ x.pmc = w.pmc := by rw [← hx]; exact ⟨rfl, rfl, rfl⟩
  have w3 := w2.setReg Reg.DEV_STAGE (x.reg Reg.DEV_STAGE ||| sc)
  have w4 := w3.setReg Reg.DEV_RESET_CAUSE (pack [(c, 0), (1, 15 + c)])
  refine ⟨(w4.setReg _ _).setReg _ _, ⟨?_, ?_, ?_, ?_, ?_, ?_⟩, ?_, ?_, ?_⟩
  · simp [x1, hd, hvd]
  · simp [x1, hd, hvd]
  · simp [x1, hd, hvd]
  · simp [x1, ht, hvd]
  · unfold State.fld
    rw [State.reg_setReg (w4.setReg _ _), if_neg (by decide), State.reg_setReg w4, if_neg (by decide), State.reg_setReg w3, if_pos rfl]
    exact p1
  · unfold State.flag
    rw [State.reg_setReg (w4.setReg _ _), if_neg (by decide), State.reg_setReg w4, if_neg (by decide), State.reg_setReg w3, if_pos rfl]
    exact p2
  · simp [x1, hd, hvd]
  · simp [x1, hd, hvd]
  · simp [x1, hp, hvd]

/-- A flag of another register leaves a reset that has begun as it is. -/
theorem State.ResetTo.setFlag {s : State} {c : Nat} (r : s.ResetTo c) (h : s.Stored) {a : Nat} (i : Nat) (b : Bool)
    (ha : Reg.DEV_RESET_CAUSE ≠ a) : (s.setFlag a i b).ResetTo c := by
  have e : (s.setFlag a i b).reg Reg.DEV_RESET_CAUSE = s.reg Reg.DEV_RESET_CAUSE := by
    rw [State.reg_setFlag h, if_neg ha]
  exact ⟨r.1, r.2, r.3, r.4, (congrArg (fun w => wfld w 7 0) e).trans r.5, (congrArg (fun w => bit w (15 + c)) e).trans r.6⟩

/-- A further cause joins ALL and leaves FIRST. -/
theorem State.ResetTo.join {s : State} {c : Nat} (r : s.ResetTo c) (h : s.Stored) {d : Nat} (hd : d ≤ 16) :
    (s.setFlag Reg.DEV_RESET_CAUSE (15 + d) true).ResetTo c := by
  refine ⟨r.1, r.2, r.3, r.4, ?_, ?_⟩
  · refine Eq.trans ?_ r.5
    unfold State.fld
    rw [State.reg_setFlag h, if_pos rfl]
    exact wfld_wset_other _ _ (by omega)
  · by_cases hcd : c = d
    · rw [hcd]
      exact State.flag_setFlag_self h _ _ (by omega)
    · rw [State.flag_setFlag_other h _ (by omega)]
      exact r.6

/-- A cold start. -/
theorem State.coldStart_resetTo {s : State} (h : s.Stored) {c : Nat} (hc : c ≤ 10) (hv : Bool) :
    (s.coldStart c hv).ResetTo c ∧ (s.coldStart c hv).dev.powered = true ∧ (s.coldStart c hv).flag Reg.DEV_STRAP 0 = hv := by
  have h1 : ({ s with dev.powered := true } : State).Stored := ⟨h.regs, h.host, h.lines⟩
  obtain ⟨k, r, p, -, -⟩ := State.cleared_resetTo h1 hc
  rw [(State.flashReset_keeps (K := 16) (by decide) (Keeps.refl h1)).part .dev (by decide)] at p
  unfold State.coldStart
  dsimp only
  generalize State.cleared _ c = u at k r p ⊢
  have r1 := r.setFlag k 0 hv (a := Reg.DEV_STRAP) (by decide)
  have f1 : (u.setFlag Reg.DEV_STRAP 0 hv).flag Reg.DEV_STRAP 0 = hv := State.flag_setFlag_self k _ _ (by decide)
  split
  · refine ⟨r1.join (k.setFlag _ _ _) (by decide), p, ?_⟩
    rw [State.flag_setFlag_other (k.setFlag _ _ _) _ (by decide)]
    exact f1
  · exact ⟨r1, p, f1⟩

/-- A cause that arises while the controller runs. -/
theorem State.assertReset_resetTo {s : State} (h : s.Stored) (hl : s.live = true) {c : Nat} (hc : c ≤ 10) :
    (s.assertReset c).ResetTo c ∧ (s.assertReset c).dev.rstnLow = s.dev.rstnLow := by
  have hd := (State.flashReset_keeps (K := 16) (by decide) (Keeps.refl h)).part .dev (by decide)
  obtain ⟨k, r, -, q, -⟩ := State.cleared_resetTo h hc
  rw [hd] at q
  unfold State.live at hl
  simp only [Bool.and_eq_true, Bool.not_eq_true', decide_eq_true_eq] at hl
  unfold State.assertReset
  rw [if_neg (by simp [hl]), if_neg (by simp [hl])]
  exact ⟨r, q⟩

/-- The loss of power. -/
theorem State.powerDown_resetTo {s : State} (h : s.Stored) : s.powerDown.ResetTo 1 ∧ s.powerDown.dev.powered = false := by
  have h1 : ({ s with pmc.offByte := 0 } : State).Stored := ⟨h.regs, h.host, h.lines⟩
  have r := (State.cleared_resetTo h1 (c := 1) (by decide)).2.1
  unfold State.powerDown
  generalize State.cleared _ Cause.por = u at r ⊢
  exact ⟨⟨r.1, r.2, r.3, r.4, r.5, r.6⟩, rfl⟩

end Sys2Proof.Machine
end

