-- ==== Sys2Proof/Machine/Flags.lean ====
section
/-!
DEFINITION. The output pins and interrupt lines of the block, each computed from the state.
-/

namespace Sys2Proof.Machine

/-- RST_OUT_N is driven low (R58). -/
def State.rstOutDriven (s : State) : Bool := s.dev.rstOutLow || s.dev.inReset

/-- SAFE_STOP pin `n` is driven low: while its action or R38 asserts it, and in its test pulse (R160, R162). -/
def State.sstopDriven (s : State) (n : Fin 4) : Bool := s.sstopLow n

/-- The charge and discharge FET drivers (R257). -/
def State.fetPins (s : State) : Bool × Bool := (s.chgOn, s.dsgOn)

/-- MB_ALERT_N is driven low (R396). -/
def State.alertPin (s : State) : Bool := s.mbAlertLow

/-- PEWAKE_N is driven low (R468 (c)). -/
def State.pewakePin (s : State) : Bool := s.pmc.pewakeLow

/-- Every PCIe configuration request completes with Configuration Request Retry Status: the link is trained, and full service has
not enabled the function (R33, R46, R47, R50, R53). -/
def State.configRetry (s : State) : Bool := s.live && s.ring.linkUp && !s.flag Reg.DEV_STAGE 12

/-- The PCIe function: what its configuration space gives as fixed (R333). Every feature without a field here is absent. -/
structure PcieFunction where
  vendorId : Nat := 0x1FC4
  deviceId : Nat := 0x6480
  revisionId : Nat := 0xB0
  classCode : Nat := 0x088000
  subsystemVendorId : Nat := 0x1FC4
  subsystemId : Nat := 0x6480
  headerType : Nat := 0
  lanes : Nat := 1
  /-- 2.5 and 5.0 GT/s, in units of 0.5 GT/s. -/
  speeds : List Nat := [5, 10]
  /-- Bytes of the two 32-bit memory BARs, neither prefetchable. -/
  bar0Size : Nat := 65536
  bar2Size : Nat := 4194304
  prefetchable : Bool := false
  interruptPin : Nat := 0
  msixTableSize : Nat := 33
  msixTable : Nat := 0xC000
  msixPba : Nat := 0xC800
  maxPayload : Nat := 256
  tagBits : Nat := 8
  completionTimeoutRanges : Nat := 0b0011
  functionLevelReset : Bool := false
  d3hot : Bool := true
  d3cold : Bool := true
  pmeFromD3 : Bool := true
  noSoftReset : Bool := true
  aspmL0s : Bool := true
  aspmL1 : Bool := true
  l1Substates : Bool := true
  ltr : Bool := true
  aerHeaderLog : Bool := true
  ecrc : Bool := true
  ptmRequester : Bool := true
  relaxedOrdering : Bool := false
  noSnoop : Bool := false
  ats : Bool := false
  pasid : Bool := false
  sriov : Bool := false
  resizableBar : Bool := false
  atomicOps : Bool := false
deriving DecidableEq, Repr

/-- The function of the QR6480. -/
def pcieFunction : PcieFunction := {}

/-- Device Serial Number (R333). -/
def State.serialNumber (s : State) : BitVec 64 := s.reg Reg.DEV_UID_HI ++ s.reg Reg.DEV_UID_LO

/-- DBGCLK and DBGDIO are active (R59). -/
def State.debugPins (s : State) : Bool := s.live && s.testEn

/-- MB_MISO is driven: a frame that answers runs, and no reset holds the pin released (R38, R389, R397, R398). -/
def State.misoDriven (s : State) : Bool :=
  s.dev.powered && !s.dev.inReset && s.mboxReady && s.mbox.csLow && !s.mbox.discard

/-- From VIN crossing 4.6 V until the Plan is loaded, and for the whole of every reset, the outputs hold the states of R38. -/
def State.outputsHeld (s : State) : Bool := s.dev.inReset || !s.dev.planLoaded

/-- What a general-purpose or scanned pin puts out. -/
inductive PinDrive where
  | high
  | low
  /-- High impedance with the weak pull-down of R38. -/
  | pulledDown
  /-- High impedance with the weak pull-up. -/
  | pulledUp
  /-- High impedance. -/
  | released
deriving DecidableEq, Repr

/-- GPn (R38, R401): an input, or an output that stands high impedance, shows its pull. -/
def State.gpPin (s : State) (n : Fin 8) : PinDrive :=
  if s.outputsHeld then .pulledDown
  else
    let idle : PinDrive := match s.fld (Reg.MBOX_GP_CFG n) 1 0 with
      | 0 => .released
      | 1 => .pulledUp
      | _ => .pulledDown
    match s.fld (Reg.MBOX_GP_CFG n) 5 4, s.flag Reg.MBOX_GP_OUT n with
    | 1, true => .high
    | 1, false => .low
    | 2, false => .low
    | _, _ => idle

/-- ENn (R38, R173): sinking low while off or held; on, driven high in push-pull mode and released in open-drain mode. -/
def State.railPin (s : State) (n : Fin 24) : PinDrive :=
  if s.outputsHeld || !s.enable n then .low
  else if s.flag (Reg.SEQ_RAIL_SEQ n) 29 then .released
  else .high

/-- KDd while the drive slot of line `slot` runs, or between slots (R38, R88, R89). -/
def State.kdPin (s : State) (d : Fin 16) (slot : Option (Fin 16)) : PinDrive :=
  if s.outputsHeld || !s.kdUsed d then .pulledDown
  else if slot = some d then .low
  else .pulledUp

/-- The emitter sink CLEn conducts in the channel's ON window (R38, R128, R129, R136). -/
def State.clePin (s : State) (n : Fin 8) (onWindow : Bool) : Bool :=
  onWindow && !s.outputsHeld && !s.asleep && s.clfRole n ≠ 0 && !s.flag Reg.BIST_UNUSABLE (4 + n.val)

/-- SS_SCK, SS_CS_N and SS_MOSI are driven (R38, R163). -/
def State.ssDriven (s : State) : Bool := !s.outputsHeld && s.flag Reg.HEDGE_SS_CTRL 0

/-! ### M0 (R287 to R293, R298) -/

/-- VGD, the gate-drive supply: on while the loaded Plan enables M0, off in Sleep, Deep sleep and reset (R28, R288, R297). -/
def State.vgdOn (s : State) : Bool := s.dev.powered && !s.outputsHeld && s.m0Enabled && !s.asleep

/-- What the engine drives M0 with. Currents are in 10 mA. -/
inductive M0Command where
  | off
  | gateTest
  /-- Low sides on, the current limited to I_BRAKE. -/
  | shorted (limit : Nat)
  /-- I_ALIGN on the d axis at angle 0. -/
  | align (current : Nat)
  /-- A vector of I_RAMP at a frequency in units of 1 / (1,000 × F_SPEED) Hz, or at the Hall angle. -/
  | rotate (current freq : Nat) (rev hall : Bool)
  /-- Field-oriented control: a d-current command of 0 and the q-current command. -/
  | closed (iq : Int) (rev : Bool)
deriving DecidableEq, Repr

/-- The command in force (R291, R293, R298). -/
def State.m0Drive (s : State) : M0Command :=
  let m := s.drive.m0
  match s.m0Gates, m.st with
  | .low, _ => .off
  | .test, _ => .gateTest
  | .shorted, _ => .shorted (s.fld Reg.DRIVE_M0_BRAKE 31 16)
  | .pwm, .align => .align (s.fld Reg.DRIVE_M0_ALIGN 31 16)
  | .pwm, .openRamp => .rotate (s.fld Reg.DRIVE_M0_OPEN 31 16) m.ramp m.run.rev s.m0Halls
  | .pwm, _ => .closed m.iqRef m.run.rev

/-- Counts of one PWM period for which the high side and the low side of a phase conduct at duty `d`: the dead time is
inserted at each of the two edges, before the FET that turns on (R290). Log entry 60 (DEDUCED). -/
def legTimes (period dt d : Nat) : Nat × Nat :=
  if d = 0 then (0, period) else if period ≤ d then (period, 0) else (d - dt, period - d - dt)

/-- GHx and GLx of a phase while the gates are modulated (R290). -/
def State.m0Leg (s : State) (phase : Fin 3) : Nat × Nat :=
  if s.m0Gates = .pwm then legTimes s.pwmPeriod (s.fld Reg.DRIVE_M0_PWM 23 16) s.drive.m0.duty[phase] else (0, 0)

/-! ### Fan bridges (R301 to R306) -/

/-- What FANnA, FANnB and FANnC carry. -/
inductive FanDrive where
  /-- All six switches off: high impedance. -/
  | released
  /-- Alignment at a start current in 10 mA. -/
  | align (current : Nat)
  /-- The open ramp to F_MAX × HANDOFF_F % at a start current. -/
  | ramp (current : Nat)
  /-- Sinusoidal voltages; the speed loop follows a setpoint in 0.1 Hz, with the phase current limited to I_LIM. -/
  | sine (setpoint limit : Nat)
deriving DecidableEq, Repr

/-- The bridge of channel `n` (R38, R150, R301, R302, R304, R306, R322). -/
def State.fanPins (s : State) (n : Fin 3) : FanDrive :=
  let f := s.drive.fan[n]
  if s.outputsHeld || !s.fanRuns n || s.fanHeld n || s.hedge.bootHold then .released
  else match f.st with
    | .starting =>
      let i := s.startCurrent n (max 1 f.attempt)
      if (s.ptNow - f.startPt).toNat < ms (10 * s.fld (Reg.DRIVE_FAN_START n) 7 0) then .align i else .ramp i
    | .running => .sine (s.fanSetpoint n) (s.fld (Reg.DRIVE_FAN_START n) 23 16)
    | _ => .released

/-! ### Herd -/

/-- This controller holds the Herd line low: R38 from the detector's trip to Plan load, while it has work, and for its pulses
(R38, R44, R236, R238). -/
def State.herdPin (s : State) : Bool := s.dev.powered && (s.outputsHeld || s.herdHolds)

end Sys2Proof.Machine
end

