-- ==== Sys2Proof/WellFormed.lean ====
section
/-!
DEFINITION. Which operand values the outside world can supply: checks on a command as syntax, each with a name. Every
command has a meaning whatever these checks say; they mark the terms that stand for something that happens.
-/

namespace Sys2Proof

/-- The header of the host command that a row carries. -/
def Instr.req? (i : Instr) : Option Req :=
  match i with
  | .heartbeat r _ | .hedgeArmRelease r _ | .hedgeRelease r _ _ | .softNodeSet r _ _ | .hedgeRead r _ _ => some r
  | .railGroupOn r _ | .railGroupOff r _ | .railRead r _ | .faultClear r => some r
  | .countersRead r _ _ _ | .countersClear r _ _ => some r
  | .batteryRead r _ | .batteryControlFet r _ _ _ | .batteryControlClearProt r | .batteryControlClearFet r _ => some r
  | .batteryControlBalance r _ | .batteryControlRelearn r | .batteryControlSnapshot r => some r
  | .motorRun r _ _ _ _ _ | .motorStop r _ _ _ | .motorRead r _ => some r
  | .zoneTempWrite r _ | .fanOverride r _ _ _ _ _ => some r
  | .identify r _ | .getStatus r _ | .timeRead r _ | .regRead r _ _ | .regWrite r _ _ _ | .subscribe r _ _ _ => some r
  | .inputRead r _ | .encoderRead r _ | .cliffRead r _ | .wakeRead r _ | .journalRead r _ _ _ _ => some r
  | .planStage r _ _ _ _ _ _ | .planActivate r _ | .firmwareStage r _ _ _ _ _ _ _ _ => some r
  | .powerStateRequest r _ _ | .selftestRun r _ | .selftestRead r _ => some r
  | _ => none

/-- The ECC conditions that a row carries. -/
def Instr.lineErrs (i : Instr) : List LineErr :=
  match i with
  | .planVerifyDone e _ => e
  | .journalRead _ _ _ _ e => e
  | .planBackgroundVerify e => e
  | .bar2Read _ _ e => e
  | _ => []

/-- A command of a mailbox port carries no deadline: ports take version 1 descriptors (R367, R393). -/
def Instr.deadlineOk (i : Instr) : Bool :=
  match i.req? with
  | some { src := .port _, deadline := d, .. } => d = 0
  | _ => true

/-- No line has two ECC conditions, and a line with corrected bits is not one without any (R420). -/
def Instr.eccOk (i : Instr) : Bool :=
  decide ((i.lineErrs.map fun e => e.line).Nodup) && i.lineErrs.all fun e => e.raw.isSome || decide (e.corrected ≠ 0)

/-- A staging command on a ring brings LENGTH bytes, or none where the read of its buffer fails (R374). -/
def chunkOk (r : Req) (length : BitVec 16) (data : List Byte) (readFails : Bool) : Bool :=
  match r.src with
  | .ctx _ => if readFails then data.isEmpty else decide (data.length = length.toNat)
  | .port _ => data.isEmpty && !readFails

def Instr.chunkOk (i : Instr) : Bool :=
  match i with
  | .planStage r _ len _ _ d f => Sys2Proof.chunkOk r len d f
  | .firmwareStage r _ len _ _ d f _ _ => Sys2Proof.chunkOk r len d f
  | _ => true

/-- A BAR2 read returns 1 to 4,096 bytes inside the array, and a gated access names an offset inside its BAR (R405,
R465). -/
def Instr.spanOk (i : Instr) : Bool :=
  match i with
  | .bar2Read a n _ => decide (0 < n.toNat) && decide (n.toNat ≤ 4096) && decide (a.toNat + n.toNat ≤ 2 ^ 22)
  | .gatedRegisterAccess _ _ bar2 a => decide (a.toNat < if bar2 then 2 ^ 22 else 2 ^ 16)
  | .registerWrite o _ => o.toNat % 4 = 0
  | _ => true

/-- A rail inside its window is beyond neither threshold (R174). -/
def Instr.windowOk (i : Instr) : Bool :=
  match i with
  | .seqDecisionPoint x => decide (x.inside &&& (x.ovNow ||| x.uvNow) = 0)
  | _ => true

/-- Every check holds. -/
def Instr.wellFormed (i : Instr) : Bool := i.deadlineOk && i.eccOk && i.chunkOk && i.spanOk && i.windowOk

end Sys2Proof
end

