-- ==== Sys2Proof/Tests/Slice0.lean ====
section
/-!
SUPPORT. Small tests, each one step or one check, with its expected value from the manual; an ill-formed term for each check
of WellFormed; and for every statement with hypotheses a witness: states and operands that meet them, clause by clause.
-/

set_option maxRecDepth 20000

namespace Sys2Proof.Tests

open Sys2Proof Sys2Proof.Machine

/-- Writes registers one after another. -/
def put (s : State) (l : List (Nat × Word)) : State := l.foldl (fun s e => s.setReg e.1 e.2) s

theorem put_stored {s : State} (h : s.Stored) (l : List (Nat × Word)) : (put s l).Stored := by
  induction l generalizing s with
  | nil => exact h
  | cons e t ih => exact ih (h.setReg e.1 e.2)

theorem with_stored {s t : State} (h : s.Stored) (hr : t.regs = s.regs) (hh : t.host = s.host) (hl : t.flash.lines = s.flash.lines) :
    t.Stored := ⟨hr ▸ h.regs, hh ▸ h.host, hl ▸ h.lines⟩

theorem made_stored {s t u : State} (h : s.Stored) (l : List (Nat × Word)) (e : u = put t l) (hr : t.regs = s.regs)
    (hh : t.host = s.host) (hl : t.flash.lines = s.flash.lines) : u.Stored := e ▸ put_stored (with_stored h hr hh hl) l

theorem reset_stored : State.reset.Stored := ⟨by decide, by decide, by decide⟩

theorem admits_of (s : State) (r : Req) (op : Nat) (h : (decide (r.deadline = 0) && s.stageAdmits op && s.mayTake r op) = true) :
    s.admits r op := by
  simp only [Bool.and_eq_true, decide_eq_true_eq] at h
  exact ⟨h.2, .inl h.1.1, h.1.2⟩

/-- A command of context 31 without a deadline, and one of port 3. -/
def req : Req := ⟨.ctx 31, 7, 0, 0⟩
def preq : Req := ⟨.port 3, 7, 0, 0⟩

/-- A record that owes the destinations `todo`. -/
def record (todo : BitVec 37) : FabRec := { ev := { typ := 0x10, est := false, alert := false, pt := 5, payload := [] }, todo := todo }

/-- The descriptor of an IDENTIFY of epoch 0 without a deadline. -/
def descriptor : Vector Byte 64 := #v[(0x01 : Byte), 0x00] ++ Vector.replicate 62 (0 : Byte)

/-! ### WellFormed: a term that each check refuses, and one that all accept -/

theorem test_wf_deadline : (Instr.identify ⟨.port 0, 0, 0, 5⟩ ⟨0, 0, 0⟩).deadlineOk = false := by decide

theorem test_wf_ecc_twice : (Instr.bar2Read 0 4 [⟨0, 1, none⟩, ⟨0, 2, none⟩]).eccOk = false := by decide

theorem test_wf_ecc_clean : (Instr.planBackgroundVerify [⟨7, 0, none⟩]).eccOk = false := by decide

theorem test_wf_chunk : (Instr.planStage req 8 32 0 0 [1, 2, 3] false).chunkOk = false := by decide

theorem test_wf_chunk_port : (Instr.firmwareStage preq 0 1 0 0 [1] false 0 0).chunkOk = false := by decide

theorem test_wf_span : (Instr.bar2Read 0x3FFFFF 2 []).spanOk = false := by decide

theorem test_wf_offset : (Instr.registerWrite 0x8001 0).spanOk = false := by decide

theorem test_wf_window : (Instr.seqDecisionPoint ⟨1, 1, 0, true⟩).windowOk = false := by decide

theorem test_wf_accepts : (Instr.bar2Read 0x3FF000 4096 [⟨0, 1, none⟩]).wellFormed = true := by decide

theorem test_decode_none : decodeTableWord 32 0xFFFFFFFF = none := by decide

def up : State := put { State.reset with
      dev.stage := .full, dev.scanDone := true, dev.planDone := true, dev.planLoaded := true, dev.xoGood := true,
      dev.pllLocked := true, dev.rstOutLow := false, dev.rstOutPt := none, time.src := .xo, time.pt := 96000000,
      ring.linkUp := true, ring.pcie := { bme := true, msixEn := true, fnMask := false, ptmEn := true, ltrEn := false },
      hedge.armed := true, hedge.bootHold := false, flash.jrn.ready := true }
    [(Reg.DEV_STAGE, 0x00001900), (Reg.MBOX_LINK_STATUS, 0x100), (Reg.SUP_STATUS, 0x18)]

theorem up_stored : up.Stored := made_stored reset_stored _ rfl rfl rfl rfl

def slept : State := put { up with pmc.state := .sleep, time.src := .kennel }
    [(Reg.PMC_WAKE_EN, 0x4EF), (Reg.PMC_STATUS, 0x0120)]

theorem slept_stored : slept.Stored := made_stored up_stored _ rfl rfl rfl rfl

def deep : State := put { up with pmc.state := .deepSleep, time.src := .kennel }
    [(Reg.PMC_WAKE_EN, 0x4EF), (Reg.KEYS_NODE_CFG 0, 3)]

theorem deep_stored : deep.Stored := made_stored up_stored _ rfl rfl rfl rfl

def entering : State := { up with pmc.state := .sleep }

theorem entering_stored : entering.Stored := with_stored up_stored rfl rfl rfl

def down : State := { State.reset with dev.powered := true, dev.inReset := true }

theorem down_stored : down.Stored := with_stored reset_stored rfl rfl rfl

def safe : State := { up with dev.stage := .safe }

theorem safe_stored : safe.Stored := with_stored up_stored rfl rfl rfl

def reduced : State := put { State.reset with
      dev.stage := .reduced, dev.scanDone := true, dev.planDone := true, dev.xoGood := true, dev.pllLocked := true }
    [(Reg.DEV_STAGE, 0x000008C0)]

theorem reduced_stored : reduced.Stored := made_stored reset_stored _ rfl rfl rfl rfl

def inputs : State := put { up with
      keys.di := up.keys.di.set 3 { level := true }, keys.pairTiming := 0x80,
      keys.nodes := up.keys.nodes.set 255 { accepted := true } }
    [(Reg.KEYS_CTRL, 0x41), (Reg.KEYS_DI_CFG 3, 2), (Reg.KEYS_NODE_CFG 63, 0x02000000), (Reg.KEYS_NODE_CFG 0, 1)]

theorem inputs_stored : inputs.Stored := made_stored up_stored _ rfl rfl rfl rfl

def moving : State := put { up with motion.enc := up.motion.enc.set 3 { hist := [5, 4, 3, 2, 1], reported := 7 } }
    [(Reg.MOTION_ENC_CFG 3, 0x00000180), (Reg.MOTION_ENC_STATUS 3, 2), (Reg.MOTION_CLF_CFG 7, 2)]

theorem moving_stored : moving.Stored := made_stored up_stored _ rfl rfl rfl rfl

def tripped : State := put { up with
      hedge.rule := up.hedge.rule.set 31 { cfg := 0x80000001 }, hedge.latchHw := 0x80000000, hedge.latchSd := 0x80000000,
      hedge.run := up.hedge.run.set 31 { arm := some { token := 9, pt := 0, pressed := true, seen := true } },
      hedge.sensor.fresh := true }
    [(Reg.HEDGE_SSTOP_STATUS, 0x800), (Reg.HEDGE_SSTOP_CFG, 0xF), (Reg.HEDGE_SS_CTRL, 1)]

theorem tripped_stored : tripped.Stored := made_stored up_stored _ rfl rfl rfl rfl

def railed : State := put { up with
      seq.rail := up.seq.rail.set 23 { state := .good, rank := 1 }, seq.target := 1, seq.st := .steady, herd.st := .herdOff }
    [(Reg.SEQ_RAIL_CFG 23, 0x01000000), (Reg.SUP_RAIL_WTH 23, 0x00640000), (Reg.SEQ_CTRL, 0x101)]

theorem railed_stored : railed.Stored := made_stored up_stored _ rfl rfl rfl rfl

def herded : State := put { up with herd.st := .herdOff, herd.requested := true } [(Reg.SEQ_HERD_CFG, 0x80020001)]

theorem herded_stored : herded.Stored := made_stored up_stored _ rfl rfl rfl rfl

def packed : State := put { up with batt.cold := true, batt.idKnown := true }
    [(Reg.BATT_CFG, 0x00010004), (Reg.BATT_SHUNT, 500), (Reg.BATT_STATUS, 0x0000000C), (Reg.BATT_PROT_CFG, 0x01),
      (Reg.BATT_LP_WAKE, 0x80000000)]

theorem packed_stored : packed.Stored := made_stored up_stored _ rfl rfl rfl rfl

def motor : State := put up
    [(Reg.DRIVE_M0_CFG, 0x80000000), (Reg.DRIVE_M0_SPEED, 0x0A0503E8), (Reg.DRIVE_FAN_CFG 2, 0xC2140000),
      (Reg.DRIVE_FAN_SPEED 2, 0x01000020), (Reg.THERM_ZONE_CFG 0, 0x87000000), (Reg.THERM_ZONE_CFG 7, 0xC0000000),
      (Reg.THERM_ZONE_STATUS 0, 0x64010000)]

theorem motor_stored : motor.Stored := put_stored up_stored _

def hosted : State := put { up with
      ring.dbBase := some 0x10000, ring.engine := .polling,
      ring.ctx := (up.ring.ctx.set 31 { state := .active, hostTail := 1 }).set 0 { state := .active } }
    [(Reg.DEV_RRP_ACCEPT, 0x80060002), (Reg.RING_CTX_CFG 31, 0xA0440000), (Reg.RING_CTX_CFG 0, 0xC0400000),
      (Reg.RING_CTX_CFG 5, 0x20440000), (Reg.RING_SQ_BASE_LO 31, 0x20000), (Reg.RING_CQ_BASE_LO 31, 0x30000),
      (Reg.RING_SQ_BASE_LO 0, 0x40000)]

theorem hosted_stored : hosted.Stored := made_stored up_stored _ rfl rfl rfl rfl

def flashy : State := up

theorem flashy_stored : flashy.Stored := up_stored

def handshake : State := put { up with pmc.state := .quiesce, pmc.answers := Vector.replicate 16 .ack }
    [(Reg.PMC_STATUS, 0x20)]

theorem handshake_stored : handshake.Stored := made_stored up_stored _ rfl rfl rfl rfl

theorem witness_IdleStep_1 : State.reset.pending = [] ∧ State.reset.live = true ∧ State.reset.asleep = false ∧
    State.reset.time.kphase < 46875 :=
  ⟨by decide, by decide, by decide, by decide⟩

theorem witness_IdleStep_2 : slept.pending = [] ∧ slept.live = true ∧ slept.asleep = true :=
  ⟨by decide, by decide, by decide⟩

theorem witness_IdleStep_3 : down.pending = [] ∧ down.live = false :=
  ⟨by decide, by decide⟩

theorem witness_EveryCommandCompletes : up.Stored := up_stored

theorem witness_CommandFrames : up.Stored ∧ (∃ t, exec .ptLoRead up = .next t) ∧ Part.keys ∉ touched .ptLoRead :=
  ⟨up_stored, ⟨_, rfl⟩, by decide⟩

theorem witness_StepKeepsStored : up.Stored ∧ (∃ t, step up = .next t) :=
  ⟨up_stored, ⟨_, rfl⟩⟩

theorem witness_SaturatingCounters : up.Stored ∧ (31 < 32) ∧ (31 ≤ 31) ∧ (0 ≤ 31) :=
  ⟨up_stored, by decide, by decide, by decide⟩

def stResetCommands5 : State := { up with drive.m0.st := .closedLoop }

theorem stResetCommands5_stored : stResetCommands5.Stored := with_stored up_stored rfl rfl rfl

theorem witness_ResetCommands_1 : up.Stored ∧ up.dev.powered = true ∧ up.dev.stage ≠ .safeHold ∧ up.sup.holdUp = none ∧
    up.live = true ∧ up.inSleep = false ∧ up.inDeepSleep = false ∧ up.asleep = false ∧ up.barOpen = true ∧ up.railsOn = 0 ∧
    up.drive.m0.st = .stopped ∧ ((0 : Word) ≠ 0xD065) :=
  ⟨up_stored, by decide, by decide, by decide, by decide, by decide, by decide, by decide, by decide, by decide, by decide,
    by decide⟩

theorem witness_ResetCommands_2 : slept.Stored ∧ slept.live = true ∧ slept.inSleep = true :=
  ⟨slept_stored, by decide, by decide⟩

theorem witness_ResetCommands_3 : deep.Stored ∧ deep.live = true ∧ deep.inDeepSleep = true :=
  ⟨deep_stored, by decide, by decide⟩

theorem witness_ResetCommands_4 : railed.Stored ∧ railed.barOpen = true ∧ railed.railsOn ≠ 0 :=
  ⟨railed_stored, by decide, by decide⟩

theorem witness_ResetCommands_5 : stResetCommands5.Stored ∧ stResetCommands5.barOpen = true ∧
    stResetCommands5.drive.m0.st ≠ .stopped :=
  ⟨stResetCommands5_stored, by decide, by decide⟩

def stSwReset3 : State := { up with drive.m0.st := .fault }

theorem stSwReset3_stored : stSwReset3.Stored := with_stored up_stored rfl rfl rfl

theorem witness_SwReset_1 : up.Stored ∧ up.barOpen = true ∧ (∀ n : Fin 24, (up.seq.rail[n]).state = .off) ∧
    up.drive.m0.st = .stopped :=
  ⟨up_stored, by decide, by decide, by decide⟩

theorem witness_SwReset_2 : railed.Stored ∧ railed.barOpen = true ∧ (∃ n : Fin 24, (railed.seq.rail[n]).state ≠ .off) :=
  ⟨railed_stored, by decide, by decide⟩

theorem witness_SwReset_3 : stSwReset3.Stored ∧ stSwReset3.barOpen = true ∧ stSwReset3.drive.m0.st ≠ .stopped ∧
    ((0xD064 : Word) ≠ 0xD065) :=
  ⟨stSwReset3_stored, by decide, by decide, by decide⟩

def stStartUpAndClocks2 : State := { down with dev.rstnLow := true }

theorem stStartUpAndClocks2_stored : stStartUpAndClocks2.Stored := with_stored down_stored rfl rfl rfl

def stStartUpAndClocks3 : State := put { State.reset with plans.fwMarked := 3 } [(Reg.DEV_RESET_CAUSE, 0x00810001)]

theorem stStartUpAndClocks3_stored : stStartUpAndClocks3.Stored := made_stored reset_stored _ rfl rfl rfl rfl

def stStartUpAndClocks4 : State :=
    { State.reset with plans.fwMarked := 3, flash.bank := State.reset.flash.bank.set 1 { bitmap := 1 } }

theorem stStartUpAndClocks4_stored : stStartUpAndClocks4.Stored := with_stored reset_stored rfl rfl rfl

def stStartUpAndClocks5 : State := { State.reset with dev.scanDone := true, dev.planCands := [1, 0] }

theorem stStartUpAndClocks5_stored : stStartUpAndClocks5.Stored := with_stored reset_stored rfl rfl rfl

def stStartUpAndClocks6 : State := { State.reset with dev.scanDone := true, dev.planCands := [0] }

theorem stStartUpAndClocks6_stored : stStartUpAndClocks6.Stored := with_stored reset_stored rfl rfl rfl

def stStartUpAndClocks7 : State := { State.reset with dev.planDone := true, plans.xt32 := true }

theorem stStartUpAndClocks7_stored : stStartUpAndClocks7.Stored := with_stored reset_stored rfl rfl rfl

def stStartUpAndClocks8 : State := { State.reset with dev.scanDone := true, dev.xoGood := true }

theorem stStartUpAndClocks8_stored : stStartUpAndClocks8.Stored := with_stored reset_stored rfl rfl rfl

def stStartUpAndClocks9 : State := { State.reset with dev.xoGood := true, dev.pllTries := 1 }

theorem stStartUpAndClocks9_stored : stStartUpAndClocks9.Stored := with_stored reset_stored rfl rfl rfl

def stStartUpAndClocks10 : State := { reduced with dev.calRunning := true }

theorem stStartUpAndClocks10_stored : stStartUpAndClocks10.Stored := with_stored reduced_stored rfl rfl rfl

def stStartUpAndClocks11 : State := { reduced with dev.calRunning := true, dev.calFails := 1 }

theorem stStartUpAndClocks11_stored : stStartUpAndClocks11.Stored := with_stored reduced_stored rfl rfl rfl

theorem witness_StartUpAndClocks_1 : down.Stored ∧ down.dev.powered = true ∧ down.dev.inReset = true ∧
    down.dev.regsGood = true ∧ down.pmc.state ≠ .off ∧ down.dev.rstnLow = false :=
  ⟨down_stored, by decide, by decide, by decide, by decide, by decide⟩

theorem witness_StartUpAndClocks_2 : stStartUpAndClocks2.Stored ∧ stStartUpAndClocks2.dev.powered = true ∧
    stStartUpAndClocks2.dev.inReset = true ∧ stStartUpAndClocks2.pmc.state ≠ .off ∧ stStartUpAndClocks2.dev.rstnLow = true :=
  ⟨stStartUpAndClocks2_stored, by decide, by decide, by decide, by decide⟩

theorem witness_StartUpAndClocks_3 : State.reset.Stored ∧ State.reset.live = true ∧ State.reset.dev.stage = .boot ∧
    State.reset.dev.planDone = false ∧ State.reset.dev.scanDone = false ∧
    (∀ k : Fin 2, (#v[none, some 3] : Vector (Option Word) 2)[k] = none ∨ State.reset.plans.fwMarked.getLsbD k = false) ∧
    State.reset.flag Reg.DEV_RESET_CAUSE 23 = false ∧ State.reset.dev.xoOn = true ∧ State.reset.dev.xoGood = false :=
  ⟨reset_stored, by decide, by decide, by decide, by decide, by decide, by decide, by decide, by decide⟩

theorem witness_StartUpAndClocks_4 : stStartUpAndClocks3.Stored ∧ stStartUpAndClocks3.live = true ∧
    stStartUpAndClocks3.dev.stage = .boot ∧ stStartUpAndClocks3.dev.planDone = false ∧
    stStartUpAndClocks3.dev.scanDone = false ∧ (∀ k : Fin 2, (#v[none, none] : Vector (Option Word) 2)[k] = none) ∧
    stStartUpAndClocks3.flag Reg.DEV_RESET_CAUSE 23 = true ∧ stStartUpAndClocks3.plans.fwMarked.getLsbD 1 = true ∧
    (#v[some 4, some 5] : Vector (Option Word) 2)[(1 : Fin 2)] = some 5 ∧
    (∀ i : Fin 192, ((stStartUpAndClocks3.flash.bank[(1 : Fin 2)]).scan).getLsbD i = false) ∧
    ((#v[some 4, some 5] : Vector (Option Word) 2)[1 - (1 : Fin 2)]).all (fun w => w.toNat < (5 : Word).toNat) = true :=
  ⟨stStartUpAndClocks3_stored, by decide, by decide, by decide, by decide, by decide, by decide, by decide, by decide,
    by decide, by decide⟩

theorem witness_StartUpAndClocks_5 : stStartUpAndClocks4.Stored ∧ stStartUpAndClocks4.live = true ∧
    stStartUpAndClocks4.dev.stage = .boot ∧ stStartUpAndClocks4.dev.scanDone = false ∧
    stStartUpAndClocks4.plans.fwMarked.getLsbD 0 = true ∧
    (#v[some 5, some 5] : Vector (Option Word) 2)[(0 : Fin 2)] = some 5 ∧
    (∀ i : Fin 192, ((stStartUpAndClocks4.flash.bank[(0 : Fin 2)]).scan).getLsbD i = false) ∧
    (∃ i : Fin 192, ((stStartUpAndClocks4.flash.bank[1 - (0 : Fin 2)]).scan).getLsbD i = true) :=
  ⟨stStartUpAndClocks4_stored, by decide, by decide, by decide, by decide, by decide, by decide, ⟨0, by decide⟩⟩

theorem witness_StartUpAndClocks_6 : stStartUpAndClocks5.Stored ∧ stStartUpAndClocks5.live = true ∧
    stStartUpAndClocks5.dev.stage = .boot ∧ stStartUpAndClocks5.dev.scanDone = true ∧
    stStartUpAndClocks5.dev.planDone = false ∧ stStartUpAndClocks5.dev.planCands = 1 :: [0] ∧
    stStartUpAndClocks5.verifySlot 1 [] ≠ 0 ∧ ([(0 : Fin 2)] ≠ []) :=
  ⟨stStartUpAndClocks5_stored, by decide, by decide, by decide, by decide, by decide, by decide, by decide⟩

theorem witness_StartUpAndClocks_7 : stStartUpAndClocks6.Stored ∧ stStartUpAndClocks6.live = true ∧
    stStartUpAndClocks6.dev.stage = .boot ∧ stStartUpAndClocks6.dev.scanDone = true ∧
    stStartUpAndClocks6.dev.planDone = false ∧ stStartUpAndClocks6.dev.planCands = 0 :: [] ∧
    stStartUpAndClocks6.verifySlot 0 [] ≠ 0 :=
  ⟨stStartUpAndClocks6_stored, by decide, by decide, by decide, by decide, by decide, by decide⟩

theorem witness_StartUpAndClocks_8 : stStartUpAndClocks7.Stored ∧ stStartUpAndClocks7.live = true ∧
    stStartUpAndClocks7.dev.stage = .boot ∧ stStartUpAndClocks7.dev.planDone = true ∧ stStartUpAndClocks7.plans.xt32 = true :=
  ⟨stStartUpAndClocks7_stored, by decide, by decide, by decide, by decide⟩

theorem witness_StartUpAndClocks_9 : stStartUpAndClocks8.Stored ∧ stStartUpAndClocks8.live = true ∧
    stStartUpAndClocks8.dev.stage = .boot ∧ stStartUpAndClocks8.dev.scanDone = true ∧ stStartUpAndClocks8.dev.planCands = [] ∧
    stStartUpAndClocks8.dev.xoGood = true ∧ stStartUpAndClocks8.dev.pllLocked = false ∧ stStartUpAndClocks8.dev.pllTries = 0 :=
  ⟨stStartUpAndClocks8_stored, by decide, by decide, by decide, by decide, by decide, by decide, by decide⟩

theorem witness_StartUpAndClocks_10 : stStartUpAndClocks9.Stored ∧ stStartUpAndClocks9.live = true ∧
    stStartUpAndClocks9.dev.xoGood = true ∧ stStartUpAndClocks9.dev.pllLocked = false ∧ stStartUpAndClocks9.dev.pllTries ≠ 0 :=
  ⟨stStartUpAndClocks9_stored, by decide, by decide, by decide, by decide⟩

theorem witness_StartUpAndClocks_11 : stStartUpAndClocks10.Stored ∧ stStartUpAndClocks10.live = true ∧
    stStartUpAndClocks10.dev.calRunning = true ∧ stStartUpAndClocks10.dev.calFails = 0 :=
  ⟨stStartUpAndClocks10_stored, by decide, by decide, by decide⟩

theorem witness_StartUpAndClocks_12 : stStartUpAndClocks11.Stored ∧ stStartUpAndClocks11.live = true ∧
    stStartUpAndClocks11.dev.calRunning = true ∧ stStartUpAndClocks11.dev.calFails ≠ 0 :=
  ⟨stStartUpAndClocks11_stored, by decide, by decide, by decide⟩

theorem witness_StartUpAndClocks_13 : reduced.Stored ∧ reduced.live = true ∧ reduced.dev.stage = .reduced ∧
    reduced.dev.xoGood = true ∧ reduced.dev.pllLocked = true ∧ reduced.flag Reg.DEV_STAGE 11 = true ∧ reduced.asleep = false ∧
    reduced.pmc.state ≠ .waking :=
  ⟨reduced_stored, by decide, by decide, by decide, by decide, by decide, by decide, by decide⟩

theorem witness_LatchedTime_1 : up.Stored ∧ up.barOpen = true ∧ up.asleep = false :=
  ⟨up_stored, by decide, by decide⟩

theorem witness_LatchedTime_2 : slept.Stored ∧ slept.barOpen = true ∧ slept.asleep = true :=
  ⟨slept_stored, by decide, by decide⟩

theorem witness_LatchingReads : moving.barOpen = true ∧ moving.blockGated 8 = false ∧ moving.blockGated 13 = false ∧
    moving.blockGated 4 = false :=
  ⟨by decide, by decide, by decide, by decide⟩

def stCounterClears : State := put inputs
    [(Reg.MOTION_ENC_CFG 0, 0x80), (Reg.SEQ_RAIL_CFG 0, 0x01000000), (Reg.DRIVE_M0_CFG, 0x80000000)]

theorem stCounterClears_stored : stCounterClears.Stored := put_stored inputs_stored _

theorem witness_CounterClears : stCounterClears.Stored ∧ stCounterClears.barOpen = true ∧
    stCounterClears.blockGated 3 = false ∧ stCounterClears.blockGated 4 = false ∧ stCounterClears.blockGated 5 = false ∧
    stCounterClears.blockGated 6 = false ∧ stCounterClears.blockGated 8 = false ∧ stCounterClears.blockGated 9 = false ∧
    stCounterClears.blockGated 10 = false ∧ stCounterClears.blockGated 15 = false ∧ stCounterClears.blockGated 13 = false ∧
    stCounterClears.blockGated 14 = false :=
  ⟨stCounterClears_stored, by decide, by decide, by decide, by decide, by decide, by decide, by decide, by decide, by decide,
    by decide, by decide⟩

def stTimeAndLeash2 : State := put { up with time.ptmDone := 1, leash.heldPending := 0x200 }
    [(Reg.DEV_STRAP, 2), (Reg.TIME_LEASH_HELD, 0x200)]

theorem stTimeAndLeash2_stored : stTimeAndLeash2.Stored := made_stored up_stored _ rfl rfl rfl rfl

theorem witness_TimeAndLeash_1 : up.Stored ∧ up.live = true ∧ up.asleep = false ∧ up.ring.pcie.ptmEn = true ∧
    up.fullService = true ∧ up.ring.linkUp = true ∧ up.pmc.state ≠ .waking ∧ up.flag Reg.DEV_STRAP 1 = false :=
  ⟨up_stored, by decide, by decide, by decide, by decide, by decide, by decide, by decide⟩

theorem witness_TimeAndLeash_2 : stTimeAndLeash2.Stored ∧ stTimeAndLeash2.live = true ∧ stTimeAndLeash2.asleep = false ∧
    1 ≤ stTimeAndLeash2.time.ptmDone ∧ stTimeAndLeash2.leash.partialFrame = false ∧
    stTimeAndLeash2.flag Reg.TIME_LEASH_HELD 9 = true ∧ stTimeAndLeash2.flag Reg.DEV_STRAP 1 = true :=
  ⟨stTimeAndLeash2_stored, by decide, by decide, by decide, by decide, by decide, by decide⟩

def stKeysCommands2 : State :=
    put { inputs with keys.nodes := inputs.keys.nodes.set 0 {}, keys.di := inputs.keys.di.set 4 { level := true, accepted := true } }
    [(Reg.KEYS_CTRL, 0x43), (Reg.KEYS_DI_CFG 4, 1), (Reg.KEYS_DI_CFG 14, 0x200)]

theorem stKeysCommands2_stored : stKeysCommands2.Stored := made_stored inputs_stored _ rfl rfl rfl rfl

def stKeysCommands3 : State := put { slept with keys.nodes := slept.keys.nodes.set 255 { sleptOpen := true } }
    [(Reg.KEYS_NODE_CFG 63, 0x03000000)]

theorem stKeysCommands3_stored : stKeysCommands3.Stored := made_stored slept_stored _ rfl rfl rfl rfl

def stKeysCommands4 : State := put { slept with keys.nodes := slept.keys.nodes.set 255 { sleptOpen := true, kRun := 1 } }
    [(Reg.KEYS_NODE_CFG 63, 0x03000000)]

theorem stKeysCommands4_stored : stKeysCommands4.Stored := made_stored slept_stored _ rfl rfl rfl rfl

def stKeysCommands5 : State := put deep [(Reg.PMC_WAKE_EN, 0)]

theorem stKeysCommands5_stored : stKeysCommands5.Stored := put_stored deep_stored _

def stKeysCommands6 : State := put slept [(Reg.KEYS_DI_CFG 15, 3), (Reg.KEYS_DI_CFG 0, 0x101)]

theorem stKeysCommands6_stored : stKeysCommands6.Stored := put_stored slept_stored _

def stKeysCommands7 : State := put stKeysCommands6 [(Reg.PMC_WAKE_EN, 0)]

theorem stKeysCommands7_stored : stKeysCommands7.Stored := put_stored stKeysCommands6_stored _

theorem witness_KeysCommands_1 : inputs.Stored ∧ inputs.scanOn = true ∧ inputs.keyRole 255 ≠ 0 ∧ inputs.keyStuck 255 = false ∧
    (inputs.key 255).accepted = true ∧ inputs.asleep = false ∧ inputs.inSleep = false ∧ inputs.inDeepSleep = false ∧
    inputs.diRole 3 ≠ 0 ∧ (inputs.keys.di[(3 : Fin 16)]).level ≠ (inputs.keys.di[(3 : Fin 16)]).accepted ∧
    inputs.diRole 15 = 0 ∧ inputs.keys.pairTiming.getLsbD 7 = true ∧ inputs.flag Reg.KEYS_DI_PAIR_STATUS 7 = false ∧
    inputs.keys.pairTiming.getLsbD 0 = false :=
  ⟨inputs_stored, by decide, by decide, by decide, by decide, by decide, by decide, by decide, by decide, by decide,
    by decide, by decide, by decide, by decide⟩

theorem witness_KeysCommands_2 : stKeysCommands2.Stored ∧ stKeysCommands2.scanOn = true ∧
    stKeysCommands2.flag Reg.KEYS_CTRL 1 = true ∧ stKeysCommands2.keys.wakePt = none ∧
    stKeysCommands2.failedLines ⟨Vector.replicate 16 0, 0, 0, 0, Vector.replicate 16 0⟩ = 0 ∧
    stKeysCommands2.keyLive 255 = true ∧ stKeysCommands2.keyLive 254 = false ∧ stKeysCommands2.keyRole 0 ≠ 0 ∧
    stKeysCommands2.keyStuck 0 = false ∧ (stKeysCommands2.key 0).accepted = false ∧ stKeysCommands2.keys.withheld 0 = false ∧
    stKeysCommands2.keys.inJudgement 0 = false ∧ stKeysCommands2.asleep = false ∧ stKeysCommands2.diRole 4 ≠ 0 ∧
    (stKeysCommands2.keys.di[(4 : Fin 16)]).level = (stKeysCommands2.keys.di[(4 : Fin 16)]).accepted ∧
    stKeysCommands2.keys.pairTiming.getLsbD 7 = true ∧ stKeysCommands2.flag (Reg.KEYS_DI_CFG (2 * 7)) 9 = true :=
  ⟨stKeysCommands2_stored, by decide, by decide, by decide, by decide, by decide, by decide, by decide, by decide, by decide,
    by decide, by decide, by decide, by decide, by decide, by decide, by decide⟩

theorem witness_KeysCommands_3 : State.reset.Stored ∧ State.reset.scanOn = false ∧ State.reset.inSleep = false :=
  ⟨reset_stored, by decide, by decide⟩

theorem witness_KeysCommands_4 : stKeysCommands3.Stored ∧ stKeysCommands3.inSleep = true ∧
    stKeysCommands3.keyLive 255 = true ∧ stKeysCommands3.keyWake 255 = true ∧ stKeysCommands3.keyStuck 255 = false ∧
    (stKeysCommands3.key 255).sleptOpen = true ∧ (stKeysCommands3.key 255).kRun = 0 :=
  ⟨stKeysCommands3_stored, by decide, by decide, by decide, by decide, by decide, by decide⟩

theorem witness_KeysCommands_5 : stKeysCommands4.Stored ∧ stKeysCommands4.inSleep = true ∧
    stKeysCommands4.keyLive 255 = true ∧ stKeysCommands4.keyWake 255 = true ∧ stKeysCommands4.keyStuck 255 = false ∧
    (stKeysCommands4.key 255).sleptOpen = true ∧ (stKeysCommands4.key 255).kRun = 1 ∧
    stKeysCommands4.flag Reg.PMC_WAKE_EN 1 = true :=
  ⟨stKeysCommands4_stored, by decide, by decide, by decide, by decide, by decide, by decide, by decide⟩

theorem witness_KeysCommands_6 : deep.Stored ∧ deep.inDeepSleep = true ∧ deep.ksWatched 0 = true ∧
    deep.flag Reg.PMC_WAKE_EN 1 = true ∧ deep.ksWatched 15 = false :=
  ⟨deep_stored, by decide, by decide, by decide, by decide⟩

theorem witness_KeysCommands_7 : stKeysCommands5.Stored ∧ stKeysCommands5.inDeepSleep = true ∧
    stKeysCommands5.ksWatched 0 = true ∧ stKeysCommands5.flag Reg.PMC_WAKE_EN 1 = false :=
  ⟨stKeysCommands5_stored, by decide, by decide, by decide⟩

theorem witness_KeysCommands_8 : stKeysCommands6.Stored ∧ stKeysCommands6.asleep = true ∧ stKeysCommands6.inSleep = true ∧
    stKeysCommands6.diRole 15 = 3 ∧ stKeysCommands6.diRole 0 ≠ 0 ∧ stKeysCommands6.flag (Reg.KEYS_DI_CFG 0) 8 = true ∧
    stKeysCommands6.flag Reg.PMC_WAKE_EN 2 = true :=
  ⟨stKeysCommands6_stored, by decide, by decide, by decide, by decide, by decide, by decide⟩

theorem witness_KeysCommands_9 : stKeysCommands7.Stored ∧ stKeysCommands7.asleep = true ∧ stKeysCommands7.diRole 15 = 3 ∧
    stKeysCommands7.flag Reg.PMC_WAKE_EN 2 = false :=
  ⟨stKeysCommands7_stored, by decide, by decide, by decide⟩

def stKeyDebounce2 : State := { inputs with keys.nodes := inputs.keys.nodes.set 0 { count := 31 } }

theorem stKeyDebounce2_stored : stKeyDebounce2.Stored := with_stored inputs_stored rfl rfl rfl

theorem witness_KeyDebounce_1 : inputs.Stored ∧ inputs.keys.withheld 255 = false ∧ inputs.keys.inJudgement 255 = false ∧
    false ≠ (inputs.key 255).accepted ∧ (inputs.key 255).count + 1 < inputs.keyD (inputs.keyRole 255) :=
  ⟨inputs_stored, by decide, by decide, by decide, by decide⟩

theorem witness_KeyDebounce_2 : stKeyDebounce2.Stored ∧ stKeyDebounce2.keys.withheld 0 = false ∧
    stKeyDebounce2.keys.inJudgement 0 = false ∧ true ≠ (stKeyDebounce2.key 0).accepted ∧
    stKeyDebounce2.keyD (stKeyDebounce2.keyRole 0) ≤ (stKeyDebounce2.key 0).count + 1 :=
  ⟨stKeyDebounce2_stored, by decide, by decide, by decide, by decide⟩

def stMotionCommands2 : State := put slept [(Reg.PMC_WAKE_EN, 8), (Reg.MOTION_ENC_WAKE 0, 1)]

theorem stMotionCommands2_stored : stMotionCommands2.Stored := put_stored slept_stored _

theorem witness_MotionCommands_1 : moving.Stored ∧ moving.encRuns 3 = true ∧ moving.flag (Reg.MOTION_ENC_STATUS 3) 1 = true ∧
    moving.fld (Reg.MOTION_ENC_OVS_REL 3) 23 0 ≤ (moving.motion.enc[(3 : Fin 4)]).interval moving.time.pt ∧
    moving.asleep = false ∧ moving.fld (Reg.MOTION_ENC_CFG 3) 17 8 ≠ 0 ∧
    moving.encPos 3 ≠ (moving.motion.enc[(3 : Fin 4)]).reported ∧ moving.clfRole 7 ≠ 0 ∧
    moving.flag Reg.BIST_UNUSABLE (4 + 7) = false ∧ moving.fld (Reg.MOTION_CLF_CFG 7) 3 2 < 3 ∧
    [10000000, 50000000, 250000000].getD (moving.fld (Reg.MOTION_CLF_CFG 7) 3 2) 0 = 10000000 ∧
    (2000000 + 10000000 ≤ 12000000) ∧ (10000000 * 65535 = 0 * 65535 + 65535 * 10000000) ∧
    (10000000 * 65535 = 65535 * 10000000) :=
  ⟨moving_stored, by decide, by decide, by decide, by decide, by decide, by decide, by decide, by decide, by decide,
    by decide, by decide, by decide, by decide⟩

theorem witness_MotionCommands_2 : stMotionCommands2.Stored ∧ stMotionCommands2.asleep = true ∧
    stMotionCommands2.inSleep = true ∧
    stMotionCommands2.fld (Reg.MOTION_ENC_WAKE 0) 15 0 = (stMotionCommands2.motion.enc[(0 : Fin 4)]).kedges + 1 ∧
    (stMotionCommands2.motion.enc[(0 : Fin 4)]).kedges < stMotionCommands2.fld (Reg.MOTION_ENC_WAKE 0) 15 0 ∧
    stMotionCommands2.flag Reg.PMC_WAKE_EN 3 = true :=
  ⟨stMotionCommands2_stored, by decide, by decide, by decide, by decide, by decide⟩

theorem witness_EncoderInterval : (moving.motion.enc[(3 : Fin 4)]).hist = [5, 4, 3, 2, 1] ∧
    (moving.motion.enc[(0 : Fin 4)]).hist.length < 5 :=
  ⟨by decide, by decide⟩

def stHedgeEvents1 : State :=
    put { tripped with hedge.overrun := 0, hedge.actHw := 0x10200, seq.rail := tripped.seq.rail.set 0 { state := .good } }
    [(Reg.SEQ_RAIL_CFG 0, 0x80000000), (Reg.HEDGE_CTRL, 1)]

theorem stHedgeEvents1_stored : stHedgeEvents1.Stored := made_stored tripped_stored _ rfl rfl rfl rfl

def stHedgeEvents3 : State := { tripped with hedge.nodes := 0x20000000000000000 }

theorem stHedgeEvents3_stored : stHedgeEvents3.Stored := with_stored tripped_stored rfl rfl rfl

theorem witness_HedgeEvents_1 : stHedgeEvents1.Stored ∧ stHedgeEvents1.asleep = false ∧ stHedgeEvents1.inSleep = false ∧
    stHedgeEvents1.inDeepSleep = false ∧ stHedgeEvents1.hedge.release = none ∧ stHedgeEvents1.hedge.armed = true ∧
    stHedgeEvents1.hedgeRuns = true ∧ stHedgeEvents1.act (9 + 7) = true ∧ stHedgeEvents1.groupDown 7 = false ∧
    stHedgeEvents1.act (9 + 1) = false ∧ stHedgeEvents1.groupDown 0 = true ∧ stHedgeEvents1.flag Reg.HEDGE_CTRL 0 = true ∧
    stHedgeEvents1.flag Reg.HEDGE_SSTOP_STATUS (8 + 3) = true ∧ stHedgeEvents1.flag Reg.HEDGE_SSTOP_CFG 3 = true ∧
    stHedgeEvents1.sstopAsserted 3 = false ∧ stHedgeEvents1.ssOn = true ∧ stHedgeEvents1.hedge.sensor.idDue = true ∧
    stHedgeEvents1.hedge.sensor.fresh = true :=
  ⟨stHedgeEvents1_stored, by decide, by decide, by decide, by decide, by decide, by decide, by decide, by decide, by decide,
    by decide, by decide, by decide, by decide, by decide, by decide, by decide, by decide⟩

theorem witness_HedgeEvents_2 : tripped.Stored ∧ tripped.flag Reg.HEDGE_CTRL 0 = false ∧ tripped.node 65 = false :=
  ⟨tripped_stored, by decide, by decide⟩

theorem witness_HedgeEvents_3 : stHedgeEvents3.Stored ∧ stHedgeEvents3.ssOn = true ∧
    stHedgeEvents3.hedge.sensor.fresh = true ∧ stHedgeEvents3.node 65 = true :=
  ⟨stHedgeEvents3_stored, by decide, by decide, by decide⟩

def stHedgeHostCommands2 : State := put tripped [(Reg.HEDGE_HB_STATUS, 0x00010007)]

theorem stHedgeHostCommands2_stored : stHedgeHostCommands2.Stored := put_stored tripped_stored _

def stHedgeHostCommands3 : State := { up with hedge.rule := up.hedge.rule.set 31 { cfg := 0x80000001 } }

theorem stHedgeHostCommands3_stored : stHedgeHostCommands3.Stored := with_stored up_stored rfl rfl rfl

def stHedgeHostCommands4 : State := { tripped with hedge.rule := tripped.hedge.rule.set 31 { cfg := 0x80000005 } }

theorem stHedgeHostCommands4_stored : stHedgeHostCommands4.Stored := with_stored tripped_stored rfl rfl rfl

def stHedgeHostCommands5 : State := { tripped with
      hedge.rule := (tripped.hedge.rule.set 31 { cfg := 0x80000001, mask := Vector.replicate 4 1 }),
      hedge.run := tripped.hedge.run.set 31 { causeA := 1 }, hedge.sdNodes := 1 }

theorem stHedgeHostCommands5_stored : stHedgeHostCommands5.Stored := with_stored tripped_stored rfl rfl rfl

def stHedgeHostCommands6 : State := { tripped with hedge.release := some (req, 31) }

theorem stHedgeHostCommands6_stored : stHedgeHostCommands6.Stored := with_stored tripped_stored rfl rfl rfl

def stHedgeHostCommands7 : State := { stHedgeHostCommands6 with
      hedge.rule := stHedgeHostCommands6.hedge.rule.set 31 { cfg := 0x80000001, mask := Vector.replicate 4 1 }, hedge.nodes := 1 }

theorem stHedgeHostCommands7_stored : stHedgeHostCommands7.Stored := with_stored stHedgeHostCommands6_stored rfl rfl rfl

theorem witness_HedgeHostCommands_1 : tripped.Stored ∧ tripped.admits req 0x40 ∧ tripped.hedge.release = none ∧
    (tripped.hedge.rule[(31 : Fin 32)]).enable = true ∧ tripped.hedge.isLatched 31 = true ∧
    (tripped.hedge.rule[(31 : Fin 32)]).policy ≠ 2 ∧ tripped.hedge.condSd.getLsbD 31 = false ∧
    tripped.hedge.activeCauses 31 tripped.hedge.sdNodes = 0 ∧ tripped.admits req 0x41 ∧
    (tripped.hedge.run[(31 : Fin 32)]).arm = some { token := 9, pt := 0, pressed := true, seen := true } ∧
    tripped.hedge.condHw.getLsbD 31 = false ∧ tripped.hedge.activeCauses 31 tripped.hedge.last.nodes = 0 ∧
    ((8 : BitVec 16) ≠ 9) ∧ tripped.admits req 0x05 ∧ tripped.hbAccepts 5 = true ∧ tripped.admits req 0x43 :=
  ⟨tripped_stored, admits_of _ _ _ (by decide), by decide, by decide, by decide, by decide, by decide, by decide,
    admits_of _ _ _ (by decide), by decide, by decide, by decide, by decide, admits_of _ _ _ (by decide), by decide,
    admits_of _ _ _ (by decide)⟩

theorem witness_HedgeHostCommands_2 : stHedgeHostCommands2.Stored ∧ stHedgeHostCommands2.admits preq 0x05 ∧
    stHedgeHostCommands2.hbAccepts 7 = false ∧ stHedgeHostCommands2.hbAccepts 8 = true :=
  ⟨stHedgeHostCommands2_stored, admits_of _ _ _ (by decide), by decide, by decide⟩

theorem witness_HedgeHostCommands_3 : stHedgeHostCommands3.Stored ∧ stHedgeHostCommands3.admits preq 0x40 ∧
    stHedgeHostCommands3.hedge.release = none ∧ (stHedgeHostCommands3.hedge.rule[(31 : Fin 32)]).enable = true ∧
    stHedgeHostCommands3.hedge.isLatched 31 = false :=
  ⟨stHedgeHostCommands3_stored, admits_of _ _ _ (by decide), by decide, by decide, by decide⟩

theorem witness_HedgeHostCommands_4 : stHedgeHostCommands4.Stored ∧ stHedgeHostCommands4.admits preq 0x40 ∧
    (stHedgeHostCommands4.hedge.rule[(31 : Fin 32)]).enable = true ∧ stHedgeHostCommands4.hedge.isLatched 31 = true ∧
    (stHedgeHostCommands4.hedge.rule[(31 : Fin 32)]).policy = 2 :=
  ⟨stHedgeHostCommands4_stored, admits_of _ _ _ (by decide), by decide, by decide, by decide⟩

theorem witness_HedgeHostCommands_5 : stHedgeHostCommands5.Stored ∧ stHedgeHostCommands5.admits preq 0x40 ∧
    stHedgeHostCommands5.hedge.isLatched 31 = true ∧ (stHedgeHostCommands5.hedge.rule[(31 : Fin 32)]).policy ≠ 2 ∧
    stHedgeHostCommands5.hedge.activeCauses 31 stHedgeHostCommands5.hedge.sdNodes ≠ 0 :=
  ⟨stHedgeHostCommands5_stored, admits_of _ _ _ (by decide), by decide, by decide, by decide⟩

theorem witness_HedgeHostCommands_6 : stHedgeHostCommands6.Stored ∧ stHedgeHostCommands6.hedgeRuns = true ∧
    stHedgeHostCommands6.hedge.release = some (req, 31) ∧
    (stHedgeHostCommands6.hedge.rule[(31 : Fin 32)]).cond stHedgeHostCommands6.hedge.nodes = false ∧
    stHedgeHostCommands6.hedge.activeCauses 31 stHedgeHostCommands6.hedge.nodes = 0 :=
  ⟨stHedgeHostCommands6_stored, by decide, by decide, by decide, by decide⟩

theorem witness_HedgeHostCommands_7 : stHedgeHostCommands7.Stored ∧ stHedgeHostCommands7.hedgeRuns = true ∧
    stHedgeHostCommands7.hedge.release = some (req, 31) ∧
    (stHedgeHostCommands7.hedge.rule[(31 : Fin 32)]).cond stHedgeHostCommands7.hedge.nodes = true ∧
    (stHedgeHostCommands7.hedge.rule[(31 : Fin 32)]).latched = true :=
  ⟨stHedgeHostCommands7_stored, by decide, by decide, by decide, by decide⟩

theorem witness_BuiltInResponses : ((78 = 78 ∨ 78 = 67) ∧ 17 ∈ [0, 2, 3, 4, 5, 6, 7, 8, 17]) ∧
    ((89 = 79 ∨ 89 = 89) ∧ 20 ∈ [0, 2, 3, 4, 5, 6, 7, 8, 9, 10, 11, 12, 13, 14, 15, 16, 20]) :=
  ⟨by decide, by decide⟩

def stSequencerCommands1 : State := { up with seq.startDue := true }

theorem stSequencerCommands1_stored : stSequencerCommands1.Stored := with_stored up_stored rfl rfl rfl

def stSequencerCommands2 : State :=
    put { up with seq.startDue := true, seq.restGroups := 0x80 } [(Reg.SEQ_RAIL_CFG 5, 0x80000000)]

theorem stSequencerCommands2_stored : stSequencerCommands2.Stored := made_stored up_stored _ rfl rfl rfl rfl

def stSequencerCommands3 : State :=
    { railed with seq.rail := railed.seq.rail.set 0 { state := .ramp, rank := 1 }, seq.st := .powerUp }

theorem stSequencerCommands3_stored : stSequencerCommands3.Stored := with_stored railed_stored rfl rfl rfl

def stSequencerCommands4 : State :=
    { railed with seq.rail := railed.seq.rail.set 23 { state := .settle, rank := 1 }, seq.st := .powerUp }

theorem stSequencerCommands4_stored : stSequencerCommands4.Stored := with_stored railed_stored rfl rfl rfl

def stSequencerCommands5 : State := { railed with seq.rail := railed.seq.rail.set 23 { state := .discharge } }

theorem stSequencerCommands5_stored : stSequencerCommands5.Stored := with_stored railed_stored rfl rfl rfl

def stSequencerCommands6 : State := { railed with seq.st := .rest }

theorem stSequencerCommands6_stored : stSequencerCommands6.Stored := with_stored railed_stored rfl rfl rfl

def stSequencerCommands7 : State := { up with seq.st := .rest, hedge.bootHold := true, seq.restCut := true }

theorem stSequencerCommands7_stored : stSequencerCommands7.Stored := with_stored up_stored rfl rfl rfl

def stSequencerCommands8 : State := { up with seq.st := .rest }

theorem stSequencerCommands8_stored : stSequencerCommands8.Stored := with_stored up_stored rfl rfl rfl

def stSequencerCommands9 : State := put up [(Reg.SEQ_RAIL_CFG 5, 0x80000000)]

theorem stSequencerCommands9_stored : stSequencerCommands9.Stored := put_stored up_stored _

def stSequencerCommands10 : State := { up with hedge.bootHold := true }

theorem stSequencerCommands10_stored : stSequencerCommands10.Stored := with_stored up_stored rfl rfl rfl

def stSequencerCommands11 : State := { up with seq.st := .startFail }

theorem stSequencerCommands11_stored : stSequencerCommands11.Stored := with_stored up_stored rfl rfl rfl

def stSequencerCommands12 : State := { up with seq.st := .faultOff }

theorem stSequencerCommands12_stored : stSequencerCommands12.Stored := with_stored up_stored rfl rfl rfl

def stSequencerCommands13 : State := { up with seq.st := .faultOff, seq.rail := up.seq.rail.set 23 { state := .discharge } }

theorem stSequencerCommands13_stored : stSequencerCommands13.Stored := with_stored up_stored rfl rfl rfl

theorem witness_SequencerCommands_1 : stSequencerCommands1.Stored ∧ stSequencerCommands1.seqCalm ∧
    stSequencerCommands1.startAllowed = true ∧ stSequencerCommands1.seq.startDue = true ∧
    stSequencerCommands1.seq.st = .allOff ∧ stSequencerCommands1.startable stSequencerCommands1.seq.restGroups = 0 :=
  ⟨stSequencerCommands1_stored, ⟨by decide, by decide, by decide, by decide, by decide, by decide, by decide⟩, by decide,
    by decide, by decide, by decide⟩

theorem witness_SequencerCommands_2 : stSequencerCommands2.Stored ∧ stSequencerCommands2.seqCalm ∧
    stSequencerCommands2.startAllowed = true ∧ stSequencerCommands2.seq.startDue = true ∧
    stSequencerCommands2.seq.st = .allOff ∧ stSequencerCommands2.startable stSequencerCommands2.seq.restGroups ≠ 0 ∧
    stSequencerCommands2.herdGroups = 0 :=
  ⟨stSequencerCommands2_stored, ⟨by decide, by decide, by decide, by decide, by decide, by decide, by decide⟩, by decide,
    by decide, by decide, by decide, by decide⟩

theorem witness_SequencerCommands_3 : stSequencerCommands3.Stored ∧ stSequencerCommands3.seqCalm ∧
    stSequencerCommands3.seq.startDue = false ∧ stSequencerCommands3.railsHeld = false ∧
    stSequencerCommands3.seq.st = .powerUp ∧ ((1 : BitVec 24) &&& stSequencerCommands3.railsIn [.ramp]).getLsbD 0 = true ∧
    (∀ k : Fin 24, ((1 : BitVec 24) &&& stSequencerCommands3.railsIn [.ramp]).getLsbD k = true → 0 ≤ k) ∧
    (0x800000 : BitVec 24) &&& stSequencerCommands3.railsIn [.ramp] = 0 :=
  ⟨stSequencerCommands3_stored, ⟨by decide, by decide, by decide, by decide, by decide, by decide, by decide⟩, by decide,
    by decide, by decide, by decide, by decide, by decide⟩

theorem witness_SequencerCommands_4 : stSequencerCommands4.Stored ∧ stSequencerCommands4.seqCalm ∧
    stSequencerCommands4.seq.startDue = false ∧ stSequencerCommands4.railsHeld = false ∧
    (0x800000 : BitVec 24).getLsbD 23 = true ∧ (stSequencerCommands4.seq.rail[(23 : Fin 24)]).state = .settle ∧
    stSequencerCommands4.keptRails.getLsbD 23 = true :=
  ⟨stSequencerCommands4_stored, ⟨by decide, by decide, by decide, by decide, by decide, by decide, by decide⟩, by decide,
    by decide, by decide, by decide, by decide⟩

theorem witness_SequencerCommands_5 : stSequencerCommands5.Stored ∧ stSequencerCommands5.seqCalm ∧
    stSequencerCommands5.seq.startDue = false ∧ (stSequencerCommands5.seq.rail[(23 : Fin 24)]).state = .discharge :=
  ⟨stSequencerCommands5_stored, ⟨by decide, by decide, by decide, by decide, by decide, by decide, by decide⟩, by decide,
    by decide⟩

theorem witness_SequencerCommands_6 : stSequencerCommands6.Stored ∧ stSequencerCommands6.seqCalm ∧
    stSequencerCommands6.seq.startDue = false ∧ stSequencerCommands6.seq.st = .rest ∧
    stSequencerCommands6.flag Reg.SEQ_CTRL 0 = true ∧ stSequencerCommands6.startAllowed = true :=
  ⟨stSequencerCommands6_stored, ⟨by decide, by decide, by decide, by decide, by decide, by decide, by decide⟩, by decide,
    by decide, by decide, by decide⟩

theorem witness_SequencerCommands_7 : stSequencerCommands7.Stored ∧ stSequencerCommands7.seqCalm ∧
    stSequencerCommands7.seq.startDue = false ∧ stSequencerCommands7.seq.st = .rest ∧
    stSequencerCommands7.seq.restCut = true ∧ stSequencerCommands7.startAllowed = false :=
  ⟨stSequencerCommands7_stored, ⟨by decide, by decide, by decide, by decide, by decide, by decide, by decide⟩, by decide,
    by decide, by decide, by decide⟩

theorem witness_SequencerCommands_8 : stSequencerCommands8.Stored ∧ stSequencerCommands8.seqCalm ∧
    stSequencerCommands8.seq.startDue = false ∧ stSequencerCommands8.seq.st = .rest ∧
    stSequencerCommands8.seq.restCut = false ∧ stSequencerCommands8.flag Reg.SEQ_CTRL 0 = false :=
  ⟨stSequencerCommands8_stored, ⟨by decide, by decide, by decide, by decide, by decide, by decide, by decide⟩, by decide,
    by decide, by decide, by decide⟩

theorem witness_SequencerCommands_9 : stSequencerCommands9.Stored ∧ stSequencerCommands9.seqCalm ∧
    stSequencerCommands9.seq.startDue = false ∧ stSequencerCommands9.hedge.bootHold = false ∧
    stSequencerCommands9.admits req 0x10 ∧ ((0x80 : BitVec 8) ≠ 0) ∧
    (0x80 : BitVec 8) &&& ~~~stSequencerCommands9.carriedGroups = 0 ∧
    (∀ k : Fin 8, (0x80 : BitVec 8).getLsbD k = true → stSequencerCommands9.act (9 + k) = false) ∧
    stSequencerCommands9.herdGroups = 0 ∧ stSequencerCommands9.seq.st = .allOff ∧
    (0x80 : BitVec 8) &&& ~~~(stSequencerCommands9.groupsGood &&& stSequencerCommands9.seq.target) ≠ 0 :=
  ⟨stSequencerCommands9_stored, ⟨by decide, by decide, by decide, by decide, by decide, by decide, by decide⟩, by decide,
    by decide, admits_of _ _ _ (by decide), by decide, by decide, by decide, by decide, by decide, by decide⟩

theorem witness_SequencerCommands_10 : railed.Stored ∧ railed.seqCalm ∧ railed.seq.startDue = false ∧
    railed.hedge.bootHold = false ∧ railed.admits req 0x11 ∧ ((1 : BitVec 8) ≠ 0) ∧ railed.herdGroups = 0 ∧
    railed.herd.st = .herdOff ∧ railed.seq.st = .steady ∧ (1 : BitVec 8) &&& railed.seq.target ≠ 0 ∧
    (0x80 : BitVec 8) &&& (railed.seq.target ||| railed.seq.slot) = 0 :=
  ⟨railed_stored, ⟨by decide, by decide, by decide, by decide, by decide, by decide, by decide⟩, by decide, by decide,
    admits_of _ _ _ (by decide), by decide, by decide, by decide, by decide, by decide, by decide⟩

theorem witness_SequencerCommands_11 : stSequencerCommands10.Stored ∧ stSequencerCommands10.dev.planLoaded = true ∧
    stSequencerCommands10.hedge.bootHold = true :=
  ⟨stSequencerCommands10_stored, by decide, by decide⟩

theorem witness_SequencerCommands_12 : stSequencerCommands11.Stored ∧ stSequencerCommands11.seqCalm ∧
    stSequencerCommands11.seq.startDue = false ∧ stSequencerCommands11.hedge.bootHold = false ∧
    stSequencerCommands11.admits preq 0x13 ∧ stSequencerCommands11.seq.st = .startFail :=
  ⟨stSequencerCommands11_stored, ⟨by decide, by decide, by decide, by decide, by decide, by decide, by decide⟩, by decide,
    by decide, admits_of _ _ _ (by decide), by decide⟩

theorem witness_SequencerCommands_13 : stSequencerCommands12.Stored ∧ stSequencerCommands12.seqCalm ∧
    stSequencerCommands12.seq.startDue = false ∧ stSequencerCommands12.hedge.bootHold = false ∧
    stSequencerCommands12.admits preq 0x13 ∧ stSequencerCommands12.seq.st = .faultOff ∧
    stSequencerCommands12.railsIn [.discharge] = 0 ∧
    (∀ n : Fin 24, stSequencerCommands12.flag (Reg.SUP_RAIL_VALUE n) 21 = false) :=
  ⟨stSequencerCommands12_stored, ⟨by decide, by decide, by decide, by decide, by decide, by decide, by decide⟩, by decide,
    by decide, admits_of _ _ _ (by decide), by decide, by decide, by decide⟩

theorem witness_SequencerCommands_14 : stSequencerCommands13.Stored ∧ stSequencerCommands13.seqCalm ∧
    stSequencerCommands13.admits preq 0x13 ∧ stSequencerCommands13.seq.st = .faultOff ∧
    stSequencerCommands13.railsIn [.discharge] ≠ 0 :=
  ⟨stSequencerCommands13_stored, ⟨by decide, by decide, by decide, by decide, by decide, by decide, by decide⟩,
    admits_of _ _ _ (by decide), by decide, by decide⟩

theorem witness_SequencerCommands_15 : up.Stored ∧ up.seqCalm ∧ up.admits preq 0x13 ∧ up.seq.st ≠ .startFail ∧
    up.seq.st ≠ .faultOff :=
  ⟨up_stored, ⟨by decide, by decide, by decide, by decide, by decide, by decide, by decide⟩, admits_of _ _ _ (by decide),
    by decide, by decide⟩

def stRailStates2 : State :=
    put { up with seq.st := .powerUp, seq.target := 1, seq.rail := up.seq.rail.set 23 { state := .wait, okPt := some 0 } }
    [(Reg.SEQ_RAIL_CFG 23, 0x01000000)]

theorem stRailStates2_stored : stRailStates2.Stored := made_stored up_stored _ rfl rfl rfl rfl

def stRailStates3 : State := { railed with sup.tripped := 0x800000 }

theorem stRailStates3_stored : stRailStates3.Stored := with_stored railed_stored rfl rfl rfl

def stRailStates4 : State := { railed with seq.target := 0, seq.st := .powerDown }

theorem stRailStates4_stored : stRailStates4.Stored := with_stored railed_stored rfl rfl rfl

def stRailStates5 : State := { up with seq.slot := 0x80, herd.aborting := some 5 }

theorem stRailStates5_stored : stRailStates5.Stored := with_stored up_stored rfl rfl rfl

theorem witness_RailStates_1 : railed.Stored ∧ (railed.seq.rail[(23 : Fin 24)]).state ≠ .off ∧
    (railed.seq.rail[(0 : Fin 24)]).state ≠ .ramp ∧ (22 : Fin 24) ≠ 23 ∧ railed.herdGroups = 0 ∧ railed.seq.slot = 0 :=
  ⟨railed_stored, by decide, by decide, by decide, by decide, by decide⟩

theorem witness_RailStates_2 : stRailStates2.Stored ∧ (stRailStates2.seq.rail[(23 : Fin 24)]).state ≠ .ramp ∧
    (stRailStates2.riseStep.seq.rail[(23 : Fin 24)]).state = .ramp :=
  ⟨stRailStates2_stored, by decide, by decide⟩

theorem witness_RailStates_3 : stRailStates3.Stored ∧ stRailStates3.sup.tripped ≠ 0 ∧ stRailStates3.seq.st ≠ .faultOff :=
  ⟨stRailStates3_stored, by decide, by decide⟩

theorem witness_RailStates_4 : stRailStates4.Stored ∧ (stRailStates4.seq.rail[(23 : Fin 24)]).state ≠ .discharge ∧
    (stRailStates4.downStep.seq.rail[(23 : Fin 24)]).state = .discharge :=
  ⟨stRailStates4_stored, by decide, by decide⟩

theorem witness_RailStates_5 : stRailStates5.Stored ∧ stRailStates5.herdGroups = 0 ∧ stRailStates5.seq.slot ≠ 0 ∧
    stRailStates5.railsHeld = true :=
  ⟨stRailStates5_stored, by decide, by decide, by decide⟩

def stSupervisionCommands2 : State := put railed [(Reg.SUP_STATUS, 0x14)]

theorem stSupervisionCommands2_stored : stSupervisionCommands2.Stored := put_stored railed_stored _

def stSupervisionCommands3 : State := { up with sup.holdUp := some (0, []) }

theorem stSupervisionCommands3_stored : stSupervisionCommands3.Stored := with_stored up_stored rfl rfl rfl

def stSupervisionCommands4 : State := put up [(Reg.SUP_CNT_STATUS, 0x10000), (Reg.SUP_CTRL, 0)]

theorem stSupervisionCommands4_stored : stSupervisionCommands4.Stored := put_stored up_stored _

theorem witness_SupervisionCommands_1 : railed.Stored ∧ railed.adcRuns = true ∧ railed.dev.planLoaded = true ∧
    railed.dev.inReset = false ∧ railed.pmc.state ≠ .off ∧ railed.asleep = false ∧ railed.flag Reg.SUP_STATUS 0 = false ∧
    railed.railsInUse.getLsbD 23 = true ∧ railed.railsGood.getLsbD 23 = true ∧ (0x800000 : BitVec 24).getLsbD 23 = true ∧
    railed.dev.powered = true ∧ railed.flag Reg.SUP_STATUS 4 = true ∧ railed.flag Reg.SUP_STATUS 3 = true ∧
    railed.admits req 0x14 ∧ bufBad req ⟨8, 64, 0⟩ (8 + 20 * count128 ((0x800001 : BitVec 24).setWidth 128)) = false ∧
    ((0 : Byte).getLsbD 0 = false) ∧ ((1 : Byte).getLsbD 0 = true) ∧ railed.admits req 0x15 ∧
    (0x800000 : BitVec 24) &&& ~~~railed.railsInUse = 0 ∧ ((0xFF : Byte) ≠ 0) ∧ ((0x800000 : BitVec 24) ≠ 0) ∧
    ((0x80 : Byte) = 0x80) :=
  ⟨railed_stored, by decide, by decide, by decide, by decide, by decide, by decide, by decide, by decide, by decide,
    by decide, by decide, by decide, admits_of _ _ _ (by decide), by decide, by decide, by decide,
    admits_of _ _ _ (by decide), by decide, by decide, by decide, by decide⟩

theorem witness_SupervisionCommands_2 : stSupervisionCommands2.Stored ∧ stSupervisionCommands2.dev.powered = true ∧
    stSupervisionCommands2.dev.inReset = false ∧ stSupervisionCommands2.pmc.state ≠ .off ∧
    stSupervisionCommands2.flag Reg.SUP_STATUS 4 = true ∧ stSupervisionCommands2.flag Reg.SUP_STATUS 3 = false :=
  ⟨stSupervisionCommands2_stored, by decide, by decide, by decide, by decide, by decide⟩

theorem witness_SupervisionCommands_3 : stSupervisionCommands3.Stored ∧ stSupervisionCommands3.sup.holdUp ≠ none :=
  ⟨stSupervisionCommands3_stored, by decide⟩

theorem witness_SupervisionCommands_4 : stSupervisionCommands4.Stored ∧ stSupervisionCommands4.dev.planLoaded = true ∧
    stSupervisionCommands4.inSleepOrWake = false ∧ stSupervisionCommands4.dev.inReset = false ∧
    stSupervisionCommands4.fld Reg.SUP_CTRL 31 24 ≤ stSupervisionCommands4.snapAge ∧
    stSupervisionCommands4.flag Reg.SUP_CNT_STATUS 16 = true :=
  ⟨stSupervisionCommands4_stored, by decide, by decide, by decide, by decide, by decide⟩

def stRailWarning2 : State := put up [(Reg.SUP_RAIL_WTH 23, 100), (Reg.SUP_RAIL_VALUE 23, 99)]

theorem stRailWarning2_stored : stRailWarning2.Stored := put_stored up_stored _

def stRailWarning3 : State := put up [(Reg.SUP_RAIL_WTH 23, 100), (Reg.SUP_RAIL_VALUE 23, 100)]

theorem stRailWarning3_stored : stRailWarning3.Stored := put_stored up_stored _

def stRailWarning4 : State := put up
    [(Reg.SUP_RAIL_WTH 23, 100), (Reg.SUP_RAIL_WHYST 23, 5), (Reg.SUP_RAIL_VALUE 23, 0x10069)]

theorem stRailWarning4_stored : stRailWarning4.Stored := put_stored up_stored _

def stRailWarning5 : State := put up
    [(Reg.SUP_RAIL_WTH 23, 100), (Reg.SUP_RAIL_WHYST 23, 5), (Reg.SUP_RAIL_VALUE 23, 0x10068)]

theorem stRailWarning5_stored : stRailWarning5.Stored := put_stored up_stored _

theorem witness_RailWarning_1 : up.Stored ∧ up.fld (Reg.SUP_RAIL_WTH 0) 15 0 = 0 :=
  ⟨up_stored, by decide⟩

theorem witness_RailWarning_2 : stRailWarning2.Stored ∧ stRailWarning2.flag (Reg.SUP_RAIL_VALUE 23) 16 = false ∧
    stRailWarning2.railValue 23 < stRailWarning2.fld (Reg.SUP_RAIL_WTH 23) 15 0 :=
  ⟨stRailWarning2_stored, by decide, by decide⟩

theorem witness_RailWarning_3 : stRailWarning3.Stored ∧ stRailWarning3.flag (Reg.SUP_RAIL_VALUE 23) 16 = false ∧
    stRailWarning3.fld (Reg.SUP_RAIL_WTH 23) 15 0 ≤ stRailWarning3.railValue 23 :=
  ⟨stRailWarning3_stored, by decide, by decide⟩

theorem witness_RailWarning_4 : stRailWarning4.Stored ∧ stRailWarning4.flag (Reg.SUP_RAIL_VALUE 23) 16 = true ∧
    stRailWarning4.fld (Reg.SUP_RAIL_WTH 23) 15 0 ≠ 0 ∧
    stRailWarning4.fld (Reg.SUP_RAIL_WTH 23) 15 0 + stRailWarning4.fld (Reg.SUP_RAIL_WHYST 23) 15 0 ≤ stRailWarning4.railValue 23 :=
  ⟨stRailWarning4_stored, by decide, by decide, by decide⟩

theorem witness_RailWarning_5 : stRailWarning5.Stored ∧ stRailWarning5.flag (Reg.SUP_RAIL_VALUE 23) 16 = true ∧
    stRailWarning5.railValue 23 < stRailWarning5.fld (Reg.SUP_RAIL_WTH 23) 15 0 + stRailWarning5.fld (Reg.SUP_RAIL_WHYST 23) 15 0 :=
  ⟨stRailWarning5_stored, by decide, by decide⟩

def stHerdCommands2 : State := { herded with herd.st := .stepUp, herd.step := 1 }

theorem stHerdCommands2_stored : stHerdCommands2.Stored := with_stored herded_stored rfl rfl rfl

def stHerdCommands3 : State := { herded with herd.st := .stepUp, herd.step := 2 }

theorem stHerdCommands3_stored : stHerdCommands3.Stored := with_stored herded_stored rfl rfl rfl

def stHerdCommands4 : State := { herded with herd.st := .stepDown, herd.step := 2 }

theorem stHerdCommands4_stored : stHerdCommands4.Stored := with_stored herded_stored rfl rfl rfl

def stHerdCommands5 : State := { herded with herd.st := .stepDown, herd.step := 1 }

theorem stHerdCommands5_stored : stHerdCommands5.Stored := with_stored herded_stored rfl rfl rfl

def stHerdCommands6 : State := { herded with herd.st := .muster }

theorem stHerdCommands6_stored : stHerdCommands6.Stored := with_stored herded_stored rfl rfl rfl

def stHerdCommands7 : State := { herded with herd.st := .running }

theorem stHerdCommands7_stored : stHerdCommands7.Stored := with_stored herded_stored rfl rfl rfl

def stHerdCommands8 : State := { herded with herd.st := .alarmed }

theorem stHerdCommands8_stored : stHerdCommands8.Stored := with_stored herded_stored rfl rfl rfl

def stHerdCommands9 : State := { herded with pmc.state := .deepSleep }

theorem stHerdCommands9_stored : stHerdCommands9.Stored := with_stored herded_stored rfl rfl rfl

def stHerdCommands10 : State := put { herded with pmc.state := .sleep } [(Reg.PMC_WAKE_EN, 0x400)]

theorem stHerdCommands10_stored : stHerdCommands10.Stored := made_stored herded_stored _ rfl rfl rfl rfl

def stHerdCommands11 : State := put herded [(Reg.PMC_WAKE_EN, 0x400)]

theorem stHerdCommands11_stored : stHerdCommands11.Stored := put_stored herded_stored _

theorem witness_HerdCommands_1 : herded.Stored ∧ herded.herdRuns = true ∧ herded.herdLead = true ∧ herded.herd.st = .herdOff ∧
    herded.herd.requested = true ∧ herded.herdPulsing = false ∧ herded.seqCalm ∧ herded.seq.startDue = false ∧
    herded.failLatched = false ∧ herded.herdWork = false ∧ herded.herd.st ≠ .muster :=
  ⟨herded_stored, by decide, by decide, by decide, by decide, by decide,
    ⟨by decide, by decide, by decide, by decide, by decide, by decide, by decide⟩, by decide, by decide, by decide, by decide⟩

theorem witness_HerdCommands_2 : stHerdCommands2.Stored ∧ stHerdCommands2.herdRuns = true ∧ stHerdCommands2.seqCalm ∧
    stHerdCommands2.seq.startDue = false ∧ stHerdCommands2.herdWork = false ∧ stHerdCommands2.herd.st = .stepUp ∧
    stHerdCommands2.herd.step < stHerdCommands2.herdSteps :=
  ⟨stHerdCommands2_stored, by decide, ⟨by decide, by decide, by decide, by decide, by decide, by decide, by decide⟩,
    by decide, by decide, by decide, by decide⟩

theorem witness_HerdCommands_3 : stHerdCommands3.Stored ∧ stHerdCommands3.herdRuns = true ∧ stHerdCommands3.seqCalm ∧
    stHerdCommands3.seq.startDue = false ∧ stHerdCommands3.herdWork = false ∧ stHerdCommands3.herd.st = .stepUp ∧
    stHerdCommands3.herdSteps ≤ stHerdCommands3.herd.step :=
  ⟨stHerdCommands3_stored, by decide, ⟨by decide, by decide, by decide, by decide, by decide, by decide, by decide⟩,
    by decide, by decide, by decide, by decide⟩

theorem witness_HerdCommands_4 : stHerdCommands4.Stored ∧ stHerdCommands4.herdRuns = true ∧ stHerdCommands4.seqCalm ∧
    stHerdCommands4.seq.startDue = false ∧ stHerdCommands4.herdWork = false ∧ stHerdCommands4.herd.st = .stepDown ∧
    1 < stHerdCommands4.herd.step :=
  ⟨stHerdCommands4_stored, by decide, ⟨by decide, by decide, by decide, by decide, by decide, by decide, by decide⟩,
    by decide, by decide, by decide, by decide⟩

theorem witness_HerdCommands_5 : stHerdCommands5.Stored ∧ stHerdCommands5.herdRuns = true ∧ stHerdCommands5.seqCalm ∧
    stHerdCommands5.seq.startDue = false ∧ stHerdCommands5.herdWork = false ∧ stHerdCommands5.herd.st = .stepDown ∧
    stHerdCommands5.herd.step ≤ 1 :=
  ⟨stHerdCommands5_stored, by decide, ⟨by decide, by decide, by decide, by decide, by decide, by decide, by decide⟩,
    by decide, by decide, by decide, by decide⟩

theorem witness_HerdCommands_6 : stHerdCommands6.Stored ∧ stHerdCommands6.herdRuns = true ∧ stHerdCommands6.seqCalm ∧
    stHerdCommands6.seq.startDue = false ∧ stHerdCommands6.herd.st = .muster ∧ stHerdCommands6.herdWork = false ∧
    stHerdCommands6.herd.step < stHerdCommands6.herdSteps :=
  ⟨stHerdCommands6_stored, by decide, ⟨by decide, by decide, by decide, by decide, by decide, by decide, by decide⟩,
    by decide, by decide, by decide, by decide⟩

theorem witness_HerdCommands_7 : stHerdCommands7.Stored ∧ stHerdCommands7.herdRuns = true ∧ stHerdCommands7.herd.st = .running :=
  ⟨stHerdCommands7_stored, by decide, by decide⟩

theorem witness_HerdCommands_8 : stHerdCommands8.Stored ∧ stHerdCommands8.herdRuns = true ∧ stHerdCommands8.herd.st = .alarmed :=
  ⟨stHerdCommands8_stored, by decide, by decide⟩

theorem witness_HerdCommands_9 : stHerdCommands9.Stored ∧ stHerdCommands9.live = true ∧ stHerdCommands9.herdOn = true ∧
    stHerdCommands9.herd.st = .herdOff ∧ stHerdCommands9.flag Reg.PMC_WAKE_EN 10 = false :=
  ⟨stHerdCommands9_stored, by decide, by decide, by decide, by decide⟩

theorem witness_HerdCommands_10 : stHerdCommands10.Stored ∧ stHerdCommands10.live = true ∧ stHerdCommands10.inSleep = true ∧
    stHerdCommands10.herdOn = true ∧ stHerdCommands10.herd.st = .herdOff ∧ stHerdCommands10.flag Reg.PMC_WAKE_EN 10 = true :=
  ⟨stHerdCommands10_stored, by decide, by decide, by decide, by decide, by decide⟩

theorem witness_HerdCommands_11 : stHerdCommands11.Stored ∧ stHerdCommands11.live = true ∧ stHerdCommands11.pmc.state = .run ∧
    stHerdCommands11.herdOn = true ∧ stHerdCommands11.herd.st = .herdOff ∧ stHerdCommands11.flag Reg.PMC_WAKE_EN 10 = true :=
  ⟨stHerdCommands11_stored, by decide, by decide, by decide, by decide, by decide⟩

def stHerdPulses2 : State := { herded with herd.st := .running }

theorem stHerdPulses2_stored : stHerdPulses2.Stored := with_stored herded_stored rfl rfl rfl

def stHerdPulses3 : State := { herded with herd.st := .stepUp }

theorem stHerdPulses3_stored : stHerdPulses3.Stored := with_stored herded_stored rfl rfl rfl

def stHerdPulses4 : State := { herded with seq.st := .startFail }

theorem stHerdPulses4_stored : stHerdPulses4.Stored := with_stored herded_stored rfl rfl rfl

def stHerdPulses5 : State := { herded with seq.st := .faultOff }

theorem stHerdPulses5_stored : stHerdPulses5.Stored := with_stored herded_stored rfl rfl rfl

theorem witness_HerdPulses_1 : herded.Stored ∧ herded.herdRuns = true ∧ herded.seqCalm ∧ herded.seq.startDue = false ∧
    herded.herd.st = .herdOff ∧ ((95 : BitVec 24).toNat < 96) ∧
    (96 ≤ (96 : BitVec 24).toNat ∧ (287 : BitVec 24).toNat < 288) ∧ (288 ≤ (288 : BitVec 24).toNat) ∧
    ((768 : BitVec 24).toNat ≤ 768) ∧ (768 < (769 : BitVec 24).toNat ∧ (959 : BitVec 24).toNat < 960) ∧
    (960 ≤ (960 : BitVec 24).toNat) :=
  ⟨herded_stored, by decide, ⟨by decide, by decide, by decide, by decide, by decide, by decide, by decide⟩, by decide,
    by decide, by decide, by decide, by decide, by decide, by decide, by decide⟩

theorem witness_HerdPulses_2 : stHerdPulses2.Stored ∧ stHerdPulses2.herdRuns = true ∧ stHerdPulses2.seqCalm ∧
    stHerdPulses2.seq.startDue = false ∧ stHerdPulses2.herd.st = .running :=
  ⟨stHerdPulses2_stored, by decide, ⟨by decide, by decide, by decide, by decide, by decide, by decide, by decide⟩, by decide,
    by decide⟩

theorem witness_HerdPulses_3 : stHerdPulses3.Stored ∧ stHerdPulses3.herdRuns = true ∧ stHerdPulses3.seqCalm ∧
    stHerdPulses3.seq.startDue = false ∧ stHerdPulses3.herd.st ≠ .herdOff ∧ stHerdPulses3.herd.st ≠ .running :=
  ⟨stHerdPulses3_stored, by decide, ⟨by decide, by decide, by decide, by decide, by decide, by decide, by decide⟩, by decide,
    by decide, by decide⟩

theorem witness_HerdPulses_4 : stHerdPulses4.Stored ∧ stHerdPulses4.herdRuns = true ∧ stHerdPulses4.seqCalm ∧
    stHerdPulses4.herd.st = .herdOff ∧ stHerdPulses4.seq.st = .startFail ∧ stHerdPulses4.herdLead = true :=
  ⟨stHerdPulses4_stored, by decide, ⟨by decide, by decide, by decide, by decide, by decide, by decide, by decide⟩, by decide,
    by decide, by decide⟩

theorem witness_HerdPulses_5 : stHerdPulses5.Stored ∧ stHerdPulses5.herdRuns = true ∧ stHerdPulses5.seqCalm ∧
    stHerdPulses5.herd.st = .herdOff ∧ stHerdPulses5.seq.st = .faultOff :=
  ⟨stHerdPulses5_stored, by decide, ⟨by decide, by decide, by decide, by decide, by decide, by decide, by decide⟩, by decide,
    by decide⟩

def stBatteryEvents3 : State := { packed with batt.coldBroken := true }

theorem stBatteryEvents3_stored : stBatteryEvents3.Stored := with_stored packed_stored rfl rfl rfl

def stBatteryEvents4 : State := { packed with pmc.state := .sleep }

theorem stBatteryEvents4_stored : stBatteryEvents4.Stored := with_stored packed_stored rfl rfl rfl

def stBatteryEvents5 : State := put packed [(Reg.BATT_CFG, 0x00020004)]

theorem stBatteryEvents5_stored : stBatteryEvents5.Stored := put_stored packed_stored _

theorem witness_BatteryEvents_1 : packed.Stored ∧ packed.battRuns = true ∧ packed.rShunt ≠ 0 ∧ packed.time.src = .xo ∧
    packed.flag Reg.BATT_STATUS 2 = true ∧ packed.flag Reg.BATT_STATUS 3 = true ∧ packed.flag Reg.BATT_PROT_CFG 0 = true ∧
    packed.flag Reg.BATT_STATUS 5 = false ∧ packed.fetFaultable .chgGate = true ∧
    packed.flag Reg.BATT_FET_FAULT (fetIdx .chgGate) = false ∧ packed.dev.planLoaded = true ∧ packed.asleep = false ∧
    packed.batt.cold = true ∧ packed.batt.coldBroken = false ∧ packed.fld Reg.BATT_CFG 17 16 ≠ 0 ∧
    packed.fld Reg.BATT_CFG 17 16 ≠ 2 ∧ packed.batt.idKnown = true ∧ packed.idMatches (0 : BitVec 64).toNat = true ∧
    packed.idMatches (1 : BitVec 64).toNat = false :=
  ⟨packed_stored, by decide, by decide, by decide, by decide, by decide, by decide, by decide, by decide, by decide,
    by decide, by decide, by decide, by decide, by decide, by decide, by decide, by decide, by decide⟩

theorem witness_BatteryEvents_2 : up.Stored ∧ up.battRuns = true ∧ up.rShunt = 0 ∧ up.flag Reg.BATT_STATUS 2 = false ∧
    up.flag Reg.BATT_STATUS 3 = false :=
  ⟨up_stored, by decide, by decide, by decide, by decide⟩

theorem witness_BatteryEvents_3 : stBatteryEvents3.Stored ∧ stBatteryEvents3.batt.cold = true ∧
    stBatteryEvents3.asleep = false ∧ stBatteryEvents3.batt.coldBroken = true :=
  ⟨stBatteryEvents3_stored, by decide, by decide, by decide⟩

theorem witness_BatteryEvents_4 : stBatteryEvents4.Stored ∧ stBatteryEvents4.live = true ∧ stBatteryEvents4.inSleep = true ∧
    stBatteryEvents4.lpArmed .rest = true ∧ stBatteryEvents4.lpArmed .protection = true :=
  ⟨stBatteryEvents4_stored, by decide, by decide, by decide, by decide⟩

theorem witness_BatteryEvents_5 : stBatteryEvents5.Stored ∧ stBatteryEvents5.dev.planLoaded = true ∧
    stBatteryEvents5.asleep = false ∧ stBatteryEvents5.fld Reg.BATT_CFG 17 16 = 2 ∧
    ((BitVec.allOnes 64 : BitVec 64) = BitVec.allOnes 64) :=
  ⟨stBatteryEvents5_stored, by decide, by decide, by decide, by decide⟩

theorem witness_BatteryControl_1 : packed.Stored ∧ packed.asleep = false ∧ packed.admits req 0x21 ∧
    ((2 : Byte).getLsbD 1 = true) ∧ ((1 : Byte).getLsbD 1 = false) ∧ packed.railsOn = 0 ∧ packed.act 18 = false ∧
    packed.act 19 = false ∧ packed.prot / 4 ≠ 0 ∧ ((31 : BitVec 5) ≠ 0) ∧ (1 : Byte).toNat ≤ 1 ∧ 1 < (2 : Byte).toNat :=
  ⟨packed_stored, by decide, admits_of _ _ _ (by decide), by decide, by decide, by decide, by decide, by decide, by decide,
    by decide, by decide, by decide⟩

theorem witness_BatteryControl_2 : railed.Stored ∧ railed.asleep = false ∧ railed.admits preq 0x21 ∧
    ((2 : Byte).getLsbD 1 = true) ∧ ((0 : Byte).getLsbD 1 = false) ∧ railed.railsOn ≠ 0 ∧ ((0 : Byte).getLsbD 0 = false) ∧
    railed.prot / 4 = 0 :=
  ⟨railed_stored, by decide, admits_of _ _ _ (by decide), by decide, by decide, by decide, by decide, by decide⟩

def stOutputsHeldOff1 : State := put up [(Reg.BATT_STATUS, 0xF), (Reg.BATT_FET_FAULT, 1)]

theorem stOutputsHeldOff1_stored : stOutputsHeldOff1.Stored := put_stored up_stored _

def stOutputsHeldOff2 : State := { up with hedge.actHw := 0xC0001 }

theorem stOutputsHeldOff2_stored : stOutputsHeldOff2.Stored := with_stored up_stored rfl rfl rfl

theorem witness_OutputsHeldOff_1 : stOutputsHeldOff1.Stored ∧ stOutputsHeldOff1.flag Reg.BATT_STATUS 0 = true ∧
    stOutputsHeldOff1.batt.reliefChg = false ∧ stOutputsHeldOff1.flag Reg.BATT_STATUS 1 = true ∧
    stOutputsHeldOff1.batt.reliefDsg = false ∧ stOutputsHeldOff1.flag Reg.BATT_STATUS 2 = true ∧
    stOutputsHeldOff1.flag Reg.BATT_STATUS 3 = true ∧ stOutputsHeldOff1.flag Reg.BATT_FET_FAULT 0 = true :=
  ⟨stOutputsHeldOff1_stored, by decide, by decide, by decide, by decide, by decide, by decide, by decide⟩

theorem witness_OutputsHeldOff_2 : stOutputsHeldOff2.Stored ∧ stOutputsHeldOff2.act 18 = true ∧
    stOutputsHeldOff2.act 19 = true ∧ stOutputsHeldOff2.act 0 = true ∧ stOutputsHeldOff2.drive.m0.starting = false ∧
    stOutputsHeldOff2.drive.m0.st = .stopped :=
  ⟨stOutputsHeldOff2_stored, by decide, by decide, by decide, by decide, by decide⟩

theorem witness_OutputsHeldOff_3 : State.reset.Stored ∧ State.reset.dev.planLoaded = false ∧ State.reset.hedge.bootHold = true :=
  ⟨reset_stored, by decide, by decide⟩

def stMotorEvents2 : State := { motor with drive.m0.st := .closedLoop, hedge.actHw := 1 }

theorem stMotorEvents2_stored : stMotorEvents2.Stored := with_stored motor_stored rfl rfl rfl

def stMotorEvents3 : State := put { motor with drive.m0.st := .closedLoop, drive.m0.duty := #v[1, 0, 4799] }
    [(Reg.DRIVE_M0_PWM, 20)]

theorem stMotorEvents3_stored : stMotorEvents3.Stored := made_stored motor_stored _ rfl rfl rfl rfl

def stMotorEvents4 : State := { motor with drive.m0.st := .closedLoop, drive.m0.detected := some (2, 5) }

theorem stMotorEvents4_stored : stMotorEvents4.Stored := with_stored motor_stored rfl rfl rfl

def stMotorEvents5 : State := put { motor with drive.m0.st := .braking, drive.m0.hallRun := 2 }
    [(Reg.DRIVE_M0_CFG, 0xC0000000)]

theorem stMotorEvents5_stored : stMotorEvents5.Stored := made_stored motor_stored _ rfl rfl rfl rfl

theorem witness_MotorEvents_1 : motor.Stored ∧ motor.m0Runs = true ∧ motor.drive.m0.st ≠ .fault :=
  ⟨motor_stored, by decide, by decide⟩

theorem witness_MotorEvents_2 : stMotorEvents2.Stored ∧ stMotorEvents2.m0Runs = true ∧
    stMotorEvents2.drive.m0.detected = none ∧ stMotorEvents2.drive.m0.starting = false ∧ stMotorEvents2.m0Off = true ∧
    stMotorEvents2.m0Halls = false ∧ ((45 : BitVec 8).toNat ≤ 45) ∧ ((110000 : Word).toNat ≤ 110 * stMotorEvents2.maxFreq) ∧
    stMotorEvents2.drive.m0.st = .closedLoop :=
  ⟨stMotorEvents2_stored, by decide, by decide, by decide, by decide, by decide, by decide, by decide, by decide⟩

theorem witness_MotorEvents_3 : stMotorEvents3.Stored ∧ stMotorEvents3.m0Runs = true ∧ stMotorEvents3.drive.m0.st ≠ .fault ∧
    stMotorEvents3.m0Side 0 false = true ∧ stMotorEvents3.m0Side 2 true = true ∧ stMotorEvents3.m0Conducts = true ∧
    stMotorEvents3.drive.m0.st ≠ .stopped :=
  ⟨stMotorEvents3_stored, by decide, by decide, by decide, by decide, by decide, by decide⟩

theorem witness_MotorEvents_4 : stMotorEvents4.Stored ∧ stMotorEvents4.m0Runs = true ∧ stMotorEvents4.drive.m0.st ≠ .fault ∧
    stMotorEvents4.drive.m0.detected = some (2, 5) :=
  ⟨stMotorEvents4_stored, by decide, by decide, by decide⟩

theorem witness_MotorEvents_5 : stMotorEvents5.Stored ∧ stMotorEvents5.m0Runs = true ∧ stMotorEvents5.drive.m0.st ≠ .fault ∧
    stMotorEvents5.drive.m0.detected = none ∧ stMotorEvents5.m0Halls = true ∧ 2 ≤ stMotorEvents5.drive.m0.hallRun :=
  ⟨stMotorEvents5_stored, by decide, by decide, by decide, by decide, by decide⟩

def stMotorStates1 : State := { motor with drive.m0.starting := true }

theorem stMotorStates1_stored : stMotorStates1.Stored := with_stored motor_stored rfl rfl rfl

def stMotorStates2 : State := { motor with drive.m0.st := .align, drive.m0.hold := true }

theorem stMotorStates2_stored : stMotorStates2.Stored := with_stored motor_stored rfl rfl rfl

def stMotorStates3 : State := { motor with drive.m0.st := .align }

theorem stMotorStates3_stored : stMotorStates3.Stored := with_stored motor_stored rfl rfl rfl

def stMotorStates4 : State := { motor with drive.m0.st := .openRamp }

theorem stMotorStates4_stored : stMotorStates4.Stored := with_stored motor_stored rfl rfl rfl

def stMotorStates5 : State := { motor with drive.m0.st := .braking }

theorem stMotorStates5_stored : stMotorStates5.Stored := with_stored motor_stored rfl rfl rfl

def stMotorStates6 : State := { motor with drive.m0.st := .coasting }

theorem stMotorStates6_stored : stMotorStates6.Stored := with_stored motor_stored rfl rfl rfl

def stMotorStates7 : State := { motor with hedge.bootHold := true }

theorem stMotorStates7_stored : stMotorStates7.Stored := with_stored motor_stored rfl rfl rfl

def stMotorStates8 : State := { motor with drive.m0.st := .closedLoop }

theorem stMotorStates8_stored : stMotorStates8.Stored := with_stored motor_stored rfl rfl rfl

def stMotorStates9 : State := { motor with drive.m0.st := .fault }

theorem stMotorStates9_stored : stMotorStates9.Stored := with_stored motor_stored rfl rfl rfl

theorem witness_MotorStates_1 : stMotorStates1.Stored ∧ stMotorStates1.m0Calm ∧ stMotorStates1.drive.m0.st = .stopped ∧
    stMotorStates1.drive.m0.starting = true :=
  ⟨stMotorStates1_stored,
    ⟨by decide, by decide, by decide, by decide, by decide, by decide, by decide, by decide, by decide, by decide⟩, by decide,
    by decide⟩

theorem witness_MotorStates_2 : stMotorStates2.Stored ∧ stMotorStates2.m0Calm ∧ stMotorStates2.drive.m0.st = .align ∧
    stMotorStates2.drive.m0.hold = true :=
  ⟨stMotorStates2_stored,
    ⟨by decide, by decide, by decide, by decide, by decide, by decide, by decide, by decide, by decide, by decide⟩, by decide,
    by decide⟩

theorem witness_MotorStates_3 : stMotorStates3.Stored ∧ stMotorStates3.m0Calm ∧ stMotorStates3.drive.m0.st = .align ∧
    stMotorStates3.drive.m0.hold = false :=
  ⟨stMotorStates3_stored,
    ⟨by decide, by decide, by decide, by decide, by decide, by decide, by decide, by decide, by decide, by decide⟩, by decide,
    by decide⟩

theorem witness_MotorStates_4 : stMotorStates4.Stored ∧ stMotorStates4.m0Calm ∧ stMotorStates4.drive.m0.st = .openRamp :=
  ⟨stMotorStates4_stored,
    ⟨by decide, by decide, by decide, by decide, by decide, by decide, by decide, by decide, by decide, by decide⟩, by decide⟩

theorem witness_MotorStates_5 : stMotorStates5.Stored ∧ stMotorStates5.m0Calm ∧ stMotorStates5.drive.m0.st = .braking :=
  ⟨stMotorStates5_stored,
    ⟨by decide, by decide, by decide, by decide, by decide, by decide, by decide, by decide, by decide, by decide⟩, by decide⟩

theorem witness_MotorStates_6 : stMotorStates6.Stored ∧ stMotorStates6.m0Calm ∧ stMotorStates6.drive.m0.st = .coasting :=
  ⟨stMotorStates6_stored,
    ⟨by decide, by decide, by decide, by decide, by decide, by decide, by decide, by decide, by decide, by decide⟩, by decide⟩

theorem witness_MotorStates_7 : motor.Stored ∧ motor.m0Calm ∧ motor.drive.m0.queued = none ∧ motor.driveWaits = false ∧
    motor.admits req 0x30 ∧ (1 : Byte).toNat ≤ 1 ∧ motor.sHandoff ≤ (50000 : Word).toNat ∧
    (100000 : Word).toNat ≤ 100 * motor.maxFreq ∧ ((1 : BitVec 16) ≠ 0) ∧ motor.runStop = none ∧
    motor.drive.m0.st = .stopped ∧ motor.drive.m0.starting = false :=
  ⟨motor_stored,
    ⟨by decide, by decide, by decide, by decide, by decide, by decide, by decide, by decide, by decide, by decide⟩, by decide,
    by decide, admits_of _ _ _ (by decide), by decide, by decide, by decide, by decide, by decide, by decide, by decide⟩

theorem witness_MotorStates_8 : stMotorStates8.Stored ∧ stMotorStates8.m0Calm ∧ stMotorStates8.drive.m0.queued = none ∧
    stMotorStates8.driveWaits = false ∧ stMotorStates8.admits req 0x31 ∧ stMotorStates8.drive.m0.st = .closedLoop :=
  ⟨stMotorStates8_stored,
    ⟨by decide, by decide, by decide, by decide, by decide, by decide, by decide, by decide, by decide, by decide⟩, by decide,
    by decide, admits_of _ _ _ (by decide), by decide⟩

theorem witness_MotorStates_9 : stMotorStates9.Stored ∧ stMotorStates9.m0Calm ∧ stMotorStates9.drive.m0.queued = none ∧
    stMotorStates9.driveWaits = false ∧ stMotorStates9.admits preq 0x31 ∧ stMotorStates9.drive.m0.st = .fault ∧
    (2 : Byte).toNat ≤ 2 ∧ stMotorStates9.flag Reg.BIST_UNUSABLE 3 = false ∧ stMotorStates9.m0Speed < stMotorStates9.sStop :=
  ⟨stMotorStates9_stored,
    ⟨by decide, by decide, by decide, by decide, by decide, by decide, by decide, by decide, by decide, by decide⟩, by decide,
    by decide, admits_of _ _ _ (by decide), by decide, by decide, by decide, by decide⟩

theorem witness_MotorStates_10 : stMotorStates7.Stored ∧ stMotorStates7.driveWaits = true :=
  ⟨stMotorStates7_stored, by decide⟩

def stFanEvents2 : State := { motor with drive.fan := motor.drive.fan.set 2 { seq := .stall, attempt := 1 } }

theorem stFanEvents2_stored : stFanEvents2.Stored := with_stored motor_stored rfl rfl rfl

def stFanEvents3 : State := { motor with drive.fan := motor.drive.fan.set 2 { st := .starting } }

theorem stFanEvents3_stored : stFanEvents3.Stored := with_stored motor_stored rfl rfl rfl

def stFanEvents4 : State := put { motor with drive.fan := motor.drive.fan.set 2 { st := .running, tachPt := some 5 } }
    [(Reg.DRIVE_FAN_STATUS 2, 0x40000)]

theorem stFanEvents4_stored : stFanEvents4.Stored := made_stored motor_stored _ rfl rfl rfl rfl

def stFanEvents5 : State := { motor with drive.fan := motor.drive.fan.set 2 { st := .coasting } }

theorem stFanEvents5_stored : stFanEvents5.Stored := with_stored motor_stored rfl rfl rfl

def stFanEvents6 : State :=
    { motor with drive.fan := motor.drive.fan.set 2 { st := .coasting, seq := .stall, attempt := 1, retryDue := true } }

theorem stFanEvents6_stored : stFanEvents6.Stored := with_stored motor_stored rfl rfl rfl

theorem witness_FanEvents_1 : motor.Stored ∧ motor.fanRuns 2 = true ∧ (4500 ≤ (⟨0, 0, 4500⟩ : FanMeas).vfan.toNat) ∧
    (motor.fanMeas 2 ⟨0, 0, 4500⟩).fanMayStart 2 = true ∧ (motor.drive.fan[(2 : Fin 3)]).st = .stopped ∧
    (motor.drive.fan[(2 : Fin 3)]).seq = .none ∧ motor.fanTach 2 = true ∧ motor.flag (Reg.THERM_FAN_FSTATUS 2) 2 = false :=
  ⟨motor_stored, by decide, by decide, by decide, by decide, by decide, by decide, by decide⟩

theorem witness_FanEvents_2 : stFanEvents2.Stored ∧ stFanEvents2.fanRuns 2 = true ∧
    (stFanEvents2.fanMeas 2 ⟨0, 0, 4500⟩).fanMayStart 2 = true ∧ (stFanEvents2.drive.fan[(2 : Fin 3)]).st = .stopped ∧
    (stFanEvents2.drive.fan[(2 : Fin 3)]).seq ≠ .none :=
  ⟨stFanEvents2_stored, by decide, by decide, by decide, by decide⟩

theorem witness_FanEvents_3 : stFanEvents3.Stored ∧ stFanEvents3.fanRuns 2 = true ∧
    (stFanEvents3.drive.fan[(2 : Fin 3)]).st = .starting ∧ ((⟨0, 0, 4499⟩ : FanMeas).vfan.toNat < 4500) :=
  ⟨stFanEvents3_stored, by decide, by decide, by decide⟩

theorem witness_FanEvents_4 : stFanEvents4.Stored ∧ stFanEvents4.fanRuns 2 = true ∧
    (stFanEvents4.drive.fan[(2 : Fin 3)]).st = .running ∧ stFanEvents4.fanTach 2 = true ∧
    stFanEvents4.flag (Reg.DRIVE_FAN_STATUS 2) 18 = true ∧ (stFanEvents4.drive.fan[(2 : Fin 3)]).tachPt = some 5 :=
  ⟨stFanEvents4_stored, by decide, by decide, by decide, by decide, by decide⟩

theorem witness_FanEvents_5 : stFanEvents5.Stored ∧ stFanEvents5.fanRuns 2 = true ∧
    (stFanEvents5.drive.fan[(2 : Fin 3)]).st = .coasting ∧ (stFanEvents5.drive.fan[(2 : Fin 3)]).retryDue = false :=
  ⟨stFanEvents5_stored, by decide, by decide, by decide⟩

theorem witness_FanEvents_6 : stFanEvents6.Stored ∧ stFanEvents6.fanRuns 2 = true ∧
    (stFanEvents6.drive.fan[(2 : Fin 3)]).st = .coasting ∧ (stFanEvents6.drive.fan[(2 : Fin 3)]).seq ≠ .none ∧
    (stFanEvents6.drive.fan[(2 : Fin 3)]).retryDue = true ∧ (stFanEvents6.fanMeas 2 ⟨0, 0, 4500⟩).fanMayStart 2 = true :=
  ⟨stFanEvents6_stored, by decide, by decide, by decide, by decide, by decide⟩

def stThermalCommands1 : State := { motor with therm.zone := motor.therm.zone.set 0 { sum := 500, count := 2 } }

theorem stThermalCommands1_stored : stThermalCommands1.Stored := with_stored motor_stored rfl rfl rfl

def stThermalCommands2 : State :=
    { motor with therm.host := some 250, time.pt := 480000000, drive.fan := motor.drive.fan.set 2 { ovr := some (50, 480000000) } }

theorem stThermalCommands2_stored : stThermalCommands2.Stored := with_stored motor_stored rfl rfl rfl

def stThermalCommands3 : State := put slept [(Reg.THERM_SLEEP_WAKE, 85)]

theorem stThermalCommands3_stored : stThermalCommands3.Stored := put_stored slept_stored _

def stThermalCommands5 : State := put motor [(Reg.THERM_ZONE_LVL 3, 0x7FFF0320), (Reg.THERM_ZONE_CFG 3, 0x80040000)]

theorem stThermalCommands5_stored : stThermalCommands5.Stored := put_stored motor_stored _

def stThermalCommands6 : State := { up with hedge.bootHold := true }

theorem stThermalCommands6_stored : stThermalCommands6.Stored := with_stored up_stored rfl rfl rfl

theorem witness_ThermalCommands_1 : stThermalCommands1.Stored ∧ stThermalCommands1.thermRuns = true ∧
    stThermalCommands1.zoneOn 0 = true ∧ (stThermalCommands1.therm.zone[(0 : Fin 8)]).invalid = false ∧
    (stThermalCommands1.therm.zone[(0 : Fin 8)]).count ≠ 0 ∧
    (stThermalCommands1.therm.zone[(0 : Fin 8)]).sum = (250 : Int) * ((stThermalCommands1.therm.zone[(0 : Fin 8)]).count : Int) ∧
    stThermalCommands1.ovrOver 0 = false ∧ stThermalCommands1.asleep = false ∧ stThermalCommands1.admits req 0x3A ∧
    ((0xFE6F : BitVec 16).toInt < -400) ∧ (1500 < (1501 : BitVec 16).toInt) ∧ (-400 ≤ (0xFE70 : BitVec 16).toInt) ∧
    (1500 : BitVec 16).toInt ≤ 1500 ∧ stThermalCommands1.dev.planLoaded = true ∧ stThermalCommands1.zoneOn 7 = true ∧
    stThermalCommands1.driveWaits = false ∧ stThermalCommands1.admits req 0x38 ∧ fansOf 4 ≠ [] ∧ (100 : Byte).toNat ≤ 100 ∧
    (3600 : BitVec 16).toNat ≤ 3600 ∧
    (∀ n ∈ fansOf 4, stThermalCommands1.flag Reg.BIST_UNUSABLE n = false ∧ stThermalCommands1.fanOn n = true) ∧
    stThermalCommands1.dev.stage ≠ .reduced ∧ (∀ n ∈ fansOf 4, (0 : BitVec 3).getLsbD n = false) ∧
    ((fansOf 4).filter (fun n => (4 : BitVec 3).getLsbD n.val) = [2]) :=
  ⟨stThermalCommands1_stored, by decide, by decide, by decide, by decide, by decide, by decide, by decide,
    admits_of _ _ _ (by decide), by decide, by decide, by decide, by decide, by decide, by decide, by decide,
    admits_of _ _ _ (by decide), by decide, by decide, by decide, by decide, by decide, by decide, by decide⟩

theorem witness_ThermalCommands_2 : stThermalCommands2.Stored ∧ stThermalCommands2.thermRuns = true ∧
    stThermalCommands2.zoneOn 7 = true ∧ stThermalCommands2.hostDue = true ∧
    (stThermalCommands2.therm.zone[(7 : Fin 8)]).invalid = false ∧ stThermalCommands2.flag (Reg.THERM_ZONE_CFG 7) 30 = true ∧
    stThermalCommands2.flag (Reg.THERM_ZONE_STATUS 7) 18 = false ∧ stThermalCommands2.ovrOver 2 = true :=
  ⟨stThermalCommands2_stored, by decide, by decide, by decide, by decide, by decide, by decide, by decide⟩

theorem witness_ThermalCommands_3 : stThermalCommands3.Stored ∧ stThermalCommands3.live = true ∧
    stThermalCommands3.inSleep = true ∧ stThermalCommands3.fld Reg.THERM_SLEEP_WAKE 7 0 ≠ 0 :=
  ⟨stThermalCommands3_stored, by decide, by decide, by decide⟩

theorem witness_ThermalCommands_4 : up.Stored ∧ up.asleep = false ∧ up.admits preq 0x3A ∧ up.zoneOn 7 = false :=
  ⟨up_stored, by decide, admits_of _ _ _ (by decide), by decide⟩

theorem witness_ThermalCommands_5 : stThermalCommands5.Stored ∧ stThermalCommands5.zoneLevel 3 18 = none ∧
    stThermalCommands5.zoneLevel 3 17 = some 800 ∧ (800 : Int) ≤ 800 ∧ (779 : Int) < 800 - stThermalCommands5.zoneHyst 3 ∧
    800 - stThermalCommands5.zoneHyst 3 ≤ (780 : Int) ∧ stThermalCommands5.flag (Reg.THERM_ZONE_STATUS 3) 18 = false :=
  ⟨stThermalCommands5_stored, by decide, by decide, by decide, by decide, by decide, by decide⟩

theorem witness_ThermalCommands_6 : stThermalCommands6.Stored ∧ stThermalCommands6.driveWaits = true :=
  ⟨stThermalCommands6_stored, by decide⟩

theorem witness_DemandCurve :
    (([] : List (Int × Int)) ++ (250, 20) :: (400, 60) :: [(600, 100)]).Pairwise (fun (a b : Int × Int) => a.1 < b.1) ∧
    (250 : Int) ≤ 250 ∧ (399 : Int) < 400 :=
  ⟨by decide, by decide, by decide⟩

def stRingRegisters2 : State :=
    { hosted with ring.ctx := hosted.ring.ctx.set 31 { state := .failed, err := 7 }, ring.engine := .stopped }

theorem stRingRegisters2_stored : stRingRegisters2.Stored := with_stored hosted_stored rfl rfl rfl

def stRingRegisters3 : State := put { up with ring.engine := .dozing } [(Reg.DEV_FEAT1, 4), (Reg.MSIX_PBA1, 2)]

theorem stRingRegisters3_stored : stRingRegisters3.Stored := made_stored up_stored _ rfl rfl rfl rfl

def stRingRegisters4 : State := put hosted [(Reg.DEV_FEAT1, 0)]

theorem stRingRegisters4_stored : stRingRegisters4.Stored := put_stored hosted_stored _

theorem witness_RingRegisters_1 : hosted.Stored ∧ hosted.barOpen = true ∧ hosted.blockGated 0xB = false ∧
    hosted.ring.anyEnabled = true ∧ (hosted.ring.ctx[(5 : Fin 32)]).state = .disabled ∧
    (hosted.ring.ctx[(31 : Fin 32)]).state = .active ∧ hosted.frozen = false ∧ hosted.dbWritable = false ∧
    (hosted.ring.ctx[(5 : Fin 32)]).state ≠ .active :=
  ⟨hosted_stored, by decide, by decide, by decide, by decide, by decide, by decide, by decide, by decide⟩

theorem witness_RingRegisters_2 : stRingRegisters2.Stored ∧ stRingRegisters2.barOpen = true ∧
    stRingRegisters2.blockGated 0xB = false ∧ (stRingRegisters2.ring.ctx[(31 : Fin 32)]).state = .failed ∧
    stRingRegisters2.dbWritable = true ∧ stRingRegisters2.ring.engine = .stopped :=
  ⟨stRingRegisters2_stored, by decide, by decide, by decide, by decide, by decide⟩

theorem witness_RingRegisters_3 : stRingRegisters3.Stored ∧ stRingRegisters3.barOpen = true ∧
    stRingRegisters3.blockGated 0xB = false ∧ stRingRegisters3.ring.anyEnabled = false ∧ stRingRegisters3.dbWritable = true ∧
    stRingRegisters3.ring.engine = .dozing ∧ stRingRegisters3.flag Reg.DEV_FEAT1 2 = true ∧
    stRingRegisters3.inSleepOrWake = false ∧ stRingRegisters3.frozen = false ∧ stRingRegisters3.pba 33 = true ∧
    stRingRegisters3.ring.pcie.fnMask = false ∧ stRingRegisters3.ring.pcie.bme = true ∧
    stRingRegisters3.ring.pcie.msixEn = true :=
  ⟨stRingRegisters3_stored, by decide, by decide, by decide, by decide, by decide, by decide, by decide, by decide, by decide,
    by decide, by decide, by decide⟩

theorem witness_RingRegisters_4 : stRingRegisters4.Stored ∧ (stRingRegisters4.ring.ctx[(31 : Fin 32)]).state = .active ∧
    stRingRegisters4.flag Reg.DEV_FEAT1 2 = false :=
  ⟨stRingRegisters4_stored, by decide, by decide⟩

def stRingEvents1 : State :=
    { hosted with ring.ctx := (hosted.ring.ctx.set 5 { state := .creating }).set 31 { state := .active, coal := 1 } }

theorem stRingEvents1_stored : stRingEvents1.Stored := with_stored hosted_stored rfl rfl rfl

def stRingEvents2 : State := put { hosted with ring.ctx := hosted.ring.ctx.set 31 { state := .active, coal := 1 } }
    [(Reg.RING_CTX_CFG 31, 0x90000000), (Reg.MSIX_VCTRL 33, 0)]

theorem stRingEvents2_stored : stRingEvents2.Stored := made_stored hosted_stored _ rfl rfl rfl rfl

def stRingEvents3 : State :=
    put { hosted with ring.ctx := hosted.ring.ctx.set 5 { state := .creating }, ring.engine := .idle }
    [(Reg.RING_SQ_BASE_LO 5, 0x50000), (Reg.RING_CQ_BASE_LO 5, 0x60000)]

theorem stRingEvents3_stored : stRingEvents3.Stored := made_stored hosted_stored _ rfl rfl rfl rfl

def stRingEvents4 : State := put { up with ring.engine := .polling } [(Reg.DEV_FEAT1, 1), (Reg.DEV_DB_CTRL, 0)]

theorem stRingEvents4_stored : stRingEvents4.Stored := made_stored up_stored _ rfl rfl rfl rfl

def stRingEvents5 : State := { up with ring.engine := .dozeEntry, ring.nudged := true }

theorem stRingEvents5_stored : stRingEvents5.Stored := with_stored up_stored rfl rfl rfl

def stRingEvents6 : State := { up with ring.engine := .dozeEntry }

theorem stRingEvents6_stored : stRingEvents6.Stored := with_stored up_stored rfl rfl rfl

theorem witness_RingEvents_1 : stRingEvents1.Stored ∧ (stRingEvents1.ring.ctx[(5 : Fin 32)]).state = .creating ∧
    stRingEvents1.frozen = false ∧ stRingEvents1.ctxCheck 5 (0 : BitVec 16).toNat (0 : BitVec 16).toNat ≠ 0 ∧
    (stRingEvents1.ring.ctx[(31 : Fin 32)]).state = .active ∧ stRingEvents1.ring.engine = .polling ∧
    (stRingEvents1.ring.ctx[(31 : Fin 32)]).coal ≠ 0 :=
  ⟨stRingEvents1_stored, by decide, by decide, by decide, by decide, by decide, by decide⟩

theorem witness_RingEvents_2 : stRingEvents2.Stored ∧ (stRingEvents2.ring.ctx[(31 : Fin 32)]).state = .active ∧
    (stRingEvents2.ring.ctx[(31 : Fin 32)]).coal ≠ 0 ∧ stRingEvents2.frozen = false ∧ stRingEvents2.sendable (2 + 31) = true ∧
    stRingEvents2.flag (Reg.RING_CTX_CFG 31) 28 = true :=
  ⟨stRingEvents2_stored, by decide, by decide, by decide, by decide, by decide⟩

theorem witness_RingEvents_3 : stRingEvents3.Stored ∧ (stRingEvents3.ring.ctx[(5 : Fin 32)]).state = .creating ∧
    stRingEvents3.frozen = false ∧ stRingEvents3.ctxCheck 5 (0 : BitVec 16).toNat (0 : BitVec 16).toNat = 0 ∧
    stRingEvents3.ring.engine = .idle :=
  ⟨stRingEvents3_stored, by decide, by decide, by decide, by decide⟩

theorem witness_RingEvents_4 : stRingEvents4.Stored ∧ stRingEvents4.ring.engine = .polling ∧ stRingEvents4.frozen = false ∧
    stRingEvents4.flag Reg.DEV_FEAT1 0 = true ∧ stRingEvents4.dozeAllowed = true ∧ stRingEvents4.ringIdle = true ∧
    (∀ c : Fin 32, (stRingEvents4.ring.ctx[c]).state ≠ .active) :=
  ⟨stRingEvents4_stored, by decide, by decide, by decide, by decide, by decide, by decide⟩

theorem witness_RingEvents_5 : stRingEvents5.Stored ∧ stRingEvents5.ring.engine = .dozeEntry ∧ stRingEvents5.frozen = false ∧
    (∀ c : Fin 32, (stRingEvents5.ring.ctx[c]).state = .disabled) ∧ stRingEvents5.ring.nudged = true :=
  ⟨stRingEvents5_stored, by decide, by decide, by decide, by decide⟩

theorem witness_RingEvents_6 : stRingEvents6.Stored ∧ stRingEvents6.ring.engine = .dozeEntry ∧ stRingEvents6.frozen = false ∧
    (∀ c : Fin 32, (stRingEvents6.ring.ctx[c]).state = .disabled) ∧ stRingEvents6.ring.nudged = false :=
  ⟨stRingEvents6_stored, by decide, by decide, by decide, by decide⟩

def stRingFetch2 : State := put hosted [(Reg.RING_CTX_EPOCH 31, 1)]

theorem stRingFetch2_stored : stRingFetch2.Stored := put_stored hosted_stored _

def stRingFetch3 : State := { hosted with ring.burst := 3 }

theorem stRingFetch3_stored : stRingFetch3.Stored := with_stored hosted_stored rfl rfl rfl

theorem witness_RingFetch_1 : hosted.Stored ∧ 4 ≤ hosted.ring.burst ∧ hosted.canFetch 31 = true ∧
    (∀ d : Fin 32, (d.val + 31 - hosted.ring.lastServed.val) % 32 < ((31 : Fin 32).val + 31 - hosted.ring.lastServed.val) % 32 → hosted.canFetch d = false) ∧
    hosted.canFetch 0 = false ∧ hosted.nextFetch = some 31 ∧ hosted.frozen = false ∧ hosted.ring.engine = .polling ∧
    hosted.isV2 31 = true ∧ leAt descriptor.toList 4 2 = hosted.fld (Reg.RING_CTX_EPOCH 31) 15 0 ∧
    descCheck (leAt descriptor.toList 0 1) (leAt descriptor.toList 1 1 / 64) (leAt descriptor.toList 8 8) hosted.now = 0 ∧
    undefinedOp (leAt descriptor.toList 0 1) (leAt descriptor.toList 16 1) = 0 :=
  ⟨hosted_stored, by decide, by decide, by decide, by decide, by decide, by decide, by decide, by decide, by decide,
    by decide, by decide⟩

theorem witness_RingFetch_2 : stRingFetch2.Stored ∧ stRingFetch2.nextFetch = some 31 ∧ stRingFetch2.frozen = false ∧
    stRingFetch2.ring.engine = .polling ∧ leAt descriptor.toList 4 2 % 65536 ≠ stRingFetch2.fld (Reg.RING_CTX_EPOCH 31) 15 0 :=
  ⟨stRingFetch2_stored, by decide, by decide, by decide, by decide⟩

theorem witness_RingFetch_3 : stRingFetch3.Stored ∧ stRingFetch3.ring.lastServed = 31 ∧ stRingFetch3.ring.burst < 4 ∧
    stRingFetch3.canFetch 31 = true :=
  ⟨stRingFetch3_stored, by decide, by decide, by decide⟩

theorem witness_RingFetch_4 : hosted.Stored ∧ (hosted.ring.ctx[(31 : Fin 32)]).state = .active ∧ hosted.isStream 31 = false ∧
    goodPair (hosted.sqSize 31) 17 (hosted.ring.ctx[(31 : Fin 32)]).sqHead = false ∧
    goodPair (hosted.sqSize 31) 16 (hosted.ring.ctx[(31 : Fin 32)]).sqHead = true ∧
    goodPair (hosted.cqSize 31) (hosted.ring.ctx[(31 : Fin 32)]).devTail 1 = false ∧
    goodPair (hosted.cqSize 31) (hosted.ring.ctx[(31 : Fin 32)]).devTail 0 = true ∧
    (hosted.ring.ctx[(0 : Fin 32)]).state = .active ∧ hosted.isStream 0 = true ∧
    goodPair (hosted.sqSize 0) (hosted.ring.ctx[(0 : Fin 32)]).devTail 1 = false :=
  ⟨hosted_stored, by decide, by decide, by decide, by decide, by decide, by decide, by decide, by decide, by decide⟩

def stStreamDelivery1 : State := { hosted with fabric.ingress := [record 1] }

theorem stStreamDelivery1_stored : stStreamDelivery1.Stored := with_stored hosted_stored rfl rfl rfl

def stStreamDelivery2 : State :=
    { hosted with fabric.ingress := [record 1], ring.ctx := hosted.ring.ctx.set 0 { state := .active, devTail := 16 } }

theorem stStreamDelivery2_stored : stStreamDelivery2.Stored := with_stored hosted_stored rfl rfl rfl

def stStreamDelivery3 : State := { up with
      fabric.ingress := [record 0x800000000], mbox.port := up.mbox.port.set 3 { strm := { newSession := false, lastPt := some 5 } } }

theorem stStreamDelivery3_stored : stStreamDelivery3.Stored := with_stored up_stored rfl rfl rfl

def stStreamDelivery4 : State :=
    { up with fabric.ingress := [record 0x800000000], mbox.port := up.mbox.port.set 3 { evts := List.replicate 16 [] } }

theorem stStreamDelivery4_stored : stStreamDelivery4.Stored := with_stored up_stored rfl rfl rfl

def stStreamDelivery5 : State := { up with fabric.held := [record 0x1000000000] }

theorem stStreamDelivery5_stored : stStreamDelivery5.Stored := with_stored up_stored rfl rfl rfl

def stStreamDelivery6 : State := { up with fabric.held := [record 0x1000000000, record 1] }

theorem stStreamDelivery6_stored : stStreamDelivery6.Stored := with_stored up_stored rfl rfl rfl

theorem witness_StreamDelivery_1 : stStreamDelivery1.Stored ∧ stStreamDelivery1.frozen = false ∧
    stStreamDelivery1.fabric.oldest 0 = some (record 1) ∧ (stStreamDelivery1.ring.ctx[(0 : Fin 32)]).state = .active ∧
    stStreamDelivery1.isStream 0 = true ∧ (stStreamDelivery1.ring.ctx[(0 : Fin 32)]).strm.lost = 0 ∧
    stStreamDelivery1.ringNeed 0 5 ≤ stStreamDelivery1.ringFree 0 :=
  ⟨stStreamDelivery1_stored, by decide, by decide, by decide, by decide, by decide, by decide⟩

theorem witness_StreamDelivery_2 : stStreamDelivery2.Stored ∧ stStreamDelivery2.frozen = false ∧
    stStreamDelivery2.fabric.oldest 0 = some (record 1) ∧ (stStreamDelivery2.ring.ctx[(0 : Fin 32)]).state = .active ∧
    stStreamDelivery2.isStream 0 = true ∧ (stStreamDelivery2.ring.ctx[(0 : Fin 32)]).strm.lost = 0 ∧
    stStreamDelivery2.ringFree 0 < stStreamDelivery2.ringNeed 0 5 ∧
    goodPair (stStreamDelivery2.sqSize 0) (stStreamDelivery2.ring.ctx[(0 : Fin 32)]).devTail (0 : BitVec 16).toNat = true ∧
    (0 : BitVec 16).toNat = (stStreamDelivery2.ring.ctx[(0 : Fin 32)]).hostHead :=
  ⟨stStreamDelivery2_stored, by decide, by decide, by decide, by decide, by decide, by decide, by decide, by decide⟩

theorem witness_StreamDelivery_3 : stStreamDelivery3.Stored ∧
    stStreamDelivery3.fabric.oldest (32 + 3) = some (record 0x800000000) ∧
    (stStreamDelivery3.mbox.port[(3 : Fin 4)]).strm.lost = 0 ∧
    (stStreamDelivery3.mbox.port[(3 : Fin 4)]).strm.needsAnchor 5 = false ∧
    (stStreamDelivery3.mbox.port[(3 : Fin 4)]).evts.length < 16 :=
  ⟨stStreamDelivery3_stored, by decide, by decide, by decide, by decide⟩

theorem witness_StreamDelivery_4 : stStreamDelivery4.Stored ∧
    stStreamDelivery4.fabric.oldest (32 + 3) = some (record 0x800000000) ∧
    (stStreamDelivery4.mbox.port[(3 : Fin 4)]).strm.lost = 0 ∧ (stStreamDelivery4.mbox.port[(3 : Fin 4)]).evts.length = 16 :=
  ⟨stStreamDelivery4_stored, by decide, by decide, by decide⟩

theorem witness_StreamDelivery_5 : stStreamDelivery5.Stored ∧ (∀ r ∈ stStreamDelivery5.fabric.held, r.todo.getLsbD 36 = true) :=
  ⟨stStreamDelivery5_stored, by decide⟩

theorem witness_StreamDelivery_6 : stStreamDelivery6.Stored ∧
    stStreamDelivery6.fabric.held.find? (fun r => !r.todo.getLsbD 36) = some (record 1) :=
  ⟨stStreamDelivery6_stored, by decide⟩

theorem witness_LinkResets_1 : up.Stored ∧ up.live = true ∧ up.asleep = false ∧ up.inSleep = false ∧ up.inDeepSleep = false :=
  ⟨up_stored, by decide, by decide, by decide, by decide⟩

theorem witness_LinkResets_2 : entering.Stored ∧ entering.live = true ∧ entering.asleep = false ∧ entering.inSleep = true :=
  ⟨entering_stored, by decide, by decide, by decide⟩

theorem witness_LinkResets_3 : deep.Stored ∧ deep.live = true ∧ deep.asleep = true :=
  ⟨deep_stored, by decide, by decide⟩

def stRingCompletion : State :=
    { hosted with reqs := [{ req := req, opcode := 0x01, params := [], data := [], taken := true }], ring.engine := .idle }

theorem stRingCompletion_stored : stRingCompletion.Stored := with_stored hosted_stored rfl rfl rfl

theorem witness_RingCompletion : stRingCompletion.Stored ∧ req.src = .ctx 31 ∧
    (∃ e ∈ stRingCompletion.reqs, sameReq e.req req = true) ∧ (stRingCompletion.ring.ctx[(31 : Fin 32)]).state = .active ∧
    stRingCompletion.frozen = false ∧ (if stRingCompletion.isV2 31 then 32 else 16) = 32 ∧
    stRingCompletion.cqBase 31 + (stRingCompletion.ring.ctx[(31 : Fin 32)]).devTail % stRingCompletion.cqSize 31 * 32 = 0x30000 ∧
    stRingCompletion.flag (Reg.RING_CTX_CFG 31) 28 = false ∧ stRingCompletion.ring.engine ≠ .polling :=
  ⟨stRingCompletion_stored, by decide, ⟨_, List.mem_singleton.2 rfl, by decide⟩, by decide, by decide, by decide, by decide,
    by decide, by decide⟩

theorem witness_StructureReads : up.Stored ∧ up.asleep = false ∧
    (∀ op ∈ [1, 3, 4, 18, 32, 50, 66, 80, 81, 82, 113, 145], up.admits req op) ∧
    (∀ n ∈ [16, 32, 48, 64, 68, 96, 104, 112, 208], bufBad req ⟨0x1000, 256, 0⟩ n = false) ∧ (32 ≤ (255 : Byte).toNat) :=
  ⟨up_stored, by decide,
    fun op h => admits_of _ _ _ ((by decide : ∀ op ∈ [1, 3, 4, 18, 32, 50, 66, 80, 81, 82, 113, 145], (decide (req.deadline = 0) && up.stageAdmits op && up.mayTake req op) = true) op h),
    by decide, by decide⟩

theorem witness_RegisterCommands_1 : hosted.Stored ∧ hosted.asleep = false ∧ hosted.admits req 0x06 ∧
    regReadBad 0xFFF8 2 = false ∧ regReadBad 0 1 = false ∧ hosted.admits req 0x07 ∧ ((0xFFFC : BitVec 32).toNat % 4 = 0) ∧
    (0xFFFC : BitVec 32).toNat < 0x10000 ∧ hosted.dev.planLoaded = true ∧ hosted.admits req 0x60 ∧ (2 : Byte).toNat ≤ 2 ∧
    ((0x1FFFFFF : BitVec 64) >>> 25 = 0) ∧ (hosted.ring.ctx[(0 : Fin 32)]).state = .active ∧ hosted.isStream 0 = true ∧
    hosted.admits preq 0x80 ∧ (0 < (64 : Byte).toNat ∧ (64 : Byte).toNat ≤ 64) ∧
    bufBad preq ⟨0, 0, 0⟩ (64 * (hosted.readSlotsFrom (hosted.readFrom 0) (64 : Byte).toNat).length) = false :=
  ⟨hosted_stored, by decide, admits_of _ _ _ (by decide), by decide, by decide, admits_of _ _ _ (by decide), by decide,
    by decide, by decide, admits_of _ _ _ (by decide), by decide, by decide, by decide, by decide,
    admits_of _ _ _ (by decide), by decide, by decide⟩

theorem witness_RegisterCommands_2 : reduced.Stored ∧ reduced.asleep = false ∧ reduced.admits req 0x07 ∧
    reduced.dev.planLoaded = false ∧ reduced.blockGated ((0x8000 : BitVec 32).toNat / 4096) = false ∧
    ((0xFFFFFFFF : BitVec 32) &&& ~~~(setupMask (0x8000 : BitVec 32).toNat) ≠ 0) ∧
    ((0 : BitVec 32) &&& ~~~(setupMask (0x8000 : BitVec 32).toNat) = 0) ∧
    reduced.blockGated ((0x3000 : BitVec 32).toNat / 4096) = true :=
  ⟨reduced_stored, by decide, admits_of _ _ _ (by decide), by decide, by decide, by decide, by decide, by decide⟩

def stCommandOutcomes3 : State :=
    { hosted with reqs := [{ req := req, opcode := 0x01, params := [], data := [], taken := true }] }

theorem stCommandOutcomes3_stored : stCommandOutcomes3.Stored := with_stored hosted_stored rfl rfl rfl

def stCommandOutcomes4 : State :=
    { hosted with reqs := [{ req := req, opcode := 0x01, params := [], data := [], taken := true }], ring.linkUp := false }

theorem stCommandOutcomes4_stored : stCommandOutcomes4.Stored := with_stored hosted_stored rfl rfl rfl

def stCommandOutcomes5 : State :=
    { up with reqs := [{ req := req, opcode := 0x01, params := [], data := [], taken := true }] }

theorem stCommandOutcomes5_stored : stCommandOutcomes5.Stored := with_stored up_stored rfl rfl rfl

def stCommandOutcomes6 : State :=
    { up with reqs := [{ req := preq, opcode := 0x01, params := [], data := [], taken := false }] }

theorem stCommandOutcomes6_stored : stCommandOutcomes6.Stored := with_stored up_stored rfl rfl rfl

theorem witness_CommandOutcomes_1 : up.Stored ∧ ((⟨.ctx 0, 0, 0, 1⟩ : Req).deadline ≠ 0) ∧
    (⟨.ctx 0, 0, 0, 1⟩ : Req).deadline.toNat < up.now ∧ req.deadline = 0 ∧ up.ownersRun = true ∧ up.entryOf req = none ∧
    up.headOf (ownerOf 0x01) = none ∧ up.hasEntry req = true ∧ up.mayTake req 0x01 = true ∧ up.stageAdmits 0x01 = true ∧
    (∀ e ∈ up.reqs, sameReq e.req req = false) :=
  ⟨up_stored, by decide, by decide, by decide, by decide, by decide, by decide, by decide, by decide, by decide, by decide⟩

theorem witness_CommandOutcomes_2 : safe.Stored ∧ safe.mayTake req 0x10 = true ∧ safe.stageAdmits 0x10 = false ∧
    req.deadline = 0 :=
  ⟨safe_stored, by decide, by decide, by decide⟩

theorem witness_CommandOutcomes_3 : stCommandOutcomes3.Stored ∧
    (∃ e, stCommandOutcomes3.entryOf req = some e ∧ e.taken = true) ∧
    (∃ e ∈ stCommandOutcomes3.reqs, sameReq e.req req = true) ∧ req.src = .ctx 31 ∧
    (stCommandOutcomes3.ring.ctx[(31 : Fin 32)]).state = .active ∧ stCommandOutcomes3.frozen = false :=
  ⟨stCommandOutcomes3_stored, ⟨_, rfl, rfl⟩, ⟨_, List.mem_singleton.2 rfl, by decide⟩, by decide, by decide, by decide⟩

theorem witness_CommandOutcomes_4 : stCommandOutcomes4.Stored ∧ (∃ e ∈ stCommandOutcomes4.reqs, sameReq e.req req = true) ∧
    (stCommandOutcomes4.ring.ctx[(31 : Fin 32)]).state = .active ∧ stCommandOutcomes4.frozen = true :=
  ⟨stCommandOutcomes4_stored, ⟨_, List.mem_singleton.2 rfl, by decide⟩, by decide, by decide⟩

theorem witness_CommandOutcomes_5 : stCommandOutcomes5.Stored ∧ (∃ e ∈ stCommandOutcomes5.reqs, sameReq e.req req = true) ∧
    (stCommandOutcomes5.ring.ctx[(31 : Fin 32)]).state ≠ .active :=
  ⟨stCommandOutcomes5_stored, ⟨_, List.mem_singleton.2 rfl, by decide⟩, by decide⟩

theorem witness_CommandOutcomes_6 : stCommandOutcomes6.Stored ∧ (∃ e ∈ stCommandOutcomes6.reqs, sameReq e.req preq = true) ∧
    preq.src = .port 3 ∧ (∃ h, stCommandOutcomes6.headOf (ownerOf 0x01) = some h ∧ sameReq h.req req = false) :=
  ⟨stCommandOutcomes6_stored, ⟨_, List.mem_singleton.2 rfl, by decide⟩, by decide, ⟨_, rfl, by decide⟩⟩

theorem witness_CommandOutcomes_7 : slept.Stored ∧ slept.ownersRun = false ∧ slept.mayTake req 0x01 = false :=
  ⟨slept_stored, by decide, by decide⟩

def stMailboxFrames1 : State := put up [(Reg.MBOX_CFG, 0x132)]

theorem stMailboxFrames1_stored : stMailboxFrames1.Stored := put_stored up_stored _

def stMailboxFrames2 : State := put up [(Reg.MBOX_CFG, 0x32)]

theorem stMailboxFrames2_stored : stMailboxFrames2.Stored := put_stored up_stored _

theorem witness_MailboxFrames_1 : stMailboxFrames1.Stored ∧ stMailboxFrames1.mboxReady = true ∧
    spanRegion (addrField 0 0).1 (addrField 0 0).2 = some (.inBuf 0, 0) ∧ (Region.inBuf 0).writable = true ∧
    spanRegion (addrField 0x40 0xFC).1 (addrField 0x40 0xFC).2 = some (.outBuf 0, 0) ∧ (Region.outBuf 0).writable = false ∧
    (List.replicate 64 (0 : Byte)).length = (addrField 0x40 0xFC).2 ∧ stMailboxFrames1.mbox.discard = false ∧
    ((1 : Byte) ≠ crc8 (0x02 :: 0 :: 0 :: [7])) ∧ ([7] : List Byte).length = (addrField 0 0).2 ∧
    ((0x32 : BitVec 7).toNat = stMailboxFrames1.fld Reg.MBOX_CFG 6 0) ∧
    ((0x33 : BitVec 7).toNat ≠ stMailboxFrames1.fld Reg.MBOX_CFG 6 0) ∧ stMailboxFrames1.flag Reg.MBOX_CFG 8 = true :=
  ⟨stMailboxFrames1_stored, by decide, by decide, by decide, by decide, by decide, by decide, by decide, by decide, by decide,
    by decide, by decide, by decide⟩

theorem witness_MailboxFrames_2 : stMailboxFrames2.Stored ∧ stMailboxFrames2.mboxReady = true ∧
    stMailboxFrames2.flag Reg.MBOX_CFG 8 = false :=
  ⟨stMailboxFrames2_stored, by decide, by decide⟩

def stPortCommands1 : State :=
    { up with mbox.port := up.mbox.port.set 3 { state := .idle, inBuf := 0x01 :: 0x00 :: List.replicate 62 0 } }

theorem stPortCommands1_stored : stPortCommands1.Stored := with_stored up_stored rfl rfl rfl

def stPortCommands2 : State := { up with mbox.port := up.mbox.port.set 3 { inBuf := List.replicate 64 0xFF } }

theorem stPortCommands2_stored : stPortCommands2.Stored := with_stored up_stored rfl rfl rfl

def stPortCommands3 : State :=
    { up with mbox.port := up.mbox.port.set 3 { state := .busy, reply := some ([], 0), evts := [[1], [2]] } }

theorem stPortCommands3_stored : stPortCommands3.Stored := with_stored up_stored rfl rfl rfl

def stPortCommands4 : State := { up with mbox.port := up.mbox.port.set 3 { state := .done } }

theorem stPortCommands4_stored : stPortCommands4.Stored := with_stored up_stored rfl rfl rfl

def stPortCommands6 : State := put deep [(Reg.PMC_WAKE_EN, 0)]

theorem stPortCommands6_stored : stPortCommands6.Stored := put_stored deep_stored _

def stPortCommands7 : State := { up with mbox.discard := true }

theorem stPortCommands7_stored : stPortCommands7.Stored := with_stored up_stored rfl rfl rfl

theorem witness_PortCommands_1 : stPortCommands1.Stored ∧ stPortCommands1.mboxReady = true ∧
    (stPortCommands1.mbox.port[(3 : Fin 4)]).state = .idle ∧
    descCheck (descOpcode (stPortCommands1.mbox.port[(3 : Fin 4)]).inBuf) (descPver (stPortCommands1.mbox.port[(3 : Fin 4)]).inBuf) 0 0 = 0 ∧
    undefinedOp (descOpcode (stPortCommands1.mbox.port[(3 : Fin 4)]).inBuf) (leAt (stPortCommands1.mbox.port[(3 : Fin 4)]).inBuf 8 1) = 0 :=
  ⟨stPortCommands1_stored, by decide, by decide, by decide, by decide⟩

theorem witness_PortCommands_2 : stPortCommands2.Stored ∧ (stPortCommands2.mbox.port[(3 : Fin 4)]).state = .idle ∧
    descCheck (descOpcode (stPortCommands2.mbox.port[(3 : Fin 4)]).inBuf) (descPver (stPortCommands2.mbox.port[(3 : Fin 4)]).inBuf) 0 0 ≠ 0 :=
  ⟨stPortCommands2_stored, by decide, by decide⟩

theorem witness_PortCommands_3 : stPortCommands3.Stored ∧ stPortCommands3.mboxReady = true ∧
    (stPortCommands3.mbox.port[(3 : Fin 4)]).state ≠ .idle ∧ (stPortCommands3.mbox.port[(3 : Fin 4)]).state = .busy ∧
    (stPortCommands3.mbox.port[(3 : Fin 4)]).reply = some ([], 0) ∧
    (stPortCommands3.mbox.port[(3 : Fin 4)]).evts = [1] :: [[2]] :=
  ⟨stPortCommands3_stored, by decide, by decide, by decide, by decide, by decide⟩

theorem witness_PortCommands_4 : stPortCommands4.Stored ∧ stPortCommands4.mboxReady = true ∧
    (stPortCommands4.mbox.port[(3 : Fin 4)]).state = .done :=
  ⟨stPortCommands4_stored, by decide, by decide⟩

theorem witness_PortCommands_5 : slept.Stored ∧ slept.live = true ∧ slept.inSleep = true ∧ slept.flag Reg.PMC_WAKE_EN 6 = true :=
  ⟨slept_stored, by decide, by decide, by decide⟩

theorem witness_PortCommands_6 : stPortCommands6.Stored ∧ stPortCommands6.live = true ∧ stPortCommands6.inDeepSleep = true ∧
    stPortCommands6.flag Reg.PMC_WAKE_EN 6 = false :=
  ⟨stPortCommands6_stored, by decide, by decide, by decide⟩

theorem witness_PortCommands_7 : stPortCommands7.Stored ∧ stPortCommands7.live = true ∧ stPortCommands7.asleep = false ∧
    stPortCommands7.dev.stage ≠ .boot ∧ stPortCommands7.inSleep = false ∧ stPortCommands7.inDeepSleep = false ∧
    stPortCommands7.mbox.discard = true :=
  ⟨stPortCommands7_stored, by decide, by decide, by decide, by decide, by decide, by decide⟩

def stFlashSequences2 : State := { up with flash.bank := up.flash.bank.set 1 { st := .erase, sector := 511 } }

theorem stFlashSequences2_stored : stFlashSequences2.Stored := with_stored up_stored rfl rfl rfl

def stFlashSequences3 : State := { up with flash.bank := up.flash.bank.set 1 { st := .suspended, sector := 511 } }

theorem stFlashSequences3_stored : stFlashSequences3.Stored := with_stored up_stored rfl rfl rfl

theorem witness_FlashSequences_1 : up.Stored ∧ up.bar2Open = true ∧ (up.flash.bank[(1 : Fin 2)]).step = .none ∧
    (up.flash.bank[(1 : Fin 2)]).st = .idle ∧ up.isProtected 1 511 = false ∧ up.isProtected 1 0 = true ∧
    up.isProtected 1 (65535 / 128) = false ∧ up.isSuspect 1 (65535 / 128) = false ∧
    up.lineAt ((1 : Fin 2).val * 65536 + 65535) = none ∧ ((0x200000 : BitVec 22).getLsbD 21 = decide ((1 : Fin 2) = 1)) ∧
    (0x200000 : BitVec 22).toNat % 4 = 0 :=
  ⟨up_stored, by decide, by decide, by decide, by decide, by decide, by decide, by decide, by decide, by decide, by decide⟩

theorem witness_FlashSequences_2 : stFlashSequences2.Stored ∧ stFlashSequences2.bar2Open = true ∧
    (stFlashSequences2.flash.bank[(1 : Fin 2)]).step = .none ∧ (stFlashSequences2.flash.bank[(1 : Fin 2)]).st = .erase :=
  ⟨stFlashSequences2_stored, by decide, by decide, by decide⟩

theorem witness_FlashSequences_3 : stFlashSequences3.Stored ∧ stFlashSequences3.bar2Open = true ∧
    (stFlashSequences3.flash.bank[(1 : Fin 2)]).step = .none ∧ (stFlashSequences3.flash.bank[(1 : Fin 2)]).st = .suspended :=
  ⟨stFlashSequences3_stored, by decide, by decide, by decide⟩

def stFlashEvents1 : State := { up with flash.bank := up.flash.bank.set 1 { st := .erase, sector := 511 } }

theorem stFlashEvents1_stored : stFlashEvents1.Stored := with_stored up_stored rfl rfl rfl

def stFlashEvents2 : State := { up with flash.bank := up.flash.bank.set 1 { step := .second } }

theorem stFlashEvents2_stored : stFlashEvents2.Stored := with_stored up_stored rfl rfl rfl

def stFlashEvents3 : State :=
    { up with flash.bank := up.flash.bank.set 1 { st := .program, line := 131071, data := List.replicate 32 5 } }

theorem stFlashEvents3_stored : stFlashEvents3.Stored := with_stored up_stored rfl rfl rfl

def stFlashEvents4 : State := { up with flash.bank := up.flash.bank.set 1 { st := .suspending } }

theorem stFlashEvents4_stored : stFlashEvents4.Stored := with_stored up_stored rfl rfl rfl

def stFlashEvents5 : State := { up with flash.bank := up.flash.bank.set 1 { st := .suspended } }

theorem stFlashEvents5_stored : stFlashEvents5.Stored := with_stored up_stored rfl rfl rfl

theorem witness_FlashEvents_1 : stFlashEvents1.Stored ∧ stFlashEvents1.bar2Open = true ∧
    (stFlashEvents1.flash.bank[(1 : Fin 2)]).step = .none ∧ (stFlashEvents1.flash.bank[(1 : Fin 2)]).use = .host ∧
    (stFlashEvents1.flash.bank[(1 : Fin 2)]).erasing = true ∧ (stFlashEvents1.flash.bank[(1 : Fin 2)]).doomed = false ∧
    (stFlashEvents1.flash.bank[(1 : Fin 2)]).sector < 512 ∧ (stFlashEvents1.flash.bank[(1 : Fin 2)]).st = .erase ∧
    (stFlashEvents1.flash.bank[(1 : Fin 2)]).sector = (511 : Fin 512).val ∧ stFlashEvents1.plans.plan.chunk = none ∧
    stFlashEvents1.plans.firmware.chunk = none ∧ stFlashEvents1.live = true ∧ stFlashEvents1.asleep = false ∧
    stFlashEvents1.flag Reg.BIST_STATUS 30 = false ∧ stFlashEvents1.dev.stage ≠ .safe :=
  ⟨stFlashEvents1_stored, by decide, by decide, by decide, by decide, by decide, by decide, by decide, by decide, by decide,
    by decide, by decide, by decide, by decide, by decide⟩

theorem witness_FlashEvents_2 : stFlashEvents2.Stored ∧ (stFlashEvents2.flash.bank[(1 : Fin 2)]).step ≠ .none :=
  ⟨stFlashEvents2_stored, by decide⟩

theorem witness_FlashEvents_3 : stFlashEvents3.Stored ∧ (stFlashEvents3.flash.bank[(1 : Fin 2)]).st = .program :=
  ⟨stFlashEvents3_stored, by decide⟩

theorem witness_FlashEvents_4 : stFlashEvents4.Stored ∧ (stFlashEvents4.flash.bank[(1 : Fin 2)]).st = .suspending :=
  ⟨stFlashEvents4_stored, by decide⟩

theorem witness_FlashEvents_5 : stFlashEvents5.Stored ∧ (stFlashEvents5.flash.bank[(1 : Fin 2)]).st = .suspended ∧
    stFlashEvents5.asleep = false :=
  ⟨stFlashEvents5_stored, by decide, by decide⟩

def stFlashReadsAndJournal2 : State := { up with flash.bank := up.flash.bank.set 1 { statusMode := true } }

theorem stFlashReadsAndJournal2_stored : stFlashReadsAndJournal2.Stored := with_stored up_stored rfl rfl rfl

def stFlashReadsAndJournal3 : State := { up with
      fabric.ingress := [{ ev := { typ := 0x10, est := false, alert := false, pt := 5, payload := [] }, todo := 0x1000000000 }] }

theorem stFlashReadsAndJournal3_stored : stFlashReadsAndJournal3.Stored := with_stored up_stored rfl rfl rfl

def stFlashReadsAndJournal4 : State := { up with
      fabric.ingress := [{ ev := { typ := 0x10, est := false, alert := false, pt := 5, payload := [] }, todo := 0x1000000000 }],
      flash.jrn := { ready := true, slot := 64, ahead := 2 } }

theorem stFlashReadsAndJournal4_stored : stFlashReadsAndJournal4.Stored := with_stored up_stored rfl rfl rfl

theorem witness_FlashReadsAndJournal_1 : up.Stored ∧ up.bar2Open = true ∧
    (0 < (4096 : BitVec 13).toNat ∧ (4096 : BitVec 13).toNat ≤ 4096) ∧
    (0x3FF000 : BitVec 22).toNat / 0x200000 = (1 : Fin 2).val ∧
    ((0x3FF000 : BitVec 22).toNat + (4096 : BitVec 13).toNat - 1) / 0x200000 = (1 : Fin 2).val ∧
    (up.flash.bank[(1 : Fin 2)]).busy = false ∧ (up.flash.bank[(1 : Fin 2)]).statusMode = false ∧
    (up.flash.bank[(1 : Fin 2)]).st ≠ .suspended :=
  ⟨up_stored, by decide, by decide, by decide, by decide, by decide, by decide, by decide⟩

theorem witness_FlashReadsAndJournal_2 : stFlashReadsAndJournal2.Stored ∧ stFlashReadsAndJournal2.bar2Open = true ∧
    (stFlashReadsAndJournal2.flash.bank[(1 : Fin 2)]).statusMode = true ∧ (0x200000 : BitVec 22).toNat % 4 = 0 ∧
    (4 : BitVec 13).toNat = 4 :=
  ⟨stFlashReadsAndJournal2_stored, by decide, by decide, by decide, by decide⟩

theorem witness_FlashReadsAndJournal_3 : stFlashReadsAndJournal3.Stored ∧
    stFlashReadsAndJournal3.fabric.oldest 36 = some { ev := { typ := 0x10, est := false, alert := false, pt := 5, payload := [] }, todo := 0x1000000000 } ∧
    stFlashReadsAndJournal3.flash.jrn.ready = true ∧ stFlashReadsAndJournal3.sup.holdUp = none ∧
    stFlashReadsAndJournal3.asleep = false ∧ stFlashReadsAndJournal3.flash.jrn.slot < 64 :=
  ⟨stFlashReadsAndJournal3_stored, by decide, by decide, by decide, by decide, by decide⟩

theorem witness_FlashReadsAndJournal_4 : stFlashReadsAndJournal4.Stored ∧
    stFlashReadsAndJournal4.fabric.oldest 36 = some { ev := { typ := 0x10, est := false, alert := false, pt := 5, payload := [] }, todo := 0x1000000000 } ∧
    stFlashReadsAndJournal4.flash.jrn.ready = true ∧ stFlashReadsAndJournal4.flash.jrn.room = false :=
  ⟨stFlashReadsAndJournal4_stored, by decide, by decide, by decide⟩

def stPlanCommands2 : State :=
    { up with plans.plan := { isOpen := true, count := 65472 }, plans.firmware := { isOpen := true, count := 4096 } }

theorem stPlanCommands2_stored : stPlanCommands2.Stored := with_stored up_stored rfl rfl rfl

def stPlanCommands3 : State := { up with plans.plan := { closed := true, gen := some 5 } }

theorem stPlanCommands3_stored : stPlanCommands3.Stored := with_stored up_stored rfl rfl rfl

def stPlanCommands4 : State := { up with plans.verifyDue := true }

theorem stPlanCommands4_stored : stPlanCommands4.Stored := with_stored up_stored rfl rfl rfl

def stPlanCommands5 : State := { up with
      plans.plan := { todo := [7], chunk := some (req, [], false, 0, 0) },
      plans.firmware := { todo := [8], chunk := some (preq, [], false, 0, 0) } }

theorem stPlanCommands5_stored : stPlanCommands5.Stored := with_stored up_stored rfl rfl rfl

theorem witness_PlanCommands_1 : up.Stored ∧ up.asleep = false ∧ up.plans.plan.busy = false ∧ up.plans.firmware.busy = false ∧
    up.admits req 0x81 ∧ chunkBad up.plans.plan req 8 (4096 : BitVec 16).toNat (0 : Word).toNat 65504 = false ∧
    (∀ g ∈ planSectors up.stagingSlot, up.isRetired g = false) ∧ ((5 : Word) ≠ 0) ∧ up.admits req 0x82 ∧
    up.plans.plan.closed = false ∧ up.admits req 0x83 ∧
    chunkBad up.plans.firmware req 8 (4096 : BitVec 16).toNat (0 : Word).toNat 786432 = false ∧
    (∀ g ∈ fwSectors up.otherFirmware, up.isRetired g = false) ∧ (5 < 2 ^ 32) ∧ up.isSuspect up.plans.plan.slot 0xCF = false ∧
    up.lineAt ((planBase up.plans.plan.slot + 0xFFE0) / 32) = none :=
  ⟨up_stored, by decide, by decide, by decide, admits_of _ _ _ (by decide), by decide, by decide, by decide,
    admits_of _ _ _ (by decide), by decide, admits_of _ _ _ (by decide), by decide, by decide, by decide, by decide, by decide⟩

theorem witness_PlanCommands_2 : stPlanCommands2.Stored ∧ stPlanCommands2.asleep = false ∧
    stPlanCommands2.plans.plan.busy = false ∧ stPlanCommands2.plans.firmware.busy = false ∧ stPlanCommands2.admits req 0x81 ∧
    chunkBad stPlanCommands2.plans.plan req 8 (32 : BitVec 16).toNat (65472 : Word).toNat 65504 = false ∧
    ((65472 : Word) ≠ 0) ∧ stPlanCommands2.admits req 0x83 ∧
    chunkBad stPlanCommands2.plans.firmware req 8 (4096 : BitVec 16).toNat (4096 : Word).toNat 786432 = false ∧
    ((4096 : Word) ≠ 0) :=
  ⟨stPlanCommands2_stored, by decide, by decide, by decide, admits_of _ _ _ (by decide), by decide, by decide,
    admits_of _ _ _ (by decide), by decide, by decide⟩

theorem witness_PlanCommands_3 : stPlanCommands3.Stored ∧ stPlanCommands3.asleep = false ∧
    stPlanCommands3.plans.plan.busy = false ∧ stPlanCommands3.admits req 0x82 ∧ stPlanCommands3.plans.plan.closed = true ∧
    stPlanCommands3.plans.plan.isOpen = false ∧ stPlanCommands3.plans.plan.activated = false ∧
    stPlanCommands3.plans.plan.gen = some (5 : Word).toNat ∧ (stPlanCommands3.reg Reg.DEV_PLAN_GEN).toNat < (5 : Word).toNat :=
  ⟨stPlanCommands3_stored, by decide, by decide, admits_of _ _ _ (by decide), by decide, by decide, by decide, by decide,
    by decide⟩

theorem witness_PlanCommands_4 : stPlanCommands4.Stored ∧ stPlanCommands4.plans.verifyDue = true ∧
    stPlanCommands4.dev.stage = .full ∧ stPlanCommands4.dev.inReset = false :=
  ⟨stPlanCommands4_stored, by decide, by decide, by decide⟩

theorem witness_PlanCommands_5 : stPlanCommands5.Stored ∧ stPlanCommands5.asleep = false ∧
    stPlanCommands5.plans.plan.busy = true ∧ stPlanCommands5.plans.firmware.busy = true :=
  ⟨stPlanCommands5_stored, by decide, by decide, by decide⟩

def stPowerRequests1 : State := put up [(Reg.PMC_WAKE_EN, 0)]

theorem stPowerRequests1_stored : stPowerRequests1.Stored := put_stored up_stored _

def stPowerRequests2 : State := put up [(Reg.PMC_WAKE_EN, 1)]

theorem stPowerRequests2_stored : stPowerRequests2.Stored := put_stored up_stored _

theorem witness_PowerRequests_1 : stPowerRequests1.Stored ∧ stPowerRequests1.inSleepOrWake = false ∧
    stPowerRequests1.admits req 0x70 ∧ stPowerRequests1.powerBad (2 : Byte).toNat 0 = false ∧
    stPowerRequests1.wakeArmed (2 : Byte).toNat 0 = false ∧ stPowerRequests1.powerBad (0 : Byte).toNat 0 = false ∧
    (0 : Byte).toNat = stPowerRequests1.powerCode ∧ stPowerRequests1.powerBad (1 : Byte).toNat 0 = false ∧
    (1 : Byte).toNat ≠ stPowerRequests1.powerCode ∧ stPowerRequests1.powerBad (4 : Byte).toNat 0 = false ∧
    (4 : Byte).toNat ≠ stPowerRequests1.powerCode :=
  ⟨stPowerRequests1_stored, by decide, admits_of _ _ _ (by decide), by decide, by decide, by decide, by decide, by decide,
    by decide, by decide, by decide⟩

theorem witness_PowerRequests_2 : stPowerRequests2.Stored ∧ stPowerRequests2.inSleepOrWake = false ∧
    stPowerRequests2.admits preq 0x70 ∧ stPowerRequests2.powerBad (3 : Byte).toNat 100 = false ∧
    stPowerRequests2.wakeArmed (3 : Byte).toNat 100 = true ∧ (3 : Byte).toNat ≠ stPowerRequests2.powerCode :=
  ⟨stPowerRequests2_stored, by decide, admits_of _ _ _ (by decide), by decide, by decide, by decide⟩

def stQuiesceCommands2 : State := { handshake with mbox.csLow := true }

theorem stQuiesceCommands2_stored : stQuiesceCommands2.Stored := with_stored handshake_stored rfl rfl rfl

def stQuiesceCommands3 : State :=
    { handshake with pmc.answers := (handshake.pmc.answers.set 0 .none).set 15 .asked, pmc.hsStart := 96000000, mbox.csLow := true }

theorem stQuiesceCommands3_stored : stQuiesceCommands3.Stored := with_stored handshake_stored rfl rfl rfl

def stQuiesceCommands4 : State := { handshake with pmc.answers := Vector.replicate 16 .none, pmc.hsStart := 96000000 }

theorem stQuiesceCommands4_stored : stQuiesceCommands4.Stored := with_stored handshake_stored rfl rfl rfl

def stQuiesceCommands5 : State := { handshake with pmc.answers := (handshake.pmc.answers.set 15 .none).set 14 .wait }

theorem stQuiesceCommands5_stored : stQuiesceCommands5.Stored := with_stored handshake_stored rfl rfl rfl

theorem witness_QuiesceCommands_1 : handshake.Stored ∧ handshake.live = true ∧ handshake.pmc.state = .quiesce ∧
    (∀ c : Fin 16, handshake.blockAnswer handshake.qTarget c = .ack ∨ handshake.blockAnswer handshake.qTarget c = .wait) ∧
    (∀ c : Fin 16, c ≠ 5 → handshake.pmc.answers[c] = .ack) ∧ handshake.answerMissing 5 = false ∧ handshake.qTarget = 2 :=
  ⟨handshake_stored, by decide, by decide, by decide, by decide, by decide, by decide⟩

theorem witness_QuiesceCommands_2 : stQuiesceCommands2.Stored ∧ stQuiesceCommands2.live = true ∧
    stQuiesceCommands2.pmc.state = .quiesce ∧ (∀ n : Fin 32, (stQuiesceCommands2.hedge.run[n]).arm = none) ∧
    (∀ c : Fin 16, c ≠ 5 → stQuiesceCommands2.pmc.answers[c] = .ack) ∧ stQuiesceCommands2.answerMissing 5 = false ∧
    (∃ (c : Fin 16) (reason : Nat), stQuiesceCommands2.blockAnswer stQuiesceCommands2.qTarget c = .nack reason) :=
  ⟨stQuiesceCommands2_stored, by decide, by decide, by decide, by decide, by decide, ⟨15, 9, by decide⟩⟩

theorem witness_QuiesceCommands_3 : stQuiesceCommands3.Stored ∧ stQuiesceCommands3.live = true ∧
    stQuiesceCommands3.pmc.state = .quiesce ∧ stQuiesceCommands3.answerMissing 15 = false ∧
    (stQuiesceCommands3.prepareBlock 15).blockAnswer (stQuiesceCommands3.prepareBlock 15).qTarget (15 : Fin 16) = .nack 0x09 :=
  ⟨stQuiesceCommands3_stored, by decide, by decide, by decide, by decide⟩

theorem witness_QuiesceCommands_4 : stQuiesceCommands4.Stored ∧ stQuiesceCommands4.live = true ∧
    stQuiesceCommands4.pmc.state = .quiesce ∧ stQuiesceCommands4.answerMissing 3 = false ∧
    (stQuiesceCommands4.prepareBlock 3).blockAnswer (stQuiesceCommands4.prepareBlock 3).qTarget (3 : Fin 16) = .ack ∧
    (∃ c : Fin 16, c ≠ 3 ∧ c.val ≠ 0xD ∧ (stQuiesceCommands4.prepareBlock 3).pmc.answers[c] ≠ .ack) :=
  ⟨stQuiesceCommands4_stored, by decide, by decide, by decide, by decide, by decide⟩

theorem witness_QuiesceCommands_5 : stQuiesceCommands5.Stored ∧ stQuiesceCommands5.live = true ∧
    stQuiesceCommands5.pmc.state = .quiesce ∧ stQuiesceCommands5.answerMissing 15 = true ∧
    ms (stQuiesceCommands5.fld Reg.PMC_CTRL 9 0) ≤ stQuiesceCommands5.since stQuiesceCommands5.pmc.hsStart ∧
    stQuiesceCommands5.pmc.answers[(14 : Fin 16)] = .wait ∧ stQuiesceCommands5.pmc.answers[(0 : Fin 16)] = .ack :=
  ⟨stQuiesceCommands5_stored, by decide, by decide, by decide, by decide, by decide, by decide⟩

def stSleepEdges2 : State := { slept with pmc.state := .waking }

theorem stSleepEdges2_stored : stSleepEdges2.Stored := with_stored slept_stored rfl rfl rfl

def stSleepEdges3 : State := { up with pmc.state := .waking, time.src := .firc }

theorem stSleepEdges3_stored : stSleepEdges3.Stored := with_stored up_stored rfl rfl rfl

theorem witness_SleepEdges_1 : entering.Stored ∧ entering.live = true ∧ entering.inSleep = true ∧ entering.asleep = false :=
  ⟨entering_stored, by decide, by decide, by decide⟩

theorem witness_SleepEdges_2 : stSleepEdges2.Stored ∧ stSleepEdges2.live = true ∧ stSleepEdges2.pmc.state = .waking ∧
    stSleepEdges2.asleep = true :=
  ⟨stSleepEdges2_stored, by decide, by decide, by decide⟩

theorem witness_SleepEdges_3 : stSleepEdges3.Stored ∧ stSleepEdges3.live = true ∧ stSleepEdges3.wakeReady = true ∧
    stSleepEdges3.dev.stage = .full ∧ stSleepEdges3.clockFailed = false :=
  ⟨stSleepEdges3_stored, by decide, by decide, by decide, by decide⟩

def stWakeAndPowerEvents1 : State := put { slept with pmc.fired := [(5, 1, 0)], time.ktick := 983040 }
    [(Reg.PMC_ALARM, 30), (Reg.PMC_STATUS, 0x100)]

theorem stWakeAndPowerEvents1_stored : stWakeAndPowerEvents1.Stored := made_stored slept_stored _ rfl rfl rfl rfl

def stWakeAndPowerEvents2 : State := put up [(Reg.PMC_WAKE_EN, 1)]

theorem stWakeAndPowerEvents2_stored : stWakeAndPowerEvents2.Stored := put_stored up_stored _

def stWakeAndPowerEvents3 : State := { up with pmc.state := .off }

theorem stWakeAndPowerEvents3_stored : stWakeAndPowerEvents3.Stored := with_stored up_stored rfl rfl rfl

def stWakeAndPowerEvents4 : State :=
    put { slept with pmc.gated := slept.pmc.gated.set 15 { first := some (5, 0, 0, 0), count := 1 } }
    [(Reg.DEV_GATED_ACCESS, 0x80000000)]

theorem stWakeAndPowerEvents4_stored : stWakeAndPowerEvents4.Stored := made_stored slept_stored _ rfl rfl rfl rfl

def stWakeAndPowerEvents5 : State := { up with pmc.gated := up.pmc.gated.set 15 { first := some (5, 0, 0, 0), count := 1 } }

theorem stWakeAndPowerEvents5_stored : stWakeAndPowerEvents5.Stored := with_stored up_stored rfl rfl rfl

theorem witness_WakeAndPowerEvents_1 : stWakeAndPowerEvents1.Stored ∧ stWakeAndPowerEvents1.live = true ∧
    stWakeAndPowerEvents1.inSleep = true ∧ stWakeAndPowerEvents1.flag Reg.PMC_WAKE_EN 0 = true ∧
    stWakeAndPowerEvents1.flag Reg.PMC_WAKE_EN 5 = true ∧ stWakeAndPowerEvents1.flag Reg.PMC_STATUS 8 = true ∧
    stWakeAndPowerEvents1.kennelSec = stWakeAndPowerEvents1.reg Reg.PMC_ALARM ∧
    stWakeAndPowerEvents1.flag Reg.PMC_WAKE_EN 7 = true ∧ stWakeAndPowerEvents1.ring.linkUp = true ∧
    stWakeAndPowerEvents1.asleep = true ∧ stWakeAndPowerEvents1.pmc.fired = [(5, 1, 0)] :=
  ⟨stWakeAndPowerEvents1_stored, by decide, by decide, by decide, by decide, by decide, by decide, by decide, by decide,
    by decide, by decide⟩

theorem witness_WakeAndPowerEvents_2 : stWakeAndPowerEvents2.Stored ∧ stWakeAndPowerEvents2.live = true ∧
    stWakeAndPowerEvents2.pmc.state = .run ∧ stWakeAndPowerEvents2.flag Reg.PMC_WAKE_EN 0 = true ∧
    stWakeAndPowerEvents2.ring.linkUp = true ∧ stWakeAndPowerEvents2.pmc.state ≠ .quiesce :=
  ⟨stWakeAndPowerEvents2_stored, by decide, by decide, by decide, by decide, by decide⟩

theorem witness_WakeAndPowerEvents_3 : stWakeAndPowerEvents3.Stored ∧ stWakeAndPowerEvents3.dev.powered = true ∧
    stWakeAndPowerEvents3.pmc.state = .off :=
  ⟨stWakeAndPowerEvents3_stored, by decide, by decide⟩

theorem witness_WakeAndPowerEvents_4 : stWakeAndPowerEvents4.Stored ∧ stWakeAndPowerEvents4.live = true ∧
    stWakeAndPowerEvents4.inDeepSleep = false ∧ stWakeAndPowerEvents4.flag Reg.DEV_STAGE 12 = true ∧
    stWakeAndPowerEvents4.flag Reg.DEV_GATED_ACCESS 31 = true ∧
    stWakeAndPowerEvents4.blockGated ((0xFFFC : BitVec 32).toNat / 4096) = true ∧ (0xFFFC : BitVec 32).toNat < 0x10000 :=
  ⟨stWakeAndPowerEvents4_stored, by decide, by decide, by decide, by decide, by decide, by decide⟩

theorem witness_WakeAndPowerEvents_5 : stWakeAndPowerEvents5.Stored ∧ stWakeAndPowerEvents5.live = true ∧
    stWakeAndPowerEvents5.gatedDue 15 = true ∧ (stWakeAndPowerEvents5.pmc.gated[(15 : Fin 16)]).first = some (5, 0, 0, 0) :=
  ⟨stWakeAndPowerEvents5_stored, by decide, by decide, by decide⟩

def stSelfTest2 : State := { up with bist.clkRun := Vector.replicate 3 1, bist.request := some preq }

theorem stSelfTest2_stored : stSelfTest2.Stored := with_stored up_stored rfl rfl rfl

def stSelfTest3 : State := { up with bist.work := Vector.replicate 15 1000000000 }

theorem stSelfTest3_stored : stSelfTest3.Stored := with_stored up_stored rfl rfl rfl

theorem witness_SelfTest_1 : up.Stored ∧ up.bistRuns = true ∧ up.requested = none ∧ up.live = true ∧ up.asleep = false ∧
    (∀ n : Fin 24, (0 : BitVec 24).getLsbD n = up.enable n) ∧ up.dev.xoGood = true ∧ up.time.src = .xo ∧ up.admits req 0x90 ∧
    ((0 : Word).toNat ≤ 0x7FFF) ∧ up.bist.request = none ∧
    (∃ t : Fin 15, ((0 : Word) = 0 ∨ (0 : Word).getLsbD t = true) ∧ up.testSkipped t = false ∧ up.testDeferred t = false) ∧
    (∃ l, up.openTests = 0 :: l) ∧ up.testDeferred (0 : Fin 15) = false ∧
    up.bist.work[(0 : Fin 15)] + (480 : Fin 481).val < testWork (0 : Fin 15) :=
  ⟨up_stored, by decide, by decide, by decide, by decide, by decide, by decide, by decide, admits_of _ _ _ (by decide),
    by decide, by decide, by decide, ⟨_, rfl⟩, by decide, by decide⟩

theorem witness_SelfTest_2 : stSelfTest2.Stored ∧ stSelfTest2.live = true ∧ stSelfTest2.asleep = false ∧
    stSelfTest2.dev.xoGood = true ∧ stSelfTest2.bist.clkRun[(2 : Fin 3)] = 1 ∧ stSelfTest2.admits req 0x90 ∧
    stSelfTest2.bist.request = some preq :=
  ⟨stSelfTest2_stored, by decide, by decide, by decide, by decide, admits_of _ _ _ (by decide), by decide⟩

theorem witness_SelfTest_3 : stSelfTest3.Stored ∧ stSelfTest3.bistRuns = true ∧ stSelfTest3.requested = none ∧
    stSelfTest3.openTests = [] :=
  ⟨stSelfTest3_stored, by decide, by decide, by decide⟩

theorem witness_FieldWrites : regSpec Reg.PMC_CTRL ≠ none ∧
    ¬(Reg.PMC_CTRL = Reg.PMC_WAKE_EN ∧ wfld (0 : Word) 10 0 &&& 0x318 ≠ 0) :=
  ⟨by decide, by decide⟩

theorem witness_RegisterWrites_1 : up.Stored ∧ up.barOpen = true ∧ (0x800E : BitVec 16).toNat / 4 * 4 = 0x800C ∧
    up.blockGated (0x800C / 4096) = false ∧ (0x800C / 4096 ∈ [3, 6, 7, 8, 9, 10, 13, 14, 15]) ∧
    0x800C ∉ [Reg.KEYS_CNT_CLR, Reg.SEQ_HERD_CNT_CLR, Reg.BATT_CNT_CLR, Reg.DRIVE_CNT_CLR, Reg.THERM_CNT_CLR, Reg.FLASH_CNT_CLR, Reg.BIST_CNT_CLR, Reg.MBOX_CNT_CLR] ∧
    (0x800C ≠ Reg.DEV_SW_RESET) :=
  ⟨up_stored, by decide, by decide, by decide, by decide, by decide, by decide⟩

theorem witness_RegisterWrites_2 : slept.Stored ∧ slept.barOpen = true ∧ slept.blockGated (0xFFFC / 4096) = true :=
  ⟨slept_stored, by decide, by decide⟩

theorem witness_GatedBlocks : slept.Stored ∧ slept.barOpen = true ∧ (0xFFFC : BitVec 32).toNat < 0x10000 ∧
    slept.blockGated ((0xFFFC : BitVec 32).toNat / 4096) = true :=
  ⟨slept_stored, by decide, by decide, by decide⟩

/-! ### Single operations and steps, with values from the manual's worked examples -/

/-- 03_time_and_leash.md, the vacuum wakes on its dock: the wake timestamp. -/
theorem test_wake_stamp : (ptAdvance 0x23C100000 0 19660801).1 = 0xFA54A4B71 := by decide

/-- The same example: platform time and PT_FRAC at the restart edge. -/
theorem test_restart_pt : ptAdvance 0x23C100000 0 19660803 = (0xFA54A6255, 1) := by decide

/-- 15_mailbox.md: the last byte of the frame 02 00 02 33 9F. -/
theorem test_crc8 : crc8 [0x02, 0x00, 0x02, 0x33] = 0x9F := by decide

/-- 12_thermal.md, hair in the vacuum's motor fan: the demand at 52.0 °C is 54 %. -/
theorem test_curve : curveDemand [(200, 0), (300, 10), (400, 30), (500, 50), (600, 70), (700, 90), (750, 100), (850, 100)] 520 = 54 := by
  decide

/-- 05_encoders_and_cliffs.md: the interval reaches back over four edges. -/
theorem test_interval : ({ hist := [500, 400, 300, 200, 100] } : Enc).interval 520 = 400 := by decide

/-- R57: 0xD065 in SW_RESET with rails and M0 off resets with cause 9. -/
theorem test_sw_reset : (match exec (.swReset 0xD065) up with
    | .next t => (t.dev.inReset, t.fld Reg.DEV_RESET_CAUSE 7 0)
    | _ => (false, 0)) = (true, 9) := by decide

/-- R371: a command that the stage does not admit completes with NOT_IN_STATE, here on port 3. -/
theorem test_not_in_state : (match exec (.batteryControlRelearn preq) safe with
    | .next t => (t.mbox.port[(3 : Fin 4)]).reply.map fun x => x.1.take 3
    | _ => none) = some [7, 0, BitVec.ofNat 8 Status.NOT_IN_STATE] := by decide

/-- 16_flash.md, an interrupted erase: the status word of bank 1 after the erase command is 0x9000_0000. -/
theorem test_erase_status : (match exec (.sectorErase 1 [⟨0x304000, 0xE5, true⟩]) up with
    | .next t => (t.statusWord 1, (t.flash.bank[(1 : Fin 2)]).sector)
    | _ => (0, 0)) = (0x90000000, 260) := by decide

/-- R8: a gated block reads 0xFA11_00nn. -/
theorem test_gated_word : gatedWord 9 = 0xFA110009 := by decide


end Sys2Proof.Tests
end

section
/-! SUPPORT. Saturating counters and accesses to gated blocks (00_scope.md, R8 and R9): what counting one event leaves, and
what an access that a block does not answer writes. -/

namespace Sys2Proof.Machine

/-! ### Saturating counters (R9) -/

/-- A field is below the power of two of its width. -/
theorem wfld_lt (w : Word) (hi lo : Nat) : wfld w hi lo < 2 ^ (hi + 1 - lo) := Nat.mod_lt _ (Nat.two_pow_pos _)

theorem wfld_satInc_self (w : Word) {hi lo : Nat} (hh : hi < 32) (hl : lo ≤ hi) :
    wfld (satInc w hi lo) hi lo = min (2 ^ (hi + 1 - lo) - 1) (wfld w hi lo + 1) := by
  have hlt := wfld_lt w hi lo
  unfold satInc
  split
  case isTrue below =>
    rw [wfld_wset_self _ _ hh hl, Nat.mod_eq_of_lt (by omega)]
    omega
  case isFalse atMax => omega

theorem bit_satInc_other (w : Word) {hi lo i : Nat} (h : i < lo ∨ hi < i) : bit (satInc w hi lo) i = bit w i := by
  unfold satInc
  split
  case isTrue => exact bit_wset_other _ _ h
  case isFalse => rfl

theorem State.fld_inc_self {s : State} (h : s.Stored) (a : Nat) {hi lo : Nat} (hh : hi < 32) (hl : lo ≤ hi) :
    (s.inc a hi lo).fld a hi lo = min (2 ^ (hi + 1 - lo) - 1) (s.fld a hi lo + 1) := by
  unfold State.fld
  rw [State.reg_inc h, if_pos rfl, wfld_satInc_self _ hh hl]

theorem State.flag_inc_other {s : State} (h : s.Stored) (a : Nat) {hi lo i : Nat} (hi' : i < lo ∨ hi < i) :
    (s.inc a hi lo).flag a i = s.flag a i := by
  unfold State.flag
  rw [State.reg_inc h, if_pos rfl, bit_satInc_other _ hi']

theorem State.inc_sameRegsBut {s : State} (h : s.Stored) (a hi lo : Nat) : s.sameRegsBut (s.inc a hi lo) [a] :=
  fun x hx => by rw [State.reg_inc h, if_neg (List.ne_of_not_mem_cons hx)]

/-- Settles O7: the field by `fld_inc_self`, the other bits by `flag_inc_other`, the other registers by `inc_sameRegsBut`. -/
theorem saturatingCounters : Obligations.SaturatingCounters := by
  intro s a hi lo h hh hl
  exact ⟨State.fld_inc_self h a hh hl, fun _ hi' => State.flag_inc_other h a hi', State.inc_sameRegsBut h a hi lo⟩

/-! ### What an access to a gated block writes (R8, R473) -/

/-- A message of one of the first 32 vectors writes no register but the word of its pending bit. -/
theorem State.message_sameRegsBut {s : State} (h : s.Stored) {v : Nat} (hv : v < 32) :
    s.sameRegsBut (s.message v) [Reg.MSIX_PBA0] := by
  intro x hx
  unfold State.message
  rw [if_pos hv]
  split
  case isTrue off => rfl
  case isFalse on =>
    split
    case isTrue masked => rw [State.reg_setFlag h, if_neg (List.ne_of_not_mem_cons hx)]
    case isFalse unmasked =>
      split
      case isTrue frozen => rfl
      case isFalse thawed => exact State.hostWrite_reg _ _ _ _

@[simp] theorem State.message_pmc (s : State) (v : Nat) : (s.message v).pmc = s.pmc := by
  unfold State.message
  split
  case isTrue off => rfl
  case isFalse on =>
    split
    case isTrue masked => split <;> rfl
    case isFalse unmasked => split <;> rfl

theorem State.pmcIrq_sameRegsBut {s : State} (h : s.Stored) (b : Nat) :
    s.sameRegsBut (s.pmcIrq b) [Reg.PMC_IRQ_STATUS, Reg.MSIX_PBA0] := by
  intro x hx
  have hset : (s.setFlag Reg.PMC_IRQ_STATUS b true).reg x = s.reg x := by
    rw [State.reg_setFlag h, if_neg (List.ne_of_not_mem_cons hx)]
  unfold State.pmcIrq
  split
  case isTrue pending => rfl
  case isFalse raised =>
    dsimp only
    split
    case isTrue =>
      exact (State.message_sameRegsBut (h.setFlag _ _ _) (by decide) x (List.not_mem_of_not_mem_cons hx)).trans hset
    case isFalse => exact hset

@[simp] theorem State.pmcIrq_pmc (s : State) (b : Nat) : (s.pmcIrq b).pmc = s.pmc := by
  unfold State.pmcIrq
  split
  case isTrue pending => rfl
  case isFalse raised =>
    dsimp only
    split
    case isTrue => rw [State.message_pmc, State.setFlag_pmc]
    case isFalse => rfl

@[simp] theorem State.postGated_reg (s : State) (b : Fin 16) (x : Nat) : (s.postGated b).reg x = s.reg x := by
  unfold State.postGated
  dsimp only
  split
  case h_1 => rfl
  case h_2 => exact State.postAt_reg _ _ _ _ _ _

@[simp] theorem State.postGated_pmcState (s : State) (b : Fin 16) : (s.postGated b).pmc.state = s.pmc.state := by
  unfold State.postGated
  dsimp only
  split
  case h_1 => rfl
  case h_2 => rw [State.postAt_pmc]

/-- The access as it is logged: the first access in GATED_ACCESS, the count in GATED_CNT. -/
def State.gatedLogged (s : State) (b : Fin 16) (off : Nat) (write viaCmd bar2 : Bool) : State :=
  (if s.flag Reg.DEV_GATED_ACCESS 31 then s
    else s.setReg Reg.DEV_GATED_ACCESS
      (pack [(1, 31), (b2n write, 30), (b2n viaCmd, 29), (b2n bar2, 28), (b.val, 24), (off, 0)])).inc Reg.DEV_GATED_CNT 15 0

theorem State.gatedLogged_stored {s : State} (h : s.Stored) (b : Fin 16) (off : Nat) (write viaCmd bar2 : Bool) :
    (s.gatedLogged b off write viaCmd bar2).Stored := by
  unfold State.gatedLogged
  split
  case isTrue => exact h.inc _ _ _
  case isFalse => exact (h.setReg _ _).inc _ _ _

theorem State.gatedLogged_sameRegsBut {s : State} (h : s.Stored) (b : Fin 16) (off : Nat) (write viaCmd bar2 : Bool) :
    s.sameRegsBut (s.gatedLogged b off write viaCmd bar2) [Reg.DEV_GATED_ACCESS, Reg.DEV_GATED_CNT] := by
  intro x hx
  have hcnt : x ∉ [Reg.DEV_GATED_CNT] := List.not_mem_of_not_mem_cons hx
  unfold State.gatedLogged
  split
  case isTrue => exact State.inc_sameRegsBut h _ _ _ x hcnt
  case isFalse =>
    rw [State.inc_sameRegsBut (h.setReg _ _) _ _ _ x hcnt, State.reg_setReg h, if_neg (List.ne_of_not_mem_cons hx)]

/-- The part of a gated access that follows its log: the interrupt cause of the PMC, and the record where it is due. -/
theorem State.gatedAccess_eq (s : State) (b : Fin 16) (off : Nat) (write viaCmd bar2 : Bool) :
    ∃ g, s.gatedAccess b off write viaCmd bar2 =
      let u := State.pmcIrq { s.gatedLogged b off write viaCmd bar2 with
        pmc.gated := (s.gatedLogged b off write viaCmd bar2).pmc.gated.set b g } 2
      if u.gatedDue b then u.postGated b else u := ⟨_, rfl⟩

/-- The registers that an access to a gated block may write. -/
abbrev gatedAccessRegs : List Nat := [Reg.DEV_GATED_ACCESS, Reg.DEV_GATED_CNT, Reg.PMC_IRQ_STATUS, Reg.MSIX_PBA0]

theorem State.gatedAccess_sameRegsBut {s : State} (h : s.Stored) (b : Fin 16) (off : Nat) (write viaCmd bar2 : Bool) :
    s.sameRegsBut (s.gatedAccess b off write viaCmd bar2) gatedAccessRegs := by
  intro x hx
  simp only [List.mem_cons, List.not_mem_nil, or_false, not_or] at hx
  obtain ⟨haccess, hcnt, hirq, hpba⟩ := hx
  obtain ⟨g, e⟩ := s.gatedAccess_eq b off write viaCmd bar2
  have hl := State.gatedLogged_stored h b off write viaCmd bar2
  have hlog := State.gatedLogged_sameRegsBut h b off write viaCmd bar2 x (by simp [haccess, hcnt])
  have hpmc := (State.pmcIrq_sameRegsBut (s := { s.gatedLogged b off write viaCmd bar2 with
    pmc.gated := (s.gatedLogged b off write viaCmd bar2).pmc.gated.set b g }) (hl.congr rfl rfl rfl) 2 x
      (by simp [hirq, hpba])).trans hlog
  rw [e]
  dsimp only
  split
  case isTrue due => exact (State.postGated_reg _ _ _).trans hpmc
  case isFalse => exact hpmc

@[simp] theorem State.gatedLogged_pmc (s : State) (b : Fin 16) (off : Nat) (write viaCmd bar2 : Bool) :
    (s.gatedLogged b off write viaCmd bar2).pmc = s.pmc := by
  unfold State.gatedLogged
  split <;> rfl

/-- An access wakes nothing: the power state stands (R8). -/
@[simp] theorem State.gatedAccess_pmcState (s : State) (b : Fin 16) (off : Nat) (write viaCmd bar2 : Bool) :
    (s.gatedAccess b off write viaCmd bar2).pmc.state = s.pmc.state := by
  obtain ⟨g, e⟩ := s.gatedAccess_eq b off write viaCmd bar2
  rw [e]
  dsimp only
  split
  case isTrue due => simp
  case isFalse => simp

/-- The device state, platform time and the value last read stand. -/
theorem State.gatedAccess_keeps_dev_time_rdata {s : State} (h : s.Stored) (b : Fin 16) (off : Nat) (write viaCmd bar2 : Bool) :
    (s.gatedAccess b off write viaCmd bar2).dev = s.dev ∧ (s.gatedAccess b off write viaCmd bar2).time = s.time ∧
    (s.gatedAccess b off write viaCmd bar2).rdata = s.rdata := by
  have k : Keeps (2 ^ Part.dev.num + 2 ^ Part.time.num + 2 ^ Part.rdata.num) s (s.gatedAccess b off write viaCmd bar2) :=
    State.gatedAccess_keeps b off write viaCmd bar2 (by decide) (Keeps.refl h)
  exact ⟨k.part .dev (by decide), k.part .time (by decide), k.part .rdata (by decide)⟩

/-! ### What decides whether a block is gated (R34, R470) -/

/-- The registers of KEYS, MOTION, SEQ, DRIVE and BIST, on which the use of a block depends, stand. -/
abbrev State.sameSetup (s t : State) : Prop := s.sameBlocks t [3, 4, 6, 9, 14]

/-- A register of one of those blocks. -/
theorem State.sameBlocks.reg {s t : State} {l : List Nat} (h : s.sameBlocks t l) {a : Nat} (b : Nat) (hb : b ∈ l)
    (ha : a / 4096 = b) : t.reg a = s.reg a := h a (ha ▸ hb)

theorem State.flag_congr {s t : State} {a : Nat} (h : t.reg a = s.reg a) (i : Nat) : t.flag a i = s.flag a i := by
  unfold State.flag
  rw [h]

theorem State.fld_congr {s t : State} {a : Nat} (h : t.reg a = s.reg a) (hi lo : Nat) : t.fld a hi lo = s.fld a hi lo := by
  unfold State.fld
  rw [h]

theorem any_range_congr {n : Nat} {p q : Nat → Bool} (h : ∀ i < n, p i = q i) : (List.range n).any p = (List.range n).any q := by
  rw [Bool.eq_iff_iff, List.any_eq_true, List.any_eq_true]
  exact exists_congr fun i => and_congr_right fun hi => by rw [h i (List.mem_range.mp hi)]

theorem State.railPre_congr {s t : State} {n : Nat} (h : t.reg (Reg.SEQ_RAIL_CFG n) = s.reg (Reg.SEQ_RAIL_CFG n)) :
    t.railPre n = s.railPre n := by
  unfold State.railPre State.flag State.fld
  rw [h]

theorem State.railGroups_congr {s t : State} {n : Nat} (h : t.reg (Reg.SEQ_RAIL_CFG n) = s.reg (Reg.SEQ_RAIL_CFG n)) :
    t.railGroups n = s.railGroups n := by
  unfold State.railGroups
  rw [State.fld_congr h]

theorem State.railsInUse_congr {s t : State} (h : s.sameSetup t) : t.railsInUse = s.railsInUse := by
  have hcfg : ∀ n : Fin 24, t.reg (Reg.SEQ_RAIL_CFG n) = s.reg (Reg.SEQ_RAIL_CFG n) := fun n =>
    h.reg 6 (by decide) (by dsimp only [Reg.SEQ_RAIL_CFG]; omega)
  have hpre : (fun n : Fin 24 => t.railPre n) = fun n : Fin 24 => s.railPre n := funext fun n => State.railPre_congr (hcfg n)
  have hgroups : (fun n : Fin 24 => t.railGroups n) = fun n : Fin 24 => s.railGroups n :=
    funext fun n => State.railGroups_congr (hcfg n)
  have hmask := congrArg (fun f : Fin 24 → BitVec 8 => railMask fun n => decide (f n &&& 0xFF ≠ 0)) hgroups
  unfold State.railsInUse State.needed State.closure
  dsimp only at hmask ⊢
  rw [hpre, hmask]

theorem State.keyRole_congr {s t : State} (h : s.sameSetup t) {n : Nat} (hn : n < 256) : t.keyRole n = s.keyRole n :=
  State.fld_congr (h.reg 3 (by decide) (by dsimp only [Reg.KEYS_NODE_CFG]; omega)) _ _

theorem State.diRole_congr {s t : State} (h : s.sameSetup t) {n : Nat} (hn : n < 16) : t.diRole n = s.diRole n :=
  State.fld_congr (h.reg 3 (by decide) (by dsimp only [Reg.KEYS_DI_CFG]; omega)) _ _

theorem State.encOn_congr {s t : State} (h : s.sameSetup t) {n : Nat} (hn : n < 4) : t.encOn n = s.encOn n :=
  State.flag_congr (h.reg 4 (by decide) (by dsimp only [Reg.MOTION_ENC_CFG]; omega)) _

theorem State.clfRole_congr {s t : State} (h : s.sameSetup t) {n : Nat} (hn : n < 8) : t.clfRole n = s.clfRole n :=
  State.fld_congr (h.reg 4 (by decide) (by dsimp only [Reg.MOTION_CLF_CFG]; omega)) _ _

theorem State.fanOn_congr {s t : State} (h : s.sameSetup t) {n : Nat} (hn : n < 3) : t.fanOn n = s.fanOn n :=
  State.flag_congr (h.reg 9 (by decide) (by dsimp only [Reg.DRIVE_FAN_CFG]; omega)) _

theorem State.herdOn_congr {s t : State} (h : s.sameSetup t) : t.herdOn = s.herdOn :=
  State.flag_congr (h.reg 6 (by decide) (by decide)) _

theorem State.m0Enabled_congr {s t : State} (h : s.sameSetup t) : t.m0Enabled = s.m0Enabled :=
  State.flag_congr (h.reg 9 (by decide) (by decide)) _

theorem State.blockUsed_congr {s t : State} (h : s.sameSetup t) (b : Nat) : t.blockUsed b = s.blockUsed b := by
  have hok : ∀ i, t.flag Reg.BIST_UNUSABLE i = s.flag Reg.BIST_UNUSABLE i :=
    State.flag_congr (h.reg 14 (by decide) (by decide))
  have hline : ∀ i, t.flag Reg.BIST_UNUSABLE_LINES i = s.flag Reg.BIST_UNUSABLE_LINES i :=
    State.flag_congr (h.reg 14 (by decide) (by decide))
  unfold State.blockUsed
  simp only [hok, hline]
  split
  case h_1 =>
    exact congrArg₂ or (any_range_congr fun n hn => by rw [State.keyRole_congr h hn])
      (any_range_congr fun n hn => by rw [State.diRole_congr h hn])
  case h_2 =>
    exact congrArg₂ or (any_range_congr fun n hn => by rw [State.encOn_congr h hn])
      (any_range_congr fun n hn => by rw [State.clfRole_congr h hn])
  case h_3 => rw [State.railsInUse_congr h, State.herdOn_congr h]
  case h_4 =>
    rw [State.m0Enabled_congr h]
    exact congrArg (or _) (any_range_congr fun n hn => by rw [State.fanOn_congr h hn])
  case h_5 => rfl

/-- Power state, time base, Plan and set-up decide which blocks are gated. -/
theorem State.blockGated_congr {s t : State} (hstate : t.pmc.state = s.pmc.state) (htime : t.time = s.time)
    (hdev : t.dev = s.dev) (h : s.sameSetup t) (b : Nat) : t.blockGated b = s.blockGated b := by
  unfold State.blockGated State.asleep State.inSleep State.inDeepSleep
  rw [hstate, htime, hdev, State.blockUsed_congr h]

/-- Every block is gated after an access as before it. -/
theorem State.gatedAccess_blockGated {s : State} (h : s.Stored) (b : Fin 16) (off : Nat) (write viaCmd bar2 : Bool) (x : Nat) :
    (s.gatedAccess b off write viaCmd bar2).blockGated x = s.blockGated x := by
  obtain ⟨hdev, htime, -⟩ := State.gatedAccess_keeps_dev_time_rdata h b off write viaCmd bar2
  have hblocks : ∀ r ∈ gatedAccessRegs, r / 4096 ∉ [3, 4, 6, 9, 14] := by decide
  have hsetup : s.sameSetup (s.gatedAccess b off write viaCmd bar2) := fun a ha =>
    State.gatedAccess_sameRegsBut h b off write viaCmd bar2 a fun hmem => hblocks a hmem ha
  exact State.blockGated_congr (State.gatedAccess_pmcState ..) htime hdev hsetup x

/-- The registers of a gated block stand, but for the word of pending messages. -/
theorem State.gatedAccess_reg_of_gated {s : State} (h : s.Stored) (b : Fin 16) (off : Nat) (write viaCmd bar2 : Bool) {x : Nat}
    (hg : s.blockGated (x / 4096) = true) (hx : x ≠ Reg.MSIX_PBA0) :
    (s.gatedAccess b off write viaCmd bar2).reg x = s.reg x := by
  have hlow : ¬x / 4096 ≤ 2 := fun hle => by simp [s.blockGated_low hle] at hg
  have hblocks : ∀ r ∈ gatedAccessRegs, r ≠ Reg.MSIX_PBA0 → r / 4096 ≤ 2 := by decide
  exact State.gatedAccess_sameRegsBut h b off write viaCmd bar2 x fun hmem => hlow (hblocks x hmem hx)

/-! ### The rows -/

theorem State.barOpen_iff (s : State) :
    s.barOpen = true ↔ s.live = true ∧ s.inDeepSleep = false ∧ s.flag Reg.DEV_STAGE 12 = true := by
  simp [State.barOpen, and_assoc]

/-- The row of an access to a gated block that reaches the controller, over the bus or by command. -/
theorem exec_gatedRegisterAccess {s : State} {write viaCmd : Bool} {a : BitVec 32} (hlive : s.live = true)
    (hdeep : s.inDeepSleep = false) (hreach : viaCmd = true ∨ s.flag Reg.DEV_STAGE 12 = true) (ha : a.toNat < 0x10000)
    (hg : s.blockGated (a.toNat / 4096) = true) :
    exec (.gatedRegisterAccess write viaCmd false a) s = .next (
      let t := s.gatedAccess (blockOf a.toNat) (a.toNat % 4096) write viaCmd false
      if write then t else { t with rdata := image (gatedWord (a.toNat / 4096)) }) := by
  have hopen : (!s.live || s.inDeepSleep || (!viaCmd && !s.flag Reg.DEV_STAGE 12)) = false := by
    rcases hreach with hcmd | hstage
    · simp [hlive, hdeep, hcmd]
    · simp [hlive, hdeep, hstage]
  have hblock : (blockOf a.toNat).val = a.toNat / 4096 := Nat.mod_eq_of_lt (by omega)
  have hgated : (false && s.inSleep || !false && s.blockGated (blockOf a.toNat).val) = true := by simp [hblock, hg]
  show execGatedRegisterAccess write viaCmd false a s = _
  conv_rhs => rw [← hblock]
  unfold execGatedRegisterAccess
  rw [hopen]
  exact congrArg Host.Outcome.next (if_pos hgated)

theorem exec_registerWrite_gated {s : State} {off : BitVec 16} (v : Word) (ho : s.barOpen = true)
    (hg : s.blockGated (off.toNat / 4096) = true) :
    exec (.registerWrite off v) s =
      .next (s.gatedAccess (blockOf (off.toNat / 4 * 4)) (off.toNat / 4 * 4 % 4096) true false false) :=
  State.hostStore_gated v ho (by rw [show off.toNat / 4 * 4 / 4096 = off.toNat / 4096 by omega]; exact hg)

/-- Settles O59: both accesses end in `State.gatedAccess`, which writes registers of DEV, PMC and the pending word of MSIX
only and changes nothing that decides what is gated. -/
theorem gatedBlocks : Obligations.GatedBlocks := by
  intro s a v h ho ha hg
  have hoff : (a.setWidth 16).toNat = a.toNat := by
    rw [BitVec.toNat_setWidth]
    exact Nat.mod_eq_of_lt ha
  obtain ⟨hlive, hdeep, hstage⟩ := s.barOpen_iff.mp ho
  refine ⟨⟨_, exec_gatedRegisterAccess hlive hdeep (.inr hstage) ha hg, rfl, ?_⟩,
    ⟨_, exec_registerWrite_gated v ho (hoff.symm ▸ hg), fun x hx hpba => ?_, ?_, ?_⟩⟩
  · exact (State.gatedAccess_blockGated h ..).trans hg
  · exact State.gatedAccess_reg_of_gated h _ _ _ _ _ (hx ▸ hg) hpba
  · obtain ⟨-, -, hrdata⟩ := State.gatedAccess_keeps_dev_time_rdata h (blockOf _) _ true false false
    exact hrdata
  · exact (State.gatedAccess_blockGated h ..).trans hg

end Sys2Proof.Machine
end

section
/-! SUPPORT. DEV.SW_RESET (02_start_up.md, R57): when no rail is on, and what the host's write of the register leaves. -/

namespace Sys2Proof.Machine

/-! ### The mask of the rails that are on -/

theorem railBit_getElem (n k : Fin 24) : (railBit n)[k.val] = decide (k = n) := by
  revert n k
  decide

theorem foldl_railBit_getElem (f : Fin 24 → Bool) (k : Fin 24) (l : List (Fin 24)) (m : BitVec 24) :
    (l.foldl (fun m (n : Fin 24) => if f n then m ||| railBit n else m) m)[k.val] =
      (m[k.val] || (decide (k ∈ l) && f k)) := by
  induction l generalizing m with
  | nil => simp
  | cons n l ih =>
    have hstep : (if f n then m ||| railBit n else m)[k.val] = (m[k.val] || (decide (k = n) && f n)) := by
      cases f n <;> simp [railBit_getElem]
    rw [List.foldl_cons, ih, hstep]
    by_cases hkn : k = n
    · subst hkn
      cases f k <;> simp
    · simp [hkn]

/-- Bit `k` of a rail mask is its predicate at rail `k`. -/
@[simp] theorem railMask_getElem (f : Fin 24 → Bool) (k : Fin 24) : (railMask f)[k.val] = f k :=
  (foldl_railBit_getElem f k _ _).trans (by simp)

@[simp] theorem State.railsIn_getElem (s : State) (l : List RailState) (k : Fin 24) :
    (s.railsIn l)[k.val] = l.contains (s.seq.rail[k]).state := railMask_getElem _ k

theorem State.railsOn_getElem (s : State) (k : Fin 24) : s.railsOn[k.val] = decide ((s.seq.rail[k]).state ≠ .off) := by
  simp [State.railsOn]

theorem State.railsOn_eq_zero_iff (s : State) : s.railsOn = 0 ↔ ∀ n : Fin 24, (s.seq.rail[n]).state = .off := by
  have hbit := s.railsOn_getElem
  constructor
  · intro hzero n
    simpa [hzero] using (hbit n).symm
  · intro hoff
    refine BitVec.eq_of_getElem_eq fun i hi => ?_
    have hclear : s.railsOn[i] = false := (hbit ⟨i, hi⟩).trans (decide_eq_false (not_not_intro (hoff _)))
    simp [hclear]

/-! ### The register's write (R57) -/

theorem State.swReset_of_idle {s : State} (hrails : s.railsOn = 0) (hm0 : s.drive.m0.st = .stopped) :
    s.swReset 0xD065 = s.assertReset Cause.swReset := by
  simp [State.swReset, hrails, hm0]

theorem State.swReset_of_busy {s : State} (hbusy : s.railsOn ≠ 0 ∨ s.drive.m0.st ≠ .stopped) :
    s.swReset 0xD065 = s.setFlag Reg.DEV_STAGE 15 true := by
  have hnot : ¬(s.railsOn = 0 && s.drive.m0.st = .stopped) = true := by
    simpa [Decidable.imp_iff_not_or] using hbusy
  unfold State.swReset
  rw [if_neg (not_not_intro rfl), if_neg hnot]

theorem State.swReset_of_ne {v : Word} (s : State) (hv : v ≠ 0xD065) : s.swReset v = s := if_pos hv

/-- DEV is never gated, so the host's write reaches the register. -/
theorem exec_swReset {s : State} (ho : s.barOpen = true) (v : Word) : exec (.swReset v) s = .next (s.swReset v) :=
  (State.hostStore_open v ho (s.blockGated_low (by decide))).trans (congrArg Host.Outcome.next (s.busWrite_swReset v))

/-- Settles O9: the write is `State.swReset`, which tests the mask of the rails that are on (`State.railsOn_eq_zero_iff`). -/
theorem swReset : Obligations.SwReset := by
  intro s h ho
  obtain ⟨hlive, -, -⟩ := s.barOpen_iff.mp ho
  refine ⟨fun hoff hm0 => ?_, fun hbusy => ?_, fun v hv => ?_⟩
  · have hreset := s.swReset_of_idle (s.railsOn_eq_zero_iff.mpr hoff) hm0
    exact ⟨_, (exec_swReset ho _).trans (congrArg _ hreset), (State.assertReset_resetTo h hlive (by decide)).1⟩
  · have hon : s.railsOn ≠ 0 ∨ s.drive.m0.st ≠ .stopped := by
      rwa [Ne, s.railsOn_eq_zero_iff, not_forall]
    rw [exec_swReset ho, State.swReset_of_busy hon]
  · rw [exec_swReset ho, s.swReset_of_ne hv]

end Sys2Proof.Machine
end

section
/-! SUPPORT. Platform-time reads (03_time_and_leash.md, R65): the row of each latching read and what the latched word and
TIME.STATUS then read. -/

namespace Sys2Proof.Machine

/-! ### The latching reads -/

theorem exec_ptLoRead {s : State} (ho : s.barOpen = true) :
    exec .ptLoRead s = .next { s.readPtLo.1 with rdata := image (s.ptNow.setWidth 32) } :=
  State.hostLoad_open ho (s.blockGated_low (by decide))

theorem exec_ktickLoRead {s : State} (ho : s.barOpen = true) :
    exec .ktickLoRead s = .next { s.readKtickLo.1 with rdata := image (s.time.ktick.setWidth 32) } :=
  State.hostLoad_open ho (s.blockGated_low (by decide))

/-! ### What TIME registers read -/

theorem State.readWord_ptHi (s : State) : s.readWord Reg.TIME_PT_HI = s.time.ptHi := rfl

theorem State.readWord_ktickHi (s : State) : s.readWord Reg.TIME_KTICK_HI = s.time.ktickHi := rfl

theorem State.readWord_timeStatus (s : State) :
    s.readWord Reg.TIME_STATUS = wset (s.reg Reg.TIME_STATUS) 1 0 s.time.src.code := rfl

/-- TIME.STATUS.SRC reads the source that PT counts from. -/
theorem State.timeStatus_src (s : State) : wfld (s.readWord Reg.TIME_STATUS) 1 0 = s.time.src.code := by
  rw [State.readWord_timeStatus, wfld_wset_self _ _ (by decide) (by decide)]
  cases s.time.src <;> rfl

/-! ### PT of the present moment (R65, R68) -/

theorem State.asleep_iff (s : State) : s.asleep = true ↔ s.time.src = .kennel := decide_eq_true_iff

theorem State.ptNow_of_asleep {s : State} (h : s.asleep = true) :
    s.ptNow = (ptAdvance s.time.ptEntry (s.fld Reg.TIME_STATUS 11 8) s.sleepTicks).1 := if_pos (s.asleep_iff.mp h)

theorem State.ptNow_of_awake {s : State} (h : s.asleep = false) : s.ptNow = s.time.pt := if_neg (of_decide_eq_false h)

/-- Settles O11: each row latches the high word that TIME.PT_HI or TIME.KTICK_HI then reads. -/
theorem latchedTime : Obligations.LatchedTime := by
  intro s _ ho
  refine ⟨⟨_, exec_ptLoRead ho, rfl, State.readWord_ptHi _⟩, ⟨_, exec_ktickLoRead ho, rfl, State.readWord_ktickHi _⟩,
    fun hsleep => ⟨State.ptNow_of_asleep hsleep, ?_⟩, State.ptNow_of_awake⟩
  rw [State.timeStatus_src, s.asleep_iff.mp hsleep]
  rfl

end Sys2Proof.Machine
end

section
/-! SUPPORT. PTM dialogues and the Leash (03_time_and_leash.md, R71, R79 to R84): the registers that a dialogue writes, the
counts and overruns of a frame that ends, and the rows. -/

namespace Sys2Proof.Machine

/-! ### A PTM dialogue's results (R71) -/

/-- The rate is drawn or rounded with free values alone. -/
theorem State.ptmRate_keeps_time {s : State} (h : s.Stored) (x : PtmSample) :
    (s.ptmRate x).1.Stored ∧ (s.ptmRate x).1.time = s.time ∧
      ∀ b, b / 4096 = 2 → (s.ptmRate x).1.reg b = s.reg b := by
  have k : Keeps (2 ^ Part.time.num + 2 ^ (Part.block 2).num) s (s.ptmRate x).1 :=
    State.ptmRate_keeps x (by decide) (Keeps.refl h)
  exact ⟨k.stored, k.part .time (by decide), k.part (.block 2) (by decide)⟩

/-- The registers of a dialogue, written with rate `rate`. -/
def State.ptmRegs (s : State) (x : PtmSample) (rate : Word) : State :=
  let s := s.setReg Reg.TIME_PTM_SEQ (s.reg Reg.TIME_PTM_SEQ + 2)
  let s := (s.setReg Reg.TIME_PTM_PT_LO (x.pt.setWidth 32)).setReg Reg.TIME_PTM_PT_HI ((x.pt >>> 32).setWidth 32)
  let s := (s.setReg Reg.TIME_PTM_HOST_LO (x.host.setWidth 32)).setReg Reg.TIME_PTM_HOST_HI ((x.host >>> 32).setWidth 32)
  (s.setReg Reg.TIME_PTM_DELAY x.delay).setReg Reg.TIME_PTM_RATE rate

theorem State.ptmRegs_stored {s : State} (h : s.Stored) (x : PtmSample) (rate : Word) : (s.ptmRegs x rate).Stored :=
  ((((((h.setReg _ _).setReg _ _).setReg _ _).setReg _ _).setReg _ _).setReg _ _).setReg _ _

/-- The state once a dialogue's registers are written, it counts as done and none is due. -/
def State.ptmEntered (s : State) (x : PtmSample) : State :=
  let s := (s.ptmRate x).1.ptmRegs x (s.ptmRate x).2
  { s with time.ptmDue := false, time.ptmDone := s.time.ptmDone + 1 }

theorem State.ptmEntered_stored {s : State} (h : s.Stored) (x : PtmSample) : (s.ptmEntered x).Stored :=
  (State.ptmRegs_stored (State.ptmRate_keeps_time h x).1 x _).congr rfl rfl rfl

theorem State.ptmEntered_time {s : State} (h : s.Stored) (x : PtmSample) :
    (s.ptmEntered x).time = { s.time with ptmDue := false, ptmDone := s.time.ptmDone + 1 } := by
  obtain ⟨-, htime, -⟩ := State.ptmRate_keeps_time h x
  rw [← htime]
  rfl

/-- Every register of TIME once a dialogue is entered. -/
theorem State.ptmEntered_reg {s : State} (h : s.Stored) (x : PtmSample) {b : Nat} (hb : b / 4096 = 2) :
    (s.ptmEntered x).reg b =
      if b = Reg.TIME_PTM_RATE then (s.ptmRate x).2
      else if b = Reg.TIME_PTM_DELAY then x.delay
      else if b = Reg.TIME_PTM_HOST_HI then (x.host >>> 32).setWidth 32
      else if b = Reg.TIME_PTM_HOST_LO then x.host.setWidth 32
      else if b = Reg.TIME_PTM_PT_HI then (x.pt >>> 32).setWidth 32
      else if b = Reg.TIME_PTM_PT_LO then x.pt.setWidth 32
      else if b = Reg.TIME_PTM_SEQ then s.reg Reg.TIME_PTM_SEQ + 2
      else s.reg b := by
  obtain ⟨hrate, -, hsame⟩ := State.ptmRate_keeps_time h x
  rw [← hsame b hb, ← hsame Reg.TIME_PTM_SEQ (by decide)]
  show ((s.ptmRate x).1.ptmRegs x (s.ptmRate x).2).reg b = _
  simp (disch := apply_rules [State.Stored.setReg]) only [State.ptmRegs, State.reg_setReg]

theorem State.ptmWrite_eq (s : State) (x : PtmSample) :
    s.ptmWrite x =
      if 2 ≤ (s.ptmEntered x).time.ptmDone then (s.ptmEntered x).setFlag Reg.TIME_STATUS 5 true else s.ptmEntered x := rfl

theorem State.ptmWrite_time {s : State} (h : s.Stored) (x : PtmSample) :
    (s.ptmWrite x).time = { s.time with ptmDue := false, ptmDone := s.time.ptmDone + 1 } := by
  rw [State.ptmWrite_eq, ← State.ptmEntered_time h]
  split <;> rfl

/-- Every register but TIME.STATUS is as the dialogue wrote it. -/
theorem State.ptmWrite_reg {s : State} (h : s.Stored) (x : PtmSample) {b : Nat} (hb : b ≠ Reg.TIME_STATUS) :
    (s.ptmWrite x).reg b = (s.ptmEntered x).reg b := by
  rw [State.ptmWrite_eq]
  split
  case isTrue => exact (State.reg_setFlag (State.ptmEntered_stored h x) _ _ _ _).trans (if_neg hb)
  case isFalse => rfl

/-- From the second dialogue on, TIME.STATUS.PTM_VALID is set (R72). -/
theorem State.ptmWrite_flag {s : State} (h : s.Stored) (x : PtmSample) (hdone : 1 ≤ s.time.ptmDone) :
    (s.ptmWrite x).flag Reg.TIME_STATUS 5 = true := by
  have hsecond : 2 ≤ (s.ptmEntered x).time.ptmDone := by
    rw [State.ptmEntered_time h]
    exact Nat.succ_le_succ hdone
  rw [State.ptmWrite_eq, if_pos hsecond]
  exact State.flag_setFlag_self (State.ptmEntered_stored h x) _ _ (by decide)

theorem exec_ptmDialogue {s : State} (hlive : s.live = true) (hawake : s.asleep = false) (hen : s.ring.pcie.ptmEn = true)
    (hfull : s.fullService = true) (hlink : s.ring.linkUp = true) (hwake : s.pmc.state ≠ .waking) (inL0 : Bool) (x : PtmSample) :
    exec (.ptmDialogue inL0 x) s = .next (if inL0 then s.ptmWrite x else { s with time.ptmDue := true }) := by
  show execPtmDialogue inL0 x s = _
  simp [execPtmDialogue, hlive, hawake, hen, hfull, hlink, hwake]

/-! ### A ceiling reached (R80, R84) -/

theorem exec_leashCeilingReached {s : State} (hlive : s.live = true) (hawake : s.asleep = false) {a : Fin 10}
    (ha : a = 9 → s.testEn = true) (pending : Bool) :
    exec (.leashCeilingReached a pending) s = .next (
      if pending then
        { s.setHeld a with leash.heldPending := s.leash.heldPending ||| BitVec.ofNat 10 (2 ^ a.val) }
      else s.setHeld a) := by
  have hbudget : (decide (a ≠ 9) || s.testEn) = true := by
    by_cases h9 : a = 9
    · simp [ha h9]
    · simp [h9]
  show execLeashCeilingReached a pending s = _
  unfold execLeashCeilingReached
  rw [hlive, hawake, hbudget]
  rfl

theorem exec_leashCeilingReached_debug {s : State} (h : s.testEn = false) (pending : Bool) :
    exec (.leashCeilingReached 9 pending) s = .next s := by
  show execLeashCeilingReached 9 pending s = _
  simp [execLeashCeilingReached, h]

theorem getLsbD_or_twoPow (p : BitVec 10) (a : Fin 10) : (p ||| BitVec.ofNat 10 (2 ^ a.val)).getLsbD a = true := by
  rw [BitVec.getLsbD_or, BitVec.getLsbD_ofNat, Nat.testBit_two_pow_self]
  simp [a.isLt]

/-! ### One register for each activity -/

section EachRegister

variable {n : Nat} {f : State → Fin n → State} {addr : Fin n → Nat} {new : Fin n → Word → Word} {inv : State → Prop}
  (hinv : ∀ u a, inv u → inv (f u a))
  (hreg : ∀ u a, inv u → ∀ x, (f u a).reg x = if x = addr a then new a (u.reg x) else u.reg x)

include hinv hreg

/-- A register that no step of the fold names stands. -/
theorem foldl_reg_other (l : List (Fin n)) {s : State} (h : inv s) {x : Nat} (hx : ∀ a ∈ l, x ≠ addr a) :
    (l.foldl f s).reg x = s.reg x := by
  induction l generalizing s with
  | nil => rfl
  | cons a l ih =>
    rw [List.foldl_cons, ih (hinv s a h) fun b hb => hx b (List.mem_cons_of_mem a hb), hreg s a h,
      if_neg (hx a List.mem_cons_self)]

/-- A register that the fold names is rewritten once. -/
theorem foldl_reg_self (hinj : Function.Injective addr) {l : List (Fin n)} (hl : l.Nodup) {s : State} (h : inv s) {a : Fin n}
    (ha : a ∈ l) : (l.foldl f s).reg (addr a) = new a (s.reg (addr a)) := by
  induction l generalizing s with
  | nil => cases ha
  | cons b l ih =>
    obtain ⟨hbl, hl⟩ := List.nodup_cons.mp hl
    rw [List.foldl_cons]
    rcases List.mem_cons.mp ha with rfl | hal
    · have hrest : ∀ c ∈ l, addr a ≠ addr c := fun c hc e => hbl (hinj e ▸ hc)
      rw [foldl_reg_other hinv hreg l (hinv s a h) hrest, hreg s a h, if_pos rfl]
    · have hne : addr a ≠ addr b := fun e => hbl (hinj e ▸ hal)
      rw [ih hl (hinv s b h) hal, hreg s b h, if_neg hne]

end EachRegister

/-! ### The counts of a frame (R79, R81) -/

theorem State.leashCeil_congr {s t : State} {a : Fin 10} (hceil : t.reg (Reg.TIME_LEASH_CEIL a) = s.reg (Reg.TIME_LEASH_CEIL a))
    (hstrap : t.reg Reg.DEV_STRAP = s.reg Reg.DEV_STRAP) : t.leashCeil a = s.leashCeil a := by
  unfold State.leashCeil State.testEn
  rw [State.fld_congr hceil, State.flag_congr hstrap]

/-- The budget, the hold and TEST_EN decide the count of an activity. -/
theorem State.leashUsed_congr {s t : State} {a : Fin 10} (hceil : t.reg (Reg.TIME_LEASH_CEIL a) = s.reg (Reg.TIME_LEASH_CEIL a))
    (hstrap : t.reg Reg.DEV_STRAP = s.reg Reg.DEV_STRAP) (hheld : t.reg Reg.TIME_LEASH_HELD = s.reg Reg.TIME_LEASH_HELD) (u : Nat) :
    t.leashUsed a u = s.leashUsed a u := by
  unfold State.leashUsed
  rw [State.leashCeil_congr hceil hstrap, State.flag_congr hheld]

/-- A held activity has reached its ceiling, and passes it by 15 cycles at most. -/
theorem State.leashUsed_of_held {s : State} {a : Fin 10} (h : s.flag Reg.TIME_LEASH_HELD a = true) (u : Nat) :
    s.leashCeil a ≤ s.leashUsed a u ∧ s.leashUsed a u ≤ s.leashCeil a + 15 := by
  unfold State.leashUsed
  rw [if_pos h]
  omega

theorem State.leashCeil_of_budget {s : State} {a : Fin 10} (ha : a = 9 → s.testEn = true) :
    s.leashCeil a = s.fld (Reg.TIME_LEASH_CEIL a) 16 0 := by
  refine if_neg fun hdebug => ?_
  obtain ⟨h9, hoff⟩ := Bool.and_eq_true_iff.mp hdebug
  simp [ha (of_decide_eq_true h9)] at hoff

/-- One activity's count as the frame's end stores it. -/
def State.storeUsed (used : Vector (BitVec 17) 10) (s : State) (a : Fin 10) : State :=
  s.setReg (Reg.TIME_LEASH_USED a) (BitVec.ofNat 32 (s.leashUsed a (used[a]).toNat))

/-- The state once the counts of the frame that ends are stored; a partial frame stores none. -/
def State.frameCounts (s : State) (used : Vector (BitVec 17) 10) : State :=
  if s.leash.partialFrame then s else (List.finRange 10).foldl (State.storeUsed used) s

/-- What storing the counts does not change: each activity's count itself, and the state beside the registers. -/
structure State.CountsAs (s t : State) : Prop where
  stored : t.Stored
  used : t.leashUsed = s.leashUsed
  leash : t.leash = s.leash
  hedge : t.hedge = s.hedge

theorem State.CountsAs.refl {s : State} (h : s.Stored) : s.CountsAs s := ⟨h, rfl, rfl, rfl⟩

theorem State.CountsAs.storeUsed {s t : State} (h : s.CountsAs t) (used : Vector (BitVec 17) 10) (a : Fin 10) :
    s.CountsAs (t.storeUsed used a) := by
  have hother : ∀ x, x ≠ Reg.TIME_LEASH_USED a → (t.storeUsed used a).reg x = t.reg x :=
    fun x hx => (State.reg_setReg h.stored _ _ _).trans (if_neg hx)
  refine ⟨h.stored.setReg _ _, ?_, h.leash, h.hedge⟩
  funext b u
  have hcount := State.leashUsed_congr (a := b) (hother _ (by dsimp only [Reg.TIME_LEASH_CEIL, Reg.TIME_LEASH_USED]; omega))
    (hother _ (by dsimp only [Reg.DEV_STRAP, Reg.TIME_LEASH_USED]; omega))
    (hother _ (by dsimp only [Reg.TIME_LEASH_HELD, Reg.TIME_LEASH_USED]; omega)) u
  rw [hcount, h.used]

theorem State.CountsAs.storeUsed_reg {s t : State} (h : s.CountsAs t) (used : Vector (BitVec 17) 10) (a : Fin 10) (x : Nat) :
    (t.storeUsed used a).reg x =
      if x = Reg.TIME_LEASH_USED a then BitVec.ofNat 32 (s.leashUsed a (used[a]).toNat) else t.reg x := by
  rw [← h.used]
  exact State.reg_setReg h.stored _ _ _

theorem State.countsAs_frameCounts {s : State} (h : s.Stored) (used : Vector (BitVec 17) 10) :
    s.CountsAs (s.frameCounts used) := by
  unfold State.frameCounts
  split
  case isTrue => exact .refl h
  case isFalse => exact List.foldlRecOn _ _ (.refl h) fun _ hu a _ => hu.storeUsed used a

theorem State.frameCounts_reg_other {s : State} (h : s.Stored) (used : Vector (BitVec 17) 10) {x : Nat}
    (hx : ∀ a : Fin 10, x ≠ Reg.TIME_LEASH_USED a) : (s.frameCounts used).reg x = s.reg x := by
  unfold State.frameCounts
  split
  case isTrue => rfl
  case isFalse =>
    exact foldl_reg_other (inv := s.CountsAs) (new := fun a _ => BitVec.ofNat 32 (s.leashUsed a (used[a]).toNat))
      (fun _ a hu => hu.storeUsed used a) (fun _ a hu => hu.storeUsed_reg used a) _ (.refl h) fun a _ => hx a

theorem State.frameCounts_reg_used {s : State} (h : s.Stored) (used : Vector (BitVec 17) 10)
    (hwhole : s.leash.partialFrame = false) (a : Fin 10) :
    (s.frameCounts used).reg (Reg.TIME_LEASH_USED a) = BitVec.ofNat 32 (s.leashUsed a (used[a]).toNat) := by
  have hinj : Function.Injective fun a : Fin 10 => Reg.TIME_LEASH_USED a := fun a b e => by
    dsimp only [Reg.TIME_LEASH_USED] at e
    omega
  unfold State.frameCounts
  rw [if_neg (Bool.eq_false_iff.mp hwhole)]
  exact foldl_reg_self (inv := s.CountsAs) (new := fun a _ => BitVec.ofNat 32 (s.leashUsed a (used[a]).toNat))
    (fun _ a hu => hu.storeUsed used a) (fun _ a hu => hu.storeUsed_reg used a) hinj
    (List.nodup_finRange 10) (.refl h) (List.mem_finRange a)

/-! ### The overruns of a frame (R82) -/

@[simp] theorem State.postOverrun_leash (s : State) (a : Fin 10) : (s.postOverrun a).leash = s.leash :=
  State.post_leash _ _ _ _

@[simp] theorem State.overrun_reg (s : State) (a : Fin 10) (x : Nat) :
    (s.overrun a).reg x = (s.inc (Reg.TIME_LEASH_OVR a) 15 0).reg x := by
  unfold State.overrun
  dsimp only
  split
  case isTrue => exact State.post_reg _ _ _ _ _
  case isFalse => rfl

@[simp] theorem State.overrun_heldPending (s : State) (a : Fin 10) :
    (s.overrun a).leash.heldPending = s.leash.heldPending := by
  unfold State.overrun
  dsimp only
  split
  case isTrue =>
    show (State.postOverrun _ a).leash.heldPending = _
    rw [State.postOverrun_leash]
    rfl
  case isFalse => rfl

/-- One activity at the frame's end: an overrun where it had a request pending while held. -/
def State.closeOne (s : State) (a : Fin 10) : State := if s.leash.heldPending.getLsbD a then s.overrun a else s

theorem State.closeOne_stored {s : State} (h : s.Stored) (a : Fin 10) : (s.closeOne a).Stored := by
  unfold State.closeOne
  split
  case isTrue => exact (State.overrun_keeps (K := 0) a (Nat.zero_and _) (Keeps.refl h)).stored
  case isFalse => exact h

theorem State.closeOne_heldPending (s : State) (a : Fin 10) : (s.closeOne a).leash.heldPending = s.leash.heldPending := by
  unfold State.closeOne
  split
  case isTrue => exact s.overrun_heldPending a
  case isFalse => rfl

/-- The counter of an activity after a frame in which the activities of `p` had a request pending while held. -/
def overrunCount (p : BitVec 10) (a : Fin 10) (w : Word) : Word := if p.getLsbD a then satInc w 15 0 else w

theorem State.closeOne_reg {s : State} (h : s.Stored) (a : Fin 10) (x : Nat) :
    (s.closeOne a).reg x =
      if x = Reg.TIME_LEASH_OVR a then overrunCount s.leash.heldPending a (s.reg x) else s.reg x := by
  unfold State.closeOne overrunCount
  split
  case isTrue =>
    rw [State.overrun_reg, State.reg_inc h]
    split
    case isTrue hx => rw [hx]
    case isFalse => rfl
  case isFalse => exact (ite_self _).symm

/-- The state in which the overruns of the frame are closed: its tables are canonical and its holds with a request pending are
`p`. -/
def State.Closing (p : BitVec 10) (s : State) : Prop := s.Stored ∧ s.leash.heldPending = p

theorem State.Closing.closeOne {p : BitVec 10} {s : State} (h : s.Closing p) (a : Fin 10) : (s.closeOne a).Closing p :=
  ⟨State.closeOne_stored h.1 a, (s.closeOne_heldPending a).trans h.2⟩

theorem State.Closing.closeOne_reg {p : BitVec 10} {s : State} (h : s.Closing p) (a : Fin 10) (x : Nat) :
    (s.closeOne a).reg x = if x = Reg.TIME_LEASH_OVR a then overrunCount p a (s.reg x) else s.reg x := by
  rw [State.closeOne_reg h.1, h.2]

theorem State.closeOverruns_reg_eq (s : State) (x : Nat) :
    s.closeOverruns.reg x = ((List.finRange 10).foldl State.closeOne s).reg x := rfl

theorem State.closeOverruns_reg_other {s : State} (h : s.Stored) {x : Nat} (hx : ∀ a : Fin 10, x ≠ Reg.TIME_LEASH_OVR a) :
    s.closeOverruns.reg x = s.reg x := by
  rw [State.closeOverruns_reg_eq]
  exact foldl_reg_other (inv := State.Closing s.leash.heldPending) (fun _ a hu => hu.closeOne a) (fun _ a hu => hu.closeOne_reg a) _
    ⟨h, rfl⟩ fun a _ => hx a

theorem State.closeOverruns_reg_ovr {s : State} (h : s.Stored) (a : Fin 10) :
    s.closeOverruns.reg (Reg.TIME_LEASH_OVR a) = overrunCount s.leash.heldPending a (s.reg (Reg.TIME_LEASH_OVR a)) := by
  have hinj : Function.Injective fun a : Fin 10 => Reg.TIME_LEASH_OVR a := fun a b e => by
    dsimp only [Reg.TIME_LEASH_OVR] at e
    omega
  rw [State.closeOverruns_reg_eq]
  exact foldl_reg_self (inv := State.Closing s.leash.heldPending) (fun _ a hu => hu.closeOne a) (fun _ a hu => hu.closeOne_reg a)
    hinj (List.nodup_finRange 10) ⟨h, rfl⟩ (List.mem_finRange a)

theorem State.closeOverruns_stored_hedge {s : State} (h : s.Stored) : s.closeOverruns.Stored ∧ s.closeOverruns.hedge = s.hedge :=
  have k : Keeps (2 ^ Part.hedge.num) s s.closeOverruns := State.closeOverruns_keeps (by decide) (Keeps.refl h)
  ⟨k.stored, k.part .hedge (by decide)⟩

/-! ### A frame boundary (R79 to R82, R147) -/

theorem State.frameEnd_reg {s : State} (h : s.Stored) (used : Vector (BitVec 17) 10) (x : Nat) :
    (s.frameEnd used).reg x = if x = Reg.TIME_LEASH_HELD then 0 else (s.frameCounts used).closeOverruns.reg x :=
  State.reg_setReg (State.closeOverruns_stored_hedge (State.countsAs_frameCounts h used).stored).1 _ _ _

theorem State.frameEnd_leash (s : State) (used : Vector (BitVec 17) 10) :
    (s.frameEnd used).leash.heldPending = 0 ∧ (s.frameEnd used).leash.partialFrame = false := ⟨rfl, rfl⟩

theorem State.frameEnd_snap {s : State} (h : s.Stored) (used : Vector (BitVec 17) 10) :
    (s.frameEnd used).hedge.snap = some s.hedge.last := by
  have hcounts := State.countsAs_frameCounts h used
  obtain ⟨-, hhedge⟩ := State.closeOverruns_stored_hedge hcounts.stored
  exact congrArg (fun g => some (Hedge.last g)) (hhedge.trans hcounts.hedge)

theorem State.frameEnd_stored {s : State} (h : s.Stored) (used : Vector (BitVec 17) 10) : (s.frameEnd used).Stored :=
  (State.frameEnd_keeps (K := 0) used (Nat.zero_and _) (Keeps.refl h)).stored

theorem State.frameEnd_reg_ovr {s : State} (h : s.Stored) (used : Vector (BitVec 17) 10) (a : Fin 10) :
    (s.frameEnd used).reg (Reg.TIME_LEASH_OVR a) = overrunCount s.leash.heldPending a (s.reg (Reg.TIME_LEASH_OVR a)) := by
  have hcounts := State.countsAs_frameCounts h used
  rw [State.frameEnd_reg h, if_neg (by dsimp only [Reg.TIME_LEASH_OVR, Reg.TIME_LEASH_HELD]; omega),
    State.closeOverruns_reg_ovr hcounts.stored, hcounts.leash,
    State.frameCounts_reg_other h used fun b => by dsimp only [Reg.TIME_LEASH_OVR, Reg.TIME_LEASH_USED]; omega]

theorem State.frameEnd_reg_used {s : State} (h : s.Stored) (used : Vector (BitVec 17) 10)
    (hwhole : s.leash.partialFrame = false) (a : Fin 10) :
    (s.frameEnd used).reg (Reg.TIME_LEASH_USED a) = BitVec.ofNat 32 (s.leashUsed a (used[a]).toNat) := by
  rw [State.frameEnd_reg h, if_neg (by dsimp only [Reg.TIME_LEASH_USED, Reg.TIME_LEASH_HELD]; omega),
    State.closeOverruns_reg_other (State.countsAs_frameCounts h used).stored
      (fun b => by dsimp only [Reg.TIME_LEASH_OVR, Reg.TIME_LEASH_USED]; omega),
    State.frameCounts_reg_used h used hwhole]

/-- The count stored for a held activity lies between its ceiling and 15 cycles above it. -/
theorem State.frameEnd_used_bounds {s : State} (h : s.Stored) (used : Vector (BitVec 17) 10)
    (hwhole : s.leash.partialFrame = false) {a : Fin 10} (hheld : s.flag Reg.TIME_LEASH_HELD a = true)
    (ha : a = 9 → s.testEn = true) :
    s.fld (Reg.TIME_LEASH_CEIL a) 16 0 ≤ ((s.frameEnd used).reg (Reg.TIME_LEASH_USED a)).toNat ∧
      ((s.frameEnd used).reg (Reg.TIME_LEASH_USED a)).toNat ≤ s.fld (Reg.TIME_LEASH_CEIL a) 16 0 + 15 := by
  have hbounds := State.leashUsed_of_held hheld (used[a]).toNat
  rw [State.leashCeil_of_budget ha] at hbounds
  have hceil : s.fld (Reg.TIME_LEASH_CEIL a) 16 0 < 2 ^ 17 := wfld_lt _ _ _
  rw [State.frameEnd_reg_used h used hwhole, BitVec.toNat_ofNat, Nat.mod_eq_of_lt (by omega)]
  exact hbounds

theorem State.shadowCheck_zero (s : State) : s.shadowCheck 0 = s := by
  unfold State.shadowCheck
  simp

/-- A failed shadow comparison writes no register of TIME and nothing of the Leash. -/
theorem State.shadowCheck_keeps_leash {s : State} (h : s.Stored) (shadow : BitVec 4) :
    (s.shadowCheck shadow).leash = s.leash ∧ ∀ b, b / 4096 = 2 → (s.shadowCheck shadow).reg b = s.reg b := by
  have k : Keeps (2 ^ Part.leash.num + 2 ^ (Part.block 2).num) s (s.shadowCheck shadow) :=
    State.shadowCheck_keeps shadow (by decide) (Keeps.refl h)
  exact ⟨k.part .leash (by decide), k.part (.block 2) (by decide)⟩

theorem exec_leashFrameBoundary {s : State} (hlive : s.live = true) (hawake : s.asleep = false) (x : FrameUse) :
    exec (.leashFrameBoundary x) s = .next ((s.frameEnd x.used).shadowCheck x.shadow) := by
  show execLeashFrameBoundary x s = _
  simp [execLeashFrameBoundary, hlive, hawake]

/-! ### The obligation -/

/-- Settles O14: a dialogue by `ptmWrite_reg` and `ptmEntered_reg`; a frame boundary by what `frameEnd` leaves in each register of
an activity, which the shadow comparison after it does not touch. -/
theorem timeAndLeash : Obligations.TimeAndLeash := by
  intro s h hlive hawake
  refine ⟨fun x hen hfull hlink hwake => ⟨⟨_, exec_ptmDialogue hlive hawake hen hfull hlink hwake true x, ?_⟩,
      exec_ptmDialogue hlive hawake hen hfull hlink hwake false x⟩,
    fun a ha => ⟨exec_leashCeilingReached hlive hawake ha false, _, exec_leashCeilingReached hlive hawake ha true, ?_, ?_⟩,
    fun hoff pending => exec_leashCeilingReached_debug hoff pending,
    fun x => ⟨_, exec_leashFrameBoundary hlive hawake x, ?_⟩⟩
  · have hreg {b : Nat} (hb : b ≠ Reg.TIME_STATUS ∧ b / 4096 = 2) :=
      (State.ptmWrite_reg h x hb.1).trans (State.ptmEntered_reg h x hb.2)
    have htime := State.ptmWrite_time h x
    exact ⟨hreg (by decide), hreg (by decide), hreg (by decide), hreg (by decide), hreg (by decide), hreg (by decide),
      congrArg TimeBase.ptmDone htime, congrArg TimeBase.ptmDue htime, State.ptmWrite_flag h x⟩
  · exact State.flag_setFlag_self h _ true (by omega)
  · exact getLsbD_or_twoPow _ a
  · obtain ⟨hleash, hsame⟩ := State.shadowCheck_keeps_leash (State.frameEnd_stored h x.used) x.shadow
    obtain ⟨hpending, hpartial⟩ := s.frameEnd_leash x.used
    have hovr (a : Fin 10) := hsame (Reg.TIME_LEASH_OVR a) (by dsimp only [Reg.TIME_LEASH_OVR]; omega)
    have hused (a : Fin 10) := hsame (Reg.TIME_LEASH_USED a) (by dsimp only [Reg.TIME_LEASH_USED]; omega)
    refine ⟨(hsame _ (by decide)).trans ((State.frameEnd_reg h _ _).trans (if_pos rfl)),
      (congrArg Leash.heldPending hleash).trans hpending, (congrArg Leash.partialFrame hleash).trans hpartial,
      fun hshadow => ?_, fun a => (hovr a).trans (State.frameEnd_reg_ovr h x.used a), fun hwhole a hheld ha => ?_⟩
    · rw [hshadow, State.shadowCheck_zero]
      exact State.frameEnd_snap h x.used
    · rw [hused a]
      exact State.frameEnd_used_bounds h x.used hwhole hheld ha

end Sys2Proof.Machine
end

section
/-! SUPPORT. Folds over distinct elements, numbers made bit by bit, and what the nodes and inputs of the key scanner read after a
store. -/

namespace Sys2Proof.Machine

/-! ### Folds in which one element counts -/

/-- A fold over distinct elements, one of which turns `P` into `Q`; the others keep both. -/
theorem foldl_of_once {α : Type} {f : State → α → State} {P Q : State → Prop} {a : α}
    (hbefore : ∀ u b, b ≠ a → P u → P (f u b)) (hat : ∀ u, P u → Q (f u a)) (hafter : ∀ u b, b ≠ a → Q u → Q (f u b))
    {l : List α} (hl : l.Nodup) (ha : a ∈ l) {s : State} (h : P s) : Q (l.foldl f s) := by
  obtain ⟨l₁, l₂, rfl⟩ := List.append_of_mem ha
  have hne₁ : ∀ b ∈ l₁, b ≠ a := fun b hb e => (List.nodup_append.mp hl).2.2 b hb a List.mem_cons_self e
  have hne₂ : ∀ b ∈ l₂, b ≠ a := fun b hb e => (List.nodup_cons.mp (List.nodup_append.mp hl).2.1).1 (e ▸ hb)
  rw [List.foldl_append, List.foldl_cons]
  exact List.foldlRecOn l₂ f (hat _ (List.foldlRecOn l₁ f h fun u hu b hb => hbefore u b (hne₁ b hb) hu))
    fun u hu b hb => hafter u b (hne₂ b hb) hu

/-! ### Bits of a number made by `bitsOf` -/

theorem bitsOf_succ (n : Nat) (f : Nat → Bool) : bitsOf (n + 1) f = if f n then bitsOf n f + 2 ^ n else bitsOf n f := by
  unfold bitsOf
  rw [List.range_succ, List.foldl_append]
  rfl

theorem bitsOf_lt (n : Nat) (f : Nat → Bool) : bitsOf n f < 2 ^ n := by
  induction n with
  | zero => exact Nat.one_pos
  | succ n ih =>
    rw [bitsOf_succ]
    split
    case isTrue => omega
    case isFalse => omega

theorem testBit_bitsOf (n : Nat) (f : Nat → Bool) (i : Nat) : (bitsOf n f).testBit i = (decide (i < n) && f i) := by
  induction n with
  | zero => simp [bitsOf]
  | succ n ih =>
    have hlt := bitsOf_lt n f
    rw [bitsOf_succ]
    rcases Nat.lt_trichotomy i n with hin | rfl | hni
    · have hbelow : (bitsOf n f + 2 ^ n).testBit i = (bitsOf n f).testBit i := by
        rw [Nat.add_comm, Nat.testBit_two_pow_add_gt hin]
      rw [apply_ite (fun v => Nat.testBit v i), hbelow, ite_self, ih]
      simp [hin, Nat.lt_succ_of_lt hin]
    · have htop : (bitsOf i f + 2 ^ i).testBit i = true := by
        rw [Nat.add_comm, Nat.testBit_two_pow_add_eq, Nat.testBit_lt_two_pow hlt]
        rfl
      cases hf : f i
      · simp [Nat.testBit_lt_two_pow hlt]
      · simp [htop]
    · have hpow : 2 ^ (n + 1) ≤ 2 ^ i := Nat.pow_le_pow_right (by decide) hni
      have hout : (if f n then bitsOf n f + 2 ^ n else bitsOf n f) < 2 ^ i := bitsOf_succ n f ▸ (bitsOf_lt (n + 1) f).trans_le hpow
      rw [Nat.testBit_lt_two_pow hout]
      simp [show ¬i < n + 1 by omega]

/-! ### Nodes and inputs after a store -/

theorem State.key_eq (s : State) (n : Fin 256) : s.key n = s.keys.nodes[n] := by
  simp [State.key, Vector.getD]

theorem State.key_congr {s t : State} (h : t.keys.nodes = s.keys.nodes) (n : Nat) : t.key n = s.key n := by
  unfold State.key
  rw [h]

@[simp] theorem State.key_setKey_self (s : State) (n : Fin 256) (x : KeyNode) : (s.setKey n x).key n = x := by
  rw [State.key_eq]
  exact Vector.getElem_setIfInBounds_self n.isLt

theorem State.key_setKey_other (s : State) {n m : Fin 256} (x : KeyNode) (h : m ≠ n) : (s.setKey n x).key m = s.key m := by
  rw [State.key_eq, State.key_eq]
  exact Vector.getElem_setIfInBounds_ne m.isLt fun e => h (Fin.ext e.symm)

theorem State.di_eq (s : State) (n : Fin 16) : s.di n = s.keys.di[n] := by
  simp [State.di, Vector.getD]

@[simp] theorem State.setDi_di_self (s : State) (n : Fin 16) (x : DirectIn) : (s.setDi n x).keys.di[n] = x :=
  Vector.getElem_set_self n.isLt

theorem State.setDi_di_other (s : State) {n m : Fin 16} (x : DirectIn) (h : m ≠ n) : (s.setDi n x).keys.di[m] = s.keys.di[m] :=
  Vector.getElem_set_ne n.isLt m.isLt fun e => h (Fin.ext e.symm)

end Sys2Proof.Machine
end

section
/-! SUPPORT. The key matrix (04_key_matrix.md, R89 to R108): what a wake in a sleep leaves, what the matrix's decisions depend on, a
scan node by node, and a Kennel scan in which one node reads closed. -/

namespace Sys2Proof.Machine

/-! ### A wake source in a sleep (R463, R466) -/

theorem State.wakeDetect_of_enabled {s : State} {code : Nat} (h : s.flag Reg.PMC_WAKE_EN (code - 1) = true) (detail : Nat) :
    s.wakeDetect code detail = s.wakeFire code detail := by
  simp [State.wakeDetect, h]

/-- In a sleep a source is held with the PT of its detection; a Plan start that waits for it falls due in the sequencer. -/
theorem State.wakeFire_of_sleep {s : State} (h : s.inSleep = true ∨ s.inDeepSleep = true) (code detail : Nat) :
    ∃ q, s.wakeFire code detail = State.setFlag { s with
      seq := q, pmc.fired := s.pmc.fired ++ [(s.ptNow, code, detail)] } Reg.PMC_WAKE_SRC (15 + code) true := by
  have hstate : s.pmc.state = .sleep ∨ s.pmc.state = .deepSleep := h.imp of_decide_eq_true of_decide_eq_true
  unfold State.wakeFire
  split
  case isTrue waits =>
    refine ⟨{ s.seq with startDue := true, restGroups := BitVec.ofNat 8 (s.fld Reg.SEQ_CTRL 15 8) }, ?_⟩
    rcases hstate with hsleep | hdeep
    · simp only [hsleep]
      rfl
    · simp only [hdeep]
      rfl
  case isFalse =>
    refine ⟨s.seq, ?_⟩
    rcases hstate with hsleep | hdeep
    · simp only [hsleep]
    · simp only [hdeep]

theorem State.wakeFire_wokenBy {s : State} (hs : s.Stored) (h : s.inSleep = true ∨ s.inDeepSleep = true) {code : Nat}
    (hcode : code ≤ 16) (detail : Nat) : s.WokenBy (s.wakeFire code detail) code detail := by
  obtain ⟨q, hq⟩ := State.wakeFire_of_sleep h code detail
  rw [hq]
  exact ⟨rfl, State.flag_setFlag_self (hs.congr rfl rfl rfl) _ true (by omega)⟩

theorem State.wakeFire_keys {s : State} (h : s.inSleep = true ∨ s.inDeepSleep = true) (code detail : Nat) :
    (s.wakeFire code detail).keys = s.keys := by
  obtain ⟨q, hq⟩ := State.wakeFire_of_sleep h code detail
  rw [hq]
  rfl

/-- What leaves the PMC and WAKE_SRC leaves what has woken the controller. -/
theorem State.WokenBy.congr {s t u : State} {code detail : Nat} (h : s.WokenBy t code detail) (hpmc : u.pmc = t.pmc)
    (hsrc : u.reg Reg.PMC_WAKE_SRC = t.reg Reg.PMC_WAKE_SRC) : s.WokenBy u code detail :=
  ⟨(congrArg Pmc.fired hpmc).trans h.fired, (State.flag_congr hsrc _).trans h.pending⟩

/-- What has woken the controller depends on where it started by the sources held and the PT. -/
theorem State.WokenBy.of_start {s s' t : State} {code detail : Nat} (h : s'.WokenBy t code detail) (hpmc : s'.pmc = s.pmc)
    (hnow : s'.ptNow = s.ptNow) : s.WokenBy t code detail :=
  ⟨by rw [h.fired, hpmc, hnow], h.pending⟩

/-- The tick of a matrix wake is kept for the first resumed scan (R108). -/
def State.wakeNoted (s : State) : State := { s with keys.wakePt := some (s.keys.wakePt.getD s.ptNow) }

theorem State.matrixWake_of_enabled {s : State} (h : s.flag Reg.PMC_WAKE_EN 1 = true) :
    s.matrixWake = s.wakeNoted.wakeFire 0x02 0 := by
  unfold State.matrixWake
  rw [if_pos h]
  exact State.wakeDetect_of_enabled h 0

theorem State.matrixWake_of_disabled {s : State} (h : s.flag Reg.PMC_WAKE_EN 1 = false) : s.matrixWake = s :=
  if_neg (Bool.eq_false_iff.mp h)

theorem State.matrixWake_wokenBy {s : State} (hs : s.Stored) (h : s.inSleep = true ∨ s.inDeepSleep = true)
    (hen : s.flag Reg.PMC_WAKE_EN 1 = true) : s.WokenBy s.matrixWake 0x02 0 := by
  rw [State.matrixWake_of_enabled hen]
  exact (State.wakeFire_wokenBy (s := s.wakeNoted) (code := 0x02) (hs.congr rfl rfl rfl) h (by decide) 0).of_start rfl rfl

theorem State.matrixWake_keys {s : State} (h : s.inSleep = true ∨ s.inDeepSleep = true)
    (hen : s.flag Reg.PMC_WAKE_EN 1 = true) :
    s.matrixWake.keys = { s.keys with wakePt := some (s.keys.wakePt.getD s.ptNow) } := by
  rw [State.matrixWake_of_enabled hen]
  exact State.wakeFire_keys (s := s.wakeNoted) h 2 0

/-! ### The any-key detector (R107) -/

theorem exec_anyKeyDetect_of_watched {s : State} {k : Fin 16} (hdeep : s.inDeepSleep = true) (hwatched : s.ksWatched k = true) :
    exec (.anyKeyDetect k) s = .next s.matrixWake := by
  show execAnyKeyDetect k s = _
  simp [execAnyKeyDetect, hdeep, hwatched]

theorem exec_anyKeyDetect_of_unwatched {s : State} {k : Fin 16} (h : s.inDeepSleep = false ∨ s.ksWatched k = false) :
    exec (.anyKeyDetect k) s = .next s := by
  show execAnyKeyDetect k s = _
  rcases h with hdeep | hwatched
  · simp [execAnyKeyDetect, hdeep]
  · simp [execAnyKeyDetect, hwatched]

/-! ### Stuck nodes (R103) -/

/-- Node `n` becomes stuck: masked, counted and posted. -/
def State.stick (s : State) (n : Fin 256) : State :=
  ((s.setFlag (Reg.KEYS_STUCK (n / 32)) (keyBit n) true).inc Reg.KEYS_STUCK_CNT 15 0).postStuck 1 n

theorem exec_stuckTimeout_of_held {s : State} {n : Fin 256} (hrole : s.keyRole n ≠ 0) (hstuck : s.keyStuck n = false)
    (hheld : (s.key n).accepted = true ∨ s.keys.withheld n = true ∨ s.keys.inJudgement n = true) :
    exec (.stuckTimeout n) s = .next (s.stick n) := by
  show execStuckTimeout n s = _
  have hor : ((s.key n).accepted || s.keys.withheld n || s.keys.inJudgement n) = true := by
    simpa [or_assoc] using hheld
  simp [execStuckTimeout, State.stick, hrole, hstuck, hor]

theorem exec_stuckTimeout_of_free {s : State} {n : Fin 256} (haccepted : (s.key n).accepted = false)
    (hwithheld : s.keys.withheld n = false) (hjudged : s.keys.inJudgement n = false) : exec (.stuckTimeout n) s = .next s := by
  show execStuckTimeout n s = _
  simp [execStuckTimeout, haccepted, hwithheld, hjudged]

@[simp] theorem State.postStuck_keys (s : State) (kind n : Nat) : (s.postStuck kind n).keys = s.keys := State.post_keys _ _ _ _

@[simp] theorem State.postStuck_hedge (s : State) (kind n : Nat) : (s.postStuck kind n).hedge = s.hedge := State.post_hedge _ _ _ _

@[simp] theorem State.postStuck_reg (s : State) (kind n x : Nat) : (s.postStuck kind n).reg x = s.reg x := State.post_reg _ _ _ _ _

theorem keyBit_lt (n : Nat) : keyBit n < 32 := by
  unfold keyBit
  omega

/-- A node's place in the images of 256 nodes, and the node of a place. -/
theorem node_eq_of_place {n m : Nat} (hword : n / 32 = m / 32) (hbit : keyBit n = keyBit m) : n = m := by
  unfold keyBit at hbit
  omega

theorem State.stick_effect {s : State} (h : s.Stored) (n : Fin 256) :
    (s.stick n).keyStuck n = true ∧ (s.stick n).reg Reg.KEYS_STUCK_CNT = satInc (s.reg Reg.KEYS_STUCK_CNT) 15 0 ∧
      (s.stick n).keys = s.keys ∧ (s.stick n).hedge = s.hedge := by
  have hapart : Reg.KEYS_STUCK (n / 32) ≠ Reg.KEYS_STUCK_CNT := by
    dsimp only [Reg.KEYS_STUCK, Reg.KEYS_STUCK_CNT]
    omega
  have hset := h.setFlag (Reg.KEYS_STUCK (n / 32)) (keyBit n) true
  refine ⟨?_, ?_, State.postStuck_keys _ _ _, State.postStuck_hedge _ _ _⟩
  · refine (State.flag_congr ((State.postStuck_reg _ _ _ _).trans ?_) _).trans
      (State.flag_setFlag_self h _ true (keyBit_lt n))
    rw [State.reg_inc hset, if_neg hapart]
  · unfold State.stick
    rw [State.postStuck_reg, State.reg_inc hset, if_pos rfl, State.reg_setFlag h, if_neg hapart.symm]

/-! ### What the matrix's decisions read -/

/-- The registers that say which nodes are read, and how often a reading must repeat (R47, R88, R91, R92, R94). -/
def matrixRegs : List Nat :=
  [Reg.DEV_STAGE, Reg.KEYS_CTRL, Reg.KEYS_DEBOUNCE, Reg.KEYS_LINE_FAULT] ++ (List.range 64).map Reg.KEYS_NODE_CFG

/-- Nothing has changed that decides which nodes are read and what a count or a withholding means. -/
structure State.MatrixAs (s t : State) : Prop where
  stored : t.Stored
  regs : ∀ x ∈ matrixRegs, t.reg x = s.reg x
  dev : t.dev = s.dev
  rects : t.keys.rects = s.keys.rects

theorem State.MatrixAs.refl {s : State} (h : s.Stored) : s.MatrixAs s := ⟨h, fun _ _ => rfl, rfl, rfl⟩

section MatrixAs

variable {s t : State} (h : s.MatrixAs t)
include h

theorem State.MatrixAs.trans {u : State} (h' : t.MatrixAs u) : s.MatrixAs u :=
  ⟨h'.stored, fun x hx => (h'.regs x hx).trans (h.regs x hx), h'.dev.trans h.dev, h'.rects.trans h.rects⟩

theorem State.MatrixAs.nodeCfg (n : Fin 256) : t.reg (Reg.KEYS_NODE_CFG (n / 4)) = s.reg (Reg.KEYS_NODE_CFG (n / 4)) :=
  h.regs _ (List.mem_append_right _ (List.mem_map_of_mem (List.mem_range.mpr (by omega))))

theorem State.MatrixAs.keyRole (n : Fin 256) : t.keyRole n = s.keyRole n := State.fld_congr (h.nodeCfg n) _ _

theorem State.MatrixAs.keyWake (n : Fin 256) : t.keyWake n = s.keyWake n := by
  unfold State.keyWake
  rw [h.keyRole, State.flag_congr (h.nodeCfg n)]

theorem State.MatrixAs.keyLive (n : Fin 256) : t.keyLive n = s.keyLive n := by
  have hline : ∀ l, t.lineFailed l = s.lineFailed l := State.flag_congr (h.regs _ (by decide))
  unfold State.keyLive
  rw [h.keyRole, hline, hline]

theorem State.MatrixAs.keyD (role : Nat) : t.keyD role = s.keyD role := by
  have hstage : t.fullService = s.fullService := by
    unfold State.fullService
    rw [h.dev, State.flag_congr (h.regs _ (by decide))]
  have hperiod : t.keyPeriod = s.keyPeriod := by
    unfold State.keyPeriod
    rw [hstage, State.fld_congr (h.regs _ (by decide))]
  unfold State.keyD
  rw [hperiod, State.fld_congr (h.regs _ (by decide)), State.fld_congr (h.regs _ (by decide))]

theorem State.MatrixAs.withheld (n : Nat) : t.keys.withheld n = s.keys.withheld n := by
  unfold Keys.withheld
  rw [h.rects]

theorem State.MatrixAs.inJudgement (n : Nat) : t.keys.inJudgement n = s.keys.inJudgement n := by
  unfold Keys.inJudgement
  rw [h.rects]

theorem State.MatrixAs.setKey (n : Nat) (y : KeyNode) : s.MatrixAs (t.setKey n y) :=
  ⟨h.stored.congr rfl rfl rfl, h.regs, h.dev, h.rects⟩

end MatrixAs

/-! ### Unmasking (R105) -/

theorem State.unstick_eq (s : State) (n : Fin 256) :
    s.unstick n = (s.setFlag (Reg.KEYS_STUCK (n / 32)) (keyBit n) false).postStuck 2 n := rfl

theorem State.unstick_reg {s : State} (h : s.Stored) (n : Fin 256) {x : Nat} (hx : x ≠ Reg.KEYS_STUCK (n / 32)) :
    (s.unstick n).reg x = s.reg x := by
  rw [State.unstick_eq, State.postStuck_reg, State.reg_setFlag h, if_neg hx]

theorem State.unstick_keys (s : State) (n : Fin 256) : (s.unstick n).keys = s.keys := State.postStuck_keys _ _ _

theorem State.unstick_keyStuck_other {s : State} (h : s.Stored) {n m : Fin 256} (hne : m ≠ n) :
    (s.unstick n).keyStuck m = s.keyStuck m := by
  refine (State.flag_congr (State.postStuck_reg _ _ _ _) _).trans (State.flag_setFlag_other h _ ?_)
  by_contra hsame
  obtain ⟨hreg, hbit⟩ := not_or.mp hsame
  have hword : m.val / 32 = n.val / 32 := by
    have := not_not.mp hreg
    dsimp only [Reg.KEYS_STUCK] at this
    omega
  exact hne (Fin.ext (node_eq_of_place hword (not_not.mp hbit)))

theorem State.matrixAs_unstick {s : State} (h : s.Stored) (n : Fin 256) : s.MatrixAs (s.unstick n) := by
  have hapart : ∀ k < 8, Reg.KEYS_STUCK k ∉ matrixRegs := by decide
  have k : Keeps (2 ^ Part.dev.num) s (s.unstick n) := State.unstick_keeps n (by decide) (Keeps.refl h)
  refine ⟨k.stored, fun x hx => State.unstick_reg h n fun e => ?_, k.part .dev (by decide), ?_⟩
  · exact hapart _ (by omega) (e ▸ hx)
  · rw [State.unstick_keys]

/-! ### The source of a matrix wake while awake (R463) -/

theorem State.ringUndoze_reg_dev {s : State} (h : s.Stored) {x : Nat} (hblock : x / 4096 = 0) (hx : x ≠ Reg.DEV_DOZE_CNT) :
    s.ringUndoze.reg x = s.reg x := by
  have k : Keeps (2 ^ (Part.block 0).num) s s.enterPolling := State.enterPolling_keeps (by decide) (Keeps.refl h)
  have hpolling := k.part (.block 0) (by decide) x hblock
  unfold State.ringUndoze
  split
  case h_1 => rw [State.reg_inc k.stored, if_neg hx, hpolling]
  case h_2 => exact hpolling
  case h_3 => rfl

theorem State.releaseBlocks_eq (s : State) : ∃ p b, s.releaseBlocks = State.ringUndoze { s with pmc := p, bist := b } :=
  ⟨_, _, rfl⟩

/-- An aborted entry is recorded, with no register of DEV, before the blocks are released. -/
theorem State.abortEntry_eq {s : State} (h : s.Stored) (refusers : List (Fin 16 × Nat)) (hstate : s.pmc.state = .quiesce) :
    ∃ u : State, Keeps (2 ^ (Part.block 0).num) s u ∧ s.abortEntry refusers = u.releaseBlocks.pmcIrq 1 := by
  refine ⟨_, ?_, if_neg (not_not_intro hstate)⟩
  refine Keeps.set_pmc (by decide) (State.postPower_keeps _ _ _ _ _ _ _ _ (by decide) (State.inc_keeps _ _ (by decide) ?_))
  refine Keeps.foldl _ _ (fun u e hu => State.logRefusal_keeps _ _ (by decide) hu) ?_
  refine Keeps.foldl_range 4 _ (fun u k hk hu => State.setReg_keeps _ ?_ hu) (State.setReg_keeps _ (by decide) (Keeps.refl h))
  exact keeps_block (W := 2 ^ 33) (by decide) 1 (by dsimp only [Reg.PMC_REFUSE_REASON]; omega) (by decide)

theorem State.abortEntry_stage {s : State} (h : s.Stored) (refusers : List (Fin 16 × Nat)) :
    (s.abortEntry refusers).reg Reg.DEV_STAGE = s.reg Reg.DEV_STAGE := by
  by_cases hstate : s.pmc.state = .quiesce
  · obtain ⟨u, hu, e⟩ := State.abortEntry_eq h refusers hstate
    have hreleased : u.releaseBlocks.Stored := (State.releaseBlocks_keeps (K := 0) (by decide) (Keeps.refl hu.stored)).stored
    rw [e, State.pmcIrq_sameRegsBut hreleased _ _ (by decide)]
    refine Eq.trans ?_ (hu.part (.block 0) (by decide) _ (by decide))
    obtain ⟨p, b, hblocks⟩ := u.releaseBlocks_eq
    have hawake : State.Stored { u with pmc := p, bist := b } := hu.stored.congr rfl rfl rfl
    exact hblocks ▸ State.ringUndoze_reg_dev (x := Reg.DEV_STAGE) hawake (by decide) (by decide)
  · exact congrArg (State.reg · _) (if_pos hstate)

theorem State.wakeFire_stage {s : State} (h : s.Stored) (code detail : Nat) :
    (s.wakeFire code detail).reg Reg.DEV_STAGE = s.reg Reg.DEV_STAGE := by
  have hset {u : State} (hu : u.Stored) {a : Nat} (ha : Reg.DEV_STAGE ≠ a) (i : Nat) :
      (u.setFlag a i true).reg Reg.DEV_STAGE = u.reg Reg.DEV_STAGE := by
    rw [State.reg_setFlag hu, if_neg ha]
  unfold State.wakeFire
  generalize hw : (if s.seq.waitWake && !protective code detail then
      { s with seq.startDue := true, seq.restGroups := BitVec.ofNat 8 (s.fld Reg.SEQ_CTRL 15 8) } else s : State) = u
  have hsame : u.Stored ∧ u.reg Reg.DEV_STAGE = s.reg Reg.DEV_STAGE := by
    rw [← hw]
    split
    case isTrue => exact ⟨h.congr rfl rfl rfl, rfl⟩
    case isFalse => exact ⟨h, rfl⟩
  obtain ⟨hu, hstage⟩ := hsame
  rw [← hstage]
  dsimp only
  split
  case h_1 => exact hset hu (by decide) _
  case h_2 => exact hset hu (by decide) _
  case h_3 => exact (State.abortEntry_stage (hu.setFlag _ _ _) _).trans (hset hu (by decide) _)
  case h_4 => rfl
  case h_5 => exact hset (hu.congr rfl rfl rfl) (by decide) _
  case h_6 => exact hset (hu.congr rfl rfl rfl) (by decide) _
  case h_7 => exact hset hu (by decide) _

theorem State.matrixAs_wakeDetect {s : State} (h : s.Stored) (code detail : Nat) : s.MatrixAs (s.wakeDetect code detail) := by
  have k : Keeps (2 ^ Part.dev.num + 2 ^ Part.keys.num + 2 ^ (Part.block 3).num) s (s.wakeDetect code detail) :=
    State.wakeDetect_keeps code detail (by decide) (Keeps.refl h)
  have hblock : ∀ x ∈ matrixRegs, x = Reg.DEV_STAGE ∨ x / 4096 = 3 := by decide
  refine ⟨k.stored, fun x hx => ?_, k.part .dev (by decide), ?_⟩
  · rcases hblock x hx with rfl | hkeys
    · unfold State.wakeDetect
      split
      case isTrue => rfl
      case isFalse => exact State.wakeFire_stage h code detail
    · exact k.part (.block 3) (by decide) x hkeys
  · rw [show (s.wakeDetect code detail).keys = s.keys from k.part .keys (by decide)]

/-! ### Debounce (R94, R95, R101) -/

theorem State.postKey_keys (s : State) (n : Nat) (st resolved woke : Bool) (p dec : Time) :
    (s.postKey n st resolved woke p dec).keys = s.keys := by
  unfold State.postKey
  dsimp only
  split
  case isTrue => rfl
  case isFalse => exact State.postAt_keys _ _ _ _ _

theorem State.matrixAs_postKey {s : State} (h : s.Stored) (n : Nat) (st resolved woke : Bool) (p dec : Time) :
    s.MatrixAs (s.postKey n st resolved woke p dec) := by
  have k : Keeps (2 ^ Part.dev.num + 2 ^ Part.keys.num + 2 ^ (Part.block 0).num + 2 ^ (Part.block 3).num) s
    (s.postKey n st resolved woke p dec) := State.postKey_keeps n st resolved woke p dec (by decide) (Keeps.refl h)
  have hblock : ∀ x ∈ matrixRegs, x / 4096 = 0 ∨ x / 4096 = 3 := by decide
  refine ⟨k.stored, fun x hx => ?_, k.part .dev (by decide), by rw [State.postKey_keys]⟩
  rcases hblock x hx with hdev | hkeys
  · exact k.part (.block 0) (by decide) x hdev
  · exact k.part (.block 3) (by decide) x hkeys

theorem State.matrixAs_keySource {s : State} (h : s.Stored) (n : Nat) (closed woke : Bool) :
    s.MatrixAs (s.keySource n closed woke) := by
  unfold State.keySource
  split
  case isTrue => exact State.matrixAs_wakeDetect h _ _
  case isFalse => exact .refl h

theorem State.keySource_keys {s : State} (h : s.Stored) (n : Nat) (closed woke : Bool) :
    (s.keySource n closed woke).keys = s.keys := by
  have k : Keeps (2 ^ Part.keys.num) s (s.keySource n closed woke) :=
    State.keySource_keeps n closed woke (by decide) (Keeps.refl h)
  exact k.part .keys (by decide)

/-- Node `n` after one scan's reading: it has read its accepted state, it counts an opposite reading, its safety slot is held while
it is withheld, or it is accepted. -/
def State.debounced (s : State) (n : Nat) (closed : Bool) (sample : Time) : KeyNode :=
  let d := s.keyD (s.keyRole n)
  let hold := s.keys.withheld n || s.keys.inJudgement n
  let y : KeyNode := { s.key n with openRun := if closed then 0 else (s.key n).openRun + 1 }
  if closed = y.accepted then
    let k := min d (y.settled + 1)
    { y with count := 0, settled := k, firstPt := if d ≤ k && !hold then none else y.firstPt, woke := y.woke && !(decide (d ≤ k)) }
  else
    let y : KeyNode := { y with count := min d (y.count + 1), settled := 0, firstPt := some (y.firstPt.getD sample) }
    if y.count < d then y
    else if hold then { y with slotHeld := y.slotHeld || s.keyRole n = 2 }
    else { y with accepted := closed, count := 0, settled := 0, firstPt := none, slotHeld := false,
                  closePt := if closed then y.firstPt.getD sample else y.closePt, woke := false }

/-- A reading changes one node; an accepted change is posted, and may be a wake source (R95, R463). -/
theorem State.debounce_eq (s : State) (n : Nat) (closed : Bool) (sample : Time) :
    s.debounce n closed sample = s.setKey n (s.debounced n closed sample) ∨
    ∃ p woke, s.debounce n closed sample =
      ((s.setKey n (s.debounced n closed sample)).postKey n closed false woke p sample).keySource n closed woke := by
  unfold State.debounce State.debounced
  dsimp only
  split
  case isTrue same => exact .inl rfl
  case isFalse opposite =>
    split
    case isTrue counting => exact .inl rfl
    case isFalse counted =>
      split
      case isTrue held => exact .inl rfl
      case isFalse free => exact .inr ⟨_, _, rfl⟩

theorem State.debounce_keys {s : State} (h : s.Stored) (n : Nat) (closed : Bool) (sample : Time) :
    (s.debounce n closed sample).keys = (s.setKey n (s.debounced n closed sample)).keys := by
  rcases s.debounce_eq n closed sample with e | ⟨p, woke, e⟩
  · rw [e]
  · have hset : (s.setKey n (s.debounced n closed sample)).Stored := h.congr rfl rfl rfl
    rw [e, State.keySource_keys (State.matrixAs_postKey hset _ _ _ _ _ _).stored, State.postKey_keys]

theorem State.matrixAs_debounce {s : State} (h : s.Stored) (n : Nat) (closed : Bool) (sample : Time) :
    s.MatrixAs (s.debounce n closed sample) := by
  have hset : s.MatrixAs (s.setKey n (s.debounced n closed sample)) := (State.MatrixAs.refl h).setKey n _
  rcases s.debounce_eq n closed sample with e | ⟨p, woke, e⟩
  · rw [e]
    exact hset
  · have hpost := hset.trans (State.matrixAs_postKey hset.stored n closed false woke p sample)
    rw [e]
    exact hpost.trans (State.matrixAs_keySource hpost.stored n closed woke)

theorem State.MatrixAs.debounced {s t : State} (h : s.MatrixAs t) {n : Fin 256} (hkey : t.key n = s.key n) (closed : Bool)
    (sample : Time) : t.debounced n closed sample = s.debounced n closed sample := by
  unfold State.debounced
  rw [hkey, h.keyRole, h.keyD, h.withheld, h.inJudgement]

theorem State.key_debounce_self {s : State} (h : s.Stored) (n : Fin 256) (closed : Bool) (sample : Time) :
    (s.debounce n closed sample).key n = s.debounced n closed sample :=
  (State.key_congr (congrArg Keys.nodes (State.debounce_keys h n closed sample)) n).trans (State.key_setKey_self _ _ _)

theorem State.key_debounce_other {s : State} (h : s.Stored) {n m : Fin 256} (hne : m ≠ n) (closed : Bool) (sample : Time) :
    (s.debounce n closed sample).key m = s.key m :=
  (State.key_congr (congrArg Keys.nodes (State.debounce_keys h n closed sample)) m).trans (State.key_setKey_other _ _ hne)

/-! ### One node of a scan (R89) -/

theorem State.matrixAs_unstickScan {s : State} (h : s.Stored) (n : Fin 256) : s.MatrixAs (s.unstickScan n) := by
  unfold State.unstickScan
  split
  case isTrue => exact State.matrixAs_unstick h n
  case isFalse => exact .refl h

theorem State.unstickScan_keys (s : State) (n : Fin 256) : (s.unstickScan n).keys = s.keys := by
  unfold State.unstickScan
  split
  case isTrue => exact State.unstick_keys _ _
  case isFalse => rfl

/-- The reading of node `n` among those of all drive lines. -/
abbrev keyRead (closed : Vector (BitVec 16) 16) (n : Nat) : Bool := (closed.getD (n / 16) 0).getLsbD (n % 16)

/-- One node's part in a scan. -/
def State.scanNode (closed : Vector (BitVec 16) 16) (sample : Nat → Time) (s : State) (n : Fin 256) : State :=
  if s.keyLive n then (s.debounce n (keyRead closed n) (sample n)).unstickScan n else s

section ScanNode

variable {closed : Vector (BitVec 16) 16} {sample : Nat → Time} {s : State}

theorem State.scanNode_of_live (h : s.Stored) {n : Fin 256} (hlive : s.keyLive n = true) :
    (State.scanNode closed sample s n).key n = s.debounced n (keyRead closed n) (sample n) := by
  unfold State.scanNode
  rw [if_pos hlive, State.key_congr (congrArg Keys.nodes (State.unstickScan_keys _ _)), State.key_debounce_self h]

theorem State.scanNode_of_not_live {n : Fin 256} (hlive : s.keyLive n = false) : State.scanNode closed sample s n = s :=
  if_neg (Bool.eq_false_iff.mp hlive)

theorem State.key_scanNode_other (h : s.Stored) {n m : Fin 256} (hne : m ≠ n) :
    (State.scanNode closed sample s n).key m = s.key m := by
  unfold State.scanNode
  split
  case isTrue => rw [State.key_congr (congrArg Keys.nodes (State.unstickScan_keys _ _)), State.key_debounce_other h hne]
  case isFalse => rfl

theorem State.matrixAs_scanNode (h : s.Stored) (n : Fin 256) : s.MatrixAs (State.scanNode closed sample s n) := by
  unfold State.scanNode
  split
  case isTrue =>
    have hdebounce := State.matrixAs_debounce h n (keyRead closed n) (sample n)
    exact hdebounce.trans (State.matrixAs_unstickScan hdebounce.stored n)
  case isFalse => exact .refl h

/-- All nodes of a scan. -/
def State.scanNodes (closed : Vector (BitVec 16) 16) (sample : Nat → Time) (s : State) : State :=
  (List.finRange 256).foldl (State.scanNode closed sample) s

/-- A node is changed by its own part of the scan alone, as the state before the scan says. -/
theorem State.key_scanNodes (h : s.Stored) (n : Fin 256) :
    (State.scanNodes closed sample s).key n =
      if s.keyLive n then s.debounced n (keyRead closed n) (sample n) else s.key n := by
  refine (foldl_of_once (f := State.scanNode closed sample) (a := n) (P := fun u => s.MatrixAs u ∧ u.key n = s.key n)
    (Q := fun u => u.Stored ∧ u.key n = if s.keyLive n then s.debounced n (keyRead closed n) (sample n) else s.key n)
    (fun u m hne hu => ?_) (fun u hu => ?_) (fun u m hne hu => ?_) (List.nodup_finRange 256) (List.mem_finRange n)
    ⟨.refl h, rfl⟩).2
  · obtain ⟨has, hkey⟩ := hu
    exact ⟨has.trans (State.matrixAs_scanNode has.stored m), (State.key_scanNode_other has.stored hne.symm).trans hkey⟩
  · obtain ⟨has, hkey⟩ := hu
    refine ⟨(State.matrixAs_scanNode has.stored n).stored, ?_⟩
    have hlive := has.keyLive n
    split
    case isTrue live => rw [State.scanNode_of_live has.stored (hlive.trans live), has.debounced hkey]
    case isFalse dead => rw [State.scanNode_of_not_live (hlive.trans (Bool.eq_false_iff.mpr dead)), hkey]
  · obtain ⟨hst, hkey⟩ := hu
    exact ⟨(State.matrixAs_scanNode hst m).stored, (State.key_scanNode_other hst hne.symm).trans hkey⟩

end ScanNode

/-! ### The images of KEYS.STATE and KEYS.WITHHELD (R115) -/

/-- Word `w` of an image of 256 nodes. -/
def nodeWord (f : Nat → Bool) (w : Nat) : Word := BitVec.ofNat 32 (bitsOf 32 fun b => f (32 * w + 16 * (b / 16) + b % 16))

theorem bit_nodeWord (f : Nat → Bool) (n : Nat) : bit (nodeWord f (n / 32)) (keyBit n) = f n := by
  have hplace : 32 * (n / 32) + 16 * (keyBit n / 16) + keyBit n % 16 = n := by
    unfold keyBit
    omega
  unfold bit nodeWord
  rw [BitVec.getLsbD_ofNat, testBit_bitsOf, hplace]
  simp [keyBit_lt]

/-- One word of both images. -/
def State.imageWord (s : State) (w : Nat) : State :=
  (s.setReg (Reg.KEYS_STATE w) (nodeWord (fun n => (s.key n).accepted) w)).setReg (Reg.KEYS_WITHHELD w)
    (nodeWord (fun n => s.keys.withheld n || s.keys.inJudgement n) w)

theorem State.keyImages_eq (s : State) : s.keyImages = (List.range 8).foldl State.imageWord s := rfl

theorem State.imageWord_stored {s : State} (h : s.Stored) (w : Nat) : (s.imageWord w).Stored := (h.setReg _ _).setReg _ _

theorem State.imageWord_reg_state {s : State} (h : s.Stored) (w : Nat) {v : Nat} (hv : v < 8) :
    (s.imageWord w).reg (Reg.KEYS_STATE v) =
      if v = w then nodeWord (fun n => (s.key n).accepted) w else s.reg (Reg.KEYS_STATE v) := by
  have hinj : Reg.KEYS_STATE v = Reg.KEYS_STATE w ↔ v = w := by
    dsimp only [Reg.KEYS_STATE]
    omega
  have hapart : Reg.KEYS_STATE v ≠ Reg.KEYS_WITHHELD w := by
    dsimp only [Reg.KEYS_STATE, Reg.KEYS_WITHHELD]
    omega
  unfold State.imageWord
  rw [State.reg_setReg (h.setReg _ _), if_neg hapart, State.reg_setReg h]
  exact if_congr hinj rfl rfl

theorem State.keyImages_keys (s : State) : s.keyImages.keys = s.keys := by
  rw [State.keyImages_eq]
  refine List.foldlRecOn (motive := fun u : State => u.keys = s.keys) _ _ rfl fun u hu w _ => ?_
  exact hu

theorem State.keyImages_reg_state {s : State} (h : s.Stored) {w : Nat} (hw : w < 8) :
    s.keyImages.reg (Reg.KEYS_STATE w) = nodeWord (fun n => (s.key n).accepted) w := by
  refine (foldl_of_once (f := State.imageWord) (a := w) (P := fun u => u.Stored ∧ u.keys = s.keys)
    (Q := fun u => u.Stored ∧ u.reg (Reg.KEYS_STATE w) = nodeWord (fun n => (s.key n).accepted) w)
    (fun u v _ hu => ?_) (fun u hu => ?_) (fun u v hne hu => ?_) List.nodup_range (List.mem_range.mpr hw) ⟨h, rfl⟩).2
  · obtain ⟨hst, hkeys⟩ := hu
    exact ⟨State.imageWord_stored hst v, hkeys⟩
  · obtain ⟨hst, hkeys⟩ := hu
    refine ⟨State.imageWord_stored hst w, ?_⟩
    rw [State.imageWord_reg_state hst w hw, if_pos rfl]
    simp only [State.key_congr (congrArg Keys.nodes hkeys)]
  · obtain ⟨hst, hreg⟩ := hu
    refine ⟨State.imageWord_stored hst v, ?_⟩
    rw [State.imageWord_reg_state hst v hw, if_neg hne.symm, hreg]

/-- KEYS.STATE shows the accepted closed nodes. -/
theorem State.keyImages_flag {s : State} (h : s.Stored) (n : Fin 256) :
    s.keyImages.flag (Reg.KEYS_STATE (n / 32)) (keyBit n) = (s.keyImages.key n).accepted := by
  unfold State.flag
  rw [State.keyImages_reg_state h (by omega), bit_nodeWord, State.key_congr (congrArg Keys.nodes s.keyImages_keys)]

/-! ### A scan (R89) -/

/-- The sample point of each node in a scan that starts now. -/
def State.samplePoint (s : State) (n : Nat) : Time := s.time.pt + BitVec.ofNat 64 (n / 16 * 3000 + us (s.fld Reg.KEYS_CTRL 20 16))

theorem State.samplePoint_eq (s : State) (n : Nat) :
    s.samplePoint n = s.time.pt + BitVec.ofNat 64 (n / 16 * 3000 + 96 * s.fld Reg.KEYS_CTRL 20 16) := by
  unfold State.samplePoint us
  rw [Nat.mul_comm 96]

/-- The lines of `failed` that had not failed before fail. -/
def State.failLines (s : State) (failed : Nat) : State :=
  (List.range 32).foldl (fun s l => if nbit failed l && !s.lineFailed l then s.failLine l else s) s

/-- The end of a scan: its readings are kept, and the safety slots follow. -/
def State.scanEnd (closed : Vector (BitVec 16) 16) (s : State) : State :=
  (List.range 32).foldl (fun s k => s.slotEval k) { s with keys.prev := closed }

theorem State.scan_eq (s : State) (x : ScanData) : s.scan x =
    (State.scanEnd x.closed (State.scanNodes x.closed s.samplePoint
      (((s.keyStatus.failLines (s.failedLines x)).nameWake x).ghosts x s.samplePoint))).keyImages := rfl

theorem State.scanEnd_keys {s : State} (h : s.Stored) (closed : Vector (BitVec 16) 16) :
    (State.scanEnd closed s).Stored ∧ (State.scanEnd closed s).keys = { s.keys with prev := closed } := by
  have hprev : State.Stored { s with keys.prev := closed } := h.congr rfl rfl rfl
  have k : Keeps (2 ^ Part.keys.num) { s with keys.prev := closed } (State.scanEnd closed s) :=
    Keeps.foldl _ _ (fun u k hu => State.slotEval_keeps k (by decide) hu) (Keeps.refl hprev)
  exact ⟨k.stored, k.part .keys (by decide)⟩

theorem State.scanNodes_stored {s : State} (h : s.Stored) (closed : Vector (BitVec 16) 16) (sample : Nat → Time) :
    (State.scanNodes closed sample s).Stored :=
  List.foldlRecOn _ _ h fun _ hu n _ => (State.matrixAs_scanNode hu n).stored

/-- Every scan ends with its readings kept and its images stored. -/
theorem State.scan_ends {s : State} (h : s.Stored) (x : ScanData) :
    ∃ u : State, u.Stored ∧ s.scan x = (State.scanEnd x.closed u).keyImages := by
  have hstart : Keeps 0 s (((s.keyStatus.failLines (s.failedLines x)).nameWake x).ghosts x s.samplePoint) := by
    refine State.ghosts_keeps x _ (Nat.zero_and _) (State.nameWake_keeps x (Nat.zero_and _) ?_)
    refine Keeps.foldl_range 32 _ (fun u l _ hu => .ite (fun _ => State.failLine_keeps l (Nat.zero_and _) hu) fun _ => hu) ?_
    exact State.keyStatus_keeps (Nat.zero_and _) (Keeps.refl h)
  exact ⟨_, State.scanNodes_stored hstart.stored _ _, s.scan_eq x⟩

theorem State.scan_prev {s : State} (h : s.Stored) (x : ScanData) : (s.scan x).keys.prev = x.closed := by
  obtain ⟨u, hu, e⟩ := State.scan_ends h x
  obtain ⟨-, hkeys⟩ := State.scanEnd_keys hu x.closed
  rw [e, State.keyImages_keys, hkeys]

theorem State.scan_time {s : State} (h : s.Stored) (x : ScanData) : (s.scan x).time = s.time := by
  have k : Keeps (2 ^ Part.time.num) s (s.scan x) := State.scan_keeps x (by decide) (Keeps.refl h)
  exact k.part .time (by decide)

theorem State.scan_flag {s : State} (h : s.Stored) (x : ScanData) (n : Fin 256) :
    (s.scan x).flag (Reg.KEYS_STATE (n / 32)) (keyBit n) = ((s.scan x).key n).accepted := by
  obtain ⟨u, hu, e⟩ := State.scan_ends h x
  rw [e]
  exact State.keyImages_flag (State.scanEnd_keys hu x.closed).1 n

theorem State.matrixAs_keyStatus {s : State} (h : s.Stored) : s.MatrixAs s.keyStatus := by
  have hapart : Reg.KEYS_STATUS ∉ matrixRegs := by decide
  exact ⟨h.setReg _ _, fun x hx => State.reg_setReg_other h _ fun e => hapart (e ▸ hx), rfl, rfl⟩

theorem State.failLines_zero (s : State) : s.failLines 0 = s := by
  simp [State.failLines, nbit]

/-- With DIODES set, no failed line and no wake to name, a scan is debounce alone (R102). -/
theorem State.scan_of_diodes {s : State} (h : s.Stored) {x : ScanData} (hdiodes : s.flag Reg.KEYS_CTRL 1 = true)
    (hwake : s.keys.wakePt = none) (hlines : s.failedLines x = 0) :
    s.scan x = (State.scanEnd x.closed (State.scanNodes x.closed s.samplePoint s.keyStatus)).keyImages := by
  have hnamed : s.keyStatus.nameWake x = s.keyStatus := by
    have hstatus : s.keyStatus.keys.wakePt = none := hwake
    unfold State.nameWake
    rw [hstatus]
  have hdebounced : s.keyStatus.ghosts x s.samplePoint = s.keyStatus :=
    if_pos ((State.flag_congr ((State.matrixAs_keyStatus h).regs _ (by decide)) 1).trans hdiodes)
  rw [State.scan_eq, hlines, State.failLines_zero, hnamed, hdebounced]

theorem State.key_scan_of_diodes {s : State} (h : s.Stored) {x : ScanData} (hdiodes : s.flag Reg.KEYS_CTRL 1 = true)
    (hwake : s.keys.wakePt = none) (hlines : s.failedLines x = 0) (n : Fin 256) :
    (s.scan x).key n = if s.keyLive n then s.debounced n (keyRead x.closed n) (s.samplePoint n) else s.key n := by
  have hstatus := State.matrixAs_keyStatus h
  obtain ⟨-, hkeys⟩ := State.scanEnd_keys (State.scanNodes_stored hstatus.stored x.closed s.samplePoint) x.closed
  have hnodes := congrArg Keys.nodes ((State.keyImages_keys _).trans hkeys)
  rw [State.scan_of_diodes h hdiodes hwake hlines, State.key_congr hnodes, State.key_scanNodes hstatus.stored,
    hstatus.keyLive, hstatus.debounced rfl]
  rfl

theorem exec_matrixScan_of_on {s : State} (h : s.scanOn = true) (x : ScanData) : exec (.matrixScan x) s = .next (s.scan x) :=
  congrArg Host.Outcome.next (if_pos h)

theorem exec_matrixScan_of_off {s : State} (h : s.scanOn = false) (x : ScanData) : exec (.matrixScan x) s = .next s :=
  congrArg Host.Outcome.next (if_neg (Bool.eq_false_iff.mp h))

/-! ### A Kennel scan (R105, R106) -/

/-- One node's part in a Kennel scan. -/
def State.kennelStep (closed : Vector (BitVec 16) 16) (s : State) (n : Fin 256) : State :=
  if s.keyLive n && (s.keyWake n || s.keyStuck n) then s.kennelNode n (keyRead closed n) else s

/-- All nodes of a Kennel scan. -/
def State.kennelNodes (closed : Vector (BitVec 16) 16) (s : State) : State :=
  (List.finRange 256).foldl (State.kennelStep closed) s

theorem exec_kennelScan_of_sleep {s : State} (h : s.inSleep = true) (closed : Vector (BitVec 16) 16) :
    exec (.kennelScan closed) s = .next (s.kennelNodes closed) :=
  congrArg Host.Outcome.next (if_pos h)

theorem exec_kennelScan_of_not_sleep {s : State} (h : s.inSleep = false) (closed : Vector (BitVec 16) 16) :
    exec (.kennelScan closed) s = .next s :=
  congrArg Host.Outcome.next (if_neg (Bool.eq_false_iff.mp h))

/-- An open reading of a node is stored, and may unmask it. -/
theorem State.kennelNode_open (s : State) (n : Fin 256) :
    (∃ y, s.kennelNode n false = s.setKey n y) ∨ ∃ y, s.kennelNode n false = (s.setKey n y).unstick n := by
  unfold State.kennelNode
  dsimp only
  split
  case isTrue stuck =>
    split
    case isTrue again => exact .inr ⟨_, rfl⟩
    case isFalse first => exact .inl ⟨_, rfl⟩
  case isFalse free => exact .inl ⟨_, rfl⟩

/-- A closed reading of an unmasked node that has read open in this sleep counts; the second in a row wakes. -/
theorem State.kennelNode_closed {s : State} {n : Fin 256} (hstuck : s.keyStuck n = false) (hopen : (s.key n).sleptOpen = true) :
    s.kennelNode n true =
      if (s.key n).kRun + 1 = 2 then (s.setKey n { s.key n with kRun := (s.key n).kRun + 1 }).matrixWake
      else s.setKey n { s.key n with kRun := (s.key n).kRun + 1 } := by
  simp [State.kennelNode, hstuck, hopen]

/-- What open readings of other nodes leave of node `n` and of what wakes the controller. -/
structure State.OpenAs (s t : State) : Prop where
  matrix : s.MatrixAs t
  pmc : t.pmc = s.pmc
  wakePt : t.keys.wakePt = s.keys.wakePt
  time : t.time = s.time
  blocks : ∀ x, x / 4096 = 1 ∨ x / 4096 = 2 → t.reg x = s.reg x

theorem State.OpenAs.refl {s : State} (h : s.Stored) : s.OpenAs s := ⟨.refl h, rfl, rfl, rfl, fun _ _ => rfl⟩

theorem State.OpenAs.trans {s t u : State} (h : s.OpenAs t) (h' : t.OpenAs u) : s.OpenAs u :=
  ⟨h.matrix.trans h'.matrix, h'.pmc.trans h.pmc, h'.wakePt.trans h.wakePt, h'.time.trans h.time,
    fun x hx => (h'.blocks x hx).trans (h.blocks x hx)⟩

theorem State.openAs_setKey {s : State} (h : s.Stored) (n : Nat) (y : KeyNode) : s.OpenAs (s.setKey n y) :=
  ⟨(State.MatrixAs.refl h).setKey n y, rfl, rfl, rfl, fun _ _ => rfl⟩

theorem State.openAs_unstick {s : State} (h : s.Stored) (n : Fin 256) : s.OpenAs (s.unstick n) := by
  have k : Keeps (2 ^ Part.pmc.num + 2 ^ Part.time.num) s (s.unstick n) := State.unstick_keeps n (by decide) (Keeps.refl h)
  refine ⟨State.matrixAs_unstick h n, k.part .pmc (by decide), by rw [State.unstick_keys], k.part .time (by decide),
    fun x hx => State.unstick_reg h n ?_⟩
  dsimp only [Reg.KEYS_STUCK]
  omega

theorem State.OpenAs.ptNow {s t : State} (h : s.OpenAs t) : t.ptNow = s.ptNow := by
  unfold State.ptNow State.sleepTicks
  rw [h.time, State.fld_congr (h.blocks _ (by decide))]

theorem State.OpenAs.wokenBy {s t u : State} {code detail : Nat} (h : t.OpenAs u) (hw : s.WokenBy t code detail) :
    s.WokenBy u code detail := hw.congr h.pmc (h.blocks _ (by decide))

section OpenReading

variable {closed : Vector (BitVec 16) 16} {s : State}

theorem State.openAs_kennelStep (h : s.Stored) {m : Fin 256} (hopen : keyRead closed m = false) :
    s.OpenAs (s.kennelStep closed m) := by
  unfold State.kennelStep
  split
  case isTrue =>
    rw [hopen]
    rcases s.kennelNode_open m with ⟨y, e⟩ | ⟨y, e⟩
    · rw [e]
      exact State.openAs_setKey h m y
    · rw [e]
      have hset := State.openAs_setKey h m y
      exact hset.trans (State.openAs_unstick hset.matrix.stored m)
  case isFalse => exact .refl h

theorem State.kennelStep_open_other (h : s.Stored) {n m : Fin 256} (hopen : keyRead closed m = false) (hne : n ≠ m) :
    (s.kennelStep closed m).key n = s.key n ∧ (s.kennelStep closed m).keyStuck n = s.keyStuck n := by
  unfold State.kennelStep
  split
  case isTrue =>
    rw [hopen]
    rcases s.kennelNode_open m with ⟨y, e⟩ | ⟨y, e⟩
    · rw [e]
      exact ⟨State.key_setKey_other s y hne, rfl⟩
    · have hset : (s.setKey m y).Stored := h.congr rfl rfl rfl
      rw [e]
      refine ⟨?_, State.unstick_keyStuck_other hset hne⟩
      rw [State.key_congr (congrArg Keys.nodes (State.unstick_keys _ _)), State.key_setKey_other s y hne]
  case isFalse => exact ⟨rfl, rfl⟩

/-- A Kennel scan in which every node reads open. -/
theorem State.openAs_kennelScan (h : s.Stored) (hopen : ∀ m : Fin 256, keyRead closed m = false) :
    s.OpenAs (s.kennelNodes closed) :=
  List.foldlRecOn (motive := fun t : State => s.OpenAs t) _ _ (.refl h) fun _ ht m _ =>
    ht.trans (State.openAs_kennelStep ht.matrix.stored (hopen m))

/-- A Kennel scan in which node `n` alone reads closed: what holds after its own part, and is kept by the open readings of the
others, holds after the scan. -/
theorem State.kennelScan_closed {n : Fin 256} (h : s.Stored) (hread : ∀ m : Fin 256, keyRead closed m = decide (m = n))
    (hlive : s.keyLive n = true) (hwake : s.keyWake n = true) {Q : State → Prop}
    (hat : ∀ u, s.OpenAs u → u.key n = s.key n → u.keyStuck n = s.keyStuck n →
      (u.kennelNode n true).Stored ∧ Q (u.kennelNode n true))
    (hafter : ∀ u v : State, u.OpenAs v → v.key n = u.key n → Q u → Q v) :
    Q (s.kennelNodes closed) := by
  have hopen {m : Fin 256} (hne : m ≠ n) : keyRead closed m = false := (hread m).trans (decide_eq_false hne)
  refine (foldl_of_once (f := State.kennelStep closed) (a := n)
    (P := fun u => s.OpenAs u ∧ u.key n = s.key n ∧ u.keyStuck n = s.keyStuck n) (Q := fun u => u.Stored ∧ Q u)
    (fun u m hne hu => ?_) (fun u hu => ?_) (fun u m hne hu => ?_) (List.nodup_finRange 256) (List.mem_finRange n)
    ⟨.refl h, rfl, rfl⟩).2
  · obtain ⟨has, hkey, hstuck⟩ := hu
    obtain ⟨hkey', hstuck'⟩ := State.kennelStep_open_other has.matrix.stored (hopen hne) hne.symm
    exact ⟨has.trans (State.openAs_kennelStep has.matrix.stored (hopen hne)), hkey'.trans hkey, hstuck'.trans hstuck⟩
  · obtain ⟨has, hkey, hstuck⟩ := hu
    have hread' : keyRead closed n = true := (hread n).trans (decide_eq_true rfl)
    have hguard : (u.keyLive n && (u.keyWake n || u.keyStuck n)) = true := by
      simp [has.matrix.keyLive, has.matrix.keyWake, hlive, hwake]
    have hstep : u.kennelStep closed n = u.kennelNode n true := (if_pos hguard).trans (by rw [hread'])
    rw [hstep]
    exact hat u has hkey hstuck
  · obtain ⟨hst, hQ⟩ := hu
    have has := State.openAs_kennelStep hst (hopen hne)
    obtain ⟨hkey, -⟩ := State.kennelStep_open_other hst (hopen hne) hne.symm
    exact ⟨has.matrix.stored, hafter u _ has hkey hQ⟩

end OpenReading

section ClosedReading

variable {s : State} {n : Fin 256} {closed : Vector (BitVec 16) 16} (h : s.Stored)
  (hread : ∀ m : Fin 256, keyRead closed m = decide (m = n)) (hlive : s.keyLive n = true) (hwake : s.keyWake n = true)
  (hstuck : s.keyStuck n = false) (hopen : (s.key n).sleptOpen = true)
include h hread hlive hwake hstuck hopen

/-- The first closed reading counts and wakes nothing. -/
theorem State.kennelScan_first (hrun : (s.key n).kRun = 0) :
    ((s.kennelNodes closed).key n).kRun = 1 ∧
      (s.kennelNodes closed).pmc = s.pmc := by
  refine State.kennelScan_closed (Q := fun t => (t.key n).kRun = 1 ∧ t.pmc = s.pmc) h hread hlive hwake
    (fun u has hkey hstuck' => ?_) fun u v has hkey hu => ?_
  · rw [State.kennelNode_closed (hstuck'.trans hstuck) (by rw [hkey, hopen]), if_neg (by rw [hkey, hrun]; decide)]
    refine ⟨has.matrix.stored.congr rfl rfl rfl, ?_, has.pmc⟩
    rw [State.key_setKey_self, hkey, hrun]
  · obtain ⟨hone, hpmc⟩ := hu
    exact ⟨by rw [hkey, hone], has.pmc.trans hpmc⟩

/-- The second wakes the controller. -/
theorem State.kennelScan_second (hrun : (s.key n).kRun = 1) (hsleep : s.inSleep = true)
    (hen : s.flag Reg.PMC_WAKE_EN 1 = true) :
    s.WokenBy (s.kennelNodes closed) 0x02 0 := by
  refine State.kennelScan_closed (Q := fun t => s.WokenBy t 0x02 0) h hread hlive hwake
    (fun u has hkey hstuck' => ?_) fun u v has _ hu => has.wokenBy hu
  have hset := has.trans (State.openAs_setKey has.matrix.stored n { u.key n with kRun := (u.key n).kRun + 1 })
  have hsleep' := (congrArg (fun p : Pmc => decide (p.state = .sleep)) hset.pmc).trans hsleep
  have hen' := (State.flag_congr (hset.blocks Reg.PMC_WAKE_EN (by decide)) 1).trans hen
  rw [State.kennelNode_closed (hstuck'.trans hstuck) (by rw [hkey, hopen]), if_pos (by rw [hkey, hrun])]
  refine ⟨(State.matrixWake_keeps (Nat.zero_and _) (Keeps.refl (K := 0) hset.matrix.stored)).stored, ?_⟩
  exact (State.matrixWake_wokenBy hset.matrix.stored (.inl hsleep') hen').of_start hset.pmc hset.ptNow

end ClosedReading

theorem keyRead_eq (closed : Vector (BitVec 16) 16) (n : Fin 256) :
    keyRead closed n = (closed[n.val / 16]'(by omega)).getLsbD (n % 16) := by
  simp [keyRead, Vector.getD, show n.val / 16 < 16 by omega]

/-- Where one crossing is closed, its node alone reads closed. -/
theorem keyRead_one (n m : Fin 256) :
    keyRead (Vector.ofFn fun d : Fin 16 => if d.val = n / 16 then BitVec.ofNat 16 (2 ^ (n.val % 16)) else 0) m =
      decide (m = n) := by
  rw [keyRead_eq, Vector.getElem_ofFn]
  dsimp only
  split
  case isTrue hline =>
    have hin : m.val % 16 < 16 := Nat.mod_lt _ (by decide)
    rw [BitVec.getLsbD_ofNat, Nat.testBit_two_pow, decide_eq_true hin, Bool.true_and, decide_eq_decide, Fin.ext_iff]
    omega
  case isFalse hline =>
    have hne : m ≠ n := fun e => hline (e ▸ rfl)
    rw [decide_eq_false hne]
    exact BitVec.getLsbD_zero

theorem keyRead_none (n : Fin 256) : keyRead (Vector.replicate 16 0) n = false := by
  rw [keyRead_eq, Vector.getElem_replicate]
  exact BitVec.getLsbD_zero

end Sys2Proof.Machine
end

section
/-! SUPPORT. The direct inputs and their pairs (04_key_matrix.md, R109 to R111), and the commands of the chapter. -/

namespace Sys2Proof.Machine

/-! ### An edge of a direct input (R109, R111) -/

/-- Input `n` replaced, with its level in DI_STATE.RAW. -/
def State.putLevel (s : State) (n : Fin 16) (x : DirectIn) : State := (s.setDi n x).setFlag Reg.KEYS_DI_STATE (16 + n) x.level

section PutLevel

variable {s : State} (n : Fin 16) (x : DirectIn)

theorem State.putLevel_di_self : (s.putLevel n x).keys.di[n] = x := s.setDi_di_self n x

theorem State.putLevel_raw (h : s.Stored) : (s.putLevel n x).flag Reg.KEYS_DI_STATE (16 + n) = x.level :=
  State.flag_setFlag_self (h.congr rfl rfl rfl) _ _ (by omega)

/-- Nodes, the other inputs and every register but DI_STATE stand. -/
theorem State.putLevel_frame (h : s.Stored) :
    (s.putLevel n x).keys.nodes = s.keys.nodes ∧ s.sameRegsBut (s.putLevel n x) [Reg.KEYS_DI_STATE] ∧
      ∀ m : Fin 16, m ≠ n → (s.putLevel n x).keys.di[m] = s.keys.di[m] := by
  refine ⟨rfl, fun a ha => ?_, fun m hne => State.setDi_di_other s x hne⟩
  have hset : (s.setDi n x).Stored := h.congr rfl rfl rfl
  exact (State.reg_setFlag hset _ _ _ _).trans (if_neg (List.ne_of_not_mem_cons ha))

end PutLevel

/-- An edge is stamped and starts the debounce while awake; in a sleep its level alone is kept. -/
def State.edged (s : State) (n : Fin 16) (high : Bool) : DirectIn :=
  let x := { s.keys.di[n] with level := high != s.flag (Reg.KEYS_DI_CFG n) 3 }
  if s.asleep then x
  else { x with timing := true, edgePt := s.time.pt, firstPt := some ((s.keys.di[n]).firstPt.getD s.time.pt) }

theorem State.edged_raw (s : State) (n : Fin 16) (high : Bool) :
    (s.edged n high).level = (high != s.flag (Reg.KEYS_DI_CFG n) 3) := by
  unfold State.edged
  split
  case isTrue asleep => rfl
  case isFalse awake => rfl

theorem exec_diEdge (s : State) (n : Fin 16) (high : Bool) : exec (.diEdge n high) s = .next (s.putLevel n (s.edged n high)) := by
  show execDiEdge n high s = _
  unfold execDiEdge State.edged
  split
  case isTrue asleep => rfl
  case isFalse awake => rfl

/-! ### Pairs (R110) -/

theorem State.setNode_frame {s : State} (h : s.Stored) (n : Nat) (b : Bool) :
    (s.setNode n b).Stored ∧ (s.setNode n b).keys = s.keys ∧ ∀ x, x / 4096 = 3 → (s.setNode n b).reg x = s.reg x := by
  have k : Keeps (2 ^ Part.keys.num + 2 ^ (Part.block 3).num) s (s.setNode n b) :=
    State.setNode_keeps n b (by decide) (Keeps.refl h)
  exact ⟨k.stored, k.part .keys (by decide), k.part (.block 3) (by decide)⟩

/-- A node outside the triggers of the built-in responses is driven and nothing else follows. -/
theorem State.setNode_nodes {s : State} {n : Nat} (hn : n < 48) (b : Bool) :
    (s.setNode n b).hedge.nodes = setBit128 s.hedge.nodes n b := by
  have hres : reservedNode n = false := by
    simp [reservedNode]
    omega
  have htrig : (n = 67 || n = 78 || n = 79 || n = 89) = false := by
    simp
    omega
  unfold State.setNode
  rw [hres]
  simp only [htrig]
  rfl

theorem setBit128_true_getLsbD (v : BitVec 128) {n : Nat} (hn : n < 128) (m : Nat) :
    (setBit128 v n true).getLsbD m = (v.getLsbD m || decide (m = n)) := by
  have hmask : (BitVec.ofNat 128 (2 ^ n)).getLsbD m = decide (m = n) := by
    rw [BitVec.getLsbD_ofNat, Nat.testBit_two_pow, ← Bool.decide_and, decide_eq_decide]
    omega
  unfold setBit128
  rw [if_pos rfl, BitVec.getLsbD_or, hmask]

/-- The images of input `n` in DI_STATE. -/
def State.diImage (s : State) (n : Nat) : State :=
  (s.setFlag Reg.KEYS_DI_STATE n (s.di n).accepted).setFlag Reg.KEYS_DI_STATE (16 + n) (s.di n).level

section DiImage

variable {s : State} (h : s.Stored) (n : Nat)

theorem State.diImage_keys : (s.diImage n).keys = s.keys := rfl

include h

theorem State.diImage_stored : (s.diImage n).Stored := (h.setFlag _ _ _).setFlag _ _ _

theorem State.diImage_reg {x : Nat} (hx : x ≠ Reg.KEYS_DI_STATE) : (s.diImage n).reg x = s.reg x := by
  unfold State.diImage
  rw [State.reg_setFlag (h.setFlag _ _ _), if_neg hx, State.reg_setFlag h, if_neg hx]

theorem State.diImage_active_self (hn : n < 16) : (s.diImage n).flag Reg.KEYS_DI_STATE n = (s.di n).accepted := by
  unfold State.diImage
  rw [State.flag_setFlag_other (h.setFlag _ _ _) _ (.inr (by omega)), State.flag_setFlag_self h _ _ (by omega)]

theorem State.diImage_active_other {m : Nat} (hm : m < 16) (hne : m ≠ n) :
    (s.diImage n).flag Reg.KEYS_DI_STATE m = s.flag Reg.KEYS_DI_STATE m := by
  unfold State.diImage
  rw [State.flag_setFlag_other (h.setFlag _ _ _) _ (.inr (by omega)), State.flag_setFlag_other h _ (.inr hne)]

/-- After the images of a pair's inputs, ACTIVE shows the accepted state of both. -/
theorem State.diImages_active {n : Fin 16} {k : Nat} (hn : n.val / 2 = k) :
    ((s.diImage (2 * k)).diImage (2 * k + 1)).flag Reg.KEYS_DI_STATE n = (s.keys.di[n]).accepted := by
  have himage := State.diImage_stored h (2 * k)
  rcases (by omega : n.val = 2 * k ∨ n.val = 2 * k + 1) with heven | hodd
  · rw [State.diImage_active_other himage _ n.isLt (by omega), ← heven, State.diImage_active_self h _ n.isLt, State.di_eq]
  · rw [← hodd, State.diImage_active_self himage _ n.isLt, State.di_eq, State.diImage_keys]

end DiImage

/-- The nodes of a pair, then the images of its inputs; a declared pair in fault drives both nodes active (R110). -/
theorem State.pairNodes_eq (s : State) (k : Nat) :
    ∃ a b, s.pairNodes k = (((s.setNode (32 + 2 * k) a).setNode (33 + 2 * k) b).diImage (2 * k)).diImage (2 * k + 1) ∧
      (s.diPaired k = true → s.flag Reg.KEYS_DI_PAIR_STATUS k = true → a = true ∧ b = true) := by
  unfold State.pairNodes
  dsimp only
  split
  case isTrue paired =>
    refine ⟨_, _, rfl, fun _ hfault => ?_⟩
    simp [hfault]
  case isFalse single => exact ⟨_, _, rfl, fun hpaired => absurd hpaired single⟩

section PairNodes

variable {s : State} (h : s.Stored) (k : Fin 8)
include h

theorem State.pairNodes_keys : (s.pairNodes k).keys = s.keys := by
  have hk : Keeps (2 ^ Part.keys.num) s (s.pairNodes k) := State.pairNodes_keeps k (by decide) (Keeps.refl h)
  exact hk.part .keys (by decide)

theorem State.pairNodes_reg {x : Nat} (hblock : x / 4096 = 3) (hx : x ≠ Reg.KEYS_DI_STATE) : (s.pairNodes k).reg x = s.reg x := by
  obtain ⟨a, b, e, -⟩ := s.pairNodes_eq k
  obtain ⟨hst₁, -, hreg₁⟩ := State.setNode_frame h (32 + 2 * k) a
  obtain ⟨hst₂, -, hreg₂⟩ := State.setNode_frame hst₁ (33 + 2 * k) b
  rw [e, State.diImage_reg (State.diImage_stored hst₂ _) _ hx, State.diImage_reg hst₂ _ hx, hreg₂ x hblock, hreg₁ x hblock]

/-- DI_STATE.ACTIVE shows the accepted state of each input of the pair. -/
theorem State.pairNodes_active {n : Fin 16} (hn : n.val / 2 = k) :
    (s.pairNodes k).flag Reg.KEYS_DI_STATE n = (s.keys.di[n]).accepted := by
  obtain ⟨a, b, e, -⟩ := s.pairNodes_eq k
  obtain ⟨hst₁, hkeys₁, -⟩ := State.setNode_frame h (32 + 2 * k) a
  obtain ⟨hst₂, hkeys₂, -⟩ := State.setNode_frame hst₁ (33 + 2 * k) b
  rw [e, State.diImages_active hst₂ hn, hkeys₂, hkeys₁]

omit h in
/-- A declared pair in fault drives both its nodes active (R110). -/
theorem State.pairNodes_fault (hpaired : s.diPaired k = true) (hfault : s.flag Reg.KEYS_DI_PAIR_STATUS k = true) :
    (s.pairNodes k).node (32 + 2 * k) = true ∧ (s.pairNodes k).node (33 + 2 * k) = true := by
  obtain ⟨a, b, e, hboth⟩ := s.pairNodes_eq k
  obtain ⟨rfl, rfl⟩ := hboth hpaired hfault
  have hnodes : (s.pairNodes k).hedge.nodes =
      setBit128 (setBit128 s.hedge.nodes (32 + 2 * k) true) (33 + 2 * k) true := by
    rw [e]
    refine (State.setNode_nodes (by omega) true).trans ?_
    rw [State.setNode_nodes (by omega)]
  unfold State.node
  rw [hnodes]
  simp [setBit128_true_getLsbD _ (show 33 + 2 * k.val < 128 by omega),
    setBit128_true_getLsbD _ (show 32 + 2 * k.val < 128 by omega)]

end PairNodes

theorem State.pairClear_keys (s : State) (k : Nat) : (s.pairClear k).keys = s.keys := by
  unfold State.pairClear
  split
  case isTrue => exact State.postAt_keys _ _ _ _ _
  case isFalse => rfl

/-! ### A discrepancy timeout (R110) -/

/-- The fault of pair `k` is set, counted and posted. -/
def State.pairFaulted (s : State) (k : Fin 8) : State :=
  ((s.setFlag Reg.KEYS_DI_PAIR_STATUS k true).inc Reg.KEYS_PAIR_FAULT_CNT 15 0).postDi 2 k true false 2 s.ptNow

theorem exec_pairDiscrepancyTimeout_of_timing {s : State} {k : Fin 8} (htiming : s.keys.pairTiming.getLsbD k = true)
    (hfault : s.flag Reg.KEYS_DI_PAIR_STATUS k = false) :
    exec (.pairDiscrepancyTimeout k) s = .next ((s.pairFaulted k).pairNodes k) := by
  show execPairDiscrepancyTimeout k s = _
  unfold execPairDiscrepancyTimeout
  rw [htiming, hfault]
  rfl

theorem exec_pairDiscrepancyTimeout_of_idle {s : State} {k : Fin 8} (htiming : s.keys.pairTiming.getLsbD k = false) :
    exec (.pairDiscrepancyTimeout k) s = .next s := by
  show execPairDiscrepancyTimeout k s = _
  unfold execPairDiscrepancyTimeout
  rw [htiming]
  rfl

section PairFault

variable {s : State} (h : s.Stored) (k : Fin 8)
include h

theorem State.pairFaulted_stored : (s.pairFaulted k).Stored :=
  (State.postDi_keeps 2 k true false 2 s.ptNow (Nat.zero_and _) (Keeps.refl (K := 0) ((h.setFlag _ _ _).inc _ _ _))).stored

theorem State.pairFaulted_reg (x : Nat) : (s.pairFaulted k).reg x =
    if x = Reg.KEYS_PAIR_FAULT_CNT then satInc (s.reg x) 15 0
    else (s.setFlag Reg.KEYS_DI_PAIR_STATUS k true).reg x := by
  refine (State.postAt_reg _ _ _ _ _ _).trans ?_
  rw [State.reg_inc (h.setFlag _ _ _)]
  split
  case isTrue hx => rw [hx, State.reg_setFlag h, if_neg (by decide)]
  case isFalse => rfl

/-- The fault is set and counted, and both nodes of a declared pair are active. -/
theorem State.pairFaulted_effect :
    ((s.pairFaulted k).pairNodes k).flag Reg.KEYS_DI_PAIR_STATUS k = true ∧
    ((s.pairFaulted k).pairNodes k).reg Reg.KEYS_PAIR_FAULT_CNT = satInc (s.reg Reg.KEYS_PAIR_FAULT_CNT) 15 0 ∧
    (s.diPaired k = true → ((s.pairFaulted k).pairNodes k).node (32 + 2 * k) = true ∧
      ((s.pairFaulted k).pairNodes k).node (33 + 2 * k) = true) := by
  have hst := State.pairFaulted_stored h k
  have hfault : (s.pairFaulted k).flag Reg.KEYS_DI_PAIR_STATUS k = true :=
    (State.flag_congr ((State.pairFaulted_reg h k _).trans (if_neg (by decide))) k).trans
      (State.flag_setFlag_self h _ true (by omega))
  refine ⟨?_, ?_, fun hpaired => State.pairNodes_fault k ?_ hfault⟩
  · exact (State.flag_congr (State.pairNodes_reg hst k (by decide) (by decide)) _).trans hfault
  · rw [State.pairNodes_reg hst k (by decide) (by decide), State.pairFaulted_reg h, if_pos rfl]
  · refine (State.flag_congr ?_ 9).trans hpaired
    rw [State.pairFaulted_reg h, if_neg (by dsimp only [Reg.KEYS_DI_CFG, Reg.KEYS_PAIR_FAULT_CNT]; omega), State.reg_setFlag h,
      if_neg (by dsimp only [Reg.KEYS_DI_CFG, Reg.KEYS_DI_PAIR_STATUS]; omega)]

end PairFault

/-! ### The debounce time of a direct input has passed (R109) -/

theorem exec_diDebounceExpiry {s : State} (h : s.asleep = false) (n : Fin 16) :
    exec (.diDebounceExpiry n) s = .next (s.diAccept n) := congrArg Host.Outcome.next (if_neg (Bool.eq_false_iff.mp h))

/-- An input of role UNUSED is not debounced (R92). -/
theorem State.diAccept_of_unused {s : State} {n : Fin 16} (h : s.diRole n = 0) :
    s.diAccept n = s.setDi n { s.keys.di[n] with timing := false, firstPt := none } := if_pos h

theorem State.diAccept_of_same {s : State} (h : s.Stored) {n : Fin 16} (hrole : s.diRole n ≠ 0)
    (hlevel : (s.keys.di[n]).level = (s.keys.di[n]).accepted) :
    ∃ u : State, u.Stored ∧ s.diAccept n = u.pairNodes (n.val / 2) ∧
      u.keys.di[n] = { s.keys.di[n] with timing := false, firstPt := none, woke := false } := by
  have hset : (s.setDi n { s.keys.di[n] with timing := false, firstPt := none, woke := false }).Stored := h.congr rfl rfl rfl
  refine ⟨(s.setDi n _).pairClear (n.val / 2), (State.pairClear_keeps _ (Nat.zero_and _) (Keeps.refl (K := 0) hset)).stored, ?_, ?_⟩
  · unfold State.diAccept
    dsimp only
    rw [if_neg hrole, if_pos hlevel]
  · rw [State.pairClear_keys, State.setDi_di_self]

/-- The input once its level is accepted. -/
def State.diAccepted (s : State) (n : Fin 16) : DirectIn :=
  { s.keys.di[n] with accepted := (s.keys.di[n]).level, timing := false, firstPt := none, woke := false, acceptPt := s.time.pt }

/-- The record of an acceptance and its wake source, from a state in which input `n` is already replaced; `x` is the input
before. -/
def State.diReported (s : State) (n : Fin 16) (x : DirectIn) : State :=
  let role := s.diRole n
  let s := if role = 3 && !x.woke then s else s.postDi 1 n x.level x.woke role (x.firstPt.getD s.time.pt)
  if x.level && !x.woke && (role = 3 || s.flag (Reg.KEYS_DI_CFG n) 8) then s.wakeDetect 0x03 n else s

theorem State.diReported_frame {s : State} (h : s.Stored) (n : Fin 16) (x : DirectIn) :
    (s.diReported n x).Stored ∧ (s.diReported n x).keys = s.keys := by
  have hpost : Keeps (2 ^ Part.keys.num) s
      (if s.diRole n = 3 && !x.woke then s else s.postDi 1 n x.level x.woke (s.diRole n) (x.firstPt.getD s.time.pt)) :=
    .ite (fun _ => .refl h) fun _ => State.postDi_keeps _ _ _ _ _ _ (by decide) (.refl h)
  have k : Keeps (2 ^ Part.keys.num) s (s.diReported n x) :=
    .ite (fun _ => State.wakeDetect_keeps _ _ (by decide) hpost) fun _ => hpost
  exact ⟨k.stored, k.part .keys (by decide)⟩

theorem State.diAccept_changed_eq {s : State} {n : Fin 16} (hrole : s.diRole n ≠ 0)
    (hlevel : (s.keys.di[n]).level ≠ (s.keys.di[n]).accepted) :
    s.diAccept n = ((((s.setDi n (s.diAccepted n)).diReported n s.keys.di[n]).pairTimer (n.val / 2)).pairClear
      (n.val / 2)).pairNodes (n.val / 2) := by
  unfold State.diAccept
  dsimp only
  rw [if_neg hrole, if_neg hlevel]
  rfl

/-- The record, the wake source and the pair leave the inputs as they are. -/
theorem State.diAccept_of_changed {s : State} (h : s.Stored) {n : Fin 16} (hrole : s.diRole n ≠ 0)
    (hlevel : (s.keys.di[n]).level ≠ (s.keys.di[n]).accepted) :
    ∃ u : State, u.Stored ∧ s.diAccept n = u.pairNodes (n.val / 2) ∧ u.keys.di[n] = s.diAccepted n := by
  have hset : (s.setDi n (s.diAccepted n)).Stored := h.congr rfl rfl rfl
  obtain ⟨hst, hkeys⟩ := State.diReported_frame hset n s.keys.di[n]
  have htimer : (((s.setDi n (s.diAccepted n)).diReported n s.keys.di[n]).pairTimer (n.val / 2)).Stored := hst.congr rfl rfl rfl
  refine ⟨_, (State.pairClear_keeps _ (Nat.zero_and _) (Keeps.refl (K := 0) htimer)).stored,
    State.diAccept_changed_eq hrole hlevel, ?_⟩
  rw [State.pairClear_keys]
  exact (congrArg (fun x : Keys => x.di[n]) hkeys).trans (State.setDi_di_self _ _ _)

theorem State.diAccept_changed_effect {s : State} (h : s.Stored) {n : Fin 16} (hrole : s.diRole n ≠ 0)
    (hlevel : (s.keys.di[n]).level ≠ (s.keys.di[n]).accepted) :
    ((s.diAccept n).keys.di[n]).accepted = (s.keys.di[n]).level ∧ ((s.diAccept n).keys.di[n]).acceptPt = s.time.pt ∧
      (s.diAccept n).flag Reg.KEYS_DI_STATE n = (s.keys.di[n]).level := by
  obtain ⟨u, hu, e, hinput⟩ := State.diAccept_of_changed h hrole hlevel
  have hkeys := State.pairNodes_keys hu ⟨n.val / 2, by omega⟩
  have hactive := State.pairNodes_active hu ⟨n.val / 2, by omega⟩ (n := n) rfl
  rw [hinput] at hactive
  rw [e, hkeys, hinput]
  exact ⟨rfl, rfl, hactive⟩

theorem State.diAccept_same_effect {s : State} (h : s.Stored) {n : Fin 16} (hrole : s.diRole n ≠ 0)
    (hlevel : (s.keys.di[n]).level = (s.keys.di[n]).accepted) :
    ((s.diAccept n).keys.di[n]).accepted = (s.keys.di[n]).accepted ∧ ((s.diAccept n).keys.di[n]).timing = false ∧
      ((s.diAccept n).keys.di[n]).firstPt = none := by
  obtain ⟨u, hu, e, hinput⟩ := State.diAccept_of_same h hrole hlevel
  rw [e, State.pairNodes_keys hu ⟨n.val / 2, by omega⟩, hinput]
  exact ⟨rfl, rfl, rfl⟩

/-! ### An input that wakes (R111) -/

theorem exec_diKennelWake {s : State} {n : Fin 16} (hsleep : s.asleep = true)
    (hrole : s.diRole n = 3 ∨ (s.diRole n ≠ 0 ∧ s.flag (Reg.KEYS_DI_CFG n) 8 = true)) :
    exec (.diKennelWake n) s = .next (s.diWake n) := by
  show execDiKennelWake n s = _
  simp [execDiKennelWake, hsleep, hrole]

/-- The input with its level active, before WAKE_EN is asked. -/
def State.diActive (s : State) (n : Fin 16) : State := s.putLevel n { s.keys.di[n] with level := true }

theorem State.diActive_stored {s : State} (h : s.Stored) (n : Fin 16) : (s.diActive n).Stored :=
  State.Stored.setFlag (s := s.setDi n _) (h.congr rfl rfl rfl) _ _ _

theorem State.diActive_reg {s : State} (h : s.Stored) (n : Fin 16) {x : Nat} (hx : x ≠ Reg.KEYS_DI_STATE) :
    (s.diActive n).reg x = s.reg x := by
  obtain ⟨-, hregs, -⟩ := State.putLevel_frame n { s.keys.di[n] with level := true } h
  exact hregs x (by simpa using hx)

theorem State.diActive_ptNow {s : State} (h : s.Stored) (n : Fin 16) : (s.diActive n).ptNow = s.ptNow := by
  unfold State.ptNow
  rw [State.fld_congr (State.diActive_reg h n (by decide))]
  rfl

theorem State.diWake_of_disabled {s : State} (h : s.Stored) {n : Fin 16} (hen : s.flag Reg.PMC_WAKE_EN 2 = false) :
    s.diWake n = s.diActive n := by
  have hen' : (s.diActive n).flag Reg.PMC_WAKE_EN 2 = false := (State.flag_congr (State.diActive_reg h n (by decide)) 2).trans hen
  exact if_neg (Bool.eq_false_iff.mp hen')

theorem State.diWake_effect_of_disabled {s : State} (h : s.Stored) {n : Fin 16} (hen : s.flag Reg.PMC_WAKE_EN 2 = false) :
    ((s.diWake n).keys.di[n]).level = true ∧ ((s.diWake n).keys.di[n]).woke = (s.keys.di[n]).woke ∧ (s.diWake n).pmc = s.pmc := by
  have hinput : (s.diActive n).keys.di[n] = { s.keys.di[n] with level := true } := State.putLevel_di_self _ _
  rw [State.diWake_of_disabled h hen, hinput]
  exact ⟨rfl, rfl, rfl⟩

/-- The input of which an edge woke the controller. -/
def State.diWoken (s : State) (n : Fin 16) : DirectIn :=
  { s.keys.di[n] with level := true, woke := true, firstPt := if (s.keys.di[n]).woke then (s.keys.di[n]).firstPt else some s.ptNow }

theorem State.diWake_of_enabled {s : State} (h : s.Stored) {n : Fin 16} (hen : s.flag Reg.PMC_WAKE_EN 2 = true) :
    s.diWake n = ((s.diActive n).setDi n (s.diWoken n)).wakeFire 0x03 n := by
  have hen' : (s.diActive n).flag Reg.PMC_WAKE_EN 2 = true := (State.flag_congr (State.diActive_reg h n (by decide)) 2).trans hen
  have hinput : (s.diActive n).keys.di[n] = { s.keys.di[n] with level := true } := State.putLevel_di_self _ _
  unfold State.diWake
  refine (if_pos hen').trans ((State.wakeDetect_of_enabled hen' _).trans ?_)
  show State.wakeFire ((s.diActive n).setDi n { (s.diActive n).keys.di[n] with
    firstPt := if ((s.diActive n).keys.di[n]).woke then ((s.diActive n).keys.di[n]).firstPt else some (s.diActive n).ptNow,
    woke := true }) 0x03 n = _
  rw [hinput, State.diActive_ptNow h]
  rfl

theorem State.diWake_effect {s : State} (h : s.Stored) {n : Fin 16} (hsleep : s.inSleep = true ∨ s.inDeepSleep = true)
    (hen : s.flag Reg.PMC_WAKE_EN 2 = true) :
    s.WokenBy (s.diWake n) 0x03 n ∧ ((s.diWake n).keys.di[n]).woke = true ∧ ((s.diWake n).keys.di[n]).level = true := by
  have hset : ((s.diActive n).setDi n (s.diWoken n)).Stored := (State.diActive_stored h n).congr rfl rfl rfl
  have hinput : (s.diWake n).keys.di[n] = s.diWoken n := by
    rw [State.diWake_of_enabled h hen, State.wakeFire_keys (s := (s.diActive n).setDi n (s.diWoken n)) hsleep, State.setDi_di_self]
  rw [hinput]
  refine ⟨?_, rfl, rfl⟩
  rw [State.diWake_of_enabled h hen]
  exact (State.wakeFire_wokenBy hset hsleep (by decide) n).of_start rfl (State.diActive_ptNow h n)

/-! ### The obligation -/

/-- Settles O15: a scan and a Kennel scan by what each node's part leaves of another node (`State.key_scanNodes`,
`State.kennelScan_closed`); the other rows by the equation of each. -/
theorem keysCommands : Obligations.KeysCommands := by
  intro s h
  refine ⟨?scan, ?stuck, ?kennel, fun hawake c => exec_kennelScan_of_not_sleep hawake c, ?anyKey,
    fun k hidle => exec_anyKeyDetect_of_unwatched hidle, ?edge, ?debounce, ?discrepancy,
    fun k hidle => exec_pairDiscrepancyTimeout_of_idle hidle, ?inputWake⟩
  case scan =>
    refine fun x => ⟨fun hon => ⟨_, exec_matrixScan_of_on hon x, State.scan_prev h x, State.scan_time h x, State.scan_flag h x,
      fun hdiodes hwake hlines n => ⟨fun hdead => ?_, fun hlive => ?_⟩⟩, fun hoff => exec_matrixScan_of_off hoff x⟩
    · rw [State.key_scan_of_diodes h hdiodes hwake hlines, if_neg (Bool.eq_false_iff.mp hdead)]
    · rw [State.key_scan_of_diodes h hdiodes hwake hlines, if_pos hlive, State.key_debounce_self h, ← State.samplePoint_eq]
  case stuck =>
    exact fun n hrole hstuck => ⟨fun hheld => ⟨_, exec_stuckTimeout_of_held hrole hstuck hheld, State.stick_effect h n⟩,
      exec_stuckTimeout_of_free⟩
  case kennel =>
    intro hsleep
    have hexec := exec_kennelScan_of_sleep hsleep
    refine ⟨fun c => ?_, ?_, fun n x hx hlive hwake hstuck hopen => ?_⟩
    · have k := execKennelScan_keeps (K := 2 ^ Part.time.num + 2 ^ Part.hedge.num) c (by decide) h (hexec c)
      exact ⟨_, hexec c, k.part .time (by decide), k.part .hedge (by decide)⟩
    · have hopen := State.openAs_kennelScan h keyRead_none
      exact ⟨_, hexec _, hopen.pmc, hopen.wakePt⟩
    · have hread : ∀ m : Fin 256, keyRead x m = decide (m = n) := fun m => hx ▸ keyRead_one n m
      exact ⟨fun hrun => ⟨_, hexec x, State.kennelScan_first h hread hlive hwake hstuck hopen hrun⟩,
        fun hrun hen => ⟨_, hexec x, State.kennelScan_second h hread hlive hwake hstuck hopen hrun hsleep hen⟩⟩
  case anyKey =>
    intro k hdeep hwatched
    rw [exec_anyKeyDetect_of_watched hdeep hwatched]
    refine ⟨fun hen => ⟨_, rfl, State.matrixWake_wokenBy h (.inr hdeep) hen, ?_⟩,
      fun hen => by rw [State.matrixWake_of_disabled hen]⟩
    rw [State.matrixWake_keys (.inr hdeep) hen]
    exact ⟨rfl, rfl⟩
  case edge =>
    intro n high
    have hraw := (State.putLevel_raw n (s.edged n high) h).trans (s.edged_raw n high)
    have hself := s.putLevel_di_self n (s.edged n high)
    refine ⟨fun hawake => ⟨_, exec_diEdge s n high, hself.trans (if_neg (Bool.eq_false_iff.mp hawake)), hraw⟩,
      fun hasleep => ⟨_, exec_diEdge s n high, hself.trans (if_pos hasleep), hraw⟩, fun t ht => ?_⟩
    obtain rfl := Host.Outcome.next.inj ((exec_diEdge s n high).symm.trans ht)
    exact State.putLevel_frame n _ h
  case debounce =>
    intro n hawake
    have hexec := exec_diDebounceExpiry hawake n
    exact ⟨fun hrole hlevel => ⟨_, hexec, State.diAccept_changed_effect h hrole hlevel⟩,
      fun hrole hlevel => ⟨_, hexec, State.diAccept_same_effect h hrole hlevel⟩,
      fun hrole => hexec.trans (congrArg Host.Outcome.next (State.diAccept_of_unused hrole))⟩
  case discrepancy =>
    exact fun k htiming hfault => ⟨_, exec_pairDiscrepancyTimeout_of_timing htiming hfault, State.pairFaulted_effect h k⟩
  case inputWake =>
    exact fun n hasleep hrole => ⟨fun hsleep hen => ⟨_, exec_diKennelWake hasleep hrole, State.diWake_effect h hsleep hen⟩,
      fun hen => ⟨_, exec_diKennelWake hasleep hrole, State.diWake_effect_of_disabled h hen⟩⟩

end Sys2Proof.Machine
end

section
/-! SUPPORT. Nodes that trigger no built-in response (06_hedge.md, R16, R142), parts of a field, and words packed of two
halves. -/

namespace Sys2Proof.Machine

/-! ### Nodes -/

theorem State.node_congr {s t : State} (h : t.hedge = s.hedge) (m : Nat) : t.node m = s.node m :=
  congrArg (fun g : Hedge => g.nodes.getLsbD m) h

/-- Every bit of a node vector after one is replaced. -/
theorem setBit128_getLsbD (v : BitVec 128) {n : Nat} (hn : n < 128) (b : Bool) (m : Nat) :
    (setBit128 v n b).getLsbD m = if m = n then b else v.getLsbD m := by
  cases b with
  | true =>
    rw [setBit128_true_getLsbD v hn]
    split
    case isTrue hm => simp [hm]
    case isFalse hm => simp [hm]
  | false =>
    unfold setBit128
    rw [if_neg Bool.false_ne_true, BitVec.getLsbD_and, BitVec.getLsbD_not, BitVec.getLsbD_ofNat, Nat.testBit_two_pow]
    split
    case isTrue hm => simp [hm]
    case isFalse hm =>
      by_cases hlt : m < 128
      · simp [hlt, Ne.symm hm]
      · simp [hlt, BitVec.getLsbD_of_ge v m (by omega)]

/-- A node below the first trigger of a built-in response is driven and nothing else follows (R16, R146). -/
theorem State.setNode_of_lt (s : State) {n : Nat} (hn : n < 67) (b : Bool) :
    s.setNode n b = { s with hedge.nodes := setBit128 s.hedge.nodes n b } := by
  unfold State.setNode
  rw [if_neg (by simp [reservedNode]; omega)]
  exact if_neg (by simp; omega)

/-! ### Fields -/

/-- A field within the low bits `h` to 0. -/
theorem wfld_of_low (w : Word) {h hi lo : Nat} (hh : hi ≤ h) : wfld w hi lo = (wfld w h 0 >>> lo) % 2 ^ (hi + 1 - lo) := by
  apply Nat.eq_of_testBit_eq
  intro i
  unfold wfld
  rw [Nat.testBit_mod_two_pow, Nat.testBit_mod_two_pow, Nat.testBit_shiftRight, Nat.testBit_shiftRight, Nat.testBit_mod_two_pow,
    Nat.shiftRight_zero]
  by_cases hlt : i < hi + 1 - lo
  · simp [hlt, show lo + i ≤ h by omega]
  · simp [hlt]

theorem wfld_satInc_other (w : Word) {hi lo hi' lo' : Nat} (h : hi' < lo ∨ hi < lo') :
    wfld (satInc w hi lo) hi' lo' = wfld w hi' lo' := by
  unfold satInc
  split
  case isTrue => exact wfld_wset_other _ _ h
  case isFalse => rfl

theorem State.fld_inc_other {s : State} (h : s.Stored) (a : Nat) {hi lo hi' lo' : Nat} (hd : hi' < lo ∨ hi < lo') :
    (s.inc a hi lo).fld a hi' lo' = s.fld a hi' lo' := by
  unfold State.fld
  rw [State.reg_inc h, if_pos rfl, wfld_satInc_other _ hd]

/-- A word packed of two halves. -/
theorem pack_halves_toNat {lo hi : Nat} (hlo : lo ≤ 65535) (hhi : hi ≤ 65535) :
    (pack [(lo, 0), (hi, 16)]).toNat = hi * 65536 + lo := by
  have hor : hi <<< 16 + lo = hi <<< 16 ||| lo := Nat.shiftLeft_add_eq_or_of_lt (show lo < 2 ^ 16 by omega) hi
  rw [Nat.shiftLeft_eq] at hor
  show (0#32 ||| BitVec.ofNat 32 (lo <<< 0) ||| BitVec.ofNat 32 (hi <<< 16)).toNat = _
  rw [BitVec.zero_or, BitVec.toNat_or, BitVec.toNat_ofNat, BitVec.toNat_ofNat, Nat.shiftLeft_zero, Nat.shiftLeft_eq,
    Nat.mod_eq_of_lt (by omega), Nat.mod_eq_of_lt (by omega), Nat.or_comm]
  exact hor.symm

theorem wfld_pack_halves {lo hi : Nat} (hlo : lo ≤ 65535) (hhi : hi ≤ 65535) :
    wfld (pack [(lo, 0), (hi, 16)]) 15 0 = lo ∧ wfld (pack [(lo, 0), (hi, 16)]) 31 16 = hi := by
  unfold wfld
  rw [pack_halves_toNat hlo hhi, Nat.shiftRight_zero, Nat.shiftRight_eq_div_pow]
  omega

end Sys2Proof.Machine
end

section
/-! SUPPORT. The encoders (05_encoders_and_cliffs.md, R117 to R127): a status bit with its node, what the judgement of the
overspeed node leaves, and what each command leaves. -/

namespace Sys2Proof.Machine

/-! ### A status bit with its node (R120, R123) -/

/-- At most bit `i` of the status register `a` and node `k` differ, among motion, registers and nodes. -/
structure State.StatusAs (s t : State) (a i k : Nat) : Prop where
  stored : t.Stored
  motion : t.motion = s.motion
  regs : s.sameRegsBut t [a]
  flags : ∀ j, j ≠ i → t.flag a j = s.flag a j
  fields : ∀ hi lo, i < lo ∨ hi < i → t.fld a hi lo = s.fld a hi lo
  nodes : ∀ m, m ≠ k → t.node m = s.node m

theorem State.StatusAs.refl {s : State} (h : s.Stored) (a i k : Nat) : s.StatusAs s a i k :=
  ⟨h, rfl, fun _ _ => rfl, fun _ _ => rfl, fun _ _ _ => rfl, fun _ _ => rfl⟩

/-- What posts a record leaves motion, registers and nodes. -/
theorem State.StatusAs.congr {s t u : State} {a i k : Nat} (h : s.StatusAs t a i k) (hst : u.Stored)
    (hmotion : u.motion = t.motion) (hregs : ∀ x, u.reg x = t.reg x) (hhedge : u.hedge = t.hedge) : s.StatusAs u a i k :=
  ⟨hst, hmotion.trans h.motion, fun x hx => (hregs x).trans (h.regs x hx),
    fun j hj => (State.flag_congr (hregs a) j).trans (h.flags j hj),
    fun hi lo hd => (State.fld_congr (hregs a) hi lo).trans (h.fields hi lo hd),
    fun m hm => (State.node_congr hhedge m).trans (h.nodes m hm)⟩

theorem State.StatusAs.reg {s t : State} {a i k x : Nat} (h : s.StatusAs t a i k) (hx : x ≠ a) : t.reg x = s.reg x :=
  h.regs x (by simpa using hx)

/-- Bit `i` of a status register, and node `k` that shows it. -/
def State.showBit (s : State) (a i k : Nat) (b : Bool) : State := (s.setFlag a i b).setNode k b

theorem State.setOverspeed_eq (s : State) (n : Fin 4) (b : Bool) :
    s.setOverspeed n b = s.showBit (Reg.MOTION_ENC_STATUS n) 1 (56 + n) b := rfl

theorem State.setEncFault_eq (s : State) (n : Fin 4) (b : Bool) :
    s.setEncFault n b = s.showBit (Reg.MOTION_ENC_STATUS n) 2 (60 + n) b := rfl

section ShowBit

variable {s : State} (h : s.Stored) (a : Nat) {i k : Nat} (hk : k < 67) (b : Bool)

include hk in
theorem State.showBit_eq : s.showBit a i k b = { s.setFlag a i b with hedge.nodes := setBit128 s.hedge.nodes k b } :=
  (s.setFlag a i b).setNode_of_lt hk b

include hk in
theorem State.showBit_node (m : Nat) : (s.showBit a i k b).node m = if m = k then b else s.node m := by
  rw [State.showBit_eq a hk]
  exact setBit128_getLsbD _ (by omega) b m

include h hk

theorem State.showBit_shown (hi : i < 32) : (s.showBit a i k b).flag a i = b ∧ (s.showBit a i k b).node k = b := by
  refine ⟨?_, (State.showBit_node a hk b k).trans (if_pos rfl)⟩
  rw [State.showBit_eq a hk]
  exact State.flag_setFlag_self h a b hi

theorem State.statusAs_showBit : s.StatusAs (s.showBit a i k b) a i k where
  stored := by
    rw [State.showBit_eq a hk]
    exact (h.setFlag a i b).congr rfl rfl rfl
  motion := by rw [State.showBit_eq a hk]; rfl
  regs x hx := by
    rw [State.showBit_eq a hk]
    exact (State.reg_setFlag h a i b x).trans (if_neg (List.ne_of_not_mem_cons hx))
  flags j hj := by
    rw [State.showBit_eq a hk]
    exact State.flag_setFlag_other h b (.inr hj)
  fields hi lo hd := by
    rw [State.showBit_eq a hk]
    exact State.fld_setFld_other h _ (.inr hd.symm)
  nodes m hm := (State.showBit_node a hk b m).trans (if_neg hm)

end ShowBit

/-! ### Records (R124) -/

@[simp] theorem State.postEnc_reg (s : State) (n : Fin 4) (kind pos interval : Nat) (p : Time) (x : Nat) :
    (s.postEnc n kind pos interval p).reg x = s.reg x := State.postAt_reg _ _ _ _ _ _

@[simp] theorem State.postEnc_motion (s : State) (n : Fin 4) (kind pos interval : Nat) (p : Time) :
    (s.postEnc n kind pos interval p).motion = s.motion := State.postAt_motion _ _ _ _ _

@[simp] theorem State.postEnc_hedge (s : State) (n : Fin 4) (kind pos interval : Nat) (p : Time) :
    (s.postEnc n kind pos interval p).hedge = s.hedge := State.postAt_hedge _ _ _ _ _

theorem State.Stored.postEnc {s : State} (h : s.Stored) (n : Fin 4) (kind pos interval : Nat) (p : Time) :
    (s.postEnc n kind pos interval p).Stored :=
  (State.postEnc_keeps (K := 0) n kind pos interval p (Nat.zero_and _) (Keeps.refl h)).stored

theorem State.StatusAs.postEnc {s t : State} {a i k : Nat} (h : s.StatusAs t a i k) (n : Fin 4) (kind pos interval : Nat)
    (p : Time) : s.StatusAs (t.postEnc n kind pos interval p) a i k :=
  h.congr (h.stored.postEnc n kind pos interval p) (State.postEnc_motion ..) (State.postEnc_reg t n kind pos interval p)
    (State.postEnc_hedge ..)

/-! ### One channel replaced -/

@[simp] theorem State.setEnc_enc_self (s : State) (n : Fin 4) (x : Enc) : (s.setEnc n x).motion.enc[n] = x :=
  Vector.getElem_set_self n.isLt

theorem State.setEnc_enc_other (s : State) {n m : Fin 4} (x : Enc) (h : m ≠ n) :
    (s.setEnc n x).motion.enc[m] = s.motion.enc[m] :=
  Vector.getElem_set_ne n.isLt m.isLt fun e => h (Fin.ext e.symm)

theorem State.Stored.setEnc {s : State} (h : s.Stored) (n : Fin 4) (x : Enc) : (s.setEnc n x).Stored := h.congr rfl rfl rfl

/-! ### The judgement of the overspeed node (R123) -/

/-- The count of consecutive edges below OVS_INT, the present edge included. -/
def State.fastCount (s : State) (n : Fin 4) : Nat :=
  if (s.motion.enc[n]).interval s.time.pt < s.fld (Reg.MOTION_ENC_OVS n) 23 0 then (s.motion.enc[n]).fast + 1 else 0

/-- Channel `n` with that count. -/
def State.fastCounted (s : State) (n : Fin 4) : State := s.setEnc n { s.motion.enc[n] with fast := s.fastCount n }

theorem State.ovsJudge_eq (s : State) (n : Fin 4) : ∃ (raised : Bool) (i : Nat), s.ovsJudge n =
    if raised then ((s.fastCounted n).setOverspeed n true).postEnc n 2 (s.encPos n).toNat i s.time.pt
    else (s.fastCounted n).ovsClear n := ⟨_, _, rfl⟩

section Overspeed

variable {s : State} (h : s.Stored) (n : Fin 4)

theorem State.ovsClear_of_reached (hset : s.flag (Reg.MOTION_ENC_STATUS n) 1 = true)
    (hrel : s.fld (Reg.MOTION_ENC_OVS_REL n) 23 0 ≤ (s.motion.enc[n]).interval s.time.pt) :
    s.ovsClear n = (s.setOverspeed n false).postEnc n 3 (s.encPos n).toNat ((s.motion.enc[n]).interval s.time.pt)
      s.time.pt := by
  unfold State.ovsClear
  dsimp only
  rw [hset, decide_eq_true hrel]
  rfl

include h

theorem State.statusAs_setOverspeed (b : Bool) :
    s.StatusAs (s.setOverspeed n b) (Reg.MOTION_ENC_STATUS n) 1 (56 + n) := by
  rw [State.setOverspeed_eq]
  exact State.statusAs_showBit h _ (by omega) b

theorem State.setOverspeed_effect (b : Bool) :
    (s.setOverspeed n b).flag (Reg.MOTION_ENC_STATUS n) 1 = b ∧ (s.setOverspeed n b).node (56 + n) = b := by
  rw [State.setOverspeed_eq]
  exact State.showBit_shown h _ (by omega) b (by decide)

theorem State.statusAs_ovsClear : s.StatusAs (s.ovsClear n) (Reg.MOTION_ENC_STATUS n) 1 (56 + n) := by
  unfold State.ovsClear
  dsimp only
  split
  case isTrue reached => exact (State.statusAs_setOverspeed h n false).postEnc ..
  case isFalse => exact .refl h _ _ _

/-- The judgement counts in the channel, and may change the overspeed bit and its node. -/
theorem State.statusAs_ovsJudge :
    (s.fastCounted n).StatusAs (s.ovsJudge n) (Reg.MOTION_ENC_STATUS n) 1 (56 + n) := by
  have hset : (s.fastCounted n).Stored := h.setEnc n _
  obtain ⟨raised, i, e⟩ := s.ovsJudge_eq n
  rw [e]
  cases raised with
  | true => exact (State.statusAs_setOverspeed hset n true).postEnc ..
  | false => exact State.statusAs_ovsClear hset n

/-- The release: the bit and the node clear. -/
theorem State.ovsClear_effect (hset : s.flag (Reg.MOTION_ENC_STATUS n) 1 = true)
    (hrel : s.fld (Reg.MOTION_ENC_OVS_REL n) 23 0 ≤ (s.motion.enc[n]).interval s.time.pt) :
    (s.ovsClear n).flag (Reg.MOTION_ENC_STATUS n) 1 = false ∧ (s.ovsClear n).node (56 + n) = false := by
  rw [State.ovsClear_of_reached n hset hrel]
  obtain ⟨hflag, hnode⟩ := State.setOverspeed_effect h n false
  exact ⟨(State.flag_congr (State.postEnc_reg ..) 1).trans hflag, (State.node_congr (State.postEnc_hedge ..) _).trans hnode⟩

end Overspeed

/-! ### An edge while awake (R117, R121, R122) -/

theorem encPos_ne_status (m n : Fin 4) : Reg.MOTION_ENC_POS m ≠ Reg.MOTION_ENC_STATUS n := by
  dsimp only [Reg.MOTION_ENC_POS, Reg.MOTION_ENC_STATUS]
  omega

/-- The channel with the edge in its history, stamped. -/
def State.edgeStamped (s : State) (n : Fin 4) (up : Bool) : Enc :=
  { s.motion.enc[n] with
    hist := (s.time.pt :: (if up = s.flag (Reg.MOTION_ENC_STATUS n) 0 then (s.motion.enc[n]).hist else [])).take 5
    edgePt := s.time.pt }

/-- The edge taken, before the overspeed node is judged. -/
def State.edgeTaken (s : State) (n : Fin 4) (up : Bool) : State :=
  ((s.setEnc n (s.edgeStamped n up)).setReg (Reg.MOTION_ENC_POS n)
    (if up then s.encPos n + 1 else s.encPos n - 1)).setFlag (Reg.MOTION_ENC_STATUS n) 0 up

theorem State.encEdge_eq (s : State) (n : Fin 4) (up : Bool) : s.encEdge n up = (s.edgeTaken n up).ovsJudge n := rfl

section Edge

variable {s : State} (h : s.Stored) (n : Fin 4) (up : Bool)
include h

theorem State.edgeTaken_pos (m : Fin 4) : (s.edgeTaken n up).reg (Reg.MOTION_ENC_POS m) =
    if m = n then (if up then s.encPos n + 1 else s.encPos n - 1) else s.reg (Reg.MOTION_ENC_POS m) := by
  have hset := h.setEnc n (s.edgeStamped n up)
  unfold State.edgeTaken
  rw [State.reg_setFlag (hset.setReg _ _), if_neg (encPos_ne_status m n), State.reg_setReg hset]
  by_cases hm : m = n
  · rw [if_pos hm, if_pos (congrArg (fun k : Fin 4 => Reg.MOTION_ENC_POS k) hm)]
  · rw [if_neg hm, if_neg (fun e => hm (Fin.ext (by dsimp only [Reg.MOTION_ENC_POS] at e; omega)))]
    rfl

theorem State.edgeTaken_stored : (s.edgeTaken n up).Stored := ((h.setEnc n _).setReg _ _).setFlag _ _ _

/-- Position, stamp and direction of the channel; the other channels stand. -/
theorem State.encEdge_effect :
    (s.encEdge n up).reg (Reg.MOTION_ENC_POS n) = (if up then s.encPos n + 1 else s.encPos n - 1) ∧
    ((s.encEdge n up).motion.enc[n]).edgePt = s.time.pt ∧ (s.encEdge n up).flag (Reg.MOTION_ENC_STATUS n) 0 = up ∧
    ∀ m : Fin 4, m ≠ n → (s.encEdge n up).reg (Reg.MOTION_ENC_POS m) = s.reg (Reg.MOTION_ENC_POS m) ∧
      (s.encEdge n up).motion.enc[m] = s.motion.enc[m] := by
  have hjudge := State.statusAs_ovsJudge (State.edgeTaken_stored h n up) n
  rw [State.encEdge_eq]
  have hpos (m : Fin 4) : ((s.edgeTaken n up).ovsJudge n).reg (Reg.MOTION_ENC_POS m) =
      (s.edgeTaken n up).reg (Reg.MOTION_ENC_POS m) := hjudge.reg (encPos_ne_status m n)
  have henc (m : Fin 4) : ((s.edgeTaken n up).ovsJudge n).motion.enc[m] =
      ((s.edgeTaken n up).fastCounted n).motion.enc[m] := congrArg (fun x : Motion => x.enc[m]) hjudge.motion
  refine ⟨(hpos n).trans ((State.edgeTaken_pos h n up n).trans (if_pos rfl)), ?_, ?_, fun m hm => ⟨?_, ?_⟩⟩
  · rw [henc n, State.fastCounted, State.setEnc_enc_self]
    exact congrArg Enc.edgePt (State.setEnc_enc_self s n _)
  · exact (hjudge.flags 0 (by decide)).trans (State.flag_setFlag_self ((h.setEnc n _).setReg _ _) _ up (by decide))
  · exact (hpos m).trans ((State.edgeTaken_pos h n up m).trans (if_neg hm))
  · rw [henc m, State.fastCounted, State.setEnc_enc_other _ _ hm]
    exact State.setEnc_enc_other s _ hm

end Edge

/-! ### An illegal transition (R120) -/

/-- The transition counted, the position uncertain and the history empty. -/
def State.illegalTaken (s : State) (n : Fin 4) : State :=
  ((s.setFlag (Reg.MOTION_ENC_STATUS n) 3 true).inc (Reg.MOTION_ENC_STATUS n) 31 16).setEnc n
    { s.motion.enc[n] with hist := [], fast := 0 }

/-- ENCODER_FAULT active, with its record where the node was inactive (R124). -/
def State.faultShown (s : State) (n : Fin 4) (first : Bool) : State :=
  let t := s.setEncFault n true
  if first then t.postEnc n 4 (t.encPos n).toNat infInterval t.time.pt else t

theorem State.encIllegal_eq (s : State) (n : Fin 4) :
    s.encIllegal n = ((s.illegalTaken n).faultShown n (!s.flag (Reg.MOTION_ENC_STATUS n) 2)).ovsClear n := rfl

section Illegal

variable {s : State} (h : s.Stored) (n : Fin 4)
include h

theorem State.statusAs_setEncFault (b : Bool) :
    s.StatusAs (s.setEncFault n b) (Reg.MOTION_ENC_STATUS n) 2 (60 + n) := by
  rw [State.setEncFault_eq]
  exact State.statusAs_showBit h _ (by omega) b

theorem State.setEncFault_effect (b : Bool) :
    (s.setEncFault n b).flag (Reg.MOTION_ENC_STATUS n) 2 = b ∧ (s.setEncFault n b).node (60 + n) = b := by
  rw [State.setEncFault_eq]
  exact State.showBit_shown h _ (by omega) b (by decide)

theorem State.faultShown_effect (first : Bool) :
    s.StatusAs (s.faultShown n first) (Reg.MOTION_ENC_STATUS n) 2 (60 + n) ∧
      (s.faultShown n first).flag (Reg.MOTION_ENC_STATUS n) 2 = true ∧ (s.faultShown n first).node (60 + n) = true := by
  have hshown := State.statusAs_setEncFault h n true
  obtain ⟨hflag, hnode⟩ := State.setEncFault_effect h n true
  cases first with
  | true =>
    exact ⟨hshown.postEnc .., (State.flag_congr (State.postEnc_reg ..) 2).trans hflag,
      (State.node_congr (State.postEnc_hedge ..) _).trans hnode⟩
  | false => exact ⟨hshown, hflag, hnode⟩

/-- The count, POS_UNCERTAIN and the empty history; the position stands. -/
theorem State.illegalTaken_effect :
    (s.illegalTaken n).Stored ∧ (s.illegalTaken n).reg (Reg.MOTION_ENC_POS n) = s.reg (Reg.MOTION_ENC_POS n) ∧
    (s.illegalTaken n).flag (Reg.MOTION_ENC_STATUS n) 3 = true ∧
    (s.illegalTaken n).fld (Reg.MOTION_ENC_STATUS n) 31 16 = min 0xFFFF (s.fld (Reg.MOTION_ENC_STATUS n) 31 16 + 1) ∧
    ((s.illegalTaken n).motion.enc[n]).hist = [] := by
  have hset := h.setFlag (Reg.MOTION_ENC_STATUS n) 3 true
  refine ⟨(hset.inc _ _ _).setEnc n _, ?_, ?_, ?_, congrArg Enc.hist (State.setEnc_enc_self _ n _)⟩
  · refine (State.reg_inc hset _ _ _ _).trans ?_
    rw [if_neg (encPos_ne_status n n), State.reg_setFlag h, if_neg (encPos_ne_status n n)]
  · exact (State.flag_inc_other hset _ (by decide)).trans (State.flag_setFlag_self h _ true (by decide))
  · refine (State.fld_inc_self hset _ (by decide) (by decide)).trans ?_
    rw [State.setFlag, State.fld_setFld_other h _ (by omega)]
    rfl

theorem State.encIllegal_effect :
    (s.encIllegal n).reg (Reg.MOTION_ENC_POS n) = s.reg (Reg.MOTION_ENC_POS n) ∧
    (s.encIllegal n).flag (Reg.MOTION_ENC_STATUS n) 3 = true ∧
    (s.encIllegal n).fld (Reg.MOTION_ENC_STATUS n) 31 16 = min 0xFFFF (s.fld (Reg.MOTION_ENC_STATUS n) 31 16 + 1) ∧
    ((s.encIllegal n).motion.enc[n]).hist = [] ∧ (s.encIllegal n).flag (Reg.MOTION_ENC_STATUS n) 2 = true ∧
    (s.encIllegal n).node (60 + n) = true := by
  obtain ⟨hst, hpos, huncertain, hcount, hhist⟩ := State.illegalTaken_effect h n
  obtain ⟨hshown, hflag, hnode⟩ := State.faultShown_effect hst n (!s.flag (Reg.MOTION_ENC_STATUS n) 2)
  have hjudged := State.statusAs_ovsClear hshown.stored n
  rw [State.encIllegal_eq]
  exact ⟨(hjudged.reg (encPos_ne_status n n)).trans ((hshown.reg (encPos_ne_status n n)).trans hpos),
    (hjudged.flags 3 (by decide)).trans ((hshown.flags 3 (by decide)).trans huncertain),
    (hjudged.fields 31 16 (by decide)).trans ((hshown.fields 31 16 (by decide)).trans hcount),
    (congrArg (fun x : Motion => x.enc[n].hist) (hjudged.motion.trans hshown.motion)).trans hhist,
    (hjudged.flags 2 (by decide)).trans hflag, (hjudged.nodes _ (by omega)).trans hnode⟩

end Illegal

/-! ### The Kennel edge counter (R126) -/

section Kennel

variable {s : State} (h : s.Stored) (n : Fin 4) (k : Nat)

/-- Channel `n` with its Kennel count. -/
def State.kennelSet (s : State) (n : Fin 4) (k : Nat) : State := s.setEnc n { s.motion.enc[n] with kedges := satN 16 k }

include h

theorem State.kennelCount_effect :
    ((s.kennelCount n k).motion.enc[n]).kedges = min 0xFFFF k ∧
      (s.kennelCount n k).reg (Reg.MOTION_ENC_POS n) = s.reg (Reg.MOTION_ENC_POS n) := by
  have hset : (s.kennelSet n k).Stored := h.setEnc n _
  have hkeeps : Keeps (2 ^ Part.motion.num + 2 ^ (Part.block 4).num) (s.kennelSet n k) (s.kennelCount n k) :=
    .ite (fun _ => State.wakeDetect_keeps _ _ (by decide) (.refl hset)) fun _ => .refl hset
  refine ⟨?_, hkeeps.part (.block 4) (by decide) _ (by dsimp only [Reg.MOTION_ENC_POS]; omega)⟩
  refine (congrArg (fun x : Motion => x.enc[n].kedges) (hkeeps.part .motion (by decide))).trans ?_
  exact (congrArg Enc.kedges (State.setEnc_enc_self s n _)).trans (Nat.min_comm _ _)

/-- The count that reaches WAKE_EDGES wakes the controller from a sleep. -/
theorem State.kennelCount_wokenBy (hold : (s.motion.enc[n]).kedges < s.fld (Reg.MOTION_ENC_WAKE n) 15 0)
    (hk : s.fld (Reg.MOTION_ENC_WAKE n) 15 0 ≤ k) (hsleep : s.inSleep = true ∨ s.inDeepSleep = true)
    (hen : s.flag Reg.PMC_WAKE_EN 3 = true) : s.WokenBy (s.kennelCount n k) 0x04 n := by
  have hcount : s.kennelCount n k = (s.kennelSet n k).wakeDetect 0x04 n := by
    refine if_pos ?_
    rw [decide_eq_true hold, decide_eq_true hk, decide_eq_true (Nat.ne_of_gt (Nat.zero_lt_of_lt hold))]
    rfl
  rw [hcount, State.wakeDetect_of_enabled (s := s.kennelSet n k) (code := 0x04) hen]
  exact (State.wakeFire_wokenBy (s := s.kennelSet n k) (h.setEnc n _) hsleep (by decide) n).of_start rfl rfl

end Kennel

/-! ### The rows of the encoders -/

theorem State.awake_of_encRuns {s : State} {n : Nat} (h : s.encRuns n = true) : s.asleep = false := by
  rw [State.encRuns, Bool.and_eq_true, Bool.and_eq_true, Bool.not_eq_true'] at h
  obtain ⟨⟨-, hawake⟩, -⟩ := h
  exact hawake

section Rows

variable {s : State} {n : Fin 4}

theorem exec_encoderEdge_of_runs (h : s.encRuns n = true) (onB a b : Bool) :
    exec (.encoderEdge n onB a b) s = .next (s.encEdge n (s.encUp n onB a b)) := by
  show execEncoderEdge n onB a b s = _
  simp [execEncoderEdge, State.awake_of_encRuns h, h]

theorem exec_encoderEdge_of_asleep (h : s.asleep = true) (onB a b : Bool) :
    exec (.encoderEdge n onB a b) s = .next (s.kennelCount n ((s.motion.enc[n]).kedges + 1)) :=
  congrArg Host.Outcome.next (if_pos h)

theorem exec_overspeedRelease_of_runs (h : s.encRuns n = true) : exec (.overspeedRelease n) s = .next (s.ovsClear n) :=
  congrArg Host.Outcome.next (if_pos h)

theorem exec_illegalTransition_of_runs (h : s.encRuns n = true) :
    exec (.illegalTransition n) s = .next (s.encIllegal n) := by
  show execIllegalTransition n s = _
  simp [execIllegalTransition, State.awake_of_encRuns h, h]

theorem exec_faultHoldExpiry_of_awake (h : s.asleep = false) : exec (.faultHoldExpiry n) s = .next (s.setEncFault n false) :=
  congrArg Host.Outcome.next (if_neg (Bool.eq_false_iff.mp h))

theorem exec_motionWake_of_below (h : s.asleep = true)
    (hbelow : (s.motion.enc[n]).kedges < s.fld (Reg.MOTION_ENC_WAKE n) 15 0) :
    exec (.motionWake n) s = .next (s.kennelCount n (s.fld (Reg.MOTION_ENC_WAKE n) 15 0)) :=
  congrArg Host.Outcome.next (if_pos (by rw [h, decide_eq_true hbelow]; rfl))

/-- The channel with its position reported, and the record of kind 1 (R124). -/
def State.reportSent (s : State) (n : Fin 4) : State :=
  (s.setEnc n { s.motion.enc[n] with reported := s.encPos n }).postEnc n 1 (s.encPos n).toNat
    ((s.motion.enc[n]).interval (s.motion.enc[n]).edgePt) (s.motion.enc[n]).edgePt

theorem exec_encoderReport_of_moved (h : s.encRuns n = true) (hreport : s.fld (Reg.MOTION_ENC_CFG n) 17 8 ≠ 0)
    (hmoved : s.encPos n ≠ (s.motion.enc[n]).reported) : exec (.encoderReport n) s = .next (s.reportSent n) :=
  congrArg Host.Outcome.next (if_pos (by rw [h, decide_eq_true hreport, decide_eq_true hmoved]; rfl))

theorem State.reportSent_effect (s : State) (n : Fin 4) :
    ((s.reportSent n).motion.enc[n]).reported = s.encPos n ∧ (s.reportSent n).hedge = s.hedge ∧
      s.sameBlocks (s.reportSent n) (List.range 16) := by
  refine ⟨?_, State.postEnc_hedge .., fun x _ => State.postEnc_reg _ _ _ _ _ _ x⟩
  unfold State.reportSent
  rw [State.postEnc_motion, State.setEnc_enc_self]

end Rows

end Sys2Proof.Machine
end

section
/-! SUPPORT. The cliff channels (05_encoders_and_cliffs.md, R130 to R135): the share of a photocurrent, what a result leaves, and
the commands of the chapter. -/

namespace Sys2Proof.Machine

/-! ### The share of a photocurrent (R130) -/

/-- A fraction of at most a whole number is not rounded above it. -/
theorem State.roundFrac_le (s : State) {n d w : Int} (hd : 0 < d) (h : n ≤ w * d) : (s.roundFrac n d).2 ≤ w := by
  unfold State.roundFrac
  split
  case isTrue whole => exact Int.ediv_le_of_le_mul hd h
  case isFalse frac =>
    have hne : n ≠ w * d := fun e => frac (e ▸ Int.mul_emod_left w d)
    have hlt := Int.ediv_lt_of_lt_mul hd (lt_of_le_of_ne h hne)
    dsimp only
    omega

/-- A fraction of at least a whole number is not rounded below it. -/
theorem State.le_roundFrac (s : State) {n d w : Int} (hd : 0 < d) (h : w * d ≤ n) : w ≤ (s.roundFrac n d).2 := by
  have hle := Int.le_ediv_of_mul_le hd h
  unfold State.roundFrac
  split
  case isTrue whole => exact hle
  case isFalse frac =>
    dsimp only
    omega

/-- The full scale of a range in pA. -/
def fullScale (r : Nat) : Nat := [10000000, 50000000, 250000000].getD r 0

theorem fullScale_pos : ∀ r < 3, 0 < fullScale r := by decide

section Shares

variable (s : State) {n : Fin 8} (h : s.fld (Reg.MOTION_CLF_CFG n) 3 2 < 3)
include h

theorem State.photoShare_of_range (i : Int) :
    (s.photoShare n i).2 =
      (max 0 (min 65535 (s.roundFrac (i * 65535) (fullScale (s.fld (Reg.MOTION_CLF_CFG n) 3 2))).2)).toNat := by
  unfold State.photoShare
  generalize s.fld (Reg.MOTION_CLF_CFG n) 3 2 = r at h
  match r, h with
  | 0, _ => rfl
  | 1, _ => rfl
  | 2, _ => rfl

/-- The share at the two ends of its range, and where the rule gives a whole number. -/
theorem State.photoShare_effect {fs : Nat} (hfs : fs = fullScale (s.fld (Reg.MOTION_CLF_CFG n) 3 2)) (i : Int) :
    (s.photoShare n i).2 ≤ 65535 ∧ (i ≤ 0 → (s.photoShare n i).2 = 0) ∧ (fs ≤ i → (s.photoShare n i).2 = 65535) ∧
      ∀ v : Nat, v ≤ 65535 → i * 65535 = v * fs → (s.photoShare n i).2 = v := by
  have hpos : (0 : Int) < fs := by
    have := fullScale_pos _ h
    omega
  have hle (w : Int) := s.roundFrac_le (n := i * 65535) (w := w) hpos
  have hge (w : Int) := s.le_roundFrac (n := i * 65535) (w := w) hpos
  rw [s.photoShare_of_range h, ← hfs]
  refine ⟨by omega, fun hi => ?_, fun hi => ?_, fun v hv hexact => ?_⟩
  · have := hle 0 (by omega)
    omega
  · have := hge 65535 (by omega)
    omega
  · have hup := hle v hexact.le
    have hdown := hge v hexact.ge
    omega

end Shares

/-- The draws of the shares change no register. -/
theorem State.cliffShares_keeps_regs {s : State} (h : s.Stored) (n : Fin 8) (x : CliffData) :
    (s.cliffShares n x).1.Stored ∧ ∀ a, a / 4096 = 4 → (s.cliffShares n x).1.reg a = s.reg a :=
  have k : Keeps (2 ^ (Part.block 4).num) s (s.cliffShares n x).1 := State.cliffShares_keeps n x (by decide) (.refl h)
  ⟨k.stored, k.part (.block 4) (by decide)⟩

/-! ### What a result writes (R130 to R135) -/

theorem b2n_le (b : Bool) : b2n b ≤ 1 := by
  cases b with
  | true => exact Nat.le_refl 1
  | false => exact Nat.zero_le 1

theorem fourFlags_lt (cliff opn sht sat : Bool) : b2n cliff + 2 * b2n opn + 4 * b2n sht + 8 * b2n sat < 16 := by
  have hcliff := b2n_le cliff
  have hopn := b2n_le opn
  have hsht := b2n_le sht
  have hsat := b2n_le sat
  omega

/-- The counts of a result, its two values and the low half of CLF_STATUS. -/
def State.cliffSet (s : State) (n : Fin 8) (c : Cliff) (refl ambient low : Nat) : State :=
  (State.setReg { s with motion.cliff := s.motion.cliff.set n c } (Reg.MOTION_CLF_RESULT n)
    (pack [(refl, 0), (ambient, 16)])).setFld (Reg.MOTION_CLF_STATUS n) 15 0 low

/-- One count for each fault that the result sets (R135). -/
def State.faultsCounted (s : State) (n : Fin 8) (old new : Nat) : State :=
  [1, 2, 3].foldl (fun s i => if nbit new i && !nbit old i then s.inc (Reg.MOTION_CLF_STATUS n) 31 16 else s) s

/-- The records of what the result sets and clears (R138). -/
def State.cliffPosted (s : State) (n : Fin 8) (x : CliffData) (old new : Nat) : State :=
  let rise (i : Nat) := nbit new i && !nbit old i
  let fall (i : Nat) := nbit old i && !nbit new i
  let s := if rise 0 then s.postCliff n 1 x else if fall 0 then s.postCliff n 2 x else s
  let s := if rise 1 || rise 2 || rise 3 then s.postCliff n 3 x else s
  if fall 1 || fall 2 || fall 3 then s.postCliff n 4 x else s

/-- CLF_STATUS[15:0] after a result whose four flags are `flags`. -/
def cliffLow (flags : Nat) (onSat node : Bool) (ma : BitVec 16) : Nat :=
  flags + 16 * b2n onSat + 32 * b2n node + 256 * satN 8 ma.toNat

/-- Node 48 + n where the channel's four flags are `flags` (R133). -/
def State.cliffNode (s : State) (n : Fin 8) (flags : Nat) : Bool := decide (s.clfRole n = 2) && decide (flags ≠ 0)

theorem State.cliffResult_eq (s : State) (n : Fin 8) (x : CliffData) :
    ∃ (c : Cliff) (old new : Nat) (onSat : Bool), new < 16 ∧
      s.cliffResult n x =
        let u := (s.cliffShares n x).1
        let node := u.cliffNode n new
        (((u.cliffSet n c (s.cliffShares n x).2.1 (s.cliffShares n x).2.2 (cliffLow new onSat node x.ma)).faultsCounted
          n old new).setNode (48 + n) node).cliffPosted n x old new := by
  exact ⟨_, _, _, _, fourFlags_lt _ _ _ _, rfl⟩

/-- Canonical tables, CLF_RESULT and the low half of CLF_STATUS survive. -/
structure State.CliffAs (s t : State) (n : Fin 8) : Prop where
  stored : t.Stored
  result : t.reg (Reg.MOTION_CLF_RESULT n) = s.reg (Reg.MOTION_CLF_RESULT n)
  low : t.fld (Reg.MOTION_CLF_STATUS n) 15 0 = s.fld (Reg.MOTION_CLF_STATUS n) 15 0

theorem clfResult_ne_status (n : Fin 8) : Reg.MOTION_CLF_RESULT n ≠ Reg.MOTION_CLF_STATUS n := by
  dsimp only [Reg.MOTION_CLF_RESULT, Reg.MOTION_CLF_STATUS]
  omega

theorem State.CliffAs.inc {s t : State} {n : Fin 8} (h : s.CliffAs t n) :
    s.CliffAs (t.inc (Reg.MOTION_CLF_STATUS n) 31 16) n where
  stored := h.stored.inc _ _ _
  result := ((State.reg_inc h.stored _ _ _ _).trans (if_neg (clfResult_ne_status n))).trans h.result
  low := (State.fld_inc_other h.stored _ (.inl (by decide))).trans h.low

theorem State.cliffAs_faultsCounted {s : State} (h : s.Stored) (n : Fin 8) (old new : Nat) :
    s.CliffAs (s.faultsCounted n old new) n := by
  refine List.foldlRecOn (motive := fun t : State => s.CliffAs t n) _ _ ⟨h, rfl, rfl⟩ fun t ht i _ => ?_
  split
  case isTrue rise => exact ht.inc
  case isFalse => exact ht

@[simp] theorem State.postCliff_reg (s : State) (n : Fin 8) (kind : Nat) (x : CliffData) (a : Nat) :
    (s.postCliff n kind x).reg a = s.reg a := State.postAt_reg _ _ _ _ _ _

@[simp] theorem State.postCliff_hedge (s : State) (n : Fin 8) (kind : Nat) (x : CliffData) :
    (s.postCliff n kind x).hedge = s.hedge := State.postAt_hedge _ _ _ _ _

/-- The Hedge and every register stand, as where records alone are posted. -/
structure State.RecordAs (s t : State) : Prop where
  hedge : t.hedge = s.hedge
  regs : ∀ a, t.reg a = s.reg a

theorem State.RecordAs.refl (s : State) : s.RecordAs s := ⟨rfl, fun _ => rfl⟩

theorem State.RecordAs.postCliff {s t : State} (h : s.RecordAs t) (n : Fin 8) (kind : Nat) (x : CliffData) :
    s.RecordAs (t.postCliff n kind x) :=
  ⟨(State.postCliff_hedge ..).trans h.hedge, fun a => (State.postCliff_reg ..).trans (h.regs a)⟩

theorem State.RecordAs.postCliffIf {s t : State} (h : s.RecordAs t) (c : Bool) (n : Fin 8) (kind : Nat) (x : CliffData) :
    s.RecordAs (if c then t.postCliff n kind x else t) := by
  cases c with
  | true => exact h.postCliff n kind x
  | false => exact h

theorem State.recordAs_cliffPosted (s : State) (n : Fin 8) (x : CliffData) (old new : Nat) :
    s.RecordAs (s.cliffPosted n x old new) := by
  have hcliff : s.RecordAs (if nbit new 0 && !nbit old 0 then s.postCliff n 1 x
      else if nbit old 0 && !nbit new 0 then s.postCliff n 2 x else s) := by
    split
    case isTrue rise => exact (RecordAs.refl s).postCliff n 1 x
    case isFalse => exact (RecordAs.refl s).postCliffIf _ n 2 x
  exact (hcliff.postCliffIf _ n 3 x).postCliffIf _ n 4 x

/-- CLF_RESULT and the low half of CLF_STATUS, once the result is stored and its faults are counted. -/
theorem State.cliffSet_counted {s : State} (h : s.Stored) (n : Fin 8) (c : Cliff) (refl ambient old new : Nat) {low : Nat}
    (hlow : low < 65536) :
    ((s.cliffSet n c refl ambient low).faultsCounted n old new).reg (Reg.MOTION_CLF_RESULT n) =
      pack [(refl, 0), (ambient, 16)] ∧
    ((s.cliffSet n c refl ambient low).faultsCounted n old new).fld (Reg.MOTION_CLF_STATUS n) 15 0 = low := by
  have hcounts : ({ s with motion.cliff := s.motion.cliff.set n c } : State).Stored := h.congr rfl rfl rfl
  have hresult := hcounts.setReg (Reg.MOTION_CLF_RESULT n) (pack [(refl, 0), (ambient, 16)])
  have hset : (s.cliffSet n c refl ambient low).Stored := hresult.setFld _ _ _ _
  have hcounted := State.cliffAs_faultsCounted hset n old new
  refine ⟨hcounted.result.trans ((State.reg_setFld hresult _ _ _ _ _).trans ?_), hcounted.low.trans ?_⟩
  · rw [if_neg (clfResult_ne_status n), State.reg_setReg hcounts, if_pos rfl]
  · exact (State.fld_setFld_self hresult _ low (by decide) (by decide)).trans (Nat.mod_eq_of_lt hlow)

/-- Node 48 + n and the records of a result change no register. -/
theorem State.cliffShown_effect (s : State) (n : Fin 8) (x : CliffData) (old new : Nat) (b : Bool) :
    ((s.setNode (48 + n) b).cliffPosted n x old new).node (48 + n) = b ∧
      ∀ a, ((s.setNode (48 + n) b).cliffPosted n x old new).reg a = s.reg a := by
  rw [s.setNode_of_lt (by omega)]
  obtain ⟨hhedge, hregs⟩ := State.recordAs_cliffPosted
    { s with hedge.nodes := setBit128 s.hedge.nodes (48 + n) b } n x old new
  exact ⟨(State.node_congr hhedge _).trans ((setBit128_getLsbD _ (by omega) b _).trans (if_pos rfl)), hregs⟩

theorem cliffLow_lt {flags : Nat} (hflags : flags < 16) (onSat node : Bool) (ma : BitVec 16) :
    cliffLow flags onSat node ma < 65536 := by
  have hsat := b2n_le onSat
  have hnode := b2n_le node
  unfold cliffLow satN
  omega

/-- The flags, and the current of the latest pulse, in CLF_STATUS. -/
theorem wfld_of_cliffLow {w : Word} {flags : Nat} {onSat node : Bool} {ma : BitVec 16} (hflags : flags < 16)
    (hw : wfld w 15 0 = cliffLow flags onSat node ma) : wfld w 3 0 = flags ∧ wfld w 15 8 = min 255 ma.toNat := by
  have hsat := b2n_le onSat
  have hnode := b2n_le node
  rw [wfld_of_low w (h := 15) (by decide), wfld_of_low w (h := 15) (lo := 8) (by decide), hw, cliffLow, satN, Nat.shiftRight_zero,
    Nat.shiftRight_eq_div_pow]
  omega

section CliffResult

variable {s : State} (h : s.Stored) (n : Fin 8) (x : CliffData)
include h

theorem State.cliffResult_effect :
    (s.cliffResult n x).node (48 + n) =
      (decide (s.clfRole n = 2) && decide ((s.cliffResult n x).fld (Reg.MOTION_CLF_STATUS n) 3 0 ≠ 0)) ∧
    (s.cliffResult n x).fld (Reg.MOTION_CLF_STATUS n) 15 8 = min 255 x.ma.toNat ∧
    (s.cliffResult n x).reg (Reg.MOTION_CLF_RESULT n) =
      pack [((s.cliffShares n x).2.1, 0), ((s.cliffShares n x).2.2, 16)] := by
  obtain ⟨hst, hregs⟩ := State.cliffShares_keeps_regs h n x
  obtain ⟨c, old, new, onSat, hnew, e⟩ := s.cliffResult_eq n x
  have hrole : (s.cliffShares n x).1.clfRole n = s.clfRole n :=
    State.fld_congr (hregs _ (by dsimp only [Reg.MOTION_CLF_CFG]; omega)) 1 0
  have hlow := cliffLow_lt hnew onSat ((s.cliffShares n x).1.cliffNode n new) x.ma
  obtain ⟨hresult, hstored⟩ := State.cliffSet_counted hst n c (s.cliffShares n x).2.1 (s.cliffShares n x).2.2 old new hlow
  obtain ⟨hnode, hposted⟩ := State.cliffShown_effect
    (((s.cliffShares n x).1.cliffSet n c _ _ _).faultsCounted n old new) n x old new _
  rw [← e] at hnode hposted
  have hstatus := (State.fld_congr (hposted _) 15 0).trans hstored
  obtain ⟨hflags, hma⟩ := wfld_of_cliffLow hnew hstatus
  refine ⟨hnode.trans ?_, hma, (hposted _).trans hresult⟩
  rw [State.cliffNode, hrole, State.fld, hflags]

/-- REFL and AMBIENT, at the two ends of their range and where the rule gives a whole number (R130). -/
theorem State.cliffResult_shares (hrange : s.fld (Reg.MOTION_CLF_CFG n) 3 2 < 3) {fs : Nat}
    (hfs : fs = fullScale (s.fld (Reg.MOTION_CLF_CFG n) 3 2)) :
    (x.on.toNat ≤ x.off.toNat → (s.cliffResult n x).fld (Reg.MOTION_CLF_RESULT n) 15 0 = 0) ∧
    (x.off.toNat + fs ≤ x.on.toNat → (s.cliffResult n x).fld (Reg.MOTION_CLF_RESULT n) 15 0 = 65535) ∧
    (∀ v, v ≤ 65535 → x.on.toNat * 65535 = x.off.toNat * 65535 + v * fs →
      (s.cliffResult n x).fld (Reg.MOTION_CLF_RESULT n) 15 0 = v) ∧
    (∀ v, v ≤ 65535 → x.off.toNat * 65535 = v * fs → (s.cliffResult n x).fld (Reg.MOTION_CLF_RESULT n) 31 16 = v) ∧
    (fs ≤ x.off.toNat → (s.cliffResult n x).fld (Reg.MOTION_CLF_RESULT n) 31 16 = 65535) := by
  have k : Keeps (2 ^ (Part.block 4).num) s (s.photoShare n ((x.on.toNat : Int) - x.off.toNat)).1 :=
    State.photoShare_keeps n _ (by decide) (.refl h)
  have hcfg : (s.photoShare n ((x.on.toNat : Int) - x.off.toNat)).1.fld (Reg.MOTION_CLF_CFG n) 3 2 =
      s.fld (Reg.MOTION_CLF_CFG n) 3 2 :=
    State.fld_congr (k.part (.block 4) (by decide) _ (by dsimp only [Reg.MOTION_CLF_CFG]; omega)) 3 2
  obtain ⟨hrefl, hzero, hfull, hexact⟩ := s.photoShare_effect hrange hfs ((x.on.toNat : Int) - x.off.toNat)
  obtain ⟨hambient, -, hfull', hexact'⟩ := State.photoShare_effect _ (hcfg ▸ hrange) (hcfg ▸ hfs) (x.off.toNat : Int)
  obtain ⟨-, -, hword⟩ := State.cliffResult_effect h n x
  obtain ⟨hlow, hhigh⟩ := wfld_pack_halves hrefl hambient
  have hreflRead : (s.cliffResult n x).fld (Reg.MOTION_CLF_RESULT n) 15 0 =
      (s.photoShare n ((x.on.toNat : Int) - x.off.toNat)).2 := (congrArg (wfld · 15 0) hword).trans hlow
  have hambientRead := (congrArg (wfld · 31 16) hword).trans hhigh
  refine ⟨fun hdark => ?_, fun hbright => ?_, fun v hv hsum => ?_, fun v hv hsum => ?_, fun hbright => ?_⟩
  · exact hreflRead.trans (hzero (by omega))
  · exact hreflRead.trans (hfull (by omega))
  · have hsum' : (x.on.toNat : Int) * 65535 = x.off.toNat * 65535 + v * fs := mod_cast hsum
    exact hreflRead.trans (hexact v hv (by rw [Int.sub_mul, hsum', add_sub_cancel_left]))
  · exact hambientRead.trans (hexact' v hv (mod_cast hsum))
  · exact hambientRead.trans (hfull' (by omega))

end CliffResult

theorem exec_cliffResult_of_used {s : State} {n : Fin 8} (hawake : s.asleep = false) (hrole : s.clfRole n ≠ 0)
    (husable : s.flag Reg.BIST_UNUSABLE (4 + n) = false) (x : CliffData) :
    exec (.cliffResult n x) s = .next (s.cliffResult n x) := by
  show execCliffResult n x s = _
  simp [execCliffResult, hawake, hrole, husable]

/-! ### The obligation -/

/-- Settles O17: the row of each command, then what its operation leaves. -/
theorem motionCommands : Obligations.MotionCommands := by
  intro s h
  refine ⟨fun n onB a b hruns => ⟨_, exec_encoderEdge_of_runs hruns onB a b, State.encEdge_effect h n _⟩, ?asleep, ?release,
    fun n hruns => ⟨_, exec_illegalTransition_of_runs hruns, State.encIllegal_effect h n⟩,
    fun n hawake => ⟨_, exec_faultHoldExpiry_of_awake hawake, State.setEncFault_effect h n false⟩,
    fun n hruns hreport hmoved => ⟨_, exec_encoderReport_of_moved hruns hreport hmoved, s.reportSent_effect n⟩,
    ?wake, ?cliff⟩
  case asleep =>
    intro n onB a b hasleep
    obtain ⟨hcount, hpos⟩ := State.kennelCount_effect h n ((s.motion.enc[n]).kedges + 1)
    exact ⟨_, exec_encoderEdge_of_asleep hasleep onB a b, hcount, hpos,
      fun hreached => State.kennelCount_wokenBy h n _ (by omega) hreached.le⟩
  case release =>
    exact fun n hruns hset hrel => ⟨_, exec_overspeedRelease_of_runs hruns, State.ovsClear_effect h n hset hrel⟩
  case wake =>
    intro n hasleep hbelow
    have hwidth : s.fld (Reg.MOTION_ENC_WAKE n) 15 0 < 2 ^ 16 := wfld_lt _ _ _
    obtain ⟨hcount, -⟩ := State.kennelCount_effect h n (s.fld (Reg.MOTION_ENC_WAKE n) 15 0)
    exact ⟨_, exec_motionWake_of_below hasleep hbelow, hcount.trans (by omega),
      State.kennelCount_wokenBy h n _ hbelow (Nat.le_refl _)⟩
  case cliff =>
    intro n x hawake hrole husable
    obtain ⟨hnode, hma, -⟩ := State.cliffResult_effect h n x
    exact ⟨_, exec_cliffResult_of_used hawake hrole husable x, hnode, hma,
      fun _ hrange hfs => State.cliffResult_shares h n x hrange hfs⟩

end Sys2Proof.Machine
end

section
/-! SUPPORT. The Hedge (06_hedge.md, R142 to R156): nodes and responses, and the part of it that reports and nodes leave. -/

namespace Sys2Proof.Machine

/-! ### Nodes that trigger no response (R142, R143, R161) -/

/-- SAFE_STOP's nodes and DOCK's are driven and nothing else follows (R16, R146). -/
theorem State.setNode_of_between (s : State) {n : Nat} (hlo : 79 < n) (hhi : n < 89) (b : Bool) :
    s.setNode n b = { s with hedge.nodes := setBit128 s.hedge.nodes n b } := by
  unfold State.setNode
  rw [if_neg (by simp [reservedNode]; omega)]
  exact if_neg (by simp; omega)

theorem State.node_setNode_of_between (s : State) {n : Nat} (hlo : 79 < n) (hhi : n < 89) (b : Bool) :
    (s.setNode n b).node n = b := by
  rw [s.setNode_of_between hlo hhi]
  exact (setBit128_getLsbD _ (by omega) b n).trans (if_pos rfl)

/-! ### Actions of the built-in responses (R146) -/

theorem foldl_or_getLsbD {α : Type} {w : Nat} (p : α → Bool) (f : α → BitVec w) (i : Nat) (l : List α) (a : BitVec w) :
    (l.foldl (fun a k => if p k then a ||| f k else a) a).getLsbD i =
      (a.getLsbD i || l.any fun k => p k && (f k).getLsbD i) := by
  induction l generalizing a with
  | nil => exact (Bool.or_false _).symm
  | cons k l ih =>
    rw [List.foldl_cons, ih, List.any_cons, ← Bool.or_assoc]
    cases p k with
    | true => rw [if_pos rfl, BitVec.getLsbD_or, Bool.true_and]
    | false => rw [if_neg Bool.false_ne_true, Bool.false_and, Bool.or_false]

/-- A response that the direct path asserts asserts its actions. -/
theorem State.act_of_response {s : State} {k i : Nat} (hk : k < 5) (hon : s.hedge.biAsserting.getLsbD k = true)
    (hi : (builtinActs k).getLsbD i = true) : s.act i = true := by
  have hacts : (builtinsActs s.hedge.biAsserting).getLsbD i = true := by
    unfold builtinsActs
    rw [foldl_or_getLsbD, List.any_eq_true.mpr ⟨k, List.mem_range.mpr hk, by rw [hon, hi]; rfl⟩, Bool.or_true]
  simp [State.act, State.acting, hacts]

/-- Response 0x84 asserts while the bound of some group is exceeded. -/
theorem builtinsOn_overrun (nodes : BitVec 128) {overrun : BitVec 8} (h : overrun ≠ 0) :
    (builtinsOn nodes overrun).getLsbD 4 = true := by
  have hlow : bitsOf 4 (fun k => nodes.getLsbD (builtinNode k)) < 2 ^ 4 := bitsOf_lt _ _
  unfold builtinsOn
  rw [if_neg h, BitVec.getLsbD_ofNat, Nat.add_comm, show (16 : Nat) = 2 ^ 4 from rfl, Nat.testBit_two_pow_add_eq,
    Nat.testBit_lt_two_pow hlow]
  rfl

/-! ### Reports (R168, R169) -/

@[simp] theorem State.tripBuiltin_hedge (s : State) (k : Nat) (p : Time) : (s.tripBuiltin k p).hedge =
    { s.hedge with biTripPt := s.hedge.biTripPt.set (k % 5) p (Nat.mod_lt _ (by decide)) } := by
  unfold State.tripBuiltin
  simp

@[simp] theorem State.clearRec_hedge (s : State) (rule kind : Nat) (mask : BitVec 21) (trip p : Time) :
    (s.clearRec rule kind mask trip p).hedge = s.hedge := State.postAt_hedge ..

@[simp] theorem State.persistRec_hedge (s : State) (n : Fin 32) (kind : Nat) : (s.persistRec n kind).hedge = s.hedge := by
  unfold State.persistRec
  dsimp only
  split
  case isTrue => exact State.journal_hedge _ _ _
  case isFalse => rfl

@[simp] theorem State.tripRule_hedge (s : State) (n : Fin 32) (nodes : BitVec 128) (sheepdog : Bool) (p : Time) :
    (s.tripRule n nodes sheepdog p).hedge =
      { s.hedge with run := s.hedge.run.set n { s.hedge.run[n] with tripPt := p } } := by
  unfold State.tripRule
  simp

/-- Records of the responses change what is kept as reported, and the trip times. -/
theorem State.reportBuiltins_hedge (s : State) (p : Time) : ∃ shown trips,
    (s.reportBuiltins p).hedge = { s.hedge with biShown := shown, biTripPt := trips } := by
  refine ⟨s.hedge.biAsserting ||| s.hedge.biHw ||| s.hedge.biSd, ?_⟩
  refine List.foldlRecOn (motive := fun t : State => ∃ trips, t.hedge = { s.hedge with
    biShown := s.hedge.biAsserting ||| s.hedge.biHw ||| s.hedge.biSd, biTripPt := trips }) _ _ ⟨s.hedge.biTripPt, rfl⟩
    fun t ⟨trips, ht⟩ k _ => ?_
  split
  case isTrue begins => exact ⟨_, by rw [State.tripBuiltin_hedge, ht]⟩
  case isFalse =>
    split
    case isTrue ends => exact ⟨trips, by rw [State.clearRec_hedge, ht]⟩
    case isFalse => exact ⟨trips, ht⟩

theorem State.applyActions_hedge {s : State} (h : s.Stored) : s.applyActions.hedge = s.hedge :=
  (State.applyActions_keeps (K := 2 ^ Part.hedge.num) (by decide) (Keeps.refl h)).part .hedge (by decide)

/-- The direct path asserts what the nodes and the exceeded bounds call for, and reports it. -/
theorem State.builtins_hedge {s : State} (h : s.Stored) : ∃ shown trips, s.builtins.hedge =
    { s.hedge with biAsserting := builtinsOn s.hedge.nodes s.hedge.overrun, biShown := shown, biTripPt := trips } := by
  have hset : ({ s with hedge.biAsserting := builtinsOn s.hedge.nodes s.hedge.overrun } : State).Stored := h.congr rfl rfl rfl
  obtain ⟨shown, trips, e⟩ := State.reportBuiltins_hedge
    (State.applyActions { s with hedge.biAsserting := builtinsOn s.hedge.nodes s.hedge.overrun }) s.ptNow
  exact ⟨shown, trips, e.trans (by rw [State.applyActions_hedge hset])⟩

/-! ### What nodes and reports leave -/

/-- The Hedge without its nodes, the direct path, its pins, the run-time state of its rules and what is kept of reports: what the
two paths have decided, and all that a Plan sets. -/
def Hedge.core (g : Hedge) : Hedge :=
  { g with nodes := 0, run := .replicate 32 {}, asserting := 0, biAsserting := 0, biShown := 0, biTripPt := .replicate 5 0,
           differed := false, sstop := .replicate 4 {} }

/-- The core of the Hedge stands. -/
structure State.CoreAs (s t : State) : Prop where
  stored : t.Stored
  core : t.hedge.core = s.hedge.core

theorem State.CoreAs.refl {s : State} (h : s.Stored) : s.CoreAs s := ⟨h, rfl⟩

theorem State.CoreAs.trans {s t u : State} (h : s.CoreAs t) (h' : t.CoreAs u) : s.CoreAs u :=
  ⟨h'.stored, h'.core.trans h.core⟩

/-- A part of the Hedge that its core shows is the same. -/
theorem State.CoreAs.same {s t : State} (h : s.CoreAs t) {α : Type} (f : Hedge → α)
    (hf : ∀ g : Hedge, f g.core = f g := by exact fun _ => rfl) : f t.hedge = f s.hedge := by
  rw [← hf, h.core, hf]

/-- An operation that keeps the Hedge. -/
theorem Keeps.coreAs {s t : State} (k : Keeps (2 ^ Part.hedge.num) s t) : s.CoreAs t :=
  ⟨k.stored, congrArg Hedge.core (k.part .hedge (by decide))⟩

theorem State.tripRule_core (s : State) (n : Fin 32) (nodes : BitVec 128) (sheepdog : Bool) (p : Time) :
    (s.tripRule n nodes sheepdog p).hedge.core = s.hedge.core := by
  rw [State.tripRule_hedge]
  rfl

theorem State.reportRules_core (s : State) (nodes : BitVec 128) (sheepdog : Bool) (fresh : BitVec 32) (p : Time) :
    (s.reportRules nodes sheepdog fresh p).hedge.core = s.hedge.core := by
  refine List.foldlRecOn (motive := fun t : State => t.hedge.core = s.hedge.core) _ _ rfl fun t ht n _ => ?_
  split
  case isTrue begins =>
    dsimp only
    split
    case isTrue latched => rw [State.persistRec_hedge, State.tripRule_core, ht]
    case isFalse => rw [State.tripRule_core, ht]
  case isFalse =>
    split
    case isTrue ends => rw [State.clearRec_hedge, ht]
    case isFalse => exact ht

section CoreAs

variable {s : State} (h : s.Stored)
include h

theorem State.coreAs_reportBuiltins (p : Time) : s.CoreAs (s.reportBuiltins p) where
  stored := (State.reportBuiltins_keeps (K := 0) p (Nat.zero_and _) (Keeps.refl h)).stored
  core := by
    obtain ⟨shown, trips, e⟩ := s.reportBuiltins_hedge p
    rw [e]
    rfl

theorem State.coreAs_reportRules (nodes : BitVec 128) (sheepdog : Bool) (fresh : BitVec 32) (p : Time) :
    s.CoreAs (s.reportRules nodes sheepdog fresh p) :=
  ⟨(State.reportRules_keeps (K := 0) nodes sheepdog fresh p (Nat.zero_and _) (Keeps.refl h)).stored, s.reportRules_core ..⟩

theorem State.coreAs_setNode (n : Nat) (b : Bool) : s.CoreAs (s.setNode n b) where
  stored := (State.setNode_keeps (K := 0) n b (Nat.zero_and _) (Keeps.refl h)).stored
  core := by
    unfold State.setNode
    split
    case isTrue reserved => rfl
    case isFalse =>
      dsimp only
      split
      case isTrue trigger =>
        obtain ⟨shown, trips, e⟩ :=
          State.builtins_hedge (s := { s with hedge.nodes := setBit128 s.hedge.nodes n b }) (h.congr rfl rfl rfl)
        rw [e]
        rfl
      case isFalse => rfl

/-- The records of an evaluation: of its rules, then of the built-in responses. -/
theorem State.coreAs_reports (nodes : BitVec 128) (sheepdog : Bool) (fresh : BitVec 32) (p : Time) :
    s.CoreAs ((s.reportRules nodes sheepdog fresh p).reportBuiltins p) :=
  have hrules := State.coreAs_reportRules h nodes sheepdog fresh p
  hrules.trans (State.coreAs_reportBuiltins hrules.stored p)

end CoreAs

end Sys2Proof.Machine
end

section
/-! SUPPORT. The evaluations of the Hedge (06_hedge.md, R147, R148, R161): what each path decides, and that reports, nodes and the
readback of the pins leave it. -/

namespace Sys2Proof.Machine

/-! ### The hardware engine (R147 (a)) -/

theorem State.ptNow_congr {s t : State} (htime : t.time = s.time) (hreg : t.reg Reg.TIME_STATUS = s.reg Reg.TIME_STATUS) :
    t.ptNow = s.ptNow := by
  unfold State.ptNow State.sleepTicks
  rw [htime, State.fld_congr hreg]

theorem State.hwRelease_of_none {s : State} (h : s.hedge.release = none) : s.hwRelease = s := by
  unfold State.hwRelease
  rw [h]

/-- What the engine decides on its sample stands before its reports; no release waits. -/
theorem State.hwEval_decides {s : State} (h : s.Stored) (hfree : s.hedge.release = none) (err : HedgeErr) : ∃ u : State,
    u.CoreAs (s.hwEval err) ∧ u.hedge.last.pt = s.ptNow ∧ u.hedge.last.nodes = s.hedge.nodes ∧
    u.hedge.condHw = ruleBits (fun n => (s.hedge.rule[n]).cond s.hedge.nodes) ^^^ err.cond ∧
    u.hedge.latchHw = (s.hedge.latchHw ||| (u.hedge.condHw &&& s.hedge.latching)) ^^^ err.latch := by
  unfold State.hwEval
  extract_lets nodes cond latch caused sampled bi act fresh before decided judged kept
  have hsampled : Keeps (2 ^ Part.time.num + 2 ^ (Part.block 2).num) s sampled :=
    State.armsSample_keeps nodes cond (by decide) (State.addCauses_keeps nodes cond (by decide) (Keeps.refl h))
  have hdecided : Keeps (2 ^ Part.time.num + 2 ^ (Part.block 2).num) s decided := hsampled.set_hedge (by decide)
  have hkept : Keeps (2 ^ Part.time.num + 2 ^ (Part.block 2).num) s kept := hdecided.set_hedge (by decide)
  have hreports := State.coreAs_reports hkept.stored nodes false fresh kept.ptNow
  have hwaiting : kept.hedge.release = none := by
    dsimp only [kept, judged, decided, before, sampled, caused, State.armsSample, State.addCauses]
    exact hfree
  rw [State.hwRelease_of_none ((hreports.same Hedge.release).trans hwaiting)]
  exact ⟨kept, hreports, State.ptNow_congr (hdecided.part .time (by decide)) (hdecided.part (.block 2) (by decide) _ rfl),
    rfl, rfl, rfl⟩

/-! ### The readback of the pins (R161) -/

theorem State.sstopNode_eq (s : State) (n : Fin 4) : s.sstopNode n = { s with
    hedge.nodes := setBit128 s.hedge.nodes (80 + n)
      (s.flag Reg.HEDGE_SSTOP_STATUS (8 + n) || s.flag Reg.HEDGE_SSTOP_STATUS (12 + n)) } :=
  s.setNode_of_between (by omega) (by omega) _

@[simp] theorem State.sstopNode_reg (s : State) (n : Fin 4) (a : Nat) : (s.sstopNode n).reg a = s.reg a := by
  rw [State.sstopNode_eq]
  rfl

theorem State.sstopNode_node (s : State) (n : Fin 4) : (s.sstopNode n).node (80 + n) =
    (s.flag Reg.HEDGE_SSTOP_STATUS (8 + n) || s.flag Reg.HEDGE_SSTOP_STATUS (12 + n)) :=
  s.node_setNode_of_between (by omega) (by omega) _

/-- The pins as the evaluation renews them, with the level read back shown. -/
def State.levelShown (s : State) (pins : Vector SStop 4) (n : Fin 4) (high : Bool) : State :=
  ({ s with hedge.sstop := pins }).setFlag Reg.HEDGE_SSTOP_STATUS (4 + n) high

/-- A mismatch counted and shown. -/
def State.mismatchShown (s : State) (n : Fin 4) : State :=
  ((s.setFlag Reg.HEDGE_SSTOP_STATUS (8 + n) true).inc Reg.HEDGE_SSTOP_STATUS 31 16).sstopNode n

theorem State.sstopEval_eq (s : State) (n : Fin 4) (high : Bool) : ∃ (pins : Vector SStop 4) (third : Bool),
    s.sstopEval n high = if third then (s.levelShown pins n high).mismatchShown n else s.levelShown pins n high :=
  ⟨_, _, rfl⟩

theorem State.coreAs_sstopEval {s : State} (h : s.Stored) (n : Fin 4) (high : Bool) : s.CoreAs (s.sstopEval n high) where
  stored := (State.sstopEval_keeps (K := 0) n high (Nat.zero_and _) (Keeps.refl h)).stored
  core := by
    obtain ⟨pins, third, e⟩ := s.sstopEval_eq n high
    rw [e]
    cases third with
    | true =>
      rw [if_pos rfl, State.mismatchShown, State.sstopNode_eq]
      rfl
    | false => rfl

/-- Among the low bits of SSTOP_STATUS one pin's readback writes its level alone. -/
theorem State.sstopEval_flag {s : State} (h : s.Stored) (n : Fin 4) (high : Bool) {j : Nat} (hj : j < 8) :
    (s.sstopEval n high).flag Reg.HEDGE_SSTOP_STATUS j = if j = 4 + n then high else s.flag Reg.HEDGE_SSTOP_STATUS j := by
  obtain ⟨pins, third, e⟩ := s.sstopEval_eq n high
  have hpins : ({ s with hedge.sstop := pins } : State).Stored := h.congr rfl rfl rfl
  have hlevel : (s.levelShown pins n high).flag Reg.HEDGE_SSTOP_STATUS j =
      if j = 4 + n then high else s.flag Reg.HEDGE_SSTOP_STATUS j := by
    split
    case isTrue hself =>
      subst hself
      exact State.flag_setFlag_self hpins _ high (by omega)
    case isFalse hother => exact State.flag_setFlag_other hpins high (.inr hother)
  have hstored : (s.levelShown pins n high).Stored := hpins.setFlag _ _ _
  rw [e, ← hlevel]
  cases third with
  | true =>
    rw [if_pos rfl, State.mismatchShown, State.flag_congr (State.sstopNode_reg ..), State.flag_inc_other (hstored.setFlag _ _ _) _
      (.inl (by omega)), State.flag_setFlag_other hstored true (.inr (by omega))]
  | false => rfl

/-- Every pin read back. -/
def State.readBack (s : State) (readback : BitVec 4) : State :=
  (List.finRange 4).foldl (fun s (n : Fin 4) => s.sstopEval n (readback.getLsbD n)) s

theorem State.coreAs_readBack {s : State} (h : s.Stored) (readback : BitVec 4) : s.CoreAs (s.readBack readback) :=
  List.foldlRecOn _ _ (.refl h) fun _ hu n _ => hu.trans (State.coreAs_sstopEval hu.stored n _)

theorem State.readBack_flag {s : State} (h : s.Stored) (readback : BitVec 4) (n : Fin 4) :
    (s.readBack readback).flag Reg.HEDGE_SSTOP_STATUS (4 + n) = readback.getLsbD n := by
  have hstored : ∀ u : State, u.Stored → ∀ m : Fin 4, (u.sstopEval m (readback.getLsbD m)).Stored :=
    fun u hu m => (State.coreAs_sstopEval hu m _).stored
  refine (foldl_of_once (P := State.Stored)
    (Q := fun u => u.Stored ∧ u.flag Reg.HEDGE_SSTOP_STATUS (4 + n) = readback.getLsbD n)
    (fun u m _ hu => hstored u hu m) (fun u hu => ⟨hstored u hu n, ?_⟩) (fun u m hm hu => ⟨hstored u hu.1 m, ?_⟩)
    (List.nodup_finRange 4) (List.mem_finRange n) h).2
  · rw [State.sstopEval_flag hu _ _ (by omega), if_pos rfl]
  · rw [State.sstopEval_flag hu.1 _ _ (by omega), if_neg (by omega), hu.2]

/-! ### What follows an evaluation (R150, R247) -/

/-- The actions and the alarm change neither the Hedge nor its registers. -/
theorem State.actionsTaken_keeps {s : State} (h : s.Stored) : s.CoreAs s.applyActions.cutAlarm ∧
    ∀ a, a / 4096 = 5 → s.applyActions.cutAlarm.reg a = s.reg a :=
  have k : Keeps (2 ^ Part.hedge.num + 2 ^ (Part.block 5).num) s s.applyActions.cutAlarm :=
    State.cutAlarm_keeps (by decide) (State.applyActions_keeps (by decide) (Keeps.refl h))
  ⟨⟨k.stored, congrArg Hedge.core (k.part .hedge (by decide))⟩, k.part (.block 5) (by decide)⟩

/-- The state once the engine has evaluated, where the Hedge is armed. -/
def State.hwArmed (s : State) (err : HedgeErr) : State := if s.hedge.armed then s.hwEval err else s

theorem exec_hedgeHwEval_of_awake {s : State} (hawake : s.asleep = false) (hsleep : s.inSleep = false)
    (hdeep : s.inDeepSleep = false) (rb : BitVec 4) (err : HedgeErr) :
    exec (.hedgeHwEval rb err) s = .next ((s.hwArmed err).readBack rb).applyActions.cutAlarm :=
  congrArg Host.Outcome.next (if_neg (by simp [hawake, hsleep, hdeep]))

/-- A hardware evaluation with no release before it: the levels of the pins, the sample and what the engine decided on it. -/
theorem State.hwRow_effect {s : State} (h : s.Stored) (hfree : s.hedge.release = none) (rb : BitVec 4) (err : HedgeErr) :
    let t := ((s.hwArmed err).readBack rb).applyActions.cutAlarm
    (∀ n : Fin 4, t.flag Reg.HEDGE_SSTOP_STATUS (4 + n) = rb.getLsbD n) ∧
    (s.hedge.armed = true → t.hedge.last.pt = s.ptNow ∧ t.hedge.last.nodes = s.hedge.nodes ∧
      t.hedge.condHw = ruleBits (fun n => (s.hedge.rule[n]).cond s.hedge.nodes) ^^^ err.cond ∧
      t.hedge.latchHw = (s.hedge.latchHw ||| (t.hedge.condHw &&& s.hedge.latching)) ^^^ err.latch) := by
  have hstored : (s.hwArmed err).Stored := by
    unfold State.hwArmed
    split
    case isTrue => exact (State.hwEval_keeps (K := 0) err (Nat.zero_and _) (Keeps.refl h)).stored
    case isFalse => exact h
  have hread := State.coreAs_readBack hstored rb
  obtain ⟨hactions, hregs⟩ := State.actionsTaken_keeps hread.stored
  refine ⟨fun n => (State.flag_congr (hregs _ (by decide)) _).trans (State.readBack_flag hstored rb n), fun harmed => ?_⟩
  obtain ⟨u, heval, hpt, hnodes, hcond, hlatch⟩ := State.hwEval_decides h hfree err
  have hdecided : u.CoreAs ((s.hwArmed err).readBack rb).applyActions.cutAlarm := by
    rw [show s.hwArmed err = s.hwEval err from if_pos harmed] at hread hactions ⊢
    exact heval.trans (hread.trans hactions)
  rw [hdecided.same Hedge.last, hdecided.same Hedge.condHw, hdecided.same Hedge.latchHw]
  exact ⟨hpt, hnodes, hcond, hlatch⟩

/-! ### The Sheepdog pair (R147 (b) to (d), R148, R158) -/

theorem State.coreAs_classS {s : State} (h : s.Stored) (code index detail : Nat) : s.CoreAs (s.classS code index detail) := by
  have hrec : s.CoreAs (s.recordFail code 1 index) := (State.recordFail_keeps code 1 index (by decide) (Keeps.refl h)).coreAs
  unfold State.classS
  dsimp only
  split
  case isTrue later => exact hrec
  case isFalse first =>
    have hflag := State.setFlag_keeps (a := Reg.BIST_STATUS) (K := 2 ^ Part.hedge.num) 30 true (by decide)
      (Keeps.refl hrec.stored)
    have hcode := Keeps.set_bist (v0 := { (State.setFlag (s.recordFail code 1 index) Reg.BIST_STATUS 30 true).bist with
      safeCode := BitVec.ofNat 8 code }) (by decide) hflag
    have hnode := State.coreAs_setNode hcode.stored 79 true
    refine hrec.trans (hcode.coreAs.trans (hnode.trans (Keeps.coreAs ?_)))
    exact State.safeCheck_keeps (by decide) (State.abortEntry_keeps _ (by decide)
      (State.postBist_keeps _ _ _ _ _ (by decide) (Keeps.refl hnode.stored)))

/-- The comparison noted, and a difference counted. -/
def State.differenceNoted (s : State) (differ : Bool) : State :=
  if differ then State.inc { s with hedge.differed := differ } Reg.HEDGE_DIVERGE_CNT 15 0
  else { s with hedge.differed := differ }

theorem State.comparePaths_eq (s : State) (snap : HSnap) (acts : BitVec 21) : ∃ (differ twice : Bool),
    s.comparePaths snap acts =
      if twice then (((s.differenceNoted differ).setNode 89 true).setFlag Reg.HEDGE_STATUS 5 true).classS 0x11 0xFFFF 0
      else s.differenceNoted differ := ⟨_, _, rfl⟩

theorem State.coreAs_differenceNoted {s : State} (h : s.Stored) (differ : Bool) : s.CoreAs (s.differenceNoted differ) := by
  have hnoted : ({ s with hedge.differed := differ } : State).Stored := h.congr rfl rfl rfl
  cases differ with
  | true => exact ⟨hnoted.inc _ _ _, rfl⟩
  | false => exact ⟨hnoted, rfl⟩

theorem State.coreAs_comparePaths {s : State} (h : s.Stored) (snap : HSnap) (acts : BitVec 21) :
    s.CoreAs (s.comparePaths snap acts) := by
  obtain ⟨differ, twice, e⟩ := s.comparePaths_eq snap acts
  have hnoted := State.coreAs_differenceNoted h differ
  rw [e]
  cases twice with
  | true =>
    have hnode := hnoted.trans (State.coreAs_setNode hnoted.stored 89 true)
    have hstatus : s.CoreAs (((s.differenceNoted differ).setNode 89 true).setFlag Reg.HEDGE_STATUS 5 true) :=
      ⟨hnode.stored.setFlag _ _ _, hnode.core⟩
    exact hstatus.trans (State.coreAs_classS hstatus.stored 0x11 0xFFFF 0)
  | false => exact hnoted

theorem State.coreAs_heartbeatCheck {s : State} (h : s.Stored) : s.CoreAs s.heartbeatCheck := by
  unfold State.heartbeatCheck
  dsimp only
  split
  case isTrue lost =>
    have hnode := State.coreAs_setNode h 66 true
    exact ⟨hnode.stored.inc _ _ _, hnode.core⟩
  case isFalse => exact .refl h

/-- What the pair decides on the frame's sample stands before its reports, the comparison and the heartbeat's check. -/
theorem State.sdEval_decides {s : State} (h : s.Stored) : ∃ (u v : State) (acts : BitVec 21),
    s.sdEval = (v.comparePaths (s.hedge.snap.getD s.hedge.last) acts).heartbeatCheck ∧ u.CoreAs v ∧
    u.hedge.sdNodes = (s.hedge.snap.getD s.hedge.last).nodes ∧
    u.hedge.condSd = ruleBits (fun n => (s.hedge.rule[n]).cond (s.hedge.snap.getD s.hedge.last).nodes) ∧
    u.hedge.latchSd = s.hedge.latchSd ||| (u.hedge.condSd &&& s.hedge.latching) ||| (s.hedge.snap.getD s.hedge.last).latch ∧
    u.hedge.bootHold = false ∧ u.hedge.sleepHold = false := by
  unfold State.sdEval
  extract_lets snap nodes cond latch caused asserts bi act fresh cmp _ decided _ ended reported
  have hended : Keeps 0 s ended := Keeps.set_hedge (by decide) (Keeps.set_hedge (u := caused) (by decide)
    (State.addCauses_keeps nodes cond (by decide) (Keeps.refl h)))
  exact ⟨ended, reported, cmp, rfl, State.coreAs_reports hended.stored nodes true fresh snap.pt, rfl, rfl, rfl, rfl, rfl⟩

theorem exec_hedgeSdEval_of_runs {s : State} (h : s.hedgeRuns = true) :
    exec .hedgeSdEval s = .next s.sdEval.applyActions.cutAlarm := congrArg Host.Outcome.next (if_pos h)

/-- A Sheepdog evaluation: the sample and what the pair decided on it; both holds end. -/
theorem State.sdRow_effect {s : State} (h : s.Stored) :
    let t := s.sdEval.applyActions.cutAlarm
    t.hedge.sdNodes = (s.hedge.snap.getD s.hedge.last).nodes ∧
    t.hedge.condSd = ruleBits (fun n => (s.hedge.rule[n]).cond (s.hedge.snap.getD s.hedge.last).nodes) ∧
    t.hedge.latchSd = s.hedge.latchSd ||| (t.hedge.condSd &&& s.hedge.latching) ||| (s.hedge.snap.getD s.hedge.last).latch ∧
    t.hedge.bootHold = false ∧ t.hedge.sleepHold = false := by
  obtain ⟨u, v, acts, e, hreports, hnodes, hcond, hlatch, hboot, hsleep⟩ := State.sdEval_decides h
  have hcompared := hreports.trans (State.coreAs_comparePaths hreports.stored (s.hedge.snap.getD s.hedge.last) acts)
  have hjudged := hcompared.trans (State.coreAs_heartbeatCheck hcompared.stored)
  rw [← e] at hjudged
  have hdecided := hjudged.trans (State.actionsTaken_keeps hjudged.stored).1
  dsimp only
  rw [hdecided.same Hedge.sdNodes, hdecided.same Hedge.condSd, hdecided.same Hedge.latchSd, hdecided.same Hedge.bootHold,
    hdecided.same Hedge.sleepHold]
  exact ⟨hnodes, hcond, hlatch, hboot, hsleep⟩

end Sys2Proof.Machine
end

section
/-! SUPPORT. The Hedge's single events (06_hedge.md, R143, R146, R156, R161 to R165): an overrun of an orderly off, DOCK, an arm
that ends, the SAFE_STOP pins and the safety sensor. -/

namespace Sys2Proof.Machine

/-! ### An orderly off that overruns its bound (R146) -/

/-- The bound of R19 has passed for a group. -/
def State.overrunSet (s : State) (group : Fin 8) : State :=
  { s with hedge.overrun := s.hedge.overrun ||| BitVec.ofNat 8 (2 ^ group.val) }

theorem exec_orderlyOffOverrun_of_on {s : State} {g : Fin 8} (hruns : s.hedgeRuns = true) (hact : s.act (9 + g) = true)
    (hup : s.groupDown g = false) : exec (.orderlyOffOverrun g) s = .next (s.overrunSet g).builtins.applyActions :=
  congrArg Host.Outcome.next (if_pos (by rw [hruns, hact, hup]; rfl))

theorem exec_orderlyOffOverrun_of_done {s : State} {g : Fin 8} (h : s.act (9 + g) = false ∨ s.groupDown g = true) :
    exec (.orderlyOffOverrun g) s = .next s :=
  congrArg Host.Outcome.next (if_neg (by rcases h with h | h <;> simp [h]))

theorem State.overrunSet_getLsbD (s : State) (g : Fin 8) : (s.overrunSet g).hedge.overrun.getLsbD g = true := by
  show (s.hedge.overrun ||| BitVec.ofNat 8 (2 ^ g.val)).getLsbD g = true
  rw [BitVec.getLsbD_or, BitVec.getLsbD_ofNat, Nat.testBit_two_pow_self, Bool.and_true, decide_eq_true g.isLt, Bool.or_true]

/-- The group's overrun is kept and response 0x84 cuts every rail. -/
theorem State.overrunSet_effect {s : State} (h : s.Stored) (g : Fin 8) :
    (s.overrunSet g).builtins.applyActions.hedge.overrun.getLsbD g = true ∧
      (s.overrunSet g).builtins.applyActions.act 17 = true := by
  have hset : (s.overrunSet g).Stored := h.congr rfl rfl rfl
  have hbit := s.overrunSet_getLsbD g
  have hsome : (s.overrunSet g).hedge.overrun ≠ 0 := fun e => by simp [e] at hbit
  have hbuiltins : (s.overrunSet g).builtins.Stored :=
    (State.builtins_keeps (K := 0) (Nat.zero_and _) (Keeps.refl hset)).stored
  obtain ⟨shown, trips, e⟩ := State.builtins_hedge hset
  have hhedge := (State.applyActions_hedge hbuiltins).trans e
  refine ⟨by rw [hhedge]; exact hbit, State.act_of_response (k := 4) (by decide) ?_ (by decide)⟩
  rw [hhedge]
  exact builtinsOn_overrun _ hsome

/-! ### DOCK (R143) -/

/-- The level accepted, and node 88. -/
def State.dockAccepted (s : State) (level : Bool) : State :=
  State.setNode { s with hedge.dockLevel := level } 88 (level != s.flag Reg.HEDGE_CTRL 1)

theorem exec_dockAccept_of_on {s : State} (hawake : s.asleep = false) (hon : s.flag Reg.HEDGE_CTRL 0 = true) (level : Bool) :
    exec (.dockAccept level) s = .next (s.dockAccepted level) :=
  congrArg Host.Outcome.next (if_neg (by rw [hawake, hon]; exact Bool.false_ne_true))

theorem exec_dockAccept_of_off {s : State} (hoff : s.flag Reg.HEDGE_CTRL 0 = false) (level : Bool) :
    exec (.dockAccept level) s = .next s :=
  congrArg Host.Outcome.next (if_pos (by rw [hoff]; exact Bool.or_true _))

theorem State.dockAccepted_effect (s : State) (level : Bool) : (s.dockAccepted level).hedge.dockLevel = level ∧
    (s.dockAccepted level).node 88 = (level != s.flag Reg.HEDGE_CTRL 1) := by
  refine ⟨?_, State.node_setNode_of_between _ (by decide) (by decide) _⟩
  rw [State.dockAccepted, State.setNode_of_between _ (by decide) (by decide)]

/-! ### The end of a release arm (R156 (c)) -/

theorem exec_armExpiry_of_runs {s : State} (h : s.hedgeRuns = true) (n : Fin 32) :
    exec (.armExpiry n) s = .next (s.setArm n none) := congrArg Host.Outcome.next (if_pos h)

theorem State.setArm_effect (s : State) (n : Fin 32) (a : Option HArm) : ((s.setArm n a).hedge.run[n]).arm = a ∧
    (s.setArm n a).hedge.latchHw = s.hedge.latchHw ∧ (s.setArm n a).hedge.latchSd = s.hedge.latchSd :=
  ⟨congrArg HRun.arm (Vector.getElem_set_self n.isLt), rfl, rfl⟩

/-! ### SAFE_STOP pins (R161, R162) -/

/-- The pin's run of mismatches ends. -/
def State.runEnded (s : State) (n : Fin 4) : State :=
  { s with hedge.sstop := s.hedge.sstop.set n { s.hedge.sstop[n] with run := 0 } }

theorem exec_sstopMismatchClear_of_set {s : State} {n : Fin 4} (h : s.flag Reg.HEDGE_SSTOP_STATUS (8 + n) = true) :
    exec (.sstopMismatchClear n) s =
      .next (((s.runEnded n).setFlag Reg.HEDGE_SSTOP_STATUS (8 + n) false).sstopNode n) := congrArg Host.Outcome.next (if_pos h)

theorem exec_safeStopPulseTest_of_taken (s : State) (n : Fin 4) (low : Bool) :
    exec (.safeStopPulseTest n low true) s = .next s :=
  congrArg Host.Outcome.next (if_neg (by rw [Bool.not_true, Bool.and_false]; exact Bool.false_ne_true))

theorem exec_safeStopPulseTest_of_judged {s : State} {n : Fin 4} (hon : s.flag Reg.HEDGE_SSTOP_CFG n = true)
    (hfree : s.sstopAsserted n = false) (hawake : s.asleep = false) (hsleep : s.inSleep = false)
    (hdeep : s.inDeepSleep = false) (low : Bool) : exec (.safeStopPulseTest n low false) s =
      .next ((s.setFlag Reg.HEDGE_SSTOP_STATUS (12 + n) (!low)).sstopNode n) :=
  congrArg Host.Outcome.next (if_pos (by rw [hon, hfree, hawake, hsleep, hdeep]; rfl))

/-- A status bit just written stands once the pin's node follows it. -/
theorem State.setFlag_sstopNode {s : State} (h : s.Stored) (n : Fin 4) {i : Nat} (hi : i < 32) (b : Bool) :
    ((s.setFlag Reg.HEDGE_SSTOP_STATUS i b).sstopNode n).flag Reg.HEDGE_SSTOP_STATUS i = b :=
  (State.flag_congr (State.sstopNode_reg ..) i).trans (State.flag_setFlag_self h _ b hi)

theorem State.mismatchCleared_effect {s : State} (h : s.Stored) (n : Fin 4) :
    let t := ((s.runEnded n).setFlag Reg.HEDGE_SSTOP_STATUS (8 + n) false).sstopNode n
    t.flag Reg.HEDGE_SSTOP_STATUS (8 + n) = false ∧ t.node (80 + n) = s.flag Reg.HEDGE_SSTOP_STATUS (12 + n) := by
  have hrun : (s.runEnded n).Stored := h.congr rfl rfl rfl
  refine ⟨State.setFlag_sstopNode hrun n (by omega) false, (State.sstopNode_node ..).trans ?_⟩
  rw [State.flag_setFlag_self hrun _ _ (by omega), State.flag_setFlag_other hrun _ (.inr (by omega)), Bool.false_or]
  rfl

theorem State.pulseJudged_effect {s : State} (h : s.Stored) (n : Fin 4) (failed : Bool) :
    let t := (s.setFlag Reg.HEDGE_SSTOP_STATUS (12 + n) failed).sstopNode n
    t.flag Reg.HEDGE_SSTOP_STATUS (12 + n) = failed ∧
      t.node (80 + n) = (s.flag Reg.HEDGE_SSTOP_STATUS (8 + n) || failed) := by
  refine ⟨State.setFlag_sstopNode h n (by omega) failed, (State.sstopNode_node ..).trans ?_⟩
  rw [State.flag_setFlag_self h _ _ (by omega), State.flag_setFlag_other h _ (.inr (by omega))]

/-! ### SENSOR_FAULT (R164) -/

theorem State.sensorFault_eq (s : State) (b : Bool) :
    s.sensorFault b = { s.setFlag Reg.HEDGE_SS_STATUS 0 b with hedge.nodes := setBit128 s.hedge.nodes 65 b } :=
  State.setNode_of_lt _ (by decide) b

@[simp] theorem State.sensorFault_sensor (s : State) (b : Bool) : (s.sensorFault b).hedge.sensor = s.hedge.sensor := by
  rw [State.sensorFault_eq]
  rfl

theorem State.sensorFault_node (s : State) (b : Bool) : (s.sensorFault b).node 65 = b := by
  rw [State.sensorFault_eq]
  exact (setBit128_getLsbD _ (by decide) b 65).trans (if_pos rfl)

theorem State.sensorFault_flag {s : State} (h : s.Stored) (b : Bool) {j : Nat} (hj : j ≠ 0) :
    (s.sensorFault b).flag Reg.HEDGE_SS_STATUS j = s.flag Reg.HEDGE_SS_STATUS j := by
  rw [State.sensorFault_eq]
  exact State.flag_setFlag_other h b (.inr hj)

@[simp] theorem State.ssClear_sensor (s : State) : s.ssClear.hedge.sensor = s.hedge.sensor := by
  unfold State.ssClear
  split
  case isTrue clean => exact s.sensorFault_sensor false
  case isFalse => rfl

theorem State.ssClear_flag {s : State} (h : s.Stored) {j : Nat} (hj : j ≠ 0) :
    s.ssClear.flag Reg.HEDGE_SS_STATUS j = s.flag Reg.HEDGE_SS_STATUS j := by
  unfold State.ssClear
  split
  case isTrue clean => exact State.sensorFault_flag h false hj
  case isFalse => rfl

/-! ### A poll (R163, R164) -/

theorem exec_ssPoll_of_on {s : State} (h : s.ssOn = true) (rx : Vector Byte 16) :
    exec (.ssPoll rx) s = .next (s.ssPoll rx.toList) := congrArg Host.Outcome.next (if_pos h)

/-- The conditions (a) and (c) of a poll shown, and a run of blank polls counted at its third. -/
def State.pollShown (s : State) (failA failC : Bool) (blankRun : Nat) : State :=
  let t := (s.setFlag Reg.HEDGE_SS_STATUS 1 failA).setFlag Reg.HEDGE_SS_STATUS 3 failC
  if blankRun = 3 then t.inc Reg.HEDGE_SS_ERR_CNT 15 0 else t

theorem State.pollShown_hedge (s : State) (failA failC : Bool) (blankRun : Nat) :
    (s.pollShown failA failC blankRun).hedge = s.hedge := by
  unfold State.pollShown
  split <;> rfl

theorem State.ssPoll_eq (s : State) (rx : List Byte) : ∃ (p : Sensor) (failA failC : Bool) (blankRun : Nat),
    s.ssPoll rx = (let t := State.pollShown { s with hedge.sensor := p } failA failC blankRun
      if failA || failC then t.sensorFault true else t.ssClear) ∧
    p.rx = rx ∧ p.fresh = true ∧ p.polls = s.hedge.sensor.polls + 1 :=
  ⟨_, _, _, _, rfl, rfl, rfl, rfl⟩

theorem State.ssPoll_effect (s : State) (rx : List Byte) : (s.ssPoll rx).hedge.sensor.rx = rx ∧
    (s.ssPoll rx).hedge.sensor.fresh = true ∧ (s.ssPoll rx).hedge.sensor.polls = s.hedge.sensor.polls + 1 := by
  obtain ⟨p, failA, failC, blankRun, e, hrx, hfresh, hpolls⟩ := s.ssPoll_eq rx
  have hsensor : (s.ssPoll rx).hedge.sensor = p := by
    rw [e]
    dsimp only
    split
    case isTrue fails => rw [State.sensorFault_sensor, State.pollShown_hedge]
    case isFalse => rw [State.ssClear_sensor, State.pollShown_hedge]
  rw [hsensor]
  exact ⟨hrx, hfresh, hpolls⟩

/-! ### An identity check (R163, R164 (b)) -/

theorem exec_ssIdentityCheck_of_due {s : State} (hon : s.ssOn = true) (hdue : s.hedge.sensor.idDue = true) (id : Byte) :
    exec (.ssIdentityCheck id) s = .next (s.ssIdentity id) :=
  congrArg Host.Outcome.next (if_pos (by rw [hon, hdue]; rfl))

/-- The byte passes against MASK and EXPECT. -/
def State.idPasses (s : State) (id : Byte) : Bool :=
  decide ((id.toNat &&& s.fld Reg.HEDGE_SS_ID 23 16) = s.fld Reg.HEDGE_SS_ID 15 8)

/-- The check taken, and its outcome shown. -/
def State.idTaken (s : State) (pass : Bool) : State :=
  ({ s with hedge.sensor.polls := 0, hedge.sensor.idDue := false, hedge.sensor.idPassed := pass }).setFlag
    Reg.HEDGE_SS_STATUS 2 (!pass)

/-- A failed check is counted and breaks the run of clean polls. -/
def State.idFailed (s : State) : State :=
  (({ s with hedge.sensor.cleanRun := 0 }).inc Reg.HEDGE_SS_ERR_CNT 31 16).sensorFault true

theorem State.ssIdentity_eq (s : State) (id : Byte) : s.ssIdentity id =
    if s.idPasses id then (s.idTaken (s.idPasses id)).ssClear else (s.idTaken (s.idPasses id)).idFailed := rfl

theorem State.idTaken_effect {s : State} (h : s.Stored) (pass : Bool) : (s.idTaken pass).Stored ∧
    (s.idTaken pass).flag Reg.HEDGE_SS_STATUS 2 = !pass := by
  have hset : ({ s with hedge.sensor.polls := 0, hedge.sensor.idDue := false, hedge.sensor.idPassed := pass } : State).Stored :=
    h.congr rfl rfl rfl
  exact ⟨hset.setFlag _ _ _, State.flag_setFlag_self hset _ _ (by decide)⟩

theorem State.idFailed_flag {s : State} (h : s.Stored) :
    s.idFailed.flag Reg.HEDGE_SS_STATUS 2 = s.flag Reg.HEDGE_SS_STATUS 2 := by
  have hrun : ({ s with hedge.sensor.cleanRun := 0 } : State).Stored := h.congr rfl rfl rfl
  exact (State.sensorFault_flag (hrun.inc _ _ _) true (by decide)).trans
    (State.flag_congr (State.inc_sameRegsBut hrun _ _ _ _ (by decide)) 2)

/-- The outcome decides IDENTITY's bit, and a failure raises SENSOR_FAULT. -/
theorem State.ssIdentity_effect {s : State} (h : s.Stored) (id : Byte) :
    (s.ssIdentity id).hedge.sensor.polls = 0 ∧ (s.ssIdentity id).hedge.sensor.idPassed = s.idPasses id ∧
    (s.ssIdentity id).flag Reg.HEDGE_SS_STATUS 2 = !(s.ssIdentity id).hedge.sensor.idPassed ∧
    ((s.ssIdentity id).hedge.sensor.idPassed = false → (s.ssIdentity id).node 65 = true) := by
  obtain ⟨hstored, hshown⟩ := State.idTaken_effect h (s.idPasses id)
  rw [State.ssIdentity_eq]
  split
  case isTrue passes =>
    rw [State.ssClear_sensor, State.ssClear_flag hstored (by decide)]
    exact ⟨rfl, rfl, hshown, fun hfailed => absurd (hfailed.symm.trans passes) Bool.false_ne_true⟩
  case isFalse fails =>
    have hsensor : (s.idTaken (s.idPasses id)).idFailed.hedge.sensor =
        { (s.idTaken (s.idPasses id)).hedge.sensor with cleanRun := 0 } := State.sensorFault_sensor _ _
    rw [hsensor, State.idFailed_flag hstored]
    exact ⟨rfl, rfl, hshown, fun _ => State.sensorFault_node _ true⟩

/-! ### A sample (R165) -/

theorem exec_ssSampleProcess_of_fresh {s : State} (hon : s.ssOn = true) (hfresh : s.hedge.sensor.fresh = true) :
    exec .ssSampleProcess s = .next s.ssProcess := congrArg Host.Outcome.next (if_pos (by rw [hon, hfresh]; rfl))

theorem ofSint_lt (w : Nat) (i : Int) : ofSint w i < 2 ^ w := by
  have hpos : (0 : Int) < (2 ^ w : Nat) := mod_cast Nat.two_pow_pos w
  have hnonneg := Int.emod_nonneg i hpos.ne'
  have hlt := Int.emod_lt_of_pos i hpos
  unfold ofSint
  omega

/-- The sample that the task shows stands: its axes, and that it is not fresh. -/
structure State.SampleAs (s t : State) : Prop where
  stored : t.Stored
  fresh : t.hedge.sensor.fresh = s.hedge.sensor.fresh
  xy : t.reg Reg.HEDGE_SS_SAMPLE_XY = s.reg Reg.HEDGE_SS_SAMPLE_XY
  z : t.fld Reg.HEDGE_SS_SAMPLE_Z 15 0 = s.fld Reg.HEDGE_SS_SAMPLE_Z 15 0

theorem State.SampleAs.refl {s : State} (h : s.Stored) : s.SampleAs s := ⟨h, rfl, rfl, rfl⟩

theorem State.SampleAs.trans {s t u : State} (h : s.SampleAs t) (h' : t.SampleAs u) : s.SampleAs u :=
  ⟨h'.stored, h'.fresh.trans h.fresh, h'.xy.trans h.xy, h'.z.trans h.z⟩

theorem State.SampleAs.setReg {s t : State} (h : s.SampleAs t) {a : Nat} (hxy : Reg.HEDGE_SS_SAMPLE_XY ≠ a)
    (hz : Reg.HEDGE_SS_SAMPLE_Z ≠ a) (w : Word) : s.SampleAs (t.setReg a w) :=
  ⟨h.stored.setReg _ _, h.fresh, (State.reg_setReg_other h.stored w hxy).trans h.xy,
    (State.fld_congr (State.reg_setReg_other h.stored w hz) 15 0).trans h.z⟩

theorem State.SampleAs.draw {s t : State} (h : s.SampleAs t) : s.SampleAs t.draw :=
  ⟨h.stored.congr rfl rfl rfl, h.fresh, h.xy, h.z⟩

/-- The angle stands above the Z axis in its register. -/
theorem State.sampleAs_setAngle {s : State} (h : s.Stored) (v : Nat) : s.SampleAs (s.setFld Reg.HEDGE_SS_SAMPLE_Z 31 16 v) :=
  ⟨h.setFld _ _ _ _, rfl, State.reg_setReg_other h _ (by decide), State.fld_setFld_other h v (.inr (.inl (by decide)))⟩

theorem State.sampleAs_storeRef {s : State} (h : s.Stored) (r : Int × Int × Int) : s.SampleAs (s.storeRef r) :=
  have hset : s.SampleAs { s with hedge.sensor.ref := some r } := ⟨h.congr rfl rfl rfl, rfl, rfl, rfl⟩
  ((hset.setReg (by decide) (by decide) _).setReg (by decide) (by decide) _).setReg (by decide) (by decide) _

theorem State.sampleAs_ssReference {s : State} (h : s.Stored) (a : Int × Int × Int) : s.SampleAs (s.ssReference a) := by
  unfold State.ssReference
  extract_lets p sum hedge sensor joined f
  have hjoined : s.SampleAs joined := ⟨h.congr rfl rfl rfl, rfl, rfl, rfl⟩
  split
  case isTrue last => exact hjoined.draw.trans (State.sampleAs_storeRef hjoined.draw.stored _)
  case isFalse => exact hjoined

theorem State.sampleAs_setTilt {s : State} (h : s.Stored) (b : Bool) : s.SampleAs (s.setTilt b) := by
  unfold State.setTilt
  rw [State.setNode_of_lt _ (by decide)]
  have hflag : s.SampleAs (s.setFlag Reg.HEDGE_SS_STATUS 5 b) := (SampleAs.refl h).setReg (by decide) (by decide) _
  exact ⟨hflag.stored.congr rfl rfl rfl, hflag.fresh, hflag.xy, hflag.z⟩

theorem State.sampleAs_sampleAngle {s : State} (h : s.Stored) (a r : Int × Int × Int) : s.SampleAs (s.sampleAngle a r).1 := by
  unfold State.sampleAngle
  split
  case isTrue zero => exact (SampleAs.refl h).draw
  case isFalse =>
    split
    case isTrue aligned => exact .refl h
    case isFalse => exact (SampleAs.refl h).draw

theorem State.sampleAs_ssTilt {s : State} (h : s.Stored) (a r : Int × Int × Int) : s.SampleAs (s.ssTilt a r) := by
  unfold State.ssTilt
  extract_lets angle time exceeds within p er wr hedge sensor counted
  have hcounted : s.SampleAs counted := ⟨h.congr rfl rfl rfl, rfl, rfl, rfl⟩
  have hangle := hcounted.trans (State.sampleAs_sampleAngle hcounted.stored a r)
  have hshown := hangle.trans (State.sampleAs_setAngle hangle.stored (counted.sampleAngle a r).2)
  dsimp only
  split
  case isTrue tilted => exact hshown.trans (State.sampleAs_setTilt hshown.stored true)
  case isFalse =>
    split
    case isTrue level => exact hshown.trans (State.sampleAs_setTilt hshown.stored false)
    case isFalse => exact hshown

/-- The task has taken the poll and shows its axes. -/
def State.sampleShown (s : State) : State :=
  (State.setReg { s with hedge.sensor.fresh := false } Reg.HEDGE_SS_SAMPLE_XY
    (pack [(ofSint 16 (s.ssAxes s.hedge.sensor.rx).1, 0), (ofSint 16 (s.ssAxes s.hedge.sensor.rx).2.1, 16)])).setFld
    Reg.HEDGE_SS_SAMPLE_Z 15 0 (ofSint 16 (s.ssAxes s.hedge.sensor.rx).2.2)

theorem State.sampleShown_effect {s : State} (h : s.Stored) : s.sampleShown.Stored ∧
    s.sampleShown.reg Reg.HEDGE_SS_SAMPLE_XY =
      pack [(ofSint 16 (s.ssAxes s.hedge.sensor.rx).1, 0), (ofSint 16 (s.ssAxes s.hedge.sensor.rx).2.1, 16)] ∧
    s.sampleShown.fld Reg.HEDGE_SS_SAMPLE_Z 15 0 = ofSint 16 (s.ssAxes s.hedge.sensor.rx).2.2 ∧
    s.sampleShown.flag Reg.HEDGE_SS_STATUS 5 = s.flag Reg.HEDGE_SS_STATUS 5 := by
  have htaken : ({ s with hedge.sensor.fresh := false } : State).Stored := h.congr rfl rfl rfl
  have hxy := htaken.setReg Reg.HEDGE_SS_SAMPLE_XY
    (pack [(ofSint 16 (s.ssAxes s.hedge.sensor.rx).1, 0), (ofSint 16 (s.ssAxes s.hedge.sensor.rx).2.1, 16)])
  refine ⟨hxy.setFld _ _ _ _, ?_, ?_, ?_⟩
  · exact (State.reg_setReg_other hxy _ (by decide)).trans (State.reg_setReg_self htaken _ _)
  · exact (State.fld_setFld_self hxy _ _ (by decide) (by decide)).trans (Nat.mod_eq_of_lt (ofSint_lt 16 _))
  · exact State.flag_congr ((State.reg_setReg_other hxy _ (by decide)).trans (State.reg_setReg_other htaken _ (by decide))) 5

theorem State.ssProcess_of_fault {s : State} (h : s.node 65 = true) : s.ssProcess = s.sampleShown := if_pos h

theorem State.sampleAs_ssProcess {s : State} (h : s.Stored) : s.sampleShown.SampleAs s.ssProcess := by
  obtain ⟨hshown, -⟩ := State.sampleShown_effect h
  unfold State.ssProcess
  extract_lets p a hedge sensor taken xy shown
  have e : shown = s.sampleShown := rfl
  rw [e]
  split
  case isTrue fault => exact .refl hshown
  case isFalse =>
    split
    case h_1 => exact State.sampleAs_ssReference hshown a
    case h_2 r _ => exact State.sampleAs_ssTilt hshown a r

/-- A sample is shown; while SENSOR_FAULT is active it is not used, and TILT and the nodes stand. -/
theorem State.ssProcess_effect {s : State} (h : s.Stored) : s.ssProcess.hedge.sensor.fresh = false ∧
    s.ssProcess.reg Reg.HEDGE_SS_SAMPLE_XY =
      pack [(ofSint 16 (s.ssAxes s.hedge.sensor.rx).1, 0), (ofSint 16 (s.ssAxes s.hedge.sensor.rx).2.1, 16)] ∧
    s.ssProcess.fld Reg.HEDGE_SS_SAMPLE_Z 15 0 = ofSint 16 (s.ssAxes s.hedge.sensor.rx).2.2 ∧
    (s.node 65 = true → s.ssProcess.flag Reg.HEDGE_SS_STATUS 5 = s.flag Reg.HEDGE_SS_STATUS 5 ∧
      s.ssProcess.hedge.nodes = s.hedge.nodes) := by
  obtain ⟨-, hxy, hz, htilt⟩ := State.sampleShown_effect h
  have hused := State.sampleAs_ssProcess h
  refine ⟨hused.fresh, hused.xy.trans hxy, hused.z.trans hz, fun hfault => ?_⟩
  rw [State.ssProcess_of_fault hfault]
  exact ⟨htilt, rfl⟩

/-! ### The obligation -/

/-- Settles O19: the row of each command, then what its operation leaves; the two evaluations by what each path decides, which its
reports, the nodes they drive and the actions leave (`State.CoreAs`). -/
theorem hedgeEvents : Obligations.HedgeEvents := by
  intro s h
  refine ⟨fun rb err hawake hsleep hdeep hfree => ?hwEval,
    fun hruns => ⟨_, exec_hedgeSdEval_of_runs hruns, State.sdRow_effect h⟩,
    fun g hruns hact hup => ⟨_, exec_orderlyOffOverrun_of_on hruns hact hup, State.overrunSet_effect h g⟩,
    fun g hdone => exec_orderlyOffOverrun_of_done hdone,
    fun level hawake hon => ⟨_, exec_dockAccept_of_on hawake hon level, s.dockAccepted_effect level⟩,
    fun level hoff => exec_dockAccept_of_off hoff level,
    fun n hruns => ⟨_, exec_armExpiry_of_runs hruns n, s.setArm_effect n none⟩,
    fun n hset => ⟨_, exec_sstopMismatchClear_of_set hset, State.mismatchCleared_effect h n⟩,
    fun n low hon hreleased hawake hsleep hdeep => ⟨exec_safeStopPulseTest_of_taken s n low, _,
      exec_safeStopPulseTest_of_judged hon hreleased hawake hsleep hdeep low, State.pulseJudged_effect h n _⟩,
    fun hon => ⟨fun rx => ⟨_, exec_ssPoll_of_on hon rx, s.ssPoll_effect _⟩,
      fun id hdue => ⟨_, exec_ssIdentityCheck_of_due hon hdue id, State.ssIdentity_effect h id⟩,
      fun hfresh => ⟨_, exec_ssSampleProcess_of_fresh hon hfresh, State.ssProcess_effect h⟩⟩⟩
  case hwEval =>
    have hrow := exec_hedgeHwEval_of_awake hawake hsleep hdeep rb err
    have k : Keeps (2 ^ Part.seq.num) s ((s.hwArmed err).readBack rb).applyActions.cutAlarm :=
      execHedgeHwEval_keeps rb err (by decide) h hrow
    exact ⟨_, hrow, k.part .seq (by decide), State.hwRow_effect h hfree rb err⟩

end Sys2Proof.Machine
end

section
/-! SUPPORT. Rails (07_rail_sequencing.md, R175, R176): the state of each rail after a change, and what the change leaves of the
sequencer and of the registers. -/

namespace Sys2Proof.Machine

/-! ### A rail's change of state (R175, R176) -/

/-- A rail put in another's place, seen by its state alone. -/
theorem railState_set (rail : Vector Rail 24) (n m : Fin 24) (r : Rail) :
    ((rail.set n r)[m]).state = if m = n then r.state else (rail[m]).state := by
  by_cases hmn : m = n
  · rw [if_pos hmn, hmn]
    exact congrArg Rail.state (Vector.getElem_set_self n.isLt)
  · rw [if_neg hmn]
    exact congrArg Rail.state (Vector.getElem_set_ne n.isLt m.isLt fun e => hmn (Fin.ext e.symm))

/-- A state that stands, in the form of a change of rail `n`. -/
theorem railState_stay (rail : Vector Rail 24) (n m : Fin 24) :
    (rail[m]).state = if m = n then (rail[n]).state else (rail[m]).state := by
  split
  case isTrue hmn => rw [hmn]
  case isFalse => rfl

/-- Ranks alone move. -/
theorem rankStep_state (rail : Vector Rail 24) (n m : Fin 24) (x : RailState) :
    ((rankStep rail n x)[m]).state = (rail[m]).state := by
  have hset : ∀ k, ((rail.set n { rail[n] with rank := k })[m]).state = (rail[m]).state := fun k =>
    (railState_set rail n m _).trans (railState_stay rail n m).symm
  unfold rankStep
  split
  case isTrue ramp => exact hset _
  case isFalse =>
    split
    case isTrue off =>
      refine (congrArg Rail.state (Vector.getElem_map _ m.isLt)).trans (Eq.trans ?_ (hset 0))
      split <;> rfl
    case isFalse => rfl

@[simp] theorem State.railCnt_seq (s : State) (a hi lo : Nat) : (s.railCnt a hi lo).seq = s.seq := rfl

@[simp] theorem State.postRail_seq (s : State) (n : Fin 24) (src : RailState) (cause : Nat) (ab : Bool) (us : Nat) :
    (s.postRail n src cause ab us).seq = s.seq := State.post_seq ..

/-- A warning that stands is cleared in the rail's value register, and its end is posted. -/
theorem State.endWarning_eq (s : State) (n : Fin 24) (ov : Bool) : s.endWarning n ov = s ∨
    ∃ b l, s.endWarning n ov = (s.setFlag (Reg.SUP_RAIL_VALUE n) b false).post 0x21 l := by
  unfold State.endWarning
  extract_lets
  split
  case isTrue warned => exact .inr ⟨_, _, rfl⟩
  case isFalse => exact .inl rfl

@[simp] theorem State.endWarning_seq (s : State) (n : Fin 24) (ov : Bool) : (s.endWarning n ov).seq = s.seq := by
  rcases s.endWarning_eq n ov with e | ⟨b, l, e⟩
  · rw [e]
  · rw [e, State.post_seq, State.setFlag_seq]

theorem State.setRail_of_same {s : State} {n : Fin 24} {x : RailState} (h : (s.seq.rail[n]).state = x) (cause : Nat) (ab : Bool) :
    s.setRail n x cause ab = s := if_pos h

theorem State.setRail_seq {s : State} {n : Fin 24} {x : RailState} (h : (s.seq.rail[n]).state ≠ x) (cause : Nat) (ab : Bool) :
    (s.setRail n x cause ab).seq = { s.seq with rail := rankStep (s.seq.rail.set n
      { s.seq.rail[n] with state := x, entered := s.ptNow, okPt := none, why := none }) n x } := by
  unfold State.setRail
  rw [if_neg h]
  simp [apply_ite State.seq]

theorem State.setRail_state (s : State) (n m : Fin 24) (x : RailState) (cause : Nat) (ab : Bool) :
    ((s.setRail n x cause ab).seq.rail[m]).state = if m = n then x else (s.seq.rail[m]).state := by
  by_cases hx : (s.seq.rail[n]).state = x
  · subst hx
    rw [State.setRail_of_same rfl]
    exact railState_stay _ n m
  · rw [State.setRail_seq hx, rankStep_state, railState_set]

/-- Each rail's state after a fold that changes it in the rail's own step alone. -/
theorem foldl_railState {f : State → Fin 24 → State} {new : Fin 24 → RailState → RailState}
    (hf : ∀ u (n m : Fin 24), ((f u n).seq.rail[m]).state =
      if m = n then new n (u.seq.rail[n]).state else (u.seq.rail[m]).state) (s : State) (m : Fin 24) :
    (((List.finRange 24).foldl f s).seq.rail[m]).state = new m (s.seq.rail[m]).state :=
  foldl_of_once (P := fun u => (u.seq.rail[m]).state = (s.seq.rail[m]).state)
    (Q := fun u => (u.seq.rail[m]).state = new m (s.seq.rail[m]).state)
    (fun u n hne hu => (hf u n m).trans ((if_neg hne.symm).trans hu))
    (fun u hu => (hf u m m).trans ((if_pos rfl).trans (congrArg _ hu)))
    (fun u n hne hu => (hf u n m).trans ((if_neg hne.symm).trans hu)) (List.nodup_finRange 24) (List.mem_finRange m) rfl

theorem State.setRails_state (s : State) (mask : BitVec 24) (x : RailState) (cause : Nat) (ab : Bool) (m : Fin 24) :
    ((s.setRails mask x cause ab).seq.rail[m]).state = if mask.getLsbD m then x else (s.seq.rail[m]).state := by
  refine foldl_railState (new := fun n y => if mask.getLsbD n then x else y) (fun u n m => ?_) s m
  split
  case isTrue named => exact u.setRail_state n m x cause ab
  case isFalse => exact railState_stay _ n m

/-! ### What a rail's change leaves -/

/-- The sequencer without its rails: its state, its groups and requests, and its times. -/
def Seq.course (q : Seq) : Seq := { q with rail := .replicate 24 {} }

/-- A register that a rail's change of state may write: its measured times, its values and counters. -/
def railReg (a : Nat) : Prop := a = Reg.SUP_CNT_STATUS ∨ ∃ n : Fin 24, a = Reg.SEQ_RAIL_MEAS n ∨ a = Reg.SUP_RAIL_VALUE n ∨
  a = Reg.SUP_ON_CYCLES n ∨ a = Reg.SUP_RAIL_CNT_S n

/-- Rails alone have changed: the course of the sequencer stands, and so does every register but theirs. -/
structure State.RailsMoved (s t : State) : Prop where
  stored : t.Stored
  course : t.seq.course = s.seq.course
  reg : ∀ a, ¬railReg a → t.reg a = s.reg a

theorem State.RailsMoved.refl {s : State} (h : s.Stored) : s.RailsMoved s := ⟨h, rfl, fun _ _ => rfl⟩

theorem State.RailsMoved.trans {s t u : State} (h : s.RailsMoved t) (h' : t.RailsMoved u) : s.RailsMoved u :=
  ⟨h'.stored, h'.course.trans h.course, fun a ha => (h'.reg a ha).trans (h.reg a ha)⟩

/-- What the course of the sequencer shows is the same. -/
theorem State.RailsMoved.same {s t : State} (h : s.RailsMoved t) {α : Type} (f : Seq → α)
    (hf : ∀ q : Seq, f q.course = f q := by exact fun _ => rfl) : f t.seq = f s.seq := by
  rw [← hf, h.course, hf]

theorem State.RailsMoved.setReg {s t : State} (h : s.RailsMoved t) {a : Nat} (ha : railReg a) (w : Word) :
    s.RailsMoved (t.setReg a w) :=
  h.trans ⟨h.stored.setReg _ _, rfl, fun x hx =>
    (State.reg_setReg h.stored a w x).trans (if_neg fun (e : x = a) => hx (e ▸ ha))⟩

theorem State.RailsMoved.railCnt {s t : State} (h : s.RailsMoved t) {a : Nat} (ha : railReg a) (hi lo : Nat) :
    s.RailsMoved (t.railCnt a hi lo) := (h.setReg ha _).setReg (.inl rfl) _

theorem State.RailsMoved.post {s t : State} (h : s.RailsMoved t) (typ : Nat) (l : List Byte) : s.RailsMoved (t.post typ l) :=
  h.trans ⟨h.stored.congr (State.post_regs ..) (State.post_host ..) (State.post_flash ..), congrArg _ (State.post_seq ..),
    fun _ _ => State.post_reg ..⟩

theorem State.RailsMoved.endWarning {s t : State} (h : s.RailsMoved t) (n : Fin 24) (ov : Bool) :
    s.RailsMoved (t.endWarning n ov) := by
  rcases t.endWarning_eq n ov with e | ⟨b, l, e⟩
  · rwa [e]
  · rw [e]
    exact (h.setReg (.inr ⟨n, .inr (.inl rfl)⟩) _).post _ _

theorem State.RailsMoved.ite {s t u : State} {c : Prop} [Decidable c] (ht : s.RailsMoved t) (hu : s.RailsMoved u) :
    s.RailsMoved (if c then t else u) := by
  split
  case isTrue => exact ht
  case isFalse => exact hu

theorem State.RailsMoved.setRail {s t : State} (h : s.RailsMoved t) (n : Fin 24) (x : RailState) (cause : Nat) (ab : Bool) :
    s.RailsMoved (t.setRail n x cause ab) := by
  have hmeas : railReg (Reg.SEQ_RAIL_MEAS n) := .inr ⟨n, .inl rfl⟩
  have hcycles : railReg (Reg.SUP_ON_CYCLES n) := .inr ⟨n, .inr (.inr (.inl rfl))⟩
  unfold State.setRail
  refine .ite h ?_
  extract_lets dt rails _ u settled good off warned
  have hu : s.RailsMoved u := h.trans ⟨h.stored.congr rfl rfl rfl, rfl, fun _ _ => rfl⟩
  have hsettled : s.RailsMoved settled := .ite (hu.setReg hmeas _) hu
  have hgood : s.RailsMoved good := .ite (hsettled.railCnt hcycles _ _) hsettled
  have hoff : s.RailsMoved off := .ite (hgood.setReg hmeas _) hgood
  have hwarned : s.RailsMoved warned := .ite ((hoff.endWarning n false).endWarning n true) hoff
  exact hwarned.post _ _

theorem State.railsMoved_setRails {s : State} (h : s.Stored) (mask : BitVec 24) (x : RailState) (cause : Nat) (ab : Bool) :
    s.RailsMoved (s.setRails mask x cause ab) :=
  List.foldlRecOn _ _ (.refl h) fun _ hu n _ => .ite (hu.setRail n x cause ab) hu

theorem railReg_iff {a : Nat} : railReg a ↔ a = 0x7020 ∨ ∃ n : Fin 24, a = 0x6114 + 0x20 * n.val ∨
    a = 0x7110 + 0x20 * n.val ∨ a = 0x7400 + 0x4 * n.val ∨ a = 0x711C + 0x20 * n.val := Iff.rfl

theorem not_railReg_latch : ¬railReg Reg.SEQ_LATCH := by
  rw [railReg_iff]
  dsimp only [Reg.SEQ_LATCH]
  omega

theorem not_railReg_supStatus : ¬railReg Reg.SUP_STATUS := by
  rw [railReg_iff]
  dsimp only [Reg.SUP_STATUS]
  omega

theorem not_railReg_status (m : Fin 24) : ¬railReg (Reg.SEQ_RAIL_STATUS m) := by
  rw [railReg_iff]
  dsimp only [Reg.SEQ_RAIL_STATUS]
  omega

end Sys2Proof.Machine
end

section
/-! SUPPORT. Decision points of the sequencer (07_rail_sequencing.md, R22, R175, R182, R187): what the engine samples at a
calm one, and a request taken there. -/

namespace Sys2Proof.Machine

/-! ### A decision point at which nothing is sampled (R22, R175, R182, R187) -/

/-- No crossing, input loss or action calls for a shutdown, and every orderly-off action that is asserted has been taken. -/
structure State.Quiet (s : State) : Prop where
  tripped : s.sup.tripped = 0
  vin : s.sup.vinLow = false
  cut : s.act 17 = false
  taken : ∀ k : Fin 8, s.act (9 + k) = s.seq.taken.getLsbD k

theorem State.seqCalm.quiet {s : State} (h : s.seqCalm) : s.Quiet := ⟨h.tripped, h.vin, h.cut, h.taken⟩

theorem State.act_congr {s t : State} (hhedge : t.hedge = s.hedge)
    (hreg : t.reg Reg.HEDGE_SLEEP_ACTIONS = s.reg Reg.HEDGE_SLEEP_ACTIONS) (i : Nat) : t.act i = s.act i := by
  unfold State.act State.acting
  rw [hhedge, State.fld_congr hreg]

/-- The parts on which a sample of the engine depends: supervision, the Hedge and the registers of HEDGE. -/
abbrev sampled : Nat := 2 ^ Part.sup.num + 2 ^ Part.hedge.num + 2 ^ (Part.block 5).num

theorem Keeps.act {s t : State} (k : Keeps sampled s t) (i : Nat) : t.act i = s.act i :=
  State.act_congr (k.part .hedge (by decide)) (k.part (.block 5) (by decide) _ (by decide)) i

theorem State.Quiet.keeps {s t : State} (h : s.Quiet) (k : Keeps sampled s t) (htaken : t.seq.taken = s.seq.taken) :
    t.Quiet := by
  have hsup : t.sup = s.sup := k.part .sup (by decide)
  exact ⟨hsup ▸ h.tripped, hsup ▸ h.vin, (k.act 17).trans h.cut, fun i => (k.act _).trans (htaken ▸ h.taken i)⟩

theorem State.enterFaultOff_of_untripped {s : State} (h : s.sup.tripped = 0) : s.enterFaultOff = s := by
  have hs : ({ s with sup.tripped := 0 } : State) = s :=
    calc { s with sup.tripped := 0 } = { s with sup.tripped := s.sup.tripped } := by rw [h]
      _ = s := rfl
  exact (if_pos h).trans hs

theorem State.enterVinDown_of_good {s : State} (h : s.sup.vinLow = false) : s.enterVinDown = s := by
  simp [State.enterVinDown, h]

theorem State.enterCut_of_off {s : State} (h : s.act 17 = false) : s.enterCut = s := by
  simp [State.enterCut, h]

/-- The mask of the orderly-off actions, bit by bit. -/
theorem ofNat_bitsOf_getLsbD (f : Nat → Bool) (k : Fin 8) : (BitVec.ofNat 8 (bitsOf 8 f)).getLsbD k = f k := by
  rw [BitVec.getLsbD_ofNat, testBit_bitsOf]
  simp [k.isLt]

theorem ofNat_bitsOf_eq {f : Nat → Bool} {v : BitVec 8} (h : ∀ k : Fin 8, f k = v.getLsbD k) :
    BitVec.ofNat 8 (bitsOf 8 f) = v :=
  BitVec.eq_of_getLsbD_eq fun i hi => (ofNat_bitsOf_getLsbD f ⟨i, hi⟩).trans (h ⟨i, hi⟩)

theorem State.orderlyOff_of_taken {s : State} (h : ∀ k : Fin 8, s.act (9 + k) = s.seq.taken.getLsbD k) :
    s.orderlyOff = s := by
  have hheld : BitVec.ofNat 8 (bitsOf 8 fun g => s.act (9 + g)) = s.seq.taken := ofNat_bitsOf_eq h
  unfold State.orderlyOff
  rw [hheld]
  refine List.foldlRecOn (motive := (· = s)) _ _ rfl fun u hu g _ => ?_
  rw [BitVec.and_not_self, if_neg (by simp), hu]

theorem State.planPoint_of_not_due {s : State} (h : s.seq.startDue = false) : s.planPoint = s := by
  simp [State.planPoint, h]

/-- The entries of R182 and the orderly-off actions find nothing to do. -/
theorem State.Quiet.entries {s : State} (h : s.Quiet) : s.enterFaultOff.enterVinDown.enterCut.orderlyOff = s := by
  rw [State.enterFaultOff_of_untripped h.tripped, State.enterVinDown_of_good h.vin, State.enterCut_of_off h.cut,
    State.orderlyOff_of_taken h.taken]

/-- No rail has failed. -/
theorem State.startFailure_zero (s : State) : s.startFailure 0 0 = s := by
  simp [State.startFailure, List.find?_eq_none.mpr]

namespace State.seqCalm

variable {s : State} (h : s.seqCalm)
include h

/-- Without crossings, the start failures are the ramp timeouts. -/
theorem startFailures (timed : BitVec 24) : s.startFailures timed = s.startFailure
    (if s.railsHeld then 0 else timed &&& s.railsIn [.ramp]) (if s.railsHeld then 0 else timed &&& s.railsIn [.ramp]) := by
  have hs : ({ s with seq.uvX := 0, seq.ovX := 0 } : State) = s :=
    calc { s with seq.uvX := 0, seq.ovX := 0 } = { s with seq.uvX := s.seq.uvX, seq.ovX := s.seq.ovX } := by rw [h.uv, h.ov]
      _ = s := rfl
  unfold State.startFailures
  extract_lets x t
  have hx : x = 0 := by simp [x, h.uv, h.ov]
  have ht : t = if s.railsHeld then 0 else timed &&& s.railsIn [.ramp] := by
    dsimp only [t]
    rw [hx, show ~~~(0 : BitVec 24) = BitVec.allOnes 24 from rfl, BitVec.and_allOnes]
  refine (congrArg (fun u : State => u.startFailure (x ||| t) t) hs).trans ?_
  rw [hx, show (0 : BitVec 24) ||| t = t from BitVec.zero_or, ht]

theorem sample_of_none {timed : BitVec 24} (ht : s.railsHeld = true ∨ timed &&& s.railsIn [.ramp] = 0) :
    s.sample timed = s.planPoint := by
  have hnone : (if s.railsHeld then 0 else timed &&& s.railsIn [.ramp]) = 0 := by
    split
    case isTrue => rfl
    case isFalse hfree => exact ht.resolve_left hfree
  unfold State.sample
  rw [h.startFailures, hnone, State.startFailure_zero, h.quiet.entries]

theorem atPoint_of_none {timed : BitVec 24} (ht : s.railsHeld = true ∨ timed &&& s.railsIn [.ramp] = 0) (k : State → State) :
    s.atPoint timed k = (k s.planPoint).endPoint := by
  unfold State.atPoint
  rw [if_pos h.runs, h.sample_of_none ht]

/-- A decision point at which nothing times out and no Plan start is due. -/
theorem atPoint_zero (hdue : s.seq.startDue = false) (k : State → State) : s.atPoint 0 k = (k s).endPoint := by
  rw [h.atPoint_of_none (timed := 0) (.inr BitVec.zero_and), State.planPoint_of_not_due hdue]

/-- A request that nothing defers is taken at its own decision point. -/
theorem seqRequest (hdue : s.seq.startDue = false) (hboot : s.hedge.bootHold = false) (r : Req) (op : Nat) (bad : Bool)
    (k : State → State × Option Reply) : s.seqRequest r op bad k = (s.command r op bad k).endPoint := by
  unfold State.seqRequest
  rw [hboot, Bool.and_false, if_neg Bool.false_ne_true, if_pos h.runs, h.atPoint_zero hdue]

end State.seqCalm

/-- While the boot hold stands a request waits in its queue (R152). -/
theorem State.seqRequest_of_boot {s : State} (hplan : s.dev.planLoaded = true) (hboot : s.hedge.bootHold = true) (r : Req)
    (op : Nat) (bad : Bool) (k : State → State × Option Reply) : s.seqRequest r op bad k = s.awaitTurn r op := by
  unfold State.seqRequest
  rw [hplan, hboot]
  rfl

/-! ### Requests at their decision point (R22, R184, R185) -/

namespace State.seqCalm

variable {s : State} (h : s.seqCalm) (hdue : s.seq.startDue = false) (hboot : s.hedge.bootHold = false) {r : Req} {op : Nat}
  (hadmits : s.admits r op) {k : State → State × Option Reply} {t : State}
include h hdue hboot hadmits

theorem seqRequest_open (hk : k (s.take r op) = (t, none)) : s.seqRequest r op false k = t.endPoint := by
  rw [h.seqRequest hdue hboot, State.command_open hadmits hk]

theorem seqRequest_done {rep : Reply} (hk : k (s.take r op) = (t, some rep)) :
    s.seqRequest r op false k = (t.complete r rep).endPoint := by
  rw [h.seqRequest hdue hboot, State.command_admits hadmits hk]

end State.seqCalm

end Sys2Proof.Machine
end

section
/-! SUPPORT. What the sequencer's timers and requests leave (07_rail_sequencing.md, R175, R179 to R191): groups that start and
leave, rail timers, and start failures. -/

namespace Sys2Proof.Machine

/-! ### Groups start (R179, R184, R191) -/

@[simp] theorem State.postSeqDone_seq (s : State) (kind : Nat) (g : BitVec 8) : (s.postSeqDone kind g).seq = s.seq :=
  State.post_seq ..

@[simp] theorem State.postSeqDone_reg (s : State) (kind : Nat) (g : BitVec 8) (x : Nat) :
    (s.postSeqDone kind g).reg x = s.reg x := State.post_reg ..

/-- The sequencer as a power-up of groups `g` leaves it: in `POWER_UP`, `g` in the target, its other requests and what is due as
they were. -/
structure Seq.Raised (q : Seq) (g : BitVec 8) (q' : Seq) : Prop where
  st : q'.st = .powerUp
  target : q'.target = q.target ||| g
  waitWake : q'.waitWake = false
  startDue : q'.startDue = q.startDue
  ons : q'.ons = q.ons

theorem State.joinGroups_raised (s : State) (g : BitVec 8) : s.seq.Raised g (s.joinGroups g).seq := by
  unfold State.joinGroups
  dsimp only
  split
  case isTrue rising => exact ⟨rfl, rfl, rfl, rfl, rfl⟩
  case isFalse => exact ⟨rfl, rfl, rfl, rfl, rfl⟩

/-- Groups of a controller that is no Herd member join the target at once. -/
theorem State.requestGroups_of_noHerd {s : State} (h : s.herdGroups = 0) (g : BitVec 8) :
    s.requestGroups g = s.joinGroups g := by
  simp [State.requestGroups, h]

theorem State.startGroups_raised {s : State} (hs : s.Stored) (h : s.herdGroups = 0) (g : BitVec 8) :
    s.seq.Raised g (s.startGroups g).seq := by
  have hjoin := s.joinGroups_raised g
  have hstored : (s.joinGroups g).Stored := (State.joinGroups_keeps (K := 0) g (Nat.zero_and _) (Keeps.refl hs)).stored
  have hwaits : (s.joinGroups g).RailsMoved (s.startGroups g) := by
    unfold State.startGroups
    rw [State.requestGroups_of_noHerd h]
    exact State.railsMoved_setRails hstored _ _ _ _
  exact ⟨(hwaits.same Seq.st).trans hjoin.st, (hwaits.same Seq.target).trans hjoin.target,
    (hwaits.same Seq.waitWake).trans hjoin.waitWake, (hwaits.same Seq.startDue).trans hjoin.startDue,
    (hwaits.same Seq.ons).trans hjoin.ons⟩

/-! ### Plan start and the end of REST (R191) -/

theorem State.planStart_of_none {s : State} (h : s.startable s.seq.restGroups = 0) :
    s.planStart = { s with seq.waitWake := true, seq.startDue := false } := by
  simp [State.planStart, h]

theorem State.planStart_raised {s : State} (hs : s.Stored) (hherd : s.herdGroups = 0) (h : s.startable s.seq.restGroups ≠ 0) :
    ({ s.seq with startDue := false, waitWake := false } : Seq).Raised (s.startable s.seq.restGroups) s.planStart.seq := by
  unfold State.planStart
  simp only [h, if_false, decide_false, State.postSeqDone_seq]
  exact State.startGroups_raised (s := { s with seq.startDue := false, seq.waitWake := false }) (hs.congr rfl rfl rfl) hherd _

theorem State.planPoint_of_due {s : State} (hallowed : s.startAllowed = true) (hdue : s.seq.startDue = true)
    (hoff : s.seq.st = .allOff) : s.planPoint = s.planStart := by
  simp [State.planPoint, hallowed, hdue, hoff]

theorem State.planPoint_of_not_allowed {s : State} (h : s.startAllowed = false) : s.planPoint = s := by
  simp [State.planPoint, h]

/-- A Plan start falls due at the end of REST, and runs where it may. -/
theorem State.restEnds_of_due {s : State} (hrest : s.seq.st = .rest) (h : s.seq.restCut = true ∨ s.flag Reg.SEQ_CTRL 0 = true) :
    s.restEnds = State.planPoint { s with seq.st := .allOff, seq.startDue := true } := by
  simp [State.restEnds, hrest, h]

theorem State.restEnds_of_wake {s : State} (hrest : s.seq.st = .rest) (hcut : s.seq.restCut = false)
    (hctrl : s.flag Reg.SEQ_CTRL 0 = false) : s.restEnds = { s with seq.st := .allOff, seq.waitWake := true } := by
  simp [State.restEnds, hrest, hcut, hctrl]

/-! ### Rail timers (R175) -/

theorem State.railsIn_getLsbD (s : State) (l : List RailState) (k : Fin 24) :
    (s.railsIn l).getLsbD k = l.contains (s.seq.rail[k]).state := s.railsIn_getElem l k

/-- A rail of `rails` is in state `x`. -/
theorem State.railsIn_one_getLsbD (s : State) (rails : BitVec 24) (x : RailState) (n : Fin 24) :
    (rails &&& s.railsIn [x]).getLsbD n = true ↔ rails.getLsbD n = true ∧ (s.seq.rail[n]).state = x := by
  rw [BitVec.getLsbD_and, Bool.and_eq_true, State.railsIn_getLsbD]
  simp

theorem State.settleDone_state (s : State) (rails : BitVec 24) (n : Fin 24) : ((s.settleDone rails).seq.rail[n]).state =
    if s.railsHeld = false ∧ rails.getLsbD n = true ∧ (s.seq.rail[n]).state = .settle ∧ s.keptRails.getLsbD n = true
    then .good else (s.seq.rail[n]).state := by
  by_cases hheld : s.railsHeld = true
  · have hstay : s.settleDone rails = s := if_pos hheld
    rw [hstay, if_neg fun hgood => Bool.false_ne_true (hgood.1.symm.trans hheld)]
  · have hset : s.settleDone rails = s.setRails (rails &&& s.railsIn [.settle] &&& s.keptRails) .good 2 := if_neg hheld
    rw [hset, State.setRails_state]
    refine if_congr ?_ rfl rfl
    rw [BitVec.getLsbD_and, Bool.and_eq_true, State.railsIn_one_getLsbD, and_assoc]
    exact (and_iff_right (Bool.not_eq_true _ ▸ hheld)).symm

/-- One rail of a discharge timeout. -/
def State.dischargeStep (rails : BitVec 24) (s : State) (n : Fin 24) : State :=
  if rails.getLsbD n && (s.seq.rail[n]).state = .discharge then s.dischargeTimeout n else s

theorem State.dischargeTimeouts_eq (s : State) (rails : BitVec 24) :
    s.dischargeTimeouts rails = (List.finRange 24).foldl (State.dischargeStep rails) s := rfl

theorem State.dischargeTimeout_state (s : State) (n m : Fin 24) :
    ((s.dischargeTimeout n).seq.rail[m]).state = if m = n then .off else (s.seq.rail[m]).state :=
  State.setRail_state _ n m .off 2 false

theorem State.dischargeStep_state (rails : BitVec 24) (s : State) (n m : Fin 24) :
    ((s.dischargeStep rails n).seq.rail[m]).state = if m = n then
      (if rails.getLsbD n = true ∧ (s.seq.rail[n]).state = .discharge then .off else (s.seq.rail[n]).state)
      else (s.seq.rail[m]).state := by
  unfold State.dischargeStep
  simp only [Bool.and_eq_true, decide_eq_true_eq]
  split
  case isTrue => exact s.dischargeTimeout_state n m
  case isFalse => exact railState_stay _ n m

/-- A discharge timeout sets the rail's flag alone. -/
theorem State.dischargeTimeout_flag {s : State} (h : s.Stored) (n m : Fin 24) : (s.dischargeTimeout n).Stored ∧
    (s.dischargeTimeout n).flag (Reg.SEQ_RAIL_STATUS m) 6 = (decide (m = n) || s.flag (Reg.SEQ_RAIL_STATUS m) 6) := by
  have hset := h.setFlag (Reg.SEQ_RAIL_STATUS n) 6 true
  have hcnt : (s.setFlag (Reg.SEQ_RAIL_STATUS n) 6 true).RailsMoved
      ((s.setFlag (Reg.SEQ_RAIL_STATUS n) 6 true).railCnt (Reg.SUP_RAIL_CNT_S n) 31 16) :=
    (State.RailsMoved.refl hset).railCnt (.inr ⟨n, .inr (.inr (.inr rfl))⟩) 31 16
  have hoff := (State.RailsMoved.refl (hcnt.stored.congr (t := { (s.setFlag (Reg.SEQ_RAIL_STATUS n) 6 true).railCnt
    (Reg.SUP_RAIL_CNT_S n) 31 16 with seq.timeouts := s.seq.timeouts + 1 }) rfl rfl rfl)).setRail n .off 2 false
  have hreg := (hoff.reg _ (not_railReg_status m)).trans (hcnt.reg _ (not_railReg_status m))
  refine ⟨hoff.stored, (State.flag_congr hreg 6).trans ?_⟩
  by_cases hmn : m = n
  · rw [hmn, State.flag_setFlag_self h _ true (by decide), decide_eq_true rfl, Bool.true_or]
  · rw [State.flag_setFlag_other h true (.inl (by dsimp only [Reg.SEQ_RAIL_STATUS]; omega)), decide_eq_false hmn, Bool.false_or]

theorem State.dischargeStep_flag (rails : BitVec 24) {s : State} (h : s.Stored) (n m : Fin 24) :
    (s.dischargeStep rails n).Stored ∧ (s.dischargeStep rails n).flag (Reg.SEQ_RAIL_STATUS m) 6 =
      (decide (m = n ∧ rails.getLsbD n = true ∧ (s.seq.rail[n]).state = .discharge) || s.flag (Reg.SEQ_RAIL_STATUS m) 6) := by
  unfold State.dischargeStep
  simp only [Bool.and_eq_true, decide_eq_true_eq]
  split
  case isTrue htimed =>
    refine (State.dischargeTimeout_flag h n m).imp_right (·.trans ?_)
    rw [decide_eq_decide.mpr (and_iff_left htimed)]
  case isFalse hnot => exact ⟨h, by rw [decide_eq_false fun hm => hnot hm.2, Bool.false_or]⟩

theorem State.dischargeTimeouts_state (s : State) (rails : BitVec 24) (n : Fin 24) :
    ((s.dischargeTimeouts rails).seq.rail[n]).state =
      if rails.getLsbD n = true ∧ (s.seq.rail[n]).state = .discharge then .off else (s.seq.rail[n]).state := by
  rw [State.dischargeTimeouts_eq]
  exact foldl_railState (new := fun n y => if rails.getLsbD n = true ∧ y = .discharge then .off else y)
    (fun u n m => u.dischargeStep_state rails n m) s n

theorem State.dischargeTimeouts_flag {s : State} (h : s.Stored) (rails : BitVec 24) (n : Fin 24) :
    (s.dischargeTimeouts rails).flag (Reg.SEQ_RAIL_STATUS n) 6 =
      (decide (rails.getLsbD n = true ∧ (s.seq.rail[n]).state = .discharge) || s.flag (Reg.SEQ_RAIL_STATUS n) 6) := by
  have hother : ∀ (u : State) (m : Fin 24), m ≠ n → u.Stored → (u.dischargeStep rails m).Stored ∧
      (u.dischargeStep rails m).flag (Reg.SEQ_RAIL_STATUS n) 6 = u.flag (Reg.SEQ_RAIL_STATUS n) 6 := fun u m hne hu =>
    (State.dischargeStep_flag rails hu m n).imp_right (·.trans (by simp [hne.symm]))
  have hfold := foldl_of_once (f := State.dischargeStep rails)
    (P := fun u => u.Stored ∧ (u.seq.rail[n]).state = (s.seq.rail[n]).state ∧
      u.flag (Reg.SEQ_RAIL_STATUS n) 6 = s.flag (Reg.SEQ_RAIL_STATUS n) 6)
    (Q := fun u => u.Stored ∧ u.flag (Reg.SEQ_RAIL_STATUS n) 6 =
      (decide (rails.getLsbD n = true ∧ (s.seq.rail[n]).state = .discharge) || s.flag (Reg.SEQ_RAIL_STATUS n) 6))
    (fun u m hne ⟨hu, hstate, hflag⟩ => ⟨(hother u m hne hu).1,
      (u.dischargeStep_state rails m n).trans ((if_neg hne.symm).trans hstate), (hother u m hne hu).2.trans hflag⟩)
    (fun u ⟨hu, hstate, hflag⟩ => (State.dischargeStep_flag rails hu n n).imp_right
      (·.trans (by simp only [true_and, hstate, hflag])))
    (fun u m hne ⟨hu, hflag⟩ => ⟨(hother u m hne hu).1, (hother u m hne hu).2.trans hflag⟩)
    (List.nodup_finRange 24) (List.mem_finRange n) (s := s) ⟨h, rfl, rfl⟩
  rw [State.dischargeTimeouts_eq]
  exact hfold.2

/-! ### Commands of the sequencer complete (R182, R184 to R186) -/

theorem State.abortOns_seq {s : State} (h : s.Stored) (g : BitVec 8) (byFail : Bool) : (s.abortOns g byFail).seq =
    { s.seq with ons := s.seq.ons.filter fun e => e.2 &&& g = 0 } := by
  unfold State.abortOns
  extract_lets l hit rest _ t
  have ht : t.Stored := h.congr rfl rfl rfl
  exact (Keeps.foldl (K := 2 ^ Part.seq.num) _ _ (fun _ _ hu => State.complete_keeps _ _ (by decide) hu)
    (Keeps.refl ht)).part .seq (by decide)

theorem State.enterShutdown_seq {s : State} (h : s.Stored) (st : SeqState) (byFail : Bool) :
    (s.enterShutdown st byFail).seq = { s.seq with
      st := st, groups := s.seq.target, target := 0, slot := 0, joining := 0, startPt := s.ptNow, timeouts := 0,
      allOffPt := none, snapDue := true, waitWake := false, startDue := false,
      ons := s.seq.ons.filter fun e => e.2 &&& 0xFF = 0 } := by
  unfold State.enterShutdown
  extract_lets g _ q _ t
  exact State.abortOns_seq (s := t) (h.congr rfl rfl rfl) 0xFF byFail

/-! ### Start failure (R188) -/

/-- The rails of `m` have failed and are counted, those of `timed` by their ramp timeout. -/
def State.railsFailed (s : State) (m timed : BitVec 24) : State :=
  (List.finRange 24).foldl (fun s (n : Fin 24) =>
    if m.getLsbD n then (s.setRail n .faulted (if timed.getLsbD n then 2 else 3)).railCnt (Reg.SUP_RAIL_CNT_S n) 15 0
    else s) s

/-- The failure is latched for rail `f` and goes to the journal. -/
def State.failureNoted (s : State) (f : Fin 24) (kind : Nat) (target : BitVec 8) (reason : Nat) : State :=
  ((s.latchFail f kind).herdAbort 1).journalFail target reason

theorem State.railsFailed_state (s : State) (m timed : BitVec 24) (n : Fin 24) :
    ((s.railsFailed m timed).seq.rail[n]).state = if m.getLsbD n then .faulted else (s.seq.rail[n]).state := by
  refine foldl_railState (new := fun n y => if m.getLsbD n then .faulted else y) (fun u k n => ?_) s n
  split
  case isTrue named => exact u.setRail_state k n .faulted _ _
  case isFalse => exact railState_stay _ k n

theorem State.railsMoved_railsFailed {s : State} (h : s.Stored) (m timed : BitVec 24) : s.RailsMoved (s.railsFailed m timed) :=
  List.foldlRecOn _ _ (.refl h) fun _ hu n _ =>
    .ite ((hu.setRail n _ _ _).railCnt (.inr ⟨n, .inr (.inr (.inr rfl))⟩) _ _) hu

theorem State.railsFailed_sampled {s : State} (h : s.Stored) (m timed : BitVec 24) :
    Keeps sampled s (s.railsFailed m timed) :=
  Keeps.foldl _ _ (fun _ n hu => Keeps.ite (fun _ => State.railCnt_keeps _ _ _
    (keeps_block (W := 2 ^ (Part.block 7).num) (by decide) 7 (by simp only [Reg.SUP_RAIL_CNT_S]; omega) (by decide)) (by decide)
    (State.setRail_keeps n _ _ _ (by decide) hu)) fun _ => hu) (Keeps.refl h)

theorem State.herdAbort_reg {s : State} (h : s.Stored) (reason : Nat) {x : Nat} (hx : x ≠ Reg.SEQ_HERD_ABORT) :
    (s.herdAbort reason).reg x = s.reg x := by
  unfold State.herdAbort
  split
  case isTrue rising => exact (State.post_reg ..).trans ((State.reg_setReg h _ _ _).trans (if_neg hx))
  case isFalse => rfl

theorem State.failureNoted_keeps {K : Nat} {s : State} (h : s.Stored) (f : Fin 24) (kind : Nat) (target : BitVec 8) (reason : Nat)
    (hK : K &&& (2 ^ Part.fabric.num + 2 ^ Part.herd.num + 2 ^ (Part.block 6).num) = 0) :
    Keeps K s (s.failureNoted f kind target reason) :=
  State.journalFail_keeps _ _ (keeps_sub hK (by decide)) (State.herdAbort_keeps _ (keeps_sub hK (by decide))
    (State.latchFail_keeps _ _ (keeps_sub hK (by decide)) (Keeps.refl h)))

theorem State.failureNoted_seq {s : State} (h : s.Stored) (f : Fin 24) (kind : Nat) (target : BitVec 8) (reason : Nat) :
    (s.failureNoted f kind target reason).seq = s.seq :=
  (State.failureNoted_keeps (K := 2 ^ Part.seq.num) h f kind target reason (by decide)).part .seq (by decide)

theorem State.failureNoted_latch {s : State} (h : s.Stored) (f : Fin 24) (kind : Nat) (target : BitVec 8) (reason : Nat) :
    (s.failureNoted f kind target reason).reg Reg.SEQ_LATCH = pack [(1, 31), (f.val, 8), (kind, 0)] :=
  calc (s.failureNoted f kind target reason).reg Reg.SEQ_LATCH
      _ = ((s.latchFail f kind).herdAbort 1).reg Reg.SEQ_LATCH := State.journal_reg ..
      _ = (s.latchFail f kind).reg Reg.SEQ_LATCH := State.herdAbort_reg (h.setReg _ _) _ (by decide)
      _ = pack [(1, 31), (f.val, 8), (kind, 0)] := (State.reg_setReg h _ _ _).trans (if_pos rfl)

theorem find?_lowest {m : BitVec 24} {f : Fin 24} (hf : m.getLsbD f = true)
    (hmin : ∀ k : Fin 24, m.getLsbD k = true → f ≤ k) :
    ((List.finRange 24).find? fun (n : Fin 24) => m.getLsbD n) = some f := by
  rw [← Fin.find?_eq_find?_finRange, Fin.find?_eq_some_iff]
  exact ⟨hf, fun k hk => Bool.eq_false_iff.mpr fun hmk => absurd (hmin k hmk) (not_le.mpr hk)⟩

/-- Ramp timeouts alone: every failed rail is noted, the lowest is latched with kind 1, and the shutdown is entered unless it is
outranked. -/
theorem State.startFailure_of_timed {s : State} {m : BitVec 24} {f : Fin 24} (hf : m.getLsbD f = true)
    (hmin : ∀ k : Fin 24, m.getLsbD k = true → f ≤ k) (hramp : (s.seq.rail[f]).state = .ramp) : ∃ reason,
    s.startFailure m m = if ((s.railsFailed m m).failureNoted f 1 s.seq.target reason).outranked
      then (s.railsFailed m m).failureNoted f 1 s.seq.target reason
      else ((s.railsFailed m m).failureNoted f 1 s.seq.target reason).enterShutdown .startAbort true := by
  unfold State.startFailure
  rw [find?_lowest hf hmin]
  dsimp only
  rw [hramp, if_neg (show ¬RailState.ramp = .settle by decide), if_pos hf]
  exact ⟨_, rfl⟩

theorem State.outranked_of_quiet {s : State} (h : s.Quiet) (hst : s.seq.st = .powerUp ∨ s.seq.st = .steady) :
    s.outranked = false := by
  unfold State.outranked
  rcases hst with hst | hst <;> simp [h.tripped, h.vin, h.cut, hst]

/-- What ramp timeouts of rails `m` leave in `POWER_UP` and `STEADY`. -/
theorem State.rampFailure_effect {s : State} (h : s.Stored) (hq : s.Quiet) (hst : s.seq.st = .powerUp ∨ s.seq.st = .steady)
    {m : BitVec 24} {f : Fin 24} (hf : m.getLsbD f = true) (hmin : ∀ k : Fin 24, m.getLsbD k = true → f ≤ k)
    (hramp : (s.seq.rail[f]).state = .ramp) :
    (s.startFailure m m).Quiet ∧ (s.startFailure m m).seq.startDue = false ∧
    (s.startFailure m m).seq.st = .startAbort ∧ (s.startFailure m m).seq.target = 0 ∧ (s.startFailure m m).seq.slot = 0 ∧
    (s.startFailure m m).reg Reg.SEQ_LATCH = pack [(1, 31), (f.val, 8), (1, 0)] ∧
    ∀ n : Fin 24, ((s.startFailure m m).seq.rail[n]).state = if m.getLsbD n then .faulted else (s.seq.rail[n]).state := by
  have hmoved := State.railsMoved_railsFailed h m m
  obtain ⟨reason, e⟩ := State.startFailure_of_timed hf hmin hramp
  have knoted := State.failureNoted_keeps (K := sampled) hmoved.stored f 1 s.seq.target reason (by decide)
  have hseq := State.failureNoted_seq hmoved.stored f 1 s.seq.target reason
  have hlatch := State.failureNoted_latch hmoved.stored f 1 s.seq.target reason
  generalize ((s.railsFailed m m).failureNoted f 1 s.seq.target reason) = v at e knoted hseq hlatch
  have hv : v.Quiet := (hq.keeps (State.railsFailed_sampled h m m) (hmoved.same Seq.taken)).keeps knoted (congrArg Seq.taken hseq)
  have hvst : v.seq.st = s.seq.st := (congrArg Seq.st hseq).trans (hmoved.same Seq.st)
  rw [if_neg (Bool.eq_false_iff.mp (State.outranked_of_quiet hv (hvst ▸ hst)))] at e
  have k : Keeps (sampled + 2 ^ (Part.block 6).num) v (v.enterShutdown .startAbort true) :=
    State.enterShutdown_keeps _ _ (by decide) (Keeps.refl knoted.stored)
  have hshut := State.enterShutdown_seq knoted.stored .startAbort true
  rw [e]
  refine ⟨?_, ?_, ?_, ?_, ?_, ?_, fun n => ?_⟩
  · exact hv.keeps (State.enterShutdown_keeps _ _ (by decide) (Keeps.refl knoted.stored)) ((congrArg Seq.taken hshut).trans rfl)
  · exact congrArg Seq.startDue hshut
  · exact congrArg Seq.st hshut
  · exact congrArg Seq.target hshut
  · exact congrArg Seq.slot hshut
  · exact (k.part (.block 6) (by decide) _ (by decide)).trans hlatch
  · refine (congrArg (fun q : Seq => (q.rail[n]).state) hshut).trans ?_
    exact (congrArg (fun q : Seq => (q.rail[n]).state) hseq).trans (s.railsFailed_state m m n)

/-! ### RAIL_GROUP_ON (R184) -/

/-- No orderly-off action holds a group of `g`. -/
theorem heldGroups_and_eq_zero {f : Nat → Bool} {g : BitVec 8} (h : ∀ k : Fin 8, g.getLsbD k = true → f k = false) :
    g &&& BitVec.ofNat 8 (bitsOf 8 f) = 0 := by
  refine BitVec.eq_of_getLsbD_eq fun i hi => Eq.trans ?_ BitVec.getLsbD_zero.symm
  rw [BitVec.getLsbD_and, ofNat_bitsOf_getLsbD f ⟨i, hi⟩, Bool.and_eq_false_imp]
  exact h ⟨i, hi⟩

/-- The groups of an ON command have started. -/
def State.onStarted (s : State) (g : BitVec 8) : State :=
  State.startGroups { s with seq.waitWake := false, seq.startDue := false } g

section GroupOn

variable {s : State} (hherd : s.herdGroups = 0) {g : BitVec 8}
include hherd

theorem State.groupOn_of_rising (hcut : s.act 17 = false) (hheld : ∀ k : Fin 8, g.getLsbD k = true → s.act (9 + k) = false)
    (hst : s.seq.st = .allOff ∨ s.seq.st = .steady ∨ s.seq.st = .powerUp)
    (hgood : g &&& ~~~(s.groupsGood &&& s.seq.target) ≠ 0) (r : Req) : s.groupOn r g =
      ({ s.onStarted g with seq.ons := (s.onStarted g).seq.ons ++ [(r, g)] }, none) := by
  have hfree : g &&& BitVec.ofNat 8 (bitsOf 8 fun k => s.act (9 + k)) = 0 := heldGroups_and_eq_zero hheld
  unfold State.groupOn
  extract_lets herd all held good _ u _ _ v
  have hlocal : herd = false := by simp [herd, hherd]
  have hall : all = g := by simp [all, hlocal]
  have hnot : good = false := decide_eq_false hgood
  refine (if_neg (by simp [hlocal])).trans ((if_neg (by simp [hcut, hall, held, hfree])).trans ((if_neg ?_).trans
    ((if_neg (by simp [hnot])).trans ?_)))
  · rcases hst with hst | hst | hst <;> simp [hst]
  have hv : v = s.onStarted g := (if_neg (by simp [hnot])).trans (congrArg _ hall)
  have hdown : u.seq.st ≠ .powerDown := fun (e : s.seq.st = .powerDown) => by simp [e] at hst
  exact (if_neg (by simp [hdown, hlocal])).trans
    (congrArg (fun w : State => (({ w with seq.ons := w.seq.ons ++ [(r, g)] } : State), none)) hv)

theorem State.onStarted_raised (h : s.Stored) :
    ({ s.seq with waitWake := false, startDue := false } : Seq).Raised g (s.onStarted g).seq :=
  State.startGroups_raised (s := { s with seq.waitWake := false, seq.startDue := false }) (h.congr rfl rfl rfl) hherd g

end GroupOn

/-! ### RAIL_GROUP_OFF (R185) -/

theorem State.startDown_effect (s : State) (g : BitVec 8) (cause : Nat) : (s.startDown g cause).seq.st = .powerDown ∧
    (s.startDown g cause).seq.target = s.seq.target ∧ (s.startDown g cause).seq.slot = s.seq.slot ∧
    (s.startDown g cause).seq.offs = s.seq.offs := by
  unfold State.startDown State.markRemoved
  dsimp only
  split
  case isTrue falling => exact ⟨rfl, rfl, rfl, rfl⟩
  case isFalse => exact ⟨rfl, rfl, rfl, rfl⟩

theorem and_not_and_self (a b : BitVec 8) : a &&& ~~~(a &&& b) = a &&& ~~~b := by
  refine BitVec.eq_of_getLsbD_eq fun i hi => ?_
  simp only [BitVec.getLsbD_and, BitVec.getLsbD_not]
  cases a.getLsbD i <;> simp

/-- In `STEADY` groups of the target leave it and the slot, and a power-down begins. -/
theorem State.offLocal_of_steady {s : State} (h : s.Stored) (hst : s.seq.st = .steady) {g : BitVec 8}
    (hg : g &&& s.seq.target ≠ 0) (cause : Nat) :
    (s.offLocal g cause).seq.st = .powerDown ∧ (s.offLocal g cause).seq.target = s.seq.target &&& ~~~g ∧
    (s.offLocal g cause).seq.slot = s.seq.slot &&& ~~~g ∧ (s.offLocal g cause).seq.offs = s.seq.offs := by
  unfold State.offLocal
  extract_lets q moved lost slot t u v
  have hmoved : moved = 0 := by simp [moved, q, hst]
  have hlost : lost = s.seq.target &&& g := by simp [lost, q, hmoved]
  have hslot : slot = s.seq.slot &&& ~~~g := by simp [slot, q, hmoved]
  have ht : t.Stored := h.congr rfl rfl rfl
  have hu : u.Stored ∧ u.seq = t.seq := by
    dsimp only [u]
    split
    case isTrue emptied =>
      exact ⟨(State.postSeqDone_keeps (K := 0) _ _ (Nat.zero_and _) (Keeps.refl ht)).stored, t.postSeqDone_seq _ _⟩
    case isFalse => exact ⟨ht, rfl⟩
  have hv : v = u.startDown g cause := if_pos (by simpa [hlost, BitVec.and_comm] using hg)
  have hstored : v.Stored := hv ▸ (State.startDown_keeps (K := 0) g cause (Nat.zero_and _) (Keeps.refl hu.1)).stored
  obtain ⟨hdown, htarget, hkeep, hoffs⟩ := u.startDown_effect g cause
  rw [State.abortOns_seq hstored, hv]
  exact ⟨hdown, htarget.trans ((congrArg Seq.target hu.2).trans ((congrArg _ (congrArg _ hlost)).trans (and_not_and_self _ _))),
    hkeep.trans ((congrArg Seq.slot hu.2).trans hslot), hoffs.trans ((congrArg Seq.offs hu.2).trans rfl)⟩

section GroupOff

variable {s : State} (hherd : s.herdGroups = 0) (hoff : s.herd.st = .herdOff) (hst : s.seq.st = .steady) {g : BitVec 8}
include hherd hoff hst

theorem State.groupOff_of_target (hg : g &&& s.seq.target ≠ 0) (r : Req) : s.groupOff r g =
    ({ s.offLocal g 0 with seq.offs := (s.offLocal g 0).seq.offs ++ [(r, false)] }, none) := by
  have hslot : g &&& (s.seq.target ||| s.seq.slot) ≠ 0#8 := fun e => hg (by
    rw [BitVec.and_or_distrib_left] at e
    exact (BitVec.or_eq_zero_iff.mp e).1)
  have htake : s.offTake g 0 = (s.offLocal g 0, .waits false) := by
    simp [State.offTake, hst, hslot, hoff]
  unfold State.groupOff
  rw [if_neg (by simp [hherd]), htake]

omit hoff in
theorem State.groupOff_of_absent (hg : g &&& (s.seq.target ||| s.seq.slot) = 0) (r : Req) :
    s.groupOff r g = (s, reply Status.OK (s.railRes 1)) := by
  have htake : s.offTake g 0 = (s, .done 1) := by simp [State.offTake, hst, hg]
  unfold State.groupOff
  rw [if_neg (by simp [hherd]), htake]

end GroupOff

end Sys2Proof.Machine
end

section
/-! SUPPORT. FAULT_CLEAR (07_rail_sequencing.md, R189; 08_rail_supervision.md, R214): what it leaves of START_FAIL and of
FAULT_OFF. -/

namespace Sys2Proof.Machine

/-- The faulted rails are `OFF`, the others as they were. -/
theorem State.clearFaulted_state (s : State) (n : Fin 24) : ((s.setRails (s.railsIn [.faulted]) .off 0).seq.rail[n]).state =
    if (s.seq.rail[n]).state = .faulted then .off else (s.seq.rail[n]).state := by
  rw [State.setRails_state, State.railsIn_getLsbD]
  exact if_congr (by simp) rfl rfl

/-- START_FAIL has been cleared: the latch is empty and the failed rails are `OFF`. -/
def State.failCleared (s : State) : State :=
  let t := (s.setReg Reg.SEQ_LATCH 0).setRails (s.railsIn [.faulted]) .off 0
  State.postSeqDone { t with seq.st := .allOff, seq.waitWake := true } 8 0

theorem State.failCleared_effect {s : State} (h : s.Stored) : s.failCleared.seq.st = .allOff ∧
    s.failCleared.seq.waitWake = true ∧ s.failCleared.reg Reg.SEQ_LATCH = 0 ∧
    ∀ n : Fin 24, (s.failCleared.seq.rail[n]).state =
      if (s.seq.rail[n]).state = .faulted then .off else (s.seq.rail[n]).state := by
  unfold State.failCleared
  simp only [State.postSeqDone_seq, State.postSeqDone_reg]
  have hmoved := State.railsMoved_setRails (h.setReg Reg.SEQ_LATCH 0) (s.railsIn [.faulted]) .off 0 false
  refine ⟨trivial, trivial, ?_, fun n => State.clearFaulted_state (s.setReg Reg.SEQ_LATCH 0) n⟩
  exact (hmoved.reg _ not_railReg_latch).trans ((State.reg_setReg h _ _ _).trans (if_pos rfl))

theorem State.faultClear_of_startFail {s : State} (hst : s.seq.st = .startFail) : s.faultClear = s.clearStartFail := by
  unfold State.faultClear
  rw [hst]

theorem State.clearStartFail_eq (s : State) :
    s.clearStartFail = (s.failCleared, reply Status.OK (s.failCleared.clearRes 0)) := rfl

theorem State.faultClear_of_faultOff {s : State} (hst : s.seq.st = .faultOff) : s.faultClear = s.clearFaultOff := by
  unfold State.faultClear
  rw [hst]

theorem State.faultClear_of_other {s : State} (hfail : s.seq.st ≠ .startFail) (hoff : s.seq.st ≠ .faultOff) :
    s.faultClear = (s, reply Status.NOT_IN_STATE (s.clearRes 0)) := by
  unfold State.faultClear
  split
  case h_1 hst => exact absurd hst hfail
  case h_2 hst => exact absurd hst hoff
  case h_3 => rfl

/-- The fault of FAULT_OFF has been cleared: its flag and node are down and the faulted rails are `OFF`. -/
def State.faultsCleared (s : State) : State :=
  (((s.setFlag Reg.SUP_STATUS 0 false).setRails (s.railsIn [.faulted]) .off 0)).setNode 78 false

/-- FAULT_OFF is left: to `START_FAIL` while a start failure is latched, else to `ALL_OFF`. -/
def State.leaveFaultOff (s : State) : State :=
  if s.failLatched then s.enterStartFail else { s with seq.st := .allOff, seq.waitWake := true }

theorem State.node_setNode_faultOff {s : State} (h : s.Stored) (b : Bool) : (s.setNode 78 b).node 78 = b := by
  obtain ⟨shown, trips, e⟩ :=
    State.builtins_hedge (s := { s with hedge.nodes := setBit128 s.hedge.nodes 78 b }) (h.congr rfl rfl rfl)
  refine (congrArg (fun g : Hedge => g.nodes.getLsbD 78) e).trans ?_
  exact (setBit128_getLsbD _ (by decide) b 78).trans (if_pos rfl)

theorem State.faultsCleared_effect {s : State} (h : s.Stored) : s.faultsCleared.node 78 = false ∧
    s.faultsCleared.flag Reg.SUP_STATUS 0 = false ∧ s.faultsCleared.failLatched = s.failLatched ∧
    ∀ n : Fin 24, (s.faultsCleared.seq.rail[n]).state ≠ .faulted := by
  have hset := h.setFlag Reg.SUP_STATUS 0 false
  have hmoved := State.railsMoved_setRails hset (s.railsIn [.faulted]) .off 0 false
  have k : Keeps (2 ^ Part.seq.num + 2 ^ (Part.block 6).num + 2 ^ (Part.block 7).num) _ s.faultsCleared :=
    State.setNode_keeps 78 false (by decide) (Keeps.refl hmoved.stored)
  have hseq := k.part .seq (by decide)
  have hsup := (k.part (.block 7) (by decide) Reg.SUP_STATUS (by decide)).trans (hmoved.reg _ not_railReg_supStatus)
  have hlatch := (k.part (.block 6) (by decide) Reg.SEQ_LATCH (by decide)).trans ((hmoved.reg _ not_railReg_latch).trans
    ((State.reg_setFlag h _ _ _ _).trans (if_neg (by decide))))
  refine ⟨State.node_setNode_faultOff hmoved.stored false,
    (State.flag_congr hsup 0).trans (State.flag_setFlag_self h _ _ (by decide)),
    State.flag_congr hlatch 31, fun n hn => ?_⟩
  have hrail := (congrArg (fun q : Seq => (q.rail[n]).state) hseq).symm.trans hn
  have hstate := (State.clearFaulted_state (s.setFlag Reg.SUP_STATUS 0 false) n).symm.trans hrail
  split at hstate
  case isTrue => cases hstate
  case isFalse hnot => exact hnot hstate

@[simp] theorem State.enterStartFail_seq (s : State) : s.enterStartFail.seq = { s.seq with st := .startFail } :=
  State.post_seq ..

@[simp] theorem State.enterStartFail_reg (s : State) (x : Nat) : s.enterStartFail.reg x = s.reg x := State.post_reg ..

@[simp] theorem State.enterStartFail_hedge (s : State) : s.enterStartFail.hedge = s.hedge := State.post_hedge ..

theorem State.leaveFaultOff_effect (s : State) : s.leaveFaultOff.seq.st = (if s.failLatched then .startFail else .allOff) ∧
    s.leaveFaultOff.hedge = s.hedge ∧ (∀ x, s.leaveFaultOff.reg x = s.reg x) ∧ s.leaveFaultOff.seq.rail = s.seq.rail := by
  unfold State.leaveFaultOff
  split
  case isTrue latched => simp
  case isFalse => exact ⟨rfl, rfl, fun _ => rfl, rfl⟩

/-- No rail discharges and none is above its limit. -/
theorem State.clearFaultOff_of_clear {s : State} (hdis : s.railsIn [.discharge] = 0)
    (hov : ∀ n : Fin 24, s.flag (Reg.SUP_RAIL_VALUE n) 21 = false) : ∃ l, s.clearFaultOff =
      ((s.faultsCleared.post 0x22 l).leaveFaultOff, reply Status.OK ((s.faultsCleared.post 0x22 l).leaveFaultOff.clearRes 0)) := by
  have hnone : s.railsInUse &&& railMask (fun n : Fin 24 => s.flag (Reg.SUP_RAIL_VALUE n) 21) = 0 := by
    refine BitVec.eq_of_getElem_eq fun i hi => ?_
    rw [BitVec.getElem_and, railMask_getElem _ ⟨i, hi⟩, hov ⟨i, hi⟩, Bool.and_false]
    simp
  unfold State.clearFaultOff
  refine ⟨_, (if_neg (not_not_intro hdis)).trans ((if_neg (not_not_intro hnone)).trans rfl)⟩

theorem State.clearFaultOff_of_discharge {s : State} (hdis : s.railsIn [.discharge] ≠ 0) :
    s.clearFaultOff = (s, reply Status.BUSY (s.clearRes (s.railsIn [.discharge]))) := if_pos hdis

/-- What FAULT_CLEAR leaves of FAULT_OFF, with its record posted. -/
theorem State.faultLeft_effect {s : State} (h : s.Stored) (l : List Byte) :
    (s.faultsCleared.post 0x22 l).leaveFaultOff.seq.st = (if s.failLatched then .startFail else .allOff) ∧
    (s.faultsCleared.post 0x22 l).leaveFaultOff.flag Reg.SUP_STATUS 0 = false ∧
    (s.faultsCleared.post 0x22 l).leaveFaultOff.node 78 = false ∧
    ∀ n : Fin 24, ((s.faultsCleared.post 0x22 l).leaveFaultOff.seq.rail[n]).state ≠ .faulted := by
  obtain ⟨hnode, hflag, hlatched, hrails⟩ := State.faultsCleared_effect h
  obtain ⟨hst, hhedge, hreg, hrail⟩ := (s.faultsCleared.post 0x22 l).leaveFaultOff_effect
  have hsame : (s.faultsCleared.post 0x22 l).failLatched = s.failLatched :=
    (State.flag_congr (State.post_reg ..) 31).trans hlatched
  refine ⟨hst.trans (by rw [hsame]), ?_, ?_, fun n => ?_⟩
  · exact (State.flag_congr ((hreg _).trans (State.post_reg ..)) 0).trans hflag
  · exact (State.node_congr (hhedge.trans (State.post_hedge ..)) 78).trans hnode
  · rw [hrail, State.post_seq]
    exact hrails n

end Sys2Proof.Machine
end

section
/-! SUPPORT. The rows of the sequencer's commands where the engine samples nothing else (07_rail_sequencing.md, R22, R175, R184 to
R191). -/

namespace Sys2Proof.Machine

/-! ### The rows -/

section Rows

variable {s : State} (h : s.seqCalm)
include h

/-- Sampling the comparators and the line leaves the point calm. -/
theorem State.seqCalm.seqSample (hs : s.Stored) (x : SeqInputs) : (s.seqSample x).seqCalm ∧
    (s.seqSample x).seq.startDue = s.seq.startDue := by
  have hseq : (s.seqSample x).seq = { s.seq with inside := x.inside ||| (s.seq.inside &&& s.railsIn [.settle, .good]) } :=
    List.foldlRecOn (motive := fun t : State => t.seq = _) _ _ rfl fun _ hu _ _ => hu
  have k : Keeps (sampled + 2 ^ Part.dev.num + 2 ^ Part.time.num + 2 ^ Part.pmc.num) s (s.seqSample x) :=
    State.seqSample_keeps x (by decide) (Keeps.refl hs)
  have hdev : (s.seqSample x).dev = s.dev := k.part .dev (by decide)
  have htime : (s.seqSample x).time = s.time := k.part .time (by decide)
  have hpmc : (s.seqSample x).pmc = s.pmc := k.part .pmc (by decide)
  have hruns : (s.seqSample x).seqRuns = s.seqRuns := by
    unfold State.seqRuns State.asleep State.inSleep State.inDeepSleep
    rw [hdev, htime, hpmc]
  have hquiet : (s.seqSample x).Quiet :=
    h.quiet.keeps (State.seqSample_keeps x (by decide) (Keeps.refl hs)) ((congrArg Seq.taken hseq).trans rfl)
  exact ⟨⟨hruns.trans h.runs, hquiet.tripped, hquiet.vin, hquiet.cut, (congrArg Seq.uvX hseq).trans h.uv,
    (congrArg Seq.ovX hseq).trans h.ov, hquiet.taken⟩, (congrArg Seq.startDue hseq).trans rfl⟩

theorem exec_planStart_of_calm : exec .planStart s = .next s.planPoint.endPoint :=
  congrArg Host.Outcome.next (h.atPoint_of_none (timed := 0) (.inr BitVec.zero_and) _)

theorem exec_rampTimeout_of_none (hdue : s.seq.startDue = false) {rails : BitVec 24}
    (hnone : s.railsHeld = true ∨ rails &&& s.railsIn [.ramp] = 0) : exec (.rampTimeout rails) s = .next s.endPoint :=
  congrArg Host.Outcome.next ((h.atPoint_of_none hnone _).trans (by rw [State.planPoint_of_not_due hdue]))

theorem exec_rampTimeout_of_timed {rails : BitVec 24} (hfree : s.railsHeld = false)
    (hquiet : (s.startFailure (rails &&& s.railsIn [.ramp]) (rails &&& s.railsIn [.ramp])).Quiet)
    (hdue : (s.startFailure (rails &&& s.railsIn [.ramp]) (rails &&& s.railsIn [.ramp])).seq.startDue = false) :
    exec (.rampTimeout rails) s =
      .next (s.startFailure (rails &&& s.railsIn [.ramp]) (rails &&& s.railsIn [.ramp])).endPoint := by
  show Host.Outcome.next (s.atPoint rails fun s => s) = _
  unfold State.atPoint State.sample
  rw [if_pos h.runs, h.startFailures, hfree, if_neg Bool.false_ne_true, hquiet.entries, State.planPoint_of_not_due hdue]

variable (hdue : s.seq.startDue = false)
include hdue

theorem exec_seqDecisionPoint_of_calm (hs : s.Stored) (x : SeqInputs) :
    exec (.seqDecisionPoint x) s = .next (s.seqSample x).endPoint := by
  obtain ⟨hcalm, hsame⟩ := h.seqSample hs x
  show Host.Outcome.next (if s.seqRuns then _ else s) = _
  rw [if_pos h.runs, hcalm.atPoint_zero (hsame.trans hdue)]

theorem exec_settleDone_of_calm (rails : BitVec 24) : exec (.settleDone rails) s = .next (s.settleDone rails).endPoint :=
  congrArg Host.Outcome.next (h.atPoint_zero hdue _)

theorem exec_dischargeTimeout_of_calm (rails : BitVec 24) :
    exec (.dischargeTimeout rails) s = .next (s.dischargeTimeouts rails).endPoint :=
  congrArg Host.Outcome.next (h.atPoint_zero hdue _)

theorem exec_restExpiry_of_calm : exec .restExpiry s = .next s.restEnds.endPoint :=
  congrArg Host.Outcome.next (h.atPoint_zero hdue _)

variable (hboot : s.hedge.bootHold = false) {r : Req}
include hboot

theorem exec_railGroupOn_of_calm (hadmits : s.admits r 0x10) {g : BitVec 8} (hg : g ≠ 0)
    (hcarried : g &&& ~~~s.carriedGroups = 0) {t : State} (hk : (s.take r 0x10).groupOn r g = (t, none)) :
    exec (.railGroupOn r g) s = .next t.endPoint := by
  have hgood : (g = 0 || g &&& ~~~s.carriedGroups ≠ 0 : Bool) = false := by simp only [hg, hcarried]; decide
  show Host.Outcome.next (s.seqRequest r 0x10 (g = 0 || g &&& ~~~s.carriedGroups ≠ 0) _) = _
  rw [hgood, h.seqRequest_open hdue hboot hadmits hk]

theorem exec_railGroupOff_of_open (hadmits : s.admits r 0x11) {g : BitVec 8} (hg : g ≠ 0) {t : State}
    (hk : (s.take r 0x11).groupOff r g = (t, none)) : exec (.railGroupOff r g) s = .next t.endPoint := by
  show Host.Outcome.next (s.seqRequest r 0x11 (g = 0) _) = _
  rw [decide_eq_false hg, h.seqRequest_open hdue hboot hadmits hk]

theorem exec_railGroupOff_of_done (hadmits : s.admits r 0x11) {g : BitVec 8} (hg : g ≠ 0) {t : State} {rep : Reply}
    (hk : (s.take r 0x11).groupOff r g = (t, some rep)) : exec (.railGroupOff r g) s = .next (t.complete r rep).endPoint := by
  show Host.Outcome.next (s.seqRequest r 0x11 (g = 0) _) = _
  rw [decide_eq_false hg, h.seqRequest_done hdue hboot hadmits hk]

theorem exec_faultClear_of_done (hadmits : s.admits r 0x13) {t : State} {rep : Reply}
    (hk : (s.take r 0x13).faultClear = (t, some rep)) : exec (.faultClear r) s = .next (t.complete r rep).endPoint :=
  congrArg Host.Outcome.next (h.seqRequest_done hdue hboot hadmits (k := State.faultClear) hk)

end Rows

/-! ### What each command leaves -/

theorem planStart_row {s : State} (hs : s.Stored) (h : s.seqCalm) (hallowed : s.startAllowed = true)
    (hdue : s.seq.startDue = true) (hoff : s.seq.st = .allOff) :
    (s.startable s.seq.restGroups = 0 →
      exec .planStart s = .next (State.endPoint { s with seq.waitWake := true, seq.startDue := false })) ∧
    (s.startable s.seq.restGroups ≠ 0 → s.herdGroups = 0 → ∃ u, u = s.planStart ∧ u.seq.st = .powerUp ∧
      u.seq.target = s.seq.target ||| s.startable s.seq.restGroups ∧ u.seq.startDue = false ∧ u.seq.waitWake = false ∧
      exec .planStart s = .next u.endPoint) := by
  have hrow := exec_planStart_of_calm h
  rw [State.planPoint_of_due hallowed hdue hoff] at hrow
  refine ⟨fun hnone => ?_, fun hsome hherd => ⟨_, rfl, ?_⟩⟩
  · rw [hrow, State.planStart_of_none hnone]
  · obtain ⟨hst, htarget, hwake, hstart, -⟩ := State.planStart_raised hs hherd hsome
    exact ⟨hst, htarget, hstart, hwake, hrow⟩

theorem rampTimeout_row {s : State} (hs : s.Stored) (h : s.seqCalm) {rails : BitVec 24} {f : Fin 24} (hfree : s.railsHeld = false)
    (hst : s.seq.st = .powerUp ∨ s.seq.st = .steady) (hf : (rails &&& s.railsIn [.ramp]).getLsbD f = true)
    (hmin : ∀ k : Fin 24, (rails &&& s.railsIn [.ramp]).getLsbD k = true → f ≤ k) :
    ∃ u, u = s.startFailure (rails &&& s.railsIn [.ramp]) (rails &&& s.railsIn [.ramp]) ∧ u.seq.st = .startAbort ∧
      u.seq.target = 0 ∧ u.seq.slot = 0 ∧ u.reg Reg.SEQ_LATCH = pack [(1, 31), (f.val, 8), (1, 0)] ∧
      (∀ n : Fin 24, (u.seq.rail[n]).state =
        if rails.getLsbD n = true ∧ (s.seq.rail[n]).state = .ramp then .faulted else (s.seq.rail[n]).state) ∧
      exec (.rampTimeout rails) s = .next u.endPoint := by
  have hramp := ((s.railsIn_one_getLsbD rails .ramp f).mp hf).2
  obtain ⟨hquiet, hdue, habort, htarget, hslot, hlatch, hrails⟩ := State.rampFailure_effect hs h.quiet hst hf hmin hramp
  refine ⟨_, rfl, habort, htarget, hslot, hlatch, fun n => ?_, exec_rampTimeout_of_timed h hfree hquiet hdue⟩
  exact (hrails n).trans (if_congr (s.railsIn_one_getLsbD rails .ramp n) rfl rfl)

theorem restExpiry_row {s : State} (h : s.seqCalm) (hdue : s.seq.startDue = false) (hrest : s.seq.st = .rest) :
    ((s.seq.restCut = true ∨ s.flag Reg.SEQ_CTRL 0 = true) →
      (s.startAllowed = true → exec .restExpiry s =
        .next (State.planStart { s with seq.st := .allOff, seq.startDue := true }).endPoint) ∧
      (s.startAllowed = false → exec .restExpiry s =
        .next (State.endPoint { s with seq.st := .allOff, seq.startDue := true }))) ∧
    (s.seq.restCut = false → s.flag Reg.SEQ_CTRL 0 = false →
      exec .restExpiry s = .next (State.endPoint { s with seq.st := .allOff, seq.waitWake := true })) := by
  have hrow := exec_restExpiry_of_calm h hdue
  refine ⟨fun hstart => ?_, fun hcut hctrl => ?_⟩
  · rw [State.restEnds_of_due hrest hstart] at hrow
    refine ⟨fun hallowed => ?_, fun hnot => ?_⟩
    · rw [hrow, State.planPoint_of_due (s := { s with seq.st := .allOff, seq.startDue := true }) hallowed rfl rfl]
    · rw [hrow, State.planPoint_of_not_allowed (s := { s with seq.st := .allOff, seq.startDue := true }) hnot]
  · rw [hrow, State.restEnds_of_wake hrest hcut hctrl]

section Requests

variable {s : State} (hs : s.Stored) (h : s.seqCalm) (hdue : s.seq.startDue = false) (hboot : s.hedge.bootHold = false) {r : Req}
include hs h hdue hboot

theorem railGroupOn_row (hadmits : s.admits r 0x10) {g : BitVec 8} (hg : g ≠ 0) (hcarried : g &&& ~~~s.carriedGroups = 0)
    (hheld : ∀ k : Fin 8, g.getLsbD k = true → s.act (9 + k) = false) (hherd : s.herdGroups = 0)
    (hst : s.seq.st = .allOff ∨ s.seq.st = .steady ∨ s.seq.st = .powerUp)
    (hgood : g &&& ~~~(s.groupsGood &&& s.seq.target) ≠ 0) :
    ∃ u, u = ((s.take r 0x10).groupOn r g).1 ∧ u.seq.ons = s.seq.ons ++ [(r, g)] ∧
      u.seq.target = s.seq.target ||| g ∧ u.seq.st = .powerUp ∧ exec (.railGroupOn r g) s = .next u.endPoint := by
  have hrow {t : State} := exec_railGroupOn_of_calm h hdue hboot hadmits hg hcarried (t := t)
  obtain ⟨l, e⟩ := s.take_eq r 0x10
  rw [e] at hrow ⊢
  have hon := State.groupOn_of_rising (s := { s with reqs := l }) hherd h.cut hheld hst hgood r
  obtain ⟨hup, htarget, -, -, hons⟩ := State.onStarted_raised (s := { s with reqs := l }) hherd (g := g) (hs.congr rfl rfl rfl)
  rw [hon]
  exact ⟨_, rfl, congrArg (· ++ [(r, g)]) hons, htarget, hup, hrow hon⟩

theorem railGroupOff_row (hadmits : s.admits r 0x11) {g : BitVec 8} (hg : g ≠ 0) (hherd : s.herdGroups = 0)
    (hoff : s.herd.st = .herdOff) (hst : s.seq.st = .steady) (htarget : g &&& s.seq.target ≠ 0) :
    ∃ u, u = ((s.take r 0x11).groupOff r g).1 ∧ u.seq.st = .powerDown ∧ u.seq.target = s.seq.target &&& ~~~g ∧
      u.seq.slot = s.seq.slot &&& ~~~g ∧ u.seq.offs = s.seq.offs ++ [(r, false)] ∧
      exec (.railGroupOff r g) s = .next u.endPoint := by
  have hrow {t : State} := exec_railGroupOff_of_open h hdue hboot hadmits hg (t := t)
  obtain ⟨l, e⟩ := s.take_eq r 0x11
  rw [e] at hrow ⊢
  have hdone := State.groupOff_of_target (s := { s with reqs := l }) hherd hoff hst htarget r
  obtain ⟨hdown, hleft, hslot, hoffs⟩ :=
    State.offLocal_of_steady (s := { s with reqs := l }) (hs.congr rfl rfl rfl) hst htarget 0
  rw [hdone]
  exact ⟨_, rfl, hdown, hleft, hslot, congrArg (· ++ [(r, false)]) hoffs, hrow hdone⟩

omit hs in
theorem railGroupOff_row_of_absent (hadmits : s.admits r 0x11) {g : BitVec 8} (hg : g ≠ 0) (hherd : s.herdGroups = 0)
    (hst : s.seq.st = .steady) (habsent : g &&& (s.seq.target ||| s.seq.slot) = 0) :
    exec (.railGroupOff r g) s =
      .next (State.endPoint ((s.take r 0x11).complete r { status := Status.OK, result := s.railRes 1 })) := by
  have hrow {t : State} {rep : Reply} := exec_railGroupOff_of_done h hdue hboot hadmits hg (t := t) (rep := rep)
  obtain ⟨l, e⟩ := s.take_eq r 0x11
  rw [e] at hrow ⊢
  exact hrow (State.groupOff_of_absent (s := { s with reqs := l }) hherd hst habsent r)

theorem faultClear_row_of_startFail (hadmits : s.admits r 0x13) (hst : s.seq.st = .startFail) :
    ∃ u, u = (s.take r 0x13).clearStartFail.1 ∧ u.seq.st = .allOff ∧ u.seq.waitWake = true ∧ u.reg Reg.SEQ_LATCH = 0 ∧
      (∀ n : Fin 24, (u.seq.rail[n]).state = if (s.seq.rail[n]).state = .faulted then .off else (s.seq.rail[n]).state) ∧
      exec (.faultClear r) s = .next (State.endPoint (u.complete r { status := Status.OK, result := [0, 0, 0, 0] })) := by
  have hrow {t : State} {rep : Reply} := exec_faultClear_of_done h hdue hboot hadmits (t := t) (rep := rep)
  obtain ⟨l, e⟩ := s.take_eq r 0x13
  rw [e] at hrow ⊢
  obtain ⟨hoff, hwake, hlatch, hrails⟩ := State.failCleared_effect (s := { s with reqs := l }) (hs.congr rfl rfl rfl)
  have hclear := (State.faultClear_of_startFail (s := { s with reqs := l }) hst).trans (State.clearStartFail_eq _)
  unfold State.clearRes at hclear
  rw [hoff] at hclear
  exact ⟨_, rfl, hoff, hwake, hlatch, hrails, hrow hclear⟩

theorem faultClear_row_of_faultOff (hadmits : s.admits r 0x13) (hst : s.seq.st = .faultOff)
    (hdis : s.railsIn [.discharge] = 0) (hov : ∀ n : Fin 24, s.flag (Reg.SUP_RAIL_VALUE n) 21 = false) :
    ∃ u, u = (s.take r 0x13).clearFaultOff.1 ∧ u.seq.st = (if s.failLatched then .startFail else .allOff) ∧
      u.flag Reg.SUP_STATUS 0 = false ∧ u.node 78 = false ∧ (∀ n : Fin 24, (u.seq.rail[n]).state ≠ .faulted) ∧
      exec (.faultClear r) s = .next (State.endPoint (u.complete r
        { status := Status.OK, result := [0, 0, 0, BitVec.ofNat 8 u.seq.st.code] })) := by
  have hrow {t : State} {rep : Reply} := exec_faultClear_of_done h hdue hboot hadmits (t := t) (rep := rep)
  obtain ⟨l, e⟩ := s.take_eq r 0x13
  rw [e] at hrow ⊢
  obtain ⟨bytes, hclear⟩ := State.clearFaultOff_of_clear (s := { s with reqs := l }) hdis hov
  obtain ⟨hleft, hflag, hnode, hrails⟩ := State.faultLeft_effect (s := { s with reqs := l }) (hs.congr rfl rfl rfl) bytes
  have hdone := hrow ((State.faultClear_of_faultOff (s := { s with reqs := l }) hst).trans hclear)
  rw [hclear]
  exact ⟨_, rfl, hleft, hflag, hnode, hrails, hdone⟩

omit hs in
theorem faultClear_row_of_discharge (hadmits : s.admits r 0x13) (hst : s.seq.st = .faultOff)
    (hdis : s.railsIn [.discharge] ≠ 0) : exec (.faultClear r) s = .next (State.endPoint ((s.take r 0x13).complete r
      { status := Status.BUSY, result := leBytes 3 (s.railsIn [.discharge]).toNat ++ [BitVec.ofNat 8 s.seq.st.code] })) := by
  have hrow {t : State} {rep : Reply} := exec_faultClear_of_done h hdue hboot hadmits (t := t) (rep := rep)
  obtain ⟨l, e⟩ := s.take_eq r 0x13
  rw [e] at hrow ⊢
  exact hrow ((State.faultClear_of_faultOff (s := { s with reqs := l }) hst).trans (State.clearFaultOff_of_discharge hdis))

omit hs in
theorem faultClear_row_of_other (hadmits : s.admits r 0x13) (hfail : s.seq.st ≠ .startFail) (hoff : s.seq.st ≠ .faultOff) :
    exec (.faultClear r) s = .next (State.endPoint ((s.take r 0x13).complete r
      { status := Status.NOT_IN_STATE, result := [0, 0, 0, BitVec.ofNat 8 s.seq.st.code] })) := by
  have hrow {t : State} {rep : Reply} := exec_faultClear_of_done h hdue hboot hadmits (t := t) (rep := rep)
  obtain ⟨l, e⟩ := s.take_eq r 0x13
  rw [e] at hrow ⊢
  exact hrow (State.faultClear_of_other (s := { s with reqs := l }) hfail hoff)

end Requests

theorem seqRequests_of_boot {s : State} (hplan : s.dev.planLoaded = true) (hboot : s.hedge.bootHold = true) (r : Req)
    (g : BitVec 8) :
    exec (.railGroupOn r g) s = .next (s.awaitTurn r 0x10) ∧ exec (.railGroupOff r g) s = .next (s.awaitTurn r 0x11) ∧
    exec (.faultClear r) s = .next (s.awaitTurn r 0x13) :=
  ⟨congrArg Host.Outcome.next (State.seqRequest_of_boot hplan hboot r 0x10 _ _),
    congrArg Host.Outcome.next (State.seqRequest_of_boot hplan hboot r 0x11 _ _),
    congrArg Host.Outcome.next (State.seqRequest_of_boot hplan hboot r 0x13 _ _)⟩

/-! ### The obligation -/

/-- Settles O23: at a calm decision point the sample is a Plan start that is due, or nothing but the ramp timeouts named
(`State.seqCalm.sample_of_none`, `State.seqCalm.startFailures`), so each row ends in its own change; what the change leaves is told
by what a rail's change leaves of the sequencer and its registers (`State.RailsMoved`). -/
theorem sequencerCommands : Obligations.SequencerCommands := by
  refine ⟨fun s hs h => ⟨fun hallowed hstart hoff => planStart_row hs h hallowed hstart hoff, fun hdue =>
      ⟨?planStart, fun x => exec_seqDecisionPoint_of_calm h hdue hs x,
        fun rails f hfree hst hf hmin => rampTimeout_row hs h hfree hst hf hmin,
        fun rails hnone => exec_rampTimeout_of_none h hdue hnone,
        fun rails => ⟨_, rfl, s.settleDone_state rails, exec_settleDone_of_calm h hdue rails⟩,
        fun rails => ⟨_, rfl, fun n => ⟨s.dischargeTimeouts_state rails n, State.dischargeTimeouts_flag hs rails n⟩,
          exec_dischargeTimeout_of_calm h hdue rails⟩,
        fun hrest => restExpiry_row h hdue hrest,
        fun r g hboot hadmits hg hcarried hheld hherd hst hgood =>
          railGroupOn_row hs h hdue hboot hadmits hg hcarried hheld hherd hst hgood,
        fun r g hboot hadmits hg hherd hoff hst htarget => railGroupOff_row hs h hdue hboot hadmits hg hherd hoff hst htarget,
        fun r g hboot hadmits hg hherd _ hst habsent =>
          railGroupOff_row_of_absent h hdue hboot hadmits hg hherd hst habsent⟩⟩,
    fun s r g hplan hboot => seqRequests_of_boot hplan hboot r g,
    fun s r hs h hdue hboot hadmits =>
      ⟨fun hst => faultClear_row_of_startFail hs h hdue hboot hadmits hst,
        fun hst hdis hov => faultClear_row_of_faultOff hs h hdue hboot hadmits hst hdis hov,
        fun hst hdis => faultClear_row_of_discharge h hdue hboot hadmits hst hdis,
        fun hfail hoff => faultClear_row_of_other h hdue hboot hadmits hfail hoff⟩⟩
  case planStart => rw [exec_planStart_of_calm h, State.planPoint_of_not_due hdue]

end Sys2Proof.Machine
end

section
/-! SUPPORT. Rail supervision (08_rail_supervision.md, R204 to R208): what an ADC-M cycle shows, and what the samples of the rails
leave of it. -/

namespace Sys2Proof.Machine

/-! ### The rails' slots of a cycle (R204 to R208) -/

/-- The parts of supervision: its state and its registers. -/
abbrev supParts : Nat := 2 ^ Part.sup.num + 2 ^ (Part.block 7).num

theorem cntStatus_le_railValue (n : Nat) : Reg.SUP_CNT_STATUS ≤ Reg.SUP_RAIL_VALUE n := by
  dsimp only [Reg.SUP_CNT_STATUS, Reg.SUP_RAIL_VALUE]
  omega

theorem cntStatus_le_railCntW (n : Nat) : Reg.SUP_CNT_STATUS ≤ Reg.SUP_RAIL_CNT_W n := by
  dsimp only [Reg.SUP_CNT_STATUS, Reg.SUP_RAIL_CNT_W]
  omega

theorem cntStatus_le_railMinmax (n : Nat) : Reg.SUP_CNT_STATUS ≤ Reg.SUP_RAIL_MINMAX n := by
  dsimp only [Reg.SUP_CNT_STATUS, Reg.SUP_RAIL_MINMAX]
  omega

/-- Rails have been sampled: the count of cycles stands, and so does every register of SUP below the counters' status. -/
structure State.RailsSampled (s t : State) : Prop where
  stored : t.Stored
  cycle : t.sup.cycle = s.sup.cycle
  reg : ∀ a, a < Reg.SUP_CNT_STATUS → t.reg a = s.reg a

theorem State.RailsSampled.refl {s : State} (h : s.Stored) : s.RailsSampled s := ⟨h, rfl, fun _ _ => rfl⟩

section RailsSampled

variable {s t : State} (h : s.RailsSampled t)
include h

theorem State.RailsSampled.congr {u : State} (hst : u.Stored) (hregs : u.regs = t.regs) (hcycle : u.sup.cycle = t.sup.cycle) :
    s.RailsSampled u :=
  ⟨hst, hcycle.trans h.cycle, fun a ha => (congrArg (sparseGet regReset · a) hregs).trans (h.reg a ha)⟩

theorem State.RailsSampled.setReg {b : Nat} (hb : Reg.SUP_CNT_STATUS ≤ b) (w : Word) : s.RailsSampled (t.setReg b w) :=
  ⟨h.stored.setReg _ _, h.cycle, fun a ha =>
    (State.reg_setReg_other h.stored w (Nat.ne_of_lt (Nat.lt_of_lt_of_le ha hb))).trans (h.reg a ha)⟩

theorem State.RailsSampled.setMon (n : Fin 24) (m : RailMon) : s.RailsSampled (t.setMon n m) :=
  h.congr (h.stored.congr rfl rfl rfl) rfl rfl

theorem State.RailsSampled.post (typ : Nat) (l : List Byte) : s.RailsSampled (t.post typ l) :=
  h.congr (h.stored.congr (State.post_regs ..) (State.post_host ..) (State.post_flash ..)) (State.post_regs ..)
    (congrArg Sup.cycle (State.post_sup ..))

theorem State.RailsSampled.railCnt {b : Nat} (hb : Reg.SUP_CNT_STATUS ≤ b) (hi lo : Nat) :
    s.RailsSampled (t.railCnt b hi lo) := (h.setReg hb _).setReg (Nat.le_refl _) _

theorem State.RailsSampled.ite {c : Prop} [Decidable c] {u : State} (hu : s.RailsSampled u) :
    s.RailsSampled (if c then t else u) := by
  split
  case isTrue => exact h
  case isFalse => exact hu

theorem State.RailsSampled.roundFrac (n d : Int) : s.RailsSampled (t.roundFrac n d).1 := by
  unfold State.roundFrac
  split
  case isTrue => exact h
  case isFalse => exact h.congr (h.stored.congr rfl rfl rfl) rfl rfl

theorem State.RailsSampled.judgeUv (n : Fin 24) : s.RailsSampled (t.judgeUv n) := by
  unfold State.judgeUv
  extract_lets v level m u
  refine h.ite (.ite (.ite ?set h) (.ite ?clear (h.setMon n _)))
  case set => exact (((h.setReg (cntStatus_le_railValue n) _).railCnt (cntStatus_le_railCntW n) 15 0).setMon n _).post _ _
  case clear => exact (h.setReg (cntStatus_le_railValue n) _).post _ _

theorem State.RailsSampled.judgeOv (n : Fin 24) : s.RailsSampled (t.judgeOv n) := by
  unfold State.judgeOv
  extract_lets v level m u
  refine h.ite (.ite (.ite ?set h) (.ite ?clear (h.setMon n _)))
  case set => exact (((h.setReg (cntStatus_le_railValue n) _).railCnt (cntStatus_le_railCntW n) 31 16).setMon n _).post _ _
  case clear => exact (h.setReg (cntStatus_le_railValue n) _).post _ _

theorem State.RailsSampled.railSample (n : Fin 24) (v : Nat) : s.RailsSampled (t.railSample n v) := by
  unfold State.railSample
  extract_lets len m hist full
  have hvalued : ∀ w, s.RailsSampled (((t.roundFrac _ _).1.setMon n _).setReg (Reg.SUP_RAIL_VALUE n) w) := fun w =>
    ((h.roundFrac (hist.foldl (· + ·) 0 : Nat) (hist.length : Nat)).setMon n { m with hist := hist, last := v }).setReg
      (cntStatus_le_railValue n) w
  have hextremes := fun w => (hvalued w).setReg (cntStatus_le_railMinmax n)
  exact .ite (.ite (((hextremes _ _).judgeUv n).judgeOv n) (hextremes _ _)) (hvalued _)

end RailsSampled

theorem State.railsSampled_railSlots {s : State} (h : s.Stored) (x : AdcCycle) : s.RailsSampled (s.railSlots x) :=
  List.foldlRecOn _ _ (.refl h) fun _ hu n _ => .ite (hu.railSample n _) hu

/-! ### An ADC-M cycle (R204, R227) -/

/-- The supply as a cycle shows it: VIN, VHOLD and HOLD_READY. -/
def State.supplyShown (s : State) (x : AdcCycle) : State :=
  let t := s.setReg Reg.SUP_SUPPLY (pack [(x.vhold.toNat, 16), (x.vin.toNat, 0)])
  t.setFlag Reg.SUP_STATUS 6 (decide (100 * t.fld Reg.SUP_HOLD_CFG 6 0 ≤ x.vhold.toNat))

/-- The state once the rails' slots of a cycle have been taken, where a Plan is loaded. -/
def State.slotsTaken (s : State) (x : AdcCycle) : State :=
  if (s.supplyShown x).dev.planLoaded then (s.supplyShown x).railSlots x else s.supplyShown x

theorem exec_adcMCycle_of_runs {s : State} (h : s.adcRuns = true) (x : AdcCycle) :
    exec (.adcMCycle x) s = .next (s.adcCycle x) := congrArg Host.Outcome.next (if_pos h)

section AdcCycle

variable {s : State} (h : s.Stored) (x : AdcCycle)
include h

theorem State.supplyShown_stored : (s.supplyShown x).Stored := (h.setReg _ _).setFlag _ _ _

theorem State.supplyShown_effect :
    (s.supplyShown x).reg Reg.SUP_SUPPLY = pack [(x.vhold.toNat, 16), (x.vin.toNat, 0)] ∧
    (s.supplyShown x).flag Reg.SUP_STATUS 6 = decide (100 * s.fld Reg.SUP_HOLD_CFG 6 0 ≤ x.vhold.toNat) := by
  have hset := h.setReg Reg.SUP_SUPPLY (pack [(x.vhold.toNat, 16), (x.vin.toNat, 0)])
  refine ⟨?_, (State.flag_setFlag_self hset _ _ (by decide)).trans ?_⟩
  · exact (State.reg_setReg_other hset _ (by decide)).trans (State.reg_setReg_self h _ _)
  · rw [State.fld_congr (State.reg_setReg_other h _ (by decide))]

theorem State.slotsTaken_sampled : (s.supplyShown x).RailsSampled (s.slotsTaken x) :=
  .ite (State.railsSampled_railSlots (State.supplyShown_stored h x) x) (.refl (State.supplyShown_stored h x))

/-- What a cycle does after the rails' slots leaves SUP alone, but for the count of cycles. -/
theorem State.adcCycle_eq : ∃ u : State, Keeps supParts (s.slotsTaken x) u ∧
    s.adcCycle x = { u with sup.cycle := (u.sup.cycle + 1) % 32 } := by
  have hslots := (State.slotsTaken_sampled h x).stored
  refine ⟨_, ?_, rfl⟩
  exact Keeps.ite (fun _ => State.setFlag_keeps _ _ (by decide) (State.zoneSlots_keeps x (by decide)
      (State.refSlots_keeps x (by decide) (Keeps.refl hslots))))
    fun _ => State.zoneSlots_keeps x (by decide) (State.refSlots_keeps x (by decide) (Keeps.refl hslots))

theorem State.adcCycle_effect : (s.adcCycle x).reg Reg.SUP_SUPPLY = pack [(x.vhold.toNat, 16), (x.vin.toNat, 0)] ∧
    (s.adcCycle x).sup.cycle = (s.sup.cycle + 1) % 32 ∧
    (s.adcCycle x).flag Reg.SUP_STATUS 6 = decide (100 * s.fld Reg.SUP_HOLD_CFG 6 0 ≤ x.vhold.toNat) := by
  obtain ⟨u, hu, e⟩ := State.adcCycle_eq h x
  obtain ⟨hsupply, hready⟩ := State.supplyShown_effect h x
  have hslots := State.slotsTaken_sampled h x
  have hreg : ∀ a, a / 4096 = 7 → a < Reg.SUP_CNT_STATUS → (s.adcCycle x).reg a = (s.supplyShown x).reg a :=
    fun a hblock ha => e ▸ (hu.part (.block 7) (by decide) a hblock).trans (hslots.reg a ha)
  have hcycle : u.sup.cycle = s.sup.cycle := (congrArg Sup.cycle (hu.part .sup (by decide))).trans hslots.cycle
  refine ⟨(hreg _ (by decide) (by decide)).trans hsupply, ?_,
    (State.flag_congr (hreg _ (by decide) (by decide)) 6).trans hready⟩
  rw [e, ← hcycle]

end AdcCycle

end Sys2Proof.Machine
end

section
/-! SUPPORT. Rail counters (08_rail_supervision.md, R217 to R220): what a snapshot leaves, and the fields that COUNTERS_CLEAR
clears. -/

namespace Sys2Proof.Machine

/-! ### A snapshot (R218) -/

/-- The head and the bodies of a snapshot go to the journal before its number and CHANGED move. -/
theorem State.snapshot_eq {s : State} (h : s.Stored) (c : Nat) : ∃ u : State,
    Keeps supParts s u ∧
    s.snapshot c = ({ u with sup.snapNo := s.sup.snapNo + 1 } : State).setFlag Reg.SUP_CNT_STATUS 16 false :=
  ⟨_, Keeps.foldl_range 12 _ (fun _ _ _ hu => State.journal_keeps _ _ (by decide) hu)
    (State.journal_keeps _ _ (by decide) (Keeps.refl h)), rfl⟩

/-- What a snapshot for any cause leaves of SUP. -/
structure State.SnapshotTaken (s t : State) : Prop where
  sup : t.sup = { s.sup with snapNo := s.sup.snapNo + 1 }
  unchanged : t.flag Reg.SUP_CNT_STATUS 16 = false
  reg : ∀ a, a / 4096 = 7 → a ≠ Reg.SUP_CNT_STATUS → t.reg a = s.reg a

theorem State.snapshotTaken {s : State} (h : s.Stored) (c : Nat) : s.SnapshotTaken (s.snapshot c) := by
  obtain ⟨u, hu, e⟩ := State.snapshot_eq h c
  have hsup : u.sup = s.sup := hu.part .sup (by decide)
  have hnumbered : ({ u with sup.snapNo := s.sup.snapNo + 1 } : State).Stored := hu.stored.congr rfl rfl rfl
  rw [e]
  refine ⟨?_, State.flag_setFlag_self hnumbered _ _ (by decide), fun a hblock ha => ?_⟩
  · rw [← hsup]
    rfl
  · exact (State.reg_setReg_other hnumbered _ ha).trans (hu.part (.block 7) (by decide) a hblock)

theorem exec_counterSnapshot_of_due {s : State} (hplan : s.dev.planLoaded = true) (hawake : s.inSleepOrWake = false)
    (hrun : s.dev.inReset = false) (hage : s.fld Reg.SUP_CTRL 31 24 ≤ s.snapAge)
    (hchanged : s.flag Reg.SUP_CNT_STATUS 16 = true) : exec .counterSnapshot s = .next (s.snapshot 5) :=
  congrArg Host.Outcome.next (if_pos (by simp only [hplan, hawake, hrun, hage, hchanged]; decide))

/-! ### The fields of COUNTERS_CLEAR (R220, R377 (c)) -/

/-- The counters of rail `n`, each with its bit of COUNTERS. -/
def railCounterFields (n : Fin 24) : List (Nat × Nat × Nat × Nat) :=
  [(0, Reg.SUP_RAIL_CNT_W n, 15, 0), (1, Reg.SUP_RAIL_CNT_W n, 31, 16), (2, Reg.SUP_RAIL_CNT_F n, 15, 0),
    (3, Reg.SUP_RAIL_CNT_F n, 31, 16), (4, Reg.SUP_RAIL_CNT_S n, 15, 0), (5, Reg.SUP_RAIL_CNT_S n, 31, 16),
    (6, Reg.SUP_ON_CYCLES n, 31, 0)]

/-- The counter of VIN_FAIL decisions, which belongs to no rail. -/
def vinCounterField : List (Nat × Nat × Nat × Nat) := [(7, Reg.SUP_VIN_FAIL_CNT, 15, 0)]

theorem bit_setWidth (c : Byte) (i : Nat) : bit (c.setWidth 32) i = c.getLsbD i := by
  unfold bit
  rw [BitVec.getLsbD_setWidth]
  by_cases hi : i < 32
  · rw [decide_eq_true hi, Bool.true_and]
  · rw [BitVec.getLsbD_of_ge c i (by omega), Bool.and_false]

/-- Rail `n` cleared, with its extremes. -/
def State.clearRail (c : Byte) (s : State) (n : Fin 24) : State :=
  (s.clearBy (c.setWidth 32) (railCounterFields n)).setReg (Reg.SUP_RAIL_MINMAX n) 0x0000FFFF

/-- The named rails cleared. -/
def State.clearRails (s : State) (rails : BitVec 24) (c : Byte) : State :=
  (List.finRange 24).foldl (fun s (n : Fin 24) => if rails.getLsbD n then State.clearRail c s n else s) s

theorem State.clearCounters_eq (s : State) (rails : BitVec 24) (c : Byte) :
    s.clearCounters rails c = (s.clearRails rails c).clearBy (c.setWidth 32) vinCounterField := by
  simp only [State.clearCounters, State.clearRails, State.clearRail, State.clearBy, railCounterFields, vinCounterField,
    List.foldl_cons, List.foldl_nil, bit_setWidth]

/-- Where the counters of a rail lie. -/
theorem railCounterFields_addr {n : Fin 24} {e : Nat × Nat × Nat × Nat} (he : e ∈ railCounterFields n) :
    e.2.1 = 0x7114 + 0x20 * n.val ∨ e.2.1 = 0x7118 + 0x20 * n.val ∨ e.2.1 = 0x711C + 0x20 * n.val ∨
      e.2.1 = 0x7400 + 0x4 * n.val := by
  show e.2.1 = Reg.SUP_RAIL_CNT_W n ∨ e.2.1 = Reg.SUP_RAIL_CNT_F n ∨ e.2.1 = Reg.SUP_RAIL_CNT_S n ∨
    e.2.1 = Reg.SUP_ON_CYCLES n
  simp only [railCounterFields, List.mem_cons, List.not_mem_nil, or_false] at he
  rcases he with rfl | rfl | rfl | rfl | rfl | rfl | rfl <;> simp

/-- A register of rail `n` that COUNTERS_CLEAR writes: a counter, or the extremes. -/
def clearedReg (n : Fin 24) (a : Nat) : Prop := a = Reg.SUP_RAIL_MINMAX n ∨ a ∈ (railCounterFields n).map fun e => e.2.1

theorem not_clearedReg_of_field {n m : Fin 24} (hne : m ≠ n) {e : Nat × Nat × Nat × Nat} (he : e ∈ railCounterFields n) :
    ¬clearedReg m e.2.1 := by
  have haddr := railCounterFields_addr he
  rintro (hminmax | hcounter)
  · dsimp only [Reg.SUP_RAIL_MINMAX] at hminmax
    omega
  · obtain ⟨f, hf, hsame⟩ := List.mem_map.mp hcounter
    have hother := railCounterFields_addr hf
    omega

theorem not_clearedReg_vin (n : Fin 24) : ¬clearedReg n Reg.SUP_VIN_FAIL_CNT := by
  rintro (hminmax | hcounter)
  · dsimp only [Reg.SUP_RAIL_MINMAX, Reg.SUP_VIN_FAIL_CNT] at hminmax
    omega
  · obtain ⟨f, hf, hsame⟩ := List.mem_map.mp hcounter
    have haddr := railCounterFields_addr hf
    dsimp only [Reg.SUP_VIN_FAIL_CNT] at hsame
    omega

section ClearRail

variable {s : State} (h : s.Stored) (c : Byte) (n : Fin 24)
include h

theorem State.clearRail_stored : (State.clearRail c s n).Stored := (State.clearBy_stored h _ _).setReg _ _

theorem State.clearBy_railCounters :
    s.CountersCleared (s.clearBy (c.setWidth 32) (railCounterFields n)) (c.setWidth 32) (railCounterFields n) := by
  refine State.clearBy_cleared h _ _ ?_ ?_
  · simp [railCounterFields, fieldGood]
  · simp only [railCounterFields, List.pairwise_cons, List.forall_mem_cons, fieldsApart, Reg.SUP_RAIL_CNT_W, Reg.SUP_RAIL_CNT_F,
      Reg.SUP_RAIL_CNT_S, Reg.SUP_ON_CYCLES, List.not_mem_nil, List.Pairwise.nil, false_imp_iff, implies_true, and_true]
    omega

theorem State.clearRail_reg {a : Nat} (ha : ¬clearedReg n a) : (State.clearRail c s n).reg a = s.reg a := by
  obtain ⟨-, hother⟩ := State.clearBy_railCounters h c n
  exact (State.reg_setReg_other (State.clearBy_stored h _ _) _ fun e => ha (.inl e)).trans (hother a fun hm => ha (.inr hm))

theorem State.clearRail_fld {e : Nat × Nat × Nat × Nat} (he : e ∈ railCounterFields n) :
    (State.clearRail c s n).fld e.2.1 e.2.2.1 e.2.2.2 = if c.getLsbD e.1 then 0 else s.fld e.2.1 e.2.2.1 e.2.2.2 := by
  obtain ⟨hcleared, -⟩ := State.clearBy_railCounters h c n
  have haddr := railCounterFields_addr he
  have hne : e.2.1 ≠ Reg.SUP_RAIL_MINMAX n := by
    dsimp only [Reg.SUP_RAIL_MINMAX]
    omega
  rw [← bit_setWidth]
  exact (State.fld_congr (State.reg_setReg_other (State.clearBy_stored h _ _) _ hne) _ _).trans (hcleared e he)

end ClearRail

section ClearRails

variable {s : State} (h : s.Stored) (rails : BitVec 24) (c : Byte)
include h

theorem State.clearRails_vin : (s.clearRails rails c).Stored ∧
    (s.clearRails rails c).reg Reg.SUP_VIN_FAIL_CNT = s.reg Reg.SUP_VIN_FAIL_CNT := by
  refine List.foldlRecOn (motive := fun t : State => t.Stored ∧ t.reg Reg.SUP_VIN_FAIL_CNT = s.reg Reg.SUP_VIN_FAIL_CNT)
    _ _ ⟨h, rfl⟩ fun u ⟨hu, hvin⟩ n _ => ?_
  split
  case isTrue named => exact ⟨State.clearRail_stored hu c n, (State.clearRail_reg hu c n (not_clearedReg_vin n)).trans hvin⟩
  case isFalse => exact ⟨hu, hvin⟩

/-- A rail's counters change in the rail's own step alone. -/
theorem State.clearRails_fld (n : Fin 24) {e : Nat × Nat × Nat × Nat} (he : e ∈ railCounterFields n) :
    (s.clearRails rails c).fld e.2.1 e.2.2.1 e.2.2.2 =
      if rails.getLsbD n && c.getLsbD e.1 then 0 else s.fld e.2.1 e.2.2.1 e.2.2.2 := by
  have hother : ∀ (v : Nat) (u : State) (m : Fin 24), m ≠ n → u.Stored ∧ u.fld e.2.1 e.2.2.1 e.2.2.2 = v →
      (if rails.getLsbD m then State.clearRail c u m else u : State).Stored ∧
      (if rails.getLsbD m then State.clearRail c u m else u : State).fld e.2.1 e.2.2.1 e.2.2.2 = v := by
    intro v u m hne ⟨hu, hv⟩
    split
    case isTrue named =>
      have hreg := State.clearRail_reg hu c m (not_clearedReg_of_field hne he)
      exact ⟨State.clearRail_stored hu c m, (State.fld_congr hreg _ _).trans hv⟩
    case isFalse => exact ⟨hu, hv⟩
  refine (foldl_of_once (P := fun u => u.Stored ∧ u.fld e.2.1 e.2.2.1 e.2.2.2 = s.fld e.2.1 e.2.2.1 e.2.2.2)
    (Q := fun u => u.Stored ∧ u.fld e.2.1 e.2.2.1 e.2.2.2 =
      if rails.getLsbD n && c.getLsbD e.1 then 0 else s.fld e.2.1 e.2.2.1 e.2.2.2)
    (hother _) (fun u ⟨hu, hv⟩ => ?_) (hother _) (List.nodup_finRange 24) (List.mem_finRange n) ⟨h, rfl⟩).2
  cases rails.getLsbD n with
  | true => exact ⟨State.clearRail_stored hu c n, (State.clearRail_fld hu c n he).trans (by rw [hv, Bool.true_and])⟩
  | false => exact ⟨hu, hv⟩

theorem State.clearCounters_effect : (s.clearCounters rails c).Stored ∧
    (∀ n : Fin 24, ∀ e ∈ railCounterFields n, (s.clearCounters rails c).fld e.2.1 e.2.2.1 e.2.2.2 =
      if rails.getLsbD n && c.getLsbD e.1 then 0 else s.fld e.2.1 e.2.2.1 e.2.2.2) ∧
    (s.clearCounters rails c).fld Reg.SUP_VIN_FAIL_CNT 15 0 = if c.getLsbD 7 then 0 else s.fld Reg.SUP_VIN_FAIL_CNT 15 0 := by
  obtain ⟨hrails, hvin⟩ := State.clearRails_vin h rails c
  obtain ⟨hcleared, hother⟩ := State.clearBy_cleared hrails (c.setWidth 32) vinCounterField
    (by simp [vinCounterField, fieldGood]) (List.pairwise_singleton _ _)
  rw [State.clearCounters_eq]
  refine ⟨State.clearBy_stored hrails _ _, fun n e he => ?_, ?_⟩
  · have hne : e.2.1 ∉ vinCounterField.map fun f => f.2.1 := fun hm =>
      not_clearedReg_vin n (.inr (List.mem_map.mpr ⟨e, he, List.mem_singleton.mp hm⟩))
    exact (State.fld_congr (hother _ hne) _ _).trans (State.clearRails_fld h rails c n he)
  · rw [← bit_setWidth, ← State.fld_congr hvin]
    exact hcleared _ List.mem_cons_self

end ClearRails

/-! ### The rows (R220) -/

theorem exec_countersRead_of_plain {s : State} {r : Req} (h : s.admits r 0x14) {b : BufBlock} {rails : BitVec 24}
    (hb : bufBad r b (8 + 20 * count128 (rails.setWidth 128)) = false) {flags : Byte} (hno : flags.getLsbD 0 = false) :
    exec (.countersRead r b rails flags) s =
      .next ((s.take r 0x14).complete r (structReply r b (s.countersBytes rails) [])) := by
  refine congrArg Host.Outcome.next ?_
  rw [hb]
  refine State.command_admits h ?_
  obtain ⟨l, e⟩ := s.take_eq r 0x14
  rw [e, hno]
  rfl

/-- A reading with its snapshot: the values of the decision point wait for the snapshot to be complete. -/
def State.readSnapped (s : State) (r : Req) (rep : Reply) : State :=
  let t := s.snapshot 4
  { t with sup.waits := t.sup.waits ++ [(s.sup.snapNo, r, rep)] }

theorem State.readSnapped_effect {s : State} (h : s.Stored) (r : Req) (rep : Reply) :
    (s.readSnapped r rep).sup.waits = s.sup.waits ++ [(s.sup.snapNo, r, rep)] ∧
    (s.readSnapped r rep).flag Reg.SUP_CNT_STATUS 16 = false ∧
    ∀ a, a / 4096 = 7 → a ≠ Reg.SUP_CNT_STATUS → (s.readSnapped r rep).reg a = s.reg a := by
  obtain ⟨hsup, hunchanged, hreg⟩ := State.snapshotTaken h 4
  exact ⟨(congrArg (fun p : Sup => p.waits ++ [(s.sup.snapNo, r, rep)]) hsup).trans rfl, hunchanged, hreg⟩

theorem exec_countersRead_of_snapshot {s : State} {r : Req} (h : s.admits r 0x14) {b : BufBlock} {rails : BitVec 24}
    (hb : bufBad r b (8 + 20 * count128 (rails.setWidth 128)) = false) {flags : Byte} (hsnap : flags.getLsbD 0 = true) :
    exec (.countersRead r b rails flags) s =
      .next ((s.take r 0x14).readSnapped r (structReply r b (s.countersBytes rails) [])) := by
  refine congrArg Host.Outcome.next ?_
  rw [hb]
  refine State.command_open h ?_
  obtain ⟨l, e⟩ := s.take_eq r 0x14
  rw [e, hsnap]
  rfl

/-- The tests of COUNTERS_CLEAR pass: a rail in use or VIN_FAIL_CNT alone, and some counter. -/
theorem countersClear_good {s : State} {rails : BitVec 24} {c : Byte} (hused : rails &&& ~~~s.railsInUse = 0) (hsome : c ≠ 0)
    (hrail : rails ≠ 0 ∨ c = 0x80) : (decide (rails &&& ~~~s.railsInUse ≠ 0) || decide (c = 0) ||
      (decide (rails = 0) && decide (c &&& 0x7F ≠ 0))) = false := by
  rcases hrail with hrail | rfl
  · rw [decide_eq_false (not_not_intro hused), decide_eq_false hsome, decide_eq_false hrail]
    rfl
  · rw [decide_eq_false (not_not_intro hused)]
    exact Bool.and_false _

theorem exec_countersClear_of_admits {s : State} {r : Req} (h : s.admits r 0x15) {rails : BitVec 24} {c : Byte}
    (hused : rails &&& ~~~s.railsInUse = 0) (hsome : c ≠ 0) (hrail : rails ≠ 0 ∨ c = 0x80) :
    exec (.countersClear r rails c) s =
      .next (((s.take r 0x15).clearCounters rails c).readSnapped r { status := Status.OK }) := by
  refine congrArg Host.Outcome.next ?_
  rw [countersClear_good hused hsome hrail]
  exact State.command_open h rfl

end Sys2Proof.Machine
end

section
/-! SUPPORT. Comparator crossings (08_rail_supervision.md, R209 to R212): what the latch of `FAULT_OFF` and the crossings decided
with it leave. -/

namespace Sys2Proof.Machine

/-! ### The latch of FAULT_OFF (R211) -/

/-- Each of the responses 0x80 to 0x83 asserts while its trigger node is active. -/
theorem builtinsOn_node (nodes : BitVec 128) (overrun : BitVec 8) {k : Nat} (hk : k < 4) :
    (builtinsOn nodes overrun).getLsbD k = nodes.getLsbD (builtinNode k) := by
  have hadd : (bitsOf 4 (fun k => nodes.getLsbD (builtinNode k)) + if overrun = 0 then 0 else 16).testBit k =
      (bitsOf 4 fun k => nodes.getLsbD (builtinNode k)).testBit k := by
    split
    case isTrue => rfl
    case isFalse => rw [Nat.add_comm, show (16 : Nat) = 2 ^ 4 from rfl, Nat.testBit_two_pow_add_gt hk]
  unfold builtinsOn
  rw [BitVec.getLsbD_ofNat, hadd, testBit_bitsOf, decide_eq_true hk, decide_eq_true (by omega), Bool.true_and, Bool.true_and]

/-- Node 78 carries response 0x80 through the direct path. -/
theorem State.setNode_faultOff_response {s : State} (h : s.Stored) :
    (s.setNode 78 true).hedge.biAsserting.getLsbD 0 = true := by
  obtain ⟨shown, trips, e⟩ :=
    State.builtins_hedge (s := { s with hedge.nodes := setBit128 s.hedge.nodes 78 true }) (h.congr rfl rfl rfl)
  refine (congrArg (fun g : Hedge => g.biAsserting.getLsbD 0) e).trans ?_
  exact (builtinsOn_node _ _ (by decide)).trans ((setBit128_getLsbD _ (by decide) true 78).trans (if_pos rfl))

/-- The latch's registers: the flags, the cause and the PT of the decision. -/
def State.faultNoted (s : State) (m : BitVec 24) (n : Fin 24) (ov : Bool) : State :=
  let t := (s.setFlag Reg.SUP_STATUS 0 true).setFlag Reg.SUP_STATUS 1 (decide (m &&& ~~~(railBit n) ≠ 0))
  let t := t.setReg Reg.SUP_FAULT_LATCH (pack [(n, 8), (if ov then 2 else 1, 0)])
  (t.setReg Reg.SUP_FAULT_PT_LO (s.ptNow.setWidth 32)).setReg Reg.SUP_FAULT_PT_HI ((s.ptNow >>> 32).setWidth 32)

theorem State.latchFaultOff_eq (s : State) (m : BitVec 24) (n : Fin 24) (ov : Bool) :
    s.latchFaultOff m n ov = (((s.faultNoted m n ov).setNode 78 true).herdAbort 2).herdAlarm 0 := rfl

theorem State.faultNoted_effect {s : State} (h : s.Stored) (m : BitVec 24) (n : Fin 24) (ov : Bool) :
    (s.faultNoted m n ov).Stored ∧ (s.faultNoted m n ov).flag Reg.SUP_STATUS 0 = true := by
  have hflag := h.setFlag Reg.SUP_STATUS 0 true
  have hmulti := hflag.setFlag Reg.SUP_STATUS 1 (decide (m &&& ~~~(railBit n) ≠ 0))
  have hcause := hmulti.setReg Reg.SUP_FAULT_LATCH (pack [(n, 8), (if ov then 2 else 1, 0)])
  have hlow := hcause.setReg Reg.SUP_FAULT_PT_LO (s.ptNow.setWidth 32)
  refine ⟨hlow.setReg _ _, ?_⟩
  refine (State.flag_congr ((State.reg_setReg_other hlow _ (by decide)).trans ((State.reg_setReg_other hcause _ (by decide)).trans
    (State.reg_setReg_other hmulti _ (by decide)))) 0).trans ?_
  exact (State.flag_setFlag_other hflag _ (.inr (by decide))).trans (State.flag_setFlag_self h _ _ (by decide))

/-- What holds once `FAULT_OFF` is latched: its flag, its node and its response. -/
structure State.FaultLatched (t : State) : Prop where
  stored : t.Stored
  flag : t.flag Reg.SUP_STATUS 0 = true
  node : t.node 78 = true
  response : t.hedge.biAsserting.getLsbD 0 = true

theorem State.FaultLatched.congr {t u : State} (h : t.FaultLatched) (hst : u.Stored) (hhedge : u.hedge = t.hedge)
    (hreg : u.reg Reg.SUP_STATUS = t.reg Reg.SUP_STATUS) : u.FaultLatched :=
  ⟨hst, (State.flag_congr hreg 0).trans h.flag, (State.node_congr hhedge 78).trans h.node, hhedge ▸ h.response⟩

/-- The parts that hold the latch. -/
abbrev latchParts : Nat := 2 ^ Part.hedge.num + 2 ^ (Part.block 7).num

theorem State.FaultLatched.act {t : State} (h : t.FaultLatched) : t.act 17 = true :=
  State.act_of_response (k := 0) (by decide) h.response (by decide)

/-- The latch alone drives every enable off. -/
theorem State.FaultLatched.enable {t : State} (h : t.FaultLatched) (m : Fin 24) : t.enable m = false := by
  simp [State.enable, h.flag]

theorem State.latchFaultOff_effect {s : State} (h : s.Stored) (m : BitVec 24) (n : Fin 24) (ov : Bool) :
    (s.latchFaultOff m n ov).FaultLatched ∧ (s.latchFaultOff m n ov).seq = s.seq := by
  obtain ⟨hnoted, hflag⟩ := State.faultNoted_effect h m n ov
  have knode : Keeps (2 ^ Part.seq.num + 2 ^ (Part.block 7).num) (s.faultNoted m n ov) ((s.faultNoted m n ov).setNode 78 true) :=
    State.setNode_keeps 78 true (by decide) (Keeps.refl hnoted)
  have kherd : Keeps (latchParts + 2 ^ Part.seq.num) ((s.faultNoted m n ov).setNode 78 true) (s.latchFaultOff m n ov) := by
    rw [State.latchFaultOff_eq]
    exact State.herdAlarm_keeps 0 (by decide) (State.herdAbort_keeps 2 (by decide) (Keeps.refl knode.stored))
  have hlatched : ((s.faultNoted m n ov).setNode 78 true).FaultLatched :=
    ⟨knode.stored, (State.flag_congr (knode.part (.block 7) (by decide) _ (by decide)) 0).trans hflag,
      State.node_setNode_faultOff hnoted true, State.setNode_faultOff_response hnoted⟩
  exact ⟨hlatched.congr kherd.stored (kherd.part .hedge (by decide)) (kherd.part (.block 7) (by decide) _ (by decide)),
    (kherd.part .seq (by decide)).trans (knode.part .seq (by decide))⟩

/-! ### The crossings decided with it (R210, R212) -/

/-- The crossing counted, and noted where the sequencer or the latch acts on it. -/
def State.crossingNoted (s : State) (n : Fin 24) (ov : Bool) (a : Nat) : State :=
  let s := if ov then s.railCnt (Reg.SUP_RAIL_CNT_F n) 31 16 else s.railCnt (Reg.SUP_RAIL_CNT_F n) 15 0
  if a = 2 then { s with sup.tripped := s.sup.tripped ||| railBit n }
  else if a = 1 && ov then { s with seq.ovX := s.seq.ovX ||| railBit n }
  else if a = 1 then { s with seq.uvX := s.seq.uvX ||| railBit n }
  else s

/-- Crossings have been decided: the latch and the rails stand, and no rail that tripped is forgotten. -/
structure State.CrossingsTaken (s t : State) : Prop where
  latched : t.FaultLatched
  rail : t.seq.rail = s.seq.rail
  tripped : ∀ n : Fin 24, s.sup.tripped.getLsbD n = true → t.sup.tripped.getLsbD n = true

theorem State.FaultLatched.self {s : State} (h : s.FaultLatched) : s.CrossingsTaken s := ⟨h, rfl, fun _ => id⟩

theorem State.crossing_eq (s : State) (latched : Bool) (n : Fin 24) (ov : Bool) :
    s.crossing latched n ov = match crossAction (s.seq.rail[n]).state ov latched with
      | none => s
      | some a => (s.crossingNoted n ov a).postCrossing n ov a := rfl

theorem State.railCnt_status {s : State} (h : s.Stored) {a : Nat} (ha : Reg.SUP_CNT_STATUS < a) (hi lo : Nat) :
    (s.railCnt a hi lo).Stored ∧ (s.railCnt a hi lo).reg Reg.SUP_STATUS = s.reg Reg.SUP_STATUS := by
  have hinc := h.inc a hi lo
  have hne : Reg.SUP_STATUS ≠ a := by dsimp only [Reg.SUP_STATUS, Reg.SUP_CNT_STATUS] at ha ⊢; omega
  exact ⟨hinc.setFlag _ _ _, (State.reg_setReg_other hinc _ (by decide)).trans (State.reg_setReg_other h _ hne)⟩

/-- A crossing noted adds its rail to those that tripped, or none. -/
theorem State.crossingNoted_effect {s : State} (h : s.Stored) (n : Fin 24) (ov : Bool) (a : Nat) :
    (s.crossingNoted n ov a).Stored ∧ (s.crossingNoted n ov a).hedge = s.hedge ∧
    (s.crossingNoted n ov a).reg Reg.SUP_STATUS = s.reg Reg.SUP_STATUS ∧ (s.crossingNoted n ov a).seq.rail = s.seq.rail ∧
    (s.crossingNoted n ov a).sup.tripped = if a = 2 then s.sup.tripped ||| railBit n else s.sup.tripped := by
  have hcnt : Reg.SUP_CNT_STATUS < Reg.SUP_RAIL_CNT_F n := by dsimp only [Reg.SUP_CNT_STATUS, Reg.SUP_RAIL_CNT_F]; omega
  unfold State.crossingNoted
  extract_lets u
  obtain ⟨hu, hreg⟩ : u.Stored ∧ u.reg Reg.SUP_STATUS = s.reg Reg.SUP_STATUS := by
    cases ov with
    | true => exact State.railCnt_status h hcnt 31 16
    | false => exact State.railCnt_status h hcnt 15 0
  have hsame : u.hedge = s.hedge ∧ u.seq = s.seq ∧ u.sup = s.sup := by cases ov <;> exact ⟨rfl, rfl, rfl⟩
  obtain ⟨hhedge, hseq, hsup⟩ := hsame
  rw [← hhedge, ← hseq, ← hsup, ← hreg]
  split
  case isTrue trips => exact ⟨hu.congr rfl rfl rfl, rfl, rfl, rfl, rfl⟩
  case isFalse =>
    split
    case isTrue => exact ⟨hu.congr rfl rfl rfl, rfl, rfl, rfl, rfl⟩
    case isFalse =>
      split
      case isTrue => exact ⟨hu.congr rfl rfl rfl, rfl, rfl, rfl, rfl⟩
      case isFalse => exact ⟨hu, rfl, rfl, rfl, rfl⟩

theorem State.CrossingsTaken.noted {s t : State} (h : s.CrossingsTaken t) (n : Fin 24) (ov : Bool) (a : Nat) :
    s.CrossingsTaken ((t.crossingNoted n ov a).postCrossing n ov a) := by
  obtain ⟨hst, hhedge, hreg, hrail, htripped⟩ := State.crossingNoted_effect h.latched.stored n ov a
  refine ⟨h.latched.congr (hst.congr (State.post_regs ..) (State.post_host ..) (State.post_flash ..))
    ((State.post_hedge ..).trans hhedge) ((State.post_reg ..).trans hreg),
    (congrArg Seq.rail (State.post_seq ..)).trans (hrail.trans h.rail), fun m hm => ?_⟩
  have hkept := h.tripped m hm
  rw [show (State.postCrossing _ n ov a).sup = _ from State.post_sup .., htripped]
  split
  case isTrue => rw [BitVec.getLsbD_or, hkept, Bool.true_or]
  case isFalse => exact hkept

theorem State.CrossingsTaken.crossing {s t : State} (h : s.CrossingsTaken t) (latched : Bool) (n : Fin 24) (ov : Bool) :
    s.CrossingsTaken (t.crossing latched n ov) := by
  rw [State.crossing_eq]
  split
  case h_1 => exact h
  case h_2 a _ => exact h.noted n ov a

/-- A crossing on a `GOOD` rail that the latch did not precede trips the rail. -/
theorem State.crossing_trips {s : State} (h : s.Stored) {n : Fin 24} (hgood : (s.seq.rail[n]).state = .good) (ov : Bool) :
    (s.crossing false n ov).sup.tripped.getLsbD n = true := by
  obtain ⟨-, -, -, -, htripped⟩ := State.crossingNoted_effect h n ov 2
  have hbit : (railBit n).getLsbD n = true := (railBit_getElem n n).trans (decide_eq_true rfl)
  rw [State.crossing_eq, hgood]
  show ((s.crossingNoted n ov 2).postCrossing n ov 2).sup.tripped.getLsbD n = true
  rw [show (State.postCrossing _ n ov 2).sup = _ from State.post_sup .., htripped, if_pos rfl, BitVec.getLsbD_or, hbit,
    Bool.or_true]

/-- The crossings of rail `n` among those decided. -/
def State.crossRail (uv ov : BitVec 24) (latched : Bool) (s : State) (n : Fin 24) : State :=
  let s := if uv.getLsbD n then s.crossing latched n false else s
  if ov.getLsbD n then s.crossing latched n true else s

theorem State.CrossingsTaken.crossRail {s t : State} (h : s.CrossingsTaken t) (uv ov : BitVec 24) (latched : Bool) (n : Fin 24) :
    s.CrossingsTaken (t.crossRail uv ov latched n) := by
  unfold State.crossRail
  cases uv.getLsbD n <;> cases ov.getLsbD n
  · exact h
  · exact h.crossing latched n true
  · exact h.crossing latched n false
  · exact (h.crossing latched n false).crossing latched n true

theorem State.crossRail_trips {uv ov : BitVec 24} {s : State} (h : s.FaultLatched) {n : Fin 24}
    (hgood : (s.seq.rail[n]).state = .good) (hcross : uv.getLsbD n = true ∨ ov.getLsbD n = true) :
    (s.crossRail uv ov false n).sup.tripped.getLsbD n = true := by
  have huv := h.self.crossing false n false
  unfold State.crossRail
  cases hov : ov.getLsbD n with
  | true =>
    cases uv.getLsbD n with
    | true => exact State.crossing_trips huv.latched.stored (huv.rail ▸ hgood) true
    | false => exact State.crossing_trips h.stored hgood true
  | false =>
    rw [hcross.resolve_right (Bool.eq_false_iff.mp hov)]
    exact State.crossing_trips h.stored hgood false

/-- Every rail's crossings: the latch stands, and a `GOOD` rail that crossed has tripped. -/
theorem State.crossRails_effect {uv ov : BitVec 24} {s : State} (h : s.FaultLatched) {n : Fin 24}
    (hgood : (s.seq.rail[n]).state = .good) (hcross : uv.getLsbD n = true ∨ ov.getLsbD n = true) :
    s.CrossingsTaken ((List.finRange 24).foldl (State.crossRail uv ov false) s) ∧
    ((List.finRange 24).foldl (State.crossRail uv ov false) s).sup.tripped.getLsbD n = true :=
  foldl_of_once (P := s.CrossingsTaken) (Q := fun u => s.CrossingsTaken u ∧ u.sup.tripped.getLsbD n = true)
    (fun _ m _ hu => hu.crossRail uv ov false m)
    (fun _ hu => ⟨hu.crossRail uv ov false n, State.crossRail_trips hu.latched (hu.rail ▸ hgood) hcross⟩)
    (fun _ m _ hu => ⟨hu.1.crossRail uv ov false m, (hu.1.latched.self.crossRail uv ov false m).tripped n hu.2⟩)
    (List.nodup_finRange 24) (List.mem_finRange n) h.self

/-! ### Crossings decided in one fabric cycle (R211, R212, R216) -/

/-- The crossings of `v` that count: of rails in use, and in Sleep of the powered comparators. -/
def State.judged (s : State) (v : BitVec 24) : BitVec 24 :=
  v &&& (s.railsInUse &&& if s.inSleep then s.railsGood else 0xFFFFFF)

/-- Rails that are `GOOD` and crossed. -/
def State.goodCrossed (s : State) (uv ov : BitVec 24) : BitVec 24 := (s.judged uv ||| s.judged ov) &&& s.railsGood

/-- Each crossing ends its rail's time inside the window. -/
def State.insideLeft (s : State) (uv ov : BitVec 24) : State :=
  { s with seq.inside := s.seq.inside &&& ~~~(s.judged uv ||| s.judged ov) }

theorem State.judged_getLsbD {s : State} {v : BitVec 24} {n : Fin 24} (huse : s.railsInUse.getLsbD n = true)
    (hgood : s.railsGood.getLsbD n = true) : (s.judged v).getLsbD n = v.getLsbD n := by
  have hall : ∀ n : Fin 24, (0xFFFFFF : BitVec 24).getLsbD n = true := by decide
  have hpowered : (if s.inSleep then s.railsGood else 0xFFFFFF).getLsbD n = true := by
    cases s.inSleep with
    | true => exact hgood
    | false => exact hall n
  unfold State.judged
  rw [BitVec.getLsbD_and, BitVec.getLsbD_and, huse, hpowered, Bool.true_and, Bool.and_true]

/-- The latch is set by the lowest `GOOD` rail that crossed, and the wake source follows. -/
theorem State.crossings_of_first {s : State} (hfree : s.flag Reg.SUP_STATUS 0 = false) {uv ov : BitVec 24} {k : Fin 24}
    (hfirst : ((List.finRange 24).find? fun (n : Fin 24) => (s.goodCrossed uv ov).getLsbD n) = some k) :
    s.crossings uv ov = State.wakeDetect (State.journalFaultOff
      ((List.finRange 24).foldl (State.crossRail (s.judged uv) (s.judged ov) false)
        ((s.insideLeft uv ov).latchFaultOff (s.goodCrossed uv ov) k (!(s.judged uv).getLsbD k)))
      k (!(s.judged uv).getLsbD k)) 0x0A := by
  unfold State.crossings
  extract_lets live uv' ov' q s' good latched first u v
  have hlatched : latched = false := hfree
  have hk : first = some k := (if_neg (by rw [hlatched]; exact Bool.false_ne_true)).trans hfirst
  simp only [u, v, hk, hlatched]
  rfl

theorem State.crossings_effect {s : State} (h : s.Stored) {uv ov : BitVec 24} {n : Fin 24}
    (hfree : s.flag Reg.SUP_STATUS 0 = false) (huse : s.railsInUse.getLsbD n = true) (hgood : s.railsGood.getLsbD n = true)
    (hcross : uv.getLsbD n = true ∨ ov.getLsbD n = true) :
    (s.crossings uv ov).FaultLatched ∧ (s.crossings uv ov).sup.tripped.getLsbD n = true := by
  have hjudged : (s.judged uv).getLsbD n = true ∨ (s.judged ov).getLsbD n = true := by
    rwa [State.judged_getLsbD huse hgood, State.judged_getLsbD huse hgood]
  have hcrossed : (s.goodCrossed uv ov).getLsbD n = true := by
    unfold State.goodCrossed
    rw [BitVec.getLsbD_and, BitVec.getLsbD_or, hgood, Bool.or_eq_true_iff.mpr hjudged, Bool.true_and]
  obtain ⟨k, hfirst⟩ : ∃ k, ((List.finRange 24).find? fun (n : Fin 24) => (s.goodCrossed uv ov).getLsbD n) = some k :=
    Option.isSome_iff_exists.mp (List.find?_isSome.mpr ⟨n, List.mem_finRange n, hcrossed⟩)
  have hstate : (s.seq.rail[n]).state = .good := by
    rw [State.railsGood, State.railsIn_getLsbD] at hgood
    simpa using hgood
  obtain ⟨hlatched, hseq⟩ := State.latchFaultOff_effect (s := s.insideLeft uv ov) (h.congr rfl rfl rfl) (s.goodCrossed uv ov) k
    (!(s.judged uv).getLsbD k)
  obtain ⟨htaken, htripped⟩ := State.crossRails_effect hlatched (n := n) (hseq ▸ hstate) hjudged
  rw [State.crossings_of_first hfree hfirst]
  have kafter := State.wakeDetect_keeps (K := latchParts + 2 ^ Part.sup.num) 0x0A 0 (by decide)
    (State.journalFaultOff_keeps k (!(s.judged uv).getLsbD k) (by decide) (Keeps.refl htaken.latched.stored))
  refine ⟨htaken.latched.congr kafter.stored (kafter.part .hedge (by decide))
    (kafter.part (.block 7) (by decide) _ (by decide)), ?_⟩
  exact (congrArg (fun p : Sup => p.tripped.getLsbD n) (kafter.part .sup (by decide))).trans htripped

theorem exec_comparatorCrossing_of_up {s : State} (hplan : s.dev.planLoaded = true) (hrun : s.dev.inReset = false)
    (hon : s.pmc.state ≠ .off) (uv ov : BitVec 24) : exec (.comparatorCrossing uv ov) s = .next (s.crossings uv ov) :=
  congrArg Host.Outcome.next (if_pos (by simp [hplan, hrun, hon]))

end Sys2Proof.Machine
end

section
/-! SUPPORT. Input supply failure (08_rail_supervision.md, R221 to R227): what a VIN_FAIL decision, VIN good and the end of the
hold-up sequence leave. -/

namespace Sys2Proof.Machine

/-! ### A VIN_FAIL decision (R222) -/

/-- The decision shown and counted. -/
def State.vinFailShown (s : State) : State :=
  ((s.setFlag Reg.SUP_STATUS 2 true).setFlag Reg.SUP_STATUS 3 false).railCnt Reg.SUP_VIN_FAIL_CNT 15 0

/-- The direct paths hold, and the record is captured. -/
def State.vinFailHeld (s : State) : State :=
  { s with sup.holdUp := some (s.ptNow, s.powerFail), sup.vinLow := true, sup.enHold := true, sup.vinHold := true }

theorem State.vinFail_eq (s : State) :
    s.vinFail = (s.vinFailShown.vinFailHeld.flashHoldUp.postVin 3 3).applyActions := rfl

section VinFail

variable {s : State} (h : s.Stored)
include h

theorem State.vinFailShown_effect : s.vinFailShown.Stored ∧ s.vinFailShown.flag Reg.SUP_STATUS 2 = true ∧
    s.vinFailShown.flag Reg.SUP_STATUS 3 = false ∧
    s.vinFailShown.fld Reg.SUP_VIN_FAIL_CNT 15 0 = min 0xFFFF (s.fld Reg.SUP_VIN_FAIL_CNT 15 0 + 1) := by
  have hfail := h.setFlag Reg.SUP_STATUS 2 true
  have hgood := hfail.setFlag Reg.SUP_STATUS 3 false
  have hinc := hgood.inc Reg.SUP_VIN_FAIL_CNT 15 0
  have hstatus : s.vinFailShown.reg Reg.SUP_STATUS =
      ((s.setFlag Reg.SUP_STATUS 2 true).setFlag Reg.SUP_STATUS 3 false).reg Reg.SUP_STATUS :=
    (State.reg_setReg_other hinc _ (by decide)).trans (State.reg_setReg_other hgood _ (by decide))
  have hcount : ((s.setFlag Reg.SUP_STATUS 2 true).setFlag Reg.SUP_STATUS 3 false).reg Reg.SUP_VIN_FAIL_CNT =
      s.reg Reg.SUP_VIN_FAIL_CNT :=
    (State.reg_setReg_other hfail _ (by decide)).trans (State.reg_setReg_other h _ (by decide))
  refine ⟨hinc.setFlag _ _ _, ?_, (State.flag_congr hstatus 3).trans (State.flag_setFlag_self hfail _ _ (by decide)), ?_⟩
  · exact (State.flag_congr hstatus 2).trans ((State.flag_setFlag_other hfail _ (.inr (by decide))).trans
      (State.flag_setFlag_self h _ _ (by decide)))
  · refine (State.fld_congr (State.reg_setReg_other hinc _ (by decide)) 15 0).trans ((State.fld_inc_self hgood _ (by decide)
      (by decide)).trans ?_)
    rw [State.fld_congr hcount]
    rfl

theorem State.vinFail_keeps_sup : Keeps supParts s.vinFailShown.vinFailHeld s.vinFail := by
  obtain ⟨hshown, -⟩ := State.vinFailShown_effect h
  rw [State.vinFail_eq]
  exact State.applyActions_keeps (by decide) (State.postVin_keeps _ _ (by decide) (State.flashHoldUp_keeps (by decide)
    (Keeps.refl (hshown.congr rfl rfl rfl))))

theorem State.vinFail_effect : s.vinFail.flag Reg.SUP_STATUS 2 = true ∧ s.vinFail.flag Reg.SUP_STATUS 3 = false ∧
    s.vinFail.fld Reg.SUP_VIN_FAIL_CNT 15 0 = min 0xFFFF (s.fld Reg.SUP_VIN_FAIL_CNT 15 0 + 1) ∧ s.vinFail.sup.vinLow = true ∧
    s.vinFail.sup.vinHold = true ∧ s.vinFail.sup.holdUp ≠ none ∧ ∀ m : Fin 24, s.vinFail.enable m = false := by
  obtain ⟨-, hfail, hgood, hcount⟩ := State.vinFailShown_effect h
  have k := State.vinFail_keeps_sup h
  have hreg := k.part (.block 7) (by decide)
  have hsup : s.vinFail.sup = s.vinFailShown.vinFailHeld.sup := k.part .sup (by decide)
  refine ⟨(State.flag_congr (hreg _ (by decide)) 2).trans hfail, (State.flag_congr (hreg _ (by decide)) 3).trans hgood,
    (State.fld_congr (hreg _ (by decide)) 15 0).trans hcount, by rw [hsup]; rfl, by rw [hsup]; rfl, ?_, fun m => ?_⟩
  · rw [hsup]
    exact Option.some_ne_none _
  · have hheld : s.vinFail.sup.enHold = true := by rw [hsup]; rfl
    simp [State.enable, hheld]

end VinFail

section Armed

variable {s : State} (hpower : s.dev.powered = true) (hrun : s.dev.inReset = false) (hon : s.pmc.state ≠ .off)
  (harmed : s.flag Reg.SUP_STATUS 4 = true)
include hpower hrun hon harmed

theorem exec_vinFailDecision_of_good (hgood : s.flag Reg.SUP_STATUS 3 = true) : exec .vinFailDecision s = .next s.vinFail :=
  congrArg Host.Outcome.next (if_pos (by simp [hpower, hrun, hon, harmed, hgood]))

theorem exec_vinGood_of_failed (hfailed : s.flag Reg.SUP_STATUS 3 = false) : exec .vinGood s = .next s.vinGood :=
  congrArg Host.Outcome.next (if_pos (by simp [hpower, hrun, hon, harmed, hfailed]))

end Armed

/-! ### VIN good (R221 (b)) -/

/-- VIN good shown. -/
def State.vinGoodShown (s : State) : State :=
  ((s.setFlag Reg.SUP_STATUS 2 false).setFlag Reg.SUP_STATUS 3 true).setFlag Reg.SUP_STATUS 5 false

/-- VIN good ends the holds of M0 and of the fans, and of the enables outside `VIN_DOWN`. -/
theorem State.vinGood_eq (s : State) : ∃ (p : Sup) (q : Seq), p.vinLow = false ∧ p.vinHold = false ∧
    s.vinGood = State.postVin { s.vinGoodShown with sup := p, seq := q } 4 0 := by
  unfold State.vinGood
  extract_lets shown p q u v
  by_cases hdown : u.seq.st = .vinDown
  · exact ⟨_, _, rfl, rfl, congrArg (State.postVin · 4 0) (if_pos hdown)⟩
  · exact ⟨_, _, rfl, rfl, congrArg (State.postVin · 4 0) (if_neg hdown)⟩

theorem State.vinGood_effect {s : State} (h : s.Stored) : s.vinGood.flag Reg.SUP_STATUS 2 = false ∧
    s.vinGood.flag Reg.SUP_STATUS 3 = true ∧ s.vinGood.flag Reg.SUP_STATUS 5 = false ∧ s.vinGood.sup.vinLow = false ∧
    s.vinGood.sup.vinHold = false := by
  obtain ⟨p, q, hlow, hhold, e⟩ := s.vinGood_eq
  have hfail := h.setFlag Reg.SUP_STATUS 2 false
  have hgood := hfail.setFlag Reg.SUP_STATUS 3 true
  have hreg : s.vinGood.reg Reg.SUP_STATUS = s.vinGoodShown.reg Reg.SUP_STATUS := by rw [e]; exact State.post_reg ..
  have hsup : s.vinGood.sup = p := by rw [e]; exact State.post_sup ..
  refine ⟨(State.flag_congr hreg 2).trans ?_, (State.flag_congr hreg 3).trans ?_,
    (State.flag_congr hreg 5).trans (State.flag_setFlag_self hgood _ _ (by decide)), hsup ▸ hlow, hsup ▸ hhold⟩
  · exact (State.flag_setFlag_other hgood _ (.inr (by decide))).trans ((State.flag_setFlag_other hfail _ (.inr (by decide))).trans
      (State.flag_setFlag_self h _ _ (by decide)))
  · exact (State.flag_setFlag_other hgood _ (.inr (by decide))).trans (State.flag_setFlag_self hfail _ _ (by decide))

/-! ### The end of the hold-up sequence (R224, R226) -/

/-- The record stands in the journal, and the hold-up sequence is over. -/
def State.recordWritten (s : State) (p : Time) (payload : List Byte) : State :=
  { (s.jrnWrite 3 (s.ptEst p) p payload).setFlag Reg.SUP_STATUS 5 true with sup.holdUp := none }

theorem State.recordWritten_effect {s : State} (h : s.Stored) (p : Time) (payload : List Byte) :
    (s.recordWritten p payload).Stored ∧ (s.recordWritten p payload).flag Reg.SUP_STATUS 5 = true ∧
    (s.recordWritten p payload).sup.holdUp = none := by
  have hwritten := (State.jrnWrite_keeps (K := 0) 3 (s.ptEst p) p payload (by decide) (Keeps.refl h)).stored
  exact ⟨(hwritten.setFlag Reg.SUP_STATUS 5 true).congr rfl rfl rfl, State.flag_setFlag_self hwritten _ _ (by decide), rfl⟩

section HoldUp

variable {s : State} {p : Time} {payload : List Byte} (hup : s.sup.holdUp = some (p, payload))
include hup

theorem State.recordComplete_of_holdUp (vinAbove : Bool) : s.recordComplete vinAbove =
    if vinAbove then (s.recordWritten p payload).wakeHoldUp.kickErases else (s.recordWritten p payload).powerDown := by
  unfold State.recordComplete
  rw [hup]
  rfl

theorem State.vholdCollapse_of_holdUp (vinAbove hvsel : Bool) : s.vholdCollapse vinAbove hvsel =
    if vinAbove then (s.cutRecord p payload).powerDown.coldStart Cause.por hvsel else (s.cutRecord p payload).powerDown := by
  unfold State.vholdCollapse
  rw [hup]

variable (h : s.Stored)
include h

/-- With VIN above 4.3 V operation continues. -/
theorem State.recordComplete_above : (s.recordComplete true).flag Reg.SUP_STATUS 5 = true ∧
    (s.recordComplete true).sup.holdUp = none := by
  obtain ⟨hwritten, hflag, hover⟩ := State.recordWritten_effect h p payload
  have k : Keeps supParts (s.recordWritten p payload) (s.recordComplete true) := by
    rw [State.recordComplete_of_holdUp hup, if_pos rfl]
    exact State.kickErases_keeps (by decide) (State.wakeHoldUp_keeps (by decide) (Keeps.refl hwritten))
  exact ⟨(State.flag_congr (k.part (.block 7) (by decide) _ (by decide)) 5).trans hflag,
    (congrArg Sup.holdUp (k.part .sup (by decide))).trans hover⟩

/-- With VIN below 4.3 V the controller stops. -/
theorem State.recordComplete_below : (s.recordComplete false).ResetTo 1 ∧ (s.recordComplete false).dev.powered = false := by
  rw [State.recordComplete_of_holdUp hup, if_neg Bool.false_ne_true]
  exact State.powerDown_resetTo (State.recordWritten_effect h p payload).1

theorem State.vholdCollapse_above (hvsel : Bool) : (s.vholdCollapse true hvsel).ResetTo 1 ∧
    (s.vholdCollapse true hvsel).flag Reg.DEV_STRAP 0 = hvsel := by
  have hcut := (State.cutRecord_keeps (K := 0) p payload (by decide) (Keeps.refl h)).stored
  have hdown := (State.powerDown_keeps (K := 0) (by decide) (Keeps.refl hcut)).stored
  obtain ⟨hreset, -, hstrap⟩ := State.coldStart_resetTo hdown (c := Cause.por) (by decide) hvsel
  rw [State.vholdCollapse_of_holdUp hup, if_pos rfl]
  exact ⟨hreset, hstrap⟩

theorem State.vholdCollapse_below (hvsel : Bool) : (s.vholdCollapse false hvsel).ResetTo 1 ∧
    (s.vholdCollapse false hvsel).dev.powered = false := by
  rw [State.vholdCollapse_of_holdUp hup, if_neg Bool.false_ne_true]
  exact State.powerDown_resetTo (State.cutRecord_keeps (K := 0) p payload (by decide) (Keeps.refl h)).stored

end HoldUp

end Sys2Proof.Machine
end

section
/-! SUPPORT. The commands of rail supervision, of the hold-up sequence and of the rail counters (08_rail_supervision.md). -/

namespace Sys2Proof.Machine

/-- What COUNTERS_CLEAR leaves: the named fields cleared, and the command waiting for its snapshot. -/
theorem State.countersCleared_effect {s : State} (h : s.Stored) (r : Req) (rails : BitVec 24) (c : Byte) :
    let t := ((s.take r 0x15).clearCounters rails c).readSnapped r { status := Status.OK }
    t.sup.waits = s.sup.waits ++ [(s.sup.snapNo, r, { status := Status.OK })] ∧
    (∀ n : Fin 24, ∀ e ∈ railCounterFields n, t.fld e.2.1 e.2.2.1 e.2.2.2 =
      if rails.getLsbD n && c.getLsbD e.1 then 0 else s.fld e.2.1 e.2.2.1 e.2.2.2) ∧
    t.fld Reg.SUP_VIN_FAIL_CNT 15 0 = if c.getLsbD 7 then 0 else s.fld Reg.SUP_VIN_FAIL_CNT 15 0 := by
  obtain ⟨l, e⟩ := s.take_eq r 0x15
  have htaken : ({ s with reqs := l } : State).Stored := h.congr rfl rfl rfl
  obtain ⟨hcleared, hrails, hvin⟩ := State.clearCounters_effect htaken rails c
  obtain ⟨hwaits, -, hreg⟩ := State.readSnapped_effect hcleared r { status := Status.OK }
  have hsup : (State.clearCounters { s with reqs := l } rails c).sup = s.sup :=
    (State.clearCounters_keeps (K := 2 ^ Part.sup.num) rails c (by decide) (Keeps.refl htaken)).part .sup (by decide)
  rw [e]
  refine ⟨by rw [hwaits, hsup], fun n f hf => ?_, (State.fld_congr (hreg _ (by decide) (by decide)) _ _).trans hvin⟩
  have haddr := railCounterFields_addr hf
  have hne : f.2.1 ≠ Reg.SUP_CNT_STATUS := by
    dsimp only [Reg.SUP_CNT_STATUS]
    omega
  exact (State.fld_congr (hreg _ (by omega) hne) _ _).trans (hrails n f hf)

/-- Settles O25: the row of each command, then what its operation leaves. -/
theorem supervisionCommands : Obligations.SupervisionCommands := by
  refine ⟨fun s h => ⟨fun x hruns => ⟨_, exec_adcMCycle_of_runs hruns x, State.adcCycle_effect h x⟩, ?crossing, ?supply, ?holdUp,
    ?snapshot⟩, fun s r rails h _ => ⟨?read, ?clear⟩⟩
  case crossing =>
    intro uv ov n hplan hrun hon _ hfree huse hgood hcross
    obtain ⟨hlatched, htripped⟩ := State.crossings_effect h hfree huse hgood hcross
    exact ⟨_, exec_comparatorCrossing_of_up hplan hrun hon uv ov, hlatched.flag, hlatched.node, hlatched.act, htripped,
      hlatched.enable⟩
  case supply =>
    intro hpower hrun hon harmed
    exact ⟨fun hgood => ⟨_, exec_vinFailDecision_of_good hpower hrun hon harmed hgood, State.vinFail_effect h⟩,
      fun hfailed => ⟨_, exec_vinGood_of_failed hpower hrun hon harmed hfailed, State.vinGood_effect h⟩⟩
  case holdUp =>
    intro hup
    obtain ⟨⟨p, payload⟩, hup⟩ := Option.ne_none_iff_exists'.mp hup
    exact ⟨⟨_, rfl, State.recordComplete_above hup h⟩, ⟨_, rfl, State.recordComplete_below hup h⟩,
      fun hv => ⟨_, rfl, State.vholdCollapse_above hup h hv⟩, fun hv => ⟨_, rfl, State.vholdCollapse_below hup h hv⟩⟩
  case snapshot =>
    intro hplan hawake hrun hage hchanged
    obtain ⟨hsup, hunchanged, -⟩ := State.snapshotTaken h 5
    exact ⟨_, exec_counterSnapshot_of_due hplan hawake hrun hage hchanged, (congrArg Sup.snapNo hsup).trans rfl, hunchanged⟩
  case read =>
    intro b flags hadmits hb
    refine ⟨fun hno => exec_countersRead_of_plain hadmits hb hno, fun hsnap => ?_⟩
    obtain ⟨l, e⟩ := s.take_eq r 0x14
    have htaken : ({ s with reqs := l } : State).Stored := h.congr rfl rfl rfl
    obtain ⟨hwaits, hunchanged, -⟩ := State.readSnapped_effect htaken r (structReply r b (s.countersBytes rails) [])
    exact ⟨_, exec_countersRead_of_snapshot hadmits hb hsnap, e ▸ hwaits, e ▸ hunchanged⟩
  case clear =>
    intro c hadmits hused hsome hrail
    exact ⟨_, exec_countersClear_of_admits hadmits hused hsome hrail, State.countersCleared_effect h r rails c⟩

end Sys2Proof.Machine
end

section
/-! SUPPORT. Battery protection (10_battery.md, R259 to R265): what a protection flag that sets or clears, a trip, a wake and a FET
fault leave. -/

namespace Sys2Proof.Machine

/-! ### Numbers, fields and records -/

theorem testBit_wfld (w : Word) (hi lo i : Nat) : (wfld w hi lo).testBit i = (decide (i < hi + 1 - lo) && bit w (lo + i)) := by
  unfold wfld bit
  rw [Nat.testBit_mod_two_pow, Nat.testBit_shiftRight, BitVec.testBit_toNat]

@[simp] theorem State.roundFrac_reg (s : State) (n d : Int) (x : Nat) : (s.roundFrac n d).1.reg x = s.reg x := by
  unfold State.roundFrac
  split <;> rfl

@[simp] theorem State.roundFrac_batt (s : State) (n d : Int) : (s.roundFrac n d).1.batt = s.batt := by
  unfold State.roundFrac
  split <;> rfl

@[simp] theorem State.roundFrac_time (s : State) (n d : Int) : (s.roundFrac n d).1.time = s.time := by
  unfold State.roundFrac
  split <;> rfl

@[simp] theorem State.roundFrac_pmc (s : State) (n d : Int) : (s.roundFrac n d).1.pmc = s.pmc := by
  unfold State.roundFrac
  split <;> rfl

theorem State.Stored.roundFrac {s : State} (h : s.Stored) (n d : Int) : (s.roundFrac n d).1.Stored :=
  (State.roundFrac_keeps (K := 0) n d (Nat.zero_and _) (Keeps.refl h)).stored

@[simp] theorem State.postBatt_reg (s : State) (kind detail : Nat) (a b : Int) (x : Nat) :
    (s.postBatt kind detail a b).reg x = s.reg x := State.post_reg ..

@[simp] theorem State.postBatt_batt (s : State) (kind detail : Nat) (a b : Int) : (s.postBatt kind detail a b).batt = s.batt :=
  State.post_batt ..

@[simp] theorem State.postBatt_hedge (s : State) (kind detail : Nat) (a b : Int) :
    (s.postBatt kind detail a b).hedge = s.hedge := State.post_hedge ..

@[simp] theorem State.postBatt_time (s : State) (kind detail : Nat) (a b : Int) : (s.postBatt kind detail a b).time = s.time :=
  State.post_time ..

@[simp] theorem State.postBatt_pmc (s : State) (kind detail : Nat) (a b : Int) : (s.postBatt kind detail a b).pmc = s.pmc :=
  State.post_pmc ..

theorem State.Stored.postBatt {s : State} (h : s.Stored) (kind detail : Nat) (a b : Int) : (s.postBatt kind detail a b).Stored :=
  h.congr (State.post_regs ..) (State.post_host ..) (State.post_flash ..)

/-! ### The battery's nodes (R16, R263, R264) -/

/-- The two nodes of the battery are driven and nothing else follows. -/
theorem State.setNode_of_battery (s : State) {n : Nat} (hlo : 75 < n) (hhi : n < 78) (b : Bool) :
    s.setNode n b = { s with hedge.nodes := setBit128 s.hedge.nodes n b } := by
  unfold State.setNode
  rw [if_neg (by simp [reservedNode]; omega)]
  exact if_neg (by simp; omega)

theorem State.node_setNode_of_battery (s : State) {n : Nat} (hlo : 75 < n) (hhi : n < 78) (b : Bool) :
    (s.setNode n b).node n = b := by
  rw [s.setNode_of_battery hlo hhi]
  exact (setBit128_getLsbD _ (by omega) b n).trans (if_pos rfl)

/-! ### One register kept -/

/-- The register at `a` stands. -/
structure State.RegAs (s t : State) (a : Nat) : Prop where
  stored : t.Stored
  reg : t.reg a = s.reg a

theorem State.RegAs.refl {s : State} (h : s.Stored) (a : Nat) : s.RegAs s a := ⟨h, rfl⟩

section RegAs

variable {s t : State} {a : Nat} (h : s.RegAs t a)
include h

theorem State.RegAs.congr {u : State} (hst : u.Stored) (hreg : u.reg a = t.reg a) : s.RegAs u a := ⟨hst, hreg.trans h.reg⟩

theorem State.RegAs.setReg {b : Nat} (hb : a ≠ b) (w : Word) : s.RegAs (t.setReg b w) a :=
  h.congr (h.stored.setReg _ _) (State.reg_setReg_other h.stored w hb)

theorem State.RegAs.setFld {b : Nat} (hb : a ≠ b) (hi lo v : Nat) : s.RegAs (t.setFld b hi lo v) a := h.setReg hb _

theorem State.RegAs.setFlag {b : Nat} (hb : a ≠ b) (i : Nat) (x : Bool) : s.RegAs (t.setFlag b i x) a := h.setReg hb _

theorem State.RegAs.setBatt (b : Batt) : s.RegAs (t.setBatt b) a := h.congr (h.stored.congr rfl rfl rfl) rfl

theorem State.RegAs.roundFrac (n d : Int) : s.RegAs (t.roundFrac n d).1 a :=
  h.congr (h.stored.roundFrac n d) (t.roundFrac_reg n d a)

end RegAs

/-! ### ALARM and node 76 (R263) -/

/-- Some protection flag is set that ALARM_MASK enables. -/
def State.alarmOn (s : State) : Bool := decide (s.prot &&& s.fld Reg.BATT_PROT_CFG 27 24 ≠ 0)

theorem State.alarmOn_congr {s t : State} (hprot : t.prot = s.prot) (hcfg : t.reg Reg.BATT_PROT_CFG = s.reg Reg.BATT_PROT_CFG) :
    t.alarmOn = s.alarmOn := by
  unfold State.alarmOn
  rw [hprot, State.fld_congr hcfg]

/-- A protection flag is its bit of the four. -/
theorem State.prot_testBit (s : State) {f : Nat} (hf : f < 4) : s.prot.testBit f = s.flag Reg.BATT_STATUS f := by
  unfold State.prot State.fld
  rw [testBit_wfld, decide_eq_true hf, Bool.true_and, Nat.zero_add]
  rfl

theorem State.battAlarm_eq (s : State) : s.battAlarm = { s.setFlag Reg.BATT_STATUS 6 s.alarmOn with
    hedge.nodes := setBit128 s.hedge.nodes 76 s.alarmOn } :=
  State.setNode_of_battery (s.setFlag Reg.BATT_STATUS 6 s.alarmOn) (by decide) (by decide) s.alarmOn

section BattAlarm

variable {s : State} (h : s.Stored)
include h

theorem State.battAlarm_stored : s.battAlarm.Stored := by
  rw [s.battAlarm_eq]
  exact (h.setFlag Reg.BATT_STATUS 6 s.alarmOn).congr rfl rfl rfl

theorem State.battAlarm_reg {x : Nat} (hx : x ≠ Reg.BATT_STATUS) : s.battAlarm.reg x = s.reg x := by
  rw [s.battAlarm_eq]
  exact State.reg_setReg_other h _ hx

theorem State.battAlarm_flag {j : Nat} (hj : j ≠ 6) : s.battAlarm.flag Reg.BATT_STATUS j = s.flag Reg.BATT_STATUS j := by
  rw [s.battAlarm_eq]
  exact State.flag_setFlag_other h _ (.inr hj)

theorem State.battAlarm_prot : s.battAlarm.prot = s.prot := by
  rw [s.battAlarm_eq]
  exact State.fld_setFld_other h _ (.inr (.inl (by decide)))

theorem State.battAlarm_node : s.battAlarm.node 76 = s.battAlarm.alarmOn := by
  rw [State.alarmOn_congr (State.battAlarm_prot h) (State.battAlarm_reg h (by decide)), s.battAlarm_eq]
  exact (setBit128_getLsbD _ (by decide) s.alarmOn 76).trans (if_pos rfl)

end BattAlarm

/-! ### A wake (R265, R276) -/

/-- The battery's state, the Hedge's and the battery's registers. -/
abbrev battParts : Nat := 2 ^ Part.batt.num + 2 ^ Part.hedge.num + 2 ^ (Part.block 8).num

theorem State.battWake_keeps_batt {s : State} (h : s.Stored) (letter : Nat) : Keeps battParts s (s.battWake letter) :=
  State.battWake_keeps letter (by decide) (Keeps.refl h)

/-- The record of a wake in a sleep: the condition, and the 1 s current in 10 mA. -/
def State.wakeRecorded (s : State) (letter : Nat) : State :=
  (s.roundFrac s.cur1s 10).1.postBatt 9 letter (s.roundFrac s.cur1s 10).2 0

theorem State.battWake_of_sleep {s : State} (h : s.inSleep = true ∨ s.inDeepSleep = true) (letter : Nat) :
    s.battWake letter = (s.wakeRecorded letter).wakeFire 0x09 letter := by
  unfold State.battWake
  rw [if_pos (by simpa using h)]
  rfl

theorem State.battWake_wokenBy {s : State} (hs : s.Stored) (h : s.inSleep = true ∨ s.inDeepSleep = true) (letter : Nat) :
    s.WokenBy (s.battWake letter) 0x09 letter := by
  have hpmc : (s.wakeRecorded letter).pmc = s.pmc := by simp [State.wakeRecorded]
  have hnow : (s.wakeRecorded letter).ptNow = s.ptNow :=
    State.ptNow_congr (by simp [State.wakeRecorded]) (by simp [State.wakeRecorded])
  have hsleep : (s.wakeRecorded letter).inSleep = true ∨ (s.wakeRecorded letter).inDeepSleep = true := by
    unfold State.inSleep State.inDeepSleep
    rwa [hpmc]
  rw [State.battWake_of_sleep h]
  exact (State.wakeFire_wokenBy ((hs.roundFrac _ _).postBatt _ _ _ _) hsleep (by decide) letter).of_start hpmc hnow

/-! ### A flag sets (R259, R261) -/

/-- Flag `f` and its count. -/
def State.protCounted (s : State) (f : Nat) : State :=
  let s := s.setFlag Reg.BATT_STATUS f true
  if f < 2 then s.inc Reg.BATT_PROT_CNT_A (16 * f + 15) (16 * f)
  else s.inc Reg.BATT_PROT_CNT_B (16 * (f - 2) + 15) (16 * (f - 2))

theorem State.protSet_eq (s : State) (f : Nat) (a b : Int) :
    s.protSet f a b = ((s.protCounted f).postBatt 1 (2 ^ f) a b).battAlarm.battWake 4 := rfl

section ProtSet

variable {s : State} (h : s.Stored) {f : Nat} (hlo : 2 ≤ f) (hhi : f < 4)
include h hlo hhi

/-- The count of a current flag is in BATT.PROT_CNT_B. -/
theorem State.protCounted_effect : (s.protCounted f).Stored ∧ (s.protCounted f).flag Reg.BATT_STATUS f = true ∧
    (s.protCounted f).reg Reg.BATT_PROT_CNT_B =
      satInc (s.reg Reg.BATT_PROT_CNT_B) (16 * (f - 2) + 15) (16 * (f - 2)) := by
  have hset := h.setFlag Reg.BATT_STATUS f true
  have e : s.protCounted f = (s.setFlag Reg.BATT_STATUS f true).inc Reg.BATT_PROT_CNT_B (16 * (f - 2) + 15) (16 * (f - 2)) :=
    if_neg (Nat.not_lt.mpr hlo)
  rw [e]
  refine ⟨hset.inc _ _ _, ?_, ?_⟩
  · exact (State.flag_congr (State.reg_setReg_other hset _ (by decide)) f).trans (State.flag_setFlag_self h _ _ (by omega))
  · rw [State.reg_inc hset, if_pos rfl, State.reg_setFlag h, if_neg (by decide)]

theorem State.protSet_effect (a b : Int) :
    (s.protSet f a b).flag Reg.BATT_STATUS f = true ∧
    (s.protSet f a b).reg Reg.BATT_PROT_CNT_B = satInc (s.reg Reg.BATT_PROT_CNT_B) (16 * (f - 2) + 15) (16 * (f - 2)) ∧
    (s.protSet f a b).node 76 = (s.protSet f a b).alarmOn := by
  obtain ⟨hcounted, hflag, hcnt⟩ := State.protCounted_effect h hlo hhi
  have hposted := hcounted.postBatt 1 (2 ^ f) a b
  have k := State.battWake_keeps_batt (State.battAlarm_stored hposted) 4
  have hreg : ∀ x, x / 4096 = 8 → (s.protSet f a b).reg x = ((s.protCounted f).postBatt 1 (2 ^ f) a b).battAlarm.reg x :=
    k.part (.block 8) (by decide)
  refine ⟨?_, ?_, ?_⟩
  · rw [State.flag_congr (hreg _ (by decide)), State.battAlarm_flag hposted (by omega),
      State.flag_congr (State.postBatt_reg _ _ _ _ _ _), hflag]
  · rw [hreg _ (by decide), State.battAlarm_reg hposted (by decide), State.postBatt_reg, hcnt]
  · rw [State.alarmOn_congr (State.fld_congr (hreg Reg.BATT_STATUS (by decide)) 3 0) (hreg _ (by decide))]
    exact (State.node_congr (k.part .hedge (by decide)) 76).trans (State.battAlarm_node hposted)

end ProtSet

/-! ### A trip (R261) -/

/-- The current of a trip: free while no shunt value is known. -/
def State.tripCurrent (s : State) (uv : Nat) : State × Int :=
  if s.rShunt = 0 then (s.draw, (s.freeVal : Int)) else s.roundFrac ((uv : Int) * 100) s.rShunt

/-- A trip counted toward RETRY_LOCK. -/
def State.tripNoted (s : State) : State :=
  let b := s.batt
  let n := b.trips + 1
  let first := b.tripPt.getD s.ptNow
  let s := s.setBatt { b with tripPt := some first, trips := n }
  if 3 ≤ n && (s.ptNow - first).toNat ≤ ms 60000 then s.setFlag Reg.BATT_STATUS 5 true else s

theorem State.trip_of_set {s : State} {f : Nat} (hset : s.prot.testBit f = true) (uv : Nat) : s.trip f uv = s := if_pos hset

theorem State.trip_of_clear {s : State} {f : Nat} (hclear : s.prot.testBit f = false) (uv : Nat) :
    s.trip f uv = (s.tripCurrent uv).1.tripNoted.protSet f (s.tripCurrent uv).2 0xFFFF :=
  if_neg (Bool.eq_false_iff.mp hclear)

theorem State.regAs_tripCurrent {s : State} (h : s.Stored) (uv : Nat) : s.RegAs (s.tripCurrent uv).1 Reg.BATT_PROT_CNT_B := by
  unfold State.tripCurrent
  split
  case isTrue => exact ⟨h.congr rfl rfl rfl, rfl⟩
  case isFalse => exact (State.RegAs.refl h _).roundFrac _ _

theorem State.RegAs.tripNoted {s t : State} (h : s.RegAs t Reg.BATT_PROT_CNT_B) : s.RegAs t.tripNoted Reg.BATT_PROT_CNT_B := by
  unfold State.tripNoted
  dsimp only
  split
  case isTrue => exact (h.setBatt _).setFlag (by decide) _ _
  case isFalse => exact h.setBatt _

theorem State.trip_effect {s : State} (h : s.Stored) {f : Nat} (hlo : 2 ≤ f) (hhi : f < 4)
    (hclear : s.flag Reg.BATT_STATUS f = false) (uv : Nat) :
    (s.trip f uv).flag Reg.BATT_STATUS f = true ∧
    (s.trip f uv).reg Reg.BATT_PROT_CNT_B = satInc (s.reg Reg.BATT_PROT_CNT_B) (16 * (f - 2) + 15) (16 * (f - 2)) ∧
    (s.trip f uv).node 76 = (s.trip f uv).alarmOn := by
  obtain ⟨hst, hcnt⟩ := (State.regAs_tripCurrent h uv).tripNoted
  rw [State.trip_of_clear ((s.prot_testBit hhi).trans hclear), ← hcnt]
  exact State.protSet_effect hst hlo hhi _ _

/-! ### Flags clear (R260, R261) -/

/-- A mask taken away from the four flags. -/
theorem testBit_sub_and {p m f : Nat} (hp : p < 16) (hm : m < 16) (hf : f < 4) :
    (p - (p &&& m)).testBit f = (p.testBit f && !m.testBit f) := by
  have key : ∀ p m : Fin 16, ∀ f : Fin 4, (p.val - (p.val &&& m.val)).testBit f = (p.val.testBit f && !m.val.testBit f) := by
    decide
  exact key ⟨p, hp⟩ ⟨m, hm⟩ ⟨f, hf⟩

section ProtClear

variable {s : State} (h : s.Stored) (m : Nat) (a : Int)
include h

theorem State.protClear_stored : (s.protClear m a).Stored :=
  (State.protClear_keeps (K := 0) m a (Nat.zero_and _) (Keeps.refl h)).stored

theorem State.protClear_prot : (s.protClear m a).prot = s.prot - (s.prot &&& m) := by
  unfold State.protClear
  dsimp only
  split
  case isTrue none => rw [none, Nat.sub_zero]
  case isFalse some =>
    have hset := h.setFld Reg.BATT_STATUS 3 0 (s.prot - (s.prot &&& m))
    have hlt : s.prot < 2 ^ 4 := wfld_lt _ 3 0
    rw [State.battAlarm_prot (hset.postBatt _ _ _ _), State.prot, State.fld_congr (State.postBatt_reg _ _ _ _ _ _),
      State.fld_setFld_self h _ _ (by decide) (by decide)]
    exact Nat.mod_eq_of_lt (by omega)

theorem State.protClear_flag {f : Nat} (hm : m < 16) (hf : f < 4) :
    (s.protClear m a).flag Reg.BATT_STATUS f = (s.flag Reg.BATT_STATUS f && !m.testBit f) := by
  rw [← State.prot_testBit _ hf, ← State.prot_testBit _ hf, State.protClear_prot h]
  exact testBit_sub_and (wfld_lt _ 3 0) hm hf

/-- The flags of BATT.STATUS above the protection flags and ALARM. -/
theorem State.protClear_flag_above {j : Nat} (hj : 6 < j) :
    (s.protClear m a).flag Reg.BATT_STATUS j = s.flag Reg.BATT_STATUS j := by
  unfold State.protClear
  dsimp only
  split
  case isTrue none => rfl
  case isFalse some =>
    have hset := h.setFld Reg.BATT_STATUS 3 0 (s.prot - (s.prot &&& m))
    rw [State.battAlarm_flag (hset.postBatt _ _ _ _) (by omega), State.flag_congr (State.postBatt_reg _ _ _ _ _ _)]
    exact State.flag_setFld_other h _ (.inr (.inr (by omega)))

theorem State.clearTrips_effect : (s.clearTrips a).flag Reg.BATT_STATUS 2 = false ∧
    (s.clearTrips a).flag Reg.BATT_STATUS 3 = false ∧
    (s.clearTrips a).flag Reg.BATT_STATUS 5 = false ∧
    (s.clearTrips a).flag Reg.BATT_STATUS 14 = s.flag Reg.BATT_STATUS 14 := by
  have hforgotten : ((s.protClear 12 a).setBatt { (s.protClear 12 a).batt with tripPt := none, trips := 0 }).Stored :=
    (State.protClear_stored h 12 a).congr rfl rfl rfl
  have hother : ∀ j, j ≠ 5 → (s.clearTrips a).flag Reg.BATT_STATUS j = (s.protClear 12 a).flag Reg.BATT_STATUS j :=
    fun j hj => State.flag_setFlag_other hforgotten _ (.inr hj)
  refine ⟨?_, ?_, State.flag_setFlag_self hforgotten _ _ (by decide), ?_⟩
  · rw [hother 2 (by decide), State.protClear_flag h 12 a (by decide) (by decide)]
    exact Bool.and_false _
  · rw [hother 3 (by decide), State.protClear_flag h 12 a (by decide) (by decide)]
    exact Bool.and_false _
  · rw [hother 14 (by decide), State.protClear_flag_above h 12 a (by decide)]

end ProtClear

/-! ### FET faults (R264) -/

theorem fetIdx_lt (k : FetFault) : fetIdx k < 32 := by
  cases k <;> decide

/-- A kind latched, with the flag that sums the kinds up and node 77. -/
def State.fetLatched (s : State) (k : FetFault) : State :=
  ((s.setFlag Reg.BATT_FET_FAULT (fetIdx k) true).setFlag Reg.BATT_STATUS 7 true).setNode 77 true

theorem State.fetFault_of_set {s : State} {k : FetFault} (h : s.flag Reg.BATT_FET_FAULT (fetIdx k) = true) : s.fetFault k = s :=
  if_pos h

theorem State.fetFault_of_clear {s : State} {k : FetFault} (h : s.flag Reg.BATT_FET_FAULT (fetIdx k) = false) :
    s.fetFault k = (s.fetLatched k).postBatt 3 ((s.fetLatched k).fld Reg.BATT_FET_FAULT 4 0) 0 0 :=
  if_neg (Bool.eq_false_iff.mp h)

theorem State.fetFault_effect {s : State} (h : s.Stored) (k : FetFault) :
    (s.fetFault k).flag Reg.BATT_FET_FAULT (fetIdx k) = true ∧
      (s.flag Reg.BATT_FET_FAULT (fetIdx k) = false → (s.fetFault k).node 77 = true) := by
  cases hk : s.flag Reg.BATT_FET_FAULT (fetIdx k) with
  | true => exact ⟨(congrArg (State.flag · _ _) (State.fetFault_of_set hk)).trans hk, nofun⟩
  | false =>
    rw [State.fetFault_of_clear hk]
    refine ⟨?_, fun _ => ?_⟩
    · rw [State.flag_congr (State.postBatt_reg _ _ _ _ _ _), State.fetLatched, State.setNode_of_battery _ (by decide) (by decide)]
      exact (State.flag_setFlag_other (h.setFlag _ _ _) _ (.inl (by decide))).trans
        (State.flag_setFlag_self h _ _ (fetIdx_lt k))
    · exact (State.node_congr (State.postBatt_hedge ..) 77).trans (State.node_setNode_of_battery _ (by decide) (by decide) _)

@[simp] theorem State.fetFault_batt (s : State) (k : FetFault) : (s.fetFault k).batt = s.batt := by
  cases hk : s.flag Reg.BATT_FET_FAULT (fetIdx k) with
  | true => rw [State.fetFault_of_set hk]
  | false =>
    rw [State.fetFault_of_clear hk, State.postBatt_batt, State.fetLatched, State.setNode_of_battery _ (by decide) (by decide)]
    rfl

end Sys2Proof.Machine
end

section
/-! SUPPORT. The gauge (10_battery.md, R255, R256, R264, R267 to R275): where the charge of a current window goes, what a second of
the gauge and a snapshot leave, and the learned state of a new pack (R278). -/

namespace Sys2Proof.Machine

/-! ### A current window (R255) -/

/-- A signed charge counted up and down is the charge added. -/
theorem add_ofInt_chg (a : BitVec 64) (q : Int) :
    a + BitVec.ofNat 64 (ChgQ.ofInt q).chg - BitVec.ofNat 64 (ChgQ.ofInt q).dsg = a + BitVec.ofInt 64 q := by
  unfold ChgQ.ofInt
  split
  case isTrue neg =>
    obtain ⟨n, rfl⟩ : ∃ n : Nat, q = -n := ⟨q.natAbs, by omega⟩
    simp [BitVec.ofInt_neg, BitVec.sub_eq_add_neg]
  case isFalse nonneg =>
    obtain ⟨n, rfl⟩ := Int.eq_ofNat_of_zero_le (Int.not_lt.mp nonneg)
    simp

/-- The charge counted and the part of a µC not yet counted stand. -/
structure Batt.ChargeAs (b b' : Batt) : Prop where
  rem : b'.rem = b.rem
  acc : b'.acc = b.acc

theorem State.relief_charge (s : State) : s.batt.ChargeAs s.relief.batt := ⟨rfl, rfl⟩

theorem State.fetFaultIf_batt (s : State) (due : Bool) (k : FetFault) :
    (if due then s.fetFault k else s : State).batt = s.batt := by
  split
  case isTrue => exact s.fetFault_batt k
  case isFalse => rfl

theorem State.leaks_charge (s : State) : s.batt.ChargeAs s.leaks.batt := by
  unfold State.leaks
  extract_lets lim now d c b u due v
  have hv : v.batt = u.batt := u.fetFaultIf_batt _ _
  rw [State.fetFaultIf_batt, hv]
  exact ⟨rfl, rfl⟩

theorem State.countWindow_rem (s : State) (q : ChgQ) : (s.countWindow q).batt.rem = s.batt.rem := by
  unfold State.countWindow
  split <;> rfl

theorem State.countWindow_acc_of_xo {s : State} (h : s.time.src = .xo) (q : Int) :
    (s.countWindow (ChgQ.ofInt q)).batt.acc = s.batt.acc + BitVec.ofInt 64 q := by
  unfold State.countWindow
  rw [h]
  exact add_ofInt_chg _ _

/-- The mean current of a window is shown and summed, and what is left of its charge kept. -/
def State.windowMeant (s : State) (nv : Int) : State :=
  let r : Int := s.rShunt
  let i := (s.roundFrac nv r).2
  let s := (s.roundFrac nv r).1.setReg Reg.BATT_CURRENT (BitVec.ofNat 32 (ofSint 32 i))
  s.setBatt { s.batt with rem := (s.batt.rem + nv) % r, secSum := s.batt.secSum + i, secN := s.batt.secN + 1 }

theorem State.window_of_noShunt {s : State} (h : s.rShunt = 0) (nv : Int) :
    s.window nv = (s.setReg Reg.BATT_CURRENT (BitVec.ofNat 32 s.freeVal)).draw := if_pos h

theorem State.window_of_shunt {s : State} (h : s.rShunt ≠ 0) (nv : Int) :
    s.window nv = ((s.windowMeant nv).countWindow (ChgQ.ofInt ((s.batt.rem + nv) / (s.rShunt : Int)))).relief.leaks := by
  conv_rhs => rw [← State.roundFrac_batt s nv s.rShunt]
  exact if_neg h

theorem State.window_effect {s : State} (h : s.rShunt ≠ 0) (nv : Int) :
    (s.window nv).batt.rem = (s.batt.rem + nv) % (s.rShunt : Int) ∧ (s.time.src = .xo →
      (s.window nv).batt.acc = s.batt.acc + BitVec.ofInt 64 ((s.batt.rem + nv) / (s.rShunt : Int))) := by
  obtain ⟨hleakRem, hleakAcc⟩ := State.leaks_charge
    ((s.windowMeant nv).countWindow (ChgQ.ofInt ((s.batt.rem + nv) / (s.rShunt : Int)))).relief
  obtain ⟨hreliefRem, hreliefAcc⟩ := State.relief_charge
    ((s.windowMeant nv).countWindow (ChgQ.ofInt ((s.batt.rem + nv) / (s.rShunt : Int))))
  rw [State.window_of_shunt h, hleakRem, hleakAcc, hreliefRem, hreliefAcc, State.countWindow_rem]
  refine ⟨?_, fun hxo => ?_⟩
  · show (((s.roundFrac nv s.rShunt).1.batt.rem + nv) % (s.rShunt : Int)) = _
    rw [State.roundFrac_batt]
  · have hsrc : (s.windowMeant nv).time.src = .xo := (congrArg TimeBase.src (State.roundFrac_time ..)).trans hxo
    rw [State.countWindow_acc_of_xo hsrc]
    show (s.roundFrac nv s.rShunt).1.batt.acc + _ = _
    rw [State.roundFrac_batt]

/-! ### A snapshot (R273) -/

theorem State.gaugeSnap_eq (s : State) : ∃ l, s.gaugeSnap = (s.journal 0x09 l).setBatt { (s.journal 0x09 l).batt with
    snapSoc := (s.journal 0x09 l).socNow, sinceSnap := s.batt.win, snapsPosted := s.batt.snapsPosted + 1 } := ⟨_, rfl⟩

@[simp] theorem State.gaugeSnap_batt (s : State) : s.gaugeSnap.batt = { s.batt with
    snapSoc := s.socNow, sinceSnap := s.batt.win, snapsPosted := s.batt.snapsPosted + 1 } := by
  obtain ⟨l, e⟩ := s.gaugeSnap_eq
  have hsoc : (s.journal 0x09 l).socNow = s.socNow := State.fld_congr (State.journal_reg ..) 15 0
  rw [e, hsoc, State.journal_batt]
  rfl

@[simp] theorem State.gaugeSnap_reg (s : State) (x : Nat) : s.gaugeSnap.reg x = s.reg x := by
  obtain ⟨l, e⟩ := s.gaugeSnap_eq
  rw [e]
  exact State.journal_reg ..

/-! ### ESTIMATED (R256, R274) -/

/-- A candidate is forbidden, and the flag set. -/
def State.estimatedSet (s : State) : State :=
  (s.setBatt { s.batt with blocked := true }).setFlag Reg.BATT_GAUGE_STATUS 1 true

theorem State.setEstimated_eq (s : State) (detail : Nat) :
    s.setEstimated detail = if detail = 0 then s.estimatedSet else s.estimatedSet.postBatt 8 detail 0 0 := rfl

@[simp] theorem State.setEstimated_batt (s : State) (detail : Nat) :
    (s.setEstimated detail).batt = { s.batt with blocked := true } := by
  rw [State.setEstimated_eq]
  split
  case isTrue => rfl
  case isFalse => exact State.postBatt_batt ..

theorem State.setEstimated_flag {s : State} (h : s.Stored) (detail : Nat) :
    (s.setEstimated detail).flag Reg.BATT_GAUGE_STATUS 1 = true := by
  have hset : s.estimatedSet.flag Reg.BATT_GAUGE_STATUS 1 = true :=
    State.flag_setFlag_self (s := s.setBatt { s.batt with blocked := true }) (h.congr rfl rfl rfl) _ _ (by decide)
  rw [State.setEstimated_eq]
  split
  case isTrue => exact hset
  case isFalse => exact (State.flag_congr (State.postBatt_reg ..) 1).trans hset

theorem State.RegAs.setEstimated {s t : State} {a : Nat} (h : s.RegAs t a) (ha : a ≠ Reg.BATT_GAUGE_STATUS) (detail : Nat) :
    s.RegAs (t.setEstimated detail) a := by
  have hset : s.RegAs t.estimatedSet a := (h.setBatt _).setFlag ha _ _
  rw [State.setEstimated_eq]
  split
  case isTrue => exact hset
  case isFalse => exact hset.congr (hset.stored.postBatt ..) (State.postBatt_reg ..)

/-! ### A second of the gauge (R255, R256, R268, R271) -/

/-- The charge of the gauge's window goes to SoC, the totals and the cycles, and leaves the present second's windows. -/
theorem State.applyWindow_eq (s : State) : ∃ (b : Batt) (dsg chg n : Nat), s.applyWindow =
    ((((s.setBatt b).setReg Reg.BATT_Q_DSG (BitVec.ofNat 32 dsg)).setReg Reg.BATT_Q_CHG (BitVec.ofNat 32 chg)).incBy
      Reg.BATT_TTE 31 16 n).showSoc ∧ b.secSum = s.batt.secSum ∧ b.secN = s.batt.secN := ⟨_, _, _, _, rfl, rfl, rfl⟩

/-- The sum and the number of the windows of the present second stand. -/
structure State.SecondAs (s t : State) : Prop where
  stored : t.Stored
  secSum : t.batt.secSum = s.batt.secSum
  secN : t.batt.secN = s.batt.secN

theorem State.SecondAs.refl {s : State} (h : s.Stored) : s.SecondAs s := ⟨h, rfl, rfl⟩

section SecondAs

variable {s t : State} (h : s.SecondAs t)
include h

theorem State.SecondAs.keeps {u : State} (k : Keeps (2 ^ Part.batt.num) t u) : s.SecondAs u :=
  have hbatt : u.batt = t.batt := k.part .batt (by decide)
  ⟨k.stored, hbatt ▸ h.secSum, hbatt ▸ h.secN⟩

theorem State.SecondAs.setBatt {b : Batt} (hsum : b.secSum = t.batt.secSum := by exact rfl)
    (hn : b.secN = t.batt.secN := by exact rfl) : s.SecondAs (t.setBatt b) :=
  ⟨h.stored.congr rfl rfl rfl, hsum.trans h.secSum, hn.trans h.secN⟩

theorem State.SecondAs.setReg (a : Nat) (w : Word) : s.SecondAs (t.setReg a w) := ⟨h.stored.setReg _ _, h.secSum, h.secN⟩

theorem State.SecondAs.ite {u : State} {c : Prop} [Decidable c] (hu : s.SecondAs u) : s.SecondAs (if c then t else u) := by
  split
  case isTrue => exact h
  case isFalse => exact hu

theorem State.SecondAs.postBatt (kind detail : Nat) (a b : Int) : s.SecondAs (t.postBatt kind detail a b) :=
  h.keeps (State.postBatt_keeps kind detail a b (by decide) (Keeps.refl h.stored))

theorem State.SecondAs.restSecond : s.SecondAs t.restSecond := (h.setBatt.setReg _ _).setReg _ _

theorem State.SecondAs.average : s.SecondAs t.average := h.setBatt

theorem State.SecondAs.applyWindow : s.SecondAs t.applyWindow := by
  obtain ⟨b, dsg, chg, n, e, hsum, hn⟩ := t.applyWindow_eq
  have htotals := ((h.setBatt hsum hn).setReg Reg.BATT_Q_DSG (BitVec.ofNat 32 dsg)).setReg Reg.BATT_Q_CHG (BitVec.ofNat 32 chg)
  have hcycles : s.SecondAs (State.incBy _ Reg.BATT_TTE 31 16 n) := htotals.setReg _ _
  rw [e]
  exact hcycles.keeps (State.showSoc_keeps (by decide) (Keeps.refl hcycles.stored))

theorem State.SecondAs.showRest : s.SecondAs t.showRest :=
  h.keeps (State.showRest_keeps (by decide) (Keeps.refl h.stored))

theorem State.SecondAs.gaugeSnap : s.SecondAs t.gaugeSnap := by
  obtain ⟨l, e⟩ := t.gaugeSnap_eq
  rw [e]
  exact (h.keeps (State.journal_keeps 0x09 l (by decide) (Keeps.refl h.stored))).setBatt

theorem State.SecondAs.socSteps : s.SecondAs t.socSteps := by
  unfold State.socSteps
  extract_lets soc far step b u
  have hu : s.SecondAs u := (h.setBatt.postBatt _ _ _ _).ite h
  exact hu.gaugeSnap.ite hu

theorem State.SecondAs.gaugeReport : s.SecondAs t.gaugeReport := h.applyWindow.showRest.socSteps

theorem State.SecondAs.setEstimated (detail : Nat) : s.SecondAs (t.setEstimated detail) := by
  have hset : s.SecondAs t.estimatedSet := h.setBatt.setReg _ _
  rw [State.setEstimated_eq]
  exact hset.ite (hset.postBatt _ _ _ _)

theorem State.SecondAs.scaleQ (q : ChgQ) (n d : Int) : s.SecondAs (t.scaleQ q n d).1 :=
  h.keeps (State.scaleQ_keeps q n d (by decide) (Keeps.refl h.stored))

theorem State.SecondAs.applyRaw (ppm : Int) : s.SecondAs (t.applyRaw ppm) :=
  (h.scaleQ t.batt.raw (1000000 + t.batt.gain) (1000000 + ppm)).setBatt.setBatt

theorem State.SecondAs.rawSecond : s.SecondAs t.rawSecond :=
  (h.applyRaw 0).gaugeReport.ite ((h.applyRaw 0).setBatt.setEstimated 3).gaugeReport

end SecondAs

/-- The mean of the second's windows, 0 where there is none. -/
def State.secondMean (s : State) : State × Int :=
  if s.batt.secN = 0 then (s, (0 : Int)) else s.roundFrac s.batt.secSum s.batt.secN

theorem State.oneSecond_eq (s : State) : s.oneSecond =
    (s.secondMean.1.setReg Reg.BATT_CURRENT_1S (BitVec.ofNat 32 (ofSint 32 s.secondMean.2))).setBatt
      { s.secondMean.1.batt with secSum := 0, secN := 0 } := rfl

theorem State.oneSecond_stored {s : State} (h : s.Stored) : s.oneSecond.Stored :=
  (State.oneSecond_keeps (K := 0) (Nat.zero_and _) (Keeps.refl h)).stored

theorem State.gaugeSecond_secondAs {s : State} (h : s.Stored) : s.oneSecond.SecondAs s.gaugeSecond := by
  have hrest := (State.SecondAs.refl (State.oneSecond_stored h)).restSecond
  exact hrest.ite (hrest.average.rawSecond.ite (hrest.average.gaugeReport.ite hrest.average))

theorem State.gaugeSecond_effect {s : State} (h : s.Stored) : s.gaugeSecond.batt.secSum = 0 ∧ s.gaugeSecond.batt.secN = 0 := by
  obtain ⟨-, hsum, hn⟩ := State.gaugeSecond_secondAs h
  exact ⟨hsum.trans (congrArg (fun t : State => t.batt.secSum) s.oneSecond_eq),
    hn.trans (congrArg (fun t : State => t.batt.secN) s.oneSecond_eq)⟩

/-! ### The end of a cold start's rest window (R274) -/

/-- The 60 s are over: a correction at the next sweep falls due unless the pack has not rested. -/
def State.coldEnded (s : State) : State :=
  s.setBatt { s.batt with cold := false, coldCells := none, coldBroken := false, ocvCold := !s.batt.coldBroken }

theorem exec_coldStartRestWindow_of_cold {s : State} (hcold : s.batt.cold = true) (hawake : s.asleep = false) :
    exec .coldStartRestWindow s = .next (if s.batt.coldBroken then s.coldEnded.setEstimated 1 else s.coldEnded) :=
  congrArg Host.Outcome.next (if_pos (by rw [hcold, hawake]; rfl))

theorem State.coldEnded_effect {s : State} (h : s.Stored) :
    let t := if s.batt.coldBroken then s.coldEnded.setEstimated 1 else s.coldEnded
    t.batt.cold = false ∧ t.batt.ocvCold = !s.batt.coldBroken ∧
      (s.batt.coldBroken = true → t.flag Reg.BATT_GAUGE_STATUS 1 = true) := by
  have hended : s.coldEnded.Stored := h.congr rfl rfl rfl
  dsimp only
  split
  case isTrue broken =>
    rw [State.setEstimated_batt]
    exact ⟨rfl, rfl, fun _ => State.setEstimated_flag hended 1⟩
  case isFalse rested => exact ⟨rfl, rfl, fun broken => (rested broken).elim⟩

/-! ### A new pack (R278) -/

/-- SoH of a full charge capacity, in 0.01 %; 0 where the Plan gives no design capacity. -/
def State.soh (s : State) (fcc : Nat) : State × Int :=
  if s.designCap = 0 then (s, (0 : Int)) else s.roundFrac ((fcc : Int) * 10000) s.designCap

theorem State.setFcc_eq (s : State) (fcc : Nat) : s.setFcc fcc =
    (((s.setFld Reg.BATT_CAP_NOW 31 16 fcc).soh fcc).1.setFld Reg.BATT_SOC 31 16
      (min ((s.setFld Reg.BATT_CAP_NOW 31 16 fcc).soh fcc).2.toNat 11000)).setSoc s.socNow := rfl

theorem State.setFcc_regAs {s : State} (h : s.Stored) (fcc : Nat) :
    (s.setFld Reg.BATT_CAP_NOW 31 16 fcc).RegAs (s.setFcc fcc) Reg.BATT_CAP_NOW := by
  have hset := State.RegAs.refl (h.setFld Reg.BATT_CAP_NOW 31 16 fcc) Reg.BATT_CAP_NOW
  have hsoh : (s.setFld Reg.BATT_CAP_NOW 31 16 fcc).RegAs ((s.setFld Reg.BATT_CAP_NOW 31 16 fcc).soh fcc).1 Reg.BATT_CAP_NOW := by
    unfold State.soh
    split
    case isTrue => exact hset
    case isFalse => exact hset.roundFrac _ _
  rw [State.setFcc_eq]
  exact ((hsoh.setFld (by decide) _ _ _).setBatt _).setFld (by decide) _ _ _

/-- FCC is the design capacity once the learned state is that of a new pack. -/
theorem State.newPack_fcc {s : State} (h : s.Stored) : s.newPack.Stored ∧ s.newPack.fcc = s.designCap := by
  let b := s.batt
  have hreset : (s.setBatt { b with thr := 0, dsgRem := 0, chgRem := 0, anchor := none, ocvPack := true, balMs := 0 }).Stored :=
    h.congr rfl rfl rfl
  have hfcc := State.setFcc_regAs hreset s.designCap
  have hshown := (hfcc.setFld (b := Reg.BATT_SOC) (by decide) 31 16 10000).setFld (b := Reg.BATT_TTE) (by decide) 31 16 0
  have htotals := (hshown.setReg (b := Reg.BATT_Q_DSG) (by decide) 0).setReg (b := Reg.BATT_Q_CHG) (by decide) 0
  have hflags := (htotals.setFlag (b := Reg.BATT_GAUGE_STATUS) (by decide) 2 true).setFlag (b := Reg.BATT_GAUGE_STATUS)
    (by decide) 0 true
  obtain ⟨hst, hcap⟩ := hflags.setEstimated (by decide) 0
  refine ⟨hst, (State.fld_congr hcap 31 16).trans ?_⟩
  rw [State.fld_setFld_self hreset _ _ (by decide) (by decide)]
  exact Nat.mod_eq_of_lt (wfld_lt _ 15 0)

/-- The identity that a new pack shows. -/
def State.idShown (s : State) (id : Nat) : State :=
  ((s.newPack.setReg Reg.BATT_ID_LO (BitVec.ofNat 32 id)).setReg Reg.BATT_ID_HI (BitVec.ofNat 32 (id / 2 ^ 32)))

theorem State.retainId_eq (s : State) (id kind : Nat) : ∃ old, s.retainId id kind =
    (((s.idShown id).setBatt { (s.idShown id).batt with idKnown := true }).postPack kind id old).gaugeSnap := ⟨_, rfl⟩

@[simp] theorem State.postPack_reg (s : State) (kind new old x : Nat) : (s.postPack kind new old).reg x = s.reg x :=
  State.post_reg ..

@[simp] theorem State.postPack_batt (s : State) (kind new old : Nat) : (s.postPack kind new old).batt = s.batt :=
  State.post_batt ..

theorem State.retainId_reg (s : State) (id kind x : Nat) : (s.retainId id kind).reg x = (s.idShown id).reg x := by
  obtain ⟨old, e⟩ := s.retainId_eq id kind
  rw [e, State.gaugeSnap_reg, State.postPack_reg]
  rfl

theorem ofNat_div_eq_shift (v : BitVec 64) : BitVec.ofNat 32 (v.toNat / 2 ^ 32) = (v >>> 32).setWidth 32 := by
  apply BitVec.eq_of_toNat_eq
  rw [BitVec.toNat_ofNat, BitVec.toNat_setWidth, BitVec.toNat_ushiftRight, Nat.shiftRight_eq_div_pow]

theorem State.retainId_effect {s : State} (h : s.Stored) (v : BitVec 64) (kind : Nat) :
    (s.retainId v.toNat kind).reg Reg.BATT_ID_LO = v.setWidth 32 ∧
    (s.retainId v.toNat kind).reg Reg.BATT_ID_HI = (v >>> 32).setWidth 32 ∧
    (s.retainId v.toNat kind).batt.idKnown = true ∧ (s.retainId v.toNat kind).fcc = s.designCap := by
  obtain ⟨hst, hfcc⟩ := State.newPack_fcc h
  have hlow := hst.setReg Reg.BATT_ID_LO (BitVec.ofNat 32 v.toNat)
  refine ⟨?_, ?_, ?_, ?_⟩
  · rw [State.retainId_reg]
    refine (State.reg_setReg_other hlow _ (by decide)).trans ((State.reg_setReg_self hst _ _).trans ?_)
    exact BitVec.ofNat_toNat 32 v
  · rw [State.retainId_reg]
    exact (State.reg_setReg_self hlow _ _).trans (ofNat_div_eq_shift v)
  · obtain ⟨old, e⟩ := s.retainId_eq v.toNat kind
    rw [e, State.gaugeSnap_batt, State.postPack_batt]
    rfl
  · refine (State.fld_congr (s := s.newPack) ?_ 31 16).trans hfcc
    rw [State.retainId_reg]
    exact (State.reg_setReg_other hlow _ (by decide)).trans (State.reg_setReg_other hst _ (by decide))

/-! ### An identity read (R277, R278) -/

theorem State.idRead_of_failed {s : State} {id : Option (BitVec 64)} (h : s.idGood id = none) :
    s.idRead id = (s.setEstimated 2).postPack 2 s.packId s.packId := by
  simp only [State.idRead, h]

theorem State.idGood_of_blank {s : State} (hserial : s.fld Reg.BATT_CFG 17 16 = 2) {v : BitVec 64}
    (hv : v = 0 ∨ v = BitVec.allOnes 64) : s.idGood (some v) = none := by
  rcases hv with rfl | rfl <;> simp [State.idGood, hserial]

theorem State.idGood_of_read {s : State} {v : BitVec 64}
    (hv : s.fld Reg.BATT_CFG 17 16 = 2 → v ≠ 0 ∧ v ≠ BitVec.allOnes 64) : s.idGood (some v) = some v := by
  by_cases hserial : s.fld Reg.BATT_CFG 17 16 = 2
  · obtain ⟨hzero, hones⟩ := hv hserial
    simpa [State.idGood, Option.filter] using fun _ => And.intro hzero hones
  · simp [State.idGood, Option.filter, hserial]

section IdRead

variable {s : State} {v : BitVec 64} (hv : s.fld Reg.BATT_CFG 17 16 = 2 → v ≠ 0 ∧ v ≠ BitVec.allOnes 64)
include hv

theorem State.idRead_of_same (hknown : s.batt.idKnown = true) (hsame : s.idMatches v.toNat = true) : s.idRead (some v) = s := by
  unfold State.idRead
  rw [State.idGood_of_read hv]
  simp [hknown, hsame]

theorem State.idRead_of_new (hnew : s.batt.idKnown = false ∨ s.idMatches v.toNat = false) :
    ∃ kind, s.idRead (some v) = s.retainId v.toNat kind := by
  unfold State.idRead
  rw [State.idGood_of_read hv]
  cases hknown : s.batt.idKnown with
  | false => exact ⟨0, rfl⟩
  | true =>
    have hdiffers : s.idMatches v.toNat = false := hnew.resolve_left (Bool.eq_false_iff.not_left.mpr hknown)
    exact ⟨1, by simp [hdiffers]⟩

end IdRead

theorem State.idFailed_effect {s : State} (h : s.Stored) {id : Option (BitVec 64)} (hfailed : s.idGood id = none) :
    (s.idRead id).flag Reg.BATT_GAUGE_STATUS 1 = true ∧ (s.idRead id).batt.idKnown = s.batt.idKnown := by
  rw [State.idRead_of_failed hfailed, State.postPack_batt, State.setEstimated_batt]
  exact ⟨(State.flag_congr (State.postPack_reg ..) 1).trans (State.setEstimated_flag h 2), rfl⟩

theorem exec_packIdRead_of_due {s : State} (hplan : s.dev.planLoaded = true) (hawake : s.asleep = false)
    (hmode : s.fld Reg.BATT_CFG 17 16 ≠ 0) (id : Option (BitVec 64)) : exec (.packIdRead id) s = .next (s.idRead id) :=
  congrArg Host.Outcome.next (if_pos (by simp [hplan, hawake, hmode]))

end Sys2Proof.Machine
end

section
/-! SUPPORT. A cell sweep (10_battery.md, R254, R259, R260, R266, R268 to R270): the voltages it shows, and that the decisions
taken on them leave them. -/

namespace Sys2Proof.Machine

/-! ### What a sweep shows stands (R254) -/

/-- The voltages of the pack and of the cells are the same. -/
structure State.SweepAs (s t : State) : Prop where
  stored : t.Stored
  pack : t.reg Reg.BATT_PACK_V = s.reg Reg.BATT_PACK_V
  cells : ∀ k : Nat, k < 8 → t.fld (Reg.BATT_CELL k) 15 0 = s.fld (Reg.BATT_CELL k) 15 0

theorem State.SweepAs.refl {s : State} (h : s.Stored) : s.SweepAs s := ⟨h, rfl, fun _ _ => rfl⟩

section SweepAs

variable {s t : State} (h : s.SweepAs t)
include h

theorem State.SweepAs.keeps {u : State} (k : Keeps (2 ^ (Part.block 8).num) t u) : s.SweepAs u :=
  have hreg : ∀ a, a / 4096 = 8 → u.reg a = t.reg a := k.part (.block 8) (by decide)
  ⟨k.stored, (hreg _ (by decide)).trans h.pack, fun n hn =>
    (State.fld_congr (hreg _ (by dsimp only [Reg.BATT_CELL]; omega)) 15 0).trans (h.cells n hn)⟩

theorem State.SweepAs.setReg {a : Nat} (ha : a < Reg.BATT_PACK_V ∨ Reg.BATT_CELL 7 < a) (w : Word) :
    s.SweepAs (t.setReg a w) := by
  dsimp only [Reg.BATT_CELL, Reg.BATT_PACK_V] at ha
  refine ⟨h.stored.setReg _ _, (State.reg_setReg_other h.stored w ?_).trans h.pack, fun k hk =>
    (State.fld_congr (State.reg_setReg_other h.stored w ?_) 15 0).trans (h.cells k hk)⟩
  · dsimp only [Reg.BATT_PACK_V]
    omega
  · dsimp only [Reg.BATT_CELL]
    omega

/-- A flag beside a cell's voltage. -/
theorem State.SweepAs.setCellFlag (n : Nat) {i : Nat} (hi : 15 < i) (b : Bool) : s.SweepAs (t.setFlag (Reg.BATT_CELL n) i b) := by
  refine ⟨h.stored.setFlag _ _ _, (State.reg_setReg_other h.stored _ ?_).trans h.pack, fun k hk =>
    (State.fld_setFld_other h.stored _ (.inr (.inl hi))).trans (h.cells k hk)⟩
  dsimp only [Reg.BATT_CELL, Reg.BATT_PACK_V]
  omega

theorem State.SweepAs.setBatt (b : Batt) : s.SweepAs (t.setBatt b) :=
  h.keeps (State.setBatt_keeps b (by decide) (Keeps.refl h.stored))

theorem State.SweepAs.postBatt (kind detail : Nat) (a b : Int) : s.SweepAs (t.postBatt kind detail a b) :=
  h.keeps (State.postBatt_keeps kind detail a b (by decide) (Keeps.refl h.stored))

theorem State.SweepAs.roundFrac (n d : Int) : s.SweepAs (t.roundFrac n d).1 :=
  h.keeps (State.roundFrac_keeps n d (by decide) (Keeps.refl h.stored))

theorem State.SweepAs.packSoc (cells : List Nat) : s.SweepAs (t.packSoc cells).1 :=
  h.keeps (State.packSoc_keeps cells (by decide) (Keeps.refl h.stored))

theorem State.SweepAs.gaugeSnap : s.SweepAs t.gaugeSnap :=
  h.keeps (State.gaugeSnap_keeps (by decide) (Keeps.refl h.stored))

theorem State.SweepAs.ite {u : State} {c : Prop} [Decidable c] (hu : s.SweepAs u) : s.SweepAs (if c then t else u) := by
  split
  case isTrue => exact h
  case isFalse => exact hu

/-! ### Protection on the cells (R259, R260) -/

theorem State.SweepAs.battAlarm : s.SweepAs t.battAlarm := by
  have hset := h.setReg (a := Reg.BATT_STATUS) (by decide)
  exact (hset _).keeps (State.setNode_keeps _ _ (by decide) (Keeps.refl (hset _).stored))

theorem State.SweepAs.protSet (f : Nat) (a b : Int) : s.SweepAs (t.protSet f a b) := by
  have hset := h.setReg (a := Reg.BATT_STATUS) (by decide) (wset (t.reg Reg.BATT_STATUS) f f (b2n true))
  have hcounted : s.SweepAs (t.protCounted f) := .ite (hset.setReg (by decide) _) (hset.setReg (by decide) _)
  have halarm := (hcounted.postBatt 1 (2 ^ f) a b).battAlarm
  rw [State.protSet_eq]
  exact halarm.keeps (State.battWake_keeps 4 (by decide) (Keeps.refl halarm.stored))

theorem State.SweepAs.protClear (m : Nat) (a : Int) : s.SweepAs (t.protClear m a) := by
  have hset := h.setReg (a := Reg.BATT_STATUS) (by decide)
  exact h.ite ((hset _).postBatt _ _ _ _).battAlarm

theorem State.SweepAs.judgeCells (f run : Nat) (on off : Bool) (v : Nat) (cell : Fin 8) :
    s.SweepAs (t.judgeCells f run on off v cell).1 := by
  unfold State.judgeCells
  extract_lets dly count
  split
  case isTrue set => exact (h.protClear _ _).ite h
  case isFalse clear =>
    split
    case isTrue => exact (h.setCellFlag cell (by decide) true).protSet f v cell
    case isFalse => exact h

theorem State.SweepAs.protSweep (cells : List Nat) : s.SweepAs (t.protSweep cells) :=
  ((h.judgeCells 0 _ _ _ _ _).judgeCells 1 _ _ _ _ _).setBatt _

/-! ### Balancing, the pack's presence and the rest window (R266, R274, R277) -/

theorem State.SweepAs.balance (cells : List Nat) : s.SweepAs (t.balance cells) := by
  unfold State.balance
  extract_lets lo delta least old odd need bleed u v w
  have hshown : s.SweepAs v := (h.setReg (by decide) _).setReg (by decide) _
  have hbleeds : s.SweepAs w := List.foldlRecOn _ _ hshown fun _ hu k _ => hu.setCellFlag k (by decide) _
  exact hbleeds.setBatt _

theorem State.SweepAs.packPresent (stack : Nat) : s.SweepAs (t.packPresent stack) := by
  have hrun := fun b => h.setBatt b
  have hset := fun b => (hrun b).setReg (a := Reg.BATT_STATUS) (by decide)
  exact (hset _ _).ite ((hset _ _).ite (hrun _))

theorem State.SweepAs.coldSweep (cells : List Nat) : s.SweepAs (t.coldSweep cells) := by
  unfold State.coldSweep
  refine h.ite ?_
  split
  case h_1 => exact h.setBatt _
  case h_2 => exact h.setBatt _

/-! ### Corrections of the gauge (R269, R270, R278) -/

theorem State.SweepAs.setSoc (soc : Nat) : s.SweepAs (t.setSoc soc) := (h.setBatt _).setReg (by decide) _

theorem State.SweepAs.setFcc (fcc : Nat) : s.SweepAs (t.setFcc fcc) := by
  have hset : s.SweepAs (t.setFld Reg.BATT_CAP_NOW 31 16 fcc) := h.setReg (by decide) _
  have hsoh : s.SweepAs ((t.setFld Reg.BATT_CAP_NOW 31 16 fcc).soh fcc).1 := by
    unfold State.soh
    split
    case isTrue => exact hset
    case isFalse => exact hset.roundFrac _ _
  rw [State.setFcc_eq]
  exact (hsoh.setReg (by decide) _).setSoc _

theorem State.SweepAs.learn (soc : Nat) : s.SweepAs (t.learn soc) := by
  unfold State.learn
  split
  case h_1 => exact h
  case h_2 acc soc₀ _ =>
    refine h.ite ?_
    have hround := h.roundFrac
    exact ((hround _ _).postBatt _ _ _ _).ite
      (((((hround _ _).setFcc _).setReg (by decide) _).postBatt _ _ _ _).ite ((hround _ _).postBatt _ _ _ _))

theorem State.SweepAs.ocvApply (soc cell : Nat) : s.SweepAs (t.ocvApply soc cell) := by
  have hsoc := h.setSoc soc
  have hest := hsoc.ite (c := (t.setSoc soc).batt.estHard = true)
    (hsoc.setReg (a := Reg.BATT_GAUGE_STATUS) (by decide) (wset ((t.setSoc soc).reg Reg.BATT_GAUGE_STATUS) 1 1 (b2n false)))
  have hshown := fun w w' => (hest.setReg (a := Reg.BATT_GAUGE_STATUS) (by decide) w).setReg (a := Reg.BATT_GAUGE_STATUS)
    (by decide) w'
  exact ((((hshown _ _).postBatt 6 0 _ cell).learn soc).setBatt _).gaugeSnap

theorem State.SweepAs.ocvCorrect (cells : List Nat) : s.SweepAs (t.ocvCorrect cells) := by
  unfold State.ocvCorrect
  have hbest := h.packSoc cells
  generalize t.packSoc cells = p at hbest ⊢
  obtain ⟨u, none | ⟨f, seg, cell⟩⟩ := p
  · exact hbest
  · have hskipped := fun detail => (hbest.setReg (a := Reg.BATT_GAUGE_STATUS) (by decide)
      (wset (u.reg Reg.BATT_GAUGE_STATUS) 5 5 (b2n true))).postBatt 6 detail 0 cell
    exact (hskipped 1).ite ((hskipped 2).ite ((hbest.roundFrac f.1 f.2).ocvApply _ cell))

theorem State.SweepAs.ocvPackChange (cells : List Nat) : s.SweepAs (t.ocvPackChange cells) := by
  unfold State.ocvPackChange
  have hbest := h.packSoc cells
  generalize t.packSoc cells = p at hbest ⊢
  obtain ⟨u, none | ⟨f, seg, cell⟩⟩ := p
  · exact hbest.setBatt _
  · exact ((hbest.setBatt _).roundFrac f.1 f.2).setSoc _

theorem State.SweepAs.sweepGauge (cells : List Nat) : s.SweepAs (t.sweepGauge cells) := by
  have hpack := (h.ocvPackChange cells).ite (c := t.batt.ocvPack = true) h
  exact h.ite (((hpack.setBatt _).ocvCorrect cells).ite (((hpack.setBatt _).ocvCorrect cells).ite hpack))

end SweepAs

/-! ### The voltages of a sweep (R254) -/

/-- The value that input `k` shows: all eight before a Plan, the Plan's cells after. -/
def State.cellValue (s : State) (x : Sweep) (k : Nat) : Nat :=
  if s.nCell = 0 || k < s.nCell then (x.cells.getD k 0).toNat else 0

def State.cellShown (x : Sweep) (coarse : Bool) (s : State) (k : Nat) : State :=
  (s.setFld (Reg.BATT_CELL k) 15 0 (s.cellValue x k)).setFlag (Reg.BATT_CELL k) 17 coarse

def State.cellsShown (s : State) (x : Sweep) (coarse : Bool) : State := (List.range 8).foldl (State.cellShown x coarse) s

theorem State.sweepValues_eq (s : State) (x : Sweep) (cells : List Nat) (coarse : Bool) : ∃ mv, s.sweepValues x cells coarse =
    ((s.cellsShown x coarse).roundFrac (cells.foldl (fun a b => a + b) 0 : Nat) 10).1.setReg Reg.BATT_PACK_V
      (pack [(min mv 65535, 0), (x.packp.toNat, 16)]) := ⟨_, rfl⟩

theorem State.cellValue_eq (s : State) (x : Sweep) (k : Fin 8) :
    s.cellValue x k = if s.nCell = 0 ∨ k.val < s.nCell then (x.cells[k]).toNat else 0 := by
  simp [State.cellValue, Vector.getD]

section CellsShown

variable {s : State} (h : s.Stored) (x : Sweep) (coarse : Bool)
include h

theorem State.cellShown_reg {k a : Nat} (ha : a ≠ Reg.BATT_CELL k) : (State.cellShown x coarse s k).reg a = s.reg a :=
  (State.reg_setReg_other (h.setFld _ _ _ _) _ ha).trans (State.reg_setReg_other h _ ha)

theorem State.cellShown_nCell (k : Nat) : (State.cellShown x coarse s k).nCell = s.nCell := by
  have hcfg : (State.cellShown x coarse s k).reg Reg.BATT_CFG = s.reg Reg.BATT_CFG :=
    State.cellShown_reg h x coarse (by dsimp only [Reg.BATT_CFG, Reg.BATT_CELL]; omega)
  unfold State.nCell
  rw [State.fld_congr hcfg]
  rfl

theorem State.cellShown_fld (k : Nat) : (State.cellShown x coarse s k).fld (Reg.BATT_CELL k) 15 0 = s.cellValue x k := by
  have hlt : s.cellValue x k < 2 ^ 16 := by
    unfold State.cellValue
    split
    case isTrue => exact BitVec.isLt _
    case isFalse => decide
  refine (State.fld_setFld_other (h.setFld _ _ _ _) _ (.inr (.inl (by decide)))).trans ?_
  exact (State.fld_setFld_self h _ _ (by decide) (by decide)).trans (Nat.mod_eq_of_lt hlt)

/-- Each input shows its value: its own step writes it, and no other touches it. -/
theorem State.cellsShown_effect {k : Nat} (hk : k < 8) : (s.cellsShown x coarse).Stored ∧
    (s.cellsShown x coarse).fld (Reg.BATT_CELL k) 15 0 = s.cellValue x k := by
  have hcell : ∀ u : State, u.nCell = s.nCell → u.cellValue x k = s.cellValue x k := fun u hu => by
    unfold State.cellValue
    rw [hu]
  refine foldl_of_once (P := fun u => u.Stored ∧ u.nCell = s.nCell)
    (Q := fun u => u.Stored ∧ u.fld (Reg.BATT_CELL k) 15 0 = s.cellValue x k) ?_ ?_ ?_ List.nodup_range (List.mem_range.mpr hk)
    ⟨h, rfl⟩
  · exact fun u j _ ⟨hu, hn⟩ => ⟨(hu.setFld _ _ _ _).setFlag _ _ _, (State.cellShown_nCell hu x coarse j).trans hn⟩
  · exact fun u ⟨hu, hn⟩ => ⟨(hu.setFld _ _ _ _).setFlag _ _ _, (State.cellShown_fld hu x coarse k).trans (hcell u hn)⟩
  · intro u j hj ⟨hu, hfld⟩
    refine ⟨(hu.setFld _ _ _ _).setFlag _ _ _, (State.fld_congr (State.cellShown_reg hu x coarse ?_) 15 0).trans hfld⟩
    dsimp only [Reg.BATT_CELL]
    omega

theorem State.sweepValues_effect (cells : List Nat) : (s.sweepValues x cells coarse).Stored ∧
    (s.sweepValues x cells coarse).fld Reg.BATT_PACK_V 31 16 = x.packp.toNat ∧
    ∀ k : Fin 8, (s.sweepValues x cells coarse).fld (Reg.BATT_CELL k) 15 0 = s.cellValue x k := by
  obtain ⟨mv, e⟩ := s.sweepValues_eq x cells coarse
  have hshown := fun k : Fin 8 => State.cellsShown_effect h x coarse k.isLt
  have hround := (hshown 0).1.roundFrac (cells.foldl (fun a b => a + b) 0 : Nat) 10
  rw [e]
  refine ⟨hround.setReg _ _, ?_, fun k => ?_⟩
  · unfold State.fld
    rw [State.reg_setReg_self hround]
    exact (wfld_pack_halves (Nat.min_le_right _ _) (Nat.le_of_lt_succ x.packp.isLt)).2
  · refine (State.fld_congr ((State.reg_setReg_other hround _ ?_).trans (State.roundFrac_reg ..)) 15 0).trans (hshown k).2
    dsimp only [Reg.BATT_CELL, Reg.BATT_PACK_V]
    omega

end CellsShown

/-! ### A sweep -/

theorem State.SweepAs.battRef {s t : State} (h : s.SweepAs t) (x : Sweep) : s.SweepAs (t.battRef x) :=
  h.keeps (State.battRef_keeps x (by decide) (Keeps.refl h.stored))

/-- What is decided on the values of a sweep leaves them. -/
theorem State.cellSweep_sweepAs {s : State} (h : s.Stored) (x : Sweep) : ∃ cells coarse,
    (s.sweepValues x cells coarse).SweepAs (s.cellSweep x) := by
  unfold State.cellSweep
  extract_lets all cells stack shown charged present judged calm balanced
  refine ⟨cells, s.asleep || !s.fullService, ?_⟩
  have hcharged : shown.SweepAs charged := (State.SweepAs.refl (State.sweepValues_effect h x _ cells).1).setReg (by decide) _
  have hpresent : shown.SweepAs present := hcharged.packPresent stack
  have hjudged : shown.SweepAs judged := hpresent.ite (hpresent.protSweep cells)
  have hcalm : shown.SweepAs calm := List.foldlRecOn _ _ hjudged fun _ hu k _ => (hu.setCellFlag k (by decide) _).ite hu
  exact (((hcalm.balance cells).coldSweep cells).sweepGauge cells).battRef x

theorem State.cellSweep_effect {s : State} (h : s.Stored) (x : Sweep) :
    (s.cellSweep x).fld Reg.BATT_PACK_V 31 16 = x.packp.toNat ∧ ∀ k : Fin 8, (s.cellSweep x).fld (Reg.BATT_CELL k) 15 0 =
      if s.nCell = 0 ∨ k.val < s.nCell then (x.cells[k]).toNat else 0 := by
  obtain ⟨cells, coarse, -, hpack, hcells⟩ := State.cellSweep_sweepAs h x
  obtain ⟨-, hshownPack, hshownCells⟩ := State.sweepValues_effect h x coarse cells
  exact ⟨(State.fld_congr hpack 31 16).trans hshownPack, fun k =>
    (hcells k k.isLt).trans ((hshownCells k).trans (s.cellValue_eq x k))⟩

end Sys2Proof.Machine
end

section
/-! SUPPORT. The rows of the battery front end and of the gauge where they apply (10_battery.md). -/

namespace Sys2Proof.Machine

section Rows

variable {s : State} (h : s.battRuns = true)
include h

theorem exec_cellSweep_of_runs (x : Sweep) : exec (.cellSweep x) s = .next (s.cellSweep x) :=
  congrArg Host.Outcome.next (if_pos h)

theorem exec_currentWindow_of_runs (nv : Word) : exec (.currentWindow nv) s = .next (s.window nv.toInt) :=
  congrArg Host.Outcome.next (if_pos h)

theorem exec_ocdTrip_of_runs (uv : BitVec 24) : exec (.ocdTrip uv) s = .next (s.trip 2 uv.toNat) :=
  congrArg Host.Outcome.next (if_pos h)

theorem exec_scdTrip_of_runs (uv : BitVec 24) : exec (.scdTrip uv) s = .next (s.trip 3 uv.toNat) :=
  congrArg Host.Outcome.next (if_pos h)

theorem exec_protRetryExpiry_of_free (scd : Bool) (hretry : s.flag Reg.BATT_PROT_CFG 0 = true)
    (hfree : s.flag Reg.BATT_STATUS 5 = false) :
    exec (.protRetryExpiry scd) s = .next (s.protClear (if scd then 8 else 4) 4) :=
  congrArg Host.Outcome.next (if_pos (by rw [h, hretry, hfree]; rfl))

theorem exec_chargerDetect_of_runs :
    exec .chargerDetect s = .next ((s.setFlag Reg.BATT_STATUS 14 true).clearTrips 3) :=
  congrArg Host.Outcome.next (if_pos h)

theorem exec_fetFaultDetect_of_faultable {k : FetFault} (hk : s.fetFaultable k = true) :
    exec (.fetFaultDetect k) s = .next (s.fetFault k) :=
  congrArg Host.Outcome.next (if_pos (by rw [h, hk]; rfl))

theorem exec_gaugeUpdate_of_runs : exec .gaugeUpdate s = .next s.gaugeSecond := congrArg Host.Outcome.next (if_pos h)

theorem exec_gaugeSnapshot_of_awake (hplan : s.dev.planLoaded = true) (hawake : s.asleep = false) :
    exec .gaugeSnapshot s = .next s.gaugeSnap :=
  congrArg Host.Outcome.next (if_pos (by rw [h, hplan, hawake]; rfl))

end Rows

theorem exec_batteryLpWake_of_armed {s : State} {c : LpCond} (hlive : s.live = true)
    (hsleep : s.inSleep = true ∨ s.inDeepSleep = true) (harmed : s.lpArmed c = true) :
    exec (.batteryLpWake c) s = .next (s.battWake (lpLetter c)) :=
  congrArg Host.Outcome.next (if_pos (by simp [hlive, hsleep, harmed]))

/-! ### What the protection commands leave -/

/-- A trip of OCD (flag 2) or SCD (flag 3) counts and shows its flag where that is clear, and has no effect where it is set. -/
theorem State.trip_row {s : State} (h : s.Stored) {f : Nat} (hlo : 2 ≤ f) (hhi : f < 4) (uv : Nat) :
    (s.flag Reg.BATT_STATUS f = false → (s.trip f uv).flag Reg.BATT_STATUS f = true ∧
      (s.trip f uv).reg Reg.BATT_PROT_CNT_B = satInc (s.reg Reg.BATT_PROT_CNT_B) (16 * (f - 2) + 15) (16 * (f - 2)) ∧
      (s.trip f uv).node 76 = decide ((s.trip f uv).prot &&& (s.trip f uv).fld Reg.BATT_PROT_CFG 27 24 ≠ 0)) ∧
    (s.flag Reg.BATT_STATUS f = true → s.trip f uv = s) :=
  ⟨fun hclear => State.trip_effect h hlo hhi hclear uv, fun hset => State.trip_of_set ((s.prot_testBit hhi).trans hset) uv⟩

/-- A retry clears the flag of its kind and no other. -/
theorem State.retry_effect {s : State} (h : s.Stored) (scd : Bool) (f : Fin 4) :
    (s.protClear (if scd then 8 else 4) 4).flag Reg.BATT_STATUS f =
      (s.flag Reg.BATT_STATUS f && decide (f.val ≠ if scd then 3 else 2)) := by
  have hmask : ∀ (scd : Bool) (f : Fin 4), (if scd then 8 else 4 : Nat) < 16 ∧
      (!(if scd then 8 else 4 : Nat).testBit f) = decide (f.val ≠ if scd then 3 else 2) := by decide
  obtain ⟨hlt, hbit⟩ := hmask scd f
  rw [State.protClear_flag h _ _ hlt f.isLt, hbit]

theorem State.charger_effect {s : State} (h : s.Stored) :
    let t := (s.setFlag Reg.BATT_STATUS 14 true).clearTrips 3
    t.flag Reg.BATT_STATUS 14 = true ∧ t.flag Reg.BATT_STATUS 2 = false ∧ t.flag Reg.BATT_STATUS 3 = false ∧
      t.flag Reg.BATT_STATUS 5 = false := by
  obtain ⟨hocd, hscd, hlock, hcharger⟩ := State.clearTrips_effect (h.setFlag Reg.BATT_STATUS 14 true) 3
  exact ⟨hcharger.trans (State.flag_setFlag_self h _ _ (by decide)), hocd, hscd, hlock⟩

/-! ### The obligation -/

/-- Settles O29: the row of each command, then what its operation leaves. -/
theorem batteryEvents : Obligations.BatteryEvents := by
  refine fun s h => ⟨fun hruns => ⟨fun x => ⟨_, exec_cellSweep_of_runs hruns x, State.cellSweep_effect h x⟩, ?window, ?trips,
    ?retry, ⟨_, exec_chargerDetect_of_runs hruns, State.charger_effect h⟩, ?fets,
    ⟨_, exec_gaugeUpdate_of_runs hruns, State.gaugeSecond_effect h⟩, ?snapshot⟩, ?cold, ?wake, ?identity⟩
  case window =>
    refine fun nv => ⟨fun hno => ?_, fun hshunt => ⟨_, exec_currentWindow_of_runs hruns nv, State.window_effect hshunt _⟩⟩
    rw [exec_currentWindow_of_runs hruns, State.window_of_noShunt hno]
  case trips =>
    intro uv
    obtain ⟨hocd, hocdSet⟩ := State.trip_row h (f := 2) (by decide) (by decide) uv.toNat
    obtain ⟨hscd, hscdSet⟩ := State.trip_row h (f := 3) (by decide) (by decide) uv.toNat
    exact ⟨fun hclear => ⟨_, exec_ocdTrip_of_runs hruns uv, hocd hclear⟩,
      fun hset => (exec_ocdTrip_of_runs hruns uv).trans (congrArg _ (hocdSet hset)),
      fun hclear => ⟨_, exec_scdTrip_of_runs hruns uv, hscd hclear⟩,
      fun hset => (exec_scdTrip_of_runs hruns uv).trans (congrArg _ (hscdSet hset))⟩
  case retry =>
    exact fun scd hretry hfree => ⟨_, exec_protRetryExpiry_of_free hruns scd hretry hfree, State.retry_effect h scd⟩
  case fets => exact fun k hk => ⟨_, exec_fetFaultDetect_of_faultable hruns hk, State.fetFault_effect h k⟩
  case snapshot =>
    refine fun hplan hawake => ⟨_, exec_gaugeSnapshot_of_awake hruns hplan hawake, ?_⟩
    rw [State.gaugeSnap_batt]
    exact ⟨rfl, rfl, rfl⟩
  case cold => exact fun hcold hawake => ⟨_, exec_coldStartRestWindow_of_cold hcold hawake, State.coldEnded_effect h⟩
  case wake =>
    exact fun c hlive hsleep harmed => ⟨_, exec_batteryLpWake_of_armed hlive hsleep harmed, State.battWake_wokenBy h hsleep _⟩
  case identity =>
    intro hplan hawake hmode
    have hrow := exec_packIdRead_of_due hplan hawake hmode
    refine ⟨⟨_, hrow none, State.idFailed_effect h rfl⟩, fun v hserial hblank => ?_, fun v hread hknown hsame => ?_,
      fun v hread hnew => ?_⟩
    · rw [hrow, hrow, State.idRead_of_failed (State.idGood_of_blank hserial hblank), State.idRead_of_failed (id := none) rfl]
    · rw [hrow, State.idRead_of_same hread hknown hsame]
    · obtain ⟨kind, e⟩ := State.idRead_of_new hread hnew
      exact ⟨_, (hrow _).trans (congrArg _ e), State.retainId_effect h v kind⟩

end Sys2Proof.Machine
end

section
/-! SUPPORT. M0's shared operations (11_drive.md, R293 to R300): what each leaves of M0, of its node and of the two registers that
a decision point measures. -/

namespace Sys2Proof.Machine

/-! ### Records, completions and the fault node -/

/-- The parts that hold M0, its registers and its node. -/
abbrev m0Parts : Nat := 2 ^ Part.drive.num + 2 ^ Part.hedge.num + 2 ^ (Part.block 9).num

theorem State.complete_keeps_m0 {s : State} (h : s.Stored) (r : Req) (rep : Reply) : Keeps m0Parts s (s.complete r rep) :=
  State.complete_keeps r rep (by decide) (Keeps.refl h)

theorem State.postMotorAt_keeps_m0 {s : State} (h : s.Stored) (p : Time) (kind : Nat) (src : M0State) (cause : Nat) :
    Keeps m0Parts s (s.postMotorAt p kind src cause) :=
  State.postMotorAt_keeps p kind src cause (by decide) (Keeps.refl h)

/-- The end of a start changes M0 as said, and completes a command. -/
theorem State.endStart_keeps_m0 {s : State} (h : s.Stored) (status : Nat) :
    Keeps m0Parts (s.setM0 { s.drive.m0 with starting := false, startReq := none }) (s.endStart status) := by
  have hended : (s.setM0 { s.drive.m0 with starting := false, startReq := none }).Stored := h.congr rfl rfl rfl
  unfold State.endStart
  extract_lets m u
  split
  case h_1 r _ => exact State.complete_keeps_m0 hended r _
  case h_2 => exact .refl hended

/-- The end of the outstanding MOTOR_STOP commands changes M0 as said, and completes them. -/
theorem State.endStops_keeps_m0 {s : State} (h : s.Stored) (status : Nat) :
    Keeps m0Parts (s.setM0 { s.drive.m0 with stops := [] }) (s.endStops status) := by
  have hended : (s.setM0 { s.drive.m0 with stops := [] }).Stored := h.congr rfl rfl rfl
  exact Keeps.foldl _ _ (fun _ r => State.complete_keeps r _ (by decide)) (.refl hended)

/-- Node 84 carries no built-in response. -/
theorem State.setNode_m0Fault (s : State) (b : Bool) :
    s.setNode 84 b = { s with hedge.nodes := setBit128 s.hedge.nodes 84 b } := s.setNode_of_between (by decide) (by decide) b

/-! ### What an operation of a decision point leaves (R293, R299) -/

/-- The registers measured and the mark of a queued run that an action cancelled stand. -/
structure State.PointAs (s t : State) : Prop where
  stored : t.Stored
  meas : t.reg Reg.DRIVE_M0_MEAS = s.reg Reg.DRIVE_M0_MEAS
  idq : t.reg Reg.DRIVE_M0_IDQ = s.reg Reg.DRIVE_M0_IDQ
  dropped : t.drive.m0.dropped = s.drive.m0.dropped

theorem State.PointAs.refl {s : State} (h : s.Stored) : s.PointAs s := ⟨h, rfl, rfl, rfl⟩

section PointAs

variable {s t : State} (h : s.PointAs t)
include h

theorem State.PointAs.keeps {u : State} (k : Keeps m0Parts t u) : s.PointAs u :=
  have hdrive : u.drive = t.drive := k.part .drive (by decide)
  have hreg := k.part (.block 9) (by decide)
  ⟨k.stored, (hreg _ (by decide)).trans h.meas, (hreg _ (by decide)).trans h.idq,
    (congrArg (fun d : Drive => d.m0.dropped) hdrive).trans h.dropped⟩

theorem State.PointAs.setM0 {m : M0} (hm : m.dropped = t.drive.m0.dropped := by exact rfl) : s.PointAs (t.setM0 m) :=
  ⟨h.stored.congr rfl rfl rfl, h.meas, h.idq, hm.trans h.dropped⟩

theorem State.PointAs.setReg {a : Nat} (hmeas : Reg.DRIVE_M0_MEAS ≠ a) (hidq : Reg.DRIVE_M0_IDQ ≠ a) (w : Word) :
    s.PointAs (t.setReg a w) :=
  ⟨h.stored.setReg _ _, (State.reg_setReg_other h.stored w hmeas).trans h.meas,
    (State.reg_setReg_other h.stored w hidq).trans h.idq, h.dropped⟩

theorem State.PointAs.setNode (b : Bool) : s.PointAs (t.setNode 84 b) := by
  rw [State.setNode_m0Fault]
  exact ⟨h.stored.congr rfl rfl rfl, h.meas, h.idq, h.dropped⟩

theorem State.PointAs.ite {u : State} {c : Prop} [Decidable c] (hu : s.PointAs u) : s.PointAs (if c then t else u) := by
  split
  case isTrue => exact h
  case isFalse => exact hu

theorem State.PointAs.postMotorAt (p : Time) (kind : Nat) (src : M0State) (cause : Nat) :
    s.PointAs (t.postMotorAt p kind src cause) := h.keeps (State.postMotorAt_keeps_m0 h.stored p kind src cause)

theorem State.PointAs.postMotor (kind cause : Nat) : s.PointAs (t.postMotor kind cause) := h.postMotorAt _ _ _ _

theorem State.PointAs.endStart (status : Nat) : s.PointAs (t.endStart status) :=
  h.setM0.keeps (State.endStart_keeps_m0 h.stored status)

theorem State.PointAs.endStops (status : Nat) : s.PointAs (t.endStops status) :=
  h.setM0.keeps (State.endStops_keeps_m0 h.stored status)

theorem State.PointAs.cancelQueued (cause : Nat) : s.PointAs (t.cancelQueued cause) := (h.setM0.postMotor 5 cause).ite h

theorem State.PointAs.m0Seen (kind phase side : Nat) : s.PointAs (t.m0Seen kind phase side) :=
  have hseen : s.PointAs (t.setFlag Reg.DRIVE_M0_FAULT (15 + kind) true) := h.setReg (by decide) (by decide) _
  (hseen.setReg (by decide) (by decide) _).ite hseen

theorem State.PointAs.m0To (st : M0State) (cause : Nat) : s.PointAs (t.m0To st cause) := by
  unfold State.m0To
  extract_lets m old m₁ run m₂ u₁ u₂ u₃
  have hdropped : m₂.dropped = t.drive.m0.dropped := by
    dsimp only [m₂]
    split <;> rfl
  have hu₁ : s.PointAs u₁ := h.setM0 hdropped
  have hu₃ : s.PointAs u₃ := ((hu₁.setNode false).ite hu₁).postMotorAt _ _ _ _
  exact (hu₃.endStops Status.OK).ite hu₃

theorem State.PointAs.m0FaultAt (p : Time) (kind : Nat) : s.PointAs (t.m0FaultAt p kind) := by
  unfold State.m0FaultAt
  extract_lets m run m' u₁ u₂ u₃ u₄
  have hu₁ : s.PointAs u₁ := State.PointAs.setReg (t := t.setM0 m') h.setM0 (by decide) (by decide) _
  have hu₃ : s.PointAs u₃ := ((hu₁.setNode true).postMotorAt _ _ _ _).cancelQueued 5
  exact h.ite (((hu₃.endStart _).ite hu₃).endStops _)

theorem State.PointAs.m0Fault (kind : Nat) : s.PointAs (t.m0Fault kind) := h.ite ((h.m0Seen kind 3 0).m0FaultAt _ kind)

theorem State.PointAs.m0Faults : s.PointAs t.m0Faults := (h.m0Fault 8).ite ((h.m0Fault 5).ite ((h.m0Fault 6).ite h))

end PointAs

/-- What the actions make M0 do: nothing, give up a start, or change its state. -/
theorem State.m0Follow_cases (s : State) (a0 a1 : Bool) : s.m0Follow a0 a1 = s ∨
    s.m0Follow a0 a1 = s.endStart Status.ABORTED ∨ ∃ st cause, s.m0Follow a0 a1 = s.m0To st cause := by
  have hite : ∀ (c : Bool) (st : M0State) (cause : Nat) (u : State), (u = s ∨ ∃ st cause, u = s.m0To st cause) →
      (if c then s.m0To st cause else u) = s ∨ ∃ st' cause', (if c then s.m0To st cause else u) = s.m0To st' cause' := by
    intro c st cause u hu
    split
    case isTrue => exact .inr ⟨st, cause, rfl⟩
    case isFalse => exact hu
  unfold State.m0Follow
  extract_lets m
  split
  case isTrue =>
    split
    case isTrue => exact .inr (.inl rfl)
    case isFalse => exact .inl rfl
  case isFalse =>
    refine Or.imp_right .inr ?_
    split
    case h_1 | h_2 | h_3 => exact hite _ _ _ _ (hite _ _ _ _ (.inl rfl))
    case h_4 | h_5 => exact hite _ _ _ _ (.inl rfl)
    case h_6 => exact .inl rfl

theorem State.PointAs.m0Follow {s t : State} (h : s.PointAs t) (a0 a1 : Bool) : s.PointAs (t.m0Follow a0 a1) := by
  obtain e | e | ⟨st, cause, e⟩ := t.m0Follow_cases a0 a1
  · rw [e]
    exact h
  · rw [e]
    exact h.endStart _
  · rw [e]
    exact h.m0To st cause

/-! ### M0 after each operation -/

/-- M0 stands in FAULT with a kind, and its node is active. -/
structure State.Faulted (t : State) (kind : Nat) : Prop where
  stored : t.Stored
  st : t.drive.m0.st = .fault
  kind : t.drive.m0.kind = kind
  node : t.node 84 = true

section Faulted

variable {t : State} {kind : Nat} (h : t.Faulted kind)
include h

theorem State.Faulted.keeps {u : State} (k : Keeps m0Parts t u) : u.Faulted kind :=
  have hdrive : u.drive = t.drive := k.part .drive (by decide)
  ⟨k.stored, hdrive ▸ h.st, hdrive ▸ h.kind, (State.node_congr (k.part .hedge (by decide)) 84).trans h.node⟩

theorem State.Faulted.setM0 {m : M0} (hst : m.st = t.drive.m0.st := by exact rfl)
    (hkind : m.kind = t.drive.m0.kind := by exact rfl) : (t.setM0 m).Faulted kind :=
  ⟨h.stored.congr rfl rfl rfl, hst.trans h.st, hkind.trans h.kind, h.node⟩

theorem State.Faulted.ite {u : State} {c : Prop} [Decidable c] (hu : u.Faulted kind) :
    (if c then t else u : State).Faulted kind := by
  split
  case isTrue => exact h
  case isFalse => exact hu

theorem State.Faulted.endStart (status : Nat) : (t.endStart status).Faulted kind :=
  h.setM0.keeps (State.endStart_keeps_m0 h.stored status)

theorem State.Faulted.endStops (status : Nat) : (t.endStops status).Faulted kind :=
  h.setM0.keeps (State.endStops_keeps_m0 h.stored status)

theorem State.Faulted.cancelQueued (cause : Nat) : (t.cancelQueued cause).Faulted kind :=
  (h.setM0.keeps (State.postMotorAt_keeps_m0 h.setM0.stored _ 5 _ cause)).ite h

/-- Actions move M0 out of no fault. -/
theorem State.Faulted.m0Follow (a0 a1 : Bool) : (t.m0Follow a0 a1).Faulted kind := by
  unfold State.m0Follow
  extract_lets m
  refine .ite ((h.endStart Status.ABORTED).ite h) ?_
  rw [show m.st = .fault from h.st]
  exact h

end Faulted

theorem State.m0FaultAt_faulted {s : State} (h : s.Stored) (hst : s.drive.m0.st ≠ .fault) (p : Time) (kind : Nat) :
    (s.m0FaultAt p kind).Faulted kind := by
  unfold State.m0FaultAt
  extract_lets m run m' u₁ u₂ u₃ u₄
  have hu₁ : u₁.Stored := State.Stored.inc (s := s.setM0 m') (h.congr rfl rfl rfl) _ _ _
  have hnode : (u₁.setNode 84 true).Faulted kind := by
    rw [State.setNode_m0Fault]
    exact ⟨hu₁.congr rfl rfl rfl, rfl, rfl, (setBit128_getLsbD _ (by decide) true 84).trans (if_pos rfl)⟩
  have hu₃ : u₃.Faulted kind := (hnode.keeps (State.postMotorAt_keeps_m0 hnode.stored ..)).cancelQueued 5
  rw [if_neg hst]
  exact ((hu₃.endStart _).ite hu₃).endStops _

@[simp] theorem State.m0Seen_drive (s : State) (kind phase side : Nat) : (s.m0Seen kind phase side).drive = s.drive := by
  unfold State.m0Seen
  dsimp only
  split <;> rfl

theorem State.m0Fault_faulted {s : State} (h : s.Stored) (hst : s.drive.m0.st ≠ .fault) (kind : Nat) :
    (s.m0Fault kind).Faulted kind := by
  unfold State.m0Fault
  rw [if_neg hst]
  exact State.m0FaultAt_faulted ((State.PointAs.refl h).m0Seen kind 3 0).stored (by rwa [State.m0Seen_drive]) _ _

/-- M0 enters a state in which no MOTOR_STOP ends. -/
theorem State.m0To_st (s : State) {st : M0State} (hst : st ≠ .stopped) (cause : Nat) :
    (s.m0To st cause).drive.m0.st = st := by
  unfold State.m0To
  extract_lets m old m₁ run m₂ u₁ u₂ u₃
  have hu₂ : u₂.drive.m0.st = st := by
    dsimp only [u₂, u₁, m₂]
    rw [if_neg hst, State.setNode_m0Fault]
    split <;> rfl
  rw [if_neg hst]
  exact (congrArg (fun d : Drive => d.m0.st) (State.postAt_drive ..)).trans hu₂

end Sys2Proof.Machine
end

section
/-! SUPPORT. A decision point of M0 (11_drive.md, R293, R294, R299): what it samples first, what it shows at its end, and how it
ends after an off action or a fault. -/

namespace Sys2Proof.Machine

/-! ### The sample (R22, R293) -/

/-- What has been seen since the last decision point is taken. -/
def State.pointTaken (s : State) : State := s.setM0 { s.drive.m0 with seen0 := false, seen1 := false, dropped := false }

/-- The record of a queued run that an action cancelled, where there was one. -/
def State.pointTold (s : State) : State :=
  if s.drive.m0.dropped then s.pointTaken.postMotor 5 (if s.drive.m0.seen0 || s.m0Off then 1 else 2) else s.pointTaken

theorem State.pointTold_keeps {s : State} (h : s.Stored) : Keeps m0Parts s.pointTaken s.pointTold := by
  have htaken : s.pointTaken.Stored := h.congr rfl rfl rfl
  exact .ite (fun _ => State.postMotorAt_keeps_m0 htaken ..) fun _ => .refl htaken

theorem State.pointTold_m0 {s : State} (h : s.Stored) :
    s.pointTold.drive.m0 = { s.drive.m0 with seen0 := false, seen1 := false, dropped := false } :=
  congrArg Drive.m0 ((State.pointTold_keeps h).part .drive (by decide))

theorem State.m0Sample_of_detected {s : State} {kind : Nat} {p : Time} (h : s.drive.m0.detected = some (kind, p)) :
    s.m0Sample = s.pointTold.m0FaultAt p kind := by
  unfold State.m0Sample
  extract_lets m a0 a1 u v
  rw [show m.detected = some (kind, p) from h]
  rfl

theorem State.m0Sample_of_none {s : State} (h : s.drive.m0.detected = none) :
    s.m0Sample = s.pointTold.m0Faults.m0Follow (s.drive.m0.seen0 || s.m0Off) (s.drive.m0.seen1 || s.act 1) := by
  unfold State.m0Sample
  extract_lets m a0 a1 u v
  rw [show m.detected = none from h]
  rfl

/-- A decision point leaves no mark of a cancelled run. -/
theorem State.m0Sample_pointAs {s : State} (h : s.Stored) : s.pointTaken.PointAs s.m0Sample := by
  have htaken : s.pointTaken.Stored := h.congr rfl rfl rfl
  have htold : s.pointTaken.PointAs s.pointTold := (State.PointAs.refl htaken).keeps (State.pointTold_keeps h)
  cases hd : s.drive.m0.detected with
  | none =>
    rw [State.m0Sample_of_none hd]
    exact htold.m0Faults.m0Follow _ _
  | some kp =>
    rw [State.m0Sample_of_detected (kind := kp.1) (p := kp.2) hd]
    exact htold.m0FaultAt _ _

/-! ### A queued run, and what M0 decides on its own (R293, R296) -/

section PointAs

variable {s t : State} (h : s.PointAs t)
include h

theorem State.PointAs.beginRun (run : M0Run) (r : Option Req) : s.PointAs (t.beginRun run r) :=
  State.PointAs.setM0 (t := t.useRun run) h.setM0

theorem State.PointAs.takeQueued : s.PointAs t.takeQueued := by
  unfold State.takeQueued
  split
  case h_1 => exact h
  case h_2 run _ =>
    extract_lets m u
    have hu : s.PointAs u := h.setM0
    exact (hu.postMotor 5 7).ite ((hu.postMotor 4 7).beginRun run none)

theorem State.PointAs.speedLoop : s.PointAs t.speedLoop :=
  State.PointAs.setM0 (t := t.draw) ⟨h.stored.congr rfl rfl rfl, h.meas, h.idq, h.dropped⟩

theorem State.PointAs.m0AtSpeed : s.PointAs t.m0AtSpeed := by
  unfold State.m0AtSpeed
  extract_lets m since due u
  have hu : s.PointAs u := h.setM0
  exact (hu.postMotor 2 4).ite hu

theorem State.PointAs.m0Ramp : s.PointAs t.m0Ramp := h.setM0

theorem State.PointAs.m0Show : s.PointAs t.m0Show := h.setM0

theorem State.PointAs.m0Judge : s.PointAs t.m0Judge := by
  unfold State.m0Judge
  extract_lets m
  split
  case h_1 => exact h.m0Ramp
  case h_2 => exact (h.m0Ramp.speedLoop.m0To .braking 4).ite h.m0Ramp.speedLoop.m0AtSpeed
  case h_3 => exact (h.m0To .stopped 4).ite h
  case h_4 => exact h

end PointAs

theorem State.m0Arrive_pointAs {s : State} (h : s.Stored) : s.pointTaken.PointAs s.m0Arrive :=
  have hsample := State.m0Sample_pointAs h
  hsample.takeQueued.ite hsample

/-- No queued run is taken at a decision point that ends outside `STOPPED`. -/
theorem State.m0Arrive_of_moved {s : State} (h : s.m0Sample.drive.m0.st ≠ .stopped) : s.m0Arrive = s.m0Sample := by
  unfold State.m0Arrive
  exact if_neg (by simp [h])

/-! ### The decision point (R293, R299) -/

theorem State.m0Show_view (s : State) : s.m0Show.drive.m0.view = s.m0Show.m0Words := rfl

/-- The registers measured, and since when the lock is lost and the speed too high. -/
def State.m0Measured (s : State) (x : M0Meas) : State :=
  ((s.setFld Reg.DRIVE_M0_MEAS 18 0 x.speed.toNat).setReg Reg.DRIVE_M0_IDQ
    (pack [(x.id.toNat, 0), (x.iq.toNat, 16)])).m0Timers x

theorem State.m0Point_eq (s : State) (x : M0Meas) : s.m0Point x =
    (if (s.m0Measured x).m0Arrive.drive.m0.st = s.drive.m0.st then (s.m0Measured x).m0Arrive.m0Judge
      else (s.m0Measured x).m0Arrive).m0Show := rfl

/-- A decision point whose sample moves M0, to a state other than `STOPPED`, ends with it. -/
theorem State.m0Point_of_moved {s : State} {x : M0Meas} {st : M0State} (hst : (s.m0Measured x).m0Sample.drive.m0.st = st)
    (hmoved : st ≠ s.drive.m0.st) (hstopped : st ≠ .stopped) : s.m0Point x = (s.m0Measured x).m0Sample.m0Show := by
  have harrive : (s.m0Measured x).m0Arrive = (s.m0Measured x).m0Sample := State.m0Arrive_of_moved (hst ▸ hstopped)
  rw [State.m0Point_eq, harrive, if_neg (hst ▸ hmoved)]

/-! ### Samples that find nothing, and off actions (R293, R294) -/

/-- Without two bad Hall periods, a lost lock or overspeed, the decision point finds no fault. -/
theorem State.m0Faults_of_none {t : State} (hhall : t.m0Halls = false ∨ t.drive.m0.hallRun < 2) (hloss : t.drive.m0.lossPt = none)
    (hover : t.drive.m0.overPt = none) : t.m0Faults = t := by
  have hbad : (t.m0Halls && decide (2 ≤ t.drive.m0.hallRun)) = false := by
    obtain hno | hfew := hhall
    · rw [hno, Bool.false_and]
    · rw [decide_eq_false (by omega), Bool.and_false]
  unfold State.m0Faults
  dsimp only
  rw [hbad, hloss, hover]
  rfl

theorem State.m0Follow_off {t : State} (hstart : t.drive.m0.starting = false)
    (hst : t.drive.m0.st = .openRamp ∨ t.drive.m0.st = .closedLoop ∨ t.drive.m0.st = .braking) (a1 : Bool) :
    t.m0Follow true a1 = t.m0To .coasting 1 := by
  unfold State.m0Follow
  obtain hst | hst | hst := hst <;> simp [hstart, hst]

section Measured

variable {s : State} (h : s.Stored) (x : M0Meas)

/-- No lock is being lost at 45° or less. -/
theorem State.m0Measured_lossPt (hlock : x.angleErr.toNat ≤ 45) : (s.m0Measured x).drive.m0.lossPt = none := by
  show since? _ (_ && decide (45 < x.angleErr.toNat)) _ = none
  simp [since?, Nat.not_lt.mpr hlock]

/-- A sample that ends in FAULT is where the decision point ends. -/
theorem State.m0Point_faulted {kind : Nat} (hst : s.drive.m0.st ≠ .fault)
    (hsample : (s.m0Measured x).m0Sample.Faulted kind) : (s.m0Point x).Faulted kind := by
  rw [State.m0Point_of_moved hsample.st hst.symm (by decide)]
  exact hsample.setM0

include h

theorem State.m0Measured_stored : (s.m0Measured x).Stored := ((h.setFld _ _ _ _).setReg _ _).congr rfl rfl rfl

theorem State.m0Measured_meas : (s.m0Measured x).fld Reg.DRIVE_M0_MEAS 18 0 = x.speed.toNat := by
  refine (State.fld_congr (State.reg_setReg_other (h.setFld _ _ _ _) _ (by decide)) 18 0).trans ?_
  exact (State.fld_setFld_self h _ _ (by decide) (by decide)).trans (Nat.mod_eq_of_lt x.speed.isLt)

theorem State.m0Measured_idq : (s.m0Measured x).reg Reg.DRIVE_M0_IDQ = pack [(x.id.toNat, 0), (x.iq.toNat, 16)] :=
  State.reg_setReg_self (h.setFld _ _ _ _) _ _

/-- Registers of HEDGE and M0's configuration are not measured. -/
theorem State.m0Measured_reg {a : Nat} (hmeas : a ≠ Reg.DRIVE_M0_MEAS) (hidq : a ≠ Reg.DRIVE_M0_IDQ) :
    (s.m0Measured x).reg a = s.reg a :=
  (State.reg_setReg_other (h.setFld _ _ _ _) _ hidq).trans (State.reg_setReg_other h _ hmeas)

theorem State.m0Measured_m0Halls : (s.m0Measured x).m0Halls = s.m0Halls :=
  State.flag_congr (State.m0Measured_reg h x (by decide) (by decide)) 30

/-- The record of a cancelled run, told at the sample, leaves the Hall sensors' word as it was. -/
theorem State.m0Measured_toldHalls : (s.m0Measured x).pointTold.m0Halls = s.m0Halls :=
  (State.flag_congr ((State.pointTold_keeps (State.m0Measured_stored h x)).part (.block 9) (by decide) _ (by decide)) 30).trans
    (State.m0Measured_m0Halls h x)

theorem State.m0Measured_m0Off : (s.m0Measured x).m0Off = s.m0Off := by
  have hact : (s.m0Measured x).act 0 = s.act 0 :=
    State.act_congr (s := s) (t := s.m0Measured x) rfl (State.m0Measured_reg h x (by decide) (by decide)) 0
  unfold State.m0Off
  rw [hact]
  rfl

/-- What a decision point shows: the values it measured, and the words of M0 as one view. -/
theorem State.m0Point_shows : (s.m0Point x).fld Reg.DRIVE_M0_MEAS 18 0 = x.speed.toNat ∧
    (s.m0Point x).reg Reg.DRIVE_M0_IDQ = pack [(x.id.toNat, 0), (x.iq.toNat, 16)] ∧ (s.m0Point x).drive.m0.dropped = false ∧
    (s.m0Point x).drive.m0.view = (s.m0Point x).m0Words := by
  have harrive := State.m0Arrive_pointAs (State.m0Measured_stored h x)
  rw [State.m0Point_eq]
  obtain ⟨-, hmeas, hidq, hdropped⟩ := (State.PointAs.ite
    (c := (s.m0Measured x).m0Arrive.drive.m0.st = s.drive.m0.st) harrive.m0Judge harrive).m0Show
  exact ⟨(State.fld_congr hmeas 18 0).trans (State.m0Measured_meas h x), hidq.trans (State.m0Measured_idq h x), hdropped,
    State.m0Show_view _⟩

/-- No overspeed begins at 110 % of MAX_FREQ or less. -/
theorem State.m0Measured_overPt (hspeed : x.speed.toNat ≤ 110 * s.maxFreq) : (s.m0Measured x).drive.m0.overPt = none := by
  have hmeas : (s.m0Measured x).m0Speed = x.speed.toNat := State.m0Measured_meas h x
  have hmax : (s.m0Measured x).maxFreq = s.maxFreq := State.fld_congr (State.m0Measured_reg h x (by decide) (by decide)) 12 0
  show since? _ (_ && decide (110 * (s.m0Measured x).maxFreq < (s.m0Measured x).m0Speed)) _ = none
  simp [since?, hmeas, hmax, Nat.not_lt.mpr hspeed]

/-- An off action that the decision point samples without a fault makes M0 coast. -/
theorem State.m0Point_off (hdetected : s.drive.m0.detected = none) (hstart : s.drive.m0.starting = false)
    (hoff : s.m0Off = true) (hhall : s.m0Halls = false ∨ s.drive.m0.hallRun < 2) (hlock : x.angleErr.toNat ≤ 45)
    (hspeed : x.speed.toNat ≤ 110 * s.maxFreq)
    (hst : s.drive.m0.st = .openRamp ∨ s.drive.m0.st = .closedLoop ∨ s.drive.m0.st = .braking) :
    (s.m0Point x).drive.m0.st = .coasting := by
  have hmeasured := State.m0Measured_stored h x
  have hm0 := State.pointTold_m0 hmeasured
  have hnone : (s.m0Measured x).pointTold.m0Faults = (s.m0Measured x).pointTold := by
    refine State.m0Faults_of_none (by rw [State.m0Measured_toldHalls h, hm0]; exact hhall) ?_ ?_
    · rw [hm0]
      exact State.m0Measured_lossPt x hlock
    · rw [hm0]
      exact State.m0Measured_overPt h x hspeed
  have hsample : (s.m0Measured x).m0Sample = (s.m0Measured x).pointTold.m0To .coasting 1 := by
    rw [State.m0Sample_of_none (s := s.m0Measured x) hdetected, hnone, State.m0Measured_m0Off h x, hoff, Bool.or_true]
    exact State.m0Follow_off (by rw [hm0]; exact hstart) (by rw [hm0]; exact hst) _
  have hcoasting : (s.m0Measured x).m0Sample.drive.m0.st = .coasting := by
    rw [hsample]
    exact State.m0To_st _ (by decide) 1
  rw [State.m0Point_of_moved hcoasting (by obtain e | e | e := hst <;> rw [e] <;> decide) (by decide)]
  exact hcoasting

/-! ### After a fault (R294) -/

/-- A fault detected since the last decision point. -/
theorem State.m0Point_detected {kind : Nat} {p : Time} (hst : s.drive.m0.st ≠ .fault)
    (hdetected : s.drive.m0.detected = some (kind, p)) : (s.m0Point x).Faulted kind := by
  have hmeasured := State.m0Measured_stored h x
  refine State.m0Point_faulted x hst ?_
  rw [State.m0Sample_of_detected (s := s.m0Measured x) hdetected]
  exact State.m0FaultAt_faulted (State.pointTold_keeps hmeasured).stored (by rw [State.pointTold_m0 hmeasured]; exact hst) p kind

/-- Two bad Hall periods in a row. -/
theorem State.m0Point_hall (hst : s.drive.m0.st ≠ .fault) (hdetected : s.drive.m0.detected = none) (hhalls : s.m0Halls = true)
    (hrun : 2 ≤ s.drive.m0.hallRun) : (s.m0Point x).Faulted 8 := by
  have hmeasured := State.m0Measured_stored h x
  have hm0 := State.pointTold_m0 hmeasured
  have hfaults : (s.m0Measured x).pointTold.m0Faults = (s.m0Measured x).pointTold.m0Fault 8 := by
    refine if_pos ?_
    rw [State.m0Measured_toldHalls h, hhalls, hm0]
    exact decide_eq_true hrun
  refine State.m0Point_faulted x hst ?_
  rw [State.m0Sample_of_none (s := s.m0Measured x) hdetected, hfaults]
  exact (State.m0Fault_faulted (State.pointTold_keeps hmeasured).stored (by rw [hm0]; exact hst) 8).m0Follow _ _

end Measured

end Sys2Proof.Machine
end

section
/-! SUPPORT. One PWM period of M0 (11_drive.md, R289 to R291): the phase that is not sampled, the sum of the currents, and the
bounds of the next period's duties. -/

namespace Sys2Proof.Machine

/-! ### The unsampled phase and its current (R289) -/

/-- No phase has a longer duty than the one that is not sampled. -/
theorem duty_le_unsampled (duty : Vector Nat 3) (tie k : Fin 3) : duty[k] ≤ duty[unsampled duty tie] := by
  have hall : ∀ left : Fin 3, duty[0] ≤ duty[left] → duty[1] ≤ duty[left] → duty[2] ≤ duty[left] →
      duty[k] ≤ duty[left] := by
    intro left h0 h1 h2
    match k with
    | 0 => exact h0
    | 1 => exact h1
    | 2 => exact h2
  unfold unsampled
  split
  case isTrue htie =>
    simp only [Bool.and_eq_true, decide_eq_true_eq] at htie
    obtain ⟨⟨h0, h1⟩, h2⟩ := htie
    exact hall tie h0 h1 h2
  case isFalse =>
    split
    case isTrue hfirst =>
      simp only [Bool.and_eq_true, decide_eq_true_eq] at hfirst
      obtain ⟨h1, h2⟩ := hfirst
      exact hall 0 (Nat.le_refl _) h1 h2
    case isFalse hfirst =>
      simp only [Bool.and_eq_true, decide_eq_true_eq] at hfirst
      split
      case isTrue hsecond => exact hall 1 (by show duty[0] ≤ duty[1]; omega) (Nat.le_refl _) hsecond
      case isFalse hsecond =>
        exact hall 2 (by show duty[0] ≤ duty[2]; omega) (by show duty[1] ≤ duty[2]; omega) (Nat.le_refl _)

theorem pwmCurrents_sum (left : Fin 3) (a b : Int) :
    (pwmCurrents left a b)[0] + (pwmCurrents left a b)[1] + (pwmCurrents left a b)[2] = 0 := by
  match left with
  | 0 => show -(a + b) + a + b = 0; omega
  | 1 => show b + -(a + b) + a = 0; omega
  | 2 => show a + b + -(a + b) = 0; omega

/-! ### The duties of the next period (R289, R290) -/

theorem dutyApplied_le {period d : Nat} (h : d ≤ period) (dt : Nat) : dutyApplied period dt d ≤ period := by
  unfold dutyApplied
  split
  case isTrue => exact Nat.zero_le _
  case isFalse => split <;> omega

/-- A duty that keeps `keep` counts low, no less than the shortest pulse, keeps them as applied. -/
theorem dutyApplied_le_sub {period keep dt d : Nat} (hd : d ≤ period - keep) (hdt : 2 * dt ≤ keep) :
    dutyApplied period dt d ≤ period - keep := by
  unfold dutyApplied
  split
  case isTrue => exact Nat.zero_le _
  case isFalse =>
    split
    case isTrue => omega
    case isFalse => exact hd

/-- Two of three counts are no more than all three. -/
theorem pair_le_sum (f : Fin 3 → Nat) {i k : Fin 3} (h : i ≠ k) : f i + f k ≤ f 0 + f 1 + f 2 := by
  match i, k with
  | 0, 1 | 0, 2 | 1, 0 | 1, 2 | 2, 0 | 2, 1 => omega
  | 0, 0 | 1, 1 | 2, 2 => exact absurd rfl h

section Clamp

variable (period keep : Nat) (d : Vector Nat 3)

/-- What the clamp gives a phase: its own duty where at most one phase is above the clamp, else 100 % for one phase and at most
the clamp for the others. -/
theorem clampDuties_cases : (clampDuties period keep d = d ∧
      ∀ i k : Fin 3, i ≠ k → d[i] ≤ period - keep ∨ d[k] ≤ period - keep) ∨
    ∃ hi : Fin 3, ∀ i : Fin 3, (clampDuties period keep d)[i] = if i = hi then period else min d[i] (period - keep) := by
  unfold clampDuties
  extract_lets top short hi
  split
  case isTrue hfew =>
    refine .inl ⟨rfl, fun i k hik => ?_⟩
    have hpair : short i + short k < 2 := Nat.lt_of_le_of_lt (pair_le_sum short hik) hfew
    by_contra hboth
    obtain ⟨hi, hk⟩ := not_or.mp hboth
    have hone : ∀ j : Fin 3, ¬ d[j] ≤ top → short j = 1 := fun j hj => if_pos (decide_eq_true (Nat.lt_of_not_le hj))
    rw [hone i hi, hone k hk] at hpair
    omega
  case isFalse => exact .inr ⟨hi, fun i => Vector.getElem_ofFn i.isLt⟩

variable {period keep d} (h : ∀ k : Fin 3, d[k] ≤ period)

include h in
theorem clampDuties_le (k : Fin 3) : (clampDuties period keep d)[k] ≤ period := by
  obtain ⟨e, -⟩ | ⟨hi, e⟩ := clampDuties_cases period keep d
  · rw [e]
    exact h k
  · rw [e]
    split <;> omega

theorem clampDuties_pair {i k : Fin 3} (hik : i ≠ k) :
    (clampDuties period keep d)[i] ≤ period - keep ∨ (clampDuties period keep d)[k] ≤ period - keep := by
  obtain ⟨e, hpair⟩ | ⟨hi, e⟩ := clampDuties_cases period keep d
  · rw [e]
    exact hpair i k hik
  · rw [e, e]
    by_cases hi' : i = hi
    · have hk : k ≠ hi := fun e => hik (hi'.trans e.symm)
      rw [if_neg hk]
      exact .inr (Nat.min_le_right _ _)
    · rw [if_neg hi']
      exact .inl (Nat.min_le_right _ _)

end Clamp

/-- Duties within a period of `n` counts, of which any two phases keep a low-side on-time of 116 counts in one. -/
structure DutiesWithin (n : Nat) (d : Vector Nat 3) : Prop where
  le : ∀ k : Fin 3, d[k] ≤ n
  pair : ∀ i k : Fin 3, i ≠ k → d[i] ≤ n - 116 ∨ d[k] ≤ n - 116

theorem dutiesWithin_zero (n : Nat) : DutiesWithin n (Vector.replicate 3 0) := by
  have hzero : ∀ (m : Nat) (k : Fin 3), (Vector.replicate 3 0)[k] ≤ m := fun m k =>
    (Vector.getElem_replicate k.isLt).trans_le (Nat.zero_le m)
  exact ⟨hzero n, fun i _ _ => .inl (hzero _ i)⟩

/-- Duties clamped and applied, whatever the current loop asks for. -/
theorem dutiesWithin_applied {n : Nat} (dt : Nat) {d : Vector Nat 3} (h : ∀ k : Fin 3, d[k] ≤ n) :
    DutiesWithin n ((clampDuties n (max (116 + dt) (2 * dt)) d).map (dutyApplied n dt)) := by
  have hmap : ∀ k : Fin 3, ((clampDuties n (max (116 + dt) (2 * dt)) d).map (dutyApplied n dt))[k] =
      dutyApplied n dt (clampDuties n (max (116 + dt) (2 * dt)) d)[k] := fun k => Vector.getElem_map _ k.isLt
  have hlow : ∀ k : Fin 3, (clampDuties n (max (116 + dt) (2 * dt)) d)[k] ≤ n - max (116 + dt) (2 * dt) →
      dutyApplied n dt (clampDuties n (max (116 + dt) (2 * dt)) d)[k] ≤ n - 116 := fun k hk =>
    Nat.le_trans (dutyApplied_le_sub hk (Nat.le_max_right _ _)) (by omega)
  refine ⟨fun k => ?_, fun i k hik => ?_⟩
  · rw [hmap]
    exact dutyApplied_le (clampDuties_le h k) dt
  · rw [hmap, hmap]
    exact (clampDuties_pair hik).imp (hlow i) (hlow k)

theorem State.nextDuties_within (s : State) : DutiesWithin s.pwmPeriod s.nextDuties.drive.m0.duty := by
  unfold State.nextDuties
  extract_lets m n dt d
  split
  case isTrue =>
    have hd : ∀ k, d k ≤ n := fun k => Nat.lt_succ_iff.mp (Nat.mod_lt _ (Nat.succ_pos n))
    refine dutiesWithin_applied dt fun k => ?_
    match k with
    | 0 => exact hd 0
    | 1 => exact hd 1
    | 2 => exact hd 2
  case isFalse => exact dutiesWithin_zero _

@[simp] theorem State.nextDuties_current (s : State) : s.nextDuties.drive.m0.current = s.drive.m0.current := by
  unfold State.nextDuties
  extract_lets m n dt d
  split <;> rfl

end Sys2Proof.Machine
end
section
/-! SUPPORT. Hardware faults and PWM periods of M0 (11_drive.md, R289, R290, R294), and the commands of M0's events. -/

namespace Sys2Proof.Machine

/-! ### A hardware fault (R294) -/

/-- At most DRIVE.M0_FAULT and what is detected differ, among the registers and in M0. -/
structure State.FaultsAs (s t : State) : Prop where
  stored : t.Stored
  regs : s.sameRegsBut t [Reg.DRIVE_M0_FAULT]
  m0 : ∃ d, t.drive.m0 = { s.drive.m0 with detected := d }

theorem State.FaultsAs.refl {s : State} (h : s.Stored) : s.FaultsAs s := ⟨h, fun _ _ => rfl, _, rfl⟩

theorem State.FaultsAs.trans {s t u : State} (h : s.FaultsAs t) (h' : t.FaultsAs u) : s.FaultsAs u := by
  obtain ⟨d, e⟩ := h.m0
  obtain ⟨d', e'⟩ := h'.m0
  exact ⟨h'.stored, fun a ha => (h'.regs a ha).trans (h.regs a ha), d', by rw [e', e]⟩

theorem State.m0Seen_effect {s : State} (h : s.Stored) {kind : Nat} (hkind : kind < 16) (phase side : Nat) :
    s.FaultsAs (s.m0Seen kind phase side) ∧ (s.m0Seen kind phase side).flag Reg.DRIVE_M0_FAULT (15 + kind) = true := by
  have hset := h.setFlag Reg.DRIVE_M0_FAULT (15 + kind) true
  have hother : ∀ a, a ∉ [Reg.DRIVE_M0_FAULT] →
      (s.setFlag Reg.DRIVE_M0_FAULT (15 + kind) true).reg a = s.reg a := fun a ha =>
    State.reg_setReg_other h _ (List.ne_of_not_mem_cons ha)
  have hflag := State.flag_setFlag_self h Reg.DRIVE_M0_FAULT true (show 15 + kind < 32 by omega)
  unfold State.m0Seen
  dsimp only
  split
  case isTrue first =>
    exact ⟨⟨hset.setFld _ _ _ _, fun a ha => (State.reg_setReg_other hset _ (List.ne_of_not_mem_cons ha)).trans (hother a ha),
      _, rfl⟩, (State.flag_setFld_other hset _ (.inr (by omega))).trans hflag⟩
  case isFalse => exact ⟨⟨hset, hother, _, rfl⟩, hflag⟩

/-- What a fault detected holds at once. -/
structure State.Detected (t : State) (kind : Nat) : Prop where
  flag : t.flag Reg.DRIVE_M0_FAULT (15 + kind) = true
  gates : t.m0Gates = .low
  detected : t.drive.m0.detected ≠ none

theorem State.m0Gates_of_detected {s : State} (h : s.drive.m0.detected ≠ none) : s.m0Gates = .low := by
  unfold State.m0Gates
  exact if_pos (by simp [Option.isSome_iff_ne_none.mpr h])

theorem State.m0Detect_effect {s : State} (h : s.Stored) {kind : Nat} (hkind : kind < 16) (phase side : Nat) :
    s.FaultsAs (s.m0Detect kind phase side) ∧ (s.m0Detect kind phase side).Detected kind := by
  obtain ⟨hseen, hflag⟩ := State.m0Seen_effect h hkind phase side
  obtain ⟨d, hm0⟩ := hseen.m0
  unfold State.m0Detect
  extract_lets u
  split
  case h_1 x hsome =>
    have hdetected : u.drive.m0.detected ≠ none := hsome ▸ Option.some_ne_none x
    exact ⟨hseen, hflag, State.m0Gates_of_detected hdetected, hdetected⟩
  case h_2 =>
    have hdetected : (u.setM0 { u.drive.m0 with detected := some (kind, u.ptNow) }).drive.m0.detected ≠ none :=
      Option.some_ne_none _
    exact ⟨⟨hseen.stored.congr rfl rfl rfl, hseen.regs, some (kind, u.ptNow), congrArg (fun m : M0 =>
      { m with detected := some (kind, u.ptNow) }) hm0⟩, hflag, State.m0Gates_of_detected hdetected, hdetected⟩

theorem State.m0HwFault_faultsAs {s : State} (h : s.Stored) (f : M0HwFault) : s.FaultsAs (s.m0HwFault f) := by
  have hdetect : ∀ (c : Prop) [Decidable c] (kind phase side : Nat), kind < 16 →
      s.FaultsAs (if c then s.m0Detect kind phase side else s) := by
    intro c _ kind phase side hkind
    split
    case isTrue => exact (State.m0Detect_effect h hkind phase side).1
    case isFalse => exact .refl h
  unfold State.m0HwFault
  split
  case isTrue => exact .refl h
  case isFalse =>
    cases f with
    | vdsOc p low => exact hdetect _ 1 _ _ (by decide)
    | shuntOc p => exact hdetect _ 2 _ _ (by decide)
    | vgdUv => exact hdetect _ 3 _ _ (by decide)
    | bstUv p => exact hdetect _ 4 _ _ (by decide)

section HwFault

variable {s : State} (hruns : s.m0Runs = true) (hst : s.drive.m0.st ≠ .fault)
include hruns hst

theorem State.m0HwFault_vdsOc {p : Fin 3} {low : Bool} (hon : s.m0Side p low = true) :
    s.m0HwFault (.vdsOc p low) = s.m0Detect 1 p (b2n low) := by simp [State.m0HwFault, hruns, hst, hon]

theorem State.m0HwFault_shuntOc (p : Fin 3) (hon : s.m0Conducts = true) :
    s.m0HwFault (.shuntOc p) = s.m0Detect 2 p 1 := by simp [State.m0HwFault, hruns, hst, hon]

theorem State.m0HwFault_vgdUv (hon : s.drive.m0.st ≠ .stopped) : s.m0HwFault .vgdUv = s.m0Detect 3 3 0 := by
  simp [State.m0HwFault, hruns, hst, hon]

theorem State.m0HwFault_bstUv {p : Fin 3} (hon : s.m0Side p false = true) :
    s.m0HwFault (.bstUv p) = s.m0Detect 4 p 0 := by simp [State.m0HwFault, hruns, hst, hon]

end HwFault

/-- A hardware fault recorded under a kind, as its command answers it. -/
theorem exec_m0HwFault_detected {s : State} (h : s.Stored) {f : M0HwFault} {kind phase side : Nat} (hkind : kind < 16)
    (e : s.m0HwFault f = s.m0Detect kind phase side) : ∃ t, exec (.m0HwFault f) s = .next t ∧
      t.flag Reg.DRIVE_M0_FAULT (15 + kind) = true ∧ t.m0Gates = .low ∧ t.drive.m0.detected ≠ none := by
  obtain ⟨hflag, hgates, hdetected⟩ := (State.m0Detect_effect h hkind phase side).2
  exact ⟨_, congrArg Host.Outcome.next e, hflag, hgates, hdetected⟩

/-! ### A PWM period (R289, R290) -/

/-- The currents of the period and the count of bad Hall periods. -/
def State.pwmMeasured (s : State) (x : M0Pwm) : State :=
  s.setM0 { s.drive.m0 with
    current := pwmCurrents (unsampled s.drive.m0.duty x.left) x.i1.toInt x.i2.toInt,
    hallRun := nextHallRun s.drive.m0 (s.m0Halls && (x.hall = 0 || x.hall = 7 || x.jump)) }

theorem State.pwmTick_eq (s : State) (x : M0Pwm) : s.pwmTick x =
    ((s.pwmMeasured x).shuntCheck (unsampled s.drive.m0.duty x.left) x.i1.toInt x.i2.toInt).nextDuties := rfl

theorem State.shuntCheck_faultsAs {s : State} (h : s.Stored) (left : Fin 3) (a b : Int) : s.FaultsAs (s.shuntCheck left a b) := by
  have hcheck : ∀ (c : Prop) [Decidable c] (t : State) (f : M0HwFault), s.FaultsAs t →
      s.FaultsAs (if c then t.m0HwFault f else t) := by
    intro c _ t f ht
    split
    case isTrue => exact ht.trans (State.m0HwFault_faultsAs ht.stored f)
    case isFalse => exact ht
  exact hcheck _ _ _ (hcheck _ _ _ (.refl h))

theorem State.pwmTick_effect {s : State} (h : s.Stored) (x : M0Pwm) :
    (s.pwmTick x).drive.m0.current = pwmCurrents (unsampled s.drive.m0.duty x.left) x.i1.toInt x.i2.toInt ∧
      DutiesWithin s.pwmPeriod (s.pwmTick x).drive.m0.duty := by
  obtain ⟨-, hregs, d, hm0⟩ := State.shuntCheck_faultsAs (s := s.pwmMeasured x) (h.congr rfl rfl rfl)
    (unsampled s.drive.m0.duty x.left) x.i1.toInt x.i2.toInt
  have hperiod : State.pwmPeriod (State.shuntCheck (s.pwmMeasured x) (unsampled s.drive.m0.duty x.left) x.i1.toInt x.i2.toInt) =
      s.pwmPeriod := congrArg (96000 / ·) (State.fld_congr (hregs Reg.DRIVE_M0_PWM (by decide)) 6 0)
  rw [State.pwmTick_eq, State.nextDuties_current, hm0, ← hperiod]
  exact ⟨rfl, State.nextDuties_within _⟩

/-! ### The obligation -/

theorem exec_m0DecisionPoint_of_runs {s : State} (h : s.m0Runs = true) (x : M0Meas) :
    exec (.m0DecisionPoint x) s = .next (s.m0Point x) := congrArg Host.Outcome.next (if_pos h)

theorem exec_m0PwmPeriod_of_runs {s : State} (h : s.m0Runs = true) (x : M0Pwm) :
    exec (.m0PwmPeriod x) s = .next (s.pwmTick x) := congrArg Host.Outcome.next (if_pos h)

/-- Settles O32: the row of each command, then what its operation leaves. -/
theorem motorEvents : Obligations.MotorEvents := by
  refine fun s h hruns => ⟨fun x => ?shows, fun x hdetected hstart hoff hhall hlock hspeed hst => ?coasts,
    fun x hst => ⟨fun kind p hdetected => ?detected, fun hdetected hhalls hrun => ?hall⟩, fun x => ?pwm,
    fun hst => ⟨fun p low hon => ?vds, fun p hon => ?shunt, fun p hon => ?bst, fun hon => ?vgd⟩⟩
  case shows => exact ⟨_, exec_m0DecisionPoint_of_runs hruns x, State.m0Point_shows h x⟩
  case coasts =>
    exact ⟨_, exec_m0DecisionPoint_of_runs hruns x, State.m0Point_off h x hdetected hstart hoff hhall hlock hspeed hst⟩
  case detected =>
    obtain ⟨-, hfault, hkind, hnode⟩ := State.m0Point_detected h x hst hdetected
    exact ⟨_, exec_m0DecisionPoint_of_runs hruns x, hfault, hkind, hnode⟩
  case hall =>
    obtain ⟨-, hfault, hkind, hnode⟩ := State.m0Point_hall h x hst hdetected hhalls hrun
    exact ⟨_, exec_m0DecisionPoint_of_runs hruns x, hfault, hkind, hnode⟩
  case pwm =>
    obtain ⟨hcurrent, hle, hpair⟩ := State.pwmTick_effect h x
    refine ⟨_, exec_m0PwmPeriod_of_runs hruns x, ⟨_, duty_le_unsampled s.drive.m0.duty x.left, hcurrent⟩, ?_, hle, hpair⟩
    rw [hcurrent]
    exact pwmCurrents_sum _ _ _
  case vds => exact exec_m0HwFault_detected h (kind := 1) (by decide) (State.m0HwFault_vdsOc hruns hst hon)
  case shunt => exact exec_m0HwFault_detected h (kind := 2) (by decide) (State.m0HwFault_shuntOc hruns hst p hon)
  case bst => exact exec_m0HwFault_detected h (kind := 4) (by decide) (State.m0HwFault_bstUv hruns hst hon)
  case vgd => exact exec_m0HwFault_detected h (kind := 3) (by decide) (State.m0HwFault_vgdUv hruns hst hon)

end Sys2Proof.Machine
end

section
/-! SUPPORT. The fan channels' shared operations (11_drive.md, R302 to R304; 12_thermal.md, R320 to R326): what each leaves of the
channel, of its status registers and of the rest, and what decides that a channel starts. -/

namespace Sys2Proof.Machine

/-! ### The channel after each operation -/

@[simp] theorem State.setFan_fan_self (s : State) (n : Fin 3) (x : Fan) : (s.setFan n x).drive.fan[n] = x :=
  Vector.getElem_set_self n.isLt

@[simp] theorem State.postFan_drive (s : State) (n : Fin 3) (kind : Nat) : (s.postFan n kind).drive = s.drive :=
  State.post_drive _ _ _ _

@[simp] theorem State.postFan_reg (s : State) (n : Fin 3) (kind a : Nat) : (s.postFan n kind).reg a = s.reg a :=
  State.post_reg _ _ _ _ _

@[simp] theorem State.postFan_hedge (s : State) (n : Fin 3) (kind : Nat) : (s.postFan n kind).hedge = s.hedge :=
  State.post_hedge _ _ _ _

@[simp] theorem State.fanWarnClear_drive (s : State) (n : Fin 3) (b : Nat) : (s.fanWarnClear n b).drive = s.drive := by
  unfold State.fanWarnClear
  split
  case isTrue => exact State.postFan_drive _ _ _
  case isFalse => rfl

/-- The channel in a state entered, beside its registers. -/
theorem State.fanTo_drive (s : State) (n : Fin 3) (st : FanState) : (s.fanTo n st).drive = (s.setFan n
    (if st = .starting then { s.drive.fan[n] with st := st, startPt := s.ptNow, retryDue := false }
      else { s.drive.fan[n] with st := st })).drive := by
  unfold State.fanTo
  extract_lets f old u v
  have hv : v.drive = u.drive := by
    dsimp only [v]
    split <;> rfl
  split
  case isTrue => rw [State.fanWarnClear_drive, State.fanWarnClear_drive, hv]
  case isFalse => exact hv

theorem State.fanTo_starting_fan (s : State) (n : Fin 3) : (s.fanTo n .starting).drive.fan[n] =
    { s.drive.fan[n] with st := .starting, startPt := s.ptNow, retryDue := false } := by
  rw [State.fanTo_drive, State.setFan_fan_self, if_pos rfl]

theorem State.fanTo_fan (s : State) (n : Fin 3) {st : FanState} (hst : st ≠ .starting) :
    (s.fanTo n st).drive.fan[n] = { s.drive.fan[n] with st := st } := by
  rw [State.fanTo_drive, State.setFan_fan_self, if_neg hst]

/-- The end of a sequence leaves the channel outside of one. -/
theorem State.fanSeqEnd_fan (s : State) (n : Fin 3) (kind : Nat) : ∃ attempt due, (s.fanSeqEnd n kind).drive.fan[n] =
    { s.drive.fan[n] with seq := .none, attempt := attempt, retryDue := due } := by
  have hself : ∀ f : Fan, f.seq = .none → f = { f with seq := .none } := fun f hf => hf ▸ rfl
  unfold State.fanSeqEnd
  split
  case isTrue hnone => exact ⟨(s.drive.fan[n]).attempt, (s.drive.fan[n]).retryDue, hself _ hnone⟩
  case isFalse =>
    extract_lets u
    have hu : u.drive = s.drive := by
      dsimp only [u]
      split
      case isTrue => rfl
      case isFalse => exact State.postFan_drive _ _ _
    exact ⟨0, false, (State.setFan_fan_self _ _ _).trans (congrArg (fun d : Drive =>
      { d.fan[n] with seq := .none, attempt := 0, retryDue := false }) hu)⟩

theorem State.fanSeqEnd_seq (s : State) (n : Fin 3) (kind : Nat) : ((s.fanSeqEnd n kind).drive.fan[n]).seq = .none := by
  obtain ⟨attempt, due, e⟩ := s.fanSeqEnd_fan n kind
  rw [e]

theorem State.fanSeqEnd_st (s : State) (n : Fin 3) (kind : Nat) :
    ((s.fanSeqEnd n kind).drive.fan[n]).st = (s.drive.fan[n]).st := by
  obtain ⟨attempt, due, e⟩ := s.fanSeqEnd_fan n kind
  rw [e]

/-- A channel that follows its demand coasts where it runs unwanted, and a sequence of it is cancelled. -/
theorem State.fanFollow_st (s : State) (n : Fin 3) : ((s.fanFollow n).drive.fan[n]).st =
    if s.fanWanted n = false ∧ (s.drive.fan[n]).st = .running then .coasting else (s.drive.fan[n]).st := by
  unfold State.fanFollow
  by_cases hwanted : s.fanWanted n = true
  · simp [hwanted]
  · rw [if_neg hwanted, State.fanSeqEnd_st]
    by_cases hrun : (s.drive.fan[n]).st = .running
    · rw [if_pos hrun, State.fanTo_fan s n (by decide), if_pos ⟨by simpa using hwanted, hrun⟩]
    · rw [if_neg hrun, if_neg fun h => hrun h.2]

theorem State.fanFollow_seq {s : State} {n : Fin 3} (h : (s.drive.fan[n]).seq = .none) :
    ((s.fanFollow n).drive.fan[n]).seq = .none := by
  unfold State.fanFollow
  split
  case isTrue => exact h
  case isFalse => exact State.fanSeqEnd_seq _ _ _

/-! ### What the operations leave -/

theorem fanStatus_ne_fault (n : Fin 3) : Reg.DRIVE_FAN_STATUS n ≠ Reg.THERM_FAN_FSTATUS n := by
  dsimp only [Reg.DRIVE_FAN_STATUS, Reg.THERM_FAN_FSTATUS]
  omega

/-- Of the registers, the channel's two status registers alone may differ: in LIMIT of the one, and in the flags above the latched
faults of the other. The channel's override and its last TACH edge stand, and so does what decides whether it may start. -/
structure State.FanAs (s t : State) (n : Fin 3) : Prop where
  stored : t.Stored
  regs : s.sameRegsBut t [Reg.DRIVE_FAN_STATUS n, Reg.THERM_FAN_FSTATUS n]
  status : ∀ j, j ≠ 16 → t.flag (Reg.DRIVE_FAN_STATUS n) j = s.flag (Reg.DRIVE_FAN_STATUS n) j
  latches : t.fld (Reg.THERM_FAN_FSTATUS n) 2 0 = s.fld (Reg.THERM_FAN_FSTATUS n) 2 0
  dev : t.dev = s.dev
  time : t.time = s.time
  sup : t.sup = s.sup
  hedge : t.hedge = s.hedge
  ovr : (t.drive.fan[n]).ovr = (s.drive.fan[n]).ovr
  tachPt : (t.drive.fan[n]).tachPt = (s.drive.fan[n]).tachPt

theorem State.FanAs.refl {s : State} (h : s.Stored) (n : Fin 3) : s.FanAs s n :=
  ⟨h, fun _ _ => rfl, fun _ _ => rfl, rfl, rfl, rfl, rfl, rfl, rfl, rfl⟩

theorem State.FanAs.trans {s t u : State} {n : Fin 3} (h : s.FanAs t n) (h' : t.FanAs u n) : s.FanAs u n where
  stored := h'.stored
  regs a ha := (h'.regs a ha).trans (h.regs a ha)
  status j hj := (h'.status j hj).trans (h.status j hj)
  latches := h'.latches.trans h.latches
  dev := h'.dev.trans h.dev
  time := h'.time.trans h.time
  sup := h'.sup.trans h.sup
  hedge := h'.hedge.trans h.hedge
  ovr := h'.ovr.trans h.ovr
  tachPt := h'.tachPt.trans h.tachPt

section FanAs

variable {s t : State} {n : Fin 3} (h : s.FanAs t n)
include h

theorem State.FanAs.reg {a : Nat} (hstatus : a ≠ Reg.DRIVE_FAN_STATUS n) (hfault : a ≠ Reg.THERM_FAN_FSTATUS n) :
    t.reg a = s.reg a := h.regs a (by simp [hstatus, hfault])

theorem State.FanAs.setFan {x : Fan} (hovr : x.ovr = (t.drive.fan[n]).ovr := by exact rfl)
    (htach : x.tachPt = (t.drive.fan[n]).tachPt := by exact rfl) : s.FanAs (t.setFan n x) n where
  stored := h.stored.congr rfl rfl rfl
  regs := h.regs
  status := h.status
  latches := h.latches
  dev := h.dev
  time := h.time
  sup := h.sup
  hedge := h.hedge
  ovr := by rw [State.setFan_fan_self, hovr, h.ovr]
  tachPt := by rw [State.setFan_fan_self, htach, h.tachPt]

theorem State.FanAs.postFan (kind : Nat) : s.FanAs (t.postFan n kind) n where
  stored := h.stored.congr (State.post_regs _ _ _ _) (State.post_host _ _ _ _) (State.post_flash _ _ _ _)
  regs a ha := (State.postFan_reg t n kind a).trans (h.regs a ha)
  status j hj := (State.flag_congr (State.postFan_reg t n kind _) j).trans (h.status j hj)
  latches := (State.fld_congr (State.postFan_reg t n kind _) 2 0).trans h.latches
  dev := (State.post_dev _ _ _ _).trans h.dev
  time := (State.post_time _ _ _ _).trans h.time
  sup := (State.post_sup _ _ _ _).trans h.sup
  hedge := (State.postFan_hedge t n kind).trans h.hedge
  ovr := by rw [State.postFan_drive, h.ovr]
  tachPt := by rw [State.postFan_drive, h.tachPt]

/-- A status register stored, with its flags beside LIMIT and the latched faults as they stand. -/
theorem State.FanAs.setReg {a : Nat} {w : Word} (ha : a ∈ [Reg.DRIVE_FAN_STATUS n, Reg.THERM_FAN_FSTATUS n])
    (hstatus : ∀ j, j ≠ 16 → (t.setReg a w).flag (Reg.DRIVE_FAN_STATUS n) j = t.flag (Reg.DRIVE_FAN_STATUS n) j)
    (hlatches : (t.setReg a w).fld (Reg.THERM_FAN_FSTATUS n) 2 0 = t.fld (Reg.THERM_FAN_FSTATUS n) 2 0) :
    s.FanAs (t.setReg a w) n where
  stored := h.stored.setReg _ _
  regs b hb := (State.reg_setReg_other h.stored w (ne_of_mem_of_not_mem ha hb).symm).trans (h.regs b hb)
  status j hj := (hstatus j hj).trans (h.status j hj)
  latches := hlatches.trans h.latches
  dev := h.dev
  time := h.time
  sup := h.sup
  hedge := h.hedge
  ovr := h.ovr
  tachPt := h.tachPt

/-- LIMIT may change; another flag may be written as it stands. -/
theorem State.FanAs.setStatus {j : Nat} (hj : j < 32) {b : Bool} (hb : j = 16 ∨ t.flag (Reg.DRIVE_FAN_STATUS n) j = b) :
    s.FanAs (t.setFlag (Reg.DRIVE_FAN_STATUS n) j b) n := by
  refine h.setReg (by simp) (fun i hi => ?_)
    (State.fld_congr (State.reg_setReg_other h.stored _ (fanStatus_ne_fault n).symm) 2 0)
  by_cases hij : i = j
  · rw [hij]
    exact (State.flag_setFlag_self h.stored _ _ hj).trans (hb.resolve_left (hij ▸ hi)).symm
  · exact State.flag_setFlag_other h.stored _ (.inr hij)

/-- A warning, above the latched faults. -/
theorem State.FanAs.setWarning {j : Nat} (hj : 2 < j) (b : Bool) : s.FanAs (t.setFlag (Reg.THERM_FAN_FSTATUS n) j b) n :=
  h.setReg (by simp) (fun i _ => State.flag_congr (State.reg_setReg_other h.stored _ (fanStatus_ne_fault n)) i)
    (State.fld_setFld_other h.stored _ (.inr (.inl hj)))

theorem State.FanAs.ite {u : State} {c : Prop} [Decidable c] (hu : s.FanAs u n) : s.FanAs (if c then t else u) n := by
  split
  case isTrue => exact h
  case isFalse => exact hu

theorem State.FanAs.fanWarnClear {b : Nat} (hb : 2 < b) : s.FanAs (t.fanWarnClear n b) n :=
  ((h.setWarning hb false).postFan _).ite h

theorem State.FanAs.fanTo (st : FanState) : s.FanAs (t.fanTo n st) n := by
  unfold State.fanTo
  extract_lets f old u v
  have hu : s.FanAs u n := by
    dsimp only [u]
    split
    case isTrue => exact h.setFan
    case isFalse => exact h.setFan
  have hv : s.FanAs v n := hu.ite (hu.setStatus (by decide) (.inl rfl))
  exact ((hv.fanWarnClear (by decide)).fanWarnClear (by decide)).ite hv

theorem State.FanAs.fanSeqEnd (kind : Nat) : s.FanAs (t.fanSeqEnd n kind) n := by
  unfold State.fanSeqEnd
  extract_lets u
  have hu : s.FanAs u n := h.ite (h.postFan kind)
  exact h.ite hu.setFan

theorem State.FanAs.fanFollow : s.FanAs (t.fanFollow n) n :=
  h.ite (((h.fanTo .coasting).ite h).fanSeqEnd 10)

end FanAs

/-! ### What decides that a channel is on and may start (R303, R304) -/

theorem foldl_range_congr {α : Type} {m : Nat} {f g : α → Nat → α} (h : ∀ i < m, ∀ a, f a i = g a i) (a : α) :
    (List.range m).foldl f a = (List.range m).foldl g a :=
  List.foldl_ext _ _ _ fun a i hi => h i (List.mem_range.mp hi) a

/-- The registers of the zones and of the channel's configuration. -/
def fanSetup (n : Fin 3) (a : Nat) : Prop :=
  a = Reg.DRIVE_FAN_CFG n ∨ ∃ z < 8, a = Reg.THERM_ZONE_CFG z ∨ a = Reg.THERM_ZONE_STATUS z

/-- Whether a channel is on depends on the stage, on its override, and on those registers. -/
theorem State.fanWanted_congr {s t : State} {n : Fin 3} (hdev : t.dev = s.dev)
    (hovr : (t.drive.fan[n]).ovr = (s.drive.fan[n]).ovr) (hreg : ∀ a, fanSetup n a → t.reg a = s.reg a) :
    t.fanWanted n = s.fanWanted n := by
  have hcfg := hreg _ (.inl rfl)
  have hzoneCfg : ∀ z < 8, t.reg (Reg.THERM_ZONE_CFG z) = s.reg (Reg.THERM_ZONE_CFG z) := fun z hz =>
    hreg _ (.inr ⟨z, hz, .inl rfl⟩)
  have hzoneStatus : ∀ z < 8, t.reg (Reg.THERM_ZONE_STATUS z) = s.reg (Reg.THERM_ZONE_STATUS z) := fun z hz =>
    hreg _ (.inr ⟨z, hz, .inr rfl⟩)
  have hzone : ∀ z < 8, t.zoneOfFan n z = s.zoneOfFan n z := fun z hz => by
    unfold State.zoneOfFan State.zoneOn
    rw [State.flag_congr (hzoneCfg z hz), State.flag_congr (hzoneCfg z hz)]
  have hdemand : t.zoneDemand n = s.zoneDemand n := foldl_range_congr (fun z hz d => by
    rw [hzone z hz, State.fld_congr (hzoneStatus z hz)]) 0
  have halarm : t.zoneAlarm n = s.zoneAlarm n := any_range_congr fun z hz => by
    rw [hzone z hz, State.fld_congr (hzoneStatus z hz)]
  have htherm : t.thermDemand n = s.thermDemand n := by
    unfold State.thermDemand
    rw [hovr, hdemand, halarm]
  unfold State.fanWanted State.fanOn State.offBelow State.fanDemand
  rw [State.flag_congr hcfg, State.fld_congr hcfg, State.fld_congr hcfg, htherm, hdev]

theorem fanSetup_ne {n : Fin 3} {a : Nat} (h : fanSetup n a) : a ≠ Reg.DRIVE_FAN_STATUS n ∧ a ≠ Reg.DRIVE_FAN_MEAS n ∧
    a ≠ Reg.DRIVE_FAN_SUPPLY n ∧ a ≠ Reg.THERM_FAN_FSTATUS n := by
  obtain rfl | ⟨z, hz, rfl | rfl⟩ := h
  all_goals
    dsimp only [Reg.DRIVE_FAN_CFG, Reg.THERM_ZONE_CFG, Reg.THERM_ZONE_STATUS, Reg.DRIVE_FAN_STATUS, Reg.DRIVE_FAN_MEAS,
      Reg.DRIVE_FAN_SUPPLY, Reg.THERM_FAN_FSTATUS]
    omega

/-- Whether a channel may start depends beside that on time, supervision, the Hedge, VFAN_LOW and the latched faults. -/
theorem State.fanMayStart_congr {s t : State} {n : Fin 3} (hdev : t.dev = s.dev) (htime : t.time = s.time) (hsup : t.sup = s.sup)
    (hhedge : t.hedge = s.hedge) (hovr : (t.drive.fan[n]).ovr = (s.drive.fan[n]).ovr)
    (hreg : s.sameRegsBut t [Reg.DRIVE_FAN_STATUS n, Reg.THERM_FAN_FSTATUS n])
    (hlow : t.flag (Reg.DRIVE_FAN_STATUS n) 20 = s.flag (Reg.DRIVE_FAN_STATUS n) 20)
    (hlatches : t.fld (Reg.THERM_FAN_FSTATUS n) 2 0 = s.fld (Reg.THERM_FAN_FSTATUS n) 2 0) :
    t.fanMayStart n = s.fanMayStart n := by
  have hother : ∀ a, a ≠ Reg.DRIVE_FAN_STATUS n → a ≠ Reg.THERM_FAN_FSTATUS n → t.reg a = s.reg a :=
    fun a hstatus hfault => hreg a (by simp [hstatus, hfault])
  have hsetup : ∀ a, fanSetup n a → t.reg a = s.reg a := fun a ha =>
    have ⟨hstatus, _, _, hfault⟩ := fanSetup_ne ha
    hother a hstatus hfault
  have hact : t.act (2 + n) = s.act (2 + n) := State.act_congr hhedge (hother _ (by
    dsimp only [Reg.HEDGE_SLEEP_ACTIONS, Reg.DRIVE_FAN_STATUS]; omega) (by
    dsimp only [Reg.HEDGE_SLEEP_ACTIONS, Reg.THERM_FAN_FSTATUS]; omega)) _
  have hunusable : t.flag Reg.BIST_UNUSABLE n = s.flag Reg.BIST_UNUSABLE n := State.flag_congr (hother _ (by
    dsimp only [Reg.BIST_UNUSABLE, Reg.DRIVE_FAN_STATUS]; omega) (by
    dsimp only [Reg.BIST_UNUSABLE, Reg.THERM_FAN_FSTATUS]; omega)) _
  unfold State.fanMayStart State.fanRuns State.fanOn State.asleep State.fanHeld State.fanLatched
  rw [State.flag_congr (hsetup _ (.inl rfl)), hact, hunusable, State.fanWanted_congr hdev hovr hsetup, hlow, hlatches, hdev,
    htime, hsup, hhedge]

theorem State.FanAs.fanWanted {s t : State} {n : Fin 3} (h : s.FanAs t n) : t.fanWanted n = s.fanWanted n :=
  State.fanWanted_congr h.dev h.ovr fun _ ha =>
    have ⟨hstatus, _, _, hfault⟩ := fanSetup_ne ha
    h.reg hstatus hfault

theorem State.FanAs.fanMayStart {s t : State} {n : Fin 3} (h : s.FanAs t n) : t.fanMayStart n = s.fanMayStart n :=
  State.fanMayStart_congr h.dev h.time h.sup h.hedge h.ovr h.regs (h.status 20 (by decide)) h.latches

end Sys2Proof.Machine
end
section
/-! SUPPORT. The events of a fan channel (11_drive.md, R302, R304, R305; 12_thermal.md, R322 to R326): what an event measures, and
what each event leaves where it applies. -/

namespace Sys2Proof.Machine

/-! ### The measurements of an event (R302, R304) -/

section FanMeas

variable {s : State} (h : s.Stored) (n : Fin 3) (x : FanMeas)

@[simp] theorem State.fanMeas_time (s : State) : (s.fanMeas n x).time = s.time := rfl

/-- The phase current amplitude of a driven channel is at I_LIM. -/
def State.fanLimited (s : State) (n : Fin 3) (x : FanMeas) : Bool :=
  [FanState.starting, .running].contains (s.drive.fan[n]).st &&
    decide (10 * s.fld (Reg.DRIVE_FAN_START n) 23 16 ≤ x.ma.toNat)

/-- The speed and the supply measured. -/
def State.fanShown (s : State) (n : Fin 3) (x : FanMeas) : State :=
  (s.setFld (Reg.DRIVE_FAN_MEAS n) 15 0 x.obs.toNat).setReg (Reg.DRIVE_FAN_SUPPLY n) (pack [(x.ma.toNat, 0), (x.vfan.toNat, 16)])

theorem State.fanMeas_eq (s : State) : s.fanMeas n x = ((s.fanShown n x).setFlag (Reg.DRIVE_FAN_STATUS n) 16
    ((s.fanShown n x).fanLimited n x)).setFlag (Reg.DRIVE_FAN_STATUS n) 20 (decide (x.vfan.toNat < 4500)) := rfl

include h

theorem State.fanShown_stored : (s.fanShown n x).Stored := (h.setFld _ _ _ _).setReg _ _

theorem State.fanShown_reg {a : Nat} (hmeas : a ≠ Reg.DRIVE_FAN_MEAS n) (hsupply : a ≠ Reg.DRIVE_FAN_SUPPLY n) :
    (s.fanShown n x).reg a = s.reg a :=
  (State.reg_setReg_other (h.setFld _ _ _ _) _ hsupply).trans (State.reg_setReg_other h _ hmeas)

theorem State.fanMeas_stored : (s.fanMeas n x).Stored := ((State.fanShown_stored h n x).setFlag _ _ _).setFlag _ _ _

theorem State.fanMeas_reg {a : Nat} (hstatus : a ≠ Reg.DRIVE_FAN_STATUS n) (hmeas : a ≠ Reg.DRIVE_FAN_MEAS n)
    (hsupply : a ≠ Reg.DRIVE_FAN_SUPPLY n) : (s.fanMeas n x).reg a = s.reg a :=
  have hshown := State.fanShown_stored h n x
  (State.reg_setReg_other (hshown.setFlag _ _ _) _ hstatus).trans
    ((State.reg_setReg_other hshown _ hstatus).trans (State.fanShown_reg h n x hmeas hsupply))

theorem State.fanMeas_vfanLow : (s.fanMeas n x).flag (Reg.DRIVE_FAN_STATUS n) 20 = decide (x.vfan.toNat < 4500) :=
  State.flag_setFlag_self ((State.fanShown_stored h n x).setFlag _ _ _) _ _ (by decide)

theorem State.fanMeas_status {j : Nat} (hlimit : j ≠ 16) (hlow : j ≠ 20) :
    (s.fanMeas n x).flag (Reg.DRIVE_FAN_STATUS n) j = s.flag (Reg.DRIVE_FAN_STATUS n) j := by
  have hshown := State.fanShown_stored h n x
  refine (State.flag_setFlag_other (hshown.setFlag _ _ _) _ (.inr hlow)).trans ?_
  refine (State.flag_setFlag_other hshown _ (.inr hlimit)).trans (State.flag_congr (State.fanShown_reg h n x ?_ ?_) j)
  all_goals
    dsimp only [Reg.DRIVE_FAN_STATUS, Reg.DRIVE_FAN_MEAS, Reg.DRIVE_FAN_SUPPLY]
    omega

/-- LIMIT of a running channel shows the amplitude measured at I_LIM. -/
theorem State.fanMeas_limit (hst : (s.drive.fan[n]).st = .running) : (s.fanMeas n x).flag (Reg.DRIVE_FAN_STATUS n) 16 =
    decide (10 * s.fld (Reg.DRIVE_FAN_START n) 23 16 ≤ x.ma.toNat) := by
  have hshown := State.fanShown_stored h n x
  have hstart : (s.fanShown n x).reg (Reg.DRIVE_FAN_START n) = s.reg (Reg.DRIVE_FAN_START n) := by
    refine State.fanShown_reg h n x ?_ ?_
    all_goals
      dsimp only [Reg.DRIVE_FAN_START, Reg.DRIVE_FAN_MEAS, Reg.DRIVE_FAN_SUPPLY]
      omega
  have hlimited : (s.fanShown n x).fanLimited n x = decide (10 * s.fld (Reg.DRIVE_FAN_START n) 23 16 ≤ x.ma.toNat) := by
    unfold State.fanLimited
    rw [State.fld_congr hstart, show ((s.fanShown n x).drive.fan[n]).st = .running from hst]
    rfl
  rw [State.fanMeas_eq, State.flag_setFlag_other (hshown.setFlag _ _ _) _ (.inr (by decide)),
    State.flag_setFlag_self hshown _ _ (by decide), hlimited]

theorem State.fanMeas_fanWanted : (s.fanMeas n x).fanWanted n = s.fanWanted n :=
  State.fanWanted_congr rfl rfl fun _ ha =>
    have ⟨hstatus, hmeas, hsupply, _⟩ := fanSetup_ne ha
    State.fanMeas_reg h n x hstatus hmeas hsupply

/-- The registers of TIME and THERM are not measured. -/
theorem State.fanMeas_keeps_rest :
    Keeps (2 ^ (Part.block 2).num + 2 ^ (Part.block 10).num) s (s.fanMeas n x) :=
  State.fanMeas_keeps n x (by decide) (Keeps.refl h)

theorem State.fanMeas_therm {a : Nat} (ha : a / 4096 = 10) : (s.fanMeas n x).reg a = s.reg a :=
  (State.fanMeas_keeps_rest h n x).part (.block 10) (by decide) a ha

theorem State.fanMeas_cfg : (s.fanMeas n x).reg (Reg.DRIVE_FAN_CFG n) = s.reg (Reg.DRIVE_FAN_CFG n) :=
  have ⟨hstatus, hmeas, hsupply, _⟩ := fanSetup_ne (n := n) (.inl rfl)
  State.fanMeas_reg h n x hstatus hmeas hsupply

theorem State.fanMeas_ptNow : (s.fanMeas n x).ptNow = s.ptNow := by
  have htime := (State.fanMeas_keeps_rest h n x).part (.block 2) (by decide) Reg.TIME_STATUS (by decide)
  unfold State.ptNow State.sleepTicks
  rw [State.fld_congr htime, State.fanMeas_time]

end FanMeas

/-! ### An event of an enabled channel (R304, R324 (c)) -/

theorem State.vfanLow_eq (s : State) (n : Fin 3) : s.vfanLow n = (if [FanState.starting, .running].contains
    (s.drive.fan[n]).st then (s.setFlag (Reg.DRIVE_FAN_STATUS n) 20 true).fanTo n .coasting
      else s.setFlag (Reg.DRIVE_FAN_STATUS n) 20 true).fanSeqEnd n 10 := rfl

/-- VFAN below 4.5 V makes a driven channel coast, outside of a sequence. -/
theorem State.vfanLow_effect {s : State} (h : s.Stored) (n : Fin 3) :
    (s.setFlag (Reg.DRIVE_FAN_STATUS n) 20 true).FanAs (s.vfanLow n) n ∧ ((s.vfanLow n).drive.fan[n]).seq = .none ∧
      ((s.vfanLow n).drive.fan[n]).st = if (s.drive.fan[n]).st = .starting ∨ (s.drive.fan[n]).st = .running then .coasting
        else (s.drive.fan[n]).st := by
  have hset := State.FanAs.refl (h.setFlag (Reg.DRIVE_FAN_STATUS n) 20 true) n
  rw [State.vfanLow_eq]
  refine ⟨((hset.fanTo .coasting).ite hset).fanSeqEnd 10, State.fanSeqEnd_seq _ _ _, ?_⟩
  rw [State.fanSeqEnd_st]
  by_cases hdriven : (s.drive.fan[n]).st = .starting ∨ (s.drive.fan[n]).st = .running
  · rw [if_pos hdriven, if_pos (by simpa using hdriven), State.fanTo_fan _ _ (by decide)]
  · rw [if_neg hdriven, if_neg (by simpa using hdriven)]
    rfl

/-- The state in which an event of an enabled channel takes its meaning: measured, and with what a low VFAN does first. -/
def State.fanSeen (s : State) (n : Fin 3) (x : FanMeas) : State :=
  if (s.fanMeas n x).flag (Reg.DRIVE_FAN_STATUS n) 20 then (s.fanMeas n x).vfanLow n else s.fanMeas n x

theorem State.fanEvent_of_runs {s : State} {n : Fin 3} (h : s.fanRuns n = true) (x : FanMeas) (k : State → State) :
    s.fanEvent n x k = k (s.fanSeen n x) := if_pos h

section FanSeen

variable {s : State} (h : s.Stored) (n : Fin 3) {x : FanMeas}
include h

theorem State.fanSeen_of_good (hv : 4500 ≤ x.vfan.toNat) : s.fanSeen n x = s.fanMeas n x :=
  if_neg (by rw [State.fanMeas_vfanLow h]; simpa using hv)

theorem State.fanSeen_of_low (hv : x.vfan.toNat < 4500) : s.fanSeen n x = (s.fanMeas n x).vfanLow n :=
  if_pos (by rw [State.fanMeas_vfanLow h]; exact decide_eq_true hv)

variable (x)

/-- A low VFAN is shown before it acts. -/
theorem State.fanSeen_fanAs : (s.fanMeas n x).FanAs (s.fanSeen n x) n := by
  have hmeas := State.fanMeas_stored h n x
  by_cases hv : x.vfan.toNat < 4500
  · obtain ⟨hlow, -, -⟩ := State.vfanLow_effect hmeas n
    have hshown : (s.fanMeas n x).FanAs ((s.fanMeas n x).setFlag (Reg.DRIVE_FAN_STATUS n) 20 true) n :=
      (State.FanAs.refl hmeas n).setStatus (by decide) (.inr (by rw [State.fanMeas_vfanLow h]; exact decide_eq_true hv))
    rw [State.fanSeen_of_low h n hv]
    exact hshown.trans hlow
  · rw [State.fanSeen_of_good h n (Nat.le_of_not_lt hv)]
    exact .refl hmeas n

/-- In either case the channel's fault latches, its last TACH edge and its configuration are as before the event. -/
theorem State.fanSeen_latches : (s.fanSeen n x).fld (Reg.THERM_FAN_FSTATUS n) 2 0 = s.fld (Reg.THERM_FAN_FSTATUS n) 2 0 :=
  (State.fanSeen_fanAs h n x).latches.trans (State.fld_congr (State.fanMeas_therm h n x (by
    dsimp only [Reg.THERM_FAN_FSTATUS]; omega)) 2 0)

theorem State.fanSeen_cfg : (s.fanSeen n x).reg (Reg.DRIVE_FAN_CFG n) = s.reg (Reg.DRIVE_FAN_CFG n) :=
  have ⟨hstatus, _, _, hfault⟩ := fanSetup_ne (n := n) (.inl rfl)
  ((State.fanSeen_fanAs h n x).reg hstatus hfault).trans (State.fanMeas_cfg h n x)

theorem State.fanSeen_ptNow : (s.fanSeen n x).ptNow = s.ptNow := by
  have hseen := State.fanSeen_fanAs h n x
  have hreg : (s.fanSeen n x).reg Reg.TIME_STATUS = (s.fanMeas n x).reg Reg.TIME_STATUS := by
    refine hseen.reg ?_ ?_
    all_goals
      dsimp only [Reg.TIME_STATUS, Reg.DRIVE_FAN_STATUS, Reg.THERM_FAN_FSTATUS]
      omega
  rw [← State.fanMeas_ptNow h n x]
  unfold State.ptNow State.sleepTicks
  rw [State.fld_congr hreg, hseen.time]

end FanSeen

/-! ### Starts and attempts (R304, R322, R323) -/

theorem State.fanStart_st {s : State} {n : Fin 3} (hmay : s.fanMayStart n = true) (hst : (s.drive.fan[n]).st = .stopped)
    (hseq : (s.drive.fan[n]).seq = .none) : ((s.fanStart n).drive.fan[n]).st = .starting := by
  have e : s.fanStart n = (s.setFlag (Reg.DRIVE_FAN_STATUS n) 18 false).fanTo n .starting := by
    unfold State.fanStart
    dsimp only
    rw [hmay, hst, hseq]
    rfl
  rw [e, State.fanTo_starting_fan]

theorem State.fanAttempt_effect {s : State} {n : Fin 3} (hmay : s.fanMayStart n = true) (hst : (s.drive.fan[n]).st = .stopped)
    (hseq : (s.drive.fan[n]).seq ≠ .none) : ((s.fanAttempt n).drive.fan[n]).st = .starting ∧
      ((s.fanAttempt n).drive.fan[n]).attempt = (s.drive.fan[n]).attempt + 1 := by
  have e : s.fanAttempt n = (s.setFan n { s.drive.fan[n] with attempt := (s.drive.fan[n]).attempt + 1 }).fanTo n .starting := by
    exact if_pos (by rw [hmay, decide_eq_true hst, decide_eq_true hseq]; rfl)
  rw [e, State.fanTo_starting_fan, State.setFan_fan_self]
  exact ⟨rfl, rfl⟩

theorem State.fanRetry_of_stopped {s : State} {n : Fin 3} (hst : (s.drive.fan[n]).st = .stopped) :
    s.fanRetry n = s.fanAttempt n := if_neg (by rw [hst]; simp)

/-- An attempt that comes due while the fan coasts waits for the end of the coasting. -/
theorem State.fanRetry_of_coasting {s : State} {n : Fin 3} (hst : (s.drive.fan[n]).st = .coasting)
    (hseq : (s.drive.fan[n]).seq ≠ .none) : s.fanRetry n = s.setFan n { s.drive.fan[n] with retryDue := true } :=
  if_pos (by rw [decide_eq_true hst, decide_eq_true hseq]; rfl)

/-- The channel stops, its rotor no longer tracked. -/
def State.fanAtRest (s : State) (n : Fin 3) : State := (s.setFlag (Reg.DRIVE_FAN_STATUS n) 18 false).fanTo n .stopped

theorem State.fanCoastEnd_of_not_due {s : State} {n : Fin 3} (hst : (s.drive.fan[n]).st = .coasting)
    (hdue : (s.drive.fan[n]).retryDue = false) : s.fanCoastEnd n = s.fanAtRest n :=
  (if_pos hst).trans (if_neg (by rw [hdue]; decide))

theorem State.fanCoastEnd_of_due {s : State} {n : Fin 3} (hst : (s.drive.fan[n]).st = .coasting)
    (hdue : (s.drive.fan[n]).retryDue = true) : s.fanCoastEnd n = (s.fanAtRest n).fanAttempt n :=
  (if_pos hst).trans (if_pos hdue)

section FanAtRest

variable {s : State} (h : s.Stored) (n : Fin 3)

theorem State.fanAtRest_fan : (s.fanAtRest n).drive.fan[n] = { s.drive.fan[n] with st := .stopped } :=
  State.fanTo_fan _ n (by decide)

include h

theorem State.fanAtRest_fanAs : (s.setFlag (Reg.DRIVE_FAN_STATUS n) 18 false).FanAs (s.fanAtRest n) n :=
  (State.FanAs.refl (h.setFlag _ _ _) n).fanTo .stopped

theorem State.fanAtRest_lock : (s.fanAtRest n).flag (Reg.DRIVE_FAN_STATUS n) 18 = false :=
  ((State.fanAtRest_fanAs h n).status 18 (by decide)).trans (State.flag_setFlag_self h _ _ (by decide))

/-- LOCK decides no start. -/
theorem State.fanMayStart_setLock (b : Bool) : (s.setFlag (Reg.DRIVE_FAN_STATUS n) 18 b).fanMayStart n = s.fanMayStart n :=
  State.fanMayStart_congr rfl rfl rfl rfl rfl (fun _ ha => State.reg_setReg_other h _ (List.ne_of_not_mem_cons ha))
    (State.flag_setFlag_other h _ (.inr (by decide)))
    (State.fld_congr (State.reg_setReg_other h _ (fanStatus_ne_fault n).symm) 2 0)

theorem State.fanAtRest_mayStart : (s.fanAtRest n).fanMayStart n = s.fanMayStart n :=
  (State.fanAtRest_fanAs h n).fanMayStart.trans (State.fanMayStart_setLock h n false)

end FanAtRest

/-! ### A lock (R304, R322) -/

/-- The rotor is locked, and a sequence has ended. -/
def State.fanLockTaken (s : State) (n : Fin 3) : State :=
  ((s.setFlag (Reg.DRIVE_FAN_STATUS n) 18 true).fanTo n .running).fanSeqEnd n 9

theorem State.fanLocked_eq {s : State} {n : Fin 3} (hst : (s.drive.fan[n]).st = .starting) :
    s.fanLocked n = (s.fanLockTaken n).fanFollow n := if_pos hst

theorem State.fanLocked_effect {s : State} (h : s.Stored) {n : Fin 3} (hst : (s.drive.fan[n]).st = .starting) :
    ((s.fanLocked n).drive.fan[n]).st = (if s.fanWanted n then .running else .coasting) ∧
      ((s.fanLocked n).drive.fan[n]).seq = .none := by
  have hset := h.setFlag (Reg.DRIVE_FAN_STATUS n) 18 true
  have hwanted : (s.fanLockTaken n).fanWanted n = s.fanWanted n :=
    (((State.FanAs.refl hset n).fanTo .running).fanSeqEnd 9).fanWanted.trans
      (State.fanWanted_congr rfl rfl fun _ ha =>
        have ⟨hstatus, _, _, _⟩ := fanSetup_ne ha
        State.reg_setReg_other h _ hstatus)
  have hrun : ((s.fanLockTaken n).drive.fan[n]).st = .running := by
    unfold State.fanLockTaken
    rw [State.fanSeqEnd_st, State.fanTo_fan _ _ (by decide)]
  rw [State.fanLocked_eq hst]
  refine ⟨?_, State.fanFollow_seq (State.fanSeqEnd_seq _ _ _)⟩
  rw [State.fanFollow_st, hwanted, hrun]
  cases s.fanWanted n <;> rfl

/-! ### A start that fails (R322, R323) -/

theorem fanCount_ne (n : Fin 3) : Reg.THERM_FAN_FCNT n ≠ Reg.DRIVE_FAN_STATUS n ∧
    Reg.THERM_FAN_FCNT n ≠ Reg.THERM_FAN_FSTATUS n := by
  dsimp only [Reg.THERM_FAN_FCNT, Reg.DRIVE_FAN_STATUS, Reg.THERM_FAN_FSTATUS]
  omega

/-- The counts of a channel are none of its status registers. -/
theorem State.FanAs.count {s t : State} {n : Fin 3} (h : s.FanAs t n) :
    t.reg (Reg.THERM_FAN_FCNT n) = s.reg (Reg.THERM_FAN_FCNT n) :=
  have ⟨hstatus, hfault⟩ := fanCount_ne n
  h.reg hstatus hfault

/-- Nodes 85 to 87 carry no built-in response. -/
theorem State.fanNode_eq (s : State) (n : Fin 3) :
    s.fanNode n = { s with hedge.nodes := setBit128 s.hedge.nodes (85 + n) (s.fanLatched n) } :=
  s.setNode_of_between (by omega) (by omega) _

@[simp] theorem State.fanNode_drive (s : State) (n : Fin 3) : (s.fanNode n).drive = s.drive := by
  rw [State.fanNode_eq]

@[simp] theorem State.fanNode_reg (s : State) (n : Fin 3) (a : Nat) : (s.fanNode n).reg a = s.reg a := by
  rw [State.fanNode_eq]
  rfl

theorem State.Stored.fanNode {s : State} (h : s.Stored) (n : Fin 3) : (s.fanNode n).Stored := by
  rw [State.fanNode_eq]
  exact h.congr rfl rfl rfl

/-- A channel that has given up an attempt: stopped, its count as it is to be. -/
structure State.GivenUp (t : State) (n : Fin 3) (count : Word) : Prop where
  stored : t.Stored
  st : (t.drive.fan[n]).st = .stopped
  count : t.reg (Reg.THERM_FAN_FCNT n) = count

section GivenUp

variable {t : State} {n : Fin 3} {count : Word} (h : t.GivenUp n count)
include h

theorem State.GivenUp.fanGiveUp (b kind : Nat) : (t.fanGiveUp n b kind).GivenUp n count := by
  have hnode := (h.stored.setFlag (Reg.THERM_FAN_FSTATUS n) b true).fanNode n
  have hended := ((State.FanAs.refl hnode n).postFan kind).fanSeqEnd 0
  have hst : ((t.fanGiveUp n b kind).drive.fan[n]).st = (t.drive.fan[n]).st := by
    unfold State.fanGiveUp
    rw [State.fanSeqEnd_st, State.postFan_drive, State.fanNode_drive, State.setFlag_drive]
  obtain ⟨-, hfault⟩ := fanCount_ne n
  exact ⟨hended.stored, hst.trans h.st,
    hended.count.trans ((State.fanNode_reg _ n _).trans ((State.reg_setReg_other h.stored _ hfault).trans h.count))⟩

theorem State.GivenUp.ite {u : State} {c : Prop} [Decidable c] (hu : u.GivenUp n count) :
    (if c then t else u : State).GivenUp n count := by
  split
  case isTrue => exact h
  case isFalse => exact hu

theorem State.GivenUp.fanFollow : (t.fanFollow n).GivenUp n count where
  stored := ((State.FanAs.refl h.stored n).fanFollow).stored
  st := by rw [State.fanFollow_st, h.st, if_neg (by simp)]
  count := ((State.FanAs.refl h.stored n).fanFollow).count.trans h.count

end GivenUp

theorem State.fanFail_givenUp {s : State} (h : s.Stored) (n : Fin 3) :
    (s.fanFail n).GivenUp n (satInc (s.reg (Reg.THERM_FAN_FCNT n)) 15 0) := by
  unfold State.fanFail
  extract_lets f u v w f' y
  have hu : s.FanAs u n := by
    dsimp only [u]
    split
    case isTrue => exact (State.FanAs.refl h n).setFan
    case isFalse => exact .refl h n
  have hstop := hu.fanTo .stopped
  have hv : v.GivenUp n (satInc (s.reg (Reg.THERM_FAN_FCNT n)) 15 0) :=
    ⟨hstop.stored.inc _ _ _, congrArg Fan.st (State.fanTo_fan u n (by decide)),
      (State.reg_inc hstop.stored _ _ _ _).trans ((if_pos rfl).trans (congrArg (satInc · 15 0) hstop.count))⟩
  have hw : w.GivenUp n (satInc (s.reg (Reg.THERM_FAN_FCNT n)) 15 0) :=
    ⟨((State.FanAs.refl hv.stored n).postFan 1).stored, by rw [State.postFan_drive]; exact hv.st,
      (State.postFan_reg v n 1 _).trans hv.count⟩
  exact ((hw.fanGiveUp 0 2).ite ((hw.fanGiveUp 1 8).ite hw)).fanFollow

/-! ### Loss of rotation (R323) -/

/-- The rotation lost: the channel coasts, and the loss is counted. -/
def State.fanSlipped (s : State) (n : Fin 3) : State :=
  (s.fanTo n .coasting).inc (Reg.THERM_FAN_FCNT n) 31 16

theorem State.fanLost_eq {s : State} {n : Fin 3} (hst : (s.drive.fan[n]).st = .running) : s.fanLost n =
    (((s.setFlag (Reg.DRIVE_FAN_STATUS n) 18 false).fanSlipped n).setFan n
      { ((s.setFlag (Reg.DRIVE_FAN_STATUS n) 18 false).fanSlipped n).drive.fan[n] with seq := .stall, attempt := 0 }).postFan
        n 7 := if_pos (decide_eq_true hst)

theorem State.fanSlipped_effect {s : State} (h : s.Stored) (n : Fin 3) :
    (s.fanSlipped n).drive.fan[n] = { s.drive.fan[n] with st := .coasting } ∧
      (s.fanSlipped n).flag (Reg.DRIVE_FAN_STATUS n) 18 = s.flag (Reg.DRIVE_FAN_STATUS n) 18 ∧
      (s.fanSlipped n).reg (Reg.THERM_FAN_FCNT n) = satInc (s.reg (Reg.THERM_FAN_FCNT n)) 31 16 := by
  have hcoast := (State.FanAs.refl h n).fanTo .coasting
  obtain ⟨hstatus, -⟩ := fanCount_ne n
  exact ⟨State.fanTo_fan s n (by decide),
    (State.flag_congr (State.reg_setReg_other hcoast.stored _ hstatus.symm) 18).trans (hcoast.status 18 (by decide)),
    (State.reg_inc hcoast.stored _ _ _ _).trans ((if_pos rfl).trans (congrArg (satInc · 31 16) hcoast.count))⟩

theorem State.fanLost_effect {s : State} (h : s.Stored) {n : Fin 3} (hst : (s.drive.fan[n]).st = .running) :
    ((s.fanLost n).drive.fan[n]).st = .coasting ∧ ((s.fanLost n).drive.fan[n]).seq = .stall ∧
      (s.fanLost n).flag (Reg.DRIVE_FAN_STATUS n) 18 = false ∧
      (s.fanLost n).reg (Reg.THERM_FAN_FCNT n) = satInc (s.reg (Reg.THERM_FAN_FCNT n)) 31 16 := by
  obtain ⟨hfan, hlock, hcount⟩ := State.fanSlipped_effect (h.setFlag (Reg.DRIVE_FAN_STATUS n) 18 false) n
  obtain ⟨hstatus, -⟩ := fanCount_ne n
  rw [State.fanLost_eq hst, State.postFan_drive, State.setFan_fan_self, hfan, State.postFan_reg,
    State.flag_congr (State.postFan_reg _ n 7 _)]
  exact ⟨rfl, rfl, hlock.trans (State.flag_setFlag_self h _ _ (by decide)),
    hcount.trans (congrArg (satInc · 31 16) (State.reg_setReg_other h _ hstatus))⟩

/-! ### Warnings (R326) -/

theorem State.fanWarnClear_flag {s : State} (h : s.Stored) (n : Fin 3) {b : Nat} (hb : b < 32) :
    (s.fanWarnClear n b).flag (Reg.THERM_FAN_FSTATUS n) b = false := by
  unfold State.fanWarnClear
  split
  case isTrue => exact (State.flag_congr (State.postFan_reg _ n _ _) b).trans (State.flag_setFlag_self h _ _ hb)
  case isFalse hclear => exact Bool.eq_false_iff.mpr hclear

/-- A warning leaves the other status register. -/
theorem State.warning_status {s : State} (h : s.Stored) (n : Fin 3) (b kind : Nat) (on : Bool) :
    ((s.setFlag (Reg.THERM_FAN_FSTATUS n) b on).postFan n kind).reg (Reg.DRIVE_FAN_STATUS n) =
      s.reg (Reg.DRIVE_FAN_STATUS n) :=
  (State.postFan_reg _ n kind _).trans (State.reg_setReg_other h _ (fanStatus_ne_fault n))

theorem State.fanWarnClear_status {s : State} (h : s.Stored) (n : Fin 3) (b : Nat) :
    (s.fanWarnClear n b).reg (Reg.DRIVE_FAN_STATUS n) = s.reg (Reg.DRIVE_FAN_STATUS n) := by
  unfold State.fanWarnClear
  split
  case isTrue => exact State.warning_status h n b _ false
  case isFalse => rfl

/-- The measured speed has lain below MIN_PCT of the ramped command. -/
def State.fanIsSlow (s : State) (n : Fin 3) (cmd : Nat) : Bool :=
  decide (100 * s.measured6 n < 6 * (s.fld (Reg.THERM_FAN_FCFG n) 6 0 * cmd))

theorem State.fanSlow_eq {s : State} {n : Fin 3} (hst : (s.drive.fan[n]).st = .running) (cmd : Nat) : s.fanSlow n cmd =
    if s.fanIsSlow n cmd && !s.flag (Reg.THERM_FAN_FSTATUS n) 3 then (s.setFlag (Reg.THERM_FAN_FSTATUS n) 3 true).postFan n 3
    else if s.fanIsSlow n cmd then s else s.fanWarnClear n 3 := if_neg (not_not_intro hst)

theorem State.fanSlow_effect {s : State} (h : s.Stored) {n : Fin 3} (hst : (s.drive.fan[n]).st = .running) (cmd : Nat) :
    (s.fanSlow n cmd).flag (Reg.THERM_FAN_FSTATUS n) 3 = s.fanIsSlow n cmd ∧
      (s.fanSlow n cmd).reg (Reg.DRIVE_FAN_STATUS n) = s.reg (Reg.DRIVE_FAN_STATUS n) := by
  rw [State.fanSlow_eq hst]
  cases hslow : s.fanIsSlow n cmd with
  | false => exact ⟨State.fanWarnClear_flag h n (by decide), State.fanWarnClear_status h n 3⟩
  | true =>
    cases hset : s.flag (Reg.THERM_FAN_FSTATUS n) 3 with
    | false => exact ⟨(State.flag_congr (State.postFan_reg _ n 3 _) 3).trans (State.flag_setFlag_self h _ _ (by decide)),
        State.warning_status h n 3 3 true⟩
    | true => exact ⟨hset, rfl⟩

theorem State.tachLost_flag {s : State} (h : s.Stored) {n : Fin 3} (htach : s.fanTach n = true)
    (hst : (s.drive.fan[n]).st = .running) (hlock : s.flag (Reg.DRIVE_FAN_STATUS n) 18 = true) :
    (s.tachLost n).flag (Reg.THERM_FAN_FSTATUS n) 4 = true := by
  unfold State.tachLost State.fanLock
  rw [htach, decide_eq_true hst, hlock]
  cases hset : s.flag (Reg.THERM_FAN_FSTATUS n) 4 with
  | false =>
    have hreset : (s.setFan n { s.drive.fan[n] with tachGood := 0 }).Stored := h.congr rfl rfl rfl
    exact (State.flag_congr (State.postFan_reg _ n 5 _) 4).trans (State.flag_setFlag_self hreset _ _ (by decide))
  | true => exact hset

/-! ### A TACH edge (R326) -/

/-- The edge taken, and the speed of the interval since the one at `p`. -/
def State.tachShown (s : State) (n : Fin 3) (p : Time) (good : Nat) : State :=
  (s.setFan n { s.drive.fan[n] with tachPt := some s.ptNow, tachGood := good }).setFld (Reg.DRIVE_FAN_MEAS n) 31 16
    (satN 16 (60 * 96000000 / ((s.ptNow - p).toNat * s.fanPpr n)))

theorem State.tachEdge_of_first {s : State} {n : Fin 3} (hnone : (s.drive.fan[n]).tachPt = none) :
    s.tachEdge n = s.setFan n { s.drive.fan[n] with tachPt := some s.ptNow } := by
  unfold State.tachEdge
  dsimp only
  rw [hnone]

theorem State.tachEdge_of_next {s : State} {n : Fin 3} {p : Time} (hsome : (s.drive.fan[n]).tachPt = some p) :
    ∃ good, s.tachEdge n = if 8 ≤ good then (s.tachShown n p good).fanWarnClear n 4 else s.tachShown n p good := by
  refine ⟨if s.tachGoodIv n (s.ptNow - p).toNat then (s.drive.fan[n]).tachGood + 1 else 0, ?_⟩
  unfold State.tachEdge
  dsimp only
  rw [hsome]
  rfl

theorem State.tachShown_effect {s : State} (h : s.Stored) (n : Fin 3) (p : Time) (good : Nat) :
    (s.tachShown n p good).Stored ∧ ((s.tachShown n p good).drive.fan[n]).tachPt = some s.ptNow ∧
      (s.tachShown n p good).fld (Reg.DRIVE_FAN_MEAS n) 31 16 =
        satN 16 (60 * 96000000 / ((s.ptNow - p).toNat * s.fanPpr n)) := by
  have htaken : (s.setFan n { s.drive.fan[n] with tachPt := some s.ptNow, tachGood := good }).Stored := h.congr rfl rfl rfl
  refine ⟨htaken.setFld _ _ _ _, congrArg Fan.tachPt (State.setFan_fan_self s n _), ?_⟩
  refine (State.fld_setFld_self htaken _ _ (by decide) (by decide)).trans (Nat.mod_eq_of_lt ?_)
  exact Nat.lt_of_le_of_lt (Nat.min_le_right _ _) (by decide)

theorem State.tachEdge_effect {s : State} (h : s.Stored) (n : Fin 3) :
    ((s.tachEdge n).drive.fan[n]).tachPt = some s.ptNow ∧ ∀ p, (s.drive.fan[n]).tachPt = some p →
      (s.tachEdge n).fld (Reg.DRIVE_FAN_MEAS n) 31 16 =
        satN 16 (60 * 96000000 / ((s.ptNow - p).toNat * s.fanPpr n)) := by
  cases hpt : (s.drive.fan[n]).tachPt with
  | none =>
    rw [State.tachEdge_of_first hpt, State.setFan_fan_self]
    exact ⟨rfl, fun p hp => nomatch hp⟩
  | some p =>
    obtain ⟨good, e⟩ := State.tachEdge_of_next hpt
    obtain ⟨hst, htach, hspeed⟩ := State.tachShown_effect h n p good
    have hshown := State.FanAs.refl hst n
    have hclear : (s.tachShown n p good).FanAs (s.tachEdge n) n := by
      rw [e]
      exact (hshown.fanWarnClear (by decide)).ite hshown
    have hmeas := hclear.reg (a := Reg.DRIVE_FAN_MEAS n)
      (by dsimp only [Reg.DRIVE_FAN_MEAS, Reg.DRIVE_FAN_STATUS]; omega)
      (by dsimp only [Reg.DRIVE_FAN_MEAS, Reg.THERM_FAN_FSTATUS]; omega)
    refine ⟨hclear.tachPt.trans htach, fun q hq => ?_⟩
    obtain rfl := Option.some.inj hq
    exact (State.fld_congr hmeas 31 16).trans hspeed

/-! ### A bridge trip (R305, R324, R325) -/

/-- The bridge off, outside of a sequence. -/
def State.bridgeOff (s : State) (n : Fin 3) : State := (s.fanTo n .fault).fanSeqEnd n 0

/-- A new bridge fault shown in both status registers, with its cause. -/
def State.bridgeShown (s : State) (n : Fin 3) (overTemp : Bool) : State :=
  ((s.setFlag (Reg.THERM_FAN_FSTATUS n) 2 true).setFlag (Reg.DRIVE_FAN_STATUS n) 19 true).setFld (Reg.DRIVE_FAN_STATUS n) 22 21
    (1 + b2n overTemp)

theorem State.bridgeTrip_of_new {s : State} {n : Fin 3} (hnew : s.flag (Reg.THERM_FAN_FSTATUS n) 2 = false) (overTemp : Bool) :
    s.bridgeTrip n overTemp = (((s.bridgeOff n).bridgeShown n overTemp).fanNode n).postFan n 11 :=
  if_pos (by rw [hnew]; rfl)

theorem State.bridgeTrip_of_latched {s : State} {n : Fin 3} (hset : s.flag (Reg.THERM_FAN_FSTATUS n) 2 = true)
    (overTemp : Bool) : s.bridgeTrip n overTemp = s.bridgeOff n := if_neg (by rw [hset]; decide)

/-- BRIDGE_FAULT is one of the latched faults. -/
theorem State.bridgeFault_eq (s : State) (n : Fin 3) :
    s.flag (Reg.THERM_FAN_FSTATUS n) 2 = (s.fld (Reg.THERM_FAN_FSTATUS n) 2 0).testBit 2 := (testBit_wfld _ 2 0 2).symm

theorem State.fanLatched_of_bridgeFault {s : State} {n : Fin 3} (h : s.flag (Reg.THERM_FAN_FSTATUS n) 2 = true) :
    s.fanLatched n = true := by
  have hne : s.fld (Reg.THERM_FAN_FSTATUS n) 2 0 ≠ 0 := by
    intro hzero
    rw [State.bridgeFault_eq, hzero, Nat.zero_testBit] at h
    cases h
  unfold State.fanLatched
  rw [decide_eq_true hne, Bool.true_or]

theorem State.bridgeShown_flag {s : State} (h : s.Stored) (n : Fin 3) (overTemp : Bool) :
    (s.bridgeShown n overTemp).flag (Reg.THERM_FAN_FSTATUS n) 2 = true := by
  have hset := h.setFlag (Reg.THERM_FAN_FSTATUS n) 2 true
  have hne := (fanStatus_ne_fault n).symm
  exact (State.flag_setFld_other (hset.setFlag _ _ _) _ (.inl hne)).trans
    ((State.flag_setFlag_other hset _ (.inl hne)).trans (State.flag_setFlag_self h _ _ (by decide)))

theorem State.bridgeOff_fan (s : State) (n : Fin 3) :
    ((s.bridgeOff n).drive.fan[n]).st = .fault ∧ ((s.bridgeOff n).drive.fan[n]).seq = .none := by
  refine ⟨?_, State.fanSeqEnd_seq _ _ _⟩
  unfold State.bridgeOff
  rw [State.fanSeqEnd_st, State.fanTo_fan s n (by decide)]

theorem State.bridgeTrip_effect {s : State} (h : s.Stored) (n : Fin 3) (overTemp : Bool) :
    ((s.bridgeTrip n overTemp).drive.fan[n]).st = .fault ∧ ((s.bridgeTrip n overTemp).drive.fan[n]).seq = .none ∧
      (s.bridgeTrip n overTemp).flag (Reg.THERM_FAN_FSTATUS n) 2 = true ∧
      (s.flag (Reg.THERM_FAN_FSTATUS n) 2 = false → (s.bridgeTrip n overTemp).node (85 + n) = true) := by
  have hoff : s.FanAs (s.bridgeOff n) n := ((State.FanAs.refl h n).fanTo .fault).fanSeqEnd 0
  obtain ⟨hst, hseq⟩ := s.bridgeOff_fan n
  cases hset : s.flag (Reg.THERM_FAN_FSTATUS n) 2 with
  | true =>
    have hflag : (s.bridgeOff n).flag (Reg.THERM_FAN_FSTATUS n) 2 = true := by
      rw [State.bridgeFault_eq, hoff.latches, ← State.bridgeFault_eq, hset]
    rw [State.bridgeTrip_of_latched hset]
    exact ⟨hst, hseq, hflag, fun hclear => nomatch hclear⟩
  | false =>
    have hflag := State.bridgeShown_flag hoff.stored n overTemp
    have hnode : (((s.bridgeOff n).bridgeShown n overTemp).fanNode n).node (85 + n) = true :=
      (State.node_setNode_of_between _ (by omega) (by omega) _).trans (State.fanLatched_of_bridgeFault hflag)
    rw [State.bridgeTrip_of_new hset, State.postFan_drive, State.flag_congr (State.postFan_reg _ n 11 _),
      State.node_congr (State.postFan_hedge _ n 11), State.fanNode_drive, State.flag_congr (State.fanNode_reg _ n _)]
    exact ⟨hst, hseq, hflag, fun _ => hnode⟩

/-! ### The obligation -/

/-- An event of an enabled channel, answered with what it leaves. -/
theorem State.fanEvent_next {s : State} {n : Fin 3} (hruns : s.fanRuns n = true) {x : FanMeas} {k : State → State}
    {p : State → Prop} (hp : p (k (s.fanSeen n x))) :
    ∃ t, (Host.Outcome.next (s.fanEvent n x k) : Out) = .next t ∧ p t :=
  ⟨_, congrArg _ (State.fanEvent_of_runs hruns x k), hp⟩

section Rows

variable {s : State} (h : s.Stored) {n : Fin 3} (hruns : s.fanRuns n = true) {x : FanMeas}
include h hruns

/-- With VFAN at 4.5 V or more an event takes its meaning where it was measured. -/
theorem State.fanEvent_good (hgood : 4500 ≤ x.vfan.toNat) {k : State → State} {p : State → Prop}
    (hp : p (k (s.fanMeas n x))) : ∃ t, (Host.Outcome.next (s.fanEvent n x k) : Out) = .next t ∧ p t :=
  State.fanEvent_next hruns (by rwa [State.fanSeen_of_good h n hgood])

/-- With VFAN below 4.5 V it takes it after the channel has been switched off. -/
theorem State.fanEvent_low (hlow : x.vfan.toNat < 4500) {k : State → State} {p : State → Prop}
    (hp : p (k ((s.fanMeas n x).vfanLow n))) : ∃ t, (Host.Outcome.next (s.fanEvent n x k) : Out) = .next t ∧ p t :=
  State.fanEvent_next hruns (by rwa [State.fanSeen_of_low h n hlow])

end Rows

section Measured

variable {s : State} (h : s.Stored) {n : Fin 3} (x : FanMeas)
include h

theorem State.fanMeas_count : (s.fanMeas n x).reg (Reg.THERM_FAN_FCNT n) = s.reg (Reg.THERM_FAN_FCNT n) :=
  State.fanMeas_therm h n x (by dsimp only [Reg.THERM_FAN_FCNT]; omega)

theorem State.fanMeas_minPct : (s.fanMeas n x).fld (Reg.THERM_FAN_FCFG n) 6 0 = s.fld (Reg.THERM_FAN_FCFG n) 6 0 :=
  State.fld_congr (State.fanMeas_therm h n x (by dsimp only [Reg.THERM_FAN_FCFG]; omega)) 6 0

theorem State.fanMeas_fanTach : (s.fanMeas n x).fanTach n = s.fanTach n := State.flag_congr (State.fanMeas_cfg h n x) 30

/-- A driven channel whose VFAN is found low: it coasts, outside of a sequence, VFAN_LOW shown and nothing counted. -/
theorem State.fanMeas_vfanLow_effect (hdriven : (s.drive.fan[n]).st = .starting ∨ (s.drive.fan[n]).st = .running) :
    (((s.fanMeas n x).vfanLow n).drive.fan[n]).st = .coasting ∧ (((s.fanMeas n x).vfanLow n).drive.fan[n]).seq = .none ∧
      ((s.fanMeas n x).vfanLow n).flag (Reg.DRIVE_FAN_STATUS n) 20 = true ∧
      ((s.fanMeas n x).vfanLow n).reg (Reg.THERM_FAN_FCNT n) = s.reg (Reg.THERM_FAN_FCNT n) := by
  have hmeas := State.fanMeas_stored h n x
  obtain ⟨hlow, hseq, hst⟩ := State.vfanLow_effect hmeas n
  obtain ⟨hstatus, -⟩ := fanCount_ne n
  exact ⟨hst.trans (if_pos hdriven), hseq,
    (hlow.status 20 (by decide)).trans (State.flag_setFlag_self hmeas _ _ (by decide)),
    hlow.count.trans ((State.reg_setReg_other hmeas _ hstatus).trans (State.fanMeas_count h x))⟩

/-- Whether VFAN has been found low at the event before or not. -/
theorem State.fanSeen_vfanLow_st (hdriven : (s.drive.fan[n]).st = .starting ∨ (s.drive.fan[n]).st = .running) :
    (((s.fanSeen n x).vfanLow n).drive.fan[n]).st = .coasting := by
  obtain ⟨-, -, hst⟩ := State.vfanLow_effect (State.fanSeen_fanAs h n x).stored n
  rw [hst]
  by_cases hv : x.vfan.toNat < 4500
  · obtain ⟨hcoasting, -⟩ := State.fanMeas_vfanLow_effect h x hdriven
    rw [State.fanSeen_of_low h n hv, hcoasting]
    exact if_neg (by decide)
  · rw [State.fanSeen_of_good h n (Nat.le_of_not_lt hv)]
    exact if_pos hdriven

end Measured

/-- Settles O34: the events with VFAN at 4.5 V or more, by the state of the channel, those with VFAN below it, and those that act in
either case. What the model makes of TACH_RPM and of LIMIT is its log entry 61. -/
theorem fanEvents : Obligations.FanEvents := by
  refine fun s n x h hruns => ⟨fun hgood => ⟨fun hmay hst => ?stopped, fun hst => ?starting, fun hst => ?running,
    fun hst => ?coasting⟩, fun hdriven => ⟨?low, fun hlow => ?driven⟩, fun hot => ?trip, fun htach => ?tach⟩
  case stopped =>
    refine ⟨fun hseq => State.fanEvent_good h hruns hgood (State.fanStart_st hmay hst hseq),
      fun hseq => State.fanEvent_good h hruns hgood ?_⟩
    rw [State.fanRetry_of_stopped (s := s.fanMeas n x) hst]
    exact State.fanAttempt_effect hmay hst hseq
  case starting =>
    have hmeas := State.fanMeas_stored h n x
    have hfail := State.fanFail_givenUp hmeas n
    refine ⟨State.fanEvent_good h hruns hgood ?_, State.fanEvent_good h hruns hgood ?_⟩
    · rw [← State.fanMeas_fanWanted h n x]
      exact State.fanLocked_effect hmeas hst
    · have htimed : ((s.fanMeas n x).drive.fan[n]).st = .starting := hst
      rw [if_pos htimed, ← State.fanMeas_count h x]
      exact ⟨hfail.st, hfail.count⟩
  case running =>
    have hmeas := State.fanMeas_stored h n x
    refine ⟨State.fanEvent_good h hruns hgood ?_, fun cmd => State.fanEvent_good h hruns hgood ?_,
      fun htach hlock => State.fanEvent_good h hruns hgood ?_⟩
    · rw [← State.fanMeas_count h x]
      exact State.fanLost_effect hmeas hst
    · obtain ⟨hslow, hstatus⟩ := State.fanSlow_effect hmeas hst cmd.toNat
      rw [← State.fanMeas_minPct h x, ← State.fanMeas_limit h n x hst]
      exact ⟨hslow, State.flag_congr hstatus 16⟩
    · exact State.tachLost_flag hmeas ((State.fanMeas_fanTach h x).trans htach) hst
        ((State.fanMeas_status h n x (by decide) (by decide)).trans hlock)
  case coasting =>
    have hmeas := State.fanMeas_stored h n x
    have hrest := State.fanAtRest_fan (s := s.fanMeas n x) n
    refine ⟨fun hdue => State.fanEvent_good h hruns hgood ?_, fun hseq => ⟨State.fanEvent_good h hruns hgood ?_,
      fun hdue hmay => State.fanEvent_good h hruns hgood ?_⟩⟩
    · rw [State.fanCoastEnd_of_not_due (s := s.fanMeas n x) hst hdue]
      exact ⟨congrArg Fan.st hrest, State.fanAtRest_lock hmeas n⟩
    · rw [State.fanRetry_of_coasting (s := s.fanMeas n x) hst hseq, State.setFan_fan_self]
      exact ⟨rfl, hst⟩
    · rw [State.fanCoastEnd_of_due (s := s.fanMeas n x) hst hdue]
      obtain ⟨hstarting, hattempt⟩ := State.fanAttempt_effect (s := (s.fanMeas n x).fanAtRest n)
        ((State.fanAtRest_mayStart hmeas n).trans hmay) (congrArg Fan.st hrest) (by rw [hrest]; exact hseq)
      exact ⟨hstarting, hattempt.trans (congrArg (·.attempt + 1) hrest)⟩
  case low =>
    obtain ⟨hlow, hseq, -⟩ := State.vfanLow_effect (State.fanSeen_fanAs h n x).stored n
    exact State.fanEvent_next hruns ⟨State.fanSeen_vfanLow_st h x hdriven, hseq, (hlow.status 20 (by decide)).trans
      (State.flag_setFlag_self (State.fanSeen_fanAs h n x).stored _ _ (by decide))⟩
  case driven =>
    obtain ⟨hst, hseq, hflag, hcount⟩ := State.fanMeas_vfanLow_effect h x hdriven
    have hnot : (((s.fanMeas n x).vfanLow n).drive.fan[n]).st ≠ .starting := by rw [hst]; decide
    refine ⟨State.fanEvent_low h hruns hlow ?_, State.fanEvent_low h hruns hlow ?_⟩
    · rw [State.fanLocked, if_neg hnot]
      exact ⟨hst, hseq, hflag⟩
    · rw [if_neg hnot]
      exact ⟨hst, hseq, hcount⟩
  case trip =>
    have hseen := State.fanSeen_fanAs h n x
    obtain ⟨hst, hseq, hflag, hnode⟩ := State.bridgeTrip_effect hseen.stored n hot
    refine State.fanEvent_next hruns ⟨hst, hseq, hflag, fun hclear => hnode ?_⟩
    rw [State.bridgeFault_eq, State.fanSeen_latches h n x, ← State.bridgeFault_eq, hclear]
  case tach =>
    have hseen := State.fanSeen_fanAs h n x
    have hcfg := State.fanSeen_cfg h n x
    obtain ⟨hpt, hspeed⟩ := State.tachEdge_effect hseen.stored n
    have hppr : (s.fanSeen n x).fanPpr n = s.fanPpr n := congrArg (· + 1) (State.fld_congr hcfg 29 28)
    refine State.fanEvent_next hruns ?_
    have hused : (s.fanSeen n x).fanTach n = true := (State.flag_congr hcfg 30).trans htach
    rw [if_pos hused, ← State.fanSeen_ptNow h n x, ← hppr]
    exact ⟨hpt, fun p hp => hspeed p (hseen.tachPt.trans hp)⟩

end Sys2Proof.Machine
end

section
/-! SUPPORT. Delivery of event records (13_host_rings.md, R344, R346; 15_mailbox.md, R395; 01_planes.md, R26): one ring context or
port replaced, a record written to a stream ring or appended to a port's queue, and a held record dropped. -/

namespace Sys2Proof.Machine

/-! ### One context or port replaced -/

@[simp] theorem State.modCtx_ctx_self (s : State) (c : Fin 32) (f : Ctx → Ctx) : (s.modCtx c f).ring.ctx[c] = f s.ring.ctx[c] :=
  Vector.getElem_set_self c.isLt

theorem State.modCtx_ctx_other (s : State) {c d : Fin 32} (f : Ctx → Ctx) (h : d ≠ c) :
    (s.modCtx c f).ring.ctx[d] = s.ring.ctx[d] := Vector.getElem_set_ne c.isLt d.isLt fun e => h (Fin.ext e.symm)

/-- A context replaced by itself. -/
theorem State.modCtx_of_fixed {s : State} {c : Fin 32} {f : Ctx → Ctx} (h : f s.ring.ctx[c] = s.ring.ctx[c]) :
    s.modCtx c f = s := by
  have hctx : s.ring.ctx.set c (f s.ring.ctx[c]) = s.ring.ctx := by
    rw [h]
    exact Vector.set_getElem_self c.isLt
  unfold State.modCtx
  rw [hctx]

@[simp] theorem State.modPort_port_self (s : State) (p : Fin 4) (f : Port → Port) :
    (s.modPort p f).mbox.port[p] = f s.mbox.port[p] := Vector.getElem_set_self p.isLt

theorem State.modPort_port_other (s : State) {p q : Fin 4} (f : Port → Port) (h : q ≠ p) :
    (s.modPort p f).mbox.port[q] = s.mbox.port[q] := Vector.getElem_set_ne p.isLt q.isLt fun e => h (Fin.ext e.symm)

/-! ### The message of an entry (R354, R355) -/

/-- `t` is `s` but for what coalescing and messages write: the configuration of context `c`, its tail and its stream stand. -/
structure State.CtxAs (s t : State) (c : Fin 32) : Prop where
  stored : t.Stored
  cfg : t.reg (Reg.RING_CTX_CFG c) = s.reg (Reg.RING_CTX_CFG c)
  tail : (t.ring.ctx[c]).devTail = (s.ring.ctx[c]).devTail
  strm : (t.ring.ctx[c]).strm = (s.ring.ctx[c]).strm

theorem State.CtxAs.trans {s t u : State} {c : Fin 32} (h : s.CtxAs t c) (h' : t.CtxAs u c) : s.CtxAs u c :=
  ⟨h'.stored, h'.cfg.trans h.cfg, h'.tail.trans h.tail, h'.strm.trans h.strm⟩

/-- The number of coalesced entries is outside what `CtxAs` compares. -/
theorem State.modCtx_coal_ctxAs {s : State} (h : s.Stored) (c : Fin 32) (f : Ctx → Nat) :
    s.CtxAs (s.modCtx c fun x => { x with coal := f x }) c where
  stored := h.congr rfl rfl rfl
  cfg := State.modCtx_reg _ _ _ _
  tail := by rw [State.modCtx_ctx_self]
  strm := by rw [State.modCtx_ctx_self]

/-- A message leaves part 20, the rings, and part 32 + 11, the registers of RING. -/
theorem State.message_ctxAs {s : State} (h : s.Stored) (v : Nat) (c : Fin 32) : s.CtxAs (s.message v) c := by
  have hkeeps := State.message_keeps (K := 2 ^ 20 + 2 ^ 43) v (by decide) (Keeps.refl h)
  have hring : (s.message v).ring = s.ring := hkeeps.part .ring (by decide)
  have hregs : ∀ a, a / 4096 = 11 → (s.message v).reg a = s.reg a := hkeeps.part (.block 11) (by decide)
  exact ⟨hkeeps.stored, hregs _ (by simp only [Reg.RING_CTX_CFG]; omega), by rw [hring], by rw [hring]⟩

theorem State.countIrq_ctxAs {s : State} (h : s.Stored) (c : Fin 32) : s.CtxAs (s.countIrq (2 + c)) c := by
  unfold State.countIrq
  split
  case isTrue =>
    exact ⟨h.inc _ _ _, State.inc_sameRegsBut h _ _ _ _ (by simp), rfl, rfl⟩
  case isFalse => exact ⟨h, rfl, rfl, rfl⟩

theorem State.ctxMessage_ctxAs {s : State} (h : s.Stored) (c : Fin 32) : s.CtxAs (s.ctxMessage c) c := by
  have hcoal := State.modCtx_coal_ctxAs h c fun _ => 0
  unfold State.ctxMessage
  dsimp only
  split
  case isTrue =>
    have hcount := State.countIrq_ctxAs hcoal.stored c
    exact (hcoal.trans hcount).trans (State.message_ctxAs hcount.stored _ c)
  case isFalse => exact hcoal

theorem State.entryWritten_ctxAs {s : State} (h : s.Stored) (c : Fin 32) (alert : Bool) : s.CtxAs (s.entryWritten c alert) c := by
  have hcoal := State.modCtx_coal_ctxAs h c fun x => x.coal + 1
  unfold State.entryWritten
  dsimp only
  split
  case isTrue => exact hcoal.trans (State.ctxMessage_ctxAs hcoal.stored c)
  case isFalse => exact hcoal

/-! ### Records on a stream ring (R344, R346) -/

/-- `t` is `s` with `n` entries written at the tail of stream ring `c`: the tail and the sequence number have moved on by `n`, and
the records counted as lost are as before. -/
structure State.EntriesPut (s t : State) (c : Fin 32) (n : Nat) : Prop where
  stored : t.Stored
  cfg : t.reg (Reg.RING_CTX_CFG c) = s.reg (Reg.RING_CTX_CFG c)
  tail : (t.ring.ctx[c]).devTail % (2 * s.sqSize c) = ((s.ring.ctx[c]).devTail + n) % (2 * s.sqSize c)
  seq : (t.ring.ctx[c]).strm.seq = (s.ring.ctx[c]).strm.seq + BitVec.ofNat 16 n
  lost : (t.ring.ctx[c]).strm.lost = (s.ring.ctx[c]).strm.lost

theorem State.EntriesPut.trans {s t u : State} {c : Fin 32} {m n : Nat} (h : s.EntriesPut t c m) (h' : t.EntriesPut u c n) :
    s.EntriesPut u c (m + n) where
  stored := h'.stored
  cfg := h'.cfg.trans h.cfg
  tail := by
    have hsize : t.sqSize c = s.sqSize c := congrArg (2 ^ ·) (State.fld_congr h.cfg 23 20)
    rw [← hsize, h'.tail, hsize, Nat.add_mod, h.tail, ← Nat.add_mod, Nat.add_assoc]
  seq := by rw [h'.seq, h.seq, BitVec.add_assoc, BitVec.ofNat_add]
  lost := h'.lost.trans h.lost

/-- What messages write is no entry. -/
theorem State.EntriesPut.ctxAs {s t u : State} {c : Fin 32} {n : Nat} (h : s.EntriesPut t c n) (h' : t.CtxAs u c) :
    s.EntriesPut u c n where
  stored := h'.stored
  cfg := h'.cfg.trans h.cfg
  tail := by rw [h'.tail, h.tail]
  seq := by rw [h'.strm, h.seq]
  lost := by rw [h'.strm, h.lost]

theorem State.Stored.hostWrite {s : State} (h : s.Stored) (a : Nat) (l : List Byte) : (s.hostWrite a l).Stored :=
  ⟨h.regs, sparseSetRun_wf l h.host, h.lines⟩

theorem State.ringPut_entriesPut {s : State} (h : s.Stored) (c : Fin 32) (e : EvRec) : s.EntriesPut (s.ringPut c e) c 1 := by
  have hput : ∀ a l, s.EntriesPut ((s.hostWrite a l).modCtx c fun x =>
      { x with devTail := (x.devTail + 1) % (2 * s.sqSize c), strm := x.strm.wrote e.pt 1 }) c 1 := fun a l =>
    { stored := (h.hostWrite a l).congr rfl rfl rfl
      cfg := (State.modCtx_reg _ _ _ _).trans (State.hostWrite_reg _ _ _ _)
      tail := by rw [State.modCtx_ctx_self, State.hostWrite_ring, Nat.mod_mod]
      seq := by rw [State.modCtx_ctx_self, State.hostWrite_ring]; rfl
      lost := by rw [State.modCtx_ctx_self, State.hostWrite_ring]; rfl }
  exact (hput _ _).ctxAs (State.entryWritten_ctxAs (hput _ _).stored c e.alert)

/-- A record takes one entry, or two where an anchor precedes it (R75, R76). -/
theorem State.ringPutAnchored_entriesPut {s : State} (h : s.Stored) (c : Fin 32) (e : EvRec) :
    s.EntriesPut (s.ringPutAnchored c e) c (s.ringNeed c e.pt) := by
  unfold State.ringPutAnchored State.ringNeed
  split
  case isTrue anchored =>
    have hanchor := State.ringPut_entriesPut h c (anchorOf e)
    exact hanchor.trans (State.ringPut_entriesPut hanchor.stored c e)
  case isFalse => exact State.ringPut_entriesPut h c e

theorem State.ringFlushLost_of_none {s : State} {c : Fin 32} (h : (s.ring.ctx[c]).strm.lost = 0) : s.ringFlushLost c = s := by
  have hnone : (decide ((s.ring.ctx[c]).strm.lost = 0) || decide (s.ringFree c < 4)) = true := by rw [h]; rfl
  exact if_pos hnone

theorem State.ringOffer_of_room {s : State} {c : Fin 32} {e : EvRec} (hlost : (s.ring.ctx[c]).strm.lost = 0)
    (hroom : s.ringNeed c e.pt ≤ s.ringFree c) : s.ringOffer c e = s.ringPutAnchored c e := by
  unfold State.ringOffer
  dsimp only
  rw [State.ringFlushLost_of_none hlost, if_neg (not_not_intro hlost), if_pos hroom]

theorem State.ringOffer_of_full {s : State} {c : Fin 32} {e : EvRec} (hlost : (s.ring.ctx[c]).strm.lost = 0)
    (hfull : s.ringFree c < s.ringNeed c e.pt) : s.ringOffer c e = s.ringLose c (s.ringNeed c e.pt) 1 := by
  unfold State.ringOffer
  dsimp only
  rw [State.ringFlushLost_of_none hlost, if_neg (not_not_intro hlost), if_neg (Nat.not_le.mpr hfull)]

theorem State.ringLose_ctx_self (s : State) (c : Fin 32) (n cause : Nat) : (s.ringLose c n cause).ring.ctx[c] =
    { s.ring.ctx[c] with strm := (s.ring.ctx[c]).strm.lose n cause } := by
  rw [State.ringLose, State.incBy_ring, State.modCtx_ctx_self]

theorem State.ringLose_ctx_other (s : State) {c d : Fin 32} (n cause : Nat) (h : d ≠ c) :
    (s.ringLose c n cause).ring.ctx[d] = s.ring.ctx[d] := by
  rw [State.ringLose, State.incBy_ring, State.modCtx_ctx_other s _ h]

/-! ### The oldest record at a stream ring (R346) -/

section OfferCtx

variable {s : State} {c : Fin 32} {r : FabRec} {head : Nat} (hold : s.fabric.oldest c = some r)
  (hactive : (s.ring.ctx[c]).state = .active) (hstream : s.isStream c = true) (hlost : (s.ring.ctx[c]).strm.lost = 0)

include hold hactive hstream hlost

/-- With room the head that was read does not matter. -/
theorem State.offerCtx_of_room (hroom : s.ringNeed c r.ev.pt ≤ s.ringFree c) :
    s.offerCtx c head = (s.ringPutAnchored c r.ev).served c := by
  have hnotFull : ¬s.ringFree c < s.ringNeed c r.ev.pt := Nat.not_lt.mpr hroom
  simp [State.offerCtx, hold, hactive, hstream, hlost, hnotFull, State.ringOffer_of_room hlost hroom, -Fin.getElem_fin]

/-- Without room the head is read again; where it has not moved, the record is lost. -/
theorem State.offerCtx_of_full (hfull : s.ringFree c < s.ringNeed c r.ev.pt)
    (hgood : goodPair (s.sqSize c) (s.ring.ctx[c]).devTail head = true) (hhead : head = (s.ring.ctx[c]).hostHead) :
    s.offerCtx c head = (s.ringLose c (s.ringNeed c r.ev.pt) 1).served c := by
  have hsame : (s.modCtx c fun x => { x with hostHead := head }) = s := State.modCtx_of_fixed (by rw [hhead])
  simp [State.offerCtx, hold, hactive, hstream, hfull, hgood, hsame, State.ringOffer_of_full hlost hfull, -Fin.getElem_fin]

end OfferCtx

/-! ### Records in a port's queue (R395) -/

theorem Port.flushLost_of_none {q : Port} (h : q.strm.lost = 0) (detail est : Bool) (now : Time) :
    q.flushLost detail est now = q := by
  simp [Port.flushLost, h]

theorem Port.offer_of_room {q : Port} {e : EvRec} (hlost : q.strm.lost = 0) (hanchor : q.strm.needsAnchor e.pt = false)
    (hroom : q.evts.length < 16) (detail est : Bool) (now : Time) : q.offer detail est now e = q.put e := by
  have hone : 1 ≤ 16 - q.evts.length := by omega
  simp [Port.offer, Port.flushLost_of_none hlost, Port.putAnchored, hlost, hanchor, hone]

theorem Stream.lose_lost_ne_zero (t : Stream) {n : Nat} (h : 0 < n) (cause : Nat) : (t.lose n cause).lost ≠ 0 := by
  simp only [Stream.lose, satN]
  omega

theorem Port.offer_of_full {q : Port} (hlost : q.strm.lost = 0) (hfull : q.evts.length = 16) (detail est : Bool) (now : Time)
    (e : EvRec) : (q.offer detail est now e).evts = q.evts ∧ (q.offer detail est now e).strm.lost ≠ 0 := by
  have hneed : 0 < if q.strm.needsAnchor e.pt then 2 else 1 := by split <;> decide
  have hnoRoom : ¬(if q.strm.needsAnchor e.pt then 2 else 1) ≤ 16 - q.evts.length := by omega
  have hoffer : q.offer detail est now e = { q with strm := q.strm.lose (if q.strm.needsAnchor e.pt then 2 else 1) 1 } := by
    simp only [Port.offer, Port.flushLost_of_none hlost]
    rw [if_neg (not_not_intro hlost), if_neg hnoRoom]
  rw [hoffer]
  exact ⟨rfl, Stream.lose_lost_ne_zero _ hneed _⟩

/-- The port after the oldest record that owes it has been offered. -/
theorem State.offerPort_port {s : State} {p : Fin 4} {r : FabRec} (h : s.fabric.oldest (32 + p) = some r) :
    (s.offerPort p).mbox.port[p] = (s.mbox.port[p]).offer (s.flag Reg.DEV_FEAT1 3) (s.ptEst s.ptNow) s.ptNow r.ev := by
  unfold State.offerPort
  rw [h]
  dsimp only
  rw [State.served_mbox, State.modPort_port_self]

/-! ### A held record dropped (R26) -/

/-- A fold in which each index rewrites its own value alone rewrites every value once. -/
theorem foldl_finRange_each {n : Nat} {α : Type} {g : State → Fin n → α} {f : State → Fin n → State} {new : Fin n → α → α}
    (hf : ∀ u i j, g (f u i) j = if j = i then new i (g u i) else g u j) (s : State) (j : Fin n) :
    g ((List.finRange n).foldl f s) j = new j (g s j) :=
  foldl_of_once (P := fun u => g u j = g s j) (Q := fun u => g u j = new j (g s j))
    (fun u i hne hu => (hf u i j).trans ((if_neg hne.symm).trans hu))
    (fun u hu => (hf u j j).trans ((if_pos rfl).trans (congrArg _ hu)))
    (fun u i hne hu => (hf u i j).trans ((if_neg hne.symm).trans hu)) (List.nodup_finRange n) (List.mem_finRange j) rfl

/-- A record dropped is counted for the stream contexts that it still owes. -/
def State.dropFromRings (s : State) (r : FabRec) : State :=
  (List.finRange 32).foldl (fun s (c : Fin 32) => if r.todo.getLsbD c.val then s.ringLose c 1 2 else s) s

/-- A record dropped is counted for the ports that it still owes. -/
def State.dropFromPorts (s : State) (r : FabRec) : State :=
  (List.finRange 4).foldl (fun s (p : Fin 4) => if r.todo.getLsbD (32 + p.val) then
    s.modPort p fun q => { q with strm := q.strm.lose 1 2 } else s) s

theorem State.dropRecord_eq (s : State) (r : FabRec) : s.dropRecord r = (s.dropFromRings r).dropFromPorts r := rfl

theorem State.dropFromPorts_ring (s : State) (r : FabRec) : (s.dropFromPorts r).ring = s.ring :=
  List.foldlRecOn _ _ (motive := fun u : State => u.ring = s.ring) rfl fun u hu p _ => by
    rw [apply_ite State.ring, State.modPort_ring, ite_self, hu]

theorem State.dropFromRings_mbox (s : State) (r : FabRec) : (s.dropFromRings r).mbox = s.mbox :=
  List.foldlRecOn _ _ (motive := fun u : State => u.mbox = s.mbox) rfl fun u hu c _ => by
    rw [apply_ite State.mbox, State.ringLose, State.incBy_mbox, State.modCtx_mbox, ite_self, hu]

theorem State.dropFromRings_lost (s : State) (r : FabRec) (c : Fin 32) : ((s.dropFromRings r).ring.ctx[c]).strm.lost =
    if r.todo.getLsbD c then satN 32 ((s.ring.ctx[c]).strm.lost + 1) else (s.ring.ctx[c]).strm.lost := by
  refine foldl_finRange_each (g := fun (u : State) (c : Fin 32) => (u.ring.ctx[c]).strm.lost)
    (new := fun c n => if r.todo.getLsbD c then satN 32 (n + 1) else n) (fun u c d => ?_) s c
  rcases eq_or_ne d c with rfl | hne
  · rw [if_pos rfl]
    split
    case isTrue => rw [State.ringLose_ctx_self]; rfl
    case isFalse => rfl
  · rw [if_neg hne]
    split
    case isTrue => rw [State.ringLose_ctx_other u _ _ hne]
    case isFalse => rfl

theorem State.dropFromPorts_lost (s : State) (r : FabRec) (p : Fin 4) : ((s.dropFromPorts r).mbox.port[p]).strm.lost =
    if r.todo.getLsbD (32 + p) then satN 32 ((s.mbox.port[p]).strm.lost + 1) else (s.mbox.port[p]).strm.lost := by
  refine foldl_finRange_each (g := fun (u : State) (p : Fin 4) => (u.mbox.port[p]).strm.lost)
    (new := fun p n => if r.todo.getLsbD (32 + p) then satN 32 (n + 1) else n) (fun u p q => ?_) s p
  rcases eq_or_ne q p with rfl | hne
  · rw [if_pos rfl]
    split
    case isTrue => rw [State.modPort_port_self]; rfl
    case isFalse => rfl
  · rw [if_neg hne]
    split
    case isTrue => rw [State.modPort_port_other u _ hne]
    case isFalse => rfl

theorem State.dropRecord_fabric {s : State} (h : s.Stored) (r : FabRec) : (s.dropRecord r).fabric = s.fabric :=
  (State.dropRecord_keeps (K := 2 ^ 7) r (by decide) (Keeps.refl h)).part .fabric (by decide)

theorem State.holdTimeout_of_bound {s : State} (h : ∀ r ∈ s.fabric.held, r.todo.getLsbD 36 = true) : s.holdTimeout = s := by
  have hnone : (s.fabric.held.find? fun r => !r.todo.getLsbD 36) = none :=
    List.find?_eq_none.mpr fun r hr => by simp [h r hr]
  unfold State.holdTimeout
  rw [hnone]

theorem State.holdTimeout_of_found {s : State} (h : s.Stored) {r : FabRec}
    (hr : (s.fabric.held.find? fun r => !r.todo.getLsbD 36) = some r) : s.holdTimeout = { s.dropRecord r with
      fabric := admitHeld (s.fabric.held.eraseP fun r => !r.todo.getLsbD 36) { s.fabric with held := [] } } := by
  unfold State.holdTimeout
  rw [hr]
  dsimp only
  rw [State.dropRecord_fabric h]

/-! ### The obligation -/

theorem exec_streamRecordOffer_ctx {s : State} (h : s.frozen = false) (c : Fin 32) (head : BitVec 16) :
    exec (.streamRecordOffer (.ctx c) head) s = .next (s.offerCtx c head.toNat) :=
  congrArg Host.Outcome.next (if_neg (Bool.eq_false_iff.mp h))

theorem exec_streamRecordOffer_port (s : State) (p : Fin 4) (head : BitVec 16) :
    exec (.streamRecordOffer (.port p) head) s = .next (s.offerPort p) := rfl

theorem exec_fabricHoldTimeout (s : State) : exec .fabricHoldTimeout s = .next s.holdTimeout := rfl

/-- Settles O40, delivery going to whoever the record names (log entry 19): a ring with room by `ringPutAnchored_entriesPut`, a
full one by `ringLose_ctx_self`; a port by `Port.offer_of_room` and `Port.offer_of_full`; a held record by what `dropFromRings`
and `dropFromPorts` count. -/
theorem streamDelivery : Obligations.StreamDelivery := by
  intro s h
  refine ⟨fun c head r hthawed hold hactive hstream => ⟨fun hlost hroom => ?room, fun hlost hfull hgood hhead => ?full⟩,
    fun p r hold hlost => ⟨fun hanchor hroom => ⟨_, exec_streamRecordOffer_port s p 0, ?append⟩,
      fun hfull => ⟨_, exec_streamRecordOffer_port s p 0, ?overflow⟩⟩,
    fun hbound => ?bound, fun r hr => ⟨_, exec_fabricHoldTimeout s, ?dropped⟩⟩
  case room =>
    have hput := State.ringPutAnchored_entriesPut h c r.ev
    rw [exec_streamRecordOffer_ctx hthawed, State.offerCtx_of_room hold hactive hstream hlost hroom]
    exact ⟨_, rfl, hput.seq, hput.lost.trans hlost, hput.tail⟩
  case full =>
    rw [exec_streamRecordOffer_ctx hthawed, State.offerCtx_of_full hold hactive hstream hlost hfull hgood hhead]
    refine ⟨_, rfl, ?_⟩
    rw [State.served_ring, State.ringLose_ctx_self]
    exact ⟨by simp only [Stream.lose, hlost, Nat.zero_add], rfl⟩
  case append =>
    rw [State.offerPort_port hold, Port.offer_of_room hlost hanchor hroom]
    rfl
  case overflow =>
    rw [State.offerPort_port hold]
    exact Port.offer_of_full hlost hfull _ _ _ _
  case bound => rw [exec_fabricHoldTimeout, State.holdTimeout_of_bound hbound]
  case dropped =>
    rw [State.holdTimeout_of_found h hr]
    refine ⟨rfl, fun c => ?_, fun p => ?_⟩
    · dsimp only
      rw [State.dropRecord_eq, State.dropFromPorts_ring]
      exact State.dropFromRings_lost s r c
    · dsimp only
      rw [State.dropRecord_eq, State.dropFromPorts_lost, State.dropFromRings_mbox]

end Sys2Proof.Machine
end
